-- ==== Sys2Proof/Machine/Map.lean ====
section
/-! DEFINITION. Sparse tables: a list of key and value pairs in one canonical form, keys strictly rising and no entry
equal to what an unlisted key reads as. Every table of the machine (registers, memory granules, caches,
directories, harts) is held this way, so that equal tables are equal data. -/
namespace Sys2Proof.Machine

/-- A sparse table from numbers to values. -/
abbrev Map (V : Type) := List (Nat × V)

/-- The listed value at a key. -/
def Map.look {V : Type} : Map V → Nat → Option V
  | [], _ => none
  | (k', v) :: t, k => if k' = k then some v else Map.look t k

/-- What a key reads as: its listed value, or the default given. -/
def Map.get {V : Type} (m : Map V) (d : V) (k : Nat) : V :=
  match m.look k with
  | some v => v
  | none => d

/-- The table without a key. -/
def Map.erase {V : Type} : Map V → Nat → Map V
  | [], _ => []
  | (k', v) :: t, k => if k' = k then Map.erase t k else (k', v) :: Map.erase t k

/-- The table with a value listed at a key, at its place in the order. -/
def Map.put {V : Type} : Map V → Nat → V → Map V
  | [], k, v => [(k, v)]
  | (k', v') :: t, k, v =>
    if k' = k then (k, v) :: t
    else if k < k' then (k, v) :: (k', v') :: t
    else (k', v') :: Map.put t k v

/-- Write a value at a key; writing what an unlisted key reads as removes the entry. -/
def Map.set {V : Type} [DecidableEq V] (m : Map V) (d : V) (k : Nat) (v : V) : Map V :=
  if v = d then m.erase k else m.put k v

/-- Canonical form: keys strictly rising, no entry equal to the default of its key. -/
def Map.wf {V : Type} [DecidableEq V] (d : Nat → V) : Map V → Bool
  | [] => true
  | (k, v) :: t => decide (v ≠ d k) && t.all (fun e => decide (k < e.1)) && Map.wf d t

/-- The listed values, in key order. -/
def Map.vals {V : Type} (m : Map V) : List V := m.map (·.2)

end Sys2Proof.Machine
end

