-- ==== Sys2Proof/Word.lean ====
section
/-! DEFINITION. The word types of the model: 64-bit registers (R8), bytes, 64-byte sectors and 52-bit physical
addresses (R22). A sector keeps byte i at bits 8i+7 to 8i, as a data flit's payload does (R196). -/
namespace Sys2Proof

/-- A register or a hart's 64-bit value. -/
abbrev Word := BitVec 64

/-- A byte. -/
abbrev Byte := BitVec 8

/-- The 64 bytes of a sector, byte i at bits 8i+7 to 8i (R196). -/
abbrev Sector := BitVec 512

/-- A 64-bit word from a number, wrapping. -/
def w64 (n : Nat) : Word := BitVec.ofNat 64 n

end Sys2Proof
end

