-- ==== Sys2Proof/Machine/Topology.lean ====
section
/-! DEFINITION. The stop map (R14, R15), the physical address map (R22), the local interleave (R24), the home hash (R109),
the staging placement (R103), the agent IDs (R108) and the dimension-order routes (R166 to R168). Addresses here are numbers;
a sector number is PA[51:6] and a granule number is PA[51:7]. -/
namespace Sys2Proof.Machine

/-- The stops of the twelve memory ports, MP0 first (R14). -/
def mpStops : List Nat := [10, 30, 50, 100, 120, 140, 19, 39, 59, 109, 129, 149]

/-- The stops of the six annex ports (R14). -/
def axStops : List Nat := [2, 5, 7, 152, 155, 157]

/-- The stops of HP0 and HP1 (R14). -/
def hpStops : List Nat := [70, 80]

/-- The stops of DE0 and DE1 (R14). -/
def deStops : List Nat := [0, 159]

/-- The service complex (R14). -/
def svcStop : Nat := 79

/-- The debug and trace stop (R14). -/
def dbgStop : Nat := 89

/-- The 24 I/O stops (R14). -/
def ioStops : List Nat := mpStops ++ axStops ++ hpStops ++ deStops ++ [svcStop, dbgStop]

/-- Whether a stop is a core tile (R14). -/
def isTileStop (st : Nat) : Bool := decide (st < 160) && !ioStops.contains st

/-- The core tiles' stops in ascending order; the place in the list is the tile index (R15). -/
def tileStops : List Nat := (List.range 160).filter isTileStop

/-- The stop of a tile (R15). -/
def tileStop (t : Nat) : Nat := tileStops.getD t 0

/-- The tile index of a stop (R15). -/
def stopTile (st : Nat) : Option Nat := tileStops.findIdx? (· == st)

/-- The position of a memory port in `mpStops` for a stop, and so for the other blocks. -/
def stopMp (st : Nat) : Option Nat := mpStops.findIdx? (· == st)
def stopAx (st : Nat) : Option Nat := axStops.findIdx? (· == st)
def stopHp (st : Nat) : Option Nat := hpStops.findIdx? (· == st)
def stopDe (st : Nat) : Option Nat := deStops.findIdx? (· == st)

/-- Column and row of a stop. -/
def stopX (st : Nat) : Nat := st % 10
def stopY (st : Nat) : Nat := st / 10

/-- Where an address leads (R22). -/
inductive Region where
  | local
  | unmapped
  | depo (seg : Nat)
  | pcie (hp : Nat)
  | annexMmio (port : Nat)
  | control
  deriving DecidableEq, Repr

/-- The address map of R22, on a 52-bit address. -/
def region (pa : Nat) : Region :=
  let seg := pa / 2 ^ 48
  if seg = 0 then (if pa < 0x0_0100_0000_0000 then .local else .unmapped)
  else if seg ≤ 0xD then .depo seg
  else if seg = 0xE then .pcie (if pa % 2 ^ 48 < 0x8000_0000_0000 then 0 else 1)
  else if seg = 0xF then
    let o := pa % 2 ^ 48
    if o < 6 * 0x2800_0000_0000 then .annexMmio (o / 0x2800_0000_0000)
    else if o < 0xF000_0000_0000 then .unmapped
    else if o < 0xF000_2800_0000 then .control
    else .unmapped
  else .unmapped

/-- The base of device control space (R7). -/
def controlBase : Nat := 0xF_F000_0000_0000

/-- Exclusive or of numbers. -/
def xorNat (a b : Nat) : Nat := Nat.xor a b

/-- The port and the port-local granule of a local granule (R24). -/
def interleave (g : Nat) : Nat × Nat :=
  let grp := g % 3
  let h := g / 3
  let pr (i : Nat) : Nat := h / 4 ^ i % 4
  let sub := (List.range 8).foldl (fun a i => xorNat a (pr i)) 0
  (4 * grp + sub, h / 4)

/-- The granule of a port and port-local index: the inverse of `interleave` (R24 states it is one-to-one). -/
def deinterleave (port loc : Nat) : Nat :=
  let fold := (List.range 7).foldl (fun a i => xorNat a (loc / 4 ^ i % 4)) 0
  3 * (4 * loc + xorNat (port % 4) fold) + port / 4

/-- The 16-bit fold of a granule number (R109). -/
def homeFold (a : Nat) : Nat := xorNat (xorNat (a % 2 ^ 16) (a / 2 ^ 16 % 2 ^ 16)) (a / 2 ^ 32 % 2 ^ 13)

/-- The home slice of a granule (R109). -/
def homeSlice (a : Nat) : Nat := homeFold a % 136

/-- The LLC set of a granule (R109). -/
def llcSet (a : Nat) : Nat := xorNat (a % 1024) (a / 1024 % 1024)

/-- The directory set of a sector number (R109). -/
def dirSet (sec : Nat) : Nat := 1024 * (sec % 2) + llcSet (sec / 2)

/-- The staging placement of a granule: slice, set and way (R103). -/
def stagingPlace (g : Nat) : Nat × Nat × Nat :=
  let loc := g / 16
  (60 + g % 16, loc % 1024, loc / 1024)

/-- The end of the staging range (R103). -/
def stagingTop : Nat := 0x180_0000

/-- The agent ID of the caching agent at a stop and endpoint (R108, R198). -/
def agentId (st ep : Nat) : Option Nat :=
  match stopTile st with
  | some t => if ep < 2 then some (2 * t + ep) else none
  | none =>
    match stopAx st with
    | some k => if ep < 16 then some (272 + 16 * k + ep) else none
    | none => none

/-- The stop and endpoint of an agent ID (R108, R198). -/
def agentPlace (a : Nat) : Nat × Nat :=
  if a < 272 then (tileStop (a / 2), a % 2)
  else (axStops.getD ((a - 272) / 16) 0, (a - 272) % 16)

/-- The roster slot of a requester (R155). -/
def rosterSlot (st ep : Nat) : Nat :=
  match stopTile st with
  | some t => if ep = 1 then 2 * t + 1 else 2 * t
  | none =>
    match stopAx st with
    | some k => if ep < 16 then 272 + 16 * k + ep else 377 + k
    | none =>
      match stopDe st with
      | some d => 368 + d
      | none =>
        match stopHp st with
        | some h => 370 + h
        | none =>
          match stopMp st with
          | some m => 383 + m
          | none =>
            if st = svcStop then (if ep = 0 then 372 else if ep = 1 then 373 else if ep = 2 then 375 else 376)
            else 374

end Sys2Proof.Machine
end

