-- ==== Sys2Proof/Machine/Packets.lean ====
section
/-! DEFINITION. Fabric packets (R194 to R215): the header, the attribute fields of each message, the message opcodes and
the bits of control and data flits, and the route descriptor (R166 to R169). -/
namespace Sys2Proof.Machine

/-- A packet: the common header of R194 with ADDRESS and ATTR of a control flit (R195) or up to two payloads (R196). -/
structure Packet where
  opcode : BitVec 8 := 0
  tag : BitVec 12 := 0
  wid : BitVec 6 := 0
  src : BitVec 8 := 0
  dst : BitVec 8 := 0
  endpoint : BitVec 8 := 0
  route : BitVec 40 := 0
  poison : Bool := false
  epoch : Bool := false
  metered : Bool := false
  address : BitVec 46 := 0
  attr : BitVec 16 := 0
  payload : Sector := 0
  /-- The payload and poison of the second flit of a two-flit packet (R161, R196). -/
  payload2 : Sector := 0
  poison2 : Bool := false
  deriving DecidableEq, Repr

/-! The opcodes of R202 to R206. -/
namespace Opc
def readShared : BitVec 8 := 0x01
def readUnique : BitVec 8 := 0x02
def readOnce : BitVec 8 := 0x03
def cleanUnique : BitVec 8 := 0x04
def writeInvFull : BitVec 8 := 0x05
def writePartial : BitVec 8 := 0x06
def evictClean : BitVec 8 := 0x07
def writeBackDirty : BitVec 8 := 0x08
def writeBackOwned : BitVec 8 := 0x09
def specRelease : BitVec 8 := 0x0A
def specCancel : BitVec 8 := 0x0B
def memRead : BitVec 8 := 0x10
def memWrite : BitVec 8 := 0x11
def ioRead : BitVec 8 := 0x20
def ioWrite : BitVec 8 := 0x21
def snpShared : BitVec 8 := 0x40
def snpUnique : BitVec 8 := 0x42
def snpUniqueHome : BitVec 8 := 0x43
def snpInvalidate : BitVec 8 := 0x44
def snpClean : BitVec 8 := 0x46
def comp : BitVec 8 := 0x80
def dataPull : BitVec 8 := 0x81
def snpResp : BitVec 8 := 0x82
def compAck : BitVec 8 := 0x83
def retry : BitVec 8 := 0x84
def memAck : BitVec 8 := 0x85
def errResp : BitVec 8 := 0x86
def fenceReq : BitVec 8 := 0x60
def fenceAck : BitVec 8 := 0x61
def flip : BitVec 8 := 0x62
def meterCommit : BitVec 8 := 0x63
def agentFlush : BitVec 8 := 0x64
def agentFlushDone : BitVec 8 := 0x65
def mgtNotify : BitVec 8 := 0x66
def mgtErr : BitVec 8 := 0x67
/-- CompData with grant 0 I, 1 S, 2 E, 3 M (R205). -/
def compData (g : Nat) : BitVec 8 := BitVec.ofNat 8 (0xC0 + g % 4)
/-- DataFwd with the same grant coding (R205). -/
def dataFwd (g : Nat) : BitVec 8 := BitVec.ofNat 8 (0xC4 + g % 4)
def writeData : BitVec 8 := 0xC8
def writeDataMasked : BitVec 8 := 0xC9
def memData : BitVec 8 := 0xCA
def ioData : BitVec 8 := 0xCB
/-- SnpRespData with state 0 I, 1 S, 2 E, and whether DataFwd was also sent (R205). -/
def snpRespData (st : Nat) (fwd : Bool) : BitVec 8 := BitVec.ofNat 8 (0xD0 + st % 4 + (if fwd then 4 else 0))

/-- The opcodes that the packet chapter lists (R201 to R206). -/
def listed (o : BitVec 8) : Bool :=
  let n := o.toNat
  (decide (1 ≤ n) && decide (n ≤ 0xB)) || n == 0x10 || n == 0x11 || n == 0x20 || n == 0x21
    || [0x40, 0x42, 0x43, 0x44, 0x46].contains n || (decide (0x60 ≤ n) && decide (n ≤ 0x67))
    || (decide (0x80 ≤ n) && decide (n ≤ 0x86))
    || [0xC0, 0xC1, 0xC2, 0xC3, 0xC5, 0xC6, 0xC7, 0xC8, 0xC9, 0xCA, 0xCB, 0xD0, 0xD1, 0xD2, 0xD4, 0xD5, 0xD6].contains n
end Opc

/-- CLASS of an opcode: 0 REQ, 1 FWD, 2 RSP, 3 MGT, 4 DAT (R201). -/
def classOf (o : BitVec 8) : Nat :=
  let n := o.toNat
  if n < 0x40 then 0 else if n < 0x60 then 1 else if n < 0x80 then 3 else if n < 0xC0 then 2 else 4

/-- A coherent request, opcodes 0x01 to 0x0B (R198). -/
def isCoherentReq (o : BitVec 8) : Bool := decide (1 ≤ o.toNat) && decide (o.toNat ≤ 0xB)

/-- A packet of two flits (R205, R206). -/
def twoFlits (o : BitVec 8) : Bool := o == Opc.writeDataMasked || o == Opc.memData

namespace Packet
/-- The sector number PA[51:6]. -/
def sec (p : Packet) : Nat := p.address.toNat
/-- The granule number PA[51:7]. -/
def gran (p : Packet) : Nat := p.address.toNat / 2
def tagN (p : Packet) : Nat := p.tag.toNat
/-- The message class (R201). -/
def cls (p : Packet) : Nat := classOf p.opcode
def widN (p : Packet) : Nat := p.wid.toNat
def srcN (p : Packet) : Nat := p.src.toNat
def dstN (p : Packet) : Nat := p.dst.toNat
def epN (p : Packet) : Nat := p.endpoint.toNat
/-- Bits [lo + w - 1 : lo] of ATTR. -/
def attrBits (p : Packet) (lo w : Nat) : Nat := p.attr.toNat / 2 ^ lo % 2 ^ w
/-! The fields of a coherent request's ATTR (R207). -/
def spec (p : Packet) : Bool := p.attrBits 0 1 == 1
def sharedOnly (p : Packet) : Bool := p.attrBits 1 1 == 1
def keep (p : Packet) : Bool := p.attrBits 2 1 == 1
def cmo (p : Packet) : Nat := p.attrBits 3 2
def atomic (p : Packet) : Bool := p.attrBits 5 1 == 1
def etype (p : Packet) : Nat := p.attrBits 6 2
def prefetch (p : Packet) : Bool := p.attrBits 8 1 == 1
/-! The fields of IORead and IOWrite (R208). -/
def ioOffset (p : Packet) : Nat := p.attrBits 0 6
def ioSize (p : Packet) : Nat := p.attrBits 6 3
def ioPosted (p : Packet) : Bool := p.attrBits 9 1 == 1
/-! The fields of MemWrite (R209). -/
def s0 (p : Packet) : Bool := p.attrBits 0 1 == 1
def s1 (p : Packet) : Bool := p.attrBits 1 1 == 1
def m0 (p : Packet) : Bool := p.attrBits 2 1 == 1
def m1 (p : Packet) : Bool := p.attrBits 3 1 == 1
def victim (p : Packet) : Bool := p.attrBits 4 1 == 1
/-! The fields of snoops (R211). -/
def reqStop (p : Packet) : Nat := p.attrBits 0 8
def reqEp (p : Packet) : Nat := p.attrBits 8 8
/-! The fields of responses (R212). -/
def grant (p : Packet) : Nat := p.attrBits 0 2
def snpState (p : Packet) : Nat := p.attrBits 0 2
def snpFwd (p : Packet) : Bool := p.attrBits 2 1 == 1
def snpDead (p : Packet) : Bool := p.attrBits 3 1 == 1
def respEp (p : Packet) : Nat := p.attrBits 8 8
def errCode (p : Packet) : Nat := p.attrBits 0 8
def errOrigin (p : Packet) : Nat := p.attrBits 8 4
/-- The grant that a CompData's or DataFwd's opcode codes (R205). -/
def dataGrant (p : Packet) : Nat := p.opcode.toNat % 4
/-- The mask and the atomic operation of the mask flit of WriteDataMasked (R215). -/
def mask (p : Packet) : BitVec 64 := p.payload.extractLsb' 0 64
def aop (p : Packet) : Nat := p.payload.toNat / 2 ^ 64 % 16
/-- LAST of flit i of the packet (R197). -/
def last (p : Packet) (i : Nat) : Bool := !twoFlits p.opcode || i == 1
end Packet

/-- The ATTR of a coherent request (R207). -/
def reqAttr (spec sharedOnly keep : Bool) (cmo : Nat) (atomic : Bool) (etype : Nat) (pf : Bool) : BitVec 16 :=
  BitVec.ofNat 16 (spec.toNat + 2 * sharedOnly.toNat + 4 * keep.toNat + 8 * (cmo % 4) + 32 * atomic.toNat + 64 * (etype % 4)
    + 256 * pf.toNat)

/-- The ATTR of IORead and IOWrite (R208). -/
def ioAttr (off size : Nat) (posted : Bool) : BitVec 16 := BitVec.ofNat 16 (off % 64 + 64 * (size % 8) + 512 * posted.toNat)

/-- The ATTR of MemWrite (R209). -/
def memAttr (s0 s1 m0 m1 victim : Bool) : BitVec 16 :=
  BitVec.ofNat 16 (s0.toNat + 2 * s1.toNat + 4 * m0.toNat + 8 * m1.toNat + 16 * victim.toNat)

/-- The ATTR of a snoop (R211). -/
def fwdAttr (stop ep : Nat) : BitVec 16 := BitVec.ofNat 16 (stop % 256 + 256 * (ep % 256))

/-- The ATTR of SnpResp (R212). -/
def snpAttr (st : Nat) (fwd dead : Bool) (ep : Nat) : BitVec 16 :=
  BitVec.ofNat 16 (st % 4 + 4 * fwd.toNat + 8 * dead.toNat + 256 * (ep % 256))

/-- The ATTR of ErrResp and MgtErr (R212). -/
def errAttr (code origin : Nat) : BitVec 16 := BitVec.ofNat 16 (code % 256 + 256 * (origin % 16))

/-! The response codes of R213 and the origins of R212. -/
namespace Err
def targetDead : Nat := 1
def timeout : Nat := 2
def address : Nat := 3
def permission : Nat := 4
def format : Nat := 5
def abort : Nat := 6
end Err

namespace Origin
def home : Nat := 0
def memPort : Nat := 1
def gate : Nat := 2
def absorber : Nat := 3
def sourceNi : Nat := 4
def hostPort : Nat := 5
def register : Nat := 6
end Origin

/-- The common header of a flit (R194). -/
def Packet.header (p : Packet) (poison last : Bool) : Nat :=
  classOf p.opcode + p.opcode.toNat * 2 ^ 3 + p.tagN * 2 ^ 11 + p.widN * 2 ^ 23 + p.srcN * 2 ^ 29 + p.dstN * 2 ^ 37
    + p.epN * 2 ^ 45 + p.route.toNat * 2 ^ 53 + poison.toNat * 2 ^ 93 + p.epoch.toNat * 2 ^ 94 + p.metered.toNat * 2 ^ 95
    + last.toNat * 2 ^ 96

/-- The control flit of a packet, LINK_CRC 0 as on the mesh (R195, R197). -/
def Packet.controlFlit (p : Packet) : BitVec 192 :=
  BitVec.ofNat 192 (p.header false true + p.address.toNat * 2 ^ 97 + p.attr.toNat * 2 ^ 143)

/-- Data flit i of a packet (R196). -/
def Packet.dataFlit (p : Packet) (i : Nat) : BitVec 640 :=
  let pl := if i = 0 then p.payload else p.payload2
  let po := if i = 0 then p.poison else p.poison2
  BitVec.ofNat 640 (p.header po (p.last i) + pl.toNat * 2 ^ 128)

/-! The bytes of a sector (R196) and the combination of a write with poison (R216). -/

/-- The 512-bit mask of a 64-bit byte mask. -/
def byteMask (m : BitVec 64) : Sector :=
  (List.range 64).foldl (fun a i => if m.getLsbD i then a ||| (BitVec.ofNat 512 255 <<< (8 * i)) else a) 0

/-- Write the masked bytes of a sector. -/
def mergeSector (old new : Sector) (m : BitVec 64) : Sector :=
  let k := byteMask m
  (old &&& ~~~k) ||| (new &&& k)

/-- The byte mask of `len` bytes at an offset. -/
def spanMask (off len : Nat) : BitVec 64 := BitVec.ofNat 64 ((2 ^ len - 1) * 2 ^ off)

/-- The `len` bytes at an offset of a sector, little-endian (R6). -/
def sectorBytes (d : Sector) (off len : Nat) : Nat := d.toNat / 2 ^ (8 * off) % 2 ^ (8 * len)

/-- A sector holding `len` bytes of a value at an offset and zero elsewhere. -/
def sectorAt (v off len : Nat) : Sector := BitVec.ofNat 512 (v % 2 ^ (8 * len) * 2 ^ (8 * off))

/-- Whether a mask names every byte of the sector. -/
def fullMask : BitVec 64 := BitVec.allOnes 64

/-- The poison of a sector after a write (R216). -/
def poisonAfter (m : BitVec 64) (old flit : Bool) : Bool := if m = fullMask then flit else old || flit

/-! Route descriptors. -/

/-- A leg: direction, steps and LAST (R166). -/
def leg (dir steps : Nat) (last : Bool) : Nat := dir % 4 + 4 * (steps % 32) + 128 * last.toNat

/-- The dimension-order route of reset: east or west first, then north or south (R169). -/
def dorRoute (src dst : Nat) : BitVec 40 :=
  let sx := stopX src; let sy := stopY src; let dx := stopX dst; let dy := stopY dst
  let hx := if sx ≤ dx then (0, dx - sx) else (1, sx - dx)
  let vy := if sy ≤ dy then (2, dy - sy) else (3, sy - dy)
  if src = dst then 0x80
  else if hx.2 = 0 then BitVec.ofNat 40 (leg vy.1 vy.2 true)
  else if vy.2 = 0 then BitVec.ofNat 40 (leg hx.1 hx.2 true)
  else BitVec.ofNat 40 (leg hx.1 hx.2 false + 256 * leg vy.1 vy.2 true)

/-- Leg i of a descriptor (R166). -/
def legOf (r : BitVec 40) (i : Nat) : Nat := r.toNat / 256 ^ i % 256

/-- The fields of a leg's byte. -/
def legDir (l : Nat) : Nat := l % 4
def legSteps (l : Nat) : Nat := l / 4 % 32
def legLast (l : Nat) : Bool := l / 128 == 1

/-- One hop in a direction, or none off the mesh (R166, R168). -/
def hop (x y d : Nat) : Option (Nat × Nat) :=
  if d = 0 then (if x < 9 then some (x + 1, y) else none)
  else if d = 1 then (if 0 < x then some (x - 1, y) else none)
  else if d = 2 then (if y < 15 then some (x, y + 1) else none)
  else (if 0 < y then some (x, y - 1) else none)

/-- n hops in a direction. -/
def hops : Nat → Nat → Nat → Nat → Option (Nat × Nat)
  | 0, x, y, _ => some (x, y)
  | n + 1, x, y, d =>
    match hop x y d with
    | some (x', y') => hops n x' y' d
    | none => none

/-- Follow legs i, i+1, ... of a descriptor: the rules of R168 hold for them and they end at the destination. -/
def legsOk (r : BitVec 40) (dst : Nat) : Nat → Nat → Nat → Nat → Option Nat → Bool
  | 0, _, _, _, _ => false
  | n + 1, i, x, y, prev =>
    let l := legOf r i
    let perp := match prev with
      | none => true
      | some d => decide (legDir l / 2 ≠ d / 2) && decide (legDir l ≠ 1)
    decide (1 ≤ legSteps l) && perp &&
      match hops (legSteps l) x y (legDir l) with
      | none => false
      | some (x', y') =>
        if legLast l then
          decide (10 * y' + x' = dst) && decide (r.toNat / 256 ^ (i + 1) = 0)
        else legsOk r dst n (i + 1) x' y' (some (legDir l))

/-- Whether a descriptor obeys R168 for a destination at a stop. -/
def routeOk (src dst : Nat) (r : BitVec 40) : Bool :=
  if dst = src then r == 0x80 else legsOk r dst 5 0 (stopX src) (stopY src) none

/-- What a router does with a descriptor (R167): eject, or the port and the descriptor that leaves through it. -/
def routeStep (r : BitVec 40) : Option (Nat × BitVec 40) :=
  let l := legOf r 0
  if legSteps l = 0 ∧ legLast l = true then none
  else
    let r' := if legSteps l = 0 then r >>> 8 else r
    let l' := legOf r' 0
    some (legDir l', BitVec.ofNat 40 (r'.toNat / 256 * 256 + l' % 4 + 4 * ((legSteps l' + 31) % 32) + 128 * (l' / 128)))

/-- The latency of R162 in MESHCLK cycles. -/
def meshLatency (legs hops flits : Nat) : Nat :=
  if hops = 0 then 2 + (flits - 1) else 2 + 2 * legs + (hops - legs) + (flits - 1)

end Sys2Proof.Machine
end

