-- ==== Sys2Proof/Machine/Regs.lean ====
section
/-! DEFINITION. The register map: every register of the spec's register tables with the place of its window,
its offset, stride and count, and every field with its bits, its type (R9), its reset value and its legal
encodings (R12). Addresses follow R7 and R27; the Curator's local registers (R385, R414) stand in a space of their own. -/
namespace Sys2Proof.Machine

/-- Where a register's window lies: every stop, a core tile's slice, a core's range, or one of the I/O blocks (R14, R27). -/
inductive Place where
  | stop | tile | core | svc | mp | ax | hp | hp0 | de | cur
  deriving DecidableEq, Repr

/-- The field types of R9; `lock` is a LOCK bit, which software sets and only cold reset clears (R10). -/
inductive FldTy where
  | rw | ro | wo | w1c | w1s | rws | rwl | lock
  deriving DecidableEq, Repr

/-- Which encodings of a field are not reserved (R12). -/
inductive Legal where
  | any
  | range (lo hi : Nat)
  | oneOf (vs : List Nat)
  | zeroOr (lo hi : Nat)
  | upTo (hi : Nat) (vs : List Nat)
  deriving DecidableEq, Repr

/-- Every register the spec's register tables name. -/
inductive RegName where
  /-- NI_DEPO_MAP_n: R25. -/
  | niDepoMap
  /-- NI_PF_CTRL: R95. -/
  | niPfCtrl
  /-- NI_ROUTE_STATUS: R171. -/
  | niRouteStatus
  /-- RT_DEAD_CTRL: R180. -/
  | rtDeadCtrl
  /-- RT_METER_LANE_p: R185. -/
  | rtMeterLane
  /-- RT_SPARE_n_p: R192. -/
  | rtSpare
  /-- RT_METER_WHEEL_n_p_k: R186. -/
  | rtMeterWheel
  /-- NI_ROUTE_A_d: R169. -/
  | niRouteA
  /-- NI_ROUTE_B_d: R169. -/
  | niRouteB
  /-- PMU_CTL_i: R515. One for each place that has the bank. -/
  | pmuCtlStop | pmuCtlSlice | pmuCtlMp | pmuCtlAx
  /-- PMU_CNT_i: R515. One for each place that has the bank. -/
  | pmuCntStop | pmuCntSlice | pmuCntMp | pmuCntAx
  /-- PMU_ADDR_BASE: R515. One for each place that has the bank. -/
  | pmuAddrBaseStop | pmuAddrBaseSlice | pmuAddrBaseMp | pmuAddrBaseAx
  /-- PMU_ADDR_LIM: R515. One for each place that has the bank. -/
  | pmuAddrLimStop | pmuAddrLimSlice | pmuAddrLimMp | pmuAddrLimAx
  /-- PMU_BLOCK_CTRL: R515. One for each place that has the bank. -/
  | pmuBlockCtrlStop | pmuBlockCtrlSlice | pmuBlockCtrlMp | pmuBlockCtrlAx
  /-- MLG_WAY_RETIRE: R474. -/
  | mlgWayRetire
  /-- CORE_SPEC_CTRL: R61. -/
  | coreSpecCtrl
  /-- CORE_PF_CTRL: R94. -/
  | corePfCtrl
  /-- MLG_VF_k: R461. -/
  | mlgVf
  /-- MLG_CORE_STATUS: R474. -/
  | mlgCoreStatus
  /-- MLG_CORE_LIFE: R474. -/
  | mlgCoreLife
  /-- CORE_HART_MAP_h: R42. -/
  | coreHartMap
  /-- CORE_MTIME: R40. -/
  | coreMtime
  /-- CORE_MTIMECMP_h: R40. -/
  | coreMtimecmp
  /-- CORE_MEMATTR_n: R88. -/
  | coreMemattr
  /-- CORE_MEMATTR_LIM_n: R88. -/
  | coreMemattrLim
  /-- LLC_SHELF_c: R97. -/
  | llcShelf
  /-- LLC_WID_CLASS_k: R98. -/
  | llcWidClass
  /-- LLC_SHELF_CTRL: R99. -/
  | llcShelfCtrl
  /-- CORE_HOLD_CTRL: R153. -/
  | coreHoldCtrl
  /-- DIR_RETRY_CTRL: R158. -/
  | dirRetryCtrl
  /-- NI_FABRIC_CTRL: R176. -/
  | niFabricCtrl
  /-- NI_FABRIC_STATUS: R176. -/
  | niFabricStatus
  /-- NI_METER_WIDS: R187. -/
  | niMeterWids
  /-- WLD_SEAT_h: R293. -/
  | wldSeat
  /-- WLD_BELL_PAIRS_s: R299. -/
  | wldBellPairs
  /-- WLD_DEED_TABLE: R311. -/
  | wldDeedTable
  /-- WLD_DEPO_DEED_n: R312. -/
  | wldDepoDeed
  /-- WLD_GPIO_WID_k: R317. -/
  | wldGpioWid
  /-- WLD_DEBUG_INV: R320. -/
  | wldDebugInv
  /-- WLD_DEBUG_NONINV: R320. -/
  | wldDebugNoninv
  /-- WLD_REGION_n: R310. -/
  | wldRegion
  /-- WLD_REGION_LIM_n: R310. -/
  | wldRegionLim
  /-- WLD_KEY_SLOT_k: R314. -/
  | wldKeySlot
  /-- WLD_KEY_CMD: R315. -/
  | wldKeyCmd
  /-- WLD_DEED_ARG_w: R305. -/
  | wldDeedArg
  /-- WLD_DEED_CMD_w: R305. -/
  | wldDeedCmd
  /-- WLD_DEED_STATUS_w: R305. -/
  | wldDeedStatus
  /-- WLD_SLIP_BELL_w: R411. -/
  | wldSlipBell
  /-- PWR_DOM_STATUS_d: R436. -/
  | pwrDomStatus
  /-- PWR_DOM_COUNT_d: R436. -/
  | pwrDomCount
  /-- PWR_DOM_REQ: R437. -/
  | pwrDomReq
  /-- PWR_REFUSER_COUNT_k: R440. -/
  | pwrRefuserCount
  /-- PWR_MODE_STATUS: R444. -/
  | pwrModeStatus
  /-- PWR_MODE_CTRL: R444. -/
  | pwrModeCtrl
  /-- PWR_WAKE_EN: R444. -/
  | pwrWakeEn
  /-- PWR_WATCH_CFG: R451. -/
  | pwrWatchCfg
  /-- PWR_WATCH_STATUS: R451. -/
  | pwrWatchStatus
  /-- PWR_LIMIT_CTRL: R458. -/
  | pwrLimitCtrl
  /-- PWR_LIMIT_STATUS: R458. -/
  | pwrLimitStatus
  /-- MLG_CTRL: R473. -/
  | mlgCtrl
  /-- MLG_STATUS: R473. -/
  | mlgStatus
  /-- ANL_CTRL: R506. -/
  | anlCtrl
  /-- ANL_STATUS: R506. -/
  | anlStatus
  /-- ANL_NEXT_SEQ: R506. -/
  | anlNextSeq
  /-- ANL_CALENDAR: R506. -/
  | anlCalendar
  /-- ANL_CAL_SET: R506. -/
  | anlCalSet
  /-- ANL_RATE_n: R507. -/
  | anlRate
  /-- ANL_SNAP_s_k: R508. -/
  | anlSnap
  /-- PMU_FOLIO_CTRL: R518. -/
  | pmuFolioCtrl
  /-- PMU_FOLIO_BUF: R518. -/
  | pmuFolioBuf
  /-- PMU_FOLIO_RING: R518. -/
  | pmuFolioRing
  /-- PMU_FOLIO_STATUS: R518. -/
  | pmuFolioStatus
  /-- KPR_STATUS: R404. -/
  | kprStatus
  /-- KPR_WDT: R404. -/
  | kprWdt
  /-- KPR_DEBUG_CONSENT: R405. -/
  | kprDebugConsent
  /-- KPR_LIMIT_COUNT: R404. -/
  | kprLimitCount
  /-- CUR_CTRL: R386. -/
  | curCtrl
  /-- CUR_XIP: R386. -/
  | curXip
  /-- CUR_STATUS: R386. -/
  | curStatus
  /-- MP_CFG: R285. -/
  | mpCfg
  /-- MP_STATUS: R286. -/
  | mpStatus
  /-- MP_LOCAL_TOP: R287. -/
  | mpLocalTop
  /-- MP_LANE_RETIRE: R287. -/
  | mpLaneRetire
  /-- MP_SCRUB_CTRL: R288. -/
  | mpScrubCtrl
  /-- MP_SCRUB_STATUS: R288. -/
  | mpScrubStatus
  /-- MP_ERR_COUNT: R289. -/
  | mpErrCount
  /-- AXG_PORT_CTRL: R255. -/
  | axgPortCtrl
  /-- AXG_PORT_STATUS: R256. -/
  | axgPortStatus
  /-- AXG_ANNEX_ID: R257. -/
  | axgAnnexId
  /-- AXG_LINK_COUNT: R257. -/
  | axgLinkCount
  /-- AXG_QSTATUS: R254. -/
  | axgQstatus
  /-- AXG_DECLARED: R257. -/
  | axgDeclared
  /-- AXG_FENCE: R541. -/
  | axgFence
  /-- AXG_AGENT_CFG_j: R237. -/
  | axgAgentCfg
  /-- AXG_GRANT_j: R240. -/
  | axgGrant
  /-- AXG_WIN_n: R242. -/
  | axgWin
  /-- AXG_WIN_LIM_n: R242. -/
  | axgWinLim
  /-- AXG_MMIO_n: R247. -/
  | axgMmio
  /-- AXG_MMIO_LIM_n: R247. -/
  | axgMmioLim
  /-- AXG_WIN_CTRL: R245. -/
  | axgWinCtrl
  /-- HP_PORT_CFG: R356. -/
  | hpPortCfg
  /-- HP_PORT_STATUS: R356. -/
  | hpPortStatus
  /-- HP_RC_CTRL_k: R365. -/
  | hpRcCtrl
  /-- HP_RC_STATUS_k: R365. -/
  | hpRcStatus
  /-- HP_RID_WID_n: R358. -/
  | hpRidWid
  /-- HP_EP_CFG: R366. -/
  | hpEpCfg
  /-- HP_VI_CFG_i: R367. -/
  | hpViCfg
  /-- HP_VI_APER_i: R368. -/
  | hpViAper
  /-- HP_TQ_RING_q: R369. -/
  | hpTqRing
  /-- HP_TQ_CPL_q: R369. -/
  | hpTqCpl
  /-- HP_TQ_TAIL_q: R369. -/
  | hpTqTail
  /-- HP_TQ_CPL_HEAD_q: R369. -/
  | hpTqCplHead
  /-- HP_TQ_STATUS_q: R369. -/
  | hpTqStatus
  /-- HP_TQ_CTRL_q: R369. -/
  | hpTqCtrl
  /-- DE_ENG_STATUS: R326. -/
  | deEngStatus
  /-- DE_CH_CFG_c: R326. -/
  | deChCfg
  /-- DE_CH_RING_c: R327. -/
  | deChRing
  /-- DE_CH_CPL_c: R327. -/
  | deChCpl
  /-- DE_CH_TAIL_c: R327. -/
  | deChTail
  /-- DE_CH_CPL_HEAD_c: R327. -/
  | deChCplHead
  /-- DE_CH_STATUS_c: R327. -/
  | deChStatus
  /-- DE_CH_CTRL_c: R327. -/
  | deChCtrl
  /-- DE_CH_MSI_c: R327. -/
  | deChMsi
  /-- DE_CH_ALIVE_c: R327. -/
  | deChAlive
  /-- DE_SCAN_CFG_s: R346. -/
  | deScanCfg
  /-- DE_SCAN_START_s: R346. -/
  | deScanStart
  /-- DE_SCAN_LEN_s: R346. -/
  | deScanLen
  /-- DE_SCAN_PERIOD_s: R346. -/
  | deScanPeriod
  /-- DE_SCAN_EXPECT_s: R346. -/
  | deScanExpect
  /-- DE_SCAN_RESULT_s: R346. -/
  | deScanResult
  /-- DE_SCAN_STATUS_s: R346. -/
  | deScanStatus
  /-- CUR_MTIME_LO: R385. -/
  | curMtimeLo
  /-- CUR_MTIME_HI: R385. -/
  | curMtimeHi
  /-- CUR_MTIMECMP_LO: R385. -/
  | curMtimecmpLo
  /-- CUR_MTIMECMP_HI: R385. -/
  | curMtimecmpHi
  /-- CUR_INT_PEND: R385. -/
  | curIntPend
  /-- CUR_INT_EN: R385. -/
  | curIntEn
  /-- CUR_WDT_KICK: R385. -/
  | curWdtKick
  /-- CUR_FLASH_ADDR: R385. -/
  | curFlashAddr
  /-- CUR_FLASH_CMD: R385. -/
  | curFlashCmd
  /-- CUR_FLASH_STATUS: R385. -/
  | curFlashStatus
  /-- CUR_SLIP_ADDR: R414. -/
  | curSlipAddr
  /-- CUR_SLIP_CTRL: R414. -/
  | curSlipCtrl
  /-- CUR_SLIP_STATUS: R414. -/
  | curSlipStatus
  /-- vendor_n_imp_id: R489. One for each place that has the bank. -/
  | rasVendorCore | rasVendorSlice | rasVendorStop | rasVendorMp | rasVendorAx | rasVendorHp | rasVendorDe | rasVendorSvc
  /-- bank_info: R489. One for each place that has the bank. -/
  | rasBankInfoCore | rasBankInfoSlice | rasBankInfoStop | rasBankInfoMp | rasBankInfoAx | rasBankInfoHp | rasBankInfoDe | rasBankInfoSvc
  /-- valid_summary: R489. One for each place that has the bank. -/
  | rasValidCore | rasValidSlice | rasValidStop | rasValidMp | rasValidAx | rasValidHp | rasValidDe | rasValidSvc
  /-- control_i: R489. One for each place that has the bank. -/
  | rasControlCore | rasControlSlice | rasControlStop | rasControlMp | rasControlAx | rasControlHp | rasControlDe | rasControlSvc
  /-- status_i: R489. One for each place that has the bank. -/
  | rasStatusCore | rasStatusSlice | rasStatusStop | rasStatusMp | rasStatusAx | rasStatusHp | rasStatusDe | rasStatusSvc
  /-- addr_i: R489. One for each place that has the bank. -/
  | rasAddrCore | rasAddrSlice | rasAddrStop | rasAddrMp | rasAddrAx | rasAddrHp | rasAddrDe | rasAddrSvc
  /-- info_i: R490. One for each place that has the bank. -/
  | rasInfoCore | rasInfoSlice | rasInfoStop | rasInfoMp | rasInfoAx | rasInfoHp | rasInfoDe | rasInfoSvc
  /-- suppl_info_i: R490. One for each place that has the bank. -/
  | rasSupplCore | rasSupplSlice | rasSupplStop | rasSupplMp | rasSupplAx | rasSupplHp | rasSupplDe | rasSupplSvc
  /-- timestamp_i: R489. One for each place that has the bank. -/
  | rasTimeCore | rasTimeSlice | rasTimeStop | rasTimeMp | rasTimeAx | rasTimeHp | rasTimeDe | rasTimeSvc
  deriving DecidableEq, Repr


/-- The pmuCtl register of the bank at a place. -/
def pmuCtlAt : Place → RegName
  | .stop => .pmuCtlStop
  | .tile => .pmuCtlSlice
  | .mp => .pmuCtlMp
  | _ => .pmuCtlAx

/-- The pmuCnt register of the bank at a place. -/
def pmuCntAt : Place → RegName
  | .stop => .pmuCntStop
  | .tile => .pmuCntSlice
  | .mp => .pmuCntMp
  | _ => .pmuCntAx

/-- The pmuAddrBase register of the bank at a place. -/
def pmuAddrBaseAt : Place → RegName
  | .stop => .pmuAddrBaseStop
  | .tile => .pmuAddrBaseSlice
  | .mp => .pmuAddrBaseMp
  | _ => .pmuAddrBaseAx

/-- The pmuAddrLim register of the bank at a place. -/
def pmuAddrLimAt : Place → RegName
  | .stop => .pmuAddrLimStop
  | .tile => .pmuAddrLimSlice
  | .mp => .pmuAddrLimMp
  | _ => .pmuAddrLimAx

/-- The pmuBlockCtrl register of the bank at a place. -/
def pmuBlockCtrlAt : Place → RegName
  | .stop => .pmuBlockCtrlStop
  | .tile => .pmuBlockCtrlSlice
  | .mp => .pmuBlockCtrlMp
  | _ => .pmuBlockCtrlAx

/-- The rasVendor register of the bank at a place. -/
def rasVendorAt : Place → RegName
  | .core => .rasVendorCore
  | .tile => .rasVendorSlice
  | .stop => .rasVendorStop
  | .mp => .rasVendorMp
  | .ax => .rasVendorAx
  | .hp => .rasVendorHp
  | .de => .rasVendorDe
  | _ => .rasVendorSvc

/-- The rasBankInfo register of the bank at a place. -/
def rasBankInfoAt : Place → RegName
  | .core => .rasBankInfoCore
  | .tile => .rasBankInfoSlice
  | .stop => .rasBankInfoStop
  | .mp => .rasBankInfoMp
  | .ax => .rasBankInfoAx
  | .hp => .rasBankInfoHp
  | .de => .rasBankInfoDe
  | _ => .rasBankInfoSvc

/-- The rasValid register of the bank at a place. -/
def rasValidAt : Place → RegName
  | .core => .rasValidCore
  | .tile => .rasValidSlice
  | .stop => .rasValidStop
  | .mp => .rasValidMp
  | .ax => .rasValidAx
  | .hp => .rasValidHp
  | .de => .rasValidDe
  | _ => .rasValidSvc

/-- The rasControl register of the bank at a place. -/
def rasControlAt : Place → RegName
  | .core => .rasControlCore
  | .tile => .rasControlSlice
  | .stop => .rasControlStop
  | .mp => .rasControlMp
  | .ax => .rasControlAx
  | .hp => .rasControlHp
  | .de => .rasControlDe
  | _ => .rasControlSvc

/-- The rasStatus register of the bank at a place. -/
def rasStatusAt : Place → RegName
  | .core => .rasStatusCore
  | .tile => .rasStatusSlice
  | .stop => .rasStatusStop
  | .mp => .rasStatusMp
  | .ax => .rasStatusAx
  | .hp => .rasStatusHp
  | .de => .rasStatusDe
  | _ => .rasStatusSvc

/-- The rasAddr register of the bank at a place. -/
def rasAddrAt : Place → RegName
  | .core => .rasAddrCore
  | .tile => .rasAddrSlice
  | .stop => .rasAddrStop
  | .mp => .rasAddrMp
  | .ax => .rasAddrAx
  | .hp => .rasAddrHp
  | .de => .rasAddrDe
  | _ => .rasAddrSvc

/-- The rasInfo register of the bank at a place. -/
def rasInfoAt : Place → RegName
  | .core => .rasInfoCore
  | .tile => .rasInfoSlice
  | .stop => .rasInfoStop
  | .mp => .rasInfoMp
  | .ax => .rasInfoAx
  | .hp => .rasInfoHp
  | .de => .rasInfoDe
  | _ => .rasInfoSvc

/-- The rasSuppl register of the bank at a place. -/
def rasSupplAt : Place → RegName
  | .core => .rasSupplCore
  | .tile => .rasSupplSlice
  | .stop => .rasSupplStop
  | .mp => .rasSupplMp
  | .ax => .rasSupplAx
  | .hp => .rasSupplHp
  | .de => .rasSupplDe
  | _ => .rasSupplSvc

/-- The rasTime register of the bank at a place. -/
def rasTimeAt : Place → RegName
  | .core => .rasTimeCore
  | .tile => .rasTimeSlice
  | .stop => .rasTimeStop
  | .mp => .rasTimeMp
  | .ax => .rasTimeAx
  | .hp => .rasTimeHp
  | .de => .rasTimeDe
  | _ => .rasTimeSvc

/-- A field of a register. -/
structure Fld where
  reg : RegName
  lsb : Nat
  width : Nat
  ty : FldTy
  reset : Nat
  legal : Legal
  deriving DecidableEq, Repr

/-- Whether a value is one of a field's encodings that is not reserved. -/
def Legal.ok : Legal → Nat → Bool
  | .any, _ => true
  | .range lo hi, v => decide (lo ≤ v) && decide (v ≤ hi)
  | .oneOf vs, v => vs.contains v
  | .zeroOr lo hi, v => v == 0 || (decide (lo ≤ v) && decide (v ≤ hi))
  | .upTo hi vs, v => decide (v ≤ hi) || vs.contains v

/-- The place of a register. -/
def RegName.place : RegName → Place
  | .niDepoMap => .stop
  | .niPfCtrl => .stop
  | .niRouteStatus => .stop
  | .rtDeadCtrl => .stop
  | .rtMeterLane => .stop
  | .rtSpare => .stop
  | .rtMeterWheel => .stop
  | .niRouteA => .stop
  | .niRouteB => .stop
  | .pmuCtlStop => .stop
  | .pmuCtlSlice => .tile
  | .pmuCtlMp => .mp
  | .pmuCtlAx => .ax
  | .pmuCntStop => .stop
  | .pmuCntSlice => .tile
  | .pmuCntMp => .mp
  | .pmuCntAx => .ax
  | .pmuAddrBaseStop => .stop
  | .pmuAddrBaseSlice => .tile
  | .pmuAddrBaseMp => .mp
  | .pmuAddrBaseAx => .ax
  | .pmuAddrLimStop => .stop
  | .pmuAddrLimSlice => .tile
  | .pmuAddrLimMp => .mp
  | .pmuAddrLimAx => .ax
  | .pmuBlockCtrlStop => .stop
  | .pmuBlockCtrlSlice => .tile
  | .pmuBlockCtrlMp => .mp
  | .pmuBlockCtrlAx => .ax
  | .mlgWayRetire => .tile
  | .coreSpecCtrl => .core
  | .corePfCtrl => .core
  | .mlgVf => .core
  | .mlgCoreStatus => .core
  | .mlgCoreLife => .core
  | .coreHartMap => .svc
  | .coreMtime => .svc
  | .coreMtimecmp => .svc
  | .coreMemattr => .svc
  | .coreMemattrLim => .svc
  | .llcShelf => .svc
  | .llcWidClass => .svc
  | .llcShelfCtrl => .svc
  | .coreHoldCtrl => .svc
  | .dirRetryCtrl => .svc
  | .niFabricCtrl => .svc
  | .niFabricStatus => .svc
  | .niMeterWids => .svc
  | .wldSeat => .svc
  | .wldBellPairs => .svc
  | .wldDeedTable => .svc
  | .wldDepoDeed => .svc
  | .wldGpioWid => .svc
  | .wldDebugInv => .svc
  | .wldDebugNoninv => .svc
  | .wldRegion => .svc
  | .wldRegionLim => .svc
  | .wldKeySlot => .svc
  | .wldKeyCmd => .svc
  | .wldDeedArg => .svc
  | .wldDeedCmd => .svc
  | .wldDeedStatus => .svc
  | .wldSlipBell => .svc
  | .pwrDomStatus => .svc
  | .pwrDomCount => .svc
  | .pwrDomReq => .svc
  | .pwrRefuserCount => .svc
  | .pwrModeStatus => .svc
  | .pwrModeCtrl => .svc
  | .pwrWakeEn => .svc
  | .pwrWatchCfg => .svc
  | .pwrWatchStatus => .svc
  | .pwrLimitCtrl => .svc
  | .pwrLimitStatus => .svc
  | .mlgCtrl => .svc
  | .mlgStatus => .svc
  | .anlCtrl => .svc
  | .anlStatus => .svc
  | .anlNextSeq => .svc
  | .anlCalendar => .svc
  | .anlCalSet => .svc
  | .anlRate => .svc
  | .anlSnap => .svc
  | .pmuFolioCtrl => .svc
  | .pmuFolioBuf => .svc
  | .pmuFolioRing => .svc
  | .pmuFolioStatus => .svc
  | .kprStatus => .svc
  | .kprWdt => .svc
  | .kprDebugConsent => .svc
  | .kprLimitCount => .svc
  | .curCtrl => .svc
  | .curXip => .svc
  | .curStatus => .svc
  | .mpCfg => .mp
  | .mpStatus => .mp
  | .mpLocalTop => .mp
  | .mpLaneRetire => .mp
  | .mpScrubCtrl => .mp
  | .mpScrubStatus => .mp
  | .mpErrCount => .mp
  | .axgPortCtrl => .ax
  | .axgPortStatus => .ax
  | .axgAnnexId => .ax
  | .axgLinkCount => .ax
  | .axgQstatus => .ax
  | .axgDeclared => .ax
  | .axgFence => .ax
  | .axgAgentCfg => .ax
  | .axgGrant => .ax
  | .axgWin => .ax
  | .axgWinLim => .ax
  | .axgMmio => .ax
  | .axgMmioLim => .ax
  | .axgWinCtrl => .ax
  | .hpPortCfg => .hp
  | .hpPortStatus => .hp
  | .hpRcCtrl => .hp
  | .hpRcStatus => .hp
  | .hpRidWid => .hp
  | .hpEpCfg => .hp0
  | .hpViCfg => .hp0
  | .hpViAper => .hp0
  | .hpTqRing => .hp0
  | .hpTqCpl => .hp0
  | .hpTqTail => .hp0
  | .hpTqCplHead => .hp0
  | .hpTqStatus => .hp0
  | .hpTqCtrl => .hp0
  | .deEngStatus => .de
  | .deChCfg => .de
  | .deChRing => .de
  | .deChCpl => .de
  | .deChTail => .de
  | .deChCplHead => .de
  | .deChStatus => .de
  | .deChCtrl => .de
  | .deChMsi => .de
  | .deChAlive => .de
  | .deScanCfg => .de
  | .deScanStart => .de
  | .deScanLen => .de
  | .deScanPeriod => .de
  | .deScanExpect => .de
  | .deScanResult => .de
  | .deScanStatus => .de
  | .curMtimeLo => .cur
  | .curMtimeHi => .cur
  | .curMtimecmpLo => .cur
  | .curMtimecmpHi => .cur
  | .curIntPend => .cur
  | .curIntEn => .cur
  | .curWdtKick => .cur
  | .curFlashAddr => .cur
  | .curFlashCmd => .cur
  | .curFlashStatus => .cur
  | .curSlipAddr => .cur
  | .curSlipCtrl => .cur
  | .curSlipStatus => .cur
  | .rasVendorCore => .core
  | .rasVendorSlice => .tile
  | .rasVendorStop => .stop
  | .rasVendorMp => .mp
  | .rasVendorAx => .ax
  | .rasVendorHp => .hp
  | .rasVendorDe => .de
  | .rasVendorSvc => .svc
  | .rasBankInfoCore => .core
  | .rasBankInfoSlice => .tile
  | .rasBankInfoStop => .stop
  | .rasBankInfoMp => .mp
  | .rasBankInfoAx => .ax
  | .rasBankInfoHp => .hp
  | .rasBankInfoDe => .de
  | .rasBankInfoSvc => .svc
  | .rasValidCore => .core
  | .rasValidSlice => .tile
  | .rasValidStop => .stop
  | .rasValidMp => .mp
  | .rasValidAx => .ax
  | .rasValidHp => .hp
  | .rasValidDe => .de
  | .rasValidSvc => .svc
  | .rasControlCore => .core
  | .rasControlSlice => .tile
  | .rasControlStop => .stop
  | .rasControlMp => .mp
  | .rasControlAx => .ax
  | .rasControlHp => .hp
  | .rasControlDe => .de
  | .rasControlSvc => .svc
  | .rasStatusCore => .core
  | .rasStatusSlice => .tile
  | .rasStatusStop => .stop
  | .rasStatusMp => .mp
  | .rasStatusAx => .ax
  | .rasStatusHp => .hp
  | .rasStatusDe => .de
  | .rasStatusSvc => .svc
  | .rasAddrCore => .core
  | .rasAddrSlice => .tile
  | .rasAddrStop => .stop
  | .rasAddrMp => .mp
  | .rasAddrAx => .ax
  | .rasAddrHp => .hp
  | .rasAddrDe => .de
  | .rasAddrSvc => .svc
  | .rasInfoCore => .core
  | .rasInfoSlice => .tile
  | .rasInfoStop => .stop
  | .rasInfoMp => .mp
  | .rasInfoAx => .ax
  | .rasInfoHp => .hp
  | .rasInfoDe => .de
  | .rasInfoSvc => .svc
  | .rasSupplCore => .core
  | .rasSupplSlice => .tile
  | .rasSupplStop => .stop
  | .rasSupplMp => .mp
  | .rasSupplAx => .ax
  | .rasSupplHp => .hp
  | .rasSupplDe => .de
  | .rasSupplSvc => .svc
  | .rasTimeCore => .core
  | .rasTimeSlice => .tile
  | .rasTimeStop => .stop
  | .rasTimeMp => .mp
  | .rasTimeAx => .ax
  | .rasTimeHp => .hp
  | .rasTimeDe => .de
  | .rasTimeSvc => .svc

/-- The offset of a register, or of entry 0 of an array of registers, in its window. -/
def RegName.base : RegName → Nat
  | .niDepoMap => 0x1000
  | .niPfCtrl => 0x1200
  | .niRouteStatus => 0x1300
  | .rtDeadCtrl => 0x2000
  | .rtMeterLane => 0x2100
  | .rtSpare => 0x2200
  | .rtMeterWheel => 0x3000
  | .niRouteA => 0x4000
  | .niRouteB => 0x4800
  | .pmuCtlStop => 0x6000
  | .pmuCtlSlice => 0x106000
  | .pmuCtlMp => 0x106000
  | .pmuCtlAx => 0x106000
  | .pmuCntStop => 0x6008
  | .pmuCntSlice => 0x106008
  | .pmuCntMp => 0x106008
  | .pmuCntAx => 0x106008
  | .pmuAddrBaseStop => 0x6100
  | .pmuAddrBaseSlice => 0x106100
  | .pmuAddrBaseMp => 0x106100
  | .pmuAddrBaseAx => 0x106100
  | .pmuAddrLimStop => 0x6108
  | .pmuAddrLimSlice => 0x106108
  | .pmuAddrLimMp => 0x106108
  | .pmuAddrLimAx => 0x106108
  | .pmuBlockCtrlStop => 0x6110
  | .pmuBlockCtrlSlice => 0x106110
  | .pmuBlockCtrlMp => 0x106110
  | .pmuBlockCtrlAx => 0x106110
  | .mlgWayRetire => 0x100200
  | .coreSpecCtrl => 0x1000
  | .corePfCtrl => 0x1008
  | .mlgVf => 0x2000
  | .mlgCoreStatus => 0x2040
  | .mlgCoreLife => 0x2048
  | .coreHartMap => 0x300000
  | .coreMtime => 0x301000
  | .coreMtimecmp => 0x302000
  | .coreMemattr => 0x303000
  | .coreMemattrLim => 0x303008
  | .llcShelf => 0x304000
  | .llcWidClass => 0x304080
  | .llcShelfCtrl => 0x3040a0
  | .coreHoldCtrl => 0x305000
  | .dirRetryCtrl => 0x305008
  | .niFabricCtrl => 0x306000
  | .niFabricStatus => 0x306008
  | .niMeterWids => 0x306010
  | .wldSeat => 0x320000
  | .wldBellPairs => 0x321000
  | .wldDeedTable => 0x321800
  | .wldDepoDeed => 0x321840
  | .wldGpioWid => 0x321900
  | .wldDebugInv => 0x321980
  | .wldDebugNoninv => 0x321988
  | .wldRegion => 0x322000
  | .wldRegionLim => 0x322008
  | .wldKeySlot => 0x323000
  | .wldKeyCmd => 0x323800
  | .wldDeedArg => 0x324000
  | .wldDeedCmd => 0x324008
  | .wldDeedStatus => 0x324010
  | .wldSlipBell => 0x324018
  | .pwrDomStatus => 0x340000
  | .pwrDomCount => 0x341000
  | .pwrDomReq => 0x343000
  | .pwrRefuserCount => 0x343100
  | .pwrModeStatus => 0x343008
  | .pwrModeCtrl => 0x343010
  | .pwrWakeEn => 0x343018
  | .pwrWatchCfg => 0x343020
  | .pwrWatchStatus => 0x343028
  | .pwrLimitCtrl => 0x343200
  | .pwrLimitStatus => 0x343208
  | .mlgCtrl => 0x350000
  | .mlgStatus => 0x350008
  | .anlCtrl => 0x360000
  | .anlStatus => 0x360008
  | .anlNextSeq => 0x360010
  | .anlCalendar => 0x360018
  | .anlCalSet => 0x360020
  | .anlRate => 0x361000
  | .anlSnap => 0x364000
  | .pmuFolioCtrl => 0x370000
  | .pmuFolioBuf => 0x370008
  | .pmuFolioRing => 0x370010
  | .pmuFolioStatus => 0x370018
  | .kprStatus => 0x100000
  | .kprWdt => 0x100008
  | .kprDebugConsent => 0x100010
  | .kprLimitCount => 0x100018
  | .curCtrl => 0x140000
  | .curXip => 0x140008
  | .curStatus => 0x140010
  | .mpCfg => 0x100000
  | .mpStatus => 0x100008
  | .mpLocalTop => 0x100010
  | .mpLaneRetire => 0x100018
  | .mpScrubCtrl => 0x100020
  | .mpScrubStatus => 0x100028
  | .mpErrCount => 0x100030
  | .axgPortCtrl => 0x100000
  | .axgPortStatus => 0x100008
  | .axgAnnexId => 0x100010
  | .axgLinkCount => 0x100018
  | .axgQstatus => 0x100020
  | .axgDeclared => 0x100028
  | .axgFence => 0x100030
  | .axgAgentCfg => 0x100100
  | .axgGrant => 0x100180
  | .axgWin => 0x101000
  | .axgWinLim => 0x101008
  | .axgMmio => 0x101200
  | .axgMmioLim => 0x101208
  | .axgWinCtrl => 0x101300
  | .hpPortCfg => 0x100000
  | .hpPortStatus => 0x100008
  | .hpRcCtrl => 0x100040
  | .hpRcStatus => 0x100048
  | .hpRidWid => 0x100100
  | .hpEpCfg => 0x100200
  | .hpViCfg => 0x100400
  | .hpViAper => 0x100800
  | .hpTqRing => 0x200000
  | .hpTqCpl => 0x200008
  | .hpTqTail => 0x200010
  | .hpTqCplHead => 0x200018
  | .hpTqStatus => 0x200020
  | .hpTqCtrl => 0x200028
  | .deEngStatus => 0x100000
  | .deChCfg => 0x100400
  | .deChRing => 0x200000
  | .deChCpl => 0x200008
  | .deChTail => 0x200010
  | .deChCplHead => 0x200018
  | .deChStatus => 0x200020
  | .deChCtrl => 0x200028
  | .deChMsi => 0x200030
  | .deChAlive => 0x200038
  | .deScanCfg => 0x101000
  | .deScanStart => 0x101008
  | .deScanLen => 0x101010
  | .deScanPeriod => 0x101018
  | .deScanExpect => 0x101020
  | .deScanResult => 0x101028
  | .deScanStatus => 0x101030
  | .curMtimeLo => 0x0
  | .curMtimeHi => 0x4
  | .curMtimecmpLo => 0x8
  | .curMtimecmpHi => 0xc
  | .curIntPend => 0x10
  | .curIntEn => 0x14
  | .curWdtKick => 0x20
  | .curFlashAddr => 0x30
  | .curFlashCmd => 0x34
  | .curFlashStatus => 0x38
  | .curSlipAddr => 0x800
  | .curSlipCtrl => 0x804
  | .curSlipStatus => 0x808
  | .rasVendorCore => 0x4000
  | .rasVendorSlice => 0x104000
  | .rasVendorStop => 0x5000
  | .rasVendorMp => 0x104000
  | .rasVendorAx => 0x104000
  | .rasVendorHp => 0x104000
  | .rasVendorDe => 0x104000
  | .rasVendorSvc => 0x104000
  | .rasBankInfoCore => 0x4008
  | .rasBankInfoSlice => 0x104008
  | .rasBankInfoStop => 0x5008
  | .rasBankInfoMp => 0x104008
  | .rasBankInfoAx => 0x104008
  | .rasBankInfoHp => 0x104008
  | .rasBankInfoDe => 0x104008
  | .rasBankInfoSvc => 0x104008
  | .rasValidCore => 0x4010
  | .rasValidSlice => 0x104010
  | .rasValidStop => 0x5010
  | .rasValidMp => 0x104010
  | .rasValidAx => 0x104010
  | .rasValidHp => 0x104010
  | .rasValidDe => 0x104010
  | .rasValidSvc => 0x104010
  | .rasControlCore => 0x4040
  | .rasControlSlice => 0x104040
  | .rasControlStop => 0x5040
  | .rasControlMp => 0x104040
  | .rasControlAx => 0x104040
  | .rasControlHp => 0x104040
  | .rasControlDe => 0x104040
  | .rasControlSvc => 0x104040
  | .rasStatusCore => 0x4048
  | .rasStatusSlice => 0x104048
  | .rasStatusStop => 0x5048
  | .rasStatusMp => 0x104048
  | .rasStatusAx => 0x104048
  | .rasStatusHp => 0x104048
  | .rasStatusDe => 0x104048
  | .rasStatusSvc => 0x104048
  | .rasAddrCore => 0x4050
  | .rasAddrSlice => 0x104050
  | .rasAddrStop => 0x5050
  | .rasAddrMp => 0x104050
  | .rasAddrAx => 0x104050
  | .rasAddrHp => 0x104050
  | .rasAddrDe => 0x104050
  | .rasAddrSvc => 0x104050
  | .rasInfoCore => 0x4058
  | .rasInfoSlice => 0x104058
  | .rasInfoStop => 0x5058
  | .rasInfoMp => 0x104058
  | .rasInfoAx => 0x104058
  | .rasInfoHp => 0x104058
  | .rasInfoDe => 0x104058
  | .rasInfoSvc => 0x104058
  | .rasSupplCore => 0x4060
  | .rasSupplSlice => 0x104060
  | .rasSupplStop => 0x5060
  | .rasSupplMp => 0x104060
  | .rasSupplAx => 0x104060
  | .rasSupplHp => 0x104060
  | .rasSupplDe => 0x104060
  | .rasSupplSvc => 0x104060
  | .rasTimeCore => 0x4068
  | .rasTimeSlice => 0x104068
  | .rasTimeStop => 0x5068
  | .rasTimeMp => 0x104068
  | .rasTimeAx => 0x104068
  | .rasTimeHp => 0x104068
  | .rasTimeDe => 0x104068
  | .rasTimeSvc => 0x104068

/-- The distance in bytes between the entries of an array of registers. -/
def RegName.stride : RegName → Nat
  | .niDepoMap => 8
  | .niPfCtrl => 8
  | .niRouteStatus => 8
  | .rtDeadCtrl => 8
  | .rtMeterLane => 8
  | .rtSpare => 8
  | .rtMeterWheel => 8
  | .niRouteA => 8
  | .niRouteB => 8
  | .pmuCtlStop => 16
  | .pmuCtlSlice => 16
  | .pmuCtlMp => 16
  | .pmuCtlAx => 16
  | .pmuCntStop => 16
  | .pmuCntSlice => 16
  | .pmuCntMp => 16
  | .pmuCntAx => 16
  | .pmuAddrBaseStop => 8
  | .pmuAddrBaseSlice => 8
  | .pmuAddrBaseMp => 8
  | .pmuAddrBaseAx => 8
  | .pmuAddrLimStop => 8
  | .pmuAddrLimSlice => 8
  | .pmuAddrLimMp => 8
  | .pmuAddrLimAx => 8
  | .pmuBlockCtrlStop => 8
  | .pmuBlockCtrlSlice => 8
  | .pmuBlockCtrlMp => 8
  | .pmuBlockCtrlAx => 8
  | .mlgWayRetire => 8
  | .coreSpecCtrl => 8
  | .corePfCtrl => 8
  | .mlgVf => 8
  | .mlgCoreStatus => 8
  | .mlgCoreLife => 8
  | .coreHartMap => 8
  | .coreMtime => 8
  | .coreMtimecmp => 8
  | .coreMemattr => 16
  | .coreMemattrLim => 16
  | .llcShelf => 8
  | .llcWidClass => 8
  | .llcShelfCtrl => 8
  | .coreHoldCtrl => 8
  | .dirRetryCtrl => 8
  | .niFabricCtrl => 8
  | .niFabricStatus => 8
  | .niMeterWids => 8
  | .wldSeat => 8
  | .wldBellPairs => 8
  | .wldDeedTable => 8
  | .wldDepoDeed => 8
  | .wldGpioWid => 8
  | .wldDebugInv => 8
  | .wldDebugNoninv => 8
  | .wldRegion => 16
  | .wldRegionLim => 16
  | .wldKeySlot => 8
  | .wldKeyCmd => 8
  | .wldDeedArg => 32
  | .wldDeedCmd => 32
  | .wldDeedStatus => 32
  | .wldSlipBell => 32
  | .pwrDomStatus => 8
  | .pwrDomCount => 8
  | .pwrDomReq => 8
  | .pwrRefuserCount => 8
  | .pwrModeStatus => 8
  | .pwrModeCtrl => 8
  | .pwrWakeEn => 8
  | .pwrWatchCfg => 8
  | .pwrWatchStatus => 8
  | .pwrLimitCtrl => 8
  | .pwrLimitStatus => 8
  | .mlgCtrl => 8
  | .mlgStatus => 8
  | .anlCtrl => 8
  | .anlStatus => 8
  | .anlNextSeq => 8
  | .anlCalendar => 8
  | .anlCalSet => 8
  | .anlRate => 8
  | .anlSnap => 8
  | .pmuFolioCtrl => 8
  | .pmuFolioBuf => 8
  | .pmuFolioRing => 8
  | .pmuFolioStatus => 8
  | .kprStatus => 8
  | .kprWdt => 8
  | .kprDebugConsent => 8
  | .kprLimitCount => 8
  | .curCtrl => 8
  | .curXip => 8
  | .curStatus => 8
  | .mpCfg => 8
  | .mpStatus => 8
  | .mpLocalTop => 8
  | .mpLaneRetire => 8
  | .mpScrubCtrl => 8
  | .mpScrubStatus => 8
  | .mpErrCount => 8
  | .axgPortCtrl => 8
  | .axgPortStatus => 8
  | .axgAnnexId => 8
  | .axgLinkCount => 8
  | .axgQstatus => 8
  | .axgDeclared => 8
  | .axgFence => 8
  | .axgAgentCfg => 8
  | .axgGrant => 8
  | .axgWin => 16
  | .axgWinLim => 16
  | .axgMmio => 16
  | .axgMmioLim => 16
  | .axgWinCtrl => 8
  | .hpPortCfg => 8
  | .hpPortStatus => 8
  | .hpRcCtrl => 16
  | .hpRcStatus => 16
  | .hpRidWid => 8
  | .hpEpCfg => 8
  | .hpViCfg => 8
  | .hpViAper => 8
  | .hpTqRing => 4096
  | .hpTqCpl => 4096
  | .hpTqTail => 4096
  | .hpTqCplHead => 4096
  | .hpTqStatus => 4096
  | .hpTqCtrl => 4096
  | .deEngStatus => 8
  | .deChCfg => 8
  | .deChRing => 4096
  | .deChCpl => 4096
  | .deChTail => 4096
  | .deChCplHead => 4096
  | .deChStatus => 4096
  | .deChCtrl => 4096
  | .deChMsi => 4096
  | .deChAlive => 4096
  | .deScanCfg => 64
  | .deScanStart => 64
  | .deScanLen => 64
  | .deScanPeriod => 64
  | .deScanExpect => 64
  | .deScanResult => 64
  | .deScanStatus => 64
  | .curMtimeLo => 4
  | .curMtimeHi => 4
  | .curMtimecmpLo => 4
  | .curMtimecmpHi => 4
  | .curIntPend => 4
  | .curIntEn => 4
  | .curWdtKick => 4
  | .curFlashAddr => 4
  | .curFlashCmd => 4
  | .curFlashStatus => 4
  | .curSlipAddr => 4
  | .curSlipCtrl => 4
  | .curSlipStatus => 4
  | .rasVendorCore => 8
  | .rasVendorSlice => 8
  | .rasVendorStop => 8
  | .rasVendorMp => 8
  | .rasVendorAx => 8
  | .rasVendorHp => 8
  | .rasVendorDe => 8
  | .rasVendorSvc => 8
  | .rasBankInfoCore => 8
  | .rasBankInfoSlice => 8
  | .rasBankInfoStop => 8
  | .rasBankInfoMp => 8
  | .rasBankInfoAx => 8
  | .rasBankInfoHp => 8
  | .rasBankInfoDe => 8
  | .rasBankInfoSvc => 8
  | .rasValidCore => 8
  | .rasValidSlice => 8
  | .rasValidStop => 8
  | .rasValidMp => 8
  | .rasValidAx => 8
  | .rasValidHp => 8
  | .rasValidDe => 8
  | .rasValidSvc => 8
  | .rasControlCore => 64
  | .rasControlSlice => 64
  | .rasControlStop => 64
  | .rasControlMp => 64
  | .rasControlAx => 64
  | .rasControlHp => 64
  | .rasControlDe => 64
  | .rasControlSvc => 64
  | .rasStatusCore => 64
  | .rasStatusSlice => 64
  | .rasStatusStop => 64
  | .rasStatusMp => 64
  | .rasStatusAx => 64
  | .rasStatusHp => 64
  | .rasStatusDe => 64
  | .rasStatusSvc => 64
  | .rasAddrCore => 64
  | .rasAddrSlice => 64
  | .rasAddrStop => 64
  | .rasAddrMp => 64
  | .rasAddrAx => 64
  | .rasAddrHp => 64
  | .rasAddrDe => 64
  | .rasAddrSvc => 64
  | .rasInfoCore => 64
  | .rasInfoSlice => 64
  | .rasInfoStop => 64
  | .rasInfoMp => 64
  | .rasInfoAx => 64
  | .rasInfoHp => 64
  | .rasInfoDe => 64
  | .rasInfoSvc => 64
  | .rasSupplCore => 64
  | .rasSupplSlice => 64
  | .rasSupplStop => 64
  | .rasSupplMp => 64
  | .rasSupplAx => 64
  | .rasSupplHp => 64
  | .rasSupplDe => 64
  | .rasSupplSvc => 64
  | .rasTimeCore => 64
  | .rasTimeSlice => 64
  | .rasTimeStop => 64
  | .rasTimeMp => 64
  | .rasTimeAx => 64
  | .rasTimeHp => 64
  | .rasTimeDe => 64
  | .rasTimeSvc => 64

/-- How many entries an array of registers has. -/
def RegName.count : RegName → Nat
  | .niDepoMap => 14
  | .niPfCtrl => 1
  | .niRouteStatus => 1
  | .rtDeadCtrl => 1
  | .rtMeterLane => 6
  | .rtSpare => 8
  | .rtMeterWheel => 96
  | .niRouteA => 256
  | .niRouteB => 256
  | .pmuCtlStop => 4
  | .pmuCtlSlice => 4
  | .pmuCtlMp => 8
  | .pmuCtlAx => 8
  | .pmuCntStop => 4
  | .pmuCntSlice => 4
  | .pmuCntMp => 8
  | .pmuCntAx => 8
  | .pmuAddrBaseStop => 1
  | .pmuAddrBaseSlice => 1
  | .pmuAddrBaseMp => 1
  | .pmuAddrBaseAx => 1
  | .pmuAddrLimStop => 1
  | .pmuAddrLimSlice => 1
  | .pmuAddrLimMp => 1
  | .pmuAddrLimAx => 1
  | .pmuBlockCtrlStop => 1
  | .pmuBlockCtrlSlice => 1
  | .pmuBlockCtrlMp => 1
  | .pmuBlockCtrlAx => 1
  | .mlgWayRetire => 1
  | .coreSpecCtrl => 1
  | .corePfCtrl => 1
  | .mlgVf => 4
  | .mlgCoreStatus => 1
  | .mlgCoreLife => 1
  | .coreHartMap => 256
  | .coreMtime => 1
  | .coreMtimecmp => 256
  | .coreMemattr => 16
  | .coreMemattrLim => 16
  | .llcShelf => 16
  | .llcWidClass => 4
  | .llcShelfCtrl => 1
  | .coreHoldCtrl => 1
  | .dirRetryCtrl => 1
  | .niFabricCtrl => 1
  | .niFabricStatus => 1
  | .niMeterWids => 1
  | .wldSeat => 256
  | .wldBellPairs => 64
  | .wldDeedTable => 1
  | .wldDepoDeed => 14
  | .wldGpioWid => 4
  | .wldDebugInv => 1
  | .wldDebugNoninv => 1
  | .wldRegion => 32
  | .wldRegionLim => 32
  | .wldKeySlot => 256
  | .wldKeyCmd => 1
  | .wldDeedArg => 64
  | .wldDeedCmd => 64
  | .wldDeedStatus => 64
  | .wldSlipBell => 64
  | .pwrDomStatus => 441
  | .pwrDomCount => 441
  | .pwrDomReq => 1
  | .pwrRefuserCount => 9
  | .pwrModeStatus => 1
  | .pwrModeCtrl => 1
  | .pwrWakeEn => 1
  | .pwrWatchCfg => 1
  | .pwrWatchStatus => 1
  | .pwrLimitCtrl => 1
  | .pwrLimitStatus => 1
  | .mlgCtrl => 1
  | .mlgStatus => 1
  | .anlCtrl => 1
  | .anlStatus => 1
  | .anlNextSeq => 1
  | .anlCalendar => 1
  | .anlCalSet => 1
  | .anlRate => 1024
  | .anlSnap => 256
  | .pmuFolioCtrl => 1
  | .pmuFolioBuf => 1
  | .pmuFolioRing => 1
  | .pmuFolioStatus => 1
  | .kprStatus => 1
  | .kprWdt => 1
  | .kprDebugConsent => 1
  | .kprLimitCount => 1
  | .curCtrl => 1
  | .curXip => 1
  | .curStatus => 1
  | .mpCfg => 1
  | .mpStatus => 1
  | .mpLocalTop => 1
  | .mpLaneRetire => 1
  | .mpScrubCtrl => 1
  | .mpScrubStatus => 1
  | .mpErrCount => 1
  | .axgPortCtrl => 1
  | .axgPortStatus => 1
  | .axgAnnexId => 1
  | .axgLinkCount => 1
  | .axgQstatus => 1
  | .axgDeclared => 1
  | .axgFence => 1
  | .axgAgentCfg => 16
  | .axgGrant => 16
  | .axgWin => 32
  | .axgWinLim => 32
  | .axgMmio => 8
  | .axgMmioLim => 8
  | .axgWinCtrl => 1
  | .hpPortCfg => 1
  | .hpPortStatus => 1
  | .hpRcCtrl => 4
  | .hpRcStatus => 4
  | .hpRidWid => 32
  | .hpEpCfg => 1
  | .hpViCfg => 62
  | .hpViAper => 62
  | .hpTqRing => 64
  | .hpTqCpl => 64
  | .hpTqTail => 64
  | .hpTqCplHead => 64
  | .hpTqStatus => 64
  | .hpTqCtrl => 64
  | .deEngStatus => 1
  | .deChCfg => 32
  | .deChRing => 32
  | .deChCpl => 32
  | .deChTail => 32
  | .deChCplHead => 32
  | .deChStatus => 32
  | .deChCtrl => 32
  | .deChMsi => 32
  | .deChAlive => 32
  | .deScanCfg => 16
  | .deScanStart => 16
  | .deScanLen => 16
  | .deScanPeriod => 16
  | .deScanExpect => 16
  | .deScanResult => 16
  | .deScanStatus => 16
  | .curMtimeLo => 1
  | .curMtimeHi => 1
  | .curMtimecmpLo => 1
  | .curMtimecmpHi => 1
  | .curIntPend => 1
  | .curIntEn => 1
  | .curWdtKick => 1
  | .curFlashAddr => 1
  | .curFlashCmd => 1
  | .curFlashStatus => 1
  | .curSlipAddr => 1
  | .curSlipCtrl => 1
  | .curSlipStatus => 1
  | .rasVendorCore => 1
  | .rasVendorSlice => 1
  | .rasVendorStop => 1
  | .rasVendorMp => 1
  | .rasVendorAx => 1
  | .rasVendorHp => 1
  | .rasVendorDe => 1
  | .rasVendorSvc => 1
  | .rasBankInfoCore => 1
  | .rasBankInfoSlice => 1
  | .rasBankInfoStop => 1
  | .rasBankInfoMp => 1
  | .rasBankInfoAx => 1
  | .rasBankInfoHp => 1
  | .rasBankInfoDe => 1
  | .rasBankInfoSvc => 1
  | .rasValidCore => 1
  | .rasValidSlice => 1
  | .rasValidStop => 1
  | .rasValidMp => 1
  | .rasValidAx => 1
  | .rasValidHp => 1
  | .rasValidDe => 1
  | .rasValidSvc => 1
  | .rasControlCore => 4
  | .rasControlSlice => 4
  | .rasControlStop => 2
  | .rasControlMp => 8
  | .rasControlAx => 4
  | .rasControlHp => 4
  | .rasControlDe => 2
  | .rasControlSvc => 8
  | .rasStatusCore => 4
  | .rasStatusSlice => 4
  | .rasStatusStop => 2
  | .rasStatusMp => 8
  | .rasStatusAx => 4
  | .rasStatusHp => 4
  | .rasStatusDe => 2
  | .rasStatusSvc => 8
  | .rasAddrCore => 4
  | .rasAddrSlice => 4
  | .rasAddrStop => 2
  | .rasAddrMp => 8
  | .rasAddrAx => 4
  | .rasAddrHp => 4
  | .rasAddrDe => 2
  | .rasAddrSvc => 8
  | .rasInfoCore => 4
  | .rasInfoSlice => 4
  | .rasInfoStop => 2
  | .rasInfoMp => 8
  | .rasInfoAx => 4
  | .rasInfoHp => 4
  | .rasInfoDe => 2
  | .rasInfoSvc => 8
  | .rasSupplCore => 4
  | .rasSupplSlice => 4
  | .rasSupplStop => 2
  | .rasSupplMp => 8
  | .rasSupplAx => 4
  | .rasSupplHp => 4
  | .rasSupplDe => 2
  | .rasSupplSvc => 8
  | .rasTimeCore => 4
  | .rasTimeSlice => 4
  | .rasTimeStop => 2
  | .rasTimeMp => 8
  | .rasTimeAx => 4
  | .rasTimeHp => 4
  | .rasTimeDe => 2
  | .rasTimeSvc => 8

/-! The fields, named by register and field. -/
/-- NI_DEPO_MAP_n.VALID: R25. -/
def F.niDepoMap_valid : Fld := ⟨.niDepoMap, 0, 1, .rw, 0, .any⟩
/-- NI_DEPO_MAP_n.PORT_STOP: R25. -/
def F.niDepoMap_portStop : Fld := ⟨.niDepoMap, 8, 8, .rw, 0, (.oneOf [2, 5, 7, 152, 155, 157])⟩
/-- NI_DEPO_MAP_n.ENDPOINT: R25. -/
def F.niDepoMap_endpoint : Fld := ⟨.niDepoMap, 16, 8, .rw, 0, .any⟩
/-- NI_PF_CTRL.EN: R95. -/
def F.niPfCtrl_en : Fld := ⟨.niPfCtrl, 0, 1, .rw, 0, .any⟩
/-- NI_PF_CTRL.MAX_DIST: R95. -/
def F.niPfCtrl_maxDist : Fld := ⟨.niPfCtrl, 4, 4, .rw, 8, (.range 1 8)⟩
/-- NI_ROUTE_STATUS.ACTIVE: R171. -/
def F.niRouteStatus_active : Fld := ⟨.niRouteStatus, 0, 1, .ro, 0, .any⟩
/-- NI_ROUTE_STATUS.HOLDING: R171. -/
def F.niRouteStatus_holding : Fld := ⟨.niRouteStatus, 1, 1, .ro, 0, .any⟩
/-- NI_ROUTE_STATUS.REJECT: R171. -/
def F.niRouteStatus_reject : Fld := ⟨.niRouteStatus, 2, 1, .w1c, 0, .any⟩
/-- NI_ROUTE_STATUS.REJECT_INDEX: R171. -/
def F.niRouteStatus_rejectIndex : Fld := ⟨.niRouteStatus, 8, 8, .ro, 0, .any⟩
/-- NI_ROUTE_STATUS.OLD_FLITS: R171. -/
def F.niRouteStatus_oldFlits : Fld := ⟨.niRouteStatus, 16, 16, .ro, 0, .any⟩
/-- RT_DEAD_CTRL.DEAD: R180. -/
def F.rtDeadCtrl_dead : Fld := ⟨.rtDeadCtrl, 0, 4, .rw, 0, .any⟩
/-- RT_DEAD_CTRL.FLUSHED: R180. -/
def F.rtDeadCtrl_flushed : Fld := ⟨.rtDeadCtrl, 4, 4, .rw, 0, .any⟩
/-- RT_DEAD_CTRL.SELF_DEAD: R180. -/
def F.rtDeadCtrl_selfDead : Fld := ⟨.rtDeadCtrl, 8, 1, .rw, 0, .any⟩
/-- RT_DEAD_CTRL.SELF_FLUSHED: R180. -/
def F.rtDeadCtrl_selfFlushed : Fld := ⟨.rtDeadCtrl, 9, 1, .rw, 0, .any⟩
/-- RT_DEAD_CTRL.EJECT_IDLE: R180. -/
def F.rtDeadCtrl_ejectIdle : Fld := ⟨.rtDeadCtrl, 10, 1, .ro, 1, .any⟩
/-- RT_METER_LANE_p.WID: R185. -/
def F.rtMeterLane_wid (k : Nat) : Fld := ⟨.rtMeterLane, (8 * k), 6, .rw, 0, .any⟩
/-- RT_METER_LANE_p.VALID: R185. -/
def F.rtMeterLane_valid (k : Nat) : Fld := ⟨.rtMeterLane, (8 * k + 7), 1, .rw, 0, .any⟩
/-- RT_SPARE_n_p.WIRE: R192. -/
def F.rtSpare_wire (k : Nat) : Fld := ⟨.rtSpare, (16 * k), 10, .rws, 0, .any⟩
/-- RT_SPARE_n_p.VALID: R192. -/
def F.rtSpare_valid (k : Nat) : Fld := ⟨.rtSpare, (16 * k + 15), 1, .rws, 0, .any⟩
/-- RT_METER_WHEEL_n_p_k.LANE: R186. -/
def F.rtMeterWheel_lane (k : Nat) : Fld := ⟨.rtMeterWheel, (8 * k), 2, .rw, 0, .any⟩
/-- RT_METER_WHEEL_n_p_k.RES: R186. -/
def F.rtMeterWheel_res (k : Nat) : Fld := ⟨.rtMeterWheel, (8 * k + 2), 1, .rw, 0, .any⟩
/-- NI_ROUTE_A_d.ROUTE: R169. -/
def F.niRouteA_route : Fld := ⟨.niRouteA, 0, 40, .rw, 0, .any⟩
/-- NI_ROUTE_A_d.VALID: R169. -/
def F.niRouteA_valid : Fld := ⟨.niRouteA, 40, 1, .rw, 0, .any⟩
/-- NI_ROUTE_B_d.ROUTE: R169. -/
def F.niRouteB_route : Fld := ⟨.niRouteB, 0, 40, .rw, 0, .any⟩
/-- NI_ROUTE_B_d.VALID: R169. -/
def F.niRouteB_valid : Fld := ⟨.niRouteB, 40, 1, .rw, 0, .any⟩
/-- The event codes of a counter block: R515 and the event lists of R512 and R513. -/
def pmuEvents : Place → Legal
  | .stop => .zeroOr 0x201 0x209
  | .tile => .zeroOr 0x101 0x10A
  | .mp => .zeroOr 0x301 0x30A
  | _ => .zeroOr 0x401 0x408

/-- PMU_CTL_i.EVENT: R515. -/
def F.pmuCtl_event (p : Place) : Fld := ⟨(pmuCtlAt p), 0, 12, .rw, 0, (pmuEvents p)⟩
/-- PMU_CTL_i.EN: R515. -/
def F.pmuCtl_en (p : Place) : Fld := ⟨(pmuCtlAt p), 12, 1, .rw, 0, .any⟩
/-- PMU_CTL_i.OVF: R515. -/
def F.pmuCtl_ovf (p : Place) : Fld := ⟨(pmuCtlAt p), 14, 1, .w1c, 0, .any⟩
/-- PMU_CTL_i.ADDR_EN: R515. -/
def F.pmuCtl_addrEn (p : Place) : Fld := ⟨(pmuCtlAt p), 15, 1, .rw, 0, .any⟩
/-- PMU_CTL_i.WID: R515. -/
def F.pmuCtl_wid (p : Place) : Fld := ⟨(pmuCtlAt p), 16, 6, .rw, 0, .any⟩
/-- PMU_CTL_i.WID_EN: R515. -/
def F.pmuCtl_widEn (p : Place) : Fld := ⟨(pmuCtlAt p), 22, 1, .rw, 0, .any⟩
/-- PMU_CTL_i.AGENT_STOP: R515. -/
def F.pmuCtl_agentStop (p : Place) : Fld := ⟨(pmuCtlAt p), 24, 8, .rw, 0, .any⟩
/-- PMU_CTL_i.AGENT_EN: R515. -/
def F.pmuCtl_agentEn (p : Place) : Fld := ⟨(pmuCtlAt p), 32, 1, .rw, 0, .any⟩
/-- PMU_CTL_i.CLASS_MASK: R515. -/
def F.pmuCtl_classMask (p : Place) : Fld := ⟨(pmuCtlAt p), 33, 5, .rw, 31, .any⟩
/-- PMU_CTL_i.PORT: R515. -/
def F.pmuCtl_port (p : Place) : Fld := ⟨(pmuCtlAt p), 48, 3, .rw, 0, .any⟩
/-- PMU_CTL_i.PORT_EN: R515. -/
def F.pmuCtl_portEn (p : Place) : Fld := ⟨(pmuCtlAt p), 51, 1, .rw, 0, .any⟩
/-- PMU_CTL_i.PROGRAMMER: R515. -/
def F.pmuCtl_programmer (p : Place) : Fld := ⟨(pmuCtlAt p), 56, 6, .ro, 0, .any⟩
/-- PMU_CNT_i.COUNT: R515. -/
def F.pmuCnt_count (p : Place) : Fld := ⟨(pmuCntAt p), 0, 48, .rw, 0, .any⟩
/-- PMU_ADDR_BASE.BASE: R515. -/
def F.pmuAddrBase_base (p : Place) : Fld := ⟨(pmuAddrBaseAt p), 16, 36, .rw, 0, .any⟩
/-- PMU_ADDR_LIM.LIMIT: R515. -/
def F.pmuAddrLim_limit (p : Place) : Fld := ⟨(pmuAddrLimAt p), 16, 36, .rw, 0, .any⟩
/-- PMU_BLOCK_CTRL.FREEZE: R515. -/
def F.pmuBlockCtrl_freeze (p : Place) : Fld := ⟨(pmuBlockCtrlAt p), 0, 1, .rw, 0, .any⟩
/-- PMU_BLOCK_CTRL.CLEAR: R515. -/
def F.pmuBlockCtrl_clear (p : Place) : Fld := ⟨(pmuBlockCtrlAt p), 1, 1, .wo, 0, .any⟩
/-- MLG_WAY_RETIRE.WAYS: R474. -/
def F.mlgWayRetire_ways : Fld := ⟨.mlgWayRetire, 0, 12, .rws, 0, .any⟩
/-- CORE_SPEC_CTRL.PRED_FLUSH: R61. -/
def F.coreSpecCtrl_predFlush : Fld := ⟨.coreSpecCtrl, 0, 1, .rw, 1, .any⟩
/-- CORE_SPEC_CTRL.FILL_DEFER: R61. -/
def F.coreSpecCtrl_fillDefer : Fld := ⟨.coreSpecCtrl, 1, 1, .rw, 1, .any⟩
/-- CORE_SPEC_CTRL.PRED_FLUSH_EFF: R61. -/
def F.coreSpecCtrl_predFlushEff : Fld := ⟨.coreSpecCtrl, 8, 1, .ro, 1, .any⟩
/-- CORE_SPEC_CTRL.FILL_DEFER_EFF: R61. -/
def F.coreSpecCtrl_fillDeferEff : Fld := ⟨.coreSpecCtrl, 9, 1, .ro, 1, .any⟩
/-- CORE_PF_CTRL.L2_EN: R94. -/
def F.corePfCtrl_l2En : Fld := ⟨.corePfCtrl, 0, 1, .rw, 1, .any⟩
/-- CORE_PF_CTRL.STORE_STREAMS: R94. -/
def F.corePfCtrl_storeStreams : Fld := ⟨.corePfCtrl, 1, 1, .rw, 1, .any⟩
/-- CORE_PF_CTRL.MAX_DIST: R94. -/
def F.corePfCtrl_maxDist : Fld := ⟨.corePfCtrl, 2, 4, .rw, 8, .any⟩
/-- CORE_PF_CTRL.LLC_EN: R94. -/
def F.corePfCtrl_llcEn : Fld := ⟨.corePfCtrl, 8, 1, .rw, 1, .any⟩
/-- MLG_VF_k.VOLT: R461. -/
def F.mlgVf_volt (k : Nat) : Fld := ⟨.mlgVf, (16 * k), 11, .rws, 0, .any⟩
/-- MLG_VF_k.VALID: R461. -/
def F.mlgVf_valid (k : Nat) : Fld := ⟨.mlgVf, (16 * k + 11), 1, .rws, 0, .any⟩
/-- MLG_CORE_STATUS.SLACK_PS: R474. -/
def F.mlgCoreStatus_slackPs : Fld := ⟨.mlgCoreStatus, 0, 8, .ro, 0, .any⟩
/-- MLG_CORE_STATUS.N_PLAN: R474. -/
def F.mlgCoreStatus_nPlan : Fld := ⟨.mlgCoreStatus, 8, 5, .rws, 0, .any⟩
/-- MLG_CORE_STATUS.N_CEIL: R474. -/
def F.mlgCoreStatus_nCeil : Fld := ⟨.mlgCoreStatus, 13, 5, .ro, 0, .any⟩
/-- MLG_CORE_STATUS.DROOP: R474. -/
def F.mlgCoreStatus_droop : Fld := ⟨.mlgCoreStatus, 18, 1, .w1c, 0, .any⟩
/-- MLG_CORE_STATUS.RETIRED: R474. -/
def F.mlgCoreStatus_retired : Fld := ⟨.mlgCoreStatus, 19, 1, .ro, 0, .any⟩
/-- MLG_CORE_STATUS.CANDIDATE: R474. -/
def F.mlgCoreStatus_candidate : Fld := ⟨.mlgCoreStatus, 20, 1, .ro, 0, .any⟩
/-- MLG_CORE_STATUS.V_CEIL_MV: R474. -/
def F.mlgCoreStatus_vCeilMv : Fld := ⟨.mlgCoreStatus, 21, 11, .ro, 0, .any⟩
/-- MLG_CORE_STATUS.CHECKS: R474. -/
def F.mlgCoreStatus_checks : Fld := ⟨.mlgCoreStatus, 32, 16, .ro, 0, .any⟩
/-- MLG_CORE_LIFE.EQ_HOURS: R474. -/
def F.mlgCoreLife_eqHours : Fld := ⟨.mlgCoreLife, 0, 32, .ro, 0, .any⟩
/-- MLG_CORE_LIFE.DRIFT_PPM: R474. -/
def F.mlgCoreLife_driftPpm : Fld := ⟨.mlgCoreLife, 32, 16, .ro, 0, .any⟩
/-- CORE_HART_MAP_h.PHYS_CORE: R42. -/
def F.coreHartMap_physCore : Fld := ⟨.coreHartMap, 0, 9, .ro, 0, .any⟩
/-- CORE_HART_MAP_h.HOME_CORE: R42. -/
def F.coreHartMap_homeCore : Fld := ⟨.coreHartMap, 16, 9, .ro, 0, .any⟩
/-- CORE_HART_MAP_h.STATE: R42. -/
def F.coreHartMap_state : Fld := ⟨.coreHartMap, 32, 2, .ro, 0, .any⟩
/-- CORE_HART_MAP_h.REMAPS: R42. -/
def F.coreHartMap_remaps : Fld := ⟨.coreHartMap, 40, 8, .ro, 0, .any⟩
/-- CORE_MTIME.COUNT: R40. -/
def F.coreMtime_count : Fld := ⟨.coreMtime, 0, 64, .rws, 0, .any⟩
/-- CORE_MTIMECMP_h.COMPARE: R40. -/
def F.coreMtimecmp_compare : Fld := ⟨.coreMtimecmp, 0, 64, .rw, 18446744073709551615, .any⟩
/-- CORE_MEMATTR_n.VALID: R88. -/
def F.coreMemattr_valid : Fld := ⟨.coreMemattr, 0, 1, .rw, 0, .any⟩
/-- CORE_MEMATTR_n.POLICY: R88. -/
def F.coreMemattr_policy : Fld := ⟨.coreMemattr, 1, 2, .rw, 0, .any⟩
/-- CORE_MEMATTR_n.BASE: R88. -/
def F.coreMemattr_base : Fld := ⟨.coreMemattr, 16, 36, .rw, 0, .any⟩
/-- CORE_MEMATTR_LIM_n.LIMIT: R88. -/
def F.coreMemattrLim_limit : Fld := ⟨.coreMemattrLim, 16, 36, .rw, 0, .any⟩
/-- LLC_SHELF_c.LLC_WAYS: R97. -/
def F.llcShelf_llcWays : Fld := ⟨.llcShelf, 0, 12, .rw, 0, .any⟩
/-- LLC_SHELF_c.DIR_WAYS: R97. -/
def F.llcShelf_dirWays : Fld := ⟨.llcShelf, 16, 16, .rw, 0, .any⟩
/-- LLC_SHELF_c.HQ_RESERVE: R97. -/
def F.llcShelf_hqReserve : Fld := ⟨.llcShelf, 32, 4, .rw, 0, (.range 0 8)⟩
/-- LLC_WID_CLASS_k.CLASS: R98. -/
def F.llcWidClass_class (k : Nat) : Fld := ⟨.llcWidClass, (4 * k), 4, .rw, 0, .any⟩
/-- LLC_SHELF_CTRL.SEALED: R99. -/
def F.llcShelfCtrl_sealed : Fld := ⟨.llcShelfCtrl, 0, 16, .rw, 0, .any⟩
/-- LLC_SHELF_CTRL.REJECT: R99. -/
def F.llcShelfCtrl_reject : Fld := ⟨.llcShelfCtrl, 16, 1, .w1c, 0, .any⟩
/-- LLC_SHELF_CTRL.FLUSHING: R99. -/
def F.llcShelfCtrl_flushing : Fld := ⟨.llcShelfCtrl, 17, 1, .ro, 0, .any⟩
/-- CORE_HOLD_CTRL.WINDOW: R153. -/
def F.coreHoldCtrl_window : Fld := ⟨.coreHoldCtrl, 0, 8, .rw, 32, .any⟩
/-- CORE_HOLD_CTRL.LRSC: R153. -/
def F.coreHoldCtrl_lrsc : Fld := ⟨.coreHoldCtrl, 8, 1, .rw, 1, .any⟩
/-- DIR_RETRY_CTRL.RESERVE_LIMIT: R158. -/
def F.dirRetryCtrl_reserveLimit : Fld := ⟨.dirRetryCtrl, 0, 12, .rw, 2048, (.range 1152 4095)⟩
/-- NI_FABRIC_CTRL.FENCE: R176. -/
def F.niFabricCtrl_fence : Fld := ⟨.niFabricCtrl, 0, 1, .wo, 0, .any⟩
/-- NI_FABRIC_CTRL.EPOCH_SWITCH: R176. -/
def F.niFabricCtrl_epochSwitch : Fld := ⟨.niFabricCtrl, 1, 1, .wo, 0, .any⟩
/-- NI_FABRIC_CTRL.METER_COMMIT: R176. -/
def F.niFabricCtrl_meterCommit : Fld := ⟨.niFabricCtrl, 2, 1, .wo, 0, .any⟩
/-- NI_FABRIC_STATUS.FENCE_BUSY: R176. -/
def F.niFabricStatus_fenceBusy : Fld := ⟨.niFabricStatus, 0, 1, .ro, 0, .any⟩
/-- NI_FABRIC_STATUS.DRAIN_BUSY: R176. -/
def F.niFabricStatus_drainBusy : Fld := ⟨.niFabricStatus, 1, 1, .ro, 0, .any⟩
/-- NI_FABRIC_STATUS.EPOCH: R176. -/
def F.niFabricStatus_epoch : Fld := ⟨.niFabricStatus, 2, 1, .ro, 0, .any⟩
/-- NI_FABRIC_STATUS.METER_PENDING: R176. -/
def F.niFabricStatus_meterPending : Fld := ⟨.niFabricStatus, 3, 1, .ro, 0, .any⟩
/-- NI_FABRIC_STATUS.FENCE_ERR: R176. -/
def F.niFabricStatus_fenceErr : Fld := ⟨.niFabricStatus, 4, 1, .w1c, 0, .any⟩
/-- NI_FABRIC_STATUS.CTRL_REJECT: R176. -/
def F.niFabricStatus_ctrlReject : Fld := ⟨.niFabricStatus, 5, 1, .w1c, 0, .any⟩
/-- NI_FABRIC_STATUS.FENCE_LATE_STOP: R176. -/
def F.niFabricStatus_fenceLateStop : Fld := ⟨.niFabricStatus, 8, 8, .ro, 0, .any⟩
/-- NI_METER_WIDS.WIDS: R187. -/
def F.niMeterWids_wids : Fld := ⟨.niMeterWids, 3, 61, .rw, 0, .any⟩
/-- WLD_SEAT_h.WID: R293. -/
def F.wldSeat_wid : Fld := ⟨.wldSeat, 0, 6, .ro, 2, .any⟩
/-- WLD_SEAT_h.LENDING: R293. -/
def F.wldSeat_lending : Fld := ⟨.wldSeat, 6, 1, .ro, 0, .any⟩
/-- WLD_SEAT_h.FIXED: R293. -/
def F.wldSeat_fixed : Fld := ⟨.wldSeat, 7, 1, .ro, 0, .any⟩
/-- WLD_SEAT_h.FIXED_N: R293. -/
def F.wldSeat_fixedN : Fld := ⟨.wldSeat, 8, 5, .ro, 0, .any⟩
/-- WLD_SEAT_h.LENDS: R293. -/
def F.wldSeat_lends : Fld := ⟨.wldSeat, 24, 8, .ro, 0, .any⟩
/-- WLD_BELL_PAIRS_s.TARGETS: R299. -/
def F.wldBellPairs_targets : Fld := ⟨.wldBellPairs, 0, 64, .rw, 0, .any⟩
/-- WLD_DEED_TABLE.ENABLE: R311. -/
def F.wldDeedTable_enable : Fld := ⟨.wldDeedTable, 0, 1, .rwl, 0, .any⟩
/-- WLD_DEED_TABLE.READY: R311. -/
def F.wldDeedTable_ready : Fld := ⟨.wldDeedTable, 1, 1, .ro, 0, .any⟩
/-- WLD_DEED_TABLE.BASE: R311. -/
def F.wldDeedTable_base : Fld := ⟨.wldDeedTable, 16, 36, .rwl, 0, .any⟩
/-- WLD_DEED_TABLE.LOCK: R311. -/
def F.wldDeedTable_lock : Fld := ⟨.wldDeedTable, 63, 1, .lock, 0, .any⟩
/-- WLD_DEPO_DEED_n.VALID: R312. -/
def F.wldDepoDeed_valid : Fld := ⟨.wldDepoDeed, 0, 1, .rwl, 0, .any⟩
/-- WLD_DEPO_DEED_n.SPAN: R312. -/
def F.wldDepoDeed_span : Fld := ⟨.wldDepoDeed, 4, 12, .rwl, 0, .any⟩
/-- WLD_DEPO_DEED_n.BASE: R312. -/
def F.wldDepoDeed_base : Fld := ⟨.wldDepoDeed, 16, 36, .rwl, 0, .any⟩
/-- WLD_GPIO_WID_k.WID: R317. -/
def F.wldGpioWid_wid (k : Nat) : Fld := ⟨.wldGpioWid, (8 * k), 6, .rw, 0, .any⟩
/-- WLD_DEBUG_INV.EN: R320. -/
def F.wldDebugInv_en : Fld := ⟨.wldDebugInv, 2, 62, .rw, 0, .any⟩
/-- WLD_DEBUG_NONINV.EN: R320. -/
def F.wldDebugNoninv_en : Fld := ⟨.wldDebugNoninv, 2, 62, .rw, 0, .any⟩
/-- WLD_REGION_n.VALID: R310. -/
def F.wldRegion_valid : Fld := ⟨.wldRegion, 0, 1, .rwl, 0, .any⟩
/-- WLD_REGION_n.KIND: R310. -/
def F.wldRegion_kind : Fld := ⟨.wldRegion, 1, 2, .rwl, 0, (.range 0 1)⟩
/-- WLD_REGION_n.WID: R310. -/
def F.wldRegion_wid : Fld := ⟨.wldRegion, 8, 6, .rwl, 0, (.range 0 2)⟩
/-- WLD_REGION_n.BASE: R310. -/
def F.wldRegion_base : Fld := ⟨.wldRegion, 16, 36, .rwl, 0, .any⟩
/-- WLD_REGION_n.KEY_SLOT: R310. -/
def F.wldRegion_keySlot : Fld := ⟨.wldRegion, 52, 8, .rwl, 0, .any⟩
/-- WLD_REGION_LIM_n.LIMIT: R310. -/
def F.wldRegionLim_limit : Fld := ⟨.wldRegionLim, 16, 36, .rwl, 0, .any⟩
/-- WLD_KEY_SLOT_k.OWNER: R314. -/
def F.wldKeySlot_owner : Fld := ⟨.wldKeySlot, 0, 6, .ro, 0, .any⟩
/-- WLD_KEY_SLOT_k.VALID: R314. -/
def F.wldKeySlot_valid : Fld := ⟨.wldKeySlot, 7, 1, .ro, 0, .any⟩
/-- WLD_KEY_SLOT_k.EPOCH: R314. -/
def F.wldKeySlot_epoch : Fld := ⟨.wldKeySlot, 8, 8, .ro, 0, .any⟩
/-- WLD_KEY_SLOT_k.REFS: R314. -/
def F.wldKeySlot_refs : Fld := ⟨.wldKeySlot, 16, 32, .ro, 0, .any⟩
/-- WLD_KEY_CMD.OP: R315. -/
def F.wldKeyCmd_op : Fld := ⟨.wldKeyCmd, 0, 2, .wo, 0, .any⟩
/-- WLD_KEY_CMD.SLOT: R315. -/
def F.wldKeyCmd_slot : Fld := ⟨.wldKeyCmd, 8, 8, .wo, 0, .any⟩
/-- WLD_KEY_CMD.OWNER: R315. -/
def F.wldKeyCmd_owner : Fld := ⟨.wldKeyCmd, 16, 6, .wo, 0, .any⟩
/-- WLD_KEY_CMD.BUSY: R315. -/
def F.wldKeyCmd_busy : Fld := ⟨.wldKeyCmd, 32, 1, .ro, 0, .any⟩
/-- WLD_KEY_CMD.REJECT: R315. -/
def F.wldKeyCmd_reject : Fld := ⟨.wldKeyCmd, 33, 1, .w1c, 0, .any⟩
/-- WLD_DEED_ARG_w.PAGE: R305. -/
def F.wldDeedArg_page : Fld := ⟨.wldDeedArg, 0, 40, .rw, 0, .any⟩
/-- WLD_DEED_ARG_w.COUNT: R305. -/
def F.wldDeedArg_count : Fld := ⟨.wldDeedArg, 40, 20, .rw, 0, .any⟩
/-- WLD_DEED_CMD_w.OP: R305. -/
def F.wldDeedCmd_op : Fld := ⟨.wldDeedCmd, 0, 4, .wo, 0, .any⟩
/-- WLD_DEED_CMD_w.TARGET: R305. -/
def F.wldDeedCmd_target : Fld := ⟨.wldDeedCmd, 4, 6, .wo, 0, .any⟩
/-- WLD_DEED_CMD_w.SLOT: R305. -/
def F.wldDeedCmd_slot : Fld := ⟨.wldDeedCmd, 10, 8, .wo, 0, .any⟩
/-- WLD_DEED_STATUS_w.BUSY: R305. -/
def F.wldDeedStatus_busy : Fld := ⟨.wldDeedStatus, 0, 1, .ro, 0, .any⟩
/-- WLD_DEED_STATUS_w.RESULT: R305. -/
def F.wldDeedStatus_result : Fld := ⟨.wldDeedStatus, 4, 4, .ro, 0, .any⟩
/-- WLD_DEED_STATUS_w.DONE_PAGES: R305. -/
def F.wldDeedStatus_donePages : Fld := ⟨.wldDeedStatus, 32, 20, .ro, 0, .any⟩
/-- WLD_SLIP_BELL_w.BELL: R411. -/
def F.wldSlipBell_bell : Fld := ⟨.wldSlipBell, 0, 1, .wo, 0, .any⟩
/-- WLD_SLIP_BELL_w.RING_PAGE: R411. -/
def F.wldSlipBell_ringPage : Fld := ⟨.wldSlipBell, 12, 40, .rw, 0, .any⟩
/-- PWR_DOM_STATUS_d.STATE: R436. -/
def F.pwrDomStatus_state : Fld := ⟨.pwrDomStatus, 0, 3, .ro, 0, .any⟩
/-- PWR_DOM_STATUS_d.BUSY: R436. -/
def F.pwrDomStatus_busy : Fld := ⟨.pwrDomStatus, 3, 1, .ro, 0, .any⟩
/-- PWR_DOM_STATUS_d.PENDING: R436. -/
def F.pwrDomStatus_pending : Fld := ⟨.pwrDomStatus, 4, 1, .ro, 0, .any⟩
/-- PWR_DOM_STATUS_d.PENDING_ACTION: R436. -/
def F.pwrDomStatus_pendingAction : Fld := ⟨.pwrDomStatus, 5, 2, .ro, 0, .any⟩
/-- PWR_DOM_STATUS_d.PINNED: R436. -/
def F.pwrDomStatus_pinned : Fld := ⟨.pwrDomStatus, 7, 1, .ro, 0, .any⟩
/-- PWR_DOM_STATUS_d.LAST_REFUSER: R436. -/
def F.pwrDomStatus_lastRefuser : Fld := ⟨.pwrDomStatus, 8, 8, .ro, 0, .any⟩
/-- PWR_DOM_STATUS_d.OWNER: R436. -/
def F.pwrDomStatus_owner : Fld := ⟨.pwrDomStatus, 16, 6, .ro, 0, .any⟩
/-- PWR_DOM_STATUS_d.N_EFF: R436. -/
def F.pwrDomStatus_nEff : Fld := ⟨.pwrDomStatus, 24, 5, .ro, 0, .any⟩
/-- PWR_DOM_STATUS_d.IDLE_US: R436. -/
def F.pwrDomStatus_idleUs : Fld := ⟨.pwrDomStatus, 32, 17, .ro, 1000, .any⟩
/-- PWR_DOM_COUNT_d.ENTRIES: R436. -/
def F.pwrDomCount_entries : Fld := ⟨.pwrDomCount, 0, 16, .ro, 0, .any⟩
/-- PWR_DOM_COUNT_d.REFUSED: R436. -/
def F.pwrDomCount_refused : Fld := ⟨.pwrDomCount, 16, 16, .ro, 0, .any⟩
/-- PWR_DOM_COUNT_d.ABORTED: R436. -/
def F.pwrDomCount_aborted : Fld := ⟨.pwrDomCount, 32, 16, .ro, 0, .any⟩
/-- PWR_DOM_COUNT_d.SUPERSEDED: R436. -/
def F.pwrDomCount_superseded : Fld := ⟨.pwrDomCount, 48, 16, .ro, 0, .any⟩
/-- PWR_DOM_REQ.DOMAIN: R437. -/
def F.pwrDomReq_domain : Fld := ⟨.pwrDomReq, 0, 9, .wo, 0, (.range 0 440)⟩
/-- PWR_DOM_REQ.ACTION: R437. -/
def F.pwrDomReq_action : Fld := ⟨.pwrDomReq, 9, 2, .wo, 0, (.range 0 2)⟩
/-- PWR_DOM_REQ.REQ_WID: R437. -/
def F.pwrDomReq_reqWid : Fld := ⟨.pwrDomReq, 16, 6, .wo, 0, .any⟩
/-- PWR_DOM_REQ.TIMER_US: R437. -/
def F.pwrDomReq_timerUs : Fld := ⟨.pwrDomReq, 32, 17, .wo, 0, (.range 50 100000)⟩
/-- PWR_REFUSER_COUNT_k.REFUSALS: R440. -/
def F.pwrRefuserCount_refusals : Fld := ⟨.pwrRefuserCount, 0, 32, .ro, 0, .any⟩
/-- PWR_REFUSER_COUNT_k.ABORTS: R440. -/
def F.pwrRefuserCount_aborts : Fld := ⟨.pwrRefuserCount, 32, 32, .ro, 0, .any⟩
/-- PWR_MODE_STATUS.MODE: R444. -/
def F.pwrModeStatus_mode : Fld := ⟨.pwrModeStatus, 0, 3, .ro, 3, .any⟩
/-- PWR_MODE_STATUS.TRANSITION: R444. -/
def F.pwrModeStatus_transition : Fld := ⟨.pwrModeStatus, 3, 1, .ro, 0, .any⟩
/-- PWR_MODE_STATUS.ORIGIN: R444. -/
def F.pwrModeStatus_origin : Fld := ⟨.pwrModeStatus, 4, 3, .ro, 0, .any⟩
/-- PWR_MODE_STATUS.REJECT: R444. -/
def F.pwrModeStatus_reject : Fld := ⟨.pwrModeStatus, 7, 1, .w1c, 0, .any⟩
/-- PWR_MODE_STATUS.ABORTS: R444. -/
def F.pwrModeStatus_aborts : Fld := ⟨.pwrModeStatus, 8, 8, .ro, 0, .any⟩
/-- PWR_MODE_STATUS.LAST_WAKE: R444. -/
def F.pwrModeStatus_lastWake : Fld := ⟨.pwrModeStatus, 16, 6, .ro, 0, .any⟩
/-- PWR_MODE_STATUS.CHANGES: R444. -/
def F.pwrModeStatus_changes : Fld := ⟨.pwrModeStatus, 32, 32, .ro, 0, .any⟩
/-- PWR_MODE_CTRL.MODE: R444. -/
def F.pwrModeCtrl_mode : Fld := ⟨.pwrModeCtrl, 0, 3, .wo, 0, .any⟩
/-- PWR_WAKE_EN.I3C: R444. -/
def F.pwrWakeEn_i3c : Fld := ⟨.pwrWakeEn, 0, 1, .rw, 1, .any⟩
/-- PWR_WAKE_EN.APLIC: R444. -/
def F.pwrWakeEn_aplic : Fld := ⟨.pwrWakeEn, 1, 41, .rw, 0, .any⟩
/-- PWR_WAKE_EN.HP0_EP: R444. -/
def F.pwrWakeEn_hp0Ep : Fld := ⟨.pwrWakeEn, 48, 1, .rw, 0, .any⟩
/-- PWR_WAKE_EN.TIMER: R444. -/
def F.pwrWakeEn_timer : Fld := ⟨.pwrWakeEn, 49, 1, .rw, 1, .any⟩
/-- PWR_WATCH_CFG.PERIOD_MS: R451. -/
def F.pwrWatchCfg_periodMs : Fld := ⟨.pwrWatchCfg, 0, 16, .rw, 1000, (.range 1 60000)⟩
/-- PWR_WATCH_CFG.SCAN_EN: R451. -/
def F.pwrWatchCfg_scanEn : Fld := ⟨.pwrWatchCfg, 16, 1, .rw, 0, .any⟩
/-- PWR_WATCH_CFG.TEMP_MAX: R451. -/
def F.pwrWatchCfg_tempMax : Fld := ⟨.pwrWatchCfg, 24, 8, .rw, 85, .any⟩
/-- PWR_WATCH_CFG.V_DEV_MV: R451. -/
def F.pwrWatchCfg_vDevMv : Fld := ⟨.pwrWatchCfg, 32, 16, .rw, 30, .any⟩
/-- PWR_WATCH_CFG.AGE_PPM: R451. -/
def F.pwrWatchCfg_agePpm : Fld := ⟨.pwrWatchCfg, 48, 16, .rw, 2000, .any⟩
/-- PWR_WATCH_STATUS.WAKES: R451. -/
def F.pwrWatchStatus_wakes : Fld := ⟨.pwrWatchStatus, 0, 32, .ro, 0, .any⟩
/-- PWR_WATCH_STATUS.SKIPPED: R451. -/
def F.pwrWatchStatus_skipped : Fld := ⟨.pwrWatchStatus, 32, 16, .ro, 0, .any⟩
/-- PWR_WATCH_STATUS.LAST_CAUSE: R451. -/
def F.pwrWatchStatus_lastCause : Fld := ⟨.pwrWatchStatus, 48, 5, .ro, 0, .any⟩
/-- PWR_LIMIT_CTRL.LIMIT_W: R458. -/
def F.pwrLimitCtrl_limitW : Fld := ⟨.pwrLimitCtrl, 0, 10, .rw, 300, .any⟩
/-- PWR_LIMIT_STATUS.POWER_W: R458. -/
def F.pwrLimitStatus_powerW : Fld := ⟨.pwrLimitStatus, 0, 10, .ro, 0, .any⟩
/-- PWR_LIMIT_STATUS.LIMITING: R458. -/
def F.pwrLimitStatus_limiting : Fld := ⟨.pwrLimitStatus, 10, 1, .ro, 0, .any⟩
/-- PWR_LIMIT_STATUS.FIXED_LOWERED: R458. -/
def F.pwrLimitStatus_fixedLowered : Fld := ⟨.pwrLimitStatus, 11, 1, .w1c, 0, .any⟩
/-- PWR_LIMIT_STATUS.THROTTLED: R458. -/
def F.pwrLimitStatus_throttled : Fld := ⟨.pwrLimitStatus, 12, 1, .ro, 0, .any⟩
/-- PWR_LIMIT_STATUS.CEILING_W: R458. -/
def F.pwrLimitStatus_ceilingW : Fld := ⟨.pwrLimitStatus, 16, 10, .ro, 0, .any⟩
/-- PWR_LIMIT_STATUS.THROTTLE_EVENTS: R458. -/
def F.pwrLimitStatus_throttleEvents : Fld := ⟨.pwrLimitStatus, 32, 32, .ro, 0, .any⟩
/-- MLG_CTRL.ROLL_EN: R473. -/
def F.mlgCtrl_rollEn : Fld := ⟨.mlgCtrl, 0, 1, .rw, 1, .any⟩
/-- MLG_CTRL.FLOOR_PS: R473. -/
def F.mlgCtrl_floorPs : Fld := ⟨.mlgCtrl, 8, 8, .rwl, 10, (.range 8 255)⟩
/-- MLG_CTRL.TARGET_PS: R473. -/
def F.mlgCtrl_targetPs : Fld := ⟨.mlgCtrl, 16, 8, .rwl, 25, .any⟩
/-- MLG_CTRL.NOTIFY_MASK: R473. -/
def F.mlgCtrl_notifyMask : Fld := ⟨.mlgCtrl, 24, 8, .rw, 0, .any⟩
/-- MLG_CTRL.LOCK: R473. -/
def F.mlgCtrl_lock : Fld := ⟨.mlgCtrl, 63, 1, .lock, 0, .any⟩
/-- MLG_STATUS.RESERVES_LEFT: R473. -/
def F.mlgStatus_reservesLeft : Fld := ⟨.mlgStatus, 0, 8, .ro, 16, .any⟩
/-- MLG_STATUS.CORES_RETIRED: R473. -/
def F.mlgStatus_coresRetired : Fld := ⟨.mlgStatus, 8, 8, .ro, 0, .any⟩
/-- MLG_STATUS.NEXT_TILE: R473. -/
def F.mlgStatus_nextTile : Fld := ⟨.mlgStatus, 16, 8, .ro, 0, .any⟩
/-- MLG_STATUS.SURVEY_DUE: R473. -/
def F.mlgStatus_surveyDue : Fld := ⟨.mlgStatus, 24, 1, .ro, 0, .any⟩
/-- MLG_STATUS.LEDGER_REBUILT: R473. -/
def F.mlgStatus_ledgerRebuilt : Fld := ⟨.mlgStatus, 25, 1, .ro, 0, .any⟩
/-- MLG_STATUS.PROFILE_EXCEEDED: R473. -/
def F.mlgStatus_profileExceeded : Fld := ⟨.mlgStatus, 26, 1, .ro, 0, .any⟩
/-- MLG_STATUS.RESERVES_EXHAUSTED: R473. -/
def F.mlgStatus_reservesExhausted : Fld := ⟨.mlgStatus, 27, 1, .ro, 0, .any⟩
/-- MLG_STATUS.SERVICE_HOURS: R473. -/
def F.mlgStatus_serviceHours : Fld := ⟨.mlgStatus, 32, 32, .ro, 0, .any⟩
/-- ANL_CTRL.ARCHIVE_EN: R506. -/
def F.anlCtrl_archiveEn : Fld := ⟨.anlCtrl, 0, 1, .rw, 1, .any⟩
/-- ANL_CTRL.COMMIT_S: R506. -/
def F.anlCtrl_commitS : Fld := ⟨.anlCtrl, 8, 8, .rw, 10, (.range 1 255)⟩
/-- ANL_CTRL.LOCK: R506. -/
def F.anlCtrl_lock : Fld := ⟨.anlCtrl, 63, 1, .lock, 0, .any⟩
/-- ANL_STATUS.USED: R506. -/
def F.anlStatus_used : Fld := ⟨.anlStatus, 0, 11, .ro, 0, .any⟩
/-- ANL_STATUS.UNCOMMITTED: R506. -/
def F.anlStatus_uncommitted : Fld := ⟨.anlStatus, 11, 11, .ro, 0, .any⟩
/-- ANL_STATUS.FROZEN: R506. -/
def F.anlStatus_frozen : Fld := ⟨.anlStatus, 22, 1, .ro, 0, .any⟩
/-- ANL_STATUS.ARCHIVE_OK: R506. -/
def F.anlStatus_archiveOk : Fld := ⟨.anlStatus, 23, 1, .ro, 0, .any⟩
/-- ANL_STATUS.HELD: R506. -/
def F.anlStatus_held : Fld := ⟨.anlStatus, 24, 6, .ro, 0, .any⟩
/-- ANL_STATUS.TIME_UNSET: R506. -/
def F.anlStatus_timeUnset : Fld := ⟨.anlStatus, 30, 1, .ro, 1, .any⟩
/-- ANL_STATUS.FATAL_CAUSE: R506. -/
def F.anlStatus_fatalCause : Fld := ⟨.anlStatus, 32, 8, .ro, 0, .any⟩
/-- ANL_STATUS.FATAL_COUNT: R506. -/
def F.anlStatus_fatalCount : Fld := ⟨.anlStatus, 40, 8, .ro, 0, .any⟩
/-- ANL_STATUS.DROPPED: R506. -/
def F.anlStatus_dropped : Fld := ⟨.anlStatus, 48, 16, .ro, 0, .any⟩
/-- ANL_NEXT_SEQ.SEQ: R506. -/
def F.anlNextSeq_seq : Fld := ⟨.anlNextSeq, 0, 64, .ro, 0, .any⟩
/-- ANL_CALENDAR.TIME: R506. -/
def F.anlCalendar_time : Fld := ⟨.anlCalendar, 0, 64, .ro, 0, .any⟩
/-- ANL_CAL_SET.TIME: R506. -/
def F.anlCalSet_time : Fld := ⟨.anlCalSet, 0, 64, .wo, 0, .any⟩
/-- ANL_RATE_n.REFILL_MS: R507. -/
def F.anlRate_refillMs : Fld := ⟨.anlRate, 0, 16, .rwl, 0, .any⟩
/-- ANL_RATE_n.BURST: R507. -/
def F.anlRate_burst : Fld := ⟨.anlRate, 16, 8, .rwl, 0, .any⟩
/-- ANL_RATE_n.SNAP_SET: R507. -/
def F.anlRate_snapSet : Fld := ⟨.anlRate, 24, 4, .rwl, 0, .any⟩
/-- ANL_RATE_n.SNAP_EN: R507. -/
def F.anlRate_snapEn : Fld := ⟨.anlRate, 28, 1, .rwl, 0, .any⟩
/-- ANL_RATE_n.SUPPRESSED: R507. -/
def F.anlRate_suppressed : Fld := ⟨.anlRate, 32, 16, .ro, 0, .any⟩
/-- ANL_SNAP_s_k.OFFSET: R508. -/
def F.anlSnap_offset (k : Nat) : Fld := ⟨.anlSnap, (32 * k), 19, .rwl, 0, .any⟩
/-- ANL_SNAP_s_k.VALID: R508. -/
def F.anlSnap_valid (k : Nat) : Fld := ⟨.anlSnap, (32 * k + 23), 1, .rwl, 0, .any⟩
/-- ANL_SNAP_s_k.STOP: R508. -/
def F.anlSnap_stop (k : Nat) : Fld := ⟨.anlSnap, (32 * k + 24), 8, .rwl, 0, (.upTo 159 [254, 255])⟩
/-- PMU_FOLIO_CTRL.ENABLE: R518. -/
def F.pmuFolioCtrl_enable : Fld := ⟨.pmuFolioCtrl, 0, 1, .rw, 0, .any⟩
/-- PMU_FOLIO_CTRL.GROUPS: R518. -/
def F.pmuFolioCtrl_groups : Fld := ⟨.pmuFolioCtrl, 1, 5, .rw, 0, .any⟩
/-- PMU_FOLIO_CTRL.PERIOD_US: R518. -/
def F.pmuFolioCtrl_periodUs : Fld := ⟨.pmuFolioCtrl, 8, 20, .rw, 1000, (.range 1 1000000)⟩
/-- PMU_FOLIO_CTRL.OWNER: R518. -/
def F.pmuFolioCtrl_owner : Fld := ⟨.pmuFolioCtrl, 32, 6, .ro, 0, .any⟩
/-- PMU_FOLIO_BUF.BASE: R518. -/
def F.pmuFolioBuf_base : Fld := ⟨.pmuFolioBuf, 12, 40, .rw, 0, .any⟩
/-- PMU_FOLIO_RING.ENTRIES: R518. -/
def F.pmuFolioRing_entries : Fld := ⟨.pmuFolioRing, 0, 16, .rw, 0, .any⟩
/-- PMU_FOLIO_STATUS.SEQ: R518. -/
def F.pmuFolioStatus_seq : Fld := ⟨.pmuFolioStatus, 0, 32, .ro, 0, .any⟩
/-- PMU_FOLIO_STATUS.SKIPPED: R518. -/
def F.pmuFolioStatus_skipped : Fld := ⟨.pmuFolioStatus, 32, 16, .ro, 0, .any⟩
/-- PMU_FOLIO_STATUS.REJECT: R518. -/
def F.pmuFolioStatus_reject : Fld := ⟨.pmuFolioStatus, 48, 1, .w1c, 0, .any⟩
/-- PMU_FOLIO_STATUS.WRITE_ERR: R518. -/
def F.pmuFolioStatus_writeErr : Fld := ⟨.pmuFolioStatus, 49, 1, .ro, 0, .any⟩
/-- KPR_STATUS.BOOT_STAGE: R404. -/
def F.kprStatus_bootStage : Fld := ⟨.kprStatus, 0, 4, .ro, 0, .any⟩
/-- KPR_STATUS.SLOT_B: R404. -/
def F.kprStatus_slotB : Fld := ⟨.kprStatus, 4, 4, .ro, 0, .any⟩
/-- KPR_STATUS.ABSENT: R404. -/
def F.kprStatus_absent : Fld := ⟨.kprStatus, 8, 4, .ro, 0, .any⟩
/-- KPR_STATUS.ATTEST_READY: R404. -/
def F.kprStatus_attestReady : Fld := ⟨.kprStatus, 12, 1, .ro, 0, .any⟩
/-- KPR_STATUS.DICE_LOCKED: R404. -/
def F.kprStatus_diceLocked : Fld := ⟨.kprStatus, 13, 1, .ro, 0, .any⟩
/-- KPR_STATUS.PROVISIONED: R404. -/
def F.kprStatus_provisioned : Fld := ⟨.kprStatus, 14, 1, .ro, 0, .any⟩
/-- KPR_STATUS.RESTARTS: R404. -/
def F.kprStatus_restarts : Fld := ⟨.kprStatus, 16, 8, .ro, 0, .any⟩
/-- KPR_WDT.KICK: R404. -/
def F.kprWdt_kick : Fld := ⟨.kprWdt, 0, 1, .wo, 0, .any⟩
/-- KPR_WDT.WARNED: R404. -/
def F.kprWdt_warned : Fld := ⟨.kprWdt, 1, 1, .ro, 0, .any⟩
/-- KPR_WDT.TIMEOUT_MS: R404. -/
def F.kprWdt_timeoutMs : Fld := ⟨.kprWdt, 16, 14, .rwl, 1000, .any⟩
/-- KPR_WDT.LOCK: R404. -/
def F.kprWdt_lock : Fld := ⟨.kprWdt, 63, 1, .lock, 0, .any⟩
/-- KPR_DEBUG_CONSENT.CONSENT: R405. -/
def F.kprDebugConsent_consent : Fld := ⟨.kprDebugConsent, 2, 62, .rw, 0, .any⟩
/-- KPR_LIMIT_COUNT.VF_CLAMPS: R404. -/
def F.kprLimitCount_vfClamps : Fld := ⟨.kprLimitCount, 0, 16, .ro, 0, .any⟩
/-- KPR_LIMIT_COUNT.VR_REFUSALS: R404. -/
def F.kprLimitCount_vrRefusals : Fld := ⟨.kprLimitCount, 16, 16, .ro, 0, .any⟩
/-- KPR_LIMIT_COUNT.GPIO_DELAYS: R404. -/
def F.kprLimitCount_gpioDelays : Fld := ⟨.kprLimitCount, 32, 16, .ro, 0, .any⟩
/-- KPR_LIMIT_COUNT.FUSE_REFUSALS: R404. -/
def F.kprLimitCount_fuseRefusals : Fld := ⟨.kprLimitCount, 48, 16, .ro, 0, .any⟩
/-- CUR_CTRL.RUN: R386. -/
def F.curCtrl_run : Fld := ⟨.curCtrl, 0, 1, .rw, 0, .any⟩
/-- CUR_CTRL.MEM_BASE: R386. -/
def F.curCtrl_memBase : Fld := ⟨.curCtrl, 31, 21, .rwl, 0, .any⟩
/-- CUR_CTRL.LOCK: R386. -/
def F.curCtrl_lock : Fld := ⟨.curCtrl, 63, 1, .lock, 0, .any⟩
/-- CUR_XIP.BASE: R386. -/
def F.curXip_base : Fld := ⟨.curXip, 0, 16, .rwl, 0, .any⟩
/-- CUR_XIP.PAGES: R386. -/
def F.curXip_pages : Fld := ⟨.curXip, 16, 16, .rwl, 0, .any⟩
/-- CUR_STATUS.STATE: R386. -/
def F.curStatus_state : Fld := ⟨.curStatus, 0, 2, .ro, 0, .any⟩
/-- CUR_STATUS.WARNED: R386. -/
def F.curStatus_warned : Fld := ⟨.curStatus, 2, 1, .ro, 0, .any⟩
/-- CUR_STATUS.RESTARTS: R386. -/
def F.curStatus_restarts : Fld := ⟨.curStatus, 16, 8, .ro, 0, .any⟩
/-- MP_CFG.DENSITY: R285. -/
def F.mpCfg_density : Fld := ⟨.mpCfg, 0, 2, .rwl, 1, (.range 0 2)⟩
/-- MP_CFG.CLAMSHELL: R285. -/
def F.mpCfg_clamshell : Fld := ⟨.mpCfg, 2, 1, .rwl, 0, .any⟩
/-- MP_CFG.MIRROR_GROUPS: R285. -/
def F.mpCfg_mirrorGroups : Fld := ⟨.mpCfg, 4, 16, .rwl, 0, .any⟩
/-- MP_CFG.START: R285. -/
def F.mpCfg_start : Fld := ⟨.mpCfg, 20, 1, .wo, 0, .any⟩
/-- MP_CFG.LOCK: R285. -/
def F.mpCfg_lock : Fld := ⟨.mpCfg, 63, 1, .lock, 0, .any⟩
/-- MP_STATUS.TRAIN_STATE: R286. -/
def F.mpStatus_trainState : Fld := ⟨.mpStatus, 0, 4, .ro, 0, .any⟩
/-- MP_STATUS.FAIL_STEP: R286. -/
def F.mpStatus_failStep : Fld := ⟨.mpStatus, 4, 4, .ro, 0, .any⟩
/-- MP_STATUS.REJECT: R286. -/
def F.mpStatus_reject : Fld := ⟨.mpStatus, 8, 1, .w1c, 0, .any⟩
/-- MP_STATUS.RETIRED: R286. -/
def F.mpStatus_retired : Fld := ⟨.mpStatus, 9, 3, .ro, 0, .any⟩
/-- MP_STATUS.MIRROR_LINK_UP: R286. -/
def F.mpStatus_mirrorLinkUp : Fld := ⟨.mpStatus, 12, 1, .ro, 0, .any⟩
/-- MP_STATUS.GROUPS: R286. -/
def F.mpStatus_groups : Fld := ⟨.mpStatus, 32, 16, .ro, 0, .any⟩
/-- MP_LOCAL_TOP.TOP: R287. -/
def F.mpLocalTop_top : Fld := ⟨.mpLocalTop, 0, 52, .ro, 25165824, .any⟩
/-- MP_LANE_RETIRE.LANE: R287. -/
def F.mpLaneRetire_lane (k : Nat) : Fld := ⟨.mpLaneRetire, (8 * k), 6, .rws, 0, .any⟩
/-- MP_LANE_RETIRE.VALID: R287. -/
def F.mpLaneRetire_valid (k : Nat) : Fld := ⟨.mpLaneRetire, (8 * k + 7), 1, .rws, 0, .any⟩
/-- MP_SCRUB_CTRL.PATROL_EN: R288. -/
def F.mpScrubCtrl_patrolEn : Fld := ⟨.mpScrubCtrl, 0, 1, .rw, 1, .any⟩
/-- MP_SCRUB_CTRL.DEMAND_EN: R288. -/
def F.mpScrubCtrl_demandEn : Fld := ⟨.mpScrubCtrl, 1, 1, .rw, 1, .any⟩
/-- MP_SCRUB_CTRL.PASS_HOURS: R288. -/
def F.mpScrubCtrl_passHours : Fld := ⟨.mpScrubCtrl, 8, 8, .rw, 24, (.range 1 255)⟩
/-- MP_SCRUB_STATUS.POSITION: R288. -/
def F.mpScrubStatus_position : Fld := ⟨.mpScrubStatus, 0, 27, .ro, 0, .any⟩
/-- MP_SCRUB_STATUS.PASSES: R288. -/
def F.mpScrubStatus_passes : Fld := ⟨.mpScrubStatus, 32, 16, .ro, 0, .any⟩
/-- MP_ERR_COUNT.CORRECTED: R289. -/
def F.mpErrCount_corrected : Fld := ⟨.mpErrCount, 0, 16, .ro, 0, .any⟩
/-- MP_ERR_COUNT.UNCORRECTABLE: R289. -/
def F.mpErrCount_uncorrectable : Fld := ⟨.mpErrCount, 16, 16, .ro, 0, .any⟩
/-- MP_ERR_COUNT.EDC_RETRIES: R289. -/
def F.mpErrCount_edcRetries : Fld := ⟨.mpErrCount, 32, 16, .ro, 0, .any⟩
/-- MP_ERR_COUNT.ECHO_MISMATCH: R289. -/
def F.mpErrCount_echoMismatch : Fld := ⟨.mpErrCount, 48, 8, .ro, 0, .any⟩
/-- MP_ERR_COUNT.MIRROR_FALLBACKS: R289. -/
def F.mpErrCount_mirrorFallbacks : Fld := ⟨.mpErrCount, 56, 8, .ro, 0, .any⟩
/-- AXG_PORT_CTRL.ENABLE: R255. -/
def F.axgPortCtrl_enable : Fld := ⟨.axgPortCtrl, 0, 1, .rw, 0, .any⟩
/-- AXG_PORT_CTRL.ALLOW_16G: R255. -/
def F.axgPortCtrl_allow16g : Fld := ⟨.axgPortCtrl, 1, 1, .rwl, 1, .any⟩
/-- AXG_PORT_CTRL.OPEN: R255. -/
def F.axgPortCtrl_open : Fld := ⟨.axgPortCtrl, 2, 1, .rw, 0, .any⟩
/-- AXG_PORT_CTRL.ATTESTED: R255. -/
def F.axgPortCtrl_attested : Fld := ⟨.axgPortCtrl, 3, 1, .rw, 0, .any⟩
/-- AXG_PORT_CTRL.QUARANTINE: R255. -/
def F.axgPortCtrl_quarantine : Fld := ⟨.axgPortCtrl, 4, 1, .wo, 0, .any⟩
/-- AXG_PORT_CTRL.RECAL: R255. -/
def F.axgPortCtrl_recal : Fld := ⟨.axgPortCtrl, 5, 1, .wo, 0, .any⟩
/-- AXG_PORT_CTRL.STRIKE_LIMIT: R255. -/
def F.axgPortCtrl_strikeLimit : Fld := ⟨.axgPortCtrl, 16, 4, .rw, 8, .any⟩
/-- AXG_PORT_CTRL.LOCK: R255. -/
def F.axgPortCtrl_lock : Fld := ⟨.axgPortCtrl, 63, 1, .lock, 0, .any⟩
/-- AXG_PORT_STATUS.LINK_STATE: R256. -/
def F.axgPortStatus_linkState : Fld := ⟨.axgPortStatus, 0, 4, .ro, 0, .any⟩
/-- AXG_PORT_STATUS.RATE: R256. -/
def F.axgPortStatus_rate : Fld := ⟨.axgPortStatus, 4, 1, .ro, 0, .any⟩
/-- AXG_PORT_STATUS.MODULES: R256. -/
def F.axgPortStatus_modules : Fld := ⟨.axgPortStatus, 5, 2, .ro, 0, .any⟩
/-- AXG_PORT_STATUS.DECLARE_FAIL: R256. -/
def F.axgPortStatus_declareFail : Fld := ⟨.axgPortStatus, 7, 1, .ro, 0, .any⟩
/-- AXG_PORT_STATUS.REJECT: R256. -/
def F.axgPortStatus_reject : Fld := ⟨.axgPortStatus, 8, 1, .w1c, 0, .any⟩
/-- AXG_PORT_STATUS.RECLAIM_BUSY: R256. -/
def F.axgPortStatus_reclaimBusy : Fld := ⟨.axgPortStatus, 9, 1, .ro, 0, .any⟩
/-- AXG_PORT_STATUS.RECLAIMED: R256. -/
def F.axgPortStatus_reclaimed : Fld := ⟨.axgPortStatus, 10, 1, .ro, 0, .any⟩
/-- AXG_PORT_STATUS.REPAIRED_M0: R256. -/
def F.axgPortStatus_repairedM0 : Fld := ⟨.axgPortStatus, 16, 4, .ro, 0, .any⟩
/-- AXG_PORT_STATUS.REPAIRED_M1: R256. -/
def F.axgPortStatus_repairedM1 : Fld := ⟨.axgPortStatus, 20, 4, .ro, 0, .any⟩
/-- AXG_ANNEX_ID.VENDOR: R257. -/
def F.axgAnnexId_vendor : Fld := ⟨.axgAnnexId, 0, 16, .ro, 0, .any⟩
/-- AXG_ANNEX_ID.DEVICE: R257. -/
def F.axgAnnexId_device : Fld := ⟨.axgAnnexId, 16, 16, .ro, 0, .any⟩
/-- AXG_ANNEX_ID.REVISION: R257. -/
def F.axgAnnexId_revision : Fld := ⟨.axgAnnexId, 32, 8, .ro, 0, .any⟩
/-- AXG_LINK_COUNT.CRC_ERRORS: R257. -/
def F.axgLinkCount_crcErrors : Fld := ⟨.axgLinkCount, 0, 16, .ro, 0, .any⟩
/-- AXG_LINK_COUNT.REPLAYS: R257. -/
def F.axgLinkCount_replays : Fld := ⟨.axgLinkCount, 16, 16, .ro, 0, .any⟩
/-- AXG_LINK_COUNT.RETRAINS: R257. -/
def F.axgLinkCount_retrains : Fld := ⟨.axgLinkCount, 32, 8, .ro, 0, .any⟩
/-- AXG_LINK_COUNT.NARROWS: R257. -/
def F.axgLinkCount_narrows : Fld := ⟨.axgLinkCount, 40, 8, .ro, 0, .any⟩
/-- AXG_QSTATUS.CAUSE: R254. -/
def F.axgQstatus_cause : Fld := ⟨.axgQstatus, 0, 8, .ro, 0, .any⟩
/-- AXG_QSTATUS.CAUSE_AGENT: R254. -/
def F.axgQstatus_causeAgent : Fld := ⟨.axgQstatus, 8, 4, .ro, 0, .any⟩
/-- AXG_QSTATUS.STRIKES: R254. -/
def F.axgQstatus_strikes : Fld := ⟨.axgQstatus, 16, 8, .ro, 0, .any⟩
/-- AXG_QSTATUS.AGENT_QUARANTINED: R254. -/
def F.axgQstatus_agentQuarantined : Fld := ⟨.axgQstatus, 32, 16, .ro, 0, .any⟩
/-- AXG_QSTATUS.PORT_QUARANTINED: R254. -/
def F.axgQstatus_portQuarantined : Fld := ⟨.axgQstatus, 63, 1, .ro, 0, .any⟩
/-- AXG_DECLARED.CLASS: R257. -/
def F.axgDeclared_class (k : Nat) : Fld := ⟨.axgDeclared, (4 * k), 4, .ro, 0, .any⟩
/-- AXG_FENCE.FAILED: R541. -/
def F.axgFence_failed : Fld := ⟨.axgFence, 0, 1, .ro, 0, .any⟩
/-- AXG_AGENT_CFG_j.CLASS: R237. -/
def F.axgAgentCfg_class : Fld := ⟨.axgAgentCfg, 0, 3, .rwl, 0, (.range 0 4)⟩
/-- AXG_AGENT_CFG_j.ENABLE: R237. -/
def F.axgAgentCfg_enable : Fld := ⟨.axgAgentCfg, 3, 1, .rw, 0, .any⟩
/-- AXG_AGENT_CFG_j.MAX_OUT: R237. -/
def F.axgAgentCfg_maxOut : Fld := ⟨.axgAgentCfg, 8, 10, .rw, 64, .any⟩
/-- AXG_AGENT_CFG_j.SNOOP_TO: R237. -/
def F.axgAgentCfg_snoopTo : Fld := ⟨.axgAgentCfg, 20, 3, .rw, 5, .any⟩
/-- AXG_AGENT_CFG_j.RESP_TO: R237. -/
def F.axgAgentCfg_respTo : Fld := ⟨.axgAgentCfg, 24, 3, .rw, 6, .any⟩
/-- AXG_AGENT_CFG_j.MMIO_TO: R237. -/
def F.axgAgentCfg_mmioTo : Fld := ⟨.axgAgentCfg, 28, 3, .rw, 7, .any⟩
/-- AXG_AGENT_CFG_j.ACK_TO: R237. -/
def F.axgAgentCfg_ackTo : Fld := ⟨.axgAgentCfg, 32, 3, .rw, 5, .any⟩
/-- AXG_GRANT_j.WIDS: R240. -/
def F.axgGrant_wids : Fld := ⟨.axgGrant, 2, 62, .rw, 0, .any⟩
/-- AXG_WIN_n.VALID: R242. -/
def F.axgWin_valid : Fld := ⟨.axgWin, 0, 1, .rw, 0, .any⟩
/-- AXG_WIN_n.READ: R242. -/
def F.axgWin_read : Fld := ⟨.axgWin, 1, 1, .rw, 0, .any⟩
/-- AXG_WIN_n.WRITE: R242. -/
def F.axgWin_write : Fld := ⟨.axgWin, 2, 1, .rw, 0, .any⟩
/-- AXG_WIN_n.CACHE: R242. -/
def F.axgWin_cache : Fld := ⟨.axgWin, 3, 1, .rw, 0, .any⟩
/-- AXG_WIN_n.BASE: R242. -/
def F.axgWin_base : Fld := ⟨.axgWin, 16, 36, .rw, 0, .any⟩
/-- AXG_WIN_LIM_n.AGENTS: R242. -/
def F.axgWinLim_agents : Fld := ⟨.axgWinLim, 0, 16, .rw, 0, .any⟩
/-- AXG_WIN_LIM_n.LIMIT: R242. -/
def F.axgWinLim_limit : Fld := ⟨.axgWinLim, 16, 36, .rw, 0, .any⟩
/-- AXG_MMIO_n.VALID: R247. -/
def F.axgMmio_valid : Fld := ⟨.axgMmio, 0, 1, .rw, 0, .any⟩
/-- AXG_MMIO_n.ENDPOINT: R247. -/
def F.axgMmio_endpoint : Fld := ⟨.axgMmio, 8, 8, .rw, 0, (.range 0 15)⟩
/-- AXG_MMIO_n.BASE: R247. -/
def F.axgMmio_base : Fld := ⟨.axgMmio, 16, 36, .rw, 0, .any⟩
/-- AXG_MMIO_LIM_n.LIMIT: R247. -/
def F.axgMmioLim_limit : Fld := ⟨.axgMmioLim, 16, 36, .rw, 0, .any⟩
/-- AXG_WIN_CTRL.COMMIT: R245. -/
def F.axgWinCtrl_commit : Fld := ⟨.axgWinCtrl, 0, 1, .wo, 0, .any⟩
/-- AXG_WIN_CTRL.PENDING: R245. -/
def F.axgWinCtrl_pending : Fld := ⟨.axgWinCtrl, 1, 1, .ro, 0, .any⟩
/-- AXG_WIN_CTRL.COMMIT_REJECT: R245. -/
def F.axgWinCtrl_commitReject : Fld := ⟨.axgWinCtrl, 2, 1, .w1c, 0, .any⟩
/-- AXG_WIN_CTRL.COMMIT_SEQ: R245. -/
def F.axgWinCtrl_commitSeq : Fld := ⟨.axgWinCtrl, 8, 8, .ro, 0, .any⟩
/-- AXG_WIN_CTRL.OLD_OPEN: R245. -/
def F.axgWinCtrl_oldOpen : Fld := ⟨.axgWinCtrl, 16, 16, .ro, 0, .any⟩
/-- HP_PORT_CFG.BIFUR: R356. -/
def F.hpPortCfg_bifur : Fld := ⟨.hpPortCfg, 0, 2, .rwl, 0, .any⟩
/-- HP_PORT_CFG.ENDPOINT: R356. -/
def F.hpPortCfg_endpoint : Fld := ⟨.hpPortCfg, 2, 1, .rwl, 0, .any⟩
/-- HP_PORT_CFG.MAX_RATE: R356. -/
def F.hpPortCfg_maxRate : Fld := ⟨.hpPortCfg, 4, 4, .rwl, 6, (.range 1 6)⟩
/-- HP_PORT_CFG.DEFAULT_WID: R356. -/
def F.hpPortCfg_defaultWid : Fld := ⟨.hpPortCfg, 8, 6, .rw, 2, (.range 2 63)⟩
/-- HP_PORT_CFG.CPL_TO: R356. -/
def F.hpPortCfg_cplTo : Fld := ⟨.hpPortCfg, 16, 3, .rw, 4, .any⟩
/-- HP_PORT_CFG.ENABLE: R356. -/
def F.hpPortCfg_enable : Fld := ⟨.hpPortCfg, 20, 1, .rw, 0, .any⟩
/-- HP_PORT_CFG.LOCK: R356. -/
def F.hpPortCfg_lock : Fld := ⟨.hpPortCfg, 63, 1, .lock, 0, .any⟩
/-- HP_PORT_STATUS.PLL_LOCKED: R356. -/
def F.hpPortStatus_pllLocked : Fld := ⟨.hpPortStatus, 0, 1, .ro, 0, .any⟩
/-- HP_PORT_STATUS.REJECT: R356. -/
def F.hpPortStatus_reject : Fld := ⟨.hpPortStatus, 1, 1, .w1c, 0, .any⟩
/-- HP_PORT_STATUS.EP_LINK_UP: R356. -/
def F.hpPortStatus_epLinkUp : Fld := ⟨.hpPortStatus, 2, 1, .ro, 0, .any⟩
/-- HP_PORT_STATUS.UNEXP_CPL: R356. -/
def F.hpPortStatus_unexpCpl : Fld := ⟨.hpPortStatus, 16, 16, .ro, 0, .any⟩
/-- HP_RC_CTRL_k.CONTAIN_NONFATAL: R365. -/
def F.hpRcCtrl_containNonfatal : Fld := ⟨.hpRcCtrl, 0, 1, .rw, 1, .any⟩
/-- HP_RC_CTRL_k.CONTAIN_CTO: R365. -/
def F.hpRcCtrl_containCto : Fld := ⟨.hpRcCtrl, 1, 1, .rw, 0, .any⟩
/-- HP_RC_CTRL_k.CONTAIN_POISON: R365. -/
def F.hpRcCtrl_containPoison : Fld := ⟨.hpRcCtrl, 2, 1, .rw, 0, .any⟩
/-- HP_RC_CTRL_k.RELEASE: R365. -/
def F.hpRcCtrl_release : Fld := ⟨.hpRcCtrl, 8, 1, .wo, 0, .any⟩
/-- HP_RC_CTRL_k.FREEZE: R365. -/
def F.hpRcCtrl_freeze : Fld := ⟨.hpRcCtrl, 9, 1, .wo, 0, .any⟩
/-- HP_RC_STATUS_k.FROZEN: R365. -/
def F.hpRcStatus_frozen : Fld := ⟨.hpRcStatus, 0, 1, .ro, 0, .any⟩
/-- HP_RC_STATUS_k.DL_ACTIVE: R365. -/
def F.hpRcStatus_dlActive : Fld := ⟨.hpRcStatus, 1, 1, .ro, 0, .any⟩
/-- HP_RC_STATUS_k.CAUSE: R365. -/
def F.hpRcStatus_cause : Fld := ⟨.hpRcStatus, 4, 4, .ro, 0, .any⟩
/-- HP_RC_STATUS_k.WIDTH: R365. -/
def F.hpRcStatus_width : Fld := ⟨.hpRcStatus, 8, 3, .ro, 0, .any⟩
/-- HP_RC_STATUS_k.RATE: R365. -/
def F.hpRcStatus_rate : Fld := ⟨.hpRcStatus, 11, 4, .ro, 0, .any⟩
/-- HP_RC_STATUS_k.FLIT: R365. -/
def F.hpRcStatus_flit : Fld := ⟨.hpRcStatus, 15, 1, .ro, 0, .any⟩
/-- HP_RC_STATUS_k.DISCARDED_WRITES: R365. -/
def F.hpRcStatus_discardedWrites : Fld := ⟨.hpRcStatus, 16, 16, .ro, 0, .any⟩
/-- HP_RC_STATUS_k.ALL_ONES_READS: R365. -/
def F.hpRcStatus_allOnesReads : Fld := ⟨.hpRcStatus, 32, 16, .ro, 0, .any⟩
/-- HP_RID_WID_n.RID_BASE: R358. -/
def F.hpRidWid_ridBase : Fld := ⟨.hpRidWid, 0, 16, .rw, 0, .any⟩
/-- HP_RID_WID_n.RID_LIMIT: R358. -/
def F.hpRidWid_ridLimit : Fld := ⟨.hpRidWid, 16, 16, .rw, 0, .any⟩
/-- HP_RID_WID_n.WID: R358. -/
def F.hpRidWid_wid : Fld := ⟨.hpRidWid, 32, 6, .rw, 0, (.range 2 63)⟩
/-- HP_RID_WID_n.VALID: R358. -/
def F.hpRidWid_valid : Fld := ⟨.hpRidWid, 39, 1, .rw, 0, .any⟩
/-- HP_EP_CFG.PF_WID: R366. -/
def F.hpEpCfg_pfWid : Fld := ⟨.hpEpCfg, 0, 6, .rwl, 2, (.range 2 63)⟩
/-- HP_EP_CFG.VF_BAR2_LOG: R366. -/
def F.hpEpCfg_vfBar2Log : Fld := ⟨.hpEpCfg, 8, 3, .rwl, 4, (.range 0 6)⟩
/-- HP_EP_CFG.TOTAL_VFS: R366. -/
def F.hpEpCfg_totalVfs : Fld := ⟨.hpEpCfg, 16, 6, .rwl, 61, (.range 0 61)⟩
/-- HP_EP_CFG.LOCK: R366. -/
def F.hpEpCfg_lock : Fld := ⟨.hpEpCfg, 63, 1, .lock, 0, .any⟩
/-- HP_VI_CFG_i.CREATED: R367. -/
def F.hpViCfg_created : Fld := ⟨.hpViCfg, 0, 1, .ro, 0, .any⟩
/-- HP_VI_CFG_i.WID: R367. -/
def F.hpViCfg_wid : Fld := ⟨.hpViCfg, 1, 6, .ro, 0, .any⟩
/-- HP_VI_CFG_i.RESETTING: R367. -/
def F.hpViCfg_resetting : Fld := ⟨.hpViCfg, 7, 1, .ro, 0, .any⟩
/-- HP_VI_CFG_i.CH: R367. -/
def F.hpViCfg_ch (k : Nat) : Fld := ⟨.hpViCfg, (6 * k + 8), 6, .ro, 0, .any⟩
/-- HP_VI_CFG_i.CH_VALID: R367. -/
def F.hpViCfg_chValid : Fld := ⟨.hpViCfg, 32, 4, .ro, 0, .any⟩
/-- HP_VI_CFG_i.TQ: R367. -/
def F.hpViCfg_tq (k : Nat) : Fld := ⟨.hpViCfg, (6 * k + 36), 6, .ro, 0, .any⟩
/-- HP_VI_CFG_i.TQ_VALID: R367. -/
def F.hpViCfg_tqValid : Fld := ⟨.hpViCfg, 60, 4, .ro, 0, .any⟩
/-- HP_VI_APER_i.VALID: R368. -/
def F.hpViAper_valid : Fld := ⟨.hpViAper, 0, 1, .rw, 0, .any⟩
/-- HP_VI_APER_i.BASE: R368. -/
def F.hpViAper_base : Fld := ⟨.hpViAper, 16, 36, .rw, 0, .any⟩
/-- HP_TQ_RING_q.SIZE_LOG: R369. -/
def F.hpTqRing_sizeLog : Fld := ⟨.hpTqRing, 0, 4, .rw, 4, (.range 4 12)⟩
/-- HP_TQ_RING_q.BASE: R369. -/
def F.hpTqRing_base : Fld := ⟨.hpTqRing, 12, 40, .rw, 0, .any⟩
/-- HP_TQ_CPL_q.BASE: R369. -/
def F.hpTqCpl_base : Fld := ⟨.hpTqCpl, 12, 40, .rw, 0, .any⟩
/-- HP_TQ_TAIL_q.TAIL: R369. -/
def F.hpTqTail_tail : Fld := ⟨.hpTqTail, 0, 16, .rw, 0, .any⟩
/-- HP_TQ_CPL_HEAD_q.CPL_HEAD: R369. -/
def F.hpTqCplHead_cplHead : Fld := ⟨.hpTqCplHead, 0, 16, .rw, 0, .any⟩
/-- HP_TQ_STATUS_q.HEAD: R369. -/
def F.hpTqStatus_head : Fld := ⟨.hpTqStatus, 0, 16, .ro, 0, .any⟩
/-- HP_TQ_STATUS_q.DONE: R369. -/
def F.hpTqStatus_done : Fld := ⟨.hpTqStatus, 16, 16, .ro, 0, .any⟩
/-- HP_TQ_STATUS_q.STATE: R369. -/
def F.hpTqStatus_state : Fld := ⟨.hpTqStatus, 32, 3, .ro, 0, .any⟩
/-- HP_TQ_STATUS_q.WRITE_REJECT: R369. -/
def F.hpTqStatus_writeReject : Fld := ⟨.hpTqStatus, 35, 1, .w1c, 0, .any⟩
/-- HP_TQ_STATUS_q.FETCH_ERR: R369. -/
def F.hpTqStatus_fetchErr : Fld := ⟨.hpTqStatus, 36, 1, .ro, 0, .any⟩
/-- HP_TQ_STATUS_q.CPL_ERR: R369. -/
def F.hpTqStatus_cplErr : Fld := ⟨.hpTqStatus, 37, 1, .ro, 0, .any⟩
/-- HP_TQ_CTRL_q.RESET: R369. -/
def F.hpTqCtrl_reset : Fld := ⟨.hpTqCtrl, 0, 1, .wo, 0, .any⟩
/-- DE_ENG_STATUS.REJECT: R326. -/
def F.deEngStatus_reject : Fld := ⟨.deEngStatus, 0, 1, .w1c, 0, .any⟩
/-- DE_ENG_STATUS.REJECT_CH: R326. -/
def F.deEngStatus_rejectCh : Fld := ⟨.deEngStatus, 8, 5, .ro, 0, .any⟩
/-- DE_CH_CFG_c.ENABLE: R326. -/
def F.deChCfg_enable : Fld := ⟨.deChCfg, 0, 1, .rw, 0, .any⟩
/-- DE_CH_CFG_c.WID: R326. -/
def F.deChCfg_wid : Fld := ⟨.deChCfg, 1, 6, .rw, 0, .any⟩
/-- DE_CH_CFG_c.INSTANCE: R326. -/
def F.deChCfg_instance : Fld := ⟨.deChCfg, 8, 6, .rw, 0, (.range 0 61)⟩
/-- DE_CH_CFG_c.WEIGHT: R326. -/
def F.deChCfg_weight : Fld := ⟨.deChCfg, 16, 4, .rw, 1, .any⟩
/-- DE_CH_CFG_c.MIN_SHARE: R326. -/
def F.deChCfg_minShare : Fld := ⟨.deChCfg, 24, 6, .rw, 0, .any⟩
/-- DE_CH_CFG_c.QUOTA: R326. -/
def F.deChCfg_quota : Fld := ⟨.deChCfg, 32, 16, .rw, 0, .any⟩
/-- DE_CH_RING_c.SIZE_LOG: R327. -/
def F.deChRing_sizeLog : Fld := ⟨.deChRing, 0, 4, .rw, 4, (.range 4 12)⟩
/-- DE_CH_RING_c.BASE: R327. -/
def F.deChRing_base : Fld := ⟨.deChRing, 12, 40, .rw, 0, .any⟩
/-- DE_CH_CPL_c.BASE: R327. -/
def F.deChCpl_base : Fld := ⟨.deChCpl, 12, 40, .rw, 0, .any⟩
/-- DE_CH_TAIL_c.TAIL: R327. -/
def F.deChTail_tail : Fld := ⟨.deChTail, 0, 16, .rw, 0, .any⟩
/-- DE_CH_CPL_HEAD_c.CPL_HEAD: R327. -/
def F.deChCplHead_cplHead : Fld := ⟨.deChCplHead, 0, 16, .rw, 0, .any⟩
/-- DE_CH_STATUS_c.HEAD: R327. -/
def F.deChStatus_head : Fld := ⟨.deChStatus, 0, 16, .ro, 0, .any⟩
/-- DE_CH_STATUS_c.DONE: R327. -/
def F.deChStatus_done : Fld := ⟨.deChStatus, 16, 16, .ro, 0, .any⟩
/-- DE_CH_STATUS_c.STATE: R327. -/
def F.deChStatus_state : Fld := ⟨.deChStatus, 32, 3, .ro, 0, .any⟩
/-- DE_CH_STATUS_c.WRITE_REJECT: R327. -/
def F.deChStatus_writeReject : Fld := ⟨.deChStatus, 35, 1, .w1c, 0, .any⟩
/-- DE_CH_STATUS_c.FETCH_ERR: R327. -/
def F.deChStatus_fetchErr : Fld := ⟨.deChStatus, 36, 1, .ro, 0, .any⟩
/-- DE_CH_STATUS_c.CPL_ERR: R327. -/
def F.deChStatus_cplErr : Fld := ⟨.deChStatus, 37, 1, .ro, 0, .any⟩
/-- DE_CH_CTRL_c.RESET: R327. -/
def F.deChCtrl_reset : Fld := ⟨.deChCtrl, 0, 1, .wo, 0, .any⟩
/-- DE_CH_MSI_c.HART: R327. -/
def F.deChMsi_hart : Fld := ⟨.deChMsi, 0, 8, .rw, 0, .any⟩
/-- DE_CH_MSI_c.FILE: R327. -/
def F.deChMsi_file : Fld := ⟨.deChMsi, 8, 4, .rw, 0, (.range 0 8)⟩
/-- DE_CH_MSI_c.EN: R327. -/
def F.deChMsi_en : Fld := ⟨.deChMsi, 12, 1, .rw, 0, .any⟩
/-- DE_CH_MSI_c.EIID: R327. -/
def F.deChMsi_eiid : Fld := ⟨.deChMsi, 16, 8, .rw, 0, .any⟩
/-- DE_CH_ALIVE_c.COUNT: R327. -/
def F.deChAlive_count : Fld := ⟨.deChAlive, 0, 32, .rw, 0, .any⟩
/-- DE_SCAN_CFG_s.ENABLE: R346. -/
def F.deScanCfg_enable : Fld := ⟨.deScanCfg, 0, 1, .rw, 0, .any⟩
/-- DE_SCAN_CFG_s.PERIODIC: R346. -/
def F.deScanCfg_periodic : Fld := ⟨.deScanCfg, 1, 1, .rw, 0, .any⟩
/-- DE_SCAN_CFG_s.WATCH: R346. -/
def F.deScanCfg_watch : Fld := ⟨.deScanCfg, 2, 1, .rw, 0, .any⟩
/-- DE_SCAN_CFG_s.INT_MISMATCH: R346. -/
def F.deScanCfg_intMismatch : Fld := ⟨.deScanCfg, 3, 1, .rw, 0, .any⟩
/-- DE_SCAN_CFG_s.PARAM: R346. -/
def F.deScanCfg_param : Fld := ⟨.deScanCfg, 4, 4, .rw, 0, (.range 0 6)⟩
/-- DE_SCAN_CFG_s.CHANNEL: R346. -/
def F.deScanCfg_channel : Fld := ⟨.deScanCfg, 8, 5, .rw, 0, .any⟩
/-- DE_SCAN_START_s.START: R346. -/
def F.deScanStart_start : Fld := ⟨.deScanStart, 0, 52, .rw, 0, .any⟩
/-- DE_SCAN_LEN_s.LENGTH: R346. -/
def F.deScanLen_length : Fld := ⟨.deScanLen, 0, 40, .rw, 0, .any⟩
/-- DE_SCAN_PERIOD_s.PERIOD: R346. -/
def F.deScanPeriod_period : Fld := ⟨.deScanPeriod, 0, 32, .rw, 0, .any⟩
/-- DE_SCAN_EXPECT_s.EXPECT: R346. -/
def F.deScanExpect_expect : Fld := ⟨.deScanExpect, 0, 64, .rw, 0, .any⟩
/-- DE_SCAN_RESULT_s.VALUE: R346. -/
def F.deScanResult_value : Fld := ⟨.deScanResult, 0, 64, .ro, 0, .any⟩
/-- DE_SCAN_STATUS_s.RUNS: R346. -/
def F.deScanStatus_runs : Fld := ⟨.deScanStatus, 0, 16, .ro, 0, .any⟩
/-- DE_SCAN_STATUS_s.MISMATCHES: R346. -/
def F.deScanStatus_mismatches : Fld := ⟨.deScanStatus, 16, 16, .ro, 0, .any⟩
/-- DE_SCAN_STATUS_s.OVERRUNS: R346. -/
def F.deScanStatus_overruns : Fld := ⟨.deScanStatus, 32, 16, .ro, 0, .any⟩
/-- DE_SCAN_STATUS_s.LAST_STATUS: R346. -/
def F.deScanStatus_lastStatus : Fld := ⟨.deScanStatus, 48, 8, .ro, 0, .any⟩
/-- DE_SCAN_STATUS_s.BUSY: R346. -/
def F.deScanStatus_busy : Fld := ⟨.deScanStatus, 56, 1, .ro, 0, .any⟩
/-- CUR_MTIME_LO.COUNT: R385. -/
def F.curMtimeLo_count : Fld := ⟨.curMtimeLo, 0, 32, .ro, 0, .any⟩
/-- CUR_MTIME_HI.COUNT: R385. -/
def F.curMtimeHi_count : Fld := ⟨.curMtimeHi, 0, 32, .ro, 0, .any⟩
/-- CUR_MTIMECMP_LO.CMP: R385. -/
def F.curMtimecmpLo_cmp : Fld := ⟨.curMtimecmpLo, 0, 32, .rw, 4294967295, .any⟩
/-- CUR_MTIMECMP_HI.CMP: R385. -/
def F.curMtimecmpHi_cmp : Fld := ⟨.curMtimecmpHi, 0, 32, .rw, 4294967295, .any⟩
/-- CUR_INT_PEND.PEND: R385. -/
def F.curIntPend_pend : Fld := ⟨.curIntPend, 0, 8, .ro, 0, .any⟩
/-- CUR_INT_EN.EN: R385. -/
def F.curIntEn_en : Fld := ⟨.curIntEn, 0, 8, .rw, 0, .any⟩
/-- CUR_WDT_KICK.KEY: R385. -/
def F.curWdtKick_key : Fld := ⟨.curWdtKick, 0, 32, .wo, 0, .any⟩
/-- CUR_FLASH_ADDR.ADDR: R385. -/
def F.curFlashAddr_addr : Fld := ⟨.curFlashAddr, 0, 28, .rw, 0, .any⟩
/-- CUR_FLASH_CMD.OP: R385. -/
def F.curFlashCmd_op : Fld := ⟨.curFlashCmd, 0, 2, .wo, 0, .any⟩
/-- CUR_FLASH_CMD.SRC: R385. -/
def F.curFlashCmd_src : Fld := ⟨.curFlashCmd, 8, 9, .wo, 0, .any⟩
/-- CUR_FLASH_STATUS.BUSY: R385. -/
def F.curFlashStatus_busy : Fld := ⟨.curFlashStatus, 0, 1, .ro, 0, .any⟩
/-- CUR_FLASH_STATUS.RESULT: R385. -/
def F.curFlashStatus_result : Fld := ⟨.curFlashStatus, 1, 3, .ro, 0, .any⟩
/-- CUR_SLIP_ADDR.ADDR: R414. -/
def F.curSlipAddr_addr : Fld := ⟨.curSlipAddr, 0, 17, .rw, 0, .any⟩
/-- CUR_SLIP_CTRL.GO: R414. -/
def F.curSlipCtrl_go : Fld := ⟨.curSlipCtrl, 0, 1, .wo, 0, .any⟩
/-- CUR_SLIP_STATUS.BUSY: R414. -/
def F.curSlipStatus_busy : Fld := ⟨.curSlipStatus, 0, 1, .ro, 0, .any⟩
/-- CUR_SLIP_STATUS.DONE: R414. -/
def F.curSlipStatus_done : Fld := ⟨.curSlipStatus, 1, 1, .w1c, 0, .any⟩
/-- CUR_SLIP_STATUS.REJECT: R414. -/
def F.curSlipStatus_reject : Fld := ⟨.curSlipStatus, 2, 1, .w1c, 0, .any⟩
/-- vendor_n_imp_id.VENDOR: R489. -/
def F.rasVendor_vendor (p : Place) : Fld := ⟨(rasVendorAt p), 0, 32, .ro, 2845, .any⟩
/-- vendor_n_imp_id.IMP: R489. -/
def F.rasVendor_imp (p : Place) : Fld := ⟨(rasVendorAt p), 32, 32, .ro, 29270, .any⟩
/-- bank_info.INST_ID: R489. -/
def F.rasBankInfo_instId (p : Place) : Fld := ⟨(rasBankInfoAt p), 0, 16, .ro, 0, .any⟩
/-- bank_info.N_ERR_RECS: R489. -/
def F.rasBankInfo_nErrRecs (p : Place) : Fld := ⟨(rasBankInfoAt p), 16, 6, .ro, 4, .any⟩
/-- bank_info.VERSION: R489. -/
def F.rasBankInfo_version (p : Place) : Fld := ⟨(rasBankInfoAt p), 56, 8, .ro, 1, .any⟩
/-- valid_summary.SV: R489. -/
def F.rasValid_sv (p : Place) : Fld := ⟨(rasValidAt p), 0, 1, .ro, 1, .any⟩
/-- valid_summary.VALID: R489. -/
def F.rasValid_valid (p : Place) : Fld := ⟨(rasValidAt p), 1, 63, .ro, 0, .any⟩
/-- control_i.ELSE: R489. -/
def F.rasControl_else (p : Place) : Fld := ⟨(rasControlAt p), 0, 1, .rw, 0, .any⟩
/-- control_i.CECE: R489. -/
def F.rasControl_cece (p : Place) : Fld := ⟨(rasControlAt p), 1, 1, .rw, 0, .any⟩
/-- control_i.CES: R489. -/
def F.rasControl_ces (p : Place) : Fld := ⟨(rasControlAt p), 2, 2, .rw, 0, .any⟩
/-- control_i.UEDS: R489. -/
def F.rasControl_ueds (p : Place) : Fld := ⟨(rasControlAt p), 4, 2, .rw, 0, .any⟩
/-- control_i.UECS: R489. -/
def F.rasControl_uecs (p : Place) : Fld := ⟨(rasControlAt p), 6, 2, .rw, 0, .any⟩
/-- status_i.V: R489. -/
def F.rasStatus_v (p : Place) : Fld := ⟨(rasStatusAt p), 0, 1, .rw, 0, .any⟩
/-- status_i.CE: R489. -/
def F.rasStatus_ce (p : Place) : Fld := ⟨(rasStatusAt p), 1, 1, .rw, 0, .any⟩
/-- status_i.UED: R489. -/
def F.rasStatus_ued (p : Place) : Fld := ⟨(rasStatusAt p), 2, 1, .rw, 0, .any⟩
/-- status_i.UEC: R489. -/
def F.rasStatus_uec (p : Place) : Fld := ⟨(rasStatusAt p), 3, 1, .rw, 0, .any⟩
/-- status_i.PRI: R489. -/
def F.rasStatus_pri (p : Place) : Fld := ⟨(rasStatusAt p), 4, 2, .rw, 0, .any⟩
/-- status_i.MO: R489. -/
def F.rasStatus_mo (p : Place) : Fld := ⟨(rasStatusAt p), 6, 1, .rw, 0, .any⟩
/-- status_i.C: R489. -/
def F.rasStatus_c (p : Place) : Fld := ⟨(rasStatusAt p), 7, 1, .rw, 0, .any⟩
/-- status_i.TT: R489. -/
def F.rasStatus_tt (p : Place) : Fld := ⟨(rasStatusAt p), 8, 3, .rw, 0, .any⟩
/-- status_i.IV: R489. -/
def F.rasStatus_iv (p : Place) : Fld := ⟨(rasStatusAt p), 11, 1, .rw, 0, .any⟩
/-- status_i.AIT: R489. -/
def F.rasStatus_ait (p : Place) : Fld := ⟨(rasStatusAt p), 12, 4, .rw, 0, .any⟩
/-- status_i.SIV: R489. -/
def F.rasStatus_siv (p : Place) : Fld := ⟨(rasStatusAt p), 16, 1, .rw, 0, .any⟩
/-- status_i.TSV: R489. -/
def F.rasStatus_tsv (p : Place) : Fld := ⟨(rasStatusAt p), 17, 1, .rw, 0, .any⟩
/-- status_i.CECO: R489. -/
def F.rasStatus_ceco (p : Place) : Fld := ⟨(rasStatusAt p), 20, 1, .rw, 0, .any⟩
/-- status_i.EC: R489. -/
def F.rasStatus_ec (p : Place) : Fld := ⟨(rasStatusAt p), 24, 8, .rw, 0, .any⟩
/-- status_i.CEC: R489. -/
def F.rasStatus_cec (p : Place) : Fld := ⟨(rasStatusAt p), 48, 16, .rw, 0, .any⟩
/-- addr_i.VALUE: R489. -/
def F.rasAddr_value (p : Place) : Fld := ⟨(rasAddrAt p), 0, 64, .rw, 0, .any⟩
/-- info_i.VALUE: R490. -/
def F.rasInfo_value (p : Place) : Fld := ⟨(rasInfoAt p), 0, 64, .rw, 0, .any⟩
/-- suppl_info_i.VALUE: R490. -/
def F.rasSuppl_value (p : Place) : Fld := ⟨(rasSupplAt p), 0, 64, .rw, 0, .any⟩
/-- timestamp_i.VALUE: R489. -/
def F.rasTime_value (p : Place) : Fld := ⟨(rasTimeAt p), 0, 64, .rw, 0, .any⟩

/-- The fields of a register. -/
def RegName.fields : RegName → List Fld
  | .niDepoMap => [F.niDepoMap_valid, F.niDepoMap_portStop, F.niDepoMap_endpoint]
  | .niPfCtrl => [F.niPfCtrl_en, F.niPfCtrl_maxDist]
  | .niRouteStatus => [F.niRouteStatus_active, F.niRouteStatus_holding, F.niRouteStatus_reject, F.niRouteStatus_rejectIndex, F.niRouteStatus_oldFlits]
  | .rtDeadCtrl => [F.rtDeadCtrl_dead, F.rtDeadCtrl_flushed, F.rtDeadCtrl_selfDead, F.rtDeadCtrl_selfFlushed, F.rtDeadCtrl_ejectIdle]
  | .rtMeterLane => List.flatten [(List.range 4).map F.rtMeterLane_wid, (List.range 4).map F.rtMeterLane_valid]
  | .rtSpare => List.flatten [(List.range 4).map F.rtSpare_wire, (List.range 4).map F.rtSpare_valid]
  | .rtMeterWheel => List.flatten [(List.range 8).map F.rtMeterWheel_lane, (List.range 8).map F.rtMeterWheel_res]
  | .niRouteA => [F.niRouteA_route, F.niRouteA_valid]
  | .niRouteB => [F.niRouteB_route, F.niRouteB_valid]
  | .pmuCtlStop => [F.pmuCtl_event .stop, F.pmuCtl_en .stop, F.pmuCtl_ovf .stop, F.pmuCtl_addrEn .stop, F.pmuCtl_wid .stop, F.pmuCtl_widEn .stop, F.pmuCtl_agentStop .stop, F.pmuCtl_agentEn .stop, F.pmuCtl_classMask .stop, F.pmuCtl_port .stop, F.pmuCtl_portEn .stop, F.pmuCtl_programmer .stop]
  | .pmuCtlSlice => [F.pmuCtl_event .tile, F.pmuCtl_en .tile, F.pmuCtl_ovf .tile, F.pmuCtl_addrEn .tile, F.pmuCtl_wid .tile, F.pmuCtl_widEn .tile, F.pmuCtl_agentStop .tile, F.pmuCtl_agentEn .tile, F.pmuCtl_classMask .tile, F.pmuCtl_port .tile, F.pmuCtl_portEn .tile, F.pmuCtl_programmer .tile]
  | .pmuCtlMp => [F.pmuCtl_event .mp, F.pmuCtl_en .mp, F.pmuCtl_ovf .mp, F.pmuCtl_addrEn .mp, F.pmuCtl_wid .mp, F.pmuCtl_widEn .mp, F.pmuCtl_agentStop .mp, F.pmuCtl_agentEn .mp, F.pmuCtl_classMask .mp, F.pmuCtl_port .mp, F.pmuCtl_portEn .mp, F.pmuCtl_programmer .mp]
  | .pmuCtlAx => [F.pmuCtl_event .ax, F.pmuCtl_en .ax, F.pmuCtl_ovf .ax, F.pmuCtl_addrEn .ax, F.pmuCtl_wid .ax, F.pmuCtl_widEn .ax, F.pmuCtl_agentStop .ax, F.pmuCtl_agentEn .ax, F.pmuCtl_classMask .ax, F.pmuCtl_port .ax, F.pmuCtl_portEn .ax, F.pmuCtl_programmer .ax]
  | .pmuCntStop => [F.pmuCnt_count .stop]
  | .pmuCntSlice => [F.pmuCnt_count .tile]
  | .pmuCntMp => [F.pmuCnt_count .mp]
  | .pmuCntAx => [F.pmuCnt_count .ax]
  | .pmuAddrBaseStop => [F.pmuAddrBase_base .stop]
  | .pmuAddrBaseSlice => [F.pmuAddrBase_base .tile]
  | .pmuAddrBaseMp => [F.pmuAddrBase_base .mp]
  | .pmuAddrBaseAx => [F.pmuAddrBase_base .ax]
  | .pmuAddrLimStop => [F.pmuAddrLim_limit .stop]
  | .pmuAddrLimSlice => [F.pmuAddrLim_limit .tile]
  | .pmuAddrLimMp => [F.pmuAddrLim_limit .mp]
  | .pmuAddrLimAx => [F.pmuAddrLim_limit .ax]
  | .pmuBlockCtrlStop => [F.pmuBlockCtrl_freeze .stop, F.pmuBlockCtrl_clear .stop]
  | .pmuBlockCtrlSlice => [F.pmuBlockCtrl_freeze .tile, F.pmuBlockCtrl_clear .tile]
  | .pmuBlockCtrlMp => [F.pmuBlockCtrl_freeze .mp, F.pmuBlockCtrl_clear .mp]
  | .pmuBlockCtrlAx => [F.pmuBlockCtrl_freeze .ax, F.pmuBlockCtrl_clear .ax]
  | .mlgWayRetire => [F.mlgWayRetire_ways]
  | .coreSpecCtrl => [F.coreSpecCtrl_predFlush, F.coreSpecCtrl_fillDefer, F.coreSpecCtrl_predFlushEff, F.coreSpecCtrl_fillDeferEff]
  | .corePfCtrl => [F.corePfCtrl_l2En, F.corePfCtrl_storeStreams, F.corePfCtrl_maxDist, F.corePfCtrl_llcEn]
  | .mlgVf => List.flatten [(List.range 4).map F.mlgVf_volt, (List.range 4).map F.mlgVf_valid]
  | .mlgCoreStatus => [F.mlgCoreStatus_slackPs, F.mlgCoreStatus_nPlan, F.mlgCoreStatus_nCeil, F.mlgCoreStatus_droop, F.mlgCoreStatus_retired, F.mlgCoreStatus_candidate, F.mlgCoreStatus_vCeilMv, F.mlgCoreStatus_checks]
  | .mlgCoreLife => [F.mlgCoreLife_eqHours, F.mlgCoreLife_driftPpm]
  | .coreHartMap => [F.coreHartMap_physCore, F.coreHartMap_homeCore, F.coreHartMap_state, F.coreHartMap_remaps]
  | .coreMtime => [F.coreMtime_count]
  | .coreMtimecmp => [F.coreMtimecmp_compare]
  | .coreMemattr => [F.coreMemattr_valid, F.coreMemattr_policy, F.coreMemattr_base]
  | .coreMemattrLim => [F.coreMemattrLim_limit]
  | .llcShelf => [F.llcShelf_llcWays, F.llcShelf_dirWays, F.llcShelf_hqReserve]
  | .llcWidClass => (List.range 16).map F.llcWidClass_class
  | .llcShelfCtrl => [F.llcShelfCtrl_sealed, F.llcShelfCtrl_reject, F.llcShelfCtrl_flushing]
  | .coreHoldCtrl => [F.coreHoldCtrl_window, F.coreHoldCtrl_lrsc]
  | .dirRetryCtrl => [F.dirRetryCtrl_reserveLimit]
  | .niFabricCtrl => [F.niFabricCtrl_fence, F.niFabricCtrl_epochSwitch, F.niFabricCtrl_meterCommit]
  | .niFabricStatus => [F.niFabricStatus_fenceBusy, F.niFabricStatus_drainBusy, F.niFabricStatus_epoch, F.niFabricStatus_meterPending, F.niFabricStatus_fenceErr, F.niFabricStatus_ctrlReject, F.niFabricStatus_fenceLateStop]
  | .niMeterWids => [F.niMeterWids_wids]
  | .wldSeat => [F.wldSeat_wid, F.wldSeat_lending, F.wldSeat_fixed, F.wldSeat_fixedN, F.wldSeat_lends]
  | .wldBellPairs => [F.wldBellPairs_targets]
  | .wldDeedTable => [F.wldDeedTable_enable, F.wldDeedTable_ready, F.wldDeedTable_base, F.wldDeedTable_lock]
  | .wldDepoDeed => [F.wldDepoDeed_valid, F.wldDepoDeed_span, F.wldDepoDeed_base]
  | .wldGpioWid => (List.range 8).map F.wldGpioWid_wid
  | .wldDebugInv => [F.wldDebugInv_en]
  | .wldDebugNoninv => [F.wldDebugNoninv_en]
  | .wldRegion => [F.wldRegion_valid, F.wldRegion_kind, F.wldRegion_wid, F.wldRegion_base, F.wldRegion_keySlot]
  | .wldRegionLim => [F.wldRegionLim_limit]
  | .wldKeySlot => [F.wldKeySlot_owner, F.wldKeySlot_valid, F.wldKeySlot_epoch, F.wldKeySlot_refs]
  | .wldKeyCmd => [F.wldKeyCmd_op, F.wldKeyCmd_slot, F.wldKeyCmd_owner, F.wldKeyCmd_busy, F.wldKeyCmd_reject]
  | .wldDeedArg => [F.wldDeedArg_page, F.wldDeedArg_count]
  | .wldDeedCmd => [F.wldDeedCmd_op, F.wldDeedCmd_target, F.wldDeedCmd_slot]
  | .wldDeedStatus => [F.wldDeedStatus_busy, F.wldDeedStatus_result, F.wldDeedStatus_donePages]
  | .wldSlipBell => [F.wldSlipBell_bell, F.wldSlipBell_ringPage]
  | .pwrDomStatus => [F.pwrDomStatus_state, F.pwrDomStatus_busy, F.pwrDomStatus_pending, F.pwrDomStatus_pendingAction, F.pwrDomStatus_pinned, F.pwrDomStatus_lastRefuser, F.pwrDomStatus_owner, F.pwrDomStatus_nEff, F.pwrDomStatus_idleUs]
  | .pwrDomCount => [F.pwrDomCount_entries, F.pwrDomCount_refused, F.pwrDomCount_aborted, F.pwrDomCount_superseded]
  | .pwrDomReq => [F.pwrDomReq_domain, F.pwrDomReq_action, F.pwrDomReq_reqWid, F.pwrDomReq_timerUs]
  | .pwrRefuserCount => [F.pwrRefuserCount_refusals, F.pwrRefuserCount_aborts]
  | .pwrModeStatus => [F.pwrModeStatus_mode, F.pwrModeStatus_transition, F.pwrModeStatus_origin, F.pwrModeStatus_reject, F.pwrModeStatus_aborts, F.pwrModeStatus_lastWake, F.pwrModeStatus_changes]
  | .pwrModeCtrl => [F.pwrModeCtrl_mode]
  | .pwrWakeEn => [F.pwrWakeEn_i3c, F.pwrWakeEn_aplic, F.pwrWakeEn_hp0Ep, F.pwrWakeEn_timer]
  | .pwrWatchCfg => [F.pwrWatchCfg_periodMs, F.pwrWatchCfg_scanEn, F.pwrWatchCfg_tempMax, F.pwrWatchCfg_vDevMv, F.pwrWatchCfg_agePpm]
  | .pwrWatchStatus => [F.pwrWatchStatus_wakes, F.pwrWatchStatus_skipped, F.pwrWatchStatus_lastCause]
  | .pwrLimitCtrl => [F.pwrLimitCtrl_limitW]
  | .pwrLimitStatus => [F.pwrLimitStatus_powerW, F.pwrLimitStatus_limiting, F.pwrLimitStatus_fixedLowered, F.pwrLimitStatus_throttled, F.pwrLimitStatus_ceilingW, F.pwrLimitStatus_throttleEvents]
  | .mlgCtrl => [F.mlgCtrl_rollEn, F.mlgCtrl_floorPs, F.mlgCtrl_targetPs, F.mlgCtrl_notifyMask, F.mlgCtrl_lock]
  | .mlgStatus => [F.mlgStatus_reservesLeft, F.mlgStatus_coresRetired, F.mlgStatus_nextTile, F.mlgStatus_surveyDue, F.mlgStatus_ledgerRebuilt, F.mlgStatus_profileExceeded, F.mlgStatus_reservesExhausted, F.mlgStatus_serviceHours]
  | .anlCtrl => [F.anlCtrl_archiveEn, F.anlCtrl_commitS, F.anlCtrl_lock]
  | .anlStatus => [F.anlStatus_used, F.anlStatus_uncommitted, F.anlStatus_frozen, F.anlStatus_archiveOk, F.anlStatus_held, F.anlStatus_timeUnset, F.anlStatus_fatalCause, F.anlStatus_fatalCount, F.anlStatus_dropped]
  | .anlNextSeq => [F.anlNextSeq_seq]
  | .anlCalendar => [F.anlCalendar_time]
  | .anlCalSet => [F.anlCalSet_time]
  | .anlRate => [F.anlRate_refillMs, F.anlRate_burst, F.anlRate_snapSet, F.anlRate_snapEn, F.anlRate_suppressed]
  | .anlSnap => List.flatten [(List.range 2).map F.anlSnap_offset, (List.range 2).map F.anlSnap_valid, (List.range 2).map F.anlSnap_stop]
  | .pmuFolioCtrl => [F.pmuFolioCtrl_enable, F.pmuFolioCtrl_groups, F.pmuFolioCtrl_periodUs, F.pmuFolioCtrl_owner]
  | .pmuFolioBuf => [F.pmuFolioBuf_base]
  | .pmuFolioRing => [F.pmuFolioRing_entries]
  | .pmuFolioStatus => [F.pmuFolioStatus_seq, F.pmuFolioStatus_skipped, F.pmuFolioStatus_reject, F.pmuFolioStatus_writeErr]
  | .kprStatus => [F.kprStatus_bootStage, F.kprStatus_slotB, F.kprStatus_absent, F.kprStatus_attestReady, F.kprStatus_diceLocked, F.kprStatus_provisioned, F.kprStatus_restarts]
  | .kprWdt => [F.kprWdt_kick, F.kprWdt_warned, F.kprWdt_timeoutMs, F.kprWdt_lock]
  | .kprDebugConsent => [F.kprDebugConsent_consent]
  | .kprLimitCount => [F.kprLimitCount_vfClamps, F.kprLimitCount_vrRefusals, F.kprLimitCount_gpioDelays, F.kprLimitCount_fuseRefusals]
  | .curCtrl => [F.curCtrl_run, F.curCtrl_memBase, F.curCtrl_lock]
  | .curXip => [F.curXip_base, F.curXip_pages]
  | .curStatus => [F.curStatus_state, F.curStatus_warned, F.curStatus_restarts]
  | .mpCfg => [F.mpCfg_density, F.mpCfg_clamshell, F.mpCfg_mirrorGroups, F.mpCfg_start, F.mpCfg_lock]
  | .mpStatus => [F.mpStatus_trainState, F.mpStatus_failStep, F.mpStatus_reject, F.mpStatus_retired, F.mpStatus_mirrorLinkUp, F.mpStatus_groups]
  | .mpLocalTop => [F.mpLocalTop_top]
  | .mpLaneRetire => List.flatten [(List.range 4).map F.mpLaneRetire_lane, (List.range 4).map F.mpLaneRetire_valid]
  | .mpScrubCtrl => [F.mpScrubCtrl_patrolEn, F.mpScrubCtrl_demandEn, F.mpScrubCtrl_passHours]
  | .mpScrubStatus => [F.mpScrubStatus_position, F.mpScrubStatus_passes]
  | .mpErrCount => [F.mpErrCount_corrected, F.mpErrCount_uncorrectable, F.mpErrCount_edcRetries, F.mpErrCount_echoMismatch, F.mpErrCount_mirrorFallbacks]
  | .axgPortCtrl => [F.axgPortCtrl_enable, F.axgPortCtrl_allow16g, F.axgPortCtrl_open, F.axgPortCtrl_attested, F.axgPortCtrl_quarantine, F.axgPortCtrl_recal, F.axgPortCtrl_strikeLimit, F.axgPortCtrl_lock]
  | .axgPortStatus => [F.axgPortStatus_linkState, F.axgPortStatus_rate, F.axgPortStatus_modules, F.axgPortStatus_declareFail, F.axgPortStatus_reject, F.axgPortStatus_reclaimBusy, F.axgPortStatus_reclaimed, F.axgPortStatus_repairedM0, F.axgPortStatus_repairedM1]
  | .axgAnnexId => [F.axgAnnexId_vendor, F.axgAnnexId_device, F.axgAnnexId_revision]
  | .axgLinkCount => [F.axgLinkCount_crcErrors, F.axgLinkCount_replays, F.axgLinkCount_retrains, F.axgLinkCount_narrows]
  | .axgQstatus => [F.axgQstatus_cause, F.axgQstatus_causeAgent, F.axgQstatus_strikes, F.axgQstatus_agentQuarantined, F.axgQstatus_portQuarantined]
  | .axgDeclared => (List.range 16).map F.axgDeclared_class
  | .axgFence => [F.axgFence_failed]
  | .axgAgentCfg => [F.axgAgentCfg_class, F.axgAgentCfg_enable, F.axgAgentCfg_maxOut, F.axgAgentCfg_snoopTo, F.axgAgentCfg_respTo, F.axgAgentCfg_mmioTo, F.axgAgentCfg_ackTo]
  | .axgGrant => [F.axgGrant_wids]
  | .axgWin => [F.axgWin_valid, F.axgWin_read, F.axgWin_write, F.axgWin_cache, F.axgWin_base]
  | .axgWinLim => [F.axgWinLim_agents, F.axgWinLim_limit]
  | .axgMmio => [F.axgMmio_valid, F.axgMmio_endpoint, F.axgMmio_base]
  | .axgMmioLim => [F.axgMmioLim_limit]
  | .axgWinCtrl => [F.axgWinCtrl_commit, F.axgWinCtrl_pending, F.axgWinCtrl_commitReject, F.axgWinCtrl_commitSeq, F.axgWinCtrl_oldOpen]
  | .hpPortCfg => [F.hpPortCfg_bifur, F.hpPortCfg_endpoint, F.hpPortCfg_maxRate, F.hpPortCfg_defaultWid, F.hpPortCfg_cplTo, F.hpPortCfg_enable, F.hpPortCfg_lock]
  | .hpPortStatus => [F.hpPortStatus_pllLocked, F.hpPortStatus_reject, F.hpPortStatus_epLinkUp, F.hpPortStatus_unexpCpl]
  | .hpRcCtrl => [F.hpRcCtrl_containNonfatal, F.hpRcCtrl_containCto, F.hpRcCtrl_containPoison, F.hpRcCtrl_release, F.hpRcCtrl_freeze]
  | .hpRcStatus => [F.hpRcStatus_frozen, F.hpRcStatus_dlActive, F.hpRcStatus_cause, F.hpRcStatus_width, F.hpRcStatus_rate, F.hpRcStatus_flit, F.hpRcStatus_discardedWrites, F.hpRcStatus_allOnesReads]
  | .hpRidWid => [F.hpRidWid_ridBase, F.hpRidWid_ridLimit, F.hpRidWid_wid, F.hpRidWid_valid]
  | .hpEpCfg => [F.hpEpCfg_pfWid, F.hpEpCfg_vfBar2Log, F.hpEpCfg_totalVfs, F.hpEpCfg_lock]
  | .hpViCfg => List.flatten [[F.hpViCfg_created, F.hpViCfg_wid, F.hpViCfg_resetting], (List.range 4).map F.hpViCfg_ch, [F.hpViCfg_chValid], (List.range 4).map F.hpViCfg_tq, [F.hpViCfg_tqValid]]
  | .hpViAper => [F.hpViAper_valid, F.hpViAper_base]
  | .hpTqRing => [F.hpTqRing_sizeLog, F.hpTqRing_base]
  | .hpTqCpl => [F.hpTqCpl_base]
  | .hpTqTail => [F.hpTqTail_tail]
  | .hpTqCplHead => [F.hpTqCplHead_cplHead]
  | .hpTqStatus => [F.hpTqStatus_head, F.hpTqStatus_done, F.hpTqStatus_state, F.hpTqStatus_writeReject, F.hpTqStatus_fetchErr, F.hpTqStatus_cplErr]
  | .hpTqCtrl => [F.hpTqCtrl_reset]
  | .deEngStatus => [F.deEngStatus_reject, F.deEngStatus_rejectCh]
  | .deChCfg => [F.deChCfg_enable, F.deChCfg_wid, F.deChCfg_instance, F.deChCfg_weight, F.deChCfg_minShare, F.deChCfg_quota]
  | .deChRing => [F.deChRing_sizeLog, F.deChRing_base]
  | .deChCpl => [F.deChCpl_base]
  | .deChTail => [F.deChTail_tail]
  | .deChCplHead => [F.deChCplHead_cplHead]
  | .deChStatus => [F.deChStatus_head, F.deChStatus_done, F.deChStatus_state, F.deChStatus_writeReject, F.deChStatus_fetchErr, F.deChStatus_cplErr]
  | .deChCtrl => [F.deChCtrl_reset]
  | .deChMsi => [F.deChMsi_hart, F.deChMsi_file, F.deChMsi_en, F.deChMsi_eiid]
  | .deChAlive => [F.deChAlive_count]
  | .deScanCfg => [F.deScanCfg_enable, F.deScanCfg_periodic, F.deScanCfg_watch, F.deScanCfg_intMismatch, F.deScanCfg_param, F.deScanCfg_channel]
  | .deScanStart => [F.deScanStart_start]
  | .deScanLen => [F.deScanLen_length]
  | .deScanPeriod => [F.deScanPeriod_period]
  | .deScanExpect => [F.deScanExpect_expect]
  | .deScanResult => [F.deScanResult_value]
  | .deScanStatus => [F.deScanStatus_runs, F.deScanStatus_mismatches, F.deScanStatus_overruns, F.deScanStatus_lastStatus, F.deScanStatus_busy]
  | .curMtimeLo => [F.curMtimeLo_count]
  | .curMtimeHi => [F.curMtimeHi_count]
  | .curMtimecmpLo => [F.curMtimecmpLo_cmp]
  | .curMtimecmpHi => [F.curMtimecmpHi_cmp]
  | .curIntPend => [F.curIntPend_pend]
  | .curIntEn => [F.curIntEn_en]
  | .curWdtKick => [F.curWdtKick_key]
  | .curFlashAddr => [F.curFlashAddr_addr]
  | .curFlashCmd => [F.curFlashCmd_op, F.curFlashCmd_src]
  | .curFlashStatus => [F.curFlashStatus_busy, F.curFlashStatus_result]
  | .curSlipAddr => [F.curSlipAddr_addr]
  | .curSlipCtrl => [F.curSlipCtrl_go]
  | .curSlipStatus => [F.curSlipStatus_busy, F.curSlipStatus_done, F.curSlipStatus_reject]
  | .rasVendorCore => [F.rasVendor_vendor .core, F.rasVendor_imp .core]
  | .rasVendorSlice => [F.rasVendor_vendor .tile, F.rasVendor_imp .tile]
  | .rasVendorStop => [F.rasVendor_vendor .stop, F.rasVendor_imp .stop]
  | .rasVendorMp => [F.rasVendor_vendor .mp, F.rasVendor_imp .mp]
  | .rasVendorAx => [F.rasVendor_vendor .ax, F.rasVendor_imp .ax]
  | .rasVendorHp => [F.rasVendor_vendor .hp, F.rasVendor_imp .hp]
  | .rasVendorDe => [F.rasVendor_vendor .de, F.rasVendor_imp .de]
  | .rasVendorSvc => [F.rasVendor_vendor .svc, F.rasVendor_imp .svc]
  | .rasBankInfoCore => [F.rasBankInfo_instId .core, F.rasBankInfo_nErrRecs .core, F.rasBankInfo_version .core]
  | .rasBankInfoSlice => [F.rasBankInfo_instId .tile, F.rasBankInfo_nErrRecs .tile, F.rasBankInfo_version .tile]
  | .rasBankInfoStop => [F.rasBankInfo_instId .stop, F.rasBankInfo_nErrRecs .stop, F.rasBankInfo_version .stop]
  | .rasBankInfoMp => [F.rasBankInfo_instId .mp, F.rasBankInfo_nErrRecs .mp, F.rasBankInfo_version .mp]
  | .rasBankInfoAx => [F.rasBankInfo_instId .ax, F.rasBankInfo_nErrRecs .ax, F.rasBankInfo_version .ax]
  | .rasBankInfoHp => [F.rasBankInfo_instId .hp, F.rasBankInfo_nErrRecs .hp, F.rasBankInfo_version .hp]
  | .rasBankInfoDe => [F.rasBankInfo_instId .de, F.rasBankInfo_nErrRecs .de, F.rasBankInfo_version .de]
  | .rasBankInfoSvc => [F.rasBankInfo_instId .svc, F.rasBankInfo_nErrRecs .svc, F.rasBankInfo_version .svc]
  | .rasValidCore => [F.rasValid_sv .core, F.rasValid_valid .core]
  | .rasValidSlice => [F.rasValid_sv .tile, F.rasValid_valid .tile]
  | .rasValidStop => [F.rasValid_sv .stop, F.rasValid_valid .stop]
  | .rasValidMp => [F.rasValid_sv .mp, F.rasValid_valid .mp]
  | .rasValidAx => [F.rasValid_sv .ax, F.rasValid_valid .ax]
  | .rasValidHp => [F.rasValid_sv .hp, F.rasValid_valid .hp]
  | .rasValidDe => [F.rasValid_sv .de, F.rasValid_valid .de]
  | .rasValidSvc => [F.rasValid_sv .svc, F.rasValid_valid .svc]
  | .rasControlCore => [F.rasControl_else .core, F.rasControl_cece .core, F.rasControl_ces .core, F.rasControl_ueds .core, F.rasControl_uecs .core]
  | .rasControlSlice => [F.rasControl_else .tile, F.rasControl_cece .tile, F.rasControl_ces .tile, F.rasControl_ueds .tile, F.rasControl_uecs .tile]
  | .rasControlStop => [F.rasControl_else .stop, F.rasControl_cece .stop, F.rasControl_ces .stop, F.rasControl_ueds .stop, F.rasControl_uecs .stop]
  | .rasControlMp => [F.rasControl_else .mp, F.rasControl_cece .mp, F.rasControl_ces .mp, F.rasControl_ueds .mp, F.rasControl_uecs .mp]
  | .rasControlAx => [F.rasControl_else .ax, F.rasControl_cece .ax, F.rasControl_ces .ax, F.rasControl_ueds .ax, F.rasControl_uecs .ax]
  | .rasControlHp => [F.rasControl_else .hp, F.rasControl_cece .hp, F.rasControl_ces .hp, F.rasControl_ueds .hp, F.rasControl_uecs .hp]
  | .rasControlDe => [F.rasControl_else .de, F.rasControl_cece .de, F.rasControl_ces .de, F.rasControl_ueds .de, F.rasControl_uecs .de]
  | .rasControlSvc => [F.rasControl_else .svc, F.rasControl_cece .svc, F.rasControl_ces .svc, F.rasControl_ueds .svc, F.rasControl_uecs .svc]
  | .rasStatusCore => [F.rasStatus_v .core, F.rasStatus_ce .core, F.rasStatus_ued .core, F.rasStatus_uec .core, F.rasStatus_pri .core, F.rasStatus_mo .core, F.rasStatus_c .core, F.rasStatus_tt .core, F.rasStatus_iv .core, F.rasStatus_ait .core, F.rasStatus_siv .core, F.rasStatus_tsv .core, F.rasStatus_ceco .core, F.rasStatus_ec .core, F.rasStatus_cec .core]
  | .rasStatusSlice => [F.rasStatus_v .tile, F.rasStatus_ce .tile, F.rasStatus_ued .tile, F.rasStatus_uec .tile, F.rasStatus_pri .tile, F.rasStatus_mo .tile, F.rasStatus_c .tile, F.rasStatus_tt .tile, F.rasStatus_iv .tile, F.rasStatus_ait .tile, F.rasStatus_siv .tile, F.rasStatus_tsv .tile, F.rasStatus_ceco .tile, F.rasStatus_ec .tile, F.rasStatus_cec .tile]
  | .rasStatusStop => [F.rasStatus_v .stop, F.rasStatus_ce .stop, F.rasStatus_ued .stop, F.rasStatus_uec .stop, F.rasStatus_pri .stop, F.rasStatus_mo .stop, F.rasStatus_c .stop, F.rasStatus_tt .stop, F.rasStatus_iv .stop, F.rasStatus_ait .stop, F.rasStatus_siv .stop, F.rasStatus_tsv .stop, F.rasStatus_ceco .stop, F.rasStatus_ec .stop, F.rasStatus_cec .stop]
  | .rasStatusMp => [F.rasStatus_v .mp, F.rasStatus_ce .mp, F.rasStatus_ued .mp, F.rasStatus_uec .mp, F.rasStatus_pri .mp, F.rasStatus_mo .mp, F.rasStatus_c .mp, F.rasStatus_tt .mp, F.rasStatus_iv .mp, F.rasStatus_ait .mp, F.rasStatus_siv .mp, F.rasStatus_tsv .mp, F.rasStatus_ceco .mp, F.rasStatus_ec .mp, F.rasStatus_cec .mp]
  | .rasStatusAx => [F.rasStatus_v .ax, F.rasStatus_ce .ax, F.rasStatus_ued .ax, F.rasStatus_uec .ax, F.rasStatus_pri .ax, F.rasStatus_mo .ax, F.rasStatus_c .ax, F.rasStatus_tt .ax, F.rasStatus_iv .ax, F.rasStatus_ait .ax, F.rasStatus_siv .ax, F.rasStatus_tsv .ax, F.rasStatus_ceco .ax, F.rasStatus_ec .ax, F.rasStatus_cec .ax]
  | .rasStatusHp => [F.rasStatus_v .hp, F.rasStatus_ce .hp, F.rasStatus_ued .hp, F.rasStatus_uec .hp, F.rasStatus_pri .hp, F.rasStatus_mo .hp, F.rasStatus_c .hp, F.rasStatus_tt .hp, F.rasStatus_iv .hp, F.rasStatus_ait .hp, F.rasStatus_siv .hp, F.rasStatus_tsv .hp, F.rasStatus_ceco .hp, F.rasStatus_ec .hp, F.rasStatus_cec .hp]
  | .rasStatusDe => [F.rasStatus_v .de, F.rasStatus_ce .de, F.rasStatus_ued .de, F.rasStatus_uec .de, F.rasStatus_pri .de, F.rasStatus_mo .de, F.rasStatus_c .de, F.rasStatus_tt .de, F.rasStatus_iv .de, F.rasStatus_ait .de, F.rasStatus_siv .de, F.rasStatus_tsv .de, F.rasStatus_ceco .de, F.rasStatus_ec .de, F.rasStatus_cec .de]
  | .rasStatusSvc => [F.rasStatus_v .svc, F.rasStatus_ce .svc, F.rasStatus_ued .svc, F.rasStatus_uec .svc, F.rasStatus_pri .svc, F.rasStatus_mo .svc, F.rasStatus_c .svc, F.rasStatus_tt .svc, F.rasStatus_iv .svc, F.rasStatus_ait .svc, F.rasStatus_siv .svc, F.rasStatus_tsv .svc, F.rasStatus_ceco .svc, F.rasStatus_ec .svc, F.rasStatus_cec .svc]
  | .rasAddrCore => [F.rasAddr_value .core]
  | .rasAddrSlice => [F.rasAddr_value .tile]
  | .rasAddrStop => [F.rasAddr_value .stop]
  | .rasAddrMp => [F.rasAddr_value .mp]
  | .rasAddrAx => [F.rasAddr_value .ax]
  | .rasAddrHp => [F.rasAddr_value .hp]
  | .rasAddrDe => [F.rasAddr_value .de]
  | .rasAddrSvc => [F.rasAddr_value .svc]
  | .rasInfoCore => [F.rasInfo_value .core]
  | .rasInfoSlice => [F.rasInfo_value .tile]
  | .rasInfoStop => [F.rasInfo_value .stop]
  | .rasInfoMp => [F.rasInfo_value .mp]
  | .rasInfoAx => [F.rasInfo_value .ax]
  | .rasInfoHp => [F.rasInfo_value .hp]
  | .rasInfoDe => [F.rasInfo_value .de]
  | .rasInfoSvc => [F.rasInfo_value .svc]
  | .rasSupplCore => [F.rasSuppl_value .core]
  | .rasSupplSlice => [F.rasSuppl_value .tile]
  | .rasSupplStop => [F.rasSuppl_value .stop]
  | .rasSupplMp => [F.rasSuppl_value .mp]
  | .rasSupplAx => [F.rasSuppl_value .ax]
  | .rasSupplHp => [F.rasSuppl_value .hp]
  | .rasSupplDe => [F.rasSuppl_value .de]
  | .rasSupplSvc => [F.rasSuppl_value .svc]
  | .rasTimeCore => [F.rasTime_value .core]
  | .rasTimeSlice => [F.rasTime_value .tile]
  | .rasTimeStop => [F.rasTime_value .stop]
  | .rasTimeMp => [F.rasTime_value .mp]
  | .rasTimeAx => [F.rasTime_value .ax]
  | .rasTimeHp => [F.rasTime_value .hp]
  | .rasTimeDe => [F.rasTime_value .de]
  | .rasTimeSvc => [F.rasTime_value .svc]

/-- Every register of the map, banks listed once for each place that has one. -/
def RegName.all : List RegName :=
  List.flatten [
    [.niDepoMap, .niPfCtrl, .niRouteStatus, .rtDeadCtrl, .rtMeterLane, .rtSpare, .rtMeterWheel, .niRouteA, .niRouteB, .pmuCtlStop, .pmuCtlSlice, .pmuCtlMp],
    [.pmuCtlAx, .pmuCntStop, .pmuCntSlice, .pmuCntMp, .pmuCntAx, .pmuAddrBaseStop, .pmuAddrBaseSlice, .pmuAddrBaseMp, .pmuAddrBaseAx, .pmuAddrLimStop, .pmuAddrLimSlice, .pmuAddrLimMp],
    [.pmuAddrLimAx, .pmuBlockCtrlStop, .pmuBlockCtrlSlice, .pmuBlockCtrlMp, .pmuBlockCtrlAx, .mlgWayRetire, .coreSpecCtrl, .corePfCtrl, .mlgVf, .mlgCoreStatus, .mlgCoreLife, .coreHartMap],
    [.coreMtime, .coreMtimecmp, .coreMemattr, .coreMemattrLim, .llcShelf, .llcWidClass, .llcShelfCtrl, .coreHoldCtrl, .dirRetryCtrl, .niFabricCtrl, .niFabricStatus, .niMeterWids],
    [.wldSeat, .wldBellPairs, .wldDeedTable, .wldDepoDeed, .wldGpioWid, .wldDebugInv, .wldDebugNoninv, .wldRegion, .wldRegionLim, .wldKeySlot, .wldKeyCmd, .wldDeedArg],
    [.wldDeedCmd, .wldDeedStatus, .wldSlipBell, .pwrDomStatus, .pwrDomCount, .pwrDomReq, .pwrRefuserCount, .pwrModeStatus, .pwrModeCtrl, .pwrWakeEn, .pwrWatchCfg, .pwrWatchStatus],
    [.pwrLimitCtrl, .pwrLimitStatus, .mlgCtrl, .mlgStatus, .anlCtrl, .anlStatus, .anlNextSeq, .anlCalendar, .anlCalSet, .anlRate, .anlSnap, .pmuFolioCtrl],
    [.pmuFolioBuf, .pmuFolioRing, .pmuFolioStatus, .kprStatus, .kprWdt, .kprDebugConsent, .kprLimitCount, .curCtrl, .curXip, .curStatus, .mpCfg, .mpStatus],
    [.mpLocalTop, .mpLaneRetire, .mpScrubCtrl, .mpScrubStatus, .mpErrCount, .axgPortCtrl, .axgPortStatus, .axgAnnexId, .axgLinkCount, .axgQstatus, .axgDeclared, .axgFence],
    [.axgAgentCfg, .axgGrant, .axgWin, .axgWinLim, .axgMmio, .axgMmioLim, .axgWinCtrl, .hpPortCfg, .hpPortStatus, .hpRcCtrl, .hpRcStatus, .hpRidWid],
    [.hpEpCfg, .hpViCfg, .hpViAper, .hpTqRing, .hpTqCpl, .hpTqTail, .hpTqCplHead, .hpTqStatus, .hpTqCtrl, .deEngStatus, .deChCfg, .deChRing],
    [.deChCpl, .deChTail, .deChCplHead, .deChStatus, .deChCtrl, .deChMsi, .deChAlive, .deScanCfg, .deScanStart, .deScanLen, .deScanPeriod, .deScanExpect],
    [.deScanResult, .deScanStatus, .curMtimeLo, .curMtimeHi, .curMtimecmpLo, .curMtimecmpHi, .curIntPend, .curIntEn, .curWdtKick, .curFlashAddr, .curFlashCmd, .curFlashStatus],
    [.curSlipAddr, .curSlipCtrl, .curSlipStatus, .rasVendorCore, .rasVendorSlice, .rasVendorStop, .rasVendorMp, .rasVendorAx, .rasVendorHp, .rasVendorDe, .rasVendorSvc, .rasBankInfoCore],
    [.rasBankInfoSlice, .rasBankInfoStop, .rasBankInfoMp, .rasBankInfoAx, .rasBankInfoHp, .rasBankInfoDe, .rasBankInfoSvc, .rasValidCore, .rasValidSlice, .rasValidStop, .rasValidMp, .rasValidAx],
    [.rasValidHp, .rasValidDe, .rasValidSvc, .rasControlCore, .rasControlSlice, .rasControlStop, .rasControlMp, .rasControlAx, .rasControlHp, .rasControlDe, .rasControlSvc, .rasStatusCore],
    [.rasStatusSlice, .rasStatusStop, .rasStatusMp, .rasStatusAx, .rasStatusHp, .rasStatusDe, .rasStatusSvc, .rasAddrCore, .rasAddrSlice, .rasAddrStop, .rasAddrMp, .rasAddrAx],
    [.rasAddrHp, .rasAddrDe, .rasAddrSvc, .rasInfoCore, .rasInfoSlice, .rasInfoStop, .rasInfoMp, .rasInfoAx, .rasInfoHp, .rasInfoDe, .rasInfoSvc, .rasSupplCore],
    [.rasSupplSlice, .rasSupplStop, .rasSupplMp, .rasSupplAx, .rasSupplHp, .rasSupplDe, .rasSupplSvc, .rasTimeCore, .rasTimeSlice, .rasTimeStop, .rasTimeMp, .rasTimeAx],
    [.rasTimeHp, .rasTimeDe, .rasTimeSvc]]

/-- The LOCK bit that governs a register's RWL fields (R9, R10). -/
def RegName.lock : RegName → Option Fld
  | .wldDeedTable | .wldDepoDeed | .wldRegion | .wldRegionLim => some F.wldDeedTable_lock
  | .mlgCtrl => some F.mlgCtrl_lock
  | .anlRate | .anlSnap => some F.anlCtrl_lock
  | .kprWdt => some F.kprWdt_lock
  | .curCtrl | .curXip => some F.curCtrl_lock
  | .mpCfg => some F.mpCfg_lock
  | .axgPortCtrl | .axgAgentCfg => some F.axgPortCtrl_lock
  | .hpPortCfg => some F.hpPortCfg_lock
  | .hpEpCfg => some F.hpEpCfg_lock
  | _ => none

end Sys2Proof.Machine
end

