-- ==== Sys2Proof/Machine/Types.lean ====
section
/-! DEFINITION. The plain data that the state and the commands are made of: harts and their in-flight instructions,
cores, caches, home slices, network interfaces, sealed memory, worlds and the Annals' records. -/
namespace Sys2Proof.Machine

/-! ### Fuses -/

/-- What wafer test and the integrator's fuses fix for a die (R16, R42, R461, R463, R458, R389, R482). Each table lists what
differs from the design choice of its default. (DESIGN CHOICE, assumption 5.) (DEDUCED, assumption 106.) -/
structure Fuses where
  /-- The core that holds a hart at first cold reset (R16, R42); unlisted: the core of the hart's own number. -/
  hartCore : Map Nat := []
  /-- A core's N_CEIL (R463); unlisted 18. -/
  nCeil : Map Nat := []
  /-- A core's V_CEIL in mV (R463); unlisted 1100. -/
  vCeil : Map Nat := []
  /-- The fused default V/F entry of core and n, keyed core * 32 + n: VOLT in mV (R461); unlisted 600 + 25 * (n - 6), at most V_CEIL. -/
  vf : Map Nat := []
  /-- The package ceiling in W (R458). -/
  ceilingW : Nat := 600
  serial : Word := 0
  /-- The key hashes, by owner * 4 + pair: owner 0 Skelcel, 1 the integrator (R390); the pairs marked VALID and the pairs revoked. -/
  keyHash : Map Nat := []
  valid : List Nat := []
  revoked : List Nat := []
  /-- The bits set in the SVN counter of each image TYPE (R390). -/
  svn : Map Nat := []
  /-- The unique device secret, and SHA-384 of the ROM image (R395). -/
  uds : Nat := 0
  romHash : Nat := 0
  deriving DecidableEq, Repr

/-! ### Harts -/

inductive Priv where
  | u | s | m
  deriving DecidableEq, Repr

/-- What a hart waits in (R34, R44, R442). -/
inductive Wait where
  | run
  | wfi
  | wrsNto (sec : Nat)
  | wrsSto (sec : Nat)
  deriving DecidableEq, Repr

/-- Where a load's value goes: an integer, floating-point or vector-element register. -/
inductive Dest where
  | none
  | x (r : Nat)
  | f (r : Nat)
  | v (r elt : Nat)
  deriving DecidableEq, Repr

/-- The AMO operations of R215, and SWAP to MAXU of the A extension. -/
inductive AmoOp where
  | swap | add | and | or | xor | min | max | minu | maxu
  deriving DecidableEq, Repr

/-- The Svpbmt type of a page (R87). -/
inductive PageType where
  | pma | nc | io
  deriving DecidableEq, Repr

/-- The effective types of R90; the numbers 0 to 3 of R207 and IO. -/
inductive EType where
  | wb | wt | wa | uc | io
  deriving DecidableEq, Repr

/-- What the page-table walk of one part of an access read (R31, R75): the leaf entries that it ended at, with their levels, or the exception that it ended in. An address that no
stage translates is physical already, and the rest is not looked at. A walk that a TLB served gives the address and type the TLB holds. -/
structure Xlate where
  pa : BitVec 52 := 0
  ptype : PageType := .pma
  /-- The exception in which the walk ended before a leaf (12, 13, 15 page faults; 20, 21, 23 guest-page faults; 1, 5, 7 access faults). -/
  fault : Option Nat := none
  /-- The leaf entry of the first stage and its level, 0 for 4 KiB; and of the guest stage. -/
  leaf : Option (Word × Nat) := none
  gleaf : Option (Word × Nat) := none
  /-- The guest physical address of a guest-page fault (R34). -/
  gpa : Word := 0
  /-- The page-table walk read poison (R485). -/
  poisonWalk : Bool := false
  deriving DecidableEq, Repr

/-- One load or store as its hart executes it: R74 splits it at the block boundary and x1 is the second part's translation. (DESIGN CHOICE, assumption 20.) -/
structure Access where
  id : Nat
  pc : Word
  va : Word
  /-- Bytes, 1 to 8: a scalar access or one vector element (R76). -/
  size : Fin 9
  signed : Bool := false
  dest : Dest := .none
  value : Word := 0
  spec : Bool := false
  x0 : Xlate
  x1 : Xlate := {}
  /-- The element number of a vector access (R76, R486). -/
  elt : Option Nat := none
  /-- The transformed instruction that a trap writes to mtinst or htinst (R34). -/
  tinst : Word := 0
  /-- The physical sector from which the instruction was fetched (R71). -/
  isec : BitVec 46 := 0
  /-- The instruction's encoding, for an illegal-instruction exception (R32, R34), and the ordering annotations of an LR, SC or AMO (R134). -/
  enc : BitVec 32 := 0
  aq : Bool := false
  rl : Bool := false
  /-- An element of a fault-only-first load (R34). -/
  fof : Bool := false
  deriving DecidableEq, Repr

/-- An exception that an instruction in flight will raise when it is the oldest and bound (R34, R75). -/
structure Pend where
  cause : Nat
  tval : Word := 0
  gpa : Word := 0
  tinst : Word := 0
  /-- A trigger whose action enters debug mode. -/
  debug : Bool := false
  /-- The physical address of poison consumed. -/
  pa : Nat := 0
  deriving DecidableEq, Repr

/-- What an in-flight instruction is. -/
inductive OpKind where
  | load | lr | sc | amo (op : AmoOp) | farAmo (op : AmoOp) | ioLoad | store | ioStore
  | cbo (flush : Bool) | cboZero
  | fence | fenceAx | bellSend
  | prefetch (level : Nat)
  | other
  deriving DecidableEq, Repr

/-- One part of an access: bytes of one sector (R74). -/
structure Part where
  sec : Nat
  off : Nat
  len : Nat
  etype : EType := .wb
  val : Option Nat := none
  poison : Bool := false
  /-- The tag of the request that serves the part. -/
  tag : Option Nat := none
  /-- The bytes of older stores of the hart that the part takes from the store queue. -/
  ovm : BitVec 64 := 0
  ovd : Sector := 0
  /-- A speculative request for the part was answered Retry: it waits until bound (R122). -/
  specRetry : Bool := false
  /-- It missed in the L1D and has not trained the L2's streams, since it is not bound (R66, R91). -/
  missed : Bool := false
  deriving DecidableEq, Repr

/-- A translation (R68, R69): virtual page, physical page, type. -/
structure Transl where
  vpn : Nat
  ppn : Nat
  ptype : PageType
  users : List Nat := []
  deriving DecidableEq, Repr

/-- An instruction in flight in a hart (R60). -/
structure Infl where
  id : Nat
  kind : OpKind
  pc : Word
  spec : Bool
  va : Word := 0
  size : Nat := 0
  signed : Bool := false
  dest : Dest := .none
  opnd : Word := 0
  parts : List Part := []
  complete : Bool := false
  elt : Option Nat := none
  isec : Nat := 0
  fault : Option Pend := none
  tinst : Word := 0
  /-- Its register has been written, or its store has entered the store queue. -/
  done : Bool := false
  /-- The CMO of R129 has been sent. -/
  sent : Bool := false
  aq : Bool := false
  rl : Bool := false
  fof : Bool := false
  /-- Translations of a speculative access that wait for free entries of the shadow buffer (R68). -/
  xl : List Transl := []
  deriving DecidableEq, Repr

/-- A retired store in the store queue (R60). -/
structure StoreEnt where
  sec : Nat
  off : Nat
  len : Nat
  val : Nat
  etype : EType
  pc : Word
  tag : Option Nat := none
  /-- A cbo.zero: the whole sector, zero. -/
  zero : Bool := false
  deriving DecidableEq, Repr

/-- A data entry of the shadow buffer (R67 to R69). -/
structure ShadowData where
  sec : Nat
  data : Sector
  poison : Bool
  /-- Served from the LLC, not from the L1 or L2. -/
  fromLlc : Bool
  users : List Nat
  /-- The ReadShared that installs the entry is open (R69). -/
  installing : Bool := false
  /-- A block that a speculative instruction fetch brought (R67). -/
  code : Bool := false
  deriving DecidableEq, Repr

/-- A doorbell in an inbox (R50, R52). -/
structure Doorbell where
  wid : Nat
  hart : Nat
  payload : Word
  deriving DecidableEq, Repr

/-- One IMSIC interrupt file (R34, R46). -/
structure ImsicFile where
  pend : BitVec 256 := 0
  en : BitVec 256 := 0
  delivery : Word := 0
  threshold : Word := 0
  deriving DecidableEq, Repr

/-- PX.FENCE.AX in progress (R57, R58): the ports probed and not answered, and the mask so far. -/
structure AxFence where
  id : Nat
  rd : Nat
  waiting : BitVec 6
  failed : BitVec 6
  /-- Step 1 is done and the probes are sent. -/
  probed : Bool
  /-- The tag of the probe to each port. -/
  tags : List (Nat × Nat)
  deriving DecidableEq, Repr

/-- A hart: its architectural state (R31 to R39) and what it has in flight. -/
structure Hart where
  pc : Word := 0
  x : Map Word := []
  f : Map Word := []
  v : Map (BitVec 256) := []
  /-- The CSRs by number; an unlisted CSR holds its value of R39. -/
  csr : Map Word := []
  priv : Priv := .m
  virt : Bool := false
  debug : Bool := false
  haltReq : Bool := false
  /-- The LR reservation: a sector number (R34). -/
  resv : Option Nat := none
  wait : Wait := .run
  /-- Stopped for remap, lending, rolling check, or a mode sequence. -/
  stopped : Bool := false
  /-- A stop waits for the oldest instruction to complete (R44, R77). -/
  stopping : Bool := false
  sq : List StoreEnt := []
  infl : List Infl := []
  shadowD : List ShadowData := []
  shadowT : List Transl := []
  tlb : List Transl := []
  inbox : List Doorbell := []
  imsic : Map ImsicFile := []
  fence : Option AxFence := none
  /-- Ports behind which an access waited on by the fence failed (R58). -/
  axErr : BitVec 6 := 0
  /-- Blocks that a retired store of the hart has modified under instructions in flight: fetch restarts once they are written (R71). -/
  smc : List Nat := []
  /-- Blocks whose speculative fetch was answered Retry: they are asked for again when fetch is bound (R67, R122). -/
  fetchRetry : List Nat := []
  deriving DecidableEq, Repr

/-! ### Cores and caches -/

/-- A stride stream of an L2 or an LLC detector (R91, R92). -/
structure Stream where
  key : Nat
  last : Nat
  stride : Int
  count : Nat
  dist : Nat
  deriving DecidableEq, Repr

/-- An open hold window (R152): the sector, whether it serves an LR, the snoops held, and the accesses that waited for the grant: stores of the store queue and
instructions in flight. -/
structure HoldWin where
  sec : Nat
  lr : Bool
  held : List Packet
  stores : Nat := 0
  ids : List Nat := []
  deriving DecidableEq, Repr

/-- A predicted branch that has not resolved: its place in program order, the global history before it, and where a return was predicted to go (R63, R65). -/
structure PredRec where
  id : Nat
  ghist : Word
  target : Option Word := none
  deriving DecidableEq, Repr

/-- What belongs to a physical core and is not moved by a remap (R43, R63 to R65, R80). (DESIGN CHOICE, assumption 25.) -/
structure Core where
  /-- BTB, direction and indirect-target predictors, trained by retiring branches (R63). -/
  btb : List (Word × Word) := []
  dirp : List (Word × Bool) := []
  indp : List (Word × Word) := []
  ghist : Word := 0
  /-- The return stack, at most 32 entries (R65). -/
  ras : List Word := []
  /-- The branches fetched and not resolved, oldest first (R63). -/
  preds : List PredRec := []
  /-- A write of CORE_SPEC_CTRL that the hart's next instruction boundary brings into effect (R62). -/
  specNext : Option Word := none
  /-- The sectors whose blocks the L1I holds: four of each of 256 sets (R71 to R73, R80). -/
  l1i : List Nat := []
  streams : List Stream := []
  windows : List HoldWin := []
  /-- FLUSHED of R148, dead holder of R150. -/
  flushed : Bool := false
  dead : Bool := false
  /-- The core issues no new request: step 1 of R148, which its eviction follows. -/
  quiet : Bool := false
  /-- The L2 evicts every sector: steps 2 to 4 of R148, step 4 of R44, step 3 of R297. -/
  emptying : Bool := false
  /-- The idle wait has reached 1 µs and the clock is gated (R442) is in PWR_DOM_STATUS; this is the thermal cut (R457). -/
  cut : Bool := false
  deriving DecidableEq, Repr

/-- The stable and transient states of a caching agent (R110, R123). -/
inductive CState where
  | i | s | e | o | m | isD | imD | smA | omA | miP | oiP | iP
  deriving DecidableEq, Repr

/-- A sector at a caching agent. -/
structure CLine where
  st : CState := .i
  data : Sector := 0
  poison : Bool := false
  l1d : Bool := false
  /-- The pending write-back carries KEEP (R128). -/
  keep : Bool := false
  /-- DataFwd received in IM_D, awaiting Comp (R124): its grant. -/
  fwd : Option Nat := none
  /-- A prefetch of a stream brought the sector, and nothing has used it yet (R91): the stream's key. -/
  pf : Option Nat := none
  deriving DecidableEq, Repr

/-- Why a requester has a request open. -/
inductive Purp where
  | demand | spec | cancel | install | fetch | own | prefetch | store | writeback | cmo | zero | atomic | once | probe | io | folio | engine | mem | annex
  deriving DecidableEq, Repr

/-- An open request at a requester, by its stop's tag (R199). -/
structure Req where
  pkt : Packet
  ep : Nat
  purp : Purp
  /-- The data and mask the writer will send on DataPull (R121). -/
  data : Sector := 0
  mask : BitVec 64 := 0
  poison : Bool := false
  aop : Nat := 0
  /-- The number of Retries received, and whether the re-send waits for its backoff (R156). -/
  retries : Nat := 0
  /-- The place in order of the first Retry among the stop's retried requests (R156). -/
  retryNo : Nat := 0
  backing : Bool := false
  /-- A speculative request that got Retry waits until its instruction is bound (R122). -/
  waitBound : Bool := false
  /-- An annex's request admitted under a window set since replaced (R244). -/
  old : Bool := false
  /-- The access it serves is not bound: no prefetcher has trained on it (R66, R92). -/
  unbound : Bool := false
  deriving DecidableEq, Repr

/-! ### Accesses of I/O agents -/

/-- One access to memory of an I/O agent (R107, R130), or of the deed unit on its own account. -/
inductive Acc where
  | read (wid sec : Nat)
  | write (wid sec : Nat) (d : Sector) (m : BitVec 64) (p : Bool)
  | atomic (wid sec aop : Nat) (d : Sector) (m : BitVec 64)
  | flush (wid sec : Nat)
  /-- No access: the run waits until those before it that PCIe ordering names have ended (R361). -/
  | turn
  deriving DecidableEq, Repr

/-- What an access gives: data with its poison, performed, or an error code and origin. -/
inductive CohAns where
  | data (d : Sector) (p : Bool)
  | done
  | err (code origin : Nat)
  deriving DecidableEq, Repr

/-- How far the command that now runs has come in the answers its earlier accesses have had: those it has still to take, those it has taken, and the access that it waits for. -/
structure Cursor where
  left : List (Acc × CohAns) := []
  used : List (Acc × CohAns) := []
  block : Option Acc := none
  deriving DecidableEq, Repr

/-! ### Home slices -/

/-- The directory states of R111. -/
inductive DState where
  | ds | dx | dox
  deriving DecidableEq, Repr

/-- A directory entry (R112). -/
structure DirEnt where
  sec : Nat
  st : DState
  busy : Bool
  fmt : Bool := false
  owner : Nat := 0
  ptrs : List Nat := []
  groups : BitVec 34 := 0
  annex : BitVec 6 := 0
  deriving DecidableEq, Repr

/-- An LLC line: one granule, two sectors (R80, R82). -/
structure LlcLine where
  gran : Nat
  v0 : Bool := false
  v1 : Bool := false
  k0 : Bool := false
  k1 : Bool := false
  d0 : Sector := 0
  d1 : Sector := 0
  p0 : Bool := false
  p1 : Bool := false
  rrpv : Nat := 2
  /-- A staging line, pinned (R103). -/
  pinned : Bool := false
  deriving DecidableEq, Repr

/-- What a home transaction waits for (R119). -/
inductive TxPhase where
  | snoops | memory | pull | ack | memWrite
  deriving DecidableEq, Repr

/-- An open transaction of a home (R119, R126). -/
structure Tx where
  sec : Nat
  pkt : Packet
  phase : TxPhase
  /-- Agents whose answer is awaited, and the owner snooped. -/
  waits : List Nat := []
  owner : Option Nat := none
  /-- Dirty data that an answer returned, with its poison. -/
  dirty : Option (Sector × Bool) := none
  /-- The owner forwarded data to the requester, and the owner's state afterwards. -/
  fwd : Bool := false
  ownerSt : Nat := 0
  ownerDead : Bool := false
  /-- A back-invalidation of a directory victim, or a flush on the home's own account. -/
  back : Bool := false
  /-- The requester's listing before the transaction. -/
  listed : Bool := false
  /-- The requester's CompAck has arrived before every snoop answer (R136). -/
  acked : Bool := false
  /-- A back-invalidation makes room for the request of this sector (R145). -/
  forSec : Option Nat := none
  /-- The write data received: data, mask, poison, atomic operation. -/
  wd : Option (Sector × BitVec 64 × Bool × Nat) := none
  deriving DecidableEq, Repr

/-- A home-queue entry (R97, R102, R119): the request, whether it is being served, and the class whose reserved entry it took. -/
structure HqEnt where
  pkt : Packet
  active : Bool
  resClass : Option Nat := none
  deriving DecidableEq, Repr

/-- A roster slot (R155, R157): its number, class of its request, and the kind of entry reserved for it (none, shared = some none, class). -/
structure RosterEnt where
  slot : Nat
  cls : Nat
  res : Option (Option Nat) := none
  deriving DecidableEq, Repr

/-- A memory message a home has decided to issue (R118, R139, R209). -/
structure MemMsg where
  tag : Nat := 0
  gran : Nat
  write : Bool
  s0 : Bool := false
  s1 : Bool := false
  d0 : Sector := 0
  d1 : Sector := 0
  m0 : BitVec 64 := 0
  m1 : BitVec 64 := 0
  p0 : Bool := false
  p1 : Bool := false
  victim : Bool := false
  wid : Nat := 0
  /-- The transaction that waits for it. -/
  forSec : Option Nat := none
  /-- An LLC prefetch's read (R92). -/
  prefetch : Option Packet := none
  /-- It drains an eviction-buffer entry, whose contents it takes when it is sent (R143). -/
  evict : Bool := false
  /-- The read's fill may allocate in the LLC; an eviction-buffer entry is reserved for it (R140). -/
  alloc : Bool := false
  resv : Bool := false
  sent : Bool := false
  deriving DecidableEq, Repr

/-- An eviction-buffer entry (R140, R143). -/
structure EvEnt where
  gran : Nat
  v0 : Bool
  v1 : Bool
  k0 : Bool
  k1 : Bool
  d0 : Sector
  d1 : Sector
  p0 : Bool
  p1 : Bool
  /-- A sector has left the entry, whose MemWrite then carries only what is dirty (R143). -/
  part : Bool := false
  deriving DecidableEq, Repr

/-- A home slice's queues and tables. -/
structure Slice where
  hq : List HqEnt := []
  spec : List Packet := []
  roster : List RosterEnt := []
  evb : List EvEnt := []
  txs : List Tx := []
  mem : List MemMsg := []
  /-- LLC ways whose retirement waits for their flush (R474). -/
  retiring : BitVec 12 := 0
  /-- Write credits in use, by target stop (R210). -/
  credits : Map Nat := []
  deriving DecidableEq, Repr

/-! ### Network interfaces and routers -/

/-- A packet waiting for injection is in the state's `outq`; this is what else an interface holds. -/
structure Ni where
  /-- The epoch hold queue (R178). -/
  hold : List Packet := []
  /-- A fence request has been received and not yet acknowledged (R175). -/
  fenceSeq : Option Nat := none
  routeMiss : Nat := 0
  absorbed : Nat := 0
  meterGaps : Nat := 0
  meterOrphans : Nat := 0
  /-- What was queued before the fence request and has not been injected (R175). -/
  before : List Packet := []
  /-- Packets queued for a lane whose slots a commit has removed: they leave as open traffic (R190). -/
  orphan : List Packet := []
  /-- The metering copies in force (R184): lanes by port * 4 + k (WID + 1, 0 none) and wheel slots by (n * 6 + p) * 64 + slot. -/
  lanes : Map Nat := []
  wheel : Map Nat := []
  /-- The LLC stride detector of an I/O stop or core, by endpoint (R92). -/
  detect : List Stream := []
  deriving DecidableEq, Repr

/-- A packet in the mesh: as the routers leave it, with what remains of its descriptor; the stop whose router or interface holds it; and whether it has gone over to the
open VC (R167, R171, R190). -/
structure Flight where
  pkt : Packet
  at_ : Nat
  onOpen : Bool := false
  deriving DecidableEq, Repr

/-- The global fence in progress (R175). -/
structure Fence where
  seq : Nat
  missing : List Nat
  /-- Part of an epoch switch (R177). -/
  switch : Bool
  deriving DecidableEq, Repr

/-! ### Memory and keys -/

/-- A stored granule: the plaintext of its two sectors under the key that sealed them, and its metadata (R265). The key is named by its
slot and the serial number of the key generation. -/
structure Granule where
  slot : Nat := 0
  gen : Nat := 0
  d0 : Sector := 0
  d1 : Sector := 0
  p0 : Bool := false
  p1 : Bool := false
  echoWid : Nat := 0
  echoSlot : Nat := 0
  keyEpoch : Nat := 0
  scrubEpoch : Nat := 0
  deriving DecidableEq, Repr

/-- What the devices returned for a read: symbol errors among the 80 symbols that are not erased, and whether the pattern lies beyond
the code (R267), for the local copy and for the partner's copy of a mirrored granule (R278). -/
structure ReadErr where
  syms : Nat := 0
  pins : List Nat := []
  partner : Nat := 0
  edcRepeats : Nat := 0
  deriving DecidableEq, Repr

/-- A memory port beside its registers. -/
structure Mp where
  /-- The copy to the partner is running (R279). -/
  resync : Bool := false
  retried : Bool := false
  /-- mtime at which the training sequence that runs began (R280). -/
  started : Nat := 0
  refreshMs : Nat := 32
  hot : Bool := false
  /-- The marginalia cache: cached bursts by port-local index div 4 (R270), oldest first. -/
  mcache : List (Nat × BitVec 4 × BitVec 4) := []
  refreshes : Nat := 0
  /-- The bank refreshed last. -/
  lastBank : Nat := 0
  deriving DecidableEq, Repr

/-- The command a deed page is running (R305, R306). -/
structure DeedCmd where
  op : Nat
  target : Nat
  slot : Nat
  page : Nat
  left : Nat
  done : Nat
  /-- The deed that the page held before its transition, while the page is flushed (R306). -/
  old : Option Word := none
  deriving DecidableEq, Repr

/-! ### The Annals -/

/-- An Annals record (R495). -/
structure AnnRec where
  seq : Nat
  time : Nat
  code : Nat
  sev : Nat
  redacted : Bool := false
  partialSnap : Bool := false
  timeUnset : Bool := false
  snapSet : Nat := 255
  stop : Nat
  unit : Nat
  wid : Nat
  suppressed : Nat := 0
  dropped : Nat := 0
  detail0 : Word
  detail1 : Word
  boot : Nat := 0
  snapshot : List Word := []
  committed : Bool := false
  deriving DecidableEq, Repr

/-- Who an event comes from (R495): stop, unit, world, and the hart if one is the source. -/
structure Source where
  stop : Nat
  unit : Nat
  wid : Nat
  hart : Option Nat := none
  deriving DecidableEq, Repr

end Sys2Proof.Machine
end

