-- ==== Sys2Proof/Machine/Types2.lean ====
section
/-! DEFINITION. Further plain data: annex links and gates, the Annals' recorder, the APLIC and pins, and the doorbells in flight. -/
namespace Sys2Proof.Machine

/-- A doorbell on its way to the target stop (R50). -/
structure BellMsg where
  sender : Nat
  wid : Nat
  target : Nat
  targetWid : Nat
  payload : Word
  /-- rs1 had reserved bits set (R50). -/
  badBits : Bool := false
  deriving DecidableEq, Repr

/-- The states of a UCIe module's physical layer (R220). -/
inductive Phy where
  | reset | sbinit | mbinit | mbtrain | linkinit | active | phyretrain | trainerror
  deriving DecidableEq, Repr

/-- An annex link's state on this side (R228 to R232). -/
structure Link where
  /-- The next sequence number to send, and the flits kept for replay with their numbers, oldest first. -/
  txSeq : Nat := 0
  buf : List (Nat × BitVec 640) := []
  /-- Packets that wait for credits or for room in the replay buffer. -/
  txq : List Packet := []
  /-- The expected number e, the number that the next sequenced flit will have, whether the receiver is in WAIT, and the NAK rounds of this WAIT. -/
  expect : Nat := 0
  rxNum : Nat := 0
  waiting : Bool := false
  nakRounds : Nat := 0
  /-- mtime of the replays of the last 10 µs (R231). -/
  replayAt : List Nat := []
  /-- The last number received in order, 255 before the first (R225). -/
  ackSeq : Nat := 255
  /-- Flits of each class sent, the peer's INIT sizes, and the credits it has returned modulo 256: REQ, FWD, RSP, MGT, DAT (R225, R232). -/
  sent : List Nat := [0, 0, 0, 0, 0]
  peer : List Nat := [0, 0, 0, 0, 0]
  returned : List Nat := [0, 0, 0, 0, 0]
  /-- Flits of each class this side has freed: what the CRD counters report (R225). -/
  freed : List Nat := [0, 0, 0, 0, 0]
  /-- The first flit of a two-flit packet, received (R219). -/
  half : Option (BitVec 640) := none
  /-- Link flits sent to the annex, newest last. -/
  out : List (BitVec 640) := []
  gotInit : Bool := false
  /-- Conservation, Watch and Survey withhold REQ and MGT credits: the CRD counters shown until exit (R448). -/
  withheld : Option (Nat × Nat) := none
  /-- Modules that have failed and could not be repaired (R231). -/
  dead : BitVec 2 := 0
  /-- The physical layers of module 0 and module 1. -/
  phy0 : Phy := .reset
  phy1 : Phy := .reset
  /-- A recalibration whose second module, module 1, has still to leave (R231). -/
  recal : Bool := false
  /-- Bring-up attempts that have failed (R234). -/
  attempts : Nat := 0
  /-- What the annex has been told: the admitted agents of OPEN, and the cause of HOLD (R226). -/
  told : BitVec 16 := 0
  heldCause : Option Nat := none
  deriving DecidableEq, Repr

/-- What the training of an annex module found (R220, R233, R460): the redundant lanes that it uses, none where they cannot repair it, and the eye widths of its 64 lanes. -/
structure LaneTest where
  lanes : Option (Fin 5) := some 0
  eyes : List Nat := []
  deriving DecidableEq, Repr

/-- What an open gate transaction is, for the timers of R238; `pull` waits for an on-die requester's write data (R235). -/
inductive GateKind where
  | snoop | ack | wdata | memRead | memWrite | mmio | flush | pull
  deriving DecidableEq, Repr

/-- An open transaction at a gate (R238, R248, R250). -/
structure GateTx where
  kind : GateKind
  agent : Nat
  pkt : Packet
  /-- A MemWrite's data in plaintext, or an IOWrite's, with masks and poison. -/
  d0 : Sector := 0
  d1 : Sector := 0
  m0 : BitVec 64 := 0
  m1 : BitVec 64 := 0
  p0 : Bool := false
  p1 : Bool := false
  /-- A merge read is running for a masked MemWrite (R248). -/
  merging : Bool := false
  deriving DecidableEq, Repr

/-- A fence probe waiting at a gate (R541): the probe, the tags of the writes it waits on, and FAILED so far. -/
structure Probe where
  pkt : Packet
  waits : List (Nat × Nat)
  failed : Bool
  deriving DecidableEq, Repr

/-- An annex gate beside its registers. -/
structure Gate where
  admitted : BitVec 16 := 0
  /-- The active copies of the windows, by 2n and 2n + 1 for LIM, and of the MMIO windows (R242, R247). -/
  win : Map Word := []
  mmio : Map Word := []
  txs : List GateTx := []
  probes : List Probe := []
  /-- Packets delivered into the annex, newest last, and packets from it that wait for the gate's checks, with whether their framing and reserved bits are
  as R219 and R239 ask. -/
  toAnnex : List Packet := []
  inq : List (Packet × Bool) := []
  discarded : Nat := 0
  refused : Nat := 0
  /-- Agents that have confirmed AgentFlush and answer as empty (R151). -/
  empty : BitVec 16 := 0
  /-- Agents that have received AgentFlush (R151). -/
  flushing : BitVec 16 := 0
  /-- The gate admits no new request: step 3 of R258. -/
  closing : Bool := false
  deriving DecidableEq, Repr

/-- The Annals' recorder (R494 to R505). -/
structure Annals where
  staging : List AnnRec := []
  held : List AnnRec := []
  archive : List AnnRec := []
  nextSeq : Nat := 0
  /-- Records below this SEQUENCE were cleared (R504). -/
  cleared : Nat := 0
  /-- Tokens spent of each code's bucket (R498). -/
  spent : Map Nat := []
  /-- Records dropped since the previous record (R500). -/
  droppedSince : Nat := 0
  droppedFrozen : Nat := 0
  heldTotal : Nat := 0
  /-- The transports that hold a freeze (R502). -/
  freezers : List Nat := []
  /-- The last freeze has ended and the hold queue has not drained yet (R502). -/
  thaw : Bool := false
  notifySev : Nat := 0
  notifyCount : Nat := 0
  notifySeen : Nat := 0
  calendar : Nat := 0
  deriving DecidableEq, Repr

/-- The state of one APLIC source (R48, R318): sourcecfg, target, pending and enabled. -/
structure AplicSrc where
  cfg : BitVec 32 := 0
  /-- sourcecfg of the supervisor-level child domain, for a source delegated to it. -/
  child : BitVec 32 := 0
  target : BitVec 32 := 0
  pend : Bool := false
  en : Bool := false
  deriving DecidableEq, Repr

/-- A GPIO pin: its input level, its output level and whether it is an output, and the output change held for 1 µs (R402). -/
structure Pin where
  level : Bool := false
  out : Bool := false
  isOut : Bool := false
  held : Option Bool := none
  recent : Bool := false
  deriving DecidableEq, Repr

/-! ### Operands of the commands -/

/-- Who issues an access to control space: a hart, whose seat's WID hardware inserts (R290, R197), or another agent with the WID its packet
carries, its stop and endpoint and the tag of the access. (DEDUCED, assumption 12.) -/
structure Issuer where
  hart : Option (BitVec 8) := none
  /-- The virtual address of a hart's access, reported in its trap. -/
  va : Word := 0
  /-- The physical address, which a record of a refusal names. -/
  pa : BitVec 52 := 0
  wid : BitVec 6 := 0
  stop : BitVec 8 := 79
  ep : BitVec 8 := 0
  tag : BitVec 12 := 0
  deriving DecidableEq, Repr

/-- A branch as fetch predicted it (R63, R65). -/
structure Pred where
  id : Nat
  pc : Word
  /-- The address after it, which a call pushes. -/
  link : Word := 0
  taken : Bool := false
  isCall : Bool := false
  isReturn : Bool := false
  deriving DecidableEq, Repr

/-- How a branch resolved (R63, R65), and the branches that were fetched, on the right path or a wrong one, since the hart's last resolution. -/
structure Branch where
  /-- Its place in program order; instructions in flight with a greater id are younger. -/
  id : Nat
  pc : Word
  /-- The address after it, which a call pushes. -/
  link : Word := 0
  taken : Bool
  target : Word
  indirect : Bool := false
  isCall : Bool := false
  isReturn : Bool := false
  fetched : List Pred := []
  mispredicted : Bool := false
  deriving DecidableEq, Repr

/-- What retires (R60): the in-flight instruction if it has one, the address of the next instruction, the branch it was, and the
performance events it counts (R512). -/
structure Retire where
  id : Option Nat := none
  next : Word
  branch : Option Branch := none
  events : List Nat := []
  deriving DecidableEq, Repr

/-- What the oldest instruction is when an interrupt is taken (R77). -/
inductive Oldest where
  | wait (next : Word)
  | fence
  | vectorMem (elt : Nat)
  | other (next : Word)
  deriving DecidableEq, Repr

/-- How a fence probe was answered (R57, R58). -/
inductive ProbeAns where
  | done (failed : Bool)
  | dead
  | error
  deriving DecidableEq, Repr

end Sys2Proof.Machine
end

