-- ==== Sys2Proof/Machine/Types3.lean ====
section
/-! DEFINITION. Further plain data: the data engines' channels and jobs (R326 to R352), the host ports and virtual instances (R353 to R376). -/
namespace Sys2Proof.Machine

/-! ### Data engines -/

/-- The unit types of R324; `none` for a job that needs no unit. -/
inductive UnitType where
  | compactor | collator | mover | none
  deriving DecidableEq, Repr

/-- A job of a channel, a scan slot or a host transfer queue (R328, R347, R369). -/
structure Job where
  index : Nat
  /-- The scan slot whose run the job belongs to. -/
  scan : Option Nat := none
  /-- The descriptor's words. -/
  words : List Word
  /-- mtime at the fetch and at the dispatch; none before dispatch. -/
  fetched : Nat := 0
  ran : Option Nat := none
  unit : UnitType := .none
  /-- A unit of its type went to another channel while it was eligible (R351). -/
  delayed : Bool := false
  /-- The completion record, once the job has ended and its record waits for earlier ones. -/
  record : Option (List Word) := none
  /-- The job's completion sends its interrupt (R336). -/
  int : Bool := false
  /-- A queue job's reads in flight, its first failure and the host bytes received: offset and data (R370, R374). -/
  reads : List Nat := []
  status : Nat := 0
  got : List (Nat × Nat × BitVec 4096) := []
  /-- It waits for a translation (R373). -/
  transl : Bool := false
  deriving DecidableEq, Repr

/-- A copy channel beside its registers: its jobs in index order, the cost used and the unit-time used in this window, and its deficits, by unit type
compactor, collator, mover (R348 to R350). -/
structure Chan where
  jobs : List Job := []
  used : Nat := 0
  spent : List Nat := [0, 0, 0]
  deficit : List Nat := [0, 0, 0]
  /-- The destinations of jobs that a reset has squashed, address and length: their bytes are unspecified (R329, R337). -/
  blur : List (Nat × Nat) := []
  deriving DecidableEq, Repr

/-- A scan slot's run: bytes done and the STATE so far (R347). -/
structure Scan where
  pos : Nat := 0
  st : Word := 0
  deriving DecidableEq, Repr

/-- A data engine. -/
structure Engine where
  chans : Map Chan := []
  scans : Map Scan := []
  /-- The next channel of the weighted and of the zero-weight round robin, by unit type. -/
  ptrW : List Nat := [0, 0, 0]
  ptrZ : List Nat := [0, 0, 0]
  /-- mtime at the start of this 1 ms window. -/
  window : Nat := 0
  deriving DecidableEq, Repr

/-! ### Host ports -/

/-- What a host port sends on a link. -/
inductive TlpKind where
  | memRead | memWrite | cfgRead | cfgWrite | completion | translation | invalComplete | msix | intA (on : Bool)
  deriving DecidableEq, Repr

/-- A completion's status (R357, R359). -/
inductive CplStatus where
  | ok | ur | ca
  deriving DecidableEq, Repr

/-- A packet that a host port sends (R357, R370). -/
structure Tlp where
  kind : TlpKind
  rid : Nat := 0
  tag : Nat := 0
  addr : Nat := 0
  len : Nat := 0
  data : Nat := 0
  status : CplStatus := .ok
  poison : Bool := false
  ro : Bool := false
  translated : Bool := false
  deriving DecidableEq, Repr

/-- Why an outbound non-posted request is open. -/
inductive OutKind where
  | fabric (p : Packet)
  | queue (q index off : Nat)
  | transl (q index : Nat)
  deriving DecidableEq, Repr

/-- An outbound request whose completion is awaited (R357, R374): root port, tag, and whether its data will be discarded. -/
structure OutReq where
  tag : Nat
  rp : Nat := 0
  kind : OutKind
  len : Nat := 0
  discard : Bool := false
  /-- The function and host address of a queue's read (R373). -/
  fn : Nat := 0
  addr : Nat := 0
  deriving DecidableEq, Repr

/-- A virtual function (R368, R372 to R375). -/
structure Vf where
  bme : Bool := false
  ats : Bool := false
  msixEn : Bool := false
  msixMask : Bool := false
  /-- The MSI-X table: address, data and mask by vector. -/
  vecAddr : Map Word := []
  vecData : Map Word := []
  vecMask : BitVec 8 := 0xFF
  pend : BitVec 8 := 0
  /-- Invalidation Requests waiting for the end of a reset, or for reads: tag and the reads awaited. -/
  inval : List (Nat × List Nat) := []
  /-- The instance is removed when its reset ends (R375). -/
  removing : Bool := false
  deriving DecidableEq, Repr

/-- HP0's physical function (R366, R372). -/
structure Pf where
  bme : Bool := false
  msixEn : Bool := false
  msixMask : Bool := false
  vecAddr : Word := 0
  vecData : Word := 0
  vecMask : Bool := true
  pend : Bool := false
  /-- Interrupt Disable, and INTA asserted. -/
  intDis : Bool := false
  intA : Bool := false
  vfEnable : Bool := false
  deriving DecidableEq, Repr

/-- An entry of the translation cache (R373): function, page of the untranslated and of the translated address, log2 of its size. -/
structure AtcEnt where
  fn : Nat
  va : Nat
  pa : Nat
  log : Nat
  deriving DecidableEq, Repr

/-- A host port beside its registers. -/
structure Hp where
  /-- Links in training. -/
  training : BitVec 4 := 0
  /-- The configuration space of the root ports: dwords by root port * 1024 + index. -/
  cfg : Map (BitVec 32) := []
  out : List Tlp := []
  outst : List OutReq := []
  atc : List AtcEnt := []
  /-- HP0_PERST0_N is asserted (R527). -/
  perst : Bool := true
  deriving DecidableEq, Repr

/-- Where an inbound request leads in the endpoint role (R366, R368). `cfg` is a configuration write of a control of function i, 0 the PF: the spec leaves the
layout of configuration space to PCIe, so the address is a number of the model's own (MSI-X control, ATS, Interrupt Disable, VF Enable, and the PF's vector). (DESIGN CHOICE, assumption 48.) -/
inductive EpTarget where
  | pfBar0 | vfBar0 (i : Fin 62) | vfBar2 (i : Fin 62) | cfg (i : Fin 62)
  deriving DecidableEq, Repr

/-- An inbound request (R358, R360, R361): address, in the endpoint role the offset in the BAR it names; bytes; requester ID and tag. -/
structure InTlp where
  addr : Word
  len : BitVec 13
  rid : BitVec 16 := 0
  tag : BitVec 14 := 0
  ro : Bool := false
  ido : Bool := false
  poison : Bool := false
  target : Option EpTarget := none
  /-- A Translation Request, an I/O request or a Compare-and-Swap, which the port does not support (R354). -/
  unsupported : Bool := false
  deriving DecidableEq, Repr

/-- An AER error (R362). -/
inductive PcieErr where
  | correctable | nonFatal | fatal | poisoned
  deriving DecidableEq, Repr

end Sys2Proof.Machine
end

