-- ==== Sys2Proof/Machine/Types4.lean ====
section
/-! DEFINITION. Further plain data: power and modes (R433 to R459), the Margin Ledger (R460 to R482), flash, boot, the Keeper and the Curator (R377 to R406),
call slips (R407 to R432) and performance folios (R518 to R524). -/
namespace Sys2Proof.Machine

/-! ### Power and modes -/

/-- A domain request that waits behind a transition or a mode sequence (R437, R441, R459). -/
structure DomReq where
  action : Nat
  wid : Nat
  timerUs : Nat := 0
  deriving DecidableEq, Repr

/-- What a Watch wake samples (R452): the highest temperature, the largest departure of a rail from its set-point, the largest move of a ring-oscillator ratio and its tile. -/
structure WatchSample where
  temp : Nat
  mv : Nat
  ppm : Nat
  tile : Nat
  deriving DecidableEq, Repr

/-- A write that the SVC holds in M1 and M2 (R450): to a core's control range, or to an interrupt file. -/
inductive HeldWrite where
  | reg (wid : Nat) (pa : Nat) (v : Word) (en : Word)
  | file (wid : Nat) (hart file id : Nat)
  deriving DecidableEq, Repr

/-- Power and modes beside the PWR_ registers. (DESIGN CHOICE, assumption 110.) -/
structure Power where
  /-- The n that CORE_N last asked for, by hart; unlisted 6 (R453, R392). -/
  reqN : Map Nat := []
  /-- The limiter's setting (R456) and the droop guard's (R464) by core; unlisted none. -/
  limN : Map Nat := []
  droopN : Map Nat := []
  /-- The throttled tiles (R457). -/
  throttled : List Nat := []
  /-- The cap of the memory ports' issue rate in tenths (R456), and the microseconds for which the estimate has stayed at or below 97 % of the limit. -/
  memCap : Nat := 10
  calmUs : Nat := 0
  /-- Requests pending on a domain (R441). -/
  pend : Map (Option DomReq) := []
  /-- Cores with a one-shot OFF request (R437). -/
  offNext : List Nat := []
  /-- The mode that the running sequence enters (R444). -/
  target : Option Nat := none
  /-- The harts that a mode sequence stopped, and the domain states that it will restore (R448, R449). -/
  stopped : List Nat := []
  before : List (Nat × Nat) := []
  /-- Writes held by the SVC (R450). -/
  held : List HeldWrite := []
  /-- The next tile of the Watch rotation (R452). -/
  watchTile : Nat := 0
  /-- ORIGIN's return is set aside after a Watch mismatch (R452). -/
  aside : Bool := false
  /-- The I/O domains that have drained and whose stops are declared dead: the sequence number of the fence of step 3 of R182, once it has started. -/
  iso : List (Nat × Option Nat) := []
  /-- The scans of a Watch wake run (R452): whether one has failed, and the slots that are left. -/
  scan : Option (Bool × List (Fin 2 × Fin 16)) := none
  /-- The staging slices write their lines to local memory (R104 step 4). -/
  unstaging : Bool := false
  /-- The output pins: true is asserted (R537). -/
  alert : Bool := false
  /-- ALERT_N is asserted by a calendar alarm in M0 (R454, R537). -/
  alarm : Bool := false
  thermtrip : Bool := false
  /-- VAON is present, and the always-on island runs (R533). -/
  vaon : Bool := true
  /-- The input pins PWRGOOD, RESET_N and TEST_MODE (R529, R533, R535): true is high. -/
  pwrgood : Bool := true
  resetN : Bool := true
  testMode : Bool := false
  /-- The device is held in reset (R529, R533). -/
  inReset : Bool := false
  /-- A warm reset is pending after a WARM_RESET slip: DELAY_MS (R420, R536). -/
  warm : Option Nat := none
  /-- What the always-on island writes into the staging SRAM without an event code: 1 rail outside tolerance at release, 2 loss of rails, 3 short RESET_N (R533 to R535). -/
  notes : List (Nat × Nat) := []
  /-- The last VRM status that the Keeper read after PMB_ALERT_N (R540). -/
  vrmStatus : List (Nat × Word) := []
  /-- The set-points of the rails in mV, in the order of R391 (R531). -/
  rails : List Nat := [950, 750, 850, 1350, 750, 850, 800, 1800]
  deriving DecidableEq, Repr

/-! ### The Margin Ledger -/

/-- A change record (R480). -/
structure LedgerRec where
  seq : Nat
  time : Nat
  kind : Nat
  flags : Nat := 0
  object : Nat := 0
  old : Word := 0
  new : Word := 0
  measure : Nat := 0
  life : Nat := 0
  deriving DecidableEq, Repr

/-- A checkpoint: its sequence, the registers that it holds by key, the mirroring amount, and the date of the last Survey (R428, R478). -/
structure Checkpoint where
  seq : Nat
  regs : Map Word
  mirror : Nat := 0
  survey : Nat := 0
  valid : Bool := true
  deriving DecidableEq, Repr

/-- What the sentinels measured on a core (R466): slack at the current n, at point 9, the ring oscillators' drift. -/
structure Sweep where
  slack : Nat
  slack9 : Nat
  drift : Nat
  deriving DecidableEq, Repr

/-- What a Survey found on a core: the lowest voltage of each point found, and its slack at point 9 (R469). -/
structure SurveyCore where
  core : Fin 272
  vmin : List (Option Nat)
  slack9 : Nat := 25
  deriving DecidableEq, Repr

/-- What a Survey found on another part (R469, R472): a way that failed its march test; the eye of a DQ pin, in thousandths of a UI and mV; of an annex lane; the margin of a mesh wire, in
thousandths of the MESHCLK period, by the transmitting stop and the index 4 * network + link port of RT_SPARE. -/
inductive SurveyPart where
  | way (tile : Fin 136) (way : Fin 12)
  | pin (mp : Fin 12) (pin : Fin 64) (width height : Nat)
  | lane (port : Fin 6) (lane : Fin 128) (width : Nat)
  | wire (stop : Fin 160) (np : Fin 8) (wire : Fin 1024) (margin : Nat)
  deriving DecidableEq, Repr

/-- The results of a Survey's groups of tests (R469, R472). -/
structure SurveyFound where
  cores : List SurveyCore := []
  parts : List SurveyPart := []
  deriving DecidableEq, Repr

/-- What a port's training found (R280, R460): the DQ pins that steps 5 to 7 failed, and the eye width and height of every pin. -/
structure PinTest where
  failed : List (BitVec 6) := []
  widths : List Nat := []
  heights : List Nat := []
  deriving DecidableEq, Repr

/-- What memory answered to the deed unit's accesses of its own table and page (R305): an error, and the granules of the page that were lost. -/
structure PageErr where
  code : Option (BitVec 5) := none
  lost : BitVec 32 := 0
  deriving DecidableEq, Repr

/-- The Ledger: its partition of flash and what always-on SRAM holds (R478). -/
structure Ledger where
  recs : List LedgerRec := []
  held : List LedgerRec := []
  nextSeq : Nat := 0
  ckpts : List Checkpoint := []
  /-- MIRROR_GROUPS after the next cold reset (R428). -/
  mirror : Nat := 0
  /-- mtime of the last complete Survey, and SERVICE_HOURS at it. -/
  survey : Nat := 0
  surveyHours : Nat := 0
  /-- EQ_HOURS of each core a day ago (R476). -/
  dayLife : Map Nat := []
  /-- SLACK_PS of a core at point 9 at its last check (R470). -/
  slack9 : Map Nat := []
  /-- Retirements that wait (R470, R482). -/
  waiting : List Nat := []
  /-- Core checks skipped for a halted hart (R482). -/
  retry : List Nat := []
  /-- Errors of each LLC way and DQ pin within 24 h (R472): the count under its key, slice * 16 + way or 4096 + port * 64 + pin, and the mtime at which it began under the key + 65536. -/
  errs : Map Nat := []
  /-- Thousandths of a 1/16 h of EQ_HOURS not yet counted (R475). -/
  frac : Map Nat := []
  /-- What the Survey in progress has found so far (R469). -/
  found : List SurveyCore := []
  foundParts : List SurveyPart := []
  /-- Eye widths in thousandths of a UI: lane i of annex port k at 128 * k + i, DQ pin p of memory port k at 1024 + 64 * k + p; and the pins' eye heights in mV, at 2048 + 64 * k + p
  (R233, R280, R460). The margin of wire w of link port p and network n of stop s, in thousandths of the MESHCLK period, at 4096 + 1024 * (8 * s + 4 * n + p) + w. -/
  eyes : Map Nat := []
  /-- Seconds of the running service hour. -/
  seconds : Nat := 0
  deriving DecidableEq, Repr

/-- An error found in an array (R484). -/
inductive ArrayErr where
  /-- Parity in the L1I of a core. -/
  | l1i (core : Fin 272) (sec : BitVec 46)
  /-- In the L1D (level 2) or the L2 (level 3) of a core: single-bit, or uncorrectable. -/
  | core (core : Fin 272) (sec : BitVec 46) (l2 uncorrectable : Bool)
  /-- In the LLC data of a slice: single-bit, or uncorrectable. -/
  | llc (tile : Fin 136) (sec : BitVec 46) (uncorrectable : Bool)
  /-- Uncorrectable in an LLC tag, or in a directory entry. -/
  | llcTag (tile : Fin 136)
  | directory (tile : Fin 136)
  /-- Uncorrectable in a granule of the deed table: the first of its 16 pages div 16. -/
  | deeds (granule : BitVec 36)
  deriving DecidableEq, Repr

/-! ### Flash, boot and the Keeper -/

/-- An image header (R388). -/
structure ImgHdr where
  type : Nat
  keyIndex : Nat
  svn : Nat
  version : Word
  payloadLen : Nat
  tcmLen : Nat
  loadAddr : Nat
  entry : Nat
  dieBind : Nat
  digest : Nat
  /-- SHA-384 of the header (R395). -/
  hash : Nat := 0
  deriving DecidableEq, Repr

/-- An image loaded at boot: its slot, its place in flash and its header. -/
structure Loaded where
  slot : Nat
  offset : Nat
  length : Nat
  hdr : ImgHdr
  deriving DecidableEq, Repr

/-- An entry of the boot directory (R387). -/
structure DirEntry where
  type : Nat
  slot : Nat
  offset : Nat
  length : Nat
  deriving DecidableEq, Repr

/-- The boot configuration (R391). -/
structure BootCfg where
  target : Nat
  bootHarts : Nat
  flags : Nat
  powerLimit : Nat
  keeperWdt : Nat
  curatorWdt : Nat
  curatorMem : Nat
  flashGrant : Word
  anchors : Nat
  window : List (Nat × Nat)
  deriving DecidableEq, Repr

/-- What the Keeper holds after boot. -/
structure Keeper where
  /-- The images loaded, by TYPE 1 to 4. -/
  images : Map (Option Loaded) := []
  /-- The boot directory as read at step 3 of R392. -/
  dir : List DirEntry := []
  cfg : Option BootCfg := none
  cdi1 : Nat := 0
  cdi2 : Nat := 0
  /-- The corrected-error counters that have overflowed and are to be armed again: the status register, unit and record (R491). -/
  rearm : List (RegName × Nat × Nat) := []
  /-- The Keeper serves only what R393 names; provisioning slips too when no integrator pair is VALID. -/
  recovery : Bool := false
  /-- Flash has started (R392 step 3). -/
  flashUp : Bool := false
  /-- HOLD_M3 waits for the mode slip (R392 step 10). -/
  holdM3 : Bool := false
  /-- World measurements and their logs: value and label (R397); the carrels that have held a seat. -/
  meas : Map Nat := []
  logs : Map (List (Nat × Nat)) := []
  seated : List Nat := []
  /-- mtime of the last Keeper and Curator restarts (R403). -/
  restarts : List Nat := []
  curRestarts : List Nat := []
  /-- The SRAM range of the verified patch, its first byte and its length: the only one outside the ROM that the Keeper fetches from (R378). -/
  patch : Option (Nat × Nat) := none
  /-- An instruction access fault has stopped the Keeper: only its watchdog leads on (R378, R402). -/
  faulted : Bool := false
  /-- The boot chain waits for what it writes at step 8 of R392: the mirroring that step 9 sets. -/
  booting : Option Nat := none
  deriving DecidableEq, Repr

/-- A flash operation in progress (R380, R385). -/
structure FlashOp where
  program : Bool
  addr : Nat
  size : Nat
  data : List (BitVec 8) := []
  deriving DecidableEq, Repr

/-- What a boot meets (R392, R393, R479, R533, R537): whether the ROM's self-tests and the RNG's health tests pass, whether a flash write succeeds, whether a sensor
reads 115 °C or more, a rail outside its tolerance, and what a characterisation of the cores finds. -/
structure BootEnv where
  selfTest : Bool := true
  works : Bool := true
  hot : Bool := false
  badRail : Option (Fin 8) := none
  cores : List SurveyCore := []
  deriving DecidableEq, Repr

/-! ### The Curator -/

/-- The operation of one Curator instruction (R379, R382): its operands are already read and its addresses and results computed, as RV32IMAC states. -/
inductive CurKind where
  | alu (rd : BitVec 5) (v : BitVec 32)
  | load (rd : BitVec 5) (addr : BitVec 32) (log : Fin 3) (signed : Bool)
  | store (addr : BitVec 32) (log : Fin 3) (v : BitVec 32)
  | amo (rd : BitVec 5) (op : AmoOp) (addr : BitVec 32) (v : BitVec 32)
  | lr (rd : BitVec 5) (addr : BitVec 32)
  | sc (rd : BitVec 5) (addr : BitVec 32) (v : BitVec 32)
  | branch (taken : Bool) (target : BitVec 32)
  | jump (rd : BitVec 5) (target : BitVec 32)
  | csr (rd : BitVec 5) (n : BitVec 12) (v : BitVec 32)
  | fenceI | wfi | mret | ecall | ebreak | illegal
  deriving DecidableEq, Repr

/-- One Curator instruction: whether it is 16 bits wide, and what it does. -/
structure CurInstr where
  short : Bool := false
  kind : CurKind
  deriving DecidableEq, Repr

/-- A BTB entry of the Curator (R382). -/
structure CurBtb where
  tag : Nat
  target : BitVec 32
  count : Nat
  deriving DecidableEq, Repr

/-- The Curator (R377 to R386). Its local registers are those of the register file at place `cur`. -/
structure Curator where
  pc : BitVec 32 := 0
  x : Map (BitVec 32) := []
  /-- Its CSRs; an unlisted one holds zero. -/
  csr : Map (BitVec 32) := []
  tcm : Map (BitVec 8) := []
  /-- The line buffer: flash line numbers, most recently used first (R382). -/
  lines : List Nat := []
  btb : Map (Option CurBtb) := []
  /-- The value of the high half of mtime that a read of CUR_MTIME_LO latched (R385). -/
  hi : BitVec 32 := 0
  resv : Option Nat := none
  waiting : Bool := false
  /-- A flash command has ended since the last one was written: the level of CUR_INT_PEND source 2. -/
  flashDone : Bool := false
  flash : Option FlashOp := none
  deriving DecidableEq, Repr

/-! ### Call slips -/

/-- The transport of a slip (R407, R417). -/
inductive Transport where
  | ring (w : BitVec 6)
  | curator
  | pf
  | i3c
  deriving DecidableEq, Repr

/-- A call slip as the Keeper takes it (R407): its header fields, its parameters, the WID of its transport and where it lies. -/
structure Slip where
  t : Transport
  wid : Nat
  opcode : Nat
  flags : Nat
  seq : Nat
  params : List Nat := []
  token : Nat := 0
  /-- AUTH is TOKEN. -/
  auth : Bool := false
  /-- A ring slip's ring page, buffer page and index. -/
  page : Nat := 0
  buf : Nat := 0
  index : Nat := 0
  /-- mtime when the Keeper took it. -/
  taken : Nat := 0
  deriving DecidableEq, Repr

/-- The slip that the Keeper has in hand while a hardware sequence runs: the step reached, a number that the step keeps, and whether the Keeper has restarted (R417). -/
structure Work where
  slip : Slip
  phase : Nat := 0
  value : Nat := 0
  restarted : Bool := false
  deriving DecidableEq, Repr

/-- What a slip meets outside the device: whether a flash or fuse program succeeds (R380, R390), and an annex's evidence (R400). (DESIGN CHOICE, assumption 73.) -/
structure SlipEnv where
  works : Bool := true
  evidence : List (BitVec 8) := []
  deriving DecidableEq, Repr

/-- A return slip's header as R410 keeps it. -/
structure RetHdr where
  seq : Nat
  opcode : Nat
  status : Nat
  detail : Nat
  us : Nat := 0
  deriving DecidableEq, Repr

/-- What an opcode answers. -/
structure Ret where
  status : Nat
  detail : Nat := 0
  data : List Nat := []
  deriving DecidableEq, Repr

/-- An operation answered STARTED (R417). -/
structure Started where
  id : Nat
  opcode : Nat
  wid : Nat
  deriving DecidableEq, Repr

/-- A quote (R398, R429). -/
structure Quote where
  id : Nat
  wid : Nat
  issuer : Nat
  t : Transport
  nonce : Nat
  signed : Bool := false
  body : List Nat := []
  deriving DecidableEq, Repr

/-- A mailbox window (R415, R416): its bytes, and BUSY, DONE and REJECT. -/
structure Mailbox where
  bytes : Map (BitVec 8) := []
  busy : Bool := false
  done : Bool := false
  reject : Bool := false
  /-- An FLR came during the slip: its return slip is discarded (R415). -/
  discard : Bool := false
  deriving DecidableEq, Repr

/-- The Keeper's slip service (R410 to R419). -/
structure Slips where
  /-- The transport whose turn is next: 2 to 63 the rings, 64 the Curator, 65 the PF, 66 I3C. -/
  turn : Nat := 2
  /-- Rings whose bell has been written and which may have new entries. -/
  belled : List Nat := []
  /-- The page that the Keeper serves for each ring (R413). -/
  page : Map Nat := []
  pf : Mailbox := {}
  i3c : Mailbox := {}
  /-- I3C: the dynamic address, the offset last written, and in-band interrupts raised. -/
  i3cAddr : Option (BitVec 7) := none
  i3cOff : Nat := 0
  ibi : List Nat := []
  /-- The last 8 final headers of each transport, newest first (R410). -/
  final : Map (List RetHdr) := []
  /-- The nonce that serves the next token slip of each transport (R419). -/
  nonce : Map (Option Word) := []
  inHand : Option Work := none
  started : List Started := []
  nextId : Nat := 1
  quotes : List Quote := []
  /-- BELL_ALLOW: s allows sending to t; t allows receiving from s (R421). -/
  sends : List (Nat × Nat) := []
  receives : List (Nat × Nat) := []
  /-- Worlds that WORLD_DESTROY is tearing down. -/
  destroying : List Nat := []
  /-- mtime at which the Keeper began with the slip that it serves, and whether it has restarted since (R409, R417). -/
  since : Nat := 0
  restarting : Bool := false
  deriving DecidableEq, Repr

/-! ### Folios -/

/-- A block of a record: the stop that writes it, its address and its bytes, and its words as its edge found them (R520, R521). -/
structure FolioBlk where
  stop : Nat
  pa : Nat
  bytes : Nat
  words : List Word
  deriving DecidableEq, Repr

/-- The record of an edge until it is complete (R521): its sequence, the WID and the address that it is written with, its header, the blocks not yet written, whether the header's
word 0 holds all ones, and whether a write has been answered with an error. -/
structure FolioRec where
  seq : Nat
  wid : Nat
  pa : Nat
  header : List Word
  blocks : List FolioBlk
  opened : Bool := false
  failed : Bool := false
  deriving DecidableEq, Repr

/-- The folio unit (R518 to R522): the counter words that each block latched last, by group * 1024 + index, and the edges skipped since the previous record. -/
structure Folios where
  latched : Map (List Word) := []
  skipped : Nat := 0
  /-- The record in progress. -/
  record : Option FolioRec := none
  deriving DecidableEq, Repr

/-- The blocks that have uncore counters (R510). -/
inductive PmuBlock where
  | slice (t : Fin 136) | stop (st : Fin 160) | mp (k : Fin 12) | ax (k : Fin 6)
  deriving DecidableEq, Repr

/-- The debug module's system bus (R321): the word last read, the error code of the last access (0 none), and the tag of an access that is open in the fabric. -/
structure Dm where
  data : Word := 0
  err : Nat := 0
  busy : Option Nat := none
  deriving DecidableEq, Repr

end Sys2Proof.Machine
end

