-- ==== Sys2Proof/Syntax.lean ====
section
/-! DEFINITION. The commands of the device: one constructor for each row of the spec's table of operations and events, with the
row's operands. The commands whose agents may wait for answers to accesses of their own come first, and then the others; each group is in the table's order. What the state does not determine (what a translation found, what a sensor read, what a peer sent) is an
operand of the command that brings it. -/
namespace Sys2Proof

open Sys2Proof.Machine

/-- The commands. -/
inductive Instr where
  /-- DEED_UNIT_TURN (R305): The deed unit serves one page of the next command page in round-robin order, invalidating and flushing as the command requires. -/
  | deedUnitTurn (memErr : PageErr)
  /-- DEED_TABLE_ENABLE (R311): A write of WLD_DEED_TABLE.ENABLE in Full or Attached service starts table initialisation. -/
  | deedTableEnable (w : Issuer) (v : Word)
  /-- DEED_TABLE_READY (R311): Every deed is initialised, and READY is set. -/
  | deedTableReady
  /-- GENERATE (R315): A key command GENERATE creates a new key in a slot, or is refused. -/
  | generate (w : Issuer) (slot : BitVec 8) (owner : BitVec 6)
  /-- DESTROY (R315): A key command DESTROY zeroises a slot, or is refused while its REFS is not 0. -/
  | destroy (w : Issuer) (slot : BitVec 8)
  /-- KEY_COMMAND_COMPLETE (R315): A running key command completes and BUSY clears. -/
  | keyCommandComplete
  /-- WLD_GPIO_WID_WRITE (R317): WID 0 changes a pin's world, and the pin returns to input with its APLIC source cleared. -/
  | wldGpioWidWrite (w : Issuer) (k : Fin 4) (v : Word)
  /-- WLD_DEBUG_INV_WRITE (R321): WID 0 writes invasive-debug enables, effective only where consent is held; a clear resumes halted harts. -/
  | wldDebugInvWrite (w : Issuer) (v : Word)
  /-- WLD_DEBUG_NONINV_WRITE (R401): WID 0 writes non-invasive debug enables, effective only where consent is held. -/
  | wldDebugNoninvWrite (w : Issuer) (v : Word)
  /-- DEBUG_HALT_REQUEST (R321): The debug module asks to halt a hart, which is honoured only when invasive debug is enabled for its world. -/
  | debugHaltRequest (h : BitVec 8)
  /-- DEBUG_SYSTEM_BUS_ACCESS (R321): A debug system-bus access carries the selected hart's seat WID and is checked like any access. -/
  | debugSystemBusAccess (h : BitVec 8) (pa : BitVec 52) (write : Bool) (size : Nat) (v : Word)
  /-- DE_CH_CFG_WRITE (R326): WID 0 writes a channel configuration, refused on a WID change while active or a share overrun, and resetting the page on a rebinding. -/
  | deChCfgWrite (w : Issuer) (de : Fin 2) (ch : Fin 32) (v : Word)
  /-- DE_CH_TAIL_WRITE (R328): Software advances a channel's TAIL, or the write is refused when the ring would overflow. -/
  | deChTailWrite (w : Issuer) (de : Fin 2) (ch : Fin 32) (v : Word)
  /-- DE_CH_CPL_HEAD_WRITE (R328): Software consumes completions by advancing CPL_HEAD, or the write is refused. -/
  | deChCplHeadWrite (w : Issuer) (de : Fin 2) (ch : Fin 32) (v : Word)
  /-- DE_CH_RING_WRITE (R328): Software moves a ring or completion ring, accepted only while the channel is idle and fully consumed. -/
  | deChRingWrite (w : Issuer) (de : Fin 2) (ch : Fin 32) (cpl : Bool) (v : Word)
  /-- CHANNEL_RESET (R329): A write of DE_CH_CTRL.RESET stops fetch and dispatch, squashes the channel's jobs and waits for outstanding answers. -/
  | channelReset (w : Issuer) (de : Fin 2) (ch : Fin 32)
  /-- CHANNEL_RESET_COMPLETE (R329): A channel's outstanding answers are in, its page returns to reset values and STATE becomes IDLE. -/
  | channelResetComplete (de : Fin 2) (ch : Fin 32)
  /-- DESCRIPTOR_FETCH (R328): An engine reads the next descriptor of an enabled channel, or stops the channel on an error. -/
  | descriptorFetch (de : Fin 2) (ch : Fin 32)
  /-- JOB_DISPATCH (R348): A freed unit is given to the head job of the eligible channel that the scheduler chooses. -/
  | jobDispatch (de : Fin 2) (t : UnitType)
  /-- NOP (R332): A NOP job completes without access. -/
  | nop (de : Fin 2) (ch : Fin 32) (index : BitVec 16)
  /-- COPY (R332): A COPY job moves SRC_LEN bytes on a Mover lane. -/
  | copy (de : Fin 2) (ch : Fin 32) (index : BitVec 16)
  /-- FILL (R332): A FILL job writes the repeated pattern on a Mover lane. -/
  | fill (de : Fin 2) (ch : Fin 32) (index : BitVec 16)
  /-- COMPRESS (R338): A COMPRESS job encodes the source in the chosen format on a Compactor. -/
  | compress (de : Fin 2) (ch : Fin 32) (index : BitVec 16)
  /-- DECOMPRESS (R341): A DECOMPRESS job decodes the first stream on a Compactor. -/
  | decompress (de : Fin 2) (ch : Fin 32) (index : BitVec 16)
  /-- COLLATE (R343): A COLLATE job computes a check value with its alive and compare checks on a Collator. -/
  | collate (de : Fin 2) (ch : Fin 32) (index : BitVec 16) (slot : Option (Fin 16))
  /-- DE_WINDOW_RESET (R350): At every 1 ms of mtime each channel's used cost and share accounting return to 0. -/
  | deWindowReset
  /-- DE_SCAN_CFG_WRITE (R346): A write to a scan slot enables or configures it, and is refused for other fields while it is enabled. -/
  | deScanCfgWrite (w : Issuer) (de : Fin 2) (slot : Fin 16) (r : Fin 5) (v : Word)
  /-- SCAN_RUN_START (R347): A scan slot's start time arrives, and it starts a run of chained COLLATE jobs, or counts an overrun. -/
  | scanRunStart (de : Fin 2) (slot : Fin 16)
  /-- HP_PORT_ENABLE (R356): A write of HP_PORT_CFG.ENABLE starts PCIe link training on the port. -/
  | hpPortEnable (w : Issuer) (hp : Fin 2) (v : Word)
  /-- PCIE_LINK_UP (R364): A root or endpoint link reaches DL_Active. -/
  | pcieLinkUp (hp : Fin 2) (rp : Fin 4) (width : Fin 5) (rate : Fin 7) (flit : Bool)
  /-- PCIE_LINK_DOWN (R362): A link leaves DL_Active without a software request, which freezes the root port. -/
  | pcieLinkDown (hp : Fin 2) (rp : Fin 4)
  /-- PCIE_ERROR_RECEIVED (R362): An AER error or poisoned TLP is received and may freeze the root port by its containment settings. -/
  | pcieErrorReceived (hp : Fin 2) (rp : Fin 4) (e : PcieErr)
  /-- PCIE_PLL_LOSS (R362): A port's PCIe PLL loses lock and every root port of the port freezes. -/
  | pciePllLoss (hp : Fin 2)
  /-- FREEZE (R365): A write of HP_RC_CTRL.FREEZE freezes the root port with cause SOFTWARE. -/
  | freeze (w : Issuer) (hp : Fin 2) (rp : Fin 4) (v : Word)
  /-- RELEASE_FREEZE (R364): A write of HP_RC_CTRL.RELEASE clears FROZEN and its counters and restarts link training. -/
  | releaseFreeze (w : Issuer) (hp : Fin 2) (rp : Fin 4) (v : Word)
  /-- PCIE_COMPLETION (R357): A PCIe completion arrives and is answered onto the fabric, or counted as unexpected. -/
  | pcieCompletion (hp : Fin 2) (tag : BitVec 14) (st : CplStatus) (po : Bool) (d : BitVec 4096)
  /-- PCIE_COMPLETION_TIMEOUT (R357): An outbound request gets no completion within CPL_TO and is answered TIMEOUT. -/
  | pcieCompletionTimeout (hp : Fin 2) (tag : BitVec 14)
  /-- PCIE_INBOUND_READ (R360): An inbound Memory Read takes its WID and is served as ReadOnce pieces, or answered Unsupported Request. -/
  | pcieInboundRead (hp : Fin 2) (rp : Fin 4) (t : InTlp)
  /-- PCIE_INBOUND_WRITE (R361): An inbound Memory Write, MSI included, takes its WID and is performed under PCIe ordering, or dropped. -/
  | pcieInboundWrite (hp : Fin 2) (rp : Fin 4) (t : InTlp) (d : BitVec 4096)
  /-- PCIE_INBOUND_ATOMIC (R353): An inbound FetchAdd or Swap is performed as a far atomic. -/
  | pcieInboundAtomic (hp : Fin 2) (rp : Fin 4) (t : InTlp) (swap size8 : Bool) (v : Word)
  /-- HP_VI_APER_WRITE (R368): A write maps an instance's BAR2 aperture, refused when misaligned or crossing a segment. -/
  | hpViAperWrite (w : Issuer) (i : Fin 62) (v : Word)
  /-- HP_TQ_TAIL_WRITE (R369): Software advances a host transfer queue's TAIL under the ring rules. -/
  | hpTqTailWrite (w : Issuer) (q : Fin 64) (v : Word)
  /-- TQ_NOP (R370): A queue NOP job completes without access. -/
  | tqNop (q : Fin 64)
  /-- TO_HOST (R370): A TO_HOST queue job copies local memory to host memory with Memory Writes. -/
  | toHost (q : Fin 64)
  /-- FROM_HOST (R370): A FROM_HOST queue job reads host memory into local memory. -/
  | fromHost (q : Fin 64)
  /-- TRANSLATION_COMPLETION (R373): An ATS translation completion arrives and fills the translation cache, or ends the job with TRANSLATION_FAULT. -/
  | translationCompletion (tag : BitVec 14) (granted : Bool) (pa : Word) (log : Fin 64)
  /-- INVALIDATION_REQUEST (R373): An ATS Invalidation Request removes matching entries and is completed once their reads and writes are accounted for. -/
  | invalidationRequest (i : Fin 62) (addr : Word) (log : Fin 65) (itag : BitVec 5)
  /-- BUS_MASTER_ENABLE_CLEAR (R374): A VF's Bus Master Enable is cleared; upstream requests stop and its MSI-X messages are held pending. -/
  | busMasterEnableClear (i : Fin 62)
  /-- BUS_MASTER_ENABLE_SET (R374): A VF's Bus Master Enable is set again and dispatch resumes. -/
  | busMasterEnableSet (i : Fin 62)
  /-- INITIATE_FLR (R375): A write of Initiate FLR to a VF starts its reset and squashes its channels and queues. -/
  | initiateFlr (i : Fin 62)
  /-- FLR_COMPLETE (R375): A VF's outstanding reads are accounted for, and its translations, pages and configuration are reset. -/
  | flrComplete (i : Fin 62)
  /-- VF_ENABLE_CLEAR (R375): Clearing VF Enable, or a link-down reset, removes every instance. -/
  | vfEnableClear
  /-- PERST_ASSERT (R540): HP0_PERST0_N asserted in the endpoint role causes a link-down reset of HP0 that removes every instance. -/
  | perstAssert
  /-- COLD_RESET (R392): RESET_N rises after PWRGOOD and the device runs its boot chain from the ROM. -/
  | coldReset (x : BootEnv)
  /-- RESET_N_FALL (R535): RESET_N falls with PWRGOOD high, producing a warm reset, or is ignored when the pulse is short. -/
  | resetNFall (long : Bool) (x : BootEnv)
  /-- VAON_APPLIED (R533): VAON reaches tolerance and the always-on island starts on its oscillator. -/
  | vaonApplied (first : Bool)
  /-- LOSS_OF_RAILS (R534): PWRGOOD falls outside M0, and the device enters M0 without committing. -/
  | lossOfRails
  /-- RAIL_OUT_OF_TOLERANCE (R534): A rail stays out of tolerance for 10 µs while PWRGOOD is high, which is loss of rails. -/
  | railOutOfTolerance (rail : Fin 8)
  /-- PMB_ALERT (R540): PMB_ALERT_N asserts and the Keeper reads and records the VRM status. -/
  | pmbAlert (status : List (Fin 8 × Word))
  /-- CALENDAR_ALARM (R454): An enabled calendar alarm fires and raises its APLIC source, or asserts ALERT_N in M0. -/
  | calendarAlarm (alarm : Fin 4)
  /-- CURATOR_RUN_WRITE (R386): WID 0 writes CUR_CTRL.RUN to start the Curator at its entry or hold it in reset. -/
  | curatorRunWrite (w : Issuer) (v : Word)
  /-- CUR_WDT_KICK (R385): The Curator writes the kick key and restarts its watchdog. -/
  | curWdtKick (key : BitVec 32)
  /-- KEEPER_WDT_KICK (R403): The Keeper writes KPR_WDT.KICK and restarts its watchdog. -/
  | keeperWdtKick (w : Issuer) (v : Word)
  /-- KEEPER_WATCHDOG_EXPIRY (R403): The Keeper watchdog expires, warning the first time and restarting the Keeper the second, or entering Quarantine after three restarts. -/
  | keeperWatchdogExpiry
  /-- CURATOR_WATCHDOG_EXPIRY (R403): The Curator watchdog expires, warning the first time and reloading the Curator the second, or failing it after three restarts. -/
  | curatorWatchdogExpiry
  /-- FLASH_PROGRAM (R381): The Curator programs 256 bytes of flash from TCM, or the command is refused. -/
  | flashProgram (src : BitVec 9)
  /-- FLASH_ERASE_SECTOR (R381): The Curator erases a 4 KiB flash sector, or the command is refused. -/
  | flashEraseSector
  /-- FLASH_ERASE_BLOCK (R381): The Curator erases a 64 KiB flash block, or the command is refused. -/
  | flashEraseBlock
  /-- FLASH_COMMAND_DONE (R385): A flash program or erase finishes, RESULT is set and the command-done source is raised. -/
  | flashCommandDone (works : Bool)
  /-- CURATOR_TIMER_MATCH (R385): mtime reaches CUR_MTIMECMP and raises the Curator timer interrupt. -/
  | curatorTimerMatch
  /-- CURATOR_INTERRUPT (R384): The Curator takes a timer or external interrupt at an instruction boundary. -/
  | curatorInterrupt
  /-- DEBUG_CONSENT_WRITE (R405): A world sets or clears its own consent bit, or WID 0 clears consent bits and with them the debug enables. -/
  | debugConsentWrite (w : Issuer) (v : Word)
  /-- SLIP_BELL (R413): A world writes BELL to signal new entries in its slip ring. -/
  | slipBell (w : Issuer) (x : BitVec 6) (v : Word)
  /-- CURATOR_SLIP_GO (R414): The Curator writes GO to submit the slip in its mailbox, or the write is rejected while BUSY. -/
  | curatorSlipGo
  /-- PF_SLIP_GO (R415): The host writes GO to submit the slip in the PF mailbox, or the write is rejected while BUSY. -/
  | pfSlipGo
  /-- I3C_PRIVATE_WRITE (R416): The board controller writes into the I3C window, and a GO there submits a slip. -/
  | i3cPrivateWrite (data : List (BitVec 8))
  /-- I3C_DYNAMIC_ADDRESS (R416): The I3C target takes a dynamic address by ENTDAA or SETDASA. -/
  | i3cDynamicAddress (a : BitVec 7)
  /-- KEEPER_SLIP_TURN (R417): The Keeper takes one slip in round robin, checks it in order and executes it, answering or starting it. -/
  | keeperSlipTurn (e : SlipEnv)
  /-- STARTED_OPERATION_DONE (R417): An operation answered STARTED finishes in hardware or Keeper background service. -/
  | startedOperationDone (id : BitVec 8)
  /-- NONCE_EXPIRY (R419): A GET_NONCE value expires 60 s after it was issued. -/
  | nonceExpiry (t : Transport)
  /-- GET_INFO (R420): Slip returning die serial, status, patch version and mode. -/
  | getInfo (t : Transport)
  /-- GET_NONCE (R420): Slip returning a fresh token nonce for the transport. -/
  | getNonce (t : Transport)
  /-- GET_RANDOM (R420): Slip returning bytes from the hardware RNG. -/
  | getRandom (t : Transport)
  /-- IMAGE_STATUS (R420): Slip returning the validity and SVN of each boot image slot. -/
  | imageStatus (t : Transport)
  /-- WARM_RESET (R420): Slip that answers OK and then causes a warm reset after its delay. -/
  | warmReset (t : Transport)
  /-- FLASH_ERASE (R420): Recovery slip erasing flash blocks. -/
  | flashErase (t : Transport) (e : SlipEnv)
  /-- FLASH_WRITE (R420): Recovery slip writing flash data. -/
  | flashWrite (t : Transport) (e : SlipEnv)
  /-- PROVISION_KEY (R420): Slip fusing an integrator key-pair hash. -/
  | provisionKey (t : Transport) (e : SlipEnv)
  /-- REVOKE_KEY (R420): Signed slip fusing a key-pair revocation. -/
  | revokeKey (t : Transport) (e : SlipEnv)
  /-- WORLD_CREATE (R421): Slip creating a carrel with its first key slot and zeroed measurement. -/
  | worldCreate (t : Transport)
  /-- WORLD_DESTROY (R422): Slip tearing down a world and removing every binding, deed, slot and setting that names it. -/
  | worldDestroy (t : Transport)
  /-- SEAT_LEND (R421): Slip lending a hart to a new world after the checks of R294. -/
  | seatLend (t : Transport)
  /-- BELL_ALLOW (R421): Slip allowing or withdrawing doorbells between two worlds. -/
  | bellAllow (t : Transport)
  /-- SHELF_SET (R421): Slip programming a shelf class in an order that keeps the shelf rules. -/
  | shelfSet (t : Transport)
  /-- METER_SET (R421): Slip assigning or removing a world's lane and slots and committing them. -/
  | meterSet (t : Transport)
  /-- WORLD_STATUS (R421): Slip reporting a world's state, class, lane, slots, seats and deeds. -/
  | worldStatus (t : Transport)
  /-- KEY_NEW (R423): Slip generating a further key slot for a world. -/
  | keyNew (t : Transport)
  /-- KEY_DROP (R423): Slip destroying a key slot. -/
  | keyDrop (t : Transport)
  /-- DEED_RECLAIM (R423): Slip reclaiming pages through command page 0. -/
  | deedReclaim (t : Transport)
  /-- DEPO_DEEDS (R423): Slip writing a depository segment's deed-table register. -/
  | depoDeeds (t : Transport)
  /-- DEED_TABLE_SETUP (R423): Slip covering the deed tables with regions, initialising them and locking them. -/
  | deedTableSetup (t : Transport)
  /-- MODE_SET (R424): Slip requesting a device mode change. -/
  | modeSet (t : Transport)
  /-- POWER_LIMIT (R424): Slip setting the package power limit. -/
  | powerLimit (t : Transport)
  /-- DOMAIN_SET (R424): Slip placing a domain request with the issuer's WID. -/
  | domainSet (t : Transport)
  /-- CORE_N (R424): Slip setting a core's requested n, refused for fixed seats or above the ceiling. -/
  | coreN (t : Transport)
  /-- POWER_STATUS (R424): Slip reporting the mode, limit, measured power and throttle count. -/
  | powerStatus (t : Transport)
  /-- LEDGER_READ (R425): Slip returning Margin Ledger change records. -/
  | ledgerRead (t : Transport)
  /-- LEDGER_STATUS (R425): Slip returning Margin Ledger summary counts. -/
  | ledgerStatus (t : Transport)
  /-- SURVEY_START (R468): Slip starting a Survey when its conditions hold. -/
  | surveyStart (t : Transport)
  /-- LEDGER_NOTIFY (R425): Slip selecting the Ledger event kinds notified on source 38. -/
  | ledgerNotify (t : Transport)
  /-- ANNALS_READ (R503): Slip returning Annals records from a sequence onward. -/
  | annalsRead (t : Transport)
  /-- ANNALS_FREEZE (R426): Slip setting or ending a freeze of the Annals. -/
  | annalsFreeze (t : Transport)
  /-- ANNALS_FREEZE_TIMEOUT (R426): A transport's freeze ends 10 s after it was set or after that transport's last read. -/
  | annalsFreezeTimeout (t : Fin 67)
  /-- ANNALS_CLEAR (R504): Token slip clearing the Annals and writing the clear record. -/
  | annalsClear (t : Transport)
  /-- ANNALS_NOTIFY (R505): Slip arming the severity-count notification on source 39. -/
  | annalsNotify (t : Transport)
  /-- ROUTE_STAGE (R427): Slip writing route entries into the inactive banks. -/
  | routeStage (t : Transport)
  /-- ROUTE_SWITCH (R427): Slip preparing paths and running an epoch switch. -/
  | routeSwitch (t : Transport)
  /-- ANNEX_CONFIG (R427): Slip writing and committing an annex port's agents, grants and windows. -/
  | annexConfig (t : Transport)
  /-- ANNEX_UP (R427): Slip bringing an annex port up to OPEN. -/
  | annexUp (t : Transport)
  /-- ANNEX_ATTEST (R400): Slip attesting an annex and setting ATTESTED. -/
  | annexAttest (t : Transport) (e : SlipEnv)
  /-- ANNEX_DOWN (R427): Slip powering down, quarantining or ending the quarantine of an annex port. -/
  | annexDown (t : Transport)
  /-- DEPO_MAP (R26): Slip changing a depository segment's mapping in every network interface. -/
  | depoMap (t : Transport)
  /-- MP_STATUS (R428): Slip returning every memory port's status and counters. -/
  | mpStatus (t : Transport)
  /-- MP_SCRUB (R428): Slip writing scrub controls. -/
  | mpScrub (t : Transport)
  /-- MP_LANE_RETIRE (R428): Slip retiring a DQ lane and recording it in the Ledger. -/
  | mpLaneRetire (t : Transport)
  /-- MP_MIRROR (R428): Slip storing the mirroring amount for the next cold reset. -/
  | mpMirror (t : Transport)
  /-- DEBUG_GRANT (R429): Token slip enabling debug of a consenting world. -/
  | debugGrant (t : Transport)
  /-- DEBUG_DROP (R429): Slip clearing debug enables. -/
  | debugDrop (t : Transport)
  /-- CERT_READ (R429): Slip returning a DICE certificate. -/
  | certRead (t : Transport)
  /-- MEASURE (R397): Slip extending a world measurement and logging the value. -/
  | measure (t : Transport)
  /-- QUOTE (R398): Slip requesting a signed quote for a world. -/
  | quote (t : Transport)
  /-- QUOTE_SIGNED (R398): The Keeper finishes signing a queued quote and starts the next. -/
  | quoteSigned
  /-- QUOTE_EXPIRY (R429): A quote not read to its end is discarded after 60 s. -/
  | quoteExpiry (id : BitVec 8)
  /-- QUOTE_READ (R429): Slip returning a signed quote. -/
  | quoteRead (t : Transport)
  /-- LOG_READ (R429): Slip returning a world's measurement log. -/
  | logRead (t : Transport)
  /-- VI_CREATE (R367): Slip creating a virtual instance with its channels and queues. -/
  | viCreate (t : Transport)
  /-- VI_REMOVE (R375): Slip removing a virtual instance and returning its resources. -/
  | viRemove (t : Transport)
  /-- VI_STATUS (R430): Slip returning an instance's configuration and aperture. -/
  | viStatus (t : Transport)
  /-- ALIAS_KEYS_READY (R396): Alias key generation and certificate signing complete and ATTEST_READY is set. -/
  | aliasKeysReady
  /-- WATCH_PERIOD_WAKE (R452): The Watch alarm fires; sensors, rails and ring oscillators are sampled and due scans run. -/
  | watchPeriodWake (x : WatchSample) (late : Bool) (due : List (Fin 2 × Fin 16))
  /-- FOLIO_EDGE (R519): A folio edge arrives and every selected counter latches, then the stops write their blocks. -/
  | folioEdge (late : Bool)
  /-- CURATOR_INSTRUCTION (R379): The Curator executes one instruction, fetching through its line buffer and BTB and faulting on an access outside its map, a flash-window store or an AMO outside TCM. -/
  | curatorInstruction (x : CurInstr)
  /-- WARM_RESET_DELAY_EXPIRY (R536): DELAY_MS after a WARM_RESET slip has been answered, the device starts the warm reset and releases it 20 µs later. -/
  | warmResetDelayExpiry (x : BootEnv)
  /-- ENTER_SURVEY (R469): Mode request 6 runs the Survey sequence. -/
  | enterSurvey (found : SurveyFound) (last : Bool)
  /-- SURVEY_DEADLINE (R469): A Survey reaches t0 + 290 s, skips untested groups and finishes as partial. -/
  | surveyDeadline
  /-- REGISTER_WRITE (R9): A write to a control-space register that has no row of its own updates its fields by type, after the width, alignment, mapping and world checks. -/
  | registerWrite (w : Issuer) (pa : BitVec 52) (size : Nat) (data : Word)
  /-- ROOT_PLL_LOSS (R21): The always-on island detects loss of lock in the root PLL, records it and holds the device in Quarantine. -/
  | rootPllLoss
  /-- HART_LOAD (R36): A hart executes a load, split at block boundaries and faulting or returning data as the type and checks decide. -/
  | hartLoad (h : BitVec 8) (a : Access)
  /-- HART_STORE (R60): A hart executes a store, which retires into the store queue after its translation and checks. -/
  | hartStore (h : BitVec 8) (a : Access)
  /-- STORE_COMMIT_L1D (R60): A retired store is written to the L1D in program order once write permission is held. -/
  | storeCommitL1d (h : BitVec 8)
  /-- AMO (R38): A hart executes an AMO, which is performed in the L1D, as a far atomic at the home, or faults, according to the target type. -/
  | amo (h : BitVec 8) (op : AmoOp) (a : Access)
  /-- LR (R38): A hart executes LR, which sets a reservation on the 64-byte block or faults by type. -/
  | lr (h : BitVec 8) (a : Access)
  /-- SC (R38): A hart executes SC, which succeeds only while its reservation holds. -/
  | sc (h : BitVec 8) (a : Access)
  /-- FENCE (R134): A hart executes FENCE, which waits until the earlier accesses are performed. -/
  | fence (h : BitVec 8) (id : Nat)
  /-- FENCE_I (R73): A hart executes FENCE.I, which invalidates the whole L1I and restarts fetch. -/
  | fenceI (h : BitVec 8)
  /-- SFENCE_VMA (R68): A hart executes SFENCE.VMA or an HFENCE, which also discards every translation entry of the shadow buffer. -/
  | sfenceVma (h : BitVec 8) (hyp : Bool) (enc : BitVec 32)
  /-- CSR_WRITE (R64): A hart writes a CSR, flushing predictors or shadow translations where a satp, vsatp or hgatp change requires it. -/
  | csrWrite (h : BitVec 8) (csr : BitVec 12) (v : Word) (enc : BitVec 32)
  /-- TRAP_RETURN (R64): A hart executes MRET or SRET, flushing predictors when the mode or V changes. -/
  | trapReturn (h : BitVec 8) (m : Bool)
  /-- WFI (R34): A hart executes WFI, trapping at once under TW or VTW, and otherwise waiting. -/
  | wfi (h : BitVec 8)
  /-- WRS_NTO (R34): A hart executes WRS.NTO and waits for a change to its reservation set. -/
  | wrsNto (h : BitVec 8)
  /-- WRS_NTO_TIMEOUT (R34): A WRS.NTO with TW set in a lower mode traps after 10 µs without completing. -/
  | wrsNtoTimeout (h : BitVec 8)
  /-- WRS_STO (R34): A hart executes WRS.STO and stalls. -/
  | wrsSto (h : BitVec 8)
  /-- WRS_STO_EXPIRY (R34): The stall of a WRS.STO ends after at most 2 µs. -/
  | wrsStoExpiry (h : BitVec 8)
  /-- CBO_CLEAN (R129): A hart executes cbo.clean, writing back its own dirty copy and then sending ReadOnce with CMO CLEAN. -/
  | cboClean (h : BitVec 8) (a : Access)
  /-- CBO_FLUSH (R129): A hart executes cbo.flush, evicting its own copy and then sending ReadOnce with CMO FLUSH. -/
  | cboFlush (h : BitVec 8) (a : Access)
  /-- CBO_INVAL (R105): A hart executes cbo.inval, performed as cbo.flush when enabled. -/
  | cboInval (h : BitVec 8) (a : Access)
  /-- CBO_ZERO (R105): A hart executes cbo.zero, taking the sector in M or sending WriteInvalidateFull with zeros. -/
  | cboZero (h : BitVec 8) (a : Access)
  /-- PREFETCH_R (R96): A bound prefetch.r hint brings the block into the L1D, or is dropped. -/
  | prefetchR (h : BitVec 8) (a : Access)
  /-- PREFETCH_W (R96): A bound prefetch.w hint brings the block into the L1D in M in WB regions, or is dropped. -/
  | prefetchW (h : BitVec 8) (a : Access)
  /-- PREFETCH_I (R96): A bound prefetch.i hint brings the block into the L2, or is dropped. -/
  | prefetchI (h : BitVec 8) (a : Access)
  /-- PX_BELL_SEND (R50): A hart executes PX.BELL.SEND, which sends a doorbell toward the target hart once the instruction is oldest and bound. -/
  | pxBellSend (h : BitVec 8) (id : Nat) (rd : BitVec 5) (rs1 rs2 : Word) (enc : BitVec 32)
  /-- DOORBELL_ARRIVAL (R50): At the target stop a doorbell is judged MALFORMED, REFUSED, BUSY, FULL or QUEUED, queued, and its EIID raised, and the status is returned. -/
  | doorbellArrival (b : BellMsg)
  /-- PX_BELL_SEND_STATUS (R51): The sending hart receives the target stop's status, and PX.BELL.SEND completes with it in rd. -/
  | pxBellSendStatus (h : BitVec 8) (status : BitVec 3)
  /-- PX_BELL_RECV (R52): A hart executes PX.BELL.RECV, returning and removing the inbox head, or returning 0 when the inbox is empty. -/
  | pxBellRecv (h : BitVec 8) (rd : BitVec 5) (enc : BitVec 32)
  /-- PX_BELL_PEEK (R52): A hart executes PX.BELL.PEEK, returning the head descriptor without removing it. -/
  | pxBellPeek (h : BitVec 8) (rd : BitVec 5) (enc : BitVec 32)
  /-- PX_FENCE_AX (R57): A hart executes PX.FENCE.AX, waiting for its earlier accesses and then sending fence probes to the selected annex ports. -/
  | pxFenceAx (h : BitVec 8) (id : Nat) (enc : BitVec 32) (rs1 : Word)
  /-- PX_FENCE_AX_COMPLETE (R58): The last fence probe answer arrives and PX.FENCE.AX completes, writing its failure mask in rd. -/
  | pxFenceAxComplete (h : BitVec 8) (port : Fin 6) (ans : ProbeAns)
  /-- BRANCH_RESOLVE (R63): A branch resolves and, on a misprediction, younger instructions are squashed and global history restored. -/
  | branchResolve (h : BitVec 8) (b : Branch)
  /-- INSTRUCTION_BOUND (R69): A speculative instruction becomes bound, releasing its held requests and installing its shadow-buffer entries. -/
  | instructionBound (h : BitVec 8) (id : Nat)
  /-- INSTRUCTION_SQUASH (R66): A wrong-path instruction is squashed, cancelling its held requests and freeing its queue and shadow entries. -/
  | instructionSquash (h : BitVec 8) (id : Nat) (events : List Nat)
  /-- INSTRUCTION_RETIRE (R60): An instruction retires in program order once it and every older instruction have completed without an exception. -/
  | instructionRetire (h : BitVec 8) (r : Retire)
  /-- INTERRUPT_TAKEN (R77): A pending, enabled interrupt is taken at an instruction boundary, abandoning the oldest instruction where the table allows. -/
  | interruptTaken (h : BitVec 8) (cause : BitVec 6) (o : Oldest)
  /-- CORE_MTIME_WRITE (R41): WID 0 writes CORE_MTIME; any other world's write faults. -/
  | coreMtimeWrite (w : Issuer) (v : Word)
  /-- CORE_MTIMECMP_WRITE (R41): A permitted world writes a hart's machine compare value, which reaches mip.MTIP within 20 ns. -/
  | coreMtimecmpWrite (w : Issuer) (h : BitVec 8) (v : Word)
  /-- MTIME_COMPARE_MATCH (R40): mtime reaches a hart's machine or supervisor compare value and sets the timer pending bit. -/
  | mtimeCompareMatch (h : BitVec 8) (level : Fin 3)
  /-- IMSIC_SETEIPNUM_WRITE (R47): A write reaches a seteipnum register of an interrupt file and sets the identity if its WID or source is entitled, and is discarded otherwise. -/
  | imsicSeteipnumWrite (w : Issuer) (h : BitVec 8) (file : Fin 8) (machine : Bool) (id : BitVec 8) (behalf : Option (BitVec 6))
  /-- HART_REMAP (R44): The Keeper moves a hart to a reserve core by quiescing it, writing back its caches and copying its state to the new core. -/
  | hartRemap (h : BitVec 8) (core : Fin 272)
  /-- GPIO_INPUT_CHANGE (R48): A GPIO input changes level and drives its APLIC source. -/
  | gpioInputChange (pin : Fin 32) (level : Bool)
  /-- APLIC_SOURCE_EVENT (R48): An APLIC source becomes pending and the APLIC sends its MSI with the source's WID. -/
  | aplicSourceEvent (src : Fin 64)
  /-- CORE_SPEC_CTRL_WRITE (R62): A permitted world writes CORE_SPEC_CTRL, which takes effect at the hart's next instruction boundary. -/
  | coreSpecCtrlWrite (w : Issuer) (core : Fin 272) (v : Word)
  /-- CORE_MEMATTR_WRITE (R89): WID 0 writes a memory-attribute region, and the SVC broadcasts the write to every core, network interface and engine. -/
  | coreMemattrWrite (w : Issuer) (n : Fin 16) (lim : Bool) (v : Word)
  /-- BROADCAST_COMPLETE (R89): Every copy has acknowledged a broadcast SVC register write, and the write completes. -/
  | broadcastComplete
  /-- LLC_SHELF_WRITE (R100): WID 0 writes LLC_SHELF_c, which is refused whole on a shelf-rule breach, and is otherwise broadcast and starts any way flush. -/
  | llcShelfWrite (w : Issuer) (c : Fin 16) (v : Word)
  /-- LLC_WID_CLASS_WRITE (R100): WID 0 writes a WID-to-class register, which is refused or accepted and flushes ways as the resealing requires. -/
  | llcWidClassWrite (w : Issuer) (k : Fin 4) (v : Word)
  /-- LLC_SHELF_CTRL_WRITE (R101): WID 0 writes the sealed-class mask, which is refused or accepted and flushes the ways it affects. -/
  | llcShelfCtrlWrite (w : Issuer) (v : Word)
  /-- SHELF_FLUSH_COMPLETE (R101): A shelf way flush finishes in all slices, FLUSHING clears and the stalled shelf write completes. -/
  | shelfFlushComplete
  /-- REDUCED_SERVICE_EXIT (R104): The device pauses the harts, writes the staging shelf to local memory, switches to the home hash and resumes in Full or Attached service. -/
  | reducedServiceExit
  /-- READ_SHARED (R126): A home receives ReadShared and serves it by its directory state, snooping an owner or holding it when speculative. -/
  | readShared (p : Packet)
  /-- READ_UNIQUE (R126): A home receives ReadUnique, invalidates the other copies and grants E or M. -/
  | readUnique (p : Packet)
  /-- READ_ONCE (R126): A home receives ReadOnce and returns a snapshot, or performs its CMO or LLC prefetch. -/
  | readOnce (p : Packet)
  /-- CLEAN_UNIQUE (R126): A home receives CleanUnique and grants M after invalidating the other holders. -/
  | cleanUnique (p : Packet)
  /-- WRITE_INVALIDATE_FULL (R126): A home receives WriteInvalidateFull, invalidates the other copies and pulls the data. -/
  | writeInvalidateFull (p : Packet)
  /-- WRITE_PARTIAL (R126): A home receives WritePartial, or a far atomic, snoops the owner to home and pulls the masked data. -/
  | writePartial (p : Packet)
  /-- EVICT_CLEAN (R137): A home applies an EvictClean on arrival, removing the requester's listing if any. -/
  | evictClean (p : Packet)
  /-- WRITE_BACK_DIRTY (R128): A home receives WriteBackDirty and answers DataPull to the owner, or Comp to an agent that is not the owner. -/
  | writeBackDirty (p : Packet)
  /-- WRITE_BACK_OWNED (R128): A home receives WriteBackOwned and answers DataPull to the owner, or Comp to an agent that is not the owner. -/
  | writeBackOwned (p : Packet)
  /-- SPEC_RELEASE (R122): A home receives SpecRelease, moving the held speculative ReadShared into the home queue, or discarding the message. -/
  | specRelease (p : Packet)
  /-- SPEC_CANCEL (R122): A home receives SpecCancel, drops any held request and answers Comp. -/
  | specCancel (p : Packet)
  /-- SNP_SHARED (R125): A caching agent receives SnpShared, forwards data and keeps a downgraded copy. -/
  | snpShared (p : Packet)
  /-- SNP_UNIQUE (R125): A caching agent receives SnpUnique, forwards data and invalidates. -/
  | snpUnique (p : Packet)
  /-- SNP_UNIQUE_TO_HOME (R125): A caching agent receives SnpUnique with TOHOME, returns dirty data to the home and invalidates. -/
  | snpUniqueToHome (p : Packet)
  /-- SNP_INVALIDATE (R125): A caching agent receives SnpInvalidate and invalidates without returning data. -/
  | snpInvalidate (p : Packet)
  /-- SNP_CLEAN (R125): A caching agent receives SnpClean, returns dirty data to the home and keeps a clean copy. -/
  | snpClean (p : Packet)
  /-- HOLD_WINDOW_CLOSE (R152): A core's hold window on a won sector closes, and the snoops held for it are answered in arrival order. -/
  | holdWindowClose (core : Fin 272) (sec : BitVec 46)
  /-- SNP_RESP (R127): A home receives a snoop answer, dead ones included, and serves the transaction once every answer is in. -/
  | snpResp (p : Packet)
  /-- SNP_RESP_DATA (R127): A home receives a snoop answer with dirty data and places the data in the LLC or memory. -/
  | snpRespData (p : Packet)
  /-- COMP_DATA (R124): A requester receives CompData with a grant, takes the data and state and sends CompAck where required. -/
  | compData (p : Packet)
  /-- DATA_FWD (R124): A requester receives data forwarded by a snooped holder. -/
  | dataFwd (p : Packet)
  /-- COMP (R117): An agent receives Comp, completing a grant, write, CMO, write-back or SpecCancel and freeing its tag. -/
  | comp (p : Packet)
  /-- DATA_PULL (R121): A writer receives DataPull and sends its WriteData or WriteDataMasked. -/
  | dataPull (p : Packet)
  /-- WRITE_DATA (R127): A home or target receives WriteData and places or merges it by effective type. -/
  | writeData (p : Packet)
  /-- WRITE_DATA_MASKED (R215): A home or target receives WriteDataMasked and merges or applies the atomic under its mask. -/
  | writeDataMasked (p : Packet)
  /-- COMP_ACK (R119): A home receives CompAck and closes the transaction. -/
  | compAck (p : Packet)
  /-- RETRY (R156): A requester receives Retry and schedules a re-send with backoff, or for a speculative request waits until it is bound. -/
  | retry (p : Packet)
  /-- RETRY_BACKOFF_EXPIRY (R156): A requester's backoff after Retry elapses and it re-sends the same request with the same tag. -/
  | retryBackoffExpiry (stop : Fin 160) (tag : BitVec 12)
  /-- RESERVE_LIMIT_EXPIRY (R157): A roster slot fails to re-send within RESERVE_LIMIT, loses its reservation and moves to the tail. -/
  | reserveLimitExpiry (tile : Fin 136) (slot : Fin 512)
  /-- ERR_RESP (R214): An agent receives ErrResp and acts on its code: a trap, a record, a job status or a forwarded error. -/
  | errResp (p : Packet)
  /-- MEM_READ (R268): A memory port receives MemRead, decodes, checks the owner echo, decrypts and answers MemData or an error. -/
  | memRead (p : Packet) (re : ReadErr)
  /-- MEM_WRITE (R268): A memory port receives MemWrite and its data, checks the deed, merges if needed, encrypts, writes and answers MemAck. -/
  | memWrite (p : Packet) (q0 q1 : Packet) (re : ReadErr)
  /-- GATE_MEM_WRITE (R248): An annex gate accepts a MemWrite for a depository home agent, sends the home Comp and forwards it encrypted, merging masked sectors first. -/
  | gateMemWrite (p : Packet) (q0 q1 : Packet)
  /-- GATE_MEM_READ (R248): An annex gate forwards a MemRead to a depository home agent, checking the deed and key. -/
  | gateMemRead (p : Packet)
  /-- MEM_DATA (R139): A home or gate receives MemData, installs or forwards the granule and issues the next memory message for the granule. -/
  | memData (p : Packet)
  /-- MEM_ACK (R139): A home receives MemAck, returning the write credit and freeing any eviction-buffer entry. -/
  | memAck (p : Packet)
  /-- IO_READ (R208): A target, register block, host port or gate receives IORead and answers IOData or ErrResp. -/
  | ioRead (p : Packet)
  /-- IO_WRITE (R208): A target receives IOWrite, pulls the data and answers Comp on acceptance or on performance. -/
  | ioWrite (p : Packet)
  /-- IO_DATA (R208): A requester receives IOData carrying the bytes read. -/
  | ioData (p : Packet)
  /-- PACKET_INJECT (R178): A network interface injects a packet, or holds it in the epoch hold queue, taking its route from the active bank. -/
  | packetInject (p : Packet)
  /-- PACKET_ABSORB (R181): A router absorbs a packet bound for a dead neighbour, and its interface answers in the target's place. -/
  | packetAbsorb (stop : Fin 160) (port : Option (Fin 4)) (p : Packet)
  /-- LINK_PARITY_ERROR (R191): A mesh link parity mismatch poisons the payload sectors, or is fatal on a header group. -/
  | linkParityError (stop : Fin 160) (p : Packet) (headerGroup second : Bool)
  /-- NI_ROUTE_WRITE (R170): WID 0 writes a route-index entry, which is refused in the active bank, during drain or on a rule breach. -/
  | niRouteWrite (w : Issuer) (stop : Fin 160) (bank : Bool) (d : BitVec 8) (v : Word)
  /-- GLOBAL_FENCE (R175): A write of NI_FABRIC_CTRL.FENCE starts a global fence, sending FenceReq to every powered interface, unless R179 refuses it. -/
  | globalFence (w : Issuer)
  /-- FENCE_REQ (R175): A network interface receives FenceReq and acknowledges once its earlier writes are applied and its decoded packets injected. -/
  | fenceReq (stop : Fin 160)
  /-- FENCE_ACK (R175): The SVC receives a FenceAck and completes the fence when every expected acknowledgement is in. -/
  | fenceAck (stop : Fin 160)
  /-- FENCE_TIMEOUT (R175): A fence still lacks an acknowledgement after 10 µs and completes with FENCE_ERR and the late stop. -/
  | fenceTimeout
  /-- EPOCH_SWITCH (R177): A write of EPOCH_SWITCH starts a global fence that is followed by the flip to the other route bank. -/
  | epochSwitch (w : Issuer)
  /-- FLIP (R177): A network interface receives Flip and changes its active bank. -/
  | flip (stop : Fin 160)
  /-- EPOCH_DRAIN_COMPLETE (R177): Every stop's old-epoch flit count reaches 0, DRAIN_BUSY clears and the held packets are released. -/
  | epochDrainComplete
  /-- METER_STAGING_WRITE (R184): WID 0 writes a metering staging copy, which is refused while a commit is pending. -/
  | meterStagingWrite (w : Issuer) (pa : BitVec 52) (v : Word)
  /-- METER_COMMIT_REQUEST (R184): A write of NI_FABRIC_CTRL.METER_COMMIT asks for all staging copies to be committed. -/
  | meterCommitRequest (w : Issuer)
  /-- METER_COMMIT (R184): MeterCommit reaches every router and interface, and all metering staging copies become active at one slot-0 edge. -/
  | meterCommit
  /-- RT_SPARE_WRITE (R193): A write of a link's spare map pauses the link, switches both ends' steering and resumes sending. -/
  | rtSpareWrite (w : Issuer) (stop : Fin 160) (np : Fin 8) (v : Word)
  /-- LINK_FLIT_RECEIVE (R230): An annex link receiver takes a link flit, checks its CRCs and sequence, and delivers, discards or NAKs it. -/
  | linkFlitReceive (port : Fin 6) (f : BitVec 640)
  /-- NAK (R229): A transmitter receives NAK and replays from the expected sequence number. -/
  | nak (port : Fin 6) (seq : BitVec 8)
  /-- REPLAY (R230): A receiver in WAIT receives REPLAY and resumes numbering from its sequence. -/
  | replay (port : Fin 6) (seq : BitVec 8)
  /-- REPLAY_TIMEOUT (R229): The oldest unacknowledged link flit has waited 512 MESHCLK cycles and the transmitter replays from it. -/
  | replayTimeout (port : Fin 6)
  /-- NAK_RESEND_TIMEOUT (R230): A receiver in WAIT re-sends NAK every 256 MESHCLK cycles. -/
  | nakResendTimeout (port : Fin 6)
  /-- ACK_IDLE_INSERT (R228): A side carrying only data link flits inserts an idle flit to report progress within 8 MESHCLK cycles. -/
  | ackIdleInsert (port : Fin 6)
  /-- LINK_NARROW (R231): Repeated failed NAK rounds or too many replays make the gate narrow the port to one module, or quarantine it when both have failed. -/
  | linkNarrow (port : Fin 6)
  /-- LINK_WIDEN (R231): A left-out module completes PHYRETRAIN with lane repair and the gate widens the port. -/
  | linkWiden (port : Fin 6) (found : LaneTest)
  /-- MODULE_RECAL (R231): A write of AXG_PORT_CTRL.RECAL recalibrates each module in turn while the other carries traffic. -/
  | moduleRecal (w : Issuer) (port : Fin 6)
  /-- PORT_BRINGUP (R233): A write of AXG_PORT_CTRL.ENABLE = 1 starts UCIe training of the port. -/
  | portBringup (w : Issuer) (port : Fin 6)
  /-- UCIE_TRAINING_COMPLETE (R233): The port's mainband reaches ACTIVE in raw format and LINK_STATE becomes INIT. -/
  | ucieTrainingComplete (port : Fin 6) (modules : BitVec 2) (found0 found1 : LaneTest)
  /-- BRINGUP_ATTEMPT_TIMEOUT (R234): A bring-up attempt exceeds 100 ms or training fails, and the port retries, falls back to 16 GT/s or fails. -/
  | bringupAttemptTimeout (port : Fin 6)
  /-- INIT (R233): The gate receives the annex's INIT and checks its revision and buffer sizes. -/
  | initMsg (port : Fin 6) (rev req fwd rsp mgt dat : BitVec 8)
  /-- DECLARE (R236): The gate receives DECLARE and checks it against the expected agent classes, or quarantines the annex if it arrives after OPEN. -/
  | declareMsg (port : Fin 6) (classes : BitVec 64) (vendor device : BitVec 16) (rev : BitVec 8)
  /-- DECLARE_TIMEOUT (R234): No DECLARE arrives within 1 ms of INIT and the bring-up fails. -/
  | declareTimeout (port : Fin 6)
  /-- AXG_OPEN_WRITE (R233): WID 0 writes AXG_PORT_CTRL.OPEN, and the gate sends OPEN and admits traffic, or refuses the write before READY. -/
  | axgOpenWrite (w : Issuer) (port : Fin 6)
  /-- OPEN (R226): The annex receives the gate's OPEN naming the admitted agents. -/
  | openMsg (port : Fin 6)
  /-- HOLD (R226): The annex receives HOLD carrying the quarantine cause. -/
  | hold (port : Fin 6)
  /-- AXG_ATTESTED_WRITE (R241): WID 0 writes ATTESTED, and a clear is refused while carrel grants are set. -/
  | axgAttestedWrite (w : Issuer) (port : Fin 6) (v : Bool)
  /-- AXG_GRANT_WRITE (R241): WID 0 writes an agent's grant list, and a carrel bit on an unattested annex is refused. -/
  | axgGrantWrite (w : Issuer) (port : Fin 6) (j : Fin 16) (v : Word)
  /-- AXG_WINDOW_STAGING_WRITE (R246): WID 0 writes a staging copy of an address or MMIO window, which is refused while a commit is pending. -/
  | axgWindowStagingWrite (w : Issuer) (pa : BitVec 52) (v : Word)
  /-- WINDOW_COMMIT (R244): A write of AXG_WIN_CTRL.COMMIT requests that the staged windows become active. -/
  | windowCommit (w : Issuer) (port : Fin 6)
  /-- WINDOW_COMMIT_EDGE (R244): The first free cycle of the check stage arrives, and every staged window becomes active at once. -/
  | windowCommitEdge (port : Fin 6)
  /-- ANNEX_PACKET_ARRIVAL (R239): The gate checks a packet from the annex in order, then injects it or refuses it with a strike. -/
  | annexPacketArrival (port : Fin 6) (framed : Bool) (p : Packet)
  /-- STRIKE_INTERVAL_RESET (R249): STRIKES clears at every 1 ms of mtime. -/
  | strikeIntervalReset
  /-- SNOOP_TO_EXPIRY (R238): An annex agent does not answer a snoop in time; the gate answers it dead and quarantines the annex. -/
  | snoopToExpiry (port : Fin 6) (idx : Nat)
  /-- ACK_TO_EXPIRY (R238): An annex agent does not send a CompAck or WriteData in time; the gate answers for it and quarantines the annex. -/
  | ackToExpiry (port : Fin 6) (idx : Nat)
  /-- RESP_TO_EXPIRY (R238): A depository MemRead or MemWrite goes unanswered; the gate answers TIMEOUT and strikes, or quarantines the home agent. -/
  | respToExpiry (port : Fin 6) (idx : Nat)
  /-- MMIO_TO_EXPIRY (R238): An annex IORead or IOWrite goes unanswered and the gate answers TIMEOUT with a strike. -/
  | mmioToExpiry (port : Fin 6) (idx : Nat)
  /-- FLUSH_TIMEOUT (R238): No AgentFlushDone arrives within 1 ms of AgentFlush and the annex is quarantined. -/
  | flushTimeout (port : Fin 6) (idx : Nat)
  /-- PORT_QUARANTINE_WRITE (R255): A write of AXG_PORT_CTRL.QUARANTINE quarantines the annex with cause KEEPER_REQUEST. -/
  | portQuarantineWrite (w : Issuer) (port : Fin 6)
  /-- RECLAIM_COMPLETE (R251): Every directory slice has finished scanning out the quarantined annex, and RECLAIMED is set. -/
  | reclaimComplete (port : Fin 6)
  /-- PORT_DISABLE (R253): A write of AXG_PORT_CTRL.ENABLE = 0 ends a reclaimed quarantine, or first quarantines an open port. -/
  | portDisable (w : Issuer) (port : Fin 6)
  /-- AXG_FENCE_PROBE (R541): The gate receives a fence probe and answers it once every earlier posted write and MemWrite has been answered. -/
  | axgFenceProbe (p : Packet)
  /-- AGENT_FLUSH (R151): An annex caching agent receives AgentFlush and evicts every sector. -/
  | agentFlush (port : Fin 6) (j : Fin 16)
  /-- AGENT_FLUSH_DONE (R151): The gate receives AgentFlushDone and answers the agent's snoops as empty from then on. -/
  | agentFlushDone (port : Fin 6) (j : Fin 16)
  /-- MGT_NOTIFY (R206): The SVC receives an annex's MgtNotify and records it in the Annals. -/
  | mgtNotify (p : Packet)
  /-- MGT_ERR (R206): A sender receives MgtErr for a failed management request. -/
  | mgtErr (p : Packet)
  /-- PATROL_SCRUB_READ (R272): A memory port reads the next granule of its patrol and rewrites it if corrected, or poisons it if uncorrectable. -/
  | patrolScrubRead (mp : Fin 12) (re : ReadErr)
  /-- MP_LANE_RETIRE_WRITE (R287): A write adds DQ lane retirements, which later decodes treat as erasures; other changes are refused. -/
  | mpLaneRetireWrite (w : Issuer) (mp : Fin 12) (v : Word)
  /-- MP_TRAIN_START (R285): A write of MP_CFG.START starts port training, or is refused unless the port is IDLE or FAILED. -/
  | mpTrainStart (w : Issuer) (mp : Fin 12)
  /-- MP_TRAINING_DONE (R280): A port completes or fails its training, and LOCAL_TOP is published when all 12 ports are trained. -/
  | mpTrainingDone (mp : Fin 12) (failStep : Fin 9) (pins : PinTest)
  /-- REFRESH_DUE (R282): A bank's refresh interval elapses and the port issues per-bank refresh. -/
  | refreshDue (mp : Fin 12) (bank : Fin 16)
  /-- MP_TEMPERATURE_POLL (R282): Every 1 ms the port reads each device's temperature and sets the refresh interval. -/
  | mpTemperaturePoll (mp : Fin 12) (temp : Nat)
  /-- SELF_REFRESH_ENTER (R283): A port performs its accepted accesses, writes back the marginalia cache and enters self-refresh. -/
  | selfRefreshEnter (mp : Fin 12)
  /-- SELF_REFRESH_EXIT (R283): A port leaves self-refresh, recalibrates from stored values and resumes refresh within 1 ms. -/
  | selfRefreshExit (mp : Fin 12)
  /-- MIRROR_LINK_DOWN (R279): The mirror link or partner fails, and the port serves the mirrored range from its own copy. -/
  | mirrorLinkDown (mp : Fin 12)
  /-- MIRROR_LINK_RETURN (R279): The mirror link returns and the port starts copying its mirrored range to the partner. -/
  | mirrorLinkReturn (mp : Fin 12)
  /-- MIRROR_RESYNC_DONE (R279): The copy to the partner completes and MIRROR_LINK_UP is set. -/
  | mirrorResyncDone (mp : Fin 12)
  /-- ASSIGN (R306): A command-page ASSIGN gives FREE pages to a target world under a slot. -/
  | assign (w : Issuer) (page : BitVec 6) (target : BitVec 6) (slot : BitVec 8)
  /-- SHARE_RO (R306): A command-page SHARE_RO shares the owner's pages read-only with a sharer. -/
  | shareRo (w : Issuer) (page : BitVec 6) (target : BitVec 6)
  /-- SHARE_RW (R306): A command-page SHARE_RW shares the owner's pages read-write with a sharer. -/
  | shareRw (w : Issuer) (page : BitVec 6) (target : BitVec 6)
  /-- UNSHARE (R306): A command-page UNSHARE returns shared pages to ASSIGNED and flushes them. -/
  | unshare (w : Issuer) (page : BitVec 6)
  /-- DONATE (R306): A command-page DONATE passes Open-world pages to a carrel, re-encrypting them under its slot. -/
  | donate (w : Issuer) (page : BitVec 6) (target : BitVec 6) (slot : BitVec 8)
  /-- RELEASE (R306): A command-page RELEASE scrubs the owner's pages and makes them FREE. -/
  | release (w : Issuer) (page : BitVec 6)
  /-- RECLAIM (R306): A command-page RECLAIM by WID 0 scrubs pages in any state and makes them FREE. -/
  | reclaim (w : Issuer) (page : BitVec 6)
  /-- DOMAIN_OFF_REQUEST (R438): A PWR_DOM_REQ OFF request is checked against the refusers and starts a domain's drain. -/
  | domainOffRequest (w : Issuer) (d : BitVec 9) (reqWid : BitVec 6)
  /-- DOMAIN_ON_REQUEST (R437): A PWR_DOM_REQ ON request pins a core or powers up a block. -/
  | domainOnRequest (w : Issuer) (d : BitVec 9) (reqWid : BitVec 6)
  /-- DOMAIN_TIMER_REQUEST (R437): A PWR_DOM_REQ TIMER request sets a core's idle timer and unpins it. -/
  | domainTimerRequest (w : Issuer) (d : BitVec 9) (reqWid : BitVec 6) (us : BitVec 17)
  /-- DOMAIN_DRAIN_COMPLETE (R438): A domain's drain finishes, and it is declared dead if needed, isolated and powered off or retained. -/
  | domainDrainComplete (d : Fin 441)
  /-- DRAIN_TIMEOUT (R438): A drain exceeds 50 µs and the transition is aborted with IN_FLIGHT_TRAFFIC. -/
  | drainTimeout (d : Fin 441)
  /-- DOMAIN_WAKE_COMPLETE (R434): A waking domain reaches ON. -/
  | domainWakeComplete (d : Fin 441)
  /-- CORE_CLOCK_GATE (R442): A hart has waited 1 µs in WFI or WRS.NTO and its core clock-gates. -/
  | coreClockGate (h : BitVec 8)
  /-- CORE_IDLE_TIMER_EXPIRY (R442): A clock-gated core's IDLE_US elapses and it flushes, saves state and power-gates. -/
  | coreIdleTimerExpiry (h : BitVec 8)
  /-- CORE_WAKE (R443): An event that ends a hart's wait wakes its core, aborting any entry in progress. -/
  | coreWake (h : BitVec 8)
  /-- ENTER_OFF (R454): Mode request 0 stops the harts, commits the Annals and Ledger, powers everything off and asserts ALERT_N. -/
  | enterOff (works : Bool)
  /-- ENTER_CONSERVATION (R448): Mode request 2 retains cores and slices and puts memory into self-refresh. -/
  | enterConservation
  /-- ENTER_WATCH (R451): Mode request 1 passes through Conservation into Watch and halts the engines and the root PLL. -/
  | enterWatch
  /-- LEAVE_TO_ORIGIN (R449): Mode request 4 or 5 reverses Conservation or Watch and resumes the harts. -/
  | leaveToOrigin
  /-- WAKE_SOURCE (R449): An enabled wake source in M1 or M2 returns the device to ORIGIN, or aborts an entry in progress. -/
  | wakeSource (bit : Fin 50)
  /-- HELD_WRITE_QUEUE (R450): In M1 or M2 the SVC queues a write to a retained core range or interrupt file and answers Comp. -/
  | heldWriteQueue (w : Issuer) (x : HeldWrite)
  /-- FATAL_ERROR (R493): A fatal event latches its cause, writes the FATAL record and enters Quarantine. -/
  | fatalError (cause : Fin 7)
  /-- LIMITER_ESTIMATE (R456): Every 1 µs the limiter estimates package power and lowers or raises cores and memory issue. -/
  | limiterEstimate (watts : BitVec 10)
  /-- THERMAL_THROTTLE (R457): A tile reads 100 °C or more and both of its cores drop to n = 6. -/
  | thermalThrottle (tile : Fin 136) (temp : Nat)
  /-- THROTTLE_RELEASE (R457): A throttled tile has read 95 °C or less for 1 ms and is released. -/
  | throttleRelease (tile : Fin 136) (temp : Nat)
  /-- THERMAL_CUT (R457): A throttled tile reads 110 °C or more for 10 µs and its core is cut as a dead holder. -/
  | thermalCut (core : Fin 272) (temp : Nat)
  /-- THERMAL_CUT_RECOVER (R457): A cut tile reads 95 °C or less and the hart resumes. -/
  | thermalCutRecover (core : Fin 272) (temp : Nat)
  /-- THERMTRIP (R457): A junction reaches 115 °C, THERMTRIP_N asserts and the device enters M7. -/
  | thermtrip (temp : Nat)
  /-- DROOP_GUARD (R464): A sentinel reads slack below FLOOR_PS and the core's n is lowered a step within 100 ns. -/
  | droopGuard (core : Fin 272) (slack : Nat)
  /-- DROOP_STEP (R464): While slack stays below the floor, n is lowered a further step every 1 µs. -/
  | droopStep (core : Fin 272) (slack : Nat)
  /-- DROOP_REPLAN (R464): Within 1 s of a droop event the Keeper re-plans the core and clears the guard, or retires the core. -/
  | droopReplan (core : Fin 272) (point : Fin 13) (slack : Nat)
  /-- ROLLING_CHECK (R466): A core's turn comes; its hart is stalled, the core is stress-checked and re-planned. -/
  | rollingCheck (core : Fin 272) (m : Sweep)
  /-- ROLLING_CHECK_RETRY (R482): An hourly retry of a check that was skipped for a halted hart. -/
  | rollingCheckRetry (core : Fin 272) (m : Sweep)
  /-- RETIREMENT_RETRY (R482): A retirement refused for a halted hart is retried every 1 minute. -/
  | retirementRetry (core : Fin 272)
  /-- SURVEY_DUE_NOTICE (R468): 365 days after the last Survey, SURVEY_DUE is set and notified. -/
  | surveyDueNotice
  /-- SURVEY_OVERDUE (R468): 455 days pass without a complete Survey and every N_PLAN is capped at 15. -/
  | surveyOverdue
  /-- LIFE_MODEL_TICK (R475): Every 1 s each core's EQ_HOURS advances by its stress factor. -/
  | lifeModelTick (stress : List (Fin 272 × Nat))
  /-- MLG_WAY_RETIRE_WRITE (R474): A write retires an LLC way, flushing it before it leaves lookup and allocation. -/
  | mlgWayRetireWrite (w : Issuer) (tile : Fin 136) (v : Word)
  /-- LEDGER_COMMIT_RETRY (R478): Every 10 minutes a Ledger record held in always-on SRAM is retried to flash. -/
  | ledgerCommitRetry (works : Bool)
  /-- ARRAY_ERROR_DETECTED (R484): A cache, LLC, directory or deed-table error is detected and corrected, poisoned or made fatal by its source. -/
  | arrayErrorDetected (e : ArrayErr)
  /-- ANNALS_EVENT (R498): The recorder accepts an event, applies its rate limit, takes the snapshot and writes or holds the record. -/
  | annalsEvent (code : Fin 1024) (src : Source) (d0 d1 : Word)
  /-- RATE_BUCKET_REFILL (R498): A code's token bucket gains a token every REFILL_MS. -/
  | rateBucketRefill (code : Fin 1024)
  /-- ANNALS_COMMIT (R501): On 64 pending records or COMMIT_S, the Keeper commits records to the archive. -/
  | annalsCommit (works : Bool)
  /-- ANNALS_COMMIT_RETRY (R501): A failed archive write is retried every 10 minutes. -/
  | annalsCommitRetry (works : Bool)
  /-- ANNALS_THAW (R502): The last freeze ends, the hold queue drains into staging and ANNALS_THAW is recorded. -/
  | annalsThaw
  /-- CALENDAR_SET (R497): A write of ANL_CAL_SET sets the calendar and records CALENDAR_SET. -/
  | calendarSet (w : Issuer) (v : Word)
  /-- MHPMEVENT_WRITE (R512): A write of an event selector, which clears to 0 on an unlisted event or invalid SPEC. -/
  | mhpmeventWrite (h : BitVec 8) (k : Fin 8) (v : Word) (enc : BitVec 32)
  /-- PMU_BLOCK_CLEAR (R515): A write of PMU_BLOCK_CTRL.CLEAR zeroes every count and overflow bit of the block. -/
  | pmuBlockClear (w : Issuer) (b : PmuBlock) (v : Word)
  /-- FOLIO_CTRL_WRITE (R518): A write to PMU_FOLIO_CTRL enables or configures folios, or is refused. -/
  | folioCtrlWrite (w : Issuer) (v : Word)
  /-- DEBUG_RESUME_REQUEST (R321): The debug module asks a halted hart to resume, which it does when invasive debug is enabled for the hart's world. -/
  | debugResumeRequest (h : BitVec 8)
  /-- PF_FLR (R415): The host initiates a Function Level Reset of HP0's PF; a slip in progress completes, its return slip is discarded and DONE is cleared. -/
  | pfFlr
  /-- PERST_RELEASE (R540): HP0_PERST0_N is released in the endpoint role, and HP0 trains its link, or trains from step 6 of R392 if it is released earlier. -/
  | perstRelease
  /-- PWRGOOD_RISE (R537): PWRGOOD rises with RESET_N held low, releasing an ALERT_N assertion made by a calendar alarm and holding cold reset until RESET_N rises. -/
  | pwrgoodRise
  /-- VAON_LOSS (R493): VAON is lost; the Annals staging SRAM, FATAL_CAUSE, the calendar and the always-on island's state are cleared. -/
  | vaonLoss
  /-- GPIO_HELD_CHANGE (R402): A GPIO output change that was held because it followed another within 1 µs is applied once 1 µs has passed. -/
  | gpioHeldChange (pin : Fin 32)
  deriving DecidableEq, Repr

end Sys2Proof
end

