-- ==== Sys2Proof/Config.lean ====
section
/-! DEFINITION. The values the spec leaves open: opaque constants that nothing can evaluate. Each is applied to the state's counter of free
values, or to the operands it depends on; the assumption log names each. -/
namespace Sys2Proof.Config

/-- A pseudo-LRU choice among ways (R80, R114): the spec names the policy and no order. -/
opaque freeChoice : Nat → Nat

/-- Output of the hardware random number generator (R420, R314). -/
opaque freeRandom : Nat → Sys2Proof.Sector

/-- Data that the spec leaves unspecified, such as what an aborted job leaves at its destination (R340). -/
opaque freePlain : Nat → Sys2Proof.Sector

/-- The bits of the key with a serial number, which the random number generator drew (R248, R314). -/
opaque keyBits : Nat → BitVec 512

/-- A raw DEFLATE stream, LZ4 block or Zstandard frame that a Compactor may write for FORMAT, LEVEL and data (R338): the spec fixes that it is valid and deterministic and not which of the valid
encodings it is; the model takes it where it is valid (`encodeStream`). -/
opaque encode : Nat → Nat → List Nat → List Nat

/-- The DER of a certificate of R396: layer, scheme, and the secret that its key is derived from. -/
opaque certificate : Nat → Nat → Nat → List Nat

/-- A signed quote (R398): its contents and the secret of the Platform alias. -/
opaque quote : List Nat → Nat → List Nat

/-- Whether an annex's evidence is accepted (R400): the reference list, the nonce, the evidence, and VENDOR, DEVICE and REVISION. -/
opaque evidenceOk : List Nat → Nat → List Nat → Nat → Bool

/-- A word the spec does not state. -/
opaque freeWord : Nat → Sys2Proof.Word

end Sys2Proof.Config
end

