-- ==== Sys2Proof/Machine/Aes.lean ====
section
/-! DEFINITION. AES-256-XTS, the cipher of memory and of depositories (R248, R268, R314): the standard names of FIPS 197 and of IEEE 1619. A block is 16 bytes, byte 0 first. -/
namespace Sys2Proof.Machine

/-- The S-box and its inverse: byte i of the number is the value at i. -/
def aesSbox : Nat :=
  0x16bb54b00f2d99416842e6bf0d89a18cdf2855cee9871e9b948ed9691198f8e19e1dc186b95735610ef6034866b53e708a8bbd4b1f74dde8c6b4a61c2e2578ba08ae7a65eaf4566ca94ed58d6d37c8e779e4959162acd3c25c2406490a3a32e0db0b5ede14b8ee4688902a22dc4f816073195d643d7ea7c41744975fec130ccdd2f3ff1021dab6bcf5389d928f40a351a89f3c507f02f94585334d43fbaaefd0cf584c4a39becb6a5bb1fc20ed00d153842fe329b3d63b52a05a6e1b1a2c830975b227ebe28012079a059618c323c7041531d871f1e5a534ccf73f362693fdb7c072a49cafa2d4adf04759fa7dc982ca76abd7fe2b670130c56f6bf27b777c63
def aesInvSbox : Nat :=
  0x7d0c2155631469e126d677ba7e042b17619953833cbbebc8b0f52aae4d3be0a0ef9cc9939f7ae52d0d4ab519a97f51605fec8027591012b131c7078833a8dd1ff45acd78fec0db9a2079d2c64b3e56fc1bbe18aa0e62b76f89c5291d711af1476edf751ce837f9e28535ade72274ac9673e6b4f0cecff297eadc674f4111913a6b8a130103bdafc1020f3fca8f1e2cd00645b3b80558e4f70ad3bc8c00abd890849d8da75746155edab9edfd5048706c92b6655dcc5ca4d41698688664f6f87225d18b6d49a25b76b224d92866a12e084ec3fa420b954cee3d23c2a632947b54cbe9dec444438e3487ff2f9b8239e37cfbd7f3819ea340bf38a53630d56a0952

/-- A byte through a box. -/
def boxAt (box a : Nat) : Nat := box / 2 ^ (8 * a) % 256

/-- A byte doubled in the field of the cipher, and a byte times a small factor. -/
def xtime (a : Nat) : Nat := if a < 128 then 2 * a else Nat.xor (2 * a - 256) 0x1B
def fieldMul (k a : Nat) : Nat :=
  let b := xtime a
  let c := xtime b
  let pick (i v : Nat) : Nat := if k / 2 ^ i % 2 = 1 then v else 0
  Nat.xor (Nat.xor (pick 0 a) (pick 1 b)) (Nat.xor (pick 2 c) (pick 3 (xtime c)))

/-- Two blocks combined bit by bit. -/
def xorBytes (a b : List Nat) : List Nat := List.zipWith Nat.xor a b

/-- The bytes of a number, the lowest first, and back. -/
def bytesOf (n v : Nat) : List Nat := (List.range n).map (fun i => v / 2 ^ (8 * i) % 256)
def ofBytes (l : List Nat) : Nat := l.foldr (fun b a => b % 256 + 256 * a) 0

/-- Word i of the key schedule from the words before it, oldest first. -/
def keyWord (ws : List (List Nat)) (i : Nat) : List Nat :=
  let t := ws.getD (i - 1) []
  let sub (l : List Nat) : List Nat := l.map (boxAt aesSbox)
  let rcon : List Nat := [2 ^ (i / 8 - 1), 0, 0, 0]
  let u := if i % 8 = 0 then xorBytes (sub (t.drop 1 ++ t.take 1)) rcon else if i % 8 = 4 then sub t else t
  xorBytes (ws.getD (i - 8) []) u

/-- The fifteen round keys of a 256-bit key. -/
def roundKeys (key : Nat) : List (List Nat) :=
  let first := (List.range 8).map (fun i => bytesOf 4 (key / 2 ^ (32 * i)))
  let ws := (List.range 52).foldl (fun (ws : List (List Nat)) i => ws ++ [keyWord ws (i + 8)]) first
  (List.range 15).map (fun r => ((ws.drop (4 * r)).take 4).flatten)

/-- ShiftRows and its inverse: byte i is row i mod 4 of column i div 4. -/
def shiftRows (l : List Nat) : List Nat := (List.range 16).map (fun i => l.getD ((i + 4 * (i % 4)) % 16) 0)
def unshiftRows (l : List Nat) : List Nat := (List.range 16).map (fun i => l.getD ((i + 16 - 4 * (i % 4)) % 16) 0)

/-- MixColumns with the factors of a row, the first for the byte itself. -/
def mixWith (f0 f1 f2 f3 : Nat) (l : List Nat) : List Nat :=
  (List.range 16).map (fun i =>
    let at_ (k : Nat) : Nat := l.getD (i / 4 * 4 + (i + k) % 4) 0
    Nat.xor (Nat.xor (fieldMul f0 (at_ 0)) (fieldMul f1 (at_ 1))) (Nat.xor (fieldMul f2 (at_ 2)) (fieldMul f3 (at_ 3))))

/-- AES-256 on one block. -/
def aesEncrypt (key : Nat) (block : List Nat) : List Nat :=
  let rk := roundKeys key
  let round (b : List Nat) (r : Nat) : List Nat :=
    let c := shiftRows (b.map (boxAt aesSbox))
    xorBytes (if r = 14 then c else mixWith 2 3 1 1 c) (rk.getD r [])
  (List.range 14).foldl (fun b r => round b (r + 1)) (xorBytes block (rk.getD 0 []))

/-- Its inverse. -/
def aesDecrypt (key : Nat) (block : List Nat) : List Nat :=
  let rk := roundKeys key
  let round (b : List Nat) (r : Nat) : List Nat :=
    let c := xorBytes ((unshiftRows b).map (boxAt aesInvSbox)) (rk.getD r [])
    if r = 0 then c else mixWith 14 11 13 9 c
  (List.range 14).foldl (fun b r => round b (13 - r)) (xorBytes block (rk.getD 14 []))

/-- The tweak of the next block: times x in the field of 2^128. -/
def nextTweak (t : Nat) : Nat := if t < 2 ^ 127 then 2 * t else Nat.xor (2 * t - 2 ^ 128) 0x87

/-- XTS over the four blocks of a sector, with the block cipher or its inverse. -/
def xtsWith (f : Nat → List Nat → List Nat) (key : BitVec 512) (sec : Nat) (d : Sector) : Sector :=
  let k1 := key.toNat % 2 ^ 256
  let t0 := ofBytes (aesEncrypt (key.toNat / 2 ^ 256) (bytesOf 16 sec))
  let r := (List.range 4).foldl (fun (a : List Nat × Nat) i =>
    let t := bytesOf 16 a.2
    (a.1 ++ xorBytes (f k1 (xorBytes (bytesOf 16 (d.toNat / 2 ^ (128 * i))) t)) t, nextTweak a.2)) ([], t0)
  BitVec.ofNat 512 (ofBytes r.1)

/-- A sector encrypted under a key: the data unit is the sector and the tweak is PA[51:6] (R248, R268). -/
def sealSector (key : BitVec 512) (sec : Nat) (d : Sector) : Sector := xtsWith aesEncrypt key sec d
/-- A sector decrypted. -/
def openSector (key : BitVec 512) (sec : Nat) (d : Sector) : Sector := xtsWith aesDecrypt key sec d

end Sys2Proof.Machine
end

