-- ==== Sys2Proof/Machine/Events.lean ====
section
/-! DEFINITION. The event codes of the Annals with their severity and default bucket (R496), the fatal causes (R492) and the
numbers of the APLIC's sources (R48). -/
namespace Sys2Proof.Machine

/-! The event codes (R496). -/
namespace Ev
def annalsCleared : Nat := 0x001
def calendarSet : Nat := 0x002
def annalsThaw : Nat := 0x003
def fatal : Nat := 0x004
def poisonConsumed : Nat := 0x041
def storeLost : Nat := 0x042
def coreCorrected : Nat := 0x043
def hartRemap : Nat := 0x044
def seatLent : Nat := 0x045
def fixedSeatBreach : Nat := 0x046
def thermalCut : Nat := 0x047
def llcCorrected : Nat := 0x081
def sectorPoisoned : Nat := 0x082
def fenceLate : Nat := 0x0C1
def routeMiss : Nat := 0x0C2
def epochSwitch : Nat := 0x0C3
def annexLink : Nat := 0x101
def annexStrike : Nat := 0x102
def annexQuarantine : Nat := 0x103
def annexNotify : Nat := 0x104
def annexBringupFail : Nat := 0x105
def mpCorrected : Nat := 0x141
def mpUncorrectable : Nat := 0x142
def mpEchoMismatch : Nat := 0x143
def mpTrainFail : Nat := 0x144
def mpEvent : Nat := 0x145
def accessRefused : Nat := 0x181
def deedLost : Nat := 0x182
def keyCommand : Nat := 0x183
def hpFreeze : Nat := 0x1C1
def hpInboundRefused : Nat := 0x1C2
def viReset : Nat := 0x1C3
def bootEvent : Nat := 0x201
def watchdog : Nat := 0x202
def limitHit : Nat := 0x203
def powerRefused : Nat := 0x241
def throttle : Nat := 0x242
def watchMismatch : Nat := 0x243
def modeChange : Nat := 0x244
def ledgerChange : Nat := 0x281
def coreUnusable : Nat := 0x282
end Ev

/-- Severity, and BURST and REFILL_MS where the code is limited (R496). -/
def evInfo (c : Nat) : Option (Nat × Option (Nat × Nat)) :=
  match c with
  | 0x001 => some (6, none)
  | 0x002 => some (4, some (4, 1000))
  | 0x003 => some (3, none)
  | 0x004 => some (7, none)
  | 0x041 => some (5, some (16, 100))
  | 0x042 => some (6, some (16, 100))
  | 0x043 => some (1, some (4, 1000))
  | 0x044 => some (4, none)
  | 0x045 => some (4, some (64, 10))
  | 0x046 => some (4, some (16, 100))
  | 0x047 => some (6, none)
  | 0x081 => some (1, some (4, 1000))
  | 0x082 => some (5, some (64, 10))
  | 0x0C1 => some (4, some (4, 1000))
  | 0x0C2 => some (3, some (8, 100))
  | 0x0C3 => some (4, none)
  | 0x101 => some (1, some (4, 1000))
  | 0x102 => some (3, some (16, 100))
  | 0x103 => some (6, none)
  | 0x104 => some (3, some (16, 100))
  | 0x105 => some (5, none)
  | 0x141 => some (1, some (4, 1000))
  | 0x142 => some (5, some (64, 10))
  | 0x143 => some (6, some (16, 100))
  | 0x144 => some (6, none)
  | 0x145 => some (4, some (8, 100))
  | 0x181 => some (2, some (16, 100))
  | 0x182 => some (6, none)
  | 0x183 => some (4, none)
  | 0x1C1 => some (5, none)
  | 0x1C2 => some (3, some (16, 100))
  | 0x1C3 => some (3, some (64, 10))
  | 0x201 => some (5, none)
  | 0x202 => some (5, none)
  | 0x203 => some (4, some (16, 100))
  | 0x241 => some (2, some (16, 100))
  | 0x242 => some (3, some (8, 100))
  | 0x243 => some (4, none)
  | 0x244 => some (4, none)
  | 0x281 => some (3, none)
  | 0x282 => some (7, none)
  | _ => none

/-! The fatal causes (R492). -/
namespace Fatal
def rootPllLoss : Nat := 1
def meshHeader : Nat := 2
def llcTag : Nat := 3
def directory : Nat := 4
def thermtrip : Nat := 5
def keeperRestarts : Nat := 6
def romSelftest : Nat := 7
end Fatal

/-! The APLIC sources beyond the GPIO pins (R48). -/
namespace Src
def calendar : Nat := 33
def thermal : Nat := 37
def ledger : Nat := 38
def annals : Nat := 39
def rasCorrected : Nat := 40
def rasDeferred : Nat := 41
end Src

end Sys2Proof.Machine
end

