-- ==== Sys2Proof/Machine/RegFile.lean ====
section
/-! DEFINITION. The register file: the key of a register, its value at reset (the Reset columns of the spec's register tables), and
where an address of control space leads (R7, R27). -/
namespace Sys2Proof.Machine

/-- The word of a register whose fields hold their constant reset values. -/
def RegName.resetConst (r : RegName) : Word :=
  w64 (r.fields.foldl (fun a f => a + f.reset % 2 ^ f.width * 2 ^ f.lsb) 0)

/-- The fused V/F entry j of a core: points 0 to 12 hold the voltage of n = j + 6 and VALID; the adders are not valid (R461). -/
def vfEntry (fz : Fuses) (core j : Nat) : Nat :=
  if j ≤ 12 then
    let v := fz.vf.get (min (600 + 25 * j) (fz.vCeil.get 1100 core)) (core * 32 + (j + 6))
    v % 2 ^ 11 + (if j + 6 ≤ fz.nCeil.get 18 core then 2 ^ 11 else 0)
  else 0

/-- The core that held a hart at first cold reset (R16, R42). -/
def homeCore (fz : Fuses) (h : Nat) : Nat := fz.hartCore.get h h

/-- The state and owner of a domain after cold reset: the M3 column of R446 and the owners of R433. -/
def domainReset (fz : Fuses) (d : Nat) : Nat :=
  let on : Bool :=
    if d < 272 then false
    else if d < 408 then decide (332 ≤ d) && decide (d ≤ 347)
    else if d < 420 then true
    else if d < 426 then false
    else if d = 426 then true
    else decide (431 ≤ d)
  let owner := if d < 272 ∧ (List.range 256).any (fun h => homeCore fz h == d) then 2 else 0
  (if on then 2 else 0) + owner * 2 ^ 16 + 1000 * 2 ^ 32

/-- The value a register holds at cold reset. -/
def resetWord (fz : Fuses) (r : RegName) (u i : Nat) : Word :=
  match r with
  | .niRouteA => if i < 160 then (dorRoute u i).setWidth 64 ||| (1 <<< 40) else 0
  | .niRouteB => 0
  | .coreHartMap => w64 (homeCore fz i + homeCore fz i * 2 ^ 16)
  | .mlgVf => w64 ((List.range 4).foldl (fun a j => a + vfEntry fz u (4 * i + j) * 2 ^ (16 * j)) 0)
  | .mlgCoreStatus =>
    let n := fz.nCeil.get 18 u
    w64 (n * 2 ^ 8 + n * 2 ^ 13 + fz.vCeil.get 1100 u % 2 ^ 11 * 2 ^ 21)
  | .llcShelf => if i = 0 then 0xFFFF0FFF else 0
  | .wldKeySlot => if i ≤ 2 then w64 (i + 2 ^ 7 + 2 ^ 8) else 0
  | .wldBellPairs => if 2 ≤ i then 1 <<< i else 0
  | .pwrDomStatus => w64 (domainReset fz i)
  | .pwrLimitStatus => w64 (fz.ceilingW % 2 ^ 10 * 2 ^ 16)
  | .anlRate =>
    match evInfo i with
    | some (_, some (b, m)) => w64 (m + b * 2 ^ 16)
    | _ => 0
  | .rasBankInfoCore => r.resetConst + w64 (tileStop (u / 2) * 4 + u % 2)
  | .rasBankInfoSlice => r.resetConst + w64 (tileStop u * 4 + 2)
  | .rasBankInfoStop => r.resetConst + w64 (u * 4 + 3)
  | .rasBankInfoMp => r.resetConst + w64 (mpStops.getD u 0 * 4)
  | .rasBankInfoAx => r.resetConst + w64 (axStops.getD u 0 * 4)
  | .rasBankInfoHp => r.resetConst + w64 (hpStops.getD u 0 * 4)
  | .rasBankInfoDe => r.resetConst + w64 (deStops.getD u 0 * 4)
  | .rasBankInfoSvc => r.resetConst + w64 (svcStop * 4)
  | _ => r.resetConst

/-- The key of entry i of a register in unit u of its place. -/
def regKey (r : RegName) (u i : Nat) : Nat := r.ctorIdx * 2 ^ 21 + u % 512 * 2 ^ 12 + i % 4096

/-- What an unlisted key of the register file reads as: the reset value of the register it names. -/
def keyReset (fz : Fuses) (k : Nat) : Word :=
  resetWord fz (RegName.ofNat (k / 2 ^ 21)) (k / 2 ^ 12 % 512) (k % 4096)

/-- How many units a place has. -/
def Place.units : Place → Nat
  | .stop => 160
  | .tile => 136
  | .core => 272
  | .svc => 1
  | .mp => 12
  | .ax => 6
  | .hp => 2
  | .hp0 => 1
  | .de => 2
  | .cur => 1

/-- The unit of a place that a stop's window holds at an offset, and the offset within the place (R27). -/
def placeAt (p : Place) (st off : Nat) : Option (Nat × Nat) :=
  match p with
  | .stop => if st < 160 then some (st, off) else none
  | .tile => (stopTile st).map (fun t => (t, off))
  | .core => if off < 0x200000 then none else (stopTile st).map (fun t => (2 * t + (off - 0x200000) / 0x100000, off % 0x100000))
  | .svc => if st = svcStop then some (0, off) else none
  | .mp => (stopMp st).map (fun k => (k, off))
  | .ax => (stopAx st).map (fun k => (k, off))
  | .hp => (stopHp st).map (fun k => (k, off))
  | .hp0 => if st = 70 then some (0, off) else none
  | .de => (stopDe st).map (fun k => (k, off))
  | .cur => none

/-- The stop of a unit of a place. -/
def Place.stopOf : Place → Nat → Nat
  | .stop, u => u
  | .tile, u => tileStop u
  | .core, u => tileStop (u / 2)
  | .svc, _ => svcStop
  | .mp, u => mpStops.getD u 0
  | .ax, u => axStops.getD u 0
  | .hp, u => hpStops.getD u 0
  | .hp0, _ => 70
  | .de, u => deStops.getD u 0
  | .cur, _ => svcStop

/-- The entry of a register at an offset of its place. -/
def RegName.entryAt (r : RegName) (off : Nat) : Option Nat :=
  if off < r.base then none
  else
    let d := off - r.base
    if d % r.stride = 0 ∧ d / r.stride < r.count then
      (match r with
        | .anlSnap => if d / r.stride % 16 < 12 then some (d / r.stride) else none
        | .niDepoMap | .wldDepoDeed | .pwrRefuserCount | .hpViCfg | .hpViAper => if d / r.stride = 0 then none else some (d / r.stride)
        | _ => some (d / r.stride))
    else none

/-- The register at an aligned 64-bit offset of a stop's window: its name, unit and entry (R7, R27). -/
def locate (st off : Nat) : Option (RegName × Nat × Nat) :=
  RegName.all.findSome? (fun r =>
    match placeAt r.place st off with
    | some (u, o) => (r.entryAt o).map (fun i => (r, u, i))
    | none => none)

/-- The control-space address of a register (R7). -/
def regAddr (r : RegName) (u i : Nat) : Nat :=
  controlBase + r.place.stopOf u * 0x400000 + (if r.place = .core then 0x200000 + u % 2 * 0x100000 else 0) + r.base + r.stride * i

end Sys2Proof.Machine
end

