-- ==== Sys2Proof/Machine/State.lean ====
section
/-! DEFINITION. The state of the device as plain data, its faults and refusals, and its state right after cold reset. -/
namespace Sys2Proof.Machine

/-- Why the device's model can fault. (DESIGN CHOICE, assumption 1.) -/
inductive Fault where
  /-- Raised by nothing: every command of the table has an effect in the spec. Kept because the interface asks for a type of faults. Safe. -/
  | unreachable
  deriving DecidableEq, Repr

/-- Why a command can be refused by the model. -/
inductive Refusal where
  /-- Raised by the arm of a command that has no meaning yet. Safe. -/
  | notModelled (mnemonic : String)
  deriving DecidableEq, Repr

/-- What an I/O agent is doing (R107, R130): the command that it carries out, the answers its accesses have had so far, the access it makes next, and the tag of that
access's request once it has been sent. -/
structure Run where
  stop : Nat
  ep : Nat
  cmd : Instr
  log : List (Acc × CohAns) := []
  next : Option Acc := none
  tag : Option Nat := none
  deriving DecidableEq, Repr

/-- The state of the device. Tables are canonical sparse maps; what an unlisted key reads as is said by the accessor in `Ops`. -/
structure State where
  /-- The commands that wait, first in, first out. -/
  pending : List Instr := []
  /-- The model's own counter of free values: each use of an open value applies an opaque constant to it and advances it. -/
  fresh : Nat := 0
  fuses : Fuses := {}
  /-- Every register of the register map, by `regKey`. -/
  regs : Map Word := []
  harts : Map Hart := []
  cores : Map Core := []
  /-- The L2 (with the L1D inside it) of every core and the cache of every annex caching agent: agent * 2^46 + sector. -/
  caches : Map CLine := []
  /-- The directory: (tile * 2048 + set) * 16 + way; no entry is none. -/
  dir : Map (Option DirEnt) := []
  /-- The LLC: (tile * 1024 + set) * 12 + way. -/
  llc : Map (Option LlcLine) := []
  slices : Map Slice := []
  nis : Map Ni := []
  /-- Packets queued at their source's network interface, and packets in the mesh. -/
  outq : List Packet := []
  net : List Flight := []
  /-- Open requests by stop * 4096 + tag. -/
  reqs : Map (Option Req) := []
  /-- IOWrites that a register block or a host port has pulled and whose data has not come (R208). -/
  ioWrites : List Packet := []
  /-- The commands that I/O agents are carrying out, and the place reached in the answers of the one that now runs: empty between commands. -/
  works : List Run := []
  cursor : Cursor := {}
  fence : Option Fence := none
  fenceSeq : Nat := 0
  /-- mtime at the fence of the running epoch switch (R496). -/
  flipTime : Nat := 0
  /-- The values that METER_COMMIT takes: stop metering words by register key at the METER_COMMIT write (R184). -/
  meterWids : Word := 0
  /-- The issuers of broadcast register writes that wait for their acknowledgements (R89). -/
  broadcasts : List Issuer := []
  /-- The issuers of shelf writes that wait for a flush, and the ways being flushed (R101). -/
  flushIssuers : List Issuer := []
  flushWays : BitVec 12 := 0
  flushDirWays : BitVec 16 := 0
  /-- The memory-attribute copies in force are the registers themselves; LOCAL_TOP in force (R287) is MP_LOCAL_TOP. -/
  mem : Map Granule := []
  mps : Map Mp := []
  /-- The deed tables, by page number PA[51:12] (R300, R301), and the pages whose table granule an uncorrectable error has damaged (R484). -/
  deeds : Map Word := []
  deedBad : List Nat := []
  /-- The deed caches (R308): the 64 KiB ranges PA[51:16] that each holds, by home slice, then memory port from 256 on and annex gate from 512 on. -/
  deedCaches : Map (List Nat) := []
  deedCmds : Map (Option DeedCmd) := []
  deedTurn : Nat := 0
  /-- The serial number of the key in each slot (R314). -/
  keyGens : Map Nat := []
  keySerial : Nat := 3
  /-- The key command that runs (R315). -/
  keyCmd : Option (Nat × Nat × Nat) := none
  bells : List BellMsg := []
  bellRet : List (Nat × Nat) := []
  aplic : Map AplicSrc := []
  aplicDom : Word := 0
  pins : Map Pin := []
  links : Map Link := []
  gates : Map Gate := []
  annals : Annals := {}
  engines : Map Engine := []
  hps : Map Hp := []
  /-- HP0's physical function, and its virtual functions by number (R366 to R375). -/
  pf : Pf := {}
  vfs : Map Vf := []
  /-- Host transfer queues: their jobs (R369). -/
  queues : Map Chan := []
  pw : Power := {}
  ledger : Ledger := {}
  /-- The flash array (R380); an unlisted byte is erased. -/
  flash : Map (BitVec 8) := []
  kpr : Keeper := {}
  cur : Curator := {}
  slips : Slips := {}
  folio : Folios := {}
  dm : Dm := {}
  /-- Cold resets since the first application of VAON (R495). -/
  bootCount : Nat := 0
  deriving DecidableEq, Repr

/-- The device right after cold reset: every register at its reset value, every table empty. (DESIGN CHOICE, assumption 3.) (DESIGN CHOICE, assumption 6.) -/
def State.reset : State := {}

end Sys2Proof.Machine
end

