-- ==== Sys2Proof/Machine/Ops.lean ====
section
/-! DEFINITION. The named operations over the state: registers and their fields (R7 to R13), harts and cores, tags and packets (R197, R199),
the APLIC's sources, the Annals' recorder (R494 to R505) and the taking of a trap (R31, R64). -/
namespace Sys2Proof.Machine

/-! ### Registers -/

/-- The word a register holds. (DESIGN CHOICE, assumption 107.) -/
def State.regWord (s : State) (r : RegName) (u i : Nat) : Word :=
  s.regs.get (keyReset s.fuses (regKey r u i)) (regKey r u i)

/-- The state with a register's word replaced. -/
def State.setRegWord (s : State) (r : RegName) (u i : Nat) (v : Word) : State :=
  { s with regs := s.regs.set (keyReset s.fuses (regKey r u i)) (regKey r u i) v }

/-- Bits [lsb + width - 1 : lsb] of a word. -/
def bitsOf (w : Word) (lsb width : Nat) : Nat := w.toNat / 2 ^ lsb % 2 ^ width

/-- A word with a field replaced; the value wraps to the field's width. -/
def putBits (w : Word) (lsb width v : Nat) : Word :=
  let m : Word := w64 ((2 ^ width - 1) * 2 ^ lsb)
  (w &&& ~~~m) ||| w64 (v % 2 ^ width * 2 ^ lsb)

/-- A field of a register. -/
def State.getF (s : State) (f : Fld) (u i : Nat) : Nat := bitsOf (s.regWord f.reg u i) f.lsb f.width

/-- Whether a one-bit field is 1. -/
def State.isF (s : State) (f : Fld) (u i : Nat) : Bool := s.getF f u i == 1

/-- The state with a field written by hardware. -/
def State.setF (s : State) (f : Fld) (u i : Nat) (v : Nat) : State :=
  s.setRegWord f.reg u i (putBits (s.regWord f.reg u i) f.lsb f.width v)

/-- A counter field advanced, saturating. -/
def State.incSat (s : State) (f : Fld) (u i : Nat) : State :=
  if s.getF f u i = 2 ^ f.width - 1 then s else s.setF f u i (s.getF f u i + 1)

/-- A counter field advanced, wrapping. -/
def State.incF (s : State) (f : Fld) (u i : Nat) : State := s.setF f u i (s.getF f u i + 1)

/-- Whether the LOCK bit that governs a register's RWL fields is set (R9, R10). -/
def State.locked (s : State) (r : RegName) (u : Nat) : Bool :=
  match r.lock with
  | some f => s.isF f (if f.reg.place = .svc then 0 else u) 0
  | none => false

/-- What software's write of `new` leaves in a field that holds `old`: the types of R9, the LOCK rule of R10 and reserved encodings (R12).
`en` is the mask of the field's bits that the access carries. -/
def fieldWrite (f : Fld) (locked : Bool) (old new en : Nat) : Nat :=
  let merged := xorNat old (Nat.land (xorNat old new) en)
  match f.ty with
  | .ro => old
  | .wo => 0
  | .w1c => xorNat old (Nat.land old (Nat.land new en))
  | .w1s => Nat.lor old (Nat.land new en)
  | .lock => Nat.lor old (Nat.land new en)
  | .rw | .rws => if f.legal.ok merged then merged else old
  | .rwl => if locked then old else if f.legal.ok merged then merged else old

/-- A generic software write of a register: every field by its type. `en` masks the bytes that the access carries. -/
def State.writeReg (s : State) (r : RegName) (u i : Nat) (data en : Word) : State :=
  let old := s.regWord r u i
  let lk := s.locked r u
  s.setRegWord r u i (r.fields.foldl (fun w f =>
    putBits w f.lsb f.width (fieldWrite f lk (bitsOf old f.lsb f.width) (bitsOf data f.lsb f.width) (bitsOf en f.lsb f.width))) old)

/-- What software reads: write-only fields read zero (R9). -/
def State.readReg (s : State) (r : RegName) (u i : Nat) : Word :=
  let old := s.regWord r u i
  r.fields.foldl (fun w f => if f.ty = .wo then putBits w f.lsb f.width 0 else w) old

/-- The operating mode (R29, R444). -/
def State.mode (s : State) : Nat := s.getF F.pwrModeStatus_mode 0 0

/-- LOCAL_TOP in force (R287). -/
def State.localTop (s : State) : Nat := s.getF F.mpLocalTop_top 0 0

/-- The state of a power domain (R434, R436). -/
def State.domain (s : State) (d : Nat) : Nat := s.getF F.pwrDomStatus_state 0 d

/-- mtime (R40). -/
def State.mtime (s : State) : Nat := s.getF F.coreMtime_count 0 0

/-- The next free value: its number, and the state after its use. (DESIGN CHOICE, assumption 2.) -/
def State.draw (s : State) : Nat × State := (s.fresh, { s with fresh := s.fresh + 1 })

/-! ### Harts and cores -/

/-- A hart. -/
def State.hart (s : State) (h : Nat) : Hart := s.harts.get {} h
/-- The state with a hart replaced. -/
def State.setHart (s : State) (h : Nat) (v : Hart) : State := { s with harts := s.harts.set {} h v }
/-- The state with a hart changed. -/
def State.modHart (s : State) (h : Nat) (f : Hart → Hart) : State := s.setHart h (f (s.hart h))
/-- A physical core. -/
def State.core (s : State) (c : Nat) : Core := s.cores.get {} c
def State.setCore (s : State) (c : Nat) (v : Core) : State := { s with cores := s.cores.set {} c v }
def State.modCore (s : State) (c : Nat) (f : Core → Core) : State := s.setCore c (f (s.core c))

/-- The physical core that holds a hart (R42). -/
def State.physCore (s : State) (h : Nat) : Nat := s.getF F.coreHartMap_physCore 0 h
/-- The core that locates a hart's interrupt files (R42, R46). -/
def State.homeCoreOf (s : State) (h : Nat) : Nat := s.getF F.coreHartMap_homeCore 0 h
/-- The hart on a core: the hart whose entry names the core. -/
def State.hartOf (s : State) (c : Nat) : Option Nat := (List.range 256).find? (fun h => s.physCore h == c)
/-- The world of a hart's seat (R293). -/
def State.seat (s : State) (h : Nat) : Nat := s.getF F.wldSeat_wid 0 h
/-- The stop and endpoint of a core (R15, R198). -/
def coreStop (c : Nat) : Nat := tileStop (c / 2)

/-- The value a CSR holds at release (R33, R34, R39). -/
def csrReset (h n : Nat) : Word :=
  match n with
  | 0xF11 => 0x0B1D
  | 0xF12 => 0x8000000000007256
  | 0xF13 => 0xA1
  | 0xF14 => w64 h
  | 0x301 => 0x8000000000B411AF
  | 0x300 => 0x0000000A00000000
  | 0x600 => 0x0000000200000000
  | 0xC21 => 0x8000000000000000
  | 0xC22 => 32
  | 0x14D => 0xFFFFFFFFFFFFFFFF
  | 0x24D => 0xFFFFFFFFFFFFFFFF
  | _ => 0

/-- The word that a CSR of a hart stores. -/
def State.csrWord (s : State) (h n : Nat) : Word := (s.hart h).csr.get (csrReset h n) n

/-- A CSR of a hart. In mip, MTIP is 1 exactly while mtime has reached the hart's compare value (R40, R41), and STIP while it has reached stimecmp where STCE is set (R31). -/
def State.csr (s : State) (h n : Nat) : Word :=
  if n = 0x344 then
    let w := putBits (s.csrWord h n) 7 1 (decide (s.getF F.coreMtimecmp_compare 0 h ≤ s.mtime)).toNat
    if bitsOf (s.csrWord h 0x30A) 63 1 = 1 then putBits w 5 1 (decide ((s.csrWord h 0x14D).toNat ≤ s.mtime)).toNat else w
  else s.csrWord h n
/-- The state with a CSR written by hardware. -/
def State.setCsr (s : State) (h n : Nat) (v : Word) : State :=
  s.modHart h (fun x => { x with csr := x.csr.set (csrReset h n) n v })
/-- A field of a CSR replaced. -/
def State.setCsrBits (s : State) (h n lsb width v : Nat) : State := s.setCsr h n (putBits (s.csrWord h n) lsb width v)

/-- An integer register; x0 reads zero. -/
def Hart.xreg (x : Hart) (r : Nat) : Word := if r % 32 = 0 then 0 else x.x.get 0 (r % 32)
/-- Write an integer register; x0 discards writes. -/
def Hart.setX (x : Hart) (r : Nat) (v : Word) : Hart := if r % 32 = 0 then x else { x with x := x.x.set 0 (r % 32) v }
/-- Write an element of a vector register. -/
def Hart.setV (x : Hart) (r elt size v : Nat) : Hart :=
  let old := x.v.get 0 (r % 32)
  let lo := 8 * size * elt
  let m : BitVec 256 := BitVec.ofNat 256 ((2 ^ (8 * size) - 1) * 2 ^ lo)
  { x with v := x.v.set 0 (r % 32) ((old &&& ~~~m) ||| (BitVec.ofNat 256 (v * 2 ^ lo) &&& m)) }

/-- Sign-extend the low `size` bytes of a value to 64 bits. -/
def signExt (size v : Nat) : Word :=
  let b := 8 * size
  if v / 2 ^ (b - 1) % 2 = 1 then w64 (v % 2 ^ b + (2 ^ 64 - 2 ^ b)) else w64 (v % 2 ^ b)

/-- Write a loaded value to its destination, extended to the register's width; a narrower floating-point value is boxed with ones. -/
def Hart.setDest (x : Hart) (d : Dest) (size : Nat) (signed : Bool) (v : Nat) : Hart :=
  match d with
  | .none => x
  | .x r => x.setX r (if signed then signExt size v else w64 (v % 2 ^ (8 * size)))
  | .f r => { x with f := x.f.set 0 (r % 32) (w64 (v % 2 ^ (8 * size) + (2 ^ 64 - 2 ^ (8 * size)))) }
  | .v r elt => x.setV r elt size v

/-- Empty the predictors of a core: BTB, direction and indirect predictors, global history and return stack (R64). -/
def State.flushPredictors (s : State) (c : Nat) : State :=
  s.modCore c (fun k => { k with btb := [], dirp := [], indp := [], ghist := 0, ras := [] })

/-- Flush the predictors of a hart's core while PRED_FLUSH_EFF = 1 (R61, R64). -/
def State.predFlush (s : State) (h : Nat) : State :=
  let c := s.physCore h
  if s.isF F.coreSpecCtrl_predFlushEff c 0 then s.flushPredictors c else s

/-- The 2-bit code of a privilege mode. -/
def Priv.code : Priv → Nat
  | .u => 0
  | .s => 1
  | .m => 3

/-- The mode of a 2-bit code. -/
def Priv.ofCode (n : Nat) : Priv := if n = 0 then .u else if n = 1 then .s else .m

/-- Where a trap goes: the vector base, and for an interrupt in vectored mode four bytes for each cause. -/
def trapVector (tvec : Word) (cause : Nat) (irq : Bool) : Word :=
  let base := w64 (tvec.toNat / 4 * 4)
  if irq ∧ tvec.toNat % 4 = 1 then base + w64 (4 * cause) else base

/-- Squash what a hart has in flight and end its wait. What bound instructions have left in the shadow buffer stays until it is installed (R69). -/
def Hart.squashAll (x : Hart) : Hart := { x with infl := [], wait := .run, fence := none, smc := [] }

/-- The exceptions that write a virtual address to tval. -/
def tvalIsAddress (cause : Nat) : Bool := [0, 1, 4, 5, 6, 7, 12, 13, 15, 19, 20, 21, 23].contains cause

/-- Take a trap to M, HS or VS mode: the saved registers, the status bits, the mode and the pc (the privileged architecture that R31 names;
R34 for tval, and 0 in the further registers that the trap gives no value), flushing the predictors when the mode or V changes (R64). (PRESUMED, assumption 21.) -/
def State.takeTrap (s : State) (h cause : Nat) (irq : Bool) (tval epc : Word) : State :=
  let x := s.hart h
  let c : Word := w64 (cause + (if irq then 2 ^ 63 else 0))
  let toS : Bool := x.priv != .m && bitsOf (s.csr h (if irq then 0x303 else 0x302)) cause 1 == 1
  let toVS : Bool := toS && x.virt && bitsOf (s.csr h (if irq then 0x603 else 0x602)) cause 1 == 1
  let pcode := x.priv.code
  let gva := (x.virt && !irq && tvalIsAddress cause).toNat
  let changes : Bool :=
    if toVS then x.priv != .s else if toS then x.priv != .s || x.virt else x.priv != .m || x.virt
  let s1 :=
    if toVS then
      let vc := if irq then cause - 1 else cause
      let st := s.csr h 0x200
      let st' := putBits (putBits (putBits st 5 1 (bitsOf st 1 1)) 1 1 0) 8 1 (if pcode = 0 then 0 else 1)
      ((((s.setCsr h 0x241 epc).setCsr h 0x242 (w64 (vc + (if irq then 2 ^ 63 else 0)))).setCsr h 0x243 tval).setCsr h 0x200 st').modHart h
        (fun y => { y with priv := .s, pc := trapVector (s.csr h 0x205) vc irq })
    else if toS then
      let st := s.csr h 0x300
      let st' := putBits (putBits (putBits st 5 1 (bitsOf st 1 1)) 1 1 0) 8 1 (if pcode = 0 then 0 else 1)
      let hs := s.csr h 0x600
      let hs' := putBits (putBits (if x.virt then putBits hs 8 1 (if pcode = 0 then 0 else 1) else hs) 7 1 x.virt.toNat) 6 1 gva
      (((((((s.setCsr h 0x141 epc).setCsr h 0x142 c).setCsr h 0x143 tval).setCsr h 0x643 0).setCsr h 0x64A 0).setCsr h 0x300 st').setCsr h 0x600 hs').modHart h
        (fun y => { y with priv := .s, virt := false, pc := trapVector (s.csr h 0x105) cause irq })
    else
      let st := s.csr h 0x300
      let st' := putBits (putBits (putBits (putBits (putBits st 7 1 (bitsOf st 3 1)) 3 1 0) 11 2 pcode) 39 1 x.virt.toNat) 38 1 gva
      ((((((s.setCsr h 0x341 epc).setCsr h 0x342 c).setCsr h 0x343 tval).setCsr h 0x34B 0).setCsr h 0x34A 0).setCsr h 0x300 st').modHart h
        (fun y => { y with priv := .m, virt := false, pc := trapVector (s.csr h 0x305) cause irq })
  let s2 := s1.modHart h Hart.squashAll
  if changes then s2.predFlush h else s2

/-- Raise an exception of the instruction at a pc. -/
def State.raise (s : State) (h cause : Nat) (tval pc : Word) : State := s.takeTrap h cause false tval pc

/-! The exception codes of the privileged architecture. -/
namespace Exc
def loadMisaligned : Nat := 4
def instrAccess : Nat := 1
def loadAccess : Nat := 5
def storeMisaligned : Nat := 6
def storeAccess : Nat := 7
def illegal : Nat := 2
def breakpoint : Nat := 3
def virtualInstr : Nat := 22
def hardwareError : Nat := 19
end Exc

/-! ### Tags and packets -/

/-- The first free tag of a stop at or after a number (R199); which free tag an interface takes is open, and this takes the lowest. -/
def freeTagFrom (reqs : Map (Option Req)) (stop : Nat) : Nat → Nat → Nat
  | 0, t => t
  | n + 1, t => if (reqs.look (stop * 4096 + t)).isSome then freeTagFrom reqs stop n (t + 1) else t

/-- A free tag at a stop. -/
def State.freeTag (s : State) (stop : Nat) : Nat := freeTagFrom s.reqs stop 4094 1

/-- An open request. -/
def State.req (s : State) (stop tag : Nat) : Option Req := s.reqs.get none (stop * 4096 + tag)
/-- Assumption 11 (DESIGN CHOICE). -/
def State.setReq (s : State) (stop tag : Nat) (r : Option Req) : State := { s with reqs := s.reqs.set none (stop * 4096 + tag) r }

/-- Queue a packet at its source's network interface. (DEDUCED, assumption 10.) -/
def State.send (s : State) (p : Packet) : State := { s with outq := s.outq ++ [p] }

/-- Open a request at a stop with a free tag and send its packet. -/
def State.request (s : State) (stop : Nat) (r : Req) : Nat × State :=
  let t := s.freeTag stop
  let p := { r.pkt with tag := BitVec.ofNat 12 t, src := BitVec.ofNat 8 stop }
  (t, (s.setReq stop t (some { r with pkt := p })).send p)

/-- A response from a stop to the sender of a packet, with its tag, WID and address (R199, R212, R219). (DESIGN CHOICE, assumption 139.) -/
def answer (p : Packet) (from_ : Nat) (op : BitVec 8) (attr : BitVec 16) : Packet :=
  { opcode := op, tag := p.tag, wid := p.wid, src := BitVec.ofNat 8 from_, dst := p.src, endpoint := p.endpoint, address := p.address,
    attr := attr }

/-- An ErrResp to the sender of a packet (R212, R213). -/
def errAnswer (p : Packet) (from_ code origin : Nat) : Packet := answer p from_ Opc.errResp (errAttr code origin)

/-- A network interface. -/
def State.ni (s : State) (st : Nat) : Ni := s.nis.get {} st
def State.setNi (s : State) (st : Nat) (v : Ni) : State := { s with nis := s.nis.set {} st v }
def State.modNi (s : State) (st : Nat) (f : Ni → Ni) : State := s.setNi st (f (s.ni st))

/-! ### The APLIC's sources and the interrupt files -/

/-- A source of the APLIC. -/
def State.aplicSrc (s : State) (i : Nat) : AplicSrc := s.aplic.get {} i
def State.setAplic (s : State) (i : Nat) (v : AplicSrc) : State := { s with aplic := s.aplic.set {} i v }

/-- The source mode in force: the child domain's when the source is delegated (bit 10 of sourcecfg). -/
def AplicSrc.sm (a : AplicSrc) : Nat := if a.cfg.getLsbD 10 then a.child.toNat % 8 else a.cfg.toNat % 8

/-- A source becomes pending (R48); a source that is inactive has no pending bit. -/
def State.raiseSrc (s : State) (i : Nat) : State :=
  if (s.aplicSrc i).sm = 0 then s else s.setAplic i { s.aplicSrc i with pend := true }

/-- Set an identity pending in an interrupt file of a hart; identity 0 does not exist (R34). File 0 is the machine level, 1 the supervisor level,
1 + g guest file g (R46). -/
def State.setIrq (s : State) (h file id : Nat) : State :=
  if id = 0 then s
  else s.modHart h (fun x =>
    let f := x.imsic.get {} file
    { x with imsic := x.imsic.set {} file { f with pend := f.pend ||| (1 <<< (id % 256)) } })

/-! ### The recorder of the Annals -/

/-- The CSRs of the profile of R31 that are not read-only by number, and pxbellcfg (R35). -/
def csrExists (n : Nat) : Bool :=
  [0x001, 0x002, 0x003, 0x008, 0x009, 0x00A, 0x00F,
   0x100, 0x104, 0x105, 0x106, 0x10A, 0x140, 0x141, 0x142, 0x143, 0x144, 0x14D, 0x150, 0x151, 0x15C, 0x180,
   0x200, 0x204, 0x205, 0x240, 0x241, 0x242, 0x243, 0x244, 0x24D, 0x250, 0x251, 0x25C, 0x280,
   0x600, 0x602, 0x603, 0x604, 0x605, 0x606, 0x607, 0x608, 0x609, 0x60A, 0x643, 0x644, 0x645, 0x646, 0x647, 0x64A, 0x680].contains n
    || [0x300, 0x301, 0x302, 0x303, 0x304, 0x305, 0x306, 0x308, 0x309, 0x30A, 0x320, 0x340, 0x341, 0x342, 0x343, 0x344, 0x34A, 0x34B,
        0x350, 0x351, 0x35C, 0x747, 0x7A0, 0x7A1, 0x7A2, 0x7A3, 0x7A4, 0x7C0, 0xB00, 0xB02].contains n
    || (decide (0x323 ≤ n) && decide (n ≤ 0x33F)) || (decide (0xB03 ≤ n) && decide (n ≤ 0xB1F))
    || (decide (0x3A0 ≤ n) && decide (n ≤ 0x3AF) && n % 2 == 0) || (decide (0x3B0 ≤ n) && decide (n ≤ 0x3EF))

/-- The CSRs of R31 that are read-only by number: the unprivileged counters and vector state, scountovf, the top interrupts and the identification. -/
def csrReadOnly (n : Nat) : Bool :=
  (decide (0xC00 ≤ n) && decide (n ≤ 0xC22)) || [0xDA0, 0xDB0, 0xE12, 0xEB0, 0xF11, 0xF12, 0xF13, 0xF14, 0xF15, 0xFB0].contains n

/-- Whether the registers of a unit can be reached (R28, R434, R461): its mesh column segment and its block's domain are powered; a core's range also from the save area of
its tile's slice while the core is RETAINED. A domain that is draining still serves; one that is waking does not yet. (DEDUCED, assumption 18.) -/
def State.reachable (s : State) (p : Place) (u : Nat) : Bool :=
  let up (d : Nat) : Bool := s.domain d == 2 || s.domain d == 4
  let seg := up (431 + stopX (p.stopOf u))
  match p with
  | .svc | .cur => true
  | .stop => seg
  | .tile => seg && up (272 + u)
  | .core => seg && (up u || s.domain u == 3 || (s.domain u == 1 && up (272 + u / 2)))
  | .mp => seg && up (408 + u)
  | .ax => seg && up (420 + u)
  | .hp | .hp0 => seg && up (426 + u)
  | .de => seg && up (428 + u)

/-- Whether a register's block can be reached (R28); the V/F registers and the Ledger's registers of a core lie in the slice's domain (R461, R474). (DEDUCED, assumption 49.) -/
def State.regReach (s : State) (r : RegName) (u : Nat) : Bool :=
  match r with
  | .mlgVf | .mlgCoreStatus | .mlgCoreLife => s.reachable .tile (u / 2)
  | _ => s.reachable r.place u

/-- The word of a snapshot entry: a register of a stop's window, or a CSR of the source hart (R499, R508). `none` when it cannot be read: no such register or CSR, or a block without power. -/
def State.snapEntry (s : State) (src : Source) (stop off : Nat) : Option Word :=
  if stop = 254 then
    let n := off % 4096
    if csrExists n || csrReadOnly n then src.hart.map (fun h => s.csr h n) else none
  else
    let st := if stop = 255 then src.stop else stop
    match locate st (8 * off) with
    | some (r, u, i) => if s.regReach r u then some (s.readReg r u i) else none
    | none => none

/-- Whether an entry is withheld because the source is a hart seated in a carrel (R499). -/
def State.snapRedacted (s : State) (src : Source) (stop off : Nat) : Bool :=
  match src.hart with
  | none => false
  | some h =>
    decide (3 ≤ s.seat h) && (stop == 254 ||
      (let st := if stop = 255 then src.stop else stop
       let c := s.physCore h
       st == coreStop c && decide (8 * off / 0x100000 = 2 + c % 2)))

/-- The snapshot of a set: its words in order, whether one could not be read, and whether one was withheld (R499). -/
def State.snapshot (s : State) (src : Source) (set : Nat) : List Word × Bool × Bool :=
  (List.range 24).foldl (fun acc e =>
    let i := 16 * set + e / 2
    let k := e % 2
    if s.isF (F.anlSnap_valid k) 0 i then
      let stop := s.getF (F.anlSnap_stop k) 0 i
      let off := s.getF (F.anlSnap_offset k) 0 i
      if s.snapRedacted src stop off then (acc.1 ++ [0], acc.2.1, true)
      else match s.snapEntry src stop off with
        | some w => (acc.1 ++ [w], acc.2)
        | none => (acc.1 ++ [0], true, acc.2.2)
    else acc) ([], false, false)

/-- The place of the record that a new record of a severity overwrites in a full store, or none (R500). The list is in SEQUENCE order. -/
def victimRec (l : List AnnRec) (sev : Nat) : Option Nat :=
  match l.findIdx? (·.committed) with
  | some i => some i
  | none =>
    match l.findIdx? (fun r => decide (r.sev < sev)) with
    | some i => some i
    | none => l.findIdx? (fun r => r.sev == sev)

/-- Place a record into a store of a given size under R500; none when it is dropped. -/
def placeRec (l : List AnnRec) (cap : Nat) (r : AnnRec) : Option (List AnnRec) :=
  if l.length < cap then some (l ++ [r])
  else (victimRec l r.sev).map (fun i => l.eraseIdx i ++ [r])

/-- Whether the Annals are frozen (R502). -/
def State.frozen (s : State) : Bool := !s.annals.freezers.isEmpty || s.annals.thaw

/-- Bring ANL_STATUS and ANL_NEXT_SEQ up to the recorder's stores (R506). -/
def State.annSync (s : State) : State :=
  let a := s.annals
  ((((s.setF F.anlStatus_used 0 0 a.staging.length).setF F.anlStatus_uncommitted 0 0 (a.staging.filter (fun r => !r.committed)).length).setF
    F.anlStatus_held 0 0 a.held.length).setF F.anlStatus_frozen 0 0 s.frozen.toNat).setF F.anlNextSeq_seq 0 0 a.nextSeq

/-- A record dropped (R500): DROPPED advances and the next record carries the count. -/
def State.annDrop (s : State) : State :=
  ({ s with annals := { s.annals with droppedSince := s.annals.droppedSince + 1,
                                      droppedFrozen := s.annals.droppedFrozen + (if s.frozen then 1 else 0) } }).incSat F.anlStatus_dropped 0 0

/-- Count a record for ANNALS_NOTIFY; at COUNT raise source 39 and restart the count (R505). -/
def State.annNotify (s : State) (sev : Nat) : State :=
  let a := s.annals
  if a.notifyCount = 0 ∨ sev < a.notifySev then s
  else if a.notifySeen + 1 < a.notifyCount then { s with annals := { a with notifySeen := a.notifySeen + 1 } }
  else ({ s with annals := { a with notifySeen := 0 } }).raiseSrc Src.annals

/-- Write a record: into the hold queue while frozen, else into the staging SRAM (R495, R500, R502). -/
def State.writeRec (s : State) (code sev : Nat) (src : Source) (d0 d1 : Word) (force : Bool) : State :=
  let a := s.annals
  let setNo := s.getF F.anlRate_snapSet 0 code
  let snapOn := s.isF F.anlRate_snapEn 0 code
  let sn := if snapOn then s.snapshot src setNo else ([], false, false)
  let r : AnnRec :=
    { seq := a.nextSeq, time := a.calendar, code := code, sev := sev, redacted := sn.2.2, partialSnap := sn.2.1,
      timeUnset := s.isF F.anlStatus_timeUnset 0 0, snapSet := if snapOn then setNo else 255, stop := src.stop, unit := src.unit,
      wid := src.wid, suppressed := s.getF F.anlRate_suppressed 0 code, dropped := a.droppedSince, detail0 := d0, detail1 := d1,
      boot := s.bootCount, snapshot := sn.1 }
  let hold : Bool := s.frozen && !force
  match placeRec (if hold then a.held else a.staging) (if hold then 32 else 1024) r with
  | none => s.annDrop.annSync
  | some l =>
    let a' := if hold then { a with held := l, nextSeq := a.nextSeq + 1, droppedSince := 0, heldTotal := a.heldTotal + 1 }
              else { a with staging := l, nextSeq := a.nextSeq + 1, droppedSince := 0 }
    ((({ s with annals := a' }).setF F.anlRate_suppressed 0 code 0).annNotify sev).annSync

/-- Whether a code's bucket lets a record pass (R498). -/
def State.bucketOpen (s : State) (code sev : Nat) (limited : Bool) : Bool :=
  if !limited || sev == 7 then true
  else
    let b := s.getF F.anlRate_burst 0 code
    if b = 0 then false
    else if s.getF F.anlRate_refillMs 0 code = 0 then true
    else decide (s.annals.spent.get 0 code < b)

/-- Record an event: its rate limit, then its record (R495 to R500). -/
def State.record (s : State) (code : Nat) (src : Source) (d0 d1 : Word) : State :=
  match evInfo code with
  | none => s
  | some (sev, lim) =>
    let limited := lim.isSome
    if s.bucketOpen code sev limited then
      let takes : Bool := limited && sev != 7 && s.getF F.anlRate_refillMs 0 code != 0
      let s1 := if takes then { s with annals := { s.annals with spent := s.annals.spent.set 0 code (s.annals.spent.get 0 code + 1) } } else s
      s1.writeRec code sev src d0 d1 false
    else s.incSat F.anlRate_suppressed 0 code

/-- Sources of events (R495). -/
def srcStop (st unit wid : Nat) : Source := { stop := st, unit := unit, wid := wid }
/-- The always-on island and the service complex as a source. -/
def srcSvc : Source := { stop := svcStop, unit := 7, wid := 255 }
def srcKeeper : Source := { stop := svcStop, unit := 5, wid := 0 }
/-- A hart as a source. -/
def State.srcHart (s : State) (h : Nat) : Source :=
  let c := s.physCore h
  { stop := coreStop c, unit := c % 2, wid := s.seat h, hart := some h }
/-- A slice as a source. -/
def srcSlice (t wid : Nat) : Source := { stop := tileStop t, unit := 2, wid := wid }

/-- One more error of an LLC way or a DQ pin within 24 h (R472): the window of a count begins with its first error. mtime runs at 100 MHz. -/
def State.countErr (s : State) (key : Nat) : State :=
  let m := s.ledger.errs
  if 0 < m.get 0 key ∧ s.mtime < m.get 0 (key + 65536) + 8640000000000 then { s with ledger := { s.ledger with errs := m.set 0 key (m.get 0 key + 1) } }
  else { s with ledger := { s.ledger with errs := (m.set 0 key 1).set 0 (key + 65536) s.mtime } }

/-- Measured margins are handed to the Margin Ledger, from a key on (R233, R280, R460). (DESIGN CHOICE, assumption 118.) -/
def State.noteEyes (s : State) (base : Nat) (l : List Nat) : State :=
  { s with ledger := { s.ledger with eyes := (List.range l.length).foldl (fun (m : Map Nat) i => m.set 0 (base + i) (l.getD i 0)) s.ledger.eyes } }

/-! ### Outcomes -/

/-- A command that has its effect. -/
abbrev ok (s : State) : Host.Outcome State Fault Refusal := .next s

end Sys2Proof.Machine
end

