-- ==== Sys2Proof/Machine/Ras.lean ====
section
/-! DEFINITION. The RAS error-record banks (R483, R488 to R490): how a detected error is recorded, and how it is signalled. The layout inside a bank is that
of the RAS error-record register interface that R488 names. -/
namespace Sys2Proof.Machine

/-- The severity of an error record (R483). -/
inductive Sev where
  | ce | ued | uec
  deriving DecidableEq, Repr

def Sev.rank : Sev → Nat
  | .ce => 0
  | .ued => 1
  | .uec => 2

/-- What a detected error leaves in its record (R489, R490). -/
structure ErrInfo where
  sev : Sev
  code : Nat
  /-- The physical address, when the error has one. -/
  addr : Option Nat := none
  wid : Nat := 0
  unit : Nat := 0
  syms : Nat := 0
  eras : Nat := 0
  errCode : Nat := 0
  origin : Nat := 0
  deriving DecidableEq, Repr

/-- Records in the bank of a place (R488). -/
def bankRecords : Place → Nat
  | .stop => 2
  | .mp => 8
  | .svc => 8
  | .de => 2
  | _ => 4

/-- The severity of a valid record. -/
def State.recSev (s : State) (p : Place) (u i : Nat) : Nat :=
  if s.isF (F.rasStatus_uec p) u i then 2 else if s.isF (F.rasStatus_ued p) u i then 1 else 0

/-- The record that takes a new error: the first that is not valid, otherwise the first whose severity does not exceed the new one's (R489). -/
def State.recSlot (s : State) (p : Place) (u : Nat) (sv : Sev) : Option Nat :=
  let on := (List.range (bankRecords p)).filter (fun i => s.isF (F.rasControl_else p) u i)
  match on.find? (fun i => !s.isF (F.rasStatus_v p) u i) with
  | some i => some i
  | none => on.find? (fun i => decide (s.recSev p u i ≤ sv.rank))

/-- Raise the RAS signal that a control field selects: 1 the low-priority signal, source 40; 2 the high-priority signal, source 41 (R489). -/
def State.rasSignal (s : State) (v : Nat) : State :=
  if v = 1 then s.raiseSrc Src.rasCorrected else if v = 2 then s.raiseSrc Src.rasDeferred else s

/-- Write a record of a bank. -/
def State.rasWrite (s : State) (p : Place) (u i seqLo : Nat) (e : ErrInfo) : State :=
  let was := s.isF (F.rasStatus_v p) u i
  let cec := s.getF (F.rasStatus_cec p) u i
  let ce := e.sev == .ce
  let n := if ce then (cec + 1) % 2 ^ 16 else cec
  let overflowed : Bool := ce && n == 0
  let st : Nat := 1 + (match e.sev with
      | .ce => 2
      | .ued => 4
      | .uec => 8) + (if was then 2 ^ 6 else 0) + 2 ^ 11 + (if e.addr.isSome then 2 ^ 12 else 0) + 2 ^ 16 + 2 ^ 17
      + (if overflowed then 2 ^ 20 else 0) + n * 2 ^ 48
  let s1 := (((((s.setRegWord (rasStatusAt p) u i (w64 st)).setRegWord (rasAddrAt p) u i (w64 (e.addr.getD 0))).setRegWord (rasInfoAt p) u i
    (w64 (e.code % 2 ^ 16 + e.wid % 64 * 2 ^ 16 + e.unit % 256 * 2 ^ 24 + seqLo % 2 ^ 32 * 2 ^ 32))).setRegWord (rasSupplAt p) u i
    (w64 (e.syms % 256 + e.eras % 256 * 2 ^ 8 + e.errCode % 256 * 2 ^ 16 + e.origin % 16 * 2 ^ 24))).setRegWord (rasTimeAt p) u i (w64 s.mtime))
  let s1a : State := if overflowed then { s1 with kpr := { s1.kpr with rearm := s1.kpr.rearm ++ [(rasStatusAt p, u, i)] } } else s1
  let s2 := s1a.setF (F.rasValid_valid p) u 0 (Nat.lor (s1a.getF (F.rasValid_valid p) u 0) (2 ^ i))
  match e.sev with
  | .ce => if s.isF (F.rasControl_cece p) u i then (if overflowed then s2.rasSignal (s.getF (F.rasControl_ces p) u i) else s2)
           else s2.rasSignal (s.getF (F.rasControl_ces p) u i)
  | .ued => s2.rasSignal (s.getF (F.rasControl_ueds p) u i)
  | .uec => s2.rasSignal (s.getF (F.rasControl_uecs p) u i)

/-- Record a detected error in the bank of the block that found it; an error that no record may take sets MO of the bank's first record (R484, R489). (PRESUMED, assumption 39.) -/
def State.rasError (s : State) (p : Place) (u seqLo : Nat) (e : ErrInfo) : State :=
  match s.recSlot p u e.sev with
  | some i => s.rasWrite p u i seqLo e
  | none => if s.isF (F.rasStatus_v p) u 0 then s.setF (F.rasStatus_mo p) u 0 1 else s

/-- Record an error in the Annals and in its bank; the bank's record names the SEQUENCE of the Annals record, 0 if that was suppressed (R484, R490). -/
def State.errorEvent (s : State) (p : Place) (u : Nat) (e : ErrInfo) (src : Source) (d0 d1 : Word) : State :=
  let s1 := s.record e.code src d0 d1
  let seq := if s1.annals.nextSeq = s.annals.nextSeq then 0 else s.annals.nextSeq
  s1.rasError p u seq { e with wid := src.wid % 64, unit := src.unit }

end Sys2Proof.Machine
end

