-- ==== Sys2Proof/Machine/Pmu.lean ====
section
/-! DEFINITION. The counters of the uncore blocks (R510, R515 to R517): what an occurrence of an event adds, and to which counters. -/
namespace Sys2Proof.Machine

/-- What an occurrence carries for the filters of R516: its world, the requesting stop, the physical address, the message class and the port. -/
structure PmuCtx where
  wid : Option Nat := none
  agent : Option Nat := none
  addr : Option Nat := none
  cls : Option Nat := none
  port : Option Nat := none
  deriving DecidableEq, Repr

/-- The counters of a block (R510). -/
def pmuCount : Place → Nat
  | .mp => 8
  | .ax => 8
  | _ => 4

/-- Whether an enabled filter passes. -/
def filterOk (on : Bool) (want : Nat) (v : Option Nat) : Bool := !on || v == some want

/-- Whether counter i of a block counts an occurrence (R515, R516, R322). -/
def State.pmuPasses (s : State) (p : Place) (u ev i : Nat) (x : PmuCtx) : Bool :=
  let ctl (f : Fld) : Nat := s.getF f u i
  ctl (F.pmuCtl_en p) == 1 && ctl (F.pmuCtl_event p) == ev
    && filterOk (ctl (F.pmuCtl_widEn p) == 1) (ctl (F.pmuCtl_wid p)) x.wid
    && filterOk (ctl (F.pmuCtl_agentEn p) == 1) (ctl (F.pmuCtl_agentStop p)) x.agent
    && filterOk (ctl (F.pmuCtl_portEn p) == 1) (ctl (F.pmuCtl_port p)) x.port
    && (ctl (F.pmuCtl_addrEn p) == 0 || (match x.addr with
      | some a => decide (s.getF (F.pmuAddrBase_base p) u 0 ≤ a / 65536) && decide (a / 65536 ≤ s.getF (F.pmuAddrLim_limit p) u 0)
      | none => false))
    && (match x.cls with
      | some c => ctl (F.pmuCtl_classMask p) / 2 ^ c % 2 == 1
      | none => true)
    && (match x.wid with
      | some w => decide (w < 3) || ctl (F.pmuCtl_programmer p) == 0 || (s.regWord .wldDebugNoninv 0 0).getLsbD w
      | none => true)

/-- Add to a counter; a wrap sets OVF (R510, R515). -/
def State.pmuAdd (s : State) (p : Place) (u i n : Nat) : State :=
  let v := s.getF (F.pmuCnt_count p) u i + n
  let s1 := s.setF (F.pmuCnt_count p) u i v
  if 2 ^ 48 ≤ v then s1.setF (F.pmuCtl_ovf p) u i 1 else s1

/-- An occurrence of an event at a block: every counter of the block that selects it and whose filters pass advances, unless the block is frozen (R515, R516). (DESIGN CHOICE, assumption 103.) -/
def State.pmu (s : State) (p : Place) (u ev n : Nat) (x : PmuCtx) : State :=
  if s.isF (F.pmuBlockCtrl_freeze p) u 0 then s
  else (List.range (pmuCount p)).foldl (fun s i => if s.pmuPasses p u ev i x then s.pmuAdd p u i n else s) s

end Sys2Proof.Machine
end

