-- ==== Sys2Proof/Machine/Mesh.lean ====
section
/-! DEFINITION. Packets in the mesh: routers and the route descriptor (R163 to R168), lanes and wheels (R183 to R190), dead neighbours (R181), and the arrival of a packet in
its order (R119, R173). -/
namespace Sys2Proof.Machine

/-- The bank that an interface uses (R171). -/
def State.bank (s : State) (st : Nat) : Bool := s.isF F.niRouteStatus_active st 0

/-- The stop through a link port of a stop. -/
def neighbour (st port : Nat) : Option Nat := (hop (stopX st) (stopY st) port).map (fun e => 10 * e.2 + e.1)

/-- The flits of a packet. -/
def Packet.flits (p : Packet) : Nat := if twoFlits p.opcode then 2 else 1

/-- The network of a packet: 0 control, 1 data (R201). -/
def netOf (p : Packet) : Nat := if p.cls = 4 then 1 else 0

/-! ### Lanes and wheels -/

/-- Whether a packet travels on the metered VC (R160, R187). -/
def State.isMetered (s : State) (p : Packet) : Bool := decide (3 ≤ p.widN) && p.cls != 3 && s.meterWids.getLsbD p.widN

/-- The lane that a port assigns to a world (R185), in the copies in force. -/
def Ni.lane (n : Ni) (port wid : Nat) : Option Nat := (List.range 4).find? (fun k => n.lanes.get 0 (port * 4 + k) == wid + 1)

/-- Whether a port's wheel on a network has a slot of an owner: 0 unreserved, k + 1 reserved for lane k (R183, R186). -/
def Ni.hasSlot (n : Ni) (net port owner : Nat) : Bool := (List.range 64).any (fun i => n.wheel.get 0 ((net * 6 + port) * 64 + i) == owner)

/-- The lane in which a packet waits at a port: none on the open VC (R188, R190). -/
def State.laneAt (s : State) (st port : Nat) (p : Packet) (onOpen : Bool) : Option Nat :=
  if p.metered && !onOpen then (s.ni st).lane port p.widN else none

/-- Whether a port ever sends a packet: metered traffic leaves only in its lane's slots, open traffic only in unreserved ones (R183). Which cycle that is, is timing. -/
def State.departs (s : State) (st port : Nat) (p : Packet) (onOpen : Bool) : Bool :=
  match s.laneAt st port p onOpen with
  | some k => (s.ni st).hasSlot (netOf p) port (k + 1)
  | none => (s.ni st).hasSlot (netOf p) port 0

/-- A packet reaches a port: where its world holds no lane, its flits are meter gaps and it goes on on the open VC (R190). -/
def State.reach (s : State) (f : Flight) (port : Nat) : Flight × State :=
  let p := f.pkt
  if p.metered && !f.onOpen && ((s.ni f.at_).lane port p.widN).isNone then
    ({ f with onOpen := true },
     (s.modNi f.at_ (fun n => { n with meterGaps := n.meterGaps + p.flits })).pmu .stop f.at_ 0x204 p.flits { wid := some p.widN, port := some port })
  else (f, s)

/-- Flits depart through a port (R517). -/
def State.leavePort (s : State) (st port : Nat) (p : Packet) : State :=
  s.pmu .stop st 0x201 p.flits { wid := some p.widN, cls := some p.cls, port := some port }

/-! ### Routers -/

/-- The port that a packet leaves its router through: a link, or 4 for ejection (R167). -/
def Flight.port (f : Flight) : Nat :=
  match routeStep f.pkt.route with
  | none => 4
  | some (d, _) => d

/-- Whether a router absorbs instead of sending through a port: the neighbour is dead for ejection and the packet would end there (R181). -/
def State.deadAhead (s : State) (st port : Nat) (r : BitVec 40) : Bool :=
  s.getF F.rtDeadCtrl_dead st 0 / 2 ^ port % 2 == 1 && legSteps (legOf r 0) == 0 && legLast (legOf r 0)

/-- One hop of a packet, its descriptor rewritten (R167); none where the packet is ejected or absorbed here, or has no slot. -/
def State.hopOnce (s : State) (f : Flight) : Option (Flight × State) :=
  match routeStep f.pkt.route with
  | none => none
  | some (d, r) =>
    if !s.departs f.at_ d f.pkt f.onOpen || s.deadAhead f.at_ d r then none
    else (neighbour f.at_ d).map (fun st =>
      let f1 : Flight := { f with pkt := { f.pkt with route := r }, at_ := st }
      (s.leavePort f.at_ d f.pkt).reach f1 f1.port)

/-- The hops that a packet can take: at most five legs of 31. -/
def State.forward (s : State) (f : Flight) : Nat → Flight × State
  | 0 => (f, s)
  | n + 1 =>
    match s.hopOnce f with
    | none => (f, s)
    | some r => State.forward r.2 r.1 n

/-- Whether a packet is in the ejection path of its destination. -/
def Flight.ejecting (f : Flight) : Bool := f.at_ == f.pkt.dstN && f.port == 4

/-- Every packet in the mesh goes as far as it can: a microsecond is longer than any route. -/
def State.meshTick (s : State) : State :=
  (List.range s.net.length).foldl (fun s i => match s.net[i]? with
    | some f =>
      let r := s.forward f 160
      { r.2 with net := r.2.net.set i r.1 }
    | none => s) s

/-! ### Arrival -/

/-- Whether two packets are one, whatever of the descriptor has been consumed. -/
def samePacket (p q : Packet) : Bool := { p with route := 0 } == { q with route := 0 }

/-- Packets of one source, destination, class and VC keep their order (R173). -/
def sameStream (p q : Packet) : Bool := p.src == q.src && p.dst == q.dst && p.cls == q.cls && p.metered == q.metered

/-- Whether a stop answers what is ejected to it as an absorber does (R180). -/
def State.selfDead (s : State) (st : Nat) : Bool := s.isF F.rtDeadCtrl_selfDead st 0

/-- The state with a packet ejected at its destination; none where it cannot be: an earlier packet of its stream is on the way (R173), a dead neighbour absorbs it or
the stop is dead itself (R181), or a port has no slot for it (R183). A packet that the mesh does not hold comes from outside the model. -/
def State.eject (s : State) (p : Packet) : Option State :=
  if s.selfDead p.dstN then none
  else match s.net.findIdx? (fun f => samePacket f.pkt p) with
    | none => some s
    | some i =>
      if (s.net.take i).any (fun f => sameStream f.pkt p) then none
      else (s.net[i]?).bind (fun f =>
        let r := s.forward f 160
        if r.1.ejecting && (f.pkt.src == f.pkt.dst || r.2.departs r.1.at_ 4 r.1.pkt r.1.onOpen) then
          some { (if f.pkt.src == f.pkt.dst then r.2 else r.2.leavePort r.1.at_ 4 r.1.pkt) with net := r.2.net.eraseIdx i }
        else none)

/-- What a packet's arrival does, where it can arrive now. -/
def State.receive (s : State) (p : Packet) (f : State → State) : State :=
  match s.eject p with
  | some s1 => f s1
  | none => s

/-- A MemWrite arrives with the data packets that it carries (R209, R210). -/
def State.receiveWrite (s : State) (p q0 q1 : Packet) (f : State → State) : State :=
  s.receive p (fun s => if p.s0 && p.s1 then s.receive q0 (fun s => s.receive q1 f) else s.receive q0 f)

end Sys2Proof.Machine
end

