-- ==== Sys2Proof/Machine/Worlds.lean ====
section
/-! DEFINITION. Deeds (R300 to R304), key slots (R314) and sealed memory (R248, R265, R268, R309). -/
namespace Sys2Proof.Machine

/-! ### Deeds -/

/-- The fields of a deed (R300). -/
def dOwner (d : Word) : Nat := bitsOf d 0 6
def dState (d : Word) : Nat := bitsOf d 6 3
def dSlot (d : Word) : Nat := bitsOf d 10 8
def dSharer (d : Word) : Nat := bitsOf d 18 6
def dScrub (d : Word) : Nat := bitsOf d 24 6

/-- A deed from its fields (R300). -/
def mkDeed (owner state slot sharer scrub : Nat) : Word :=
  w64 (owner % 64 + state % 8 * 2 ^ 6 + slot % 256 * 2 ^ 10 + sharer % 64 * 2 ^ 18 + scrub % 64 * 2 ^ 24)

/-- ASSIGNED to WID 2 with key slot 2 and SCRUB_EPOCH 0: the deed before READY, and what initialisation writes (R302, R311). -/
def defaultDeed : Word := mkDeed 2 1 2 0 0

/-- The lowest-numbered valid region that contains a page (R302, R310). (DEDUCED, assumption 28.) -/
def State.regionOf (s : State) (page : Nat) : Option Nat :=
  (List.range 32).find? (fun n =>
    s.isF F.wldRegion_valid 0 n && decide (s.getF F.wldRegion_base 0 n ≤ page / 16) && decide (page / 16 ≤ s.getF F.wldRegionLim_limit 0 n))

/-- Whether the deed table holds the deed of a page (R301). -/
def State.hasDeed (s : State) (page : Nat) : Bool :=
  let seg := page / 2 ^ 36
  if seg = 0 then true
  else decide (seg ≤ 13) && s.isF F.wldDepoDeed_valid 0 seg && decide (page % 2 ^ 36 < s.getF F.wldDepoDeed_span 0 seg * 65536)

/-- A deed of the table. -/
def State.tableDeed (s : State) (page : Nat) : Word := s.deeds.get defaultDeed page

/-- The deed caches of a home slice, a memory port and an annex gate (R308). -/
def dcSlice (t : Nat) : Nat := t
def dcPort (k : Nat) : Nat := 256 + k
def dcGate (k : Nat) : Nat := 512 + k

/-- Drop entries from every deed cache: the deed unit's invalidation (R306), a change of the regions' overlay, a cache whose domain lost it (R434). -/
def State.deedForget (s : State) (p : Nat → Nat → Bool) : State :=
  { s with deedCaches := s.deedCaches.filterMap (fun e =>
      let l := e.2.filter (fun r => !p e.1 r)
      if l.isEmpty then none else some (e.1, l)) }

/-- Write a deed: the deed unit removes the entry that holds it from every deed cache (R306). -/
def State.setDeed (s : State) (page : Nat) (d : Word) : State := { s.deedForget (fun _ r => r == page / 16) with deeds := s.deeds.set defaultDeed page d }

/-- The effective deed of a page (R302); none where it has none (R301) or where its table granule is damaged (R484). A page of a DEED_TABLE region has a
deed that admits no world and key slot 0 (R310). (DESIGN CHOICE, assumption 112.) -/
def State.effDeed (s : State) (page : Nat) : Option Word :=
  match s.regionOf page with
  | some n =>
    if s.getF F.wldRegion_kind 0 n = 0 then some (mkDeed (s.getF F.wldRegion_wid 0 n) 1 (s.getF F.wldRegion_keySlot 0 n) 0 0) else some 0
  | none =>
    if s.isF F.wldDeedTable_ready 0 0 then
      if s.hasDeed page && !s.deedBad.contains page then some (s.tableDeed page) else none
    else some defaultDeed

/-- A deed cache is asked for a page: a miss reads the granule of 16 deeds from the memory port that holds it and takes an entry, one of 8 Ki; the spec does not say which entry a full cache gives up,
nor when the read is performed in relation to the request that waits for it: here at once. -/
def State.deedNote (s : State) (key page : Nat) : State :=
  let ranges := s.deedCaches.get [] key
  if !s.isF F.wldDeedTable_ready 0 0 || !s.hasDeed page || ranges.contains (page / 16) then s
  else
    let base := if page / 2 ^ 36 = 0 then s.getF F.wldDeedTable_base 0 0 else s.getF F.wldDepoDeed_base 0 (page / 2 ^ 36)
    let at_ := base * 65536 + page % 2 ^ 36 / 16 * 128
    let s1 := s.pmu .mp (interleave (at_ / 128 % 2 ^ 33)).1 0x301 1 { wid := some 0, addr := some at_ }
    if ranges.length < 8192 then { s1 with deedCaches := s1.deedCaches.set [] key (ranges ++ [page / 16]) }
    else { s1 with deedCaches := s1.deedCaches.set [] key (ranges.eraseIdx (Config.freeChoice s1.fresh % 8192) ++ [page / 16]), fresh := s1.fresh + 1 }

/-- The rights of R303: whether a deed admits a read or a write by a world. -/
def deedAllows (d : Word) (wid : Nat) (write : Bool) : Bool :=
  let asOwner : Bool := wid == dOwner d || (wid == 0 && (dOwner d == 1 || dOwner d == 2))
  match dState d with
  | 1 => asOwner
  | 2 => asOwner || (!write && wid == dSharer d)
  | 3 => asOwner || wid == dSharer d
  | _ => false

/-- The check of R303 for a sector. -/
def State.deedOk (s : State) (sec wid : Nat) (write : Bool) : Bool :=
  match s.effDeed (sec / 64) with
  | some d => deedAllows d wid write
  | none => false

/-! ### Keys -/

/-- The serial number of the key in a slot: cold reset generates slots 0, 1 and 2 (R314). -/
def State.keyGen (s : State) (slot : Nat) : Nat := s.keyGens.get (if slot ≤ 2 then slot else 0) slot
def State.setKeyGen (s : State) (slot g : Nat) : State := { s with keyGens := s.keyGens.set (if slot ≤ 2 then slot else 0) slot g }

/-- The deed of a page for a memory target: its key slot must be VALID (R304). -/
def State.sealDeed (s : State) (page : Nat) : Option Word :=
  match s.effDeed page with
  | some d => if s.isF F.wldKeySlot_valid 0 (dSlot d) then some d else none
  | none => none

/-! ### Stored granules -/

/-- The canonical form of memory: granule numbers strictly rising, no blank granule listed. -/
def Memory.wf (m : Map Granule) : Bool := m.wf (fun _ => {})

/-- A stored granule; an unlisted one is blank (R280 step 9, R309). (DESIGN CHOICE, assumption 7.) -/
def State.granule (s : State) (g : Nat) : Granule := s.mem.get {} g
/-- The state with a granule stored; storing a blank granule removes its entry. -/
def State.setGranule (s : State) (g : Nat) (v : Granule) : State := { s with mem := s.mem.set {} g v }

/-- Whether a granule is blank (R309). -/
def Granule.blank (g : Granule) : Bool := g.keyEpoch == 0

/-- What a sector decrypts to under the key now in a slot: its plaintext under the key that sealed it, and under any other key what deciphering its ciphertext gives. (DESIGN CHOICE, assumption 9.) -/
def State.unseal (s : State) (g : Granule) (slot sec : Nat) (d : Sector) : Sector :=
  if g.gen = s.keyGen slot then d else openSector (Config.keyBits (s.keyGen slot)) sec (sealSector (Config.keyBits g.gen) sec d)

/-- A granule sealed under a deed's slot with the echo and epochs of the deed (R265, R268). -/
def State.sealed (s : State) (d : Word) (d0 d1 : Sector) (p0 p1 : Bool) : Granule :=
  { slot := dSlot d, gen := s.keyGen (dSlot d), d0 := d0, d1 := d1, p0 := p0, p1 := p1, echoWid := dOwner d, echoSlot := dSlot d,
    keyEpoch := s.getF F.wldKeySlot_epoch 0 (dSlot d), scrubEpoch := dScrub d }

/-- Whether a granule's owner echo and epochs agree with a deed; blank granules are not compared (R269, R309). -/
def State.echoOk (s : State) (g : Granule) (d : Word) : Bool :=
  g.blank || (g.echoWid == dOwner d && g.echoSlot == dSlot d && g.keyEpoch == s.getF F.wldKeySlot_epoch 0 (dSlot d)
    && g.scrubEpoch == dScrub d)

/-- The plaintext of a granule under a deed: zero when blank, otherwise decrypted sector by sector (R268, R309). -/
def State.openGranule (s : State) (gran : Nat) (g : Granule) (d : Word) : Sector × Sector :=
  if g.blank then (g.d0, g.d1) else (s.unseal g (dSlot d) (2 * gran) g.d0, s.unseal g (dSlot d) (2 * gran + 1) g.d1)

/-! ### Address checks -/

/-- Whether a local or depository sector exists: below LOCAL_TOP, or in a segment whose map entry at a stop is valid (R23, R25). -/
def State.memAddressOk (s : State) (st sec : Nat) : Bool :=
  match region (sec * 64) with
  | .local => decide (sec * 64 < s.localTop)
  | .depo n => s.isF F.niDepoMap_valid st n
  | _ => false

/-- The stop of the memory target of a granule, and the endpoint there (R24, R25, R197). -/
def State.memTarget (s : State) (st gran : Nat) : Nat × Nat :=
  match region (gran * 128) with
  | .depo n => (s.getF F.niDepoMap_portStop st n, s.getF F.niDepoMap_endpoint st n)
  | _ => (mpStops.getD (interleave (gran % 2 ^ 33)).1 0, 0)

/-- Whether a granule is in the depository tier (R22). -/
def isDepo (gran : Nat) : Bool :=
  match region (gran * 128) with
  | .depo _ => true
  | _ => false

/-- The region policy of an address: the lowest-numbered valid CORE_MEMATTR region, else WB; the staging range is WB in Reduced service (R87, R89). -/
def State.policy (s : State) (pa : Nat) : Nat :=
  if s.mode = 3 ∧ pa < stagingTop then 0
  else
    match (List.range 16).find? (fun n =>
        s.isF F.coreMemattr_valid 0 n && decide (s.getF F.coreMemattr_base 0 n ≤ pa / 65536)
          && decide (pa / 65536 ≤ s.getF F.coreMemattrLim_limit 0 n)) with
    | some n => s.getF F.coreMemattr_policy 0 n
    | none => 0

/-- The effective type of an access (R87). -/
def State.effType (s : State) (pa : Nat) (pt : PageType) : EType :=
  if pa / 2 ^ 48 = 0xE ∨ pa / 2 ^ 48 = 0xF then .io
  else match pt with
    | .io => .io
    | .nc => .uc
    | .pma => match s.policy pa with
      | 0 => .wb
      | 1 => .wt
      | 2 => .wa
      | _ => .uc

/-- The ETYPE code of an effective type (R207). -/
def EType.code : EType → Nat
  | .wb => 0
  | .wt => 1
  | .wa => 2
  | .uc => 3
  | .io => 3

end Sys2Proof.Machine
end

