-- ==== Sys2Proof/Machine/Home.lean ====
section
/-! DEFINITION. The home slices: directory (R111 to R114), LLC (R80 to R86, R102), home queue and roster (R119, R155 to R157), eviction buffer (R140, R143),
memory messages (R139, R210) and the transitions of R126 to R131. -/
namespace Sys2Proof.Machine

/-! ### Placement -/

/-- The home slice in force for a granule: the staging slice in Reduced service, the hash otherwise (R103, R109). -/
def State.homeTile (s : State) (gran : Nat) : Nat :=
  if s.mode = 3 ∧ gran * 128 < stagingTop then 60 + gran % 16 else homeSlice gran

/-- The home stop of a sector (R197). -/
def State.homeStop (s : State) (sec : Nat) : Nat := tileStop (s.homeTile (sec / 2))

def State.slice (s : State) (t : Nat) : Slice := s.slices.get {} t
def State.setSlice (s : State) (t : Nat) (v : Slice) : State := { s with slices := s.slices.set {} t v }
def State.modSlice (s : State) (t : Nat) (f : Slice → Slice) : State := s.setSlice t (f (s.slice t))

/-! ### Classes and ways -/

/-- Whether the shelf registers have effect: not in Reduced service (R104 step 5). -/
def State.shelved (s : State) : Bool := s.mode != 3

/-- The shelf class of a WID (R98); without shelves every world is in class 0. -/
def State.classOf (s : State) (wid : Nat) : Nat := if s.shelved then s.getF (F.llcWidClass_class (wid % 16)) 0 (wid / 16) else 0

/-- The LLC ways in which a class may allocate in a tile: its mask less ways being flushed and ways retired (R97, R101, R474). In Reduced service the pinned lines
of the staging shelf are all of its slices' lines, and none is evicted (R103). -/
def State.llcWays (s : State) (t c : Nat) : List Nat :=
  if s.shelved then
    (List.range 12).filter (fun w =>
      s.getF F.llcShelf_llcWays 0 c / 2 ^ w % 2 == 1 && !s.flushWays.getLsbD w && s.getF F.mlgWayRetire_ways t 0 / 2 ^ w % 2 == 0)
  else if 60 ≤ t ∧ t < 76 then []
  else (List.range 12).filter (fun w => s.getF F.mlgWayRetire_ways t 0 / 2 ^ w % 2 == 0)

/-- The directory ways of a class (R97, R101). -/
def State.dirWays (s : State) (c : Nat) : List Nat :=
  if s.shelved then (List.range 16).filter (fun w => s.getF F.llcShelf_dirWays 0 c / 2 ^ w % 2 == 1 && !s.flushDirWays.getLsbD w)
  else List.range 16

/-! ### The directory -/

/-- The key of way 0 of a sector's directory set. -/
def dirKey (t sec : Nat) : Nat := (t * 2048 + dirSet sec) * 16

/-- The entry of a sector and its key. -/
def State.dirFind (s : State) (t sec : Nat) : Option (Nat × DirEnt) :=
  (List.range 16).findSome? (fun w =>
    match s.dir.get none (dirKey t sec + w) with
    | some e => if e.sec = sec then some (dirKey t sec + w, e) else none
    | none => none)

def State.setDir (s : State) (k : Nat) (e : Option DirEnt) : State := { s with dir := s.dir.set none k e }

/-- The caching agents of a port that are enabled, of class 1 and admitted (R113). -/
def State.annexCachers (s : State) (k : Nat) : List Nat :=
  ((List.range 16).filter (fun j =>
    s.getF F.axgAgentCfg_class k j == 1 && s.isF F.axgAgentCfg_enable k j && (s.gates.get {} k).admitted.getLsbD j)).map
      (fun j => 272 + 16 * k + j)

/-- The agents that an entry says may hold S (R112, R113). -/
def State.sharers (s : State) (e : DirEnt) : List Nat :=
  if e.fmt then
    ((List.range 34).filter (fun i => e.groups.getLsbD i)).flatMap (fun i => (List.range 8).map (fun j => 8 * i + j))
      ++ ((List.range 6).filter (fun k => e.annex.getLsbD k)).flatMap s.annexCachers
  else e.ptrs

/-- Mark an agent in the coarse format. -/
def DirEnt.mark (e : DirEnt) (a : Nat) : DirEnt :=
  if a < 272 then { e with groups := e.groups ||| (1 <<< (a / 8)) } else { e with annex := e.annex ||| (1 <<< ((a - 272) / 16)) }

/-- Record an S holder: a third one turns the entry to the coarse format (R113). -/
def DirEnt.addS (e : DirEnt) (a : Nat) : DirEnt :=
  if e.fmt then e.mark a
  else if e.ptrs.contains a then e
  else if e.ptrs.length < 2 then { e with ptrs := e.ptrs ++ [a] }
  else (a :: e.ptrs).foldl DirEnt.mark { e with fmt := true, ptrs := [], groups := 0, annex := 0 }

/-- Remove an S holder; the coarse format clears no bit (R113). -/
def DirEnt.dropS (e : DirEnt) (a : Nat) : DirEnt := if e.fmt then e else { e with ptrs := e.ptrs.erase a }

/-- Whether an entry names any S holder. -/
def DirEnt.anyS (e : DirEnt) : Bool := if e.fmt then e.groups != 0 || e.annex != 0 else !e.ptrs.isEmpty

/-- Remove the owner: the sharers that remain make it DS (R128). -/
def DirEnt.dropOwner (e : DirEnt) : DirEnt := { e with st := .ds, owner := 0 }

/-- Whether an entry holds nobody: DI (R111). -/
def DirEnt.empty (e : DirEnt) : Bool := e.st == .ds && !e.anyS

/-- Whether an agent is listed. -/
def State.listed (s : State) (e : DirEnt) (a : Nat) : Bool :=
  (e.st != .ds && e.owner == a) || (if e.fmt then (s.sharers e).contains a else e.ptrs.contains a)

/-- An entry whose one holder is its owner, in pointer format (R113). -/
def dxEntry (sec a : Nat) (busy : Bool) : DirEnt := { sec := sec, st := .dx, busy := busy, owner := a }

/-! ### The LLC and the eviction buffer -/

/-- The sector fields of a line by index. -/
def LlcLine.valid (l : LlcLine) (i : Nat) : Bool := if i = 0 then l.v0 else l.v1
def LlcLine.dirty (l : LlcLine) (i : Nat) : Bool := if i = 0 then l.k0 else l.k1
def LlcLine.data (l : LlcLine) (i : Nat) : Sector := if i = 0 then l.d0 else l.d1
def LlcLine.poison (l : LlcLine) (i : Nat) : Bool := if i = 0 then l.p0 else l.p1
/-- A sector of a line replaced: valid, dirty, data, poison. -/
def LlcLine.put (l : LlcLine) (i : Nat) (v k : Bool) (d : Sector) (p : Bool) : LlcLine :=
  if i = 0 then { l with v0 := v, k0 := k, d0 := d, p0 := p } else { l with v1 := v, k1 := k, d1 := d, p1 := p }

def EvEnt.valid (l : EvEnt) (i : Nat) : Bool := if i = 0 then l.v0 else l.v1
def EvEnt.dirty (l : EvEnt) (i : Nat) : Bool := if i = 0 then l.k0 else l.k1
def EvEnt.data (l : EvEnt) (i : Nat) : Sector := if i = 0 then l.d0 else l.d1
def EvEnt.poison (l : EvEnt) (i : Nat) : Bool := if i = 0 then l.p0 else l.p1
def EvEnt.put (l : EvEnt) (i : Nat) (v k : Bool) (d : Sector) (p : Bool) : EvEnt :=
  if i = 0 then { l with v0 := v, k0 := k, d0 := d, p0 := p } else { l with v1 := v, k1 := k, d1 := d, p1 := p }

/-- The key of way 0 of a granule's LLC set. -/
def llcKey (t gran : Nat) : Nat := (t * 1024 + llcSet gran) * 12

/-- Whether a way has been retired and its flush is done: it takes no lookup (R474). -/
def State.wayOut (s : State) (t w : Nat) : Bool := s.getF F.mlgWayRetire_ways t 0 / 2 ^ w % 2 == 1 && !(s.slice t).retiring.getLsbD w

/-- The line of a granule: its key, way and contents. In Reduced service a granule of the staging range is pinned in the line of R103. -/
def State.llcFind (s : State) (t gran : Nat) : Option (Nat × Nat × LlcLine) :=
  if s.mode = 3 ∧ gran * 128 < stagingTop then
    let pl := stagingPlace gran
    let k := (t * 1024 + pl.2.1) * 12 + pl.2.2
    match s.llc.get none k with
    | some l => some (k, pl.2.2, l)
    | none => some (k, pl.2.2, { gran := gran, v0 := true, v1 := true, pinned := true })
  else
    (List.range 12).findSome? (fun w =>
      match s.llc.get none (llcKey t gran + w) with
      | some l => if l.gran = gran ∧ s.wayOut t w = false then some (llcKey t gran + w, w, l) else none
      | none => none)

def State.setLlc (s : State) (k : Nat) (l : Option LlcLine) : State := { s with llc := s.llc.set none k l }

/-- The eviction-buffer entry of a granule: the newest, where an older one is still being written (R140, R143). -/
def State.evFind (s : State) (t gran : Nat) : Option EvEnt := (s.slice t).evb.reverse.find? (fun e => e.gran == gran)

/-- Change the last element of a list that a predicate picks. -/
def modLast {α : Type} (p : α → Bool) (f : α → α) (l : List α) : List α :=
  match l.reverse.findIdx? p with
  | some i => (l.reverse.modify i f).reverse
  | none => l

/-- Replace the newest eviction-buffer entry of a granule. -/
def State.evSet (s : State) (t gran : Nat) (e : EvEnt) : State :=
  s.modSlice t (fun c => { c with evb := modLast (fun x => x.gran == gran) (fun _ => e) c.evb })

/-- Whether the MemWrite of the newest eviction-buffer entry of a granule has been sent (R143). -/
def State.evSent (s : State) (t gran : Nat) : Bool :=
  match (s.slice t).mem.reverse.find? (fun m => m.evict && m.gran == gran) with
  | some m => m.sent
  | none => false

/-- Take the newest entry of a granule out, with its MemWrite: nothing dirty is left in it. -/
def State.evFree (s : State) (t gran : Nat) : State :=
  s.modSlice t (fun c => { c with evb := (c.evb.reverse.eraseP (fun x => x.gran == gran)).reverse,
                                  mem := (c.mem.reverse.eraseP (fun m => m.evict && m.gran == gran)).reverse })

/-- A sector leaves the eviction buffer: its entry's MemWrite carries only what is still dirty, and none is sent for an entry with nothing dirty (R143). -/
def State.evDrop (s : State) (t sec : Nat) : State :=
  match s.evFind t (sec / 2) with
  | some e =>
    if !e.valid (sec % 2) then s
    else
      let e1 : EvEnt := { e.put (sec % 2) false false 0 false with part := true }
      if !s.evSent t (sec / 2) && !e1.k0 && !e1.k1 then s.evFree t (sec / 2) else s.evSet t (sec / 2) e1
  | none => s

/-- Eviction-buffer entries in use: filled, or reserved for a fill (R140). -/
def Slice.evUsed (c : Slice) : Nat := c.evb.length + (c.mem.filter (fun m => m.resv)).length

/-- The data an eviction-buffer entry holds for a sector: data, poison, dirty. -/
def State.evData (s : State) (t sec : Nat) : Option (Sector × Bool × Bool) :=
  match s.evFind t (sec / 2) with
  | some e => if e.valid (sec % 2) then some (e.data (sec % 2), e.poison (sec % 2), e.dirty (sec % 2)) else none
  | none => none

/-- Whether the LLC holds a sector valid. -/
def State.llcHas (s : State) (t sec : Nat) : Bool :=
  match s.llcFind t (sec / 2) with
  | some (_, _, l) => l.valid (sec % 2)
  | none => false

/-- The data a home holds for a sector, from the LLC or else the eviction buffer: data, poison, dirty (R127, R143). -/
def State.homeData (s : State) (t sec : Nat) : Option (Sector × Bool × Bool) :=
  match s.llcFind t (sec / 2) with
  | some (_, _, l) => if l.valid (sec % 2) then some (l.data (sec % 2), l.poison (sec % 2), l.dirty (sec % 2)) else s.evData t sec
  | none => s.evData t sec

/-- Replace a sector that the home holds, in the LLC or else the eviction buffer; unchanged where it holds none. -/
def State.homePut (s : State) (t sec : Nat) (k : Bool) (d : Sector) (p : Bool) : State :=
  let ev : State := match s.evFind t (sec / 2) with
    | some e => if e.valid (sec % 2) then s.evSet t (sec / 2) (e.put (sec % 2) true k d p) else s
    | none => s
  match s.llcFind t (sec / 2) with
  | some (key, _, l) => if l.valid (sec % 2) then s.setLlc key (some (l.put (sec % 2) true k d p)) else ev
  | none => ev

/-- The home gives up what it holds of a sector, LLC and eviction buffer alike (R126, R129, R143). A pinned staging line stays, as the memory of Reduced service (R103). -/
def State.homeDrop (s : State) (t sec : Nat) : State :=
  let s1 := match s.llcFind t (sec / 2) with
    | some (key, _, l) =>
      if l.pinned then s.setLlc key (some (l.put (sec % 2) true false (l.data (sec % 2)) (l.poison (sec % 2))))
      else
        let l1 := l.put (sec % 2) false false 0 false
        s.setLlc key (if l1.v0 || l1.v1 then some l1 else none)
    | none => s
  s1.evDrop t sec

/-- A hit sets the way's re-reference value to 0 when the requester's mask includes the way (R82). -/
def State.llcTouch (s : State) (t sec cls : Nat) : State :=
  match s.llcFind t (sec / 2) with
  | some (k, w, l) => if l.valid (sec % 2) && (s.llcWays t cls).contains w && !l.pinned then s.setLlc k (some { l with rrpv := 0 }) else s
  | none => s

/-- Raise every re-reference value of a set's ways by one. -/
def State.llcAge (s : State) (base : Nat) (ways : List Nat) : State :=
  ways.foldl (fun s w => match s.llc.get none (base + w) with
    | some l => s.setLlc (base + w) (some { l with rrpv := min 3 (l.rrpv + 1) })
    | none => s) s

/-- The victim way among a mask's ways, all valid: the lowest whose value is 3, aging until there is one (R82). (DESIGN CHOICE, assumption 27.) -/
def State.llcVictim (s : State) (base : Nat) (ways : List Nat) : Nat → Option (Nat × State)
  | 0 => none
  | n + 1 =>
    match ways.find? (fun w => match s.llc.get none (base + w) with
      | some l => l.rrpv == 3
      | none => false) with
    | some w => some (w, s)
    | none => (s.llcAge base ways).llcVictim base ways n

/-! ### Memory messages -/

/-- The data packets of a MemWrite, sector 0 first (R209). -/
def memDataPackets (m : MemMsg) (hd : Packet) : List Packet :=
  let one (d : Sector) (k : BitVec 64) (p : Bool) : Packet :=
    if k = fullMask then { hd with opcode := Opc.writeData, payload := d, poison := p, attr := 0 }
    else { hd with opcode := Opc.writeDataMasked, payload := k.setWidth 512, payload2 := d, poison2 := p, attr := 0 }
  (if m.s0 then [one m.d0 m.m0 m.p0] else []) ++ (if m.s1 then [one m.d1 m.m1 m.p1] else [])

/-- A memory message as it is sent: an eviction takes its entry's sectors, both of a line with both valid, or what is still dirty of an entry that a sector has
left (R86, R143); a read whose fill allocates reserves an eviction-buffer entry, if one is free (R140). -/
def Slice.sending (c : Slice) (m : MemMsg) : MemMsg :=
  if m.evict then
    match c.evb.find? (fun e => e.gran == m.gran) with
    | some e => { m with s0 := e.v0 && (e.k0 || !e.part), s1 := e.v1 && (e.k1 || !e.part), d0 := e.d0, d1 := e.d1, m0 := fullMask, m1 := fullMask,
                         p0 := e.p0, p1 := e.p1 }
    | none => m
  else { m with resv := m.alloc && decide (c.evUsed < 16) }

/-- Send message i of a slice's list if it may go: no earlier message of its granule, and a write credit for its target (R139, R210). -/
def State.memSend (s : State) (t i : Nat) : State :=
  let sl := s.slice t
  match sl.mem[i]?.map sl.sending with
  | none => s
  | some m =>
    let tgt := s.memTarget (tileStop t) m.gran
    let earlier := (sl.mem.take i).any (fun x => x.gran == m.gran)
    let used := sl.credits.get 0 tgt.1
    if m.sent || earlier || (m.write && decide (2 ≤ used)) then s
    else
      let op := if m.write then Opc.memWrite else Opc.memRead
      let attr := if m.write then memAttr m.s0 m.s1 (m.s0 && m.m0 != fullMask) (m.s1 && m.m1 != fullMask) m.victim else 0
      let pk : Packet := { opcode := op, wid := BitVec.ofNat 6 m.wid, dst := BitVec.ofNat 8 tgt.1, endpoint := BitVec.ofNat 8 tgt.2,
                           address := BitVec.ofNat 46 (2 * m.gran), attr := attr }
      let r := s.request (tileStop t) { pkt := pk, ep := 2, purp := .mem }
      let hd := { pk with tag := BitVec.ofNat 12 r.1, src := BitVec.ofNat 8 (tileStop t) }
      let s2 := if m.write then (memDataPackets m hd).foldl State.send r.2 else r.2
      s2.modSlice t (fun c => { c with mem := c.mem.set i { m with tag := r.1, sent := true },
                                       credits := if m.write then c.credits.set 0 tgt.1 (used + 1) else c.credits })

/-- Send every message that may go. -/
def State.memPump (s : State) (t : Nat) : State := (List.range (s.slice t).mem.length).foldl (fun s i => s.memSend t i) s

/-- Decide a memory message (R139). -/
def State.memPush (s : State) (t : Nat) (m : MemMsg) : State :=
  (s.modSlice t (fun c => { c with mem := c.mem ++ [m] })).memPump t

/-- A MemWrite of one sector under a mask. -/
def memWriteSector (sec : Nat) (d : Sector) (k : BitVec 64) (p : Bool) (wid : Nat) (victim : Bool) (forSec : Option Nat) : MemMsg :=
  if sec % 2 = 0 then { gran := sec / 2, write := true, s0 := true, d0 := d, m0 := k, p0 := p, wid := wid, victim := victim, forSec := forSec }
  else { gran := sec / 2, write := true, s1 := true, d1 := d, m1 := k, p1 := p, wid := wid, victim := victim, forSec := forSec }

/-- Move a victim line out of the LLC: a dirty one into the eviction buffer with its MemWrite, of both sectors if both are valid (R86, R140). -/
def State.llcEvict (s : State) (t key : Nat) (l : LlcLine) (wid : Nat) : State :=
  let s1 := s.setLlc key none
  if l.k0 || l.k1 then
    let s1 := s1.pmu .tile t 0x104 1 { addr := some (l.gran * 128) }
    let e : EvEnt := { gran := l.gran, v0 := l.v0, v1 := l.v1, k0 := l.k0, k1 := l.k1, d0 := l.d0, d1 := l.d1, p0 := l.p0, p1 := l.p1 }
    (s1.modSlice t (fun c => { c with evb := c.evb ++ [e] })).memPush t { gran := l.gran, write := true, victim := true, wid := wid, evict := true }
  else s1

/-- Allocate a line for a granule in a class: an invalid way first, else the victim of R82; none without a free entry in the eviction buffer (R81, R102, R140).
The key of the new line's way, or none. -/
def State.llcAlloc (s : State) (t gran cls wid : Nat) : Option (Nat × State) :=
  let ways := s.llcWays t cls
  let base := llcKey t gran
  if ways.isEmpty ∨ 16 ≤ (s.slice t).evUsed then none
  else
    match ways.find? (fun w => (s.llc.get none (base + w)).isNone) with
    | some w => some (base + w, s)
    | none =>
      match s.llcVictim base ways 4 with
      | some (w, s1) =>
        (match s1.llc.get none (base + w) with
          | some l => some (base + w, s1.llcEvict t (base + w) l wid)
          | none => some (base + w, s1))
      | none => none

/-- Write a whole sector to memory behind what the home has decided before; an eviction-buffer copy of it is no longer the newest. -/
def State.toMemory (s : State) (t sec : Nat) (d : Sector) (p : Bool) (wid : Nat) : State :=
  (s.evDrop t sec).memPush t (memWriteSector sec d fullMask p wid true none)

/-- Place dirty data of a write-back: the sector is updated if present; otherwise it is put in the granule's line or a new one, where the class may allocate, or goes to
memory (R81, R102, R128, R140, R143). -/
def State.placeDirty (s : State) (t sec : Nat) (d : Sector) (p : Bool) (wid : Nat) : State :=
  let cls := s.classOf wid
  if s.llcHas t sec then (s.llcTouch t sec cls).homePut t sec true d p
  else if (s.llcWays t cls).isEmpty then s.toMemory t sec d p wid
  else
    match s.llcFind t (sec / 2) with
    | some (k, _, l) => s.setLlc k (some { l.put (sec % 2) true true d p with rrpv := 2 })
    | none =>
      match s.llcAlloc t (sec / 2) cls wid with
      | some (k, s1) => s1.setLlc k (some (({ gran := sec / 2 : LlcLine }).put (sec % 2) true true d p))
      | none => s.toMemory t sec d p wid

/-- Place dirty data that a snoop returned: update the LLC sector if present, otherwise MemWrite (R127). An eviction-buffer entry counts as the LLC until its MemWrite
is sent (R143). -/
def State.placeReturned (s : State) (t sec : Nat) (d : Sector) (p : Bool) (wid : Nat) : State :=
  if s.llcHas t sec || ((s.evData t sec).isSome && !s.evSent t (sec / 2)) then s.homePut t sec true d p
  else s.toMemory t sec d p wid

/-! ### Transactions -/

def State.tx (s : State) (t sec : Nat) : Option Tx := (s.slice t).txs.find? (fun x => x.sec == sec)
def State.setTx (s : State) (t : Nat) (x : Tx) : State :=
  s.modSlice t (fun c => { c with txs := c.txs.map (fun y => if y.sec == x.sec then x else y) })
def State.openTx (s : State) (t : Nat) (x : Tx) : State := s.modSlice t (fun c => { c with txs := c.txs ++ [x] })

/-- The snoop of a transaction to an agent (R116, R211). -/
def snoopTo (t : Nat) (p : Packet) (op : BitVec 8) (sec a : Nat) : Packet :=
  let pl := agentPlace a
  { opcode := op, tag := p.tag, wid := p.wid, src := BitVec.ofNat 8 (tileStop t), dst := BitVec.ofNat 8 pl.1, endpoint := BitVec.ofNat 8 pl.2,
    address := BitVec.ofNat 46 sec, attr := fwdAttr p.srcN p.epN }

/-- Reserve a freed home-queue entry for the first listed slot that may use it (R157). -/
def reserveFor (l : List RosterEnt) (kind : Option Nat) : List RosterEnt :=
  match l.findIdx? (fun r => r.res.isNone && (match kind with
    | none => true
    | some c => r.cls == c)) with
  | some i => l.modify i (fun r => { r with res := some kind })
  | none => l

/-- Free the home-queue entry of a served request (R119, R157). -/
def State.freeHq (s : State) (t : Nat) (p : Packet) : State :=
  s.modSlice t (fun c =>
    match c.hq.findIdx? (fun e => e.active && e.pkt.src == p.src && e.pkt.tag == p.tag && e.pkt.opcode == p.opcode) with
    | some i =>
      let kind := match c.hq[i]? with
        | some e => e.resClass
        | none => none
      { c with hq := c.hq.eraseIdx i, roster := reserveFor c.roster kind }
    | none => c)

/-- Close a transaction: the entry is no longer BUSY, and is freed when nobody is listed (R114, R119). -/
def State.txDone (s : State) (t : Nat) (x : Tx) : State :=
  let s1 := s.modSlice t (fun c => { c with txs := c.txs.filter (fun y => y.sec != x.sec) })
  let s2 := match s1.dirFind t x.sec with
    | some (k, e) => if e.empty then s1.setDir k none else s1.setDir k (some { e with busy := false })
    | none => s1
  if x.back then s2.setReq (tileStop t) x.pkt.tagN none else s2.freeHq t x.pkt

/-- Send a response of a transaction to its requester. -/
def State.respond (s : State) (t : Nat) (x : Tx) (op : BitVec 8) (attr : BitVec 16) : State := s.send (answer x.pkt (tileStop t) op attr)

/-- Send CompData with a grant (R117, R205). -/
def State.compData (s : State) (t : Nat) (x : Tx) (g : Nat) (d : Sector) (p : Bool) : State :=
  s.send { answer x.pkt (tileStop t) (Opc.compData g) 0 with payload := d, poison := p }

/-- Change the directory entry of a sector, if it has one. -/
def State.modDir (s : State) (t sec : Nat) (f : DirEnt → DirEnt) : State :=
  match s.dirFind t sec with
  | some (k, e) => s.setDir k (some (f e))
  | none => s

/-- The requester's agent ID. -/
def Tx.agent (x : Tx) : Option Nat := agentId x.pkt.srcN x.pkt.epN

/-- A home's refusal of a request that the deed does not admit is recorded (R303, R496). -/
def State.deedRefused (s : State) (t sec wid : Nat) : State := s.record Ev.accessRefused (srcSlice t wid) (w64 (sec * 64)) (w64 (wid % 64))

/-- Data that a snoop returned to a transaction which ends without using it is placed (R127). -/
def State.txReturn (s : State) (t : Nat) (x : Tx) : State :=
  match x.dirty with
  | some (d, p) => s.placeReturned t x.sec d p x.pkt.widN
  | none => s

/-- The error of a memory target or a check answers the request; the transaction closes granting nothing (R127). -/
def State.txFail (s : State) (t : Nat) (x : Tx) (code origin : Nat) : State :=
  (s.send (errAnswer x.pkt (tileStop t) code origin)).txDone t x

/-- Whether a request's fill may allocate in the LLC: its effective type allocates, and its class has LLC ways (R81, R90, R102). A staging line needs no allocation. -/
def State.allocates (s : State) (t : Nat) (p : Packet) : Bool := p.etype != 3 && !p.atomic && !(s.llcWays t (s.classOf p.widN)).isEmpty

/-- Ask memory for the granule of a transaction (R139). -/
def State.txFetch (s : State) (t : Nat) (x : Tx) : State :=
  (s.setTx t { x with phase := .memory }).memPush t
    { gran := x.sec / 2, write := false, wid := x.pkt.widN, forSec := some x.sec, alloc := s.allocates t x.pkt }

/-- The transaction waits for the requester's CompAck, or closes where that has come (R119, R136). -/
def State.txAwait (s : State) (t : Nat) (x : Tx) : State := if x.acked then s.txDone t x else s.setTx t { x with phase := .ack }

/-- Give a read its data and grant, from data the home has: the rows of R126 for the state the answers leave. The transaction then waits for CompAck,
or closes for ReadOnce. -/
def State.txGrant (s : State) (t : Nat) (x : Tx) (d : Sector) (p dirty : Bool) : State :=
  let op := x.pkt.opcode
  match x.agent with
  | none => (s.compData t x 0 d p).txDone t x
  | some a =>
    if op == Opc.readShared then
      let s1 := s.setTx t { x with phase := .ack }
      (match s1.dirFind t x.sec with
        | some (k, e) =>
          if e.empty then
            if x.pkt.sharedOnly then (s1.setDir k (some (e.addS a))).compData t x 1 d p
            else (s1.setDir k (some (dxEntry x.sec a true))).compData t x 2 d p
          else (s1.setDir k (some (e.addS a))).compData t x 1 d p
        | none => s1.compData t x 0 d p)
    else if op == Opc.readUnique || op == Opc.cleanUnique then
      let s1 := s.setTx t { x with phase := .ack }
      let s2 := s1.modDir t x.sec (fun _ => dxEntry x.sec a true)
      let s3 := if dirty then s2.homeDrop t x.sec else s2
      s3.compData t x (if dirty || x.ownerDead then 3 else 2) d p
    else (s.compData t x 0 d p).txDone t x

/-- Count a lookup of the LLC and its hit or miss (R517). -/
def State.llcCount (s : State) (t : Nat) (p : Packet) : State :=
  let x : PmuCtx := { wid := some p.widN, agent := some p.srcN, addr := some (p.sec * 64) }
  (s.pmu .tile t 0x101 1 { x with cls := some (p.cls) }).pmu .tile t (if (s.homeData t p.sec).isSome then 0x102 else 0x103) 1 x

/-- Whether a request is a core's for the grant of a cbo.zero, which reads no memory (R105). No field of R202 says so and R146 gives the request none of its own, so
the model looks at the request that the requester has open. (DESIGN CHOICE, assumption 113.) -/
def State.forZero (s : State) (p : Packet) : Bool :=
  match s.req p.srcN p.tagN with
  | some r => r.purp == .zero
  | none => false

/-- Serve a read from what the home holds, or from memory (R126, R143). -/
def State.txRead (s0 : State) (t : Nat) (x : Tx) : State :=
  let s := s0.llcCount t x.pkt
  match s.homeData t x.sec with
  | some (d, p, k) => (s.llcTouch t x.sec (s.classOf x.pkt.widN)).txGrant t x d p k
  | none => if s.forZero x.pkt then s.txGrant t x 0 false false else s.txFetch t x

/-- The atomic operations of R215 on an operand of `size` bytes. -/
def aopResult (aop size old val : Nat) : Nat :=
  let n := 2 ^ (8 * size)
  let o := old % n
  let v := val % n
  let sg (a : Nat) : Int := if a < n / 2 then (a : Int) else (a : Int) - (n : Int)
  match aop with
  | 1 => v
  | 2 => (o + v) % n
  | 3 => Nat.land o v
  | 4 => Nat.lor o v
  | 5 => Nat.xor o v
  | 6 => if sg o ≤ sg v then o else v
  | 7 => if sg v ≤ sg o then o else v
  | 8 => min o v
  | 9 => max o v
  | _ => o

/-- The operand of an atomic mask: offset and size, when it selects 4 or 8 contiguous aligned bytes (R215). -/
def aopSpan (m : BitVec 64) : Option (Nat × Nat) :=
  match (List.range 8).find? (fun i => m == spanMask (8 * i) 8) with
  | some i => some (8 * i, 8)
  | none => ((List.range 16).find? (fun i => m == spanMask (4 * i) 4)).map (fun i => (4 * i, 4))

/-- A write of a transaction goes to memory and the transaction waits for it. -/
def State.txMemory (s : State) (t : Nat) (x : Tx) (d : Sector) (m : BitVec 64) (p : Bool) : State :=
  (s.setTx t { x with phase := .memWrite }).memPush t (memWriteSector x.sec d m p x.pkt.widN false (some x.sec))

/-- Place a write's data, already merged over a known sector when there was one, by effective type; answer Comp when the write is performed (R127, R131, R143, R210).
A WT write leaves an LLC sector clean and writes all of it to memory; one that meets an eviction-buffer entry waits for the entry's MemWrite. -/
def State.txPlace (s0 : State) (t : Nat) (x : Tx) (d : Sector) (m : BitVec 64) (p : Bool) (answer : State → State) : State :=
  let s := s0.llcTouch t x.sec (s0.classOf x.pkt.widN)
  let wt := x.pkt.etype == 1
  match (if s.llcHas t x.sec || !s.evSent t (x.sec / 2) then s.homeData t x.sec else none) with
  | some (o, po, _) =>
    let d' := mergeSector o d m
    let p' := poisonAfter m po p
    if !wt then (answer (s.homePut t x.sec true d' p')).txDone t x
    else if s.llcHas t x.sec then (s.homePut t x.sec false d' p').txMemory t x d' fullMask p'
    else (((s.homePut t x.sec true d' p').setTx t { x with phase := .memWrite }).modSlice t (fun c =>
      { c with mem := modLast (fun y => y.evict && y.gran == x.sec / 2) (fun y => { y with forSec := some x.sec }) c.mem }))
  | none =>
    let s := s.evDrop t x.sec
    if wt || isDepo (x.sec / 2) then s.txMemory t x d m p
    else (answer (s.memPush t (memWriteSector x.sec d m p x.pkt.widN false none))).txDone t x

/-- Perform a far atomic on a known sector: the result is placed and the old sector answers (R131, R215, R217). -/
def State.txAtomic (s : State) (t : Nat) (x : Tx) (old : Sector) (oldP : Bool) : State :=
  match x.wd with
  | none => s
  | some (d, m, p, aop) =>
    if oldP then ((s.txReturn t x).compData t x 0 old true).txDone t x
    else
      match aopSpan m with
      | none => (s.txReturn t x).txFail t x Err.format Origin.home
      | some (off, size) =>
        let r := aopResult aop size (sectorBytes old off size) (sectorBytes d off size)
        let new := mergeSector old (sectorAt r off size) m
        let x1 := { x with dirty := some (old, false) }
        (s.setTx t x1).txPlace t x1 new fullMask p (fun s => s.compData t x 0 old false)

/-- Write data has come for a write: merge it with data a snoop returned, or perform the atomic (R127, R131). -/
def State.txWrite (s : State) (t : Nat) (x : Tx) (d : Sector) (m : BitVec 64) (p : Bool) (aop : Nat) : State :=
  let x1 := { x with wd := some (d, m, p, aop) }
  let s1 := s.setTx t x1
  if x.pkt.atomic != (aop != 0) || (x.pkt.atomic && ((aopSpan m).isNone || decide (9 < aop))) then (s1.txReturn t x1).txFail t x1 Err.format Origin.home
  else if x.pkt.atomic then
    match x.dirty with
    | some (o, po) => s1.txAtomic t x1 o po
    | none =>
      match s1.homeData t x.sec with
      | some (o, po, _) => s1.txAtomic t x1 o po
      | none => s1.txFetch t x1
  else
    let ans (s : State) : State := s.respond t x1 Opc.comp 0
    match x.dirty with
    | some (o, po) => s1.txPlace t x1 (mergeSector o d m) fullMask (poisonAfter m po p) ans
    | none => s1.txPlace t x1 d m p ans

/-- A CMO whose copies are dealt with: write what is dirty to memory, then Comp (R129). -/
def State.txCmo (s : State) (t : Nat) (x : Tx) : State :=
  let flush := x.pkt.cmo == 2
  let held := s.homeData t x.sec
  let dirt : Option (Sector × Bool) := match x.dirty with
    | some v => some v
    | none => (match held with
      | some (d, p, true) => some (d, p)
      | _ => none)
  let pinned : Bool := match s.llcFind t (x.sec / 2) with
    | some (_, _, l) => l.pinned
    | none => false
  let s1 : State := match pinned, dirt, flush with
    | true, some (d, p), _ => s.homePut t x.sec false d p
    | true, none, _ => s
    | false, _, true => s.homeDrop t x.sec
    | false, some (d, p), false => s.homePut t x.sec false d p
    | false, none, false => s
  match dirt, pinned with
  | some (d, p), false => s1.txMemory t x d fullMask p
  | _, _ => (s1.respond t x Opc.comp 0).txDone t x

/-- A dead owner makes the sector poisoned, in the LLC or in memory, and is recorded (R150). -/
def State.txDead (s : State) (t : Nat) (x : Tx) : State :=
  let s1 := match s.homeData t x.sec with
    | some (d, _, _) => s.placeReturned t x.sec d true x.pkt.widN
    | none => s.toMemory t x.sec 0 true x.pkt.widN
  s1.errorEvent .tile t { sev := .ued, code := Ev.sectorPoisoned, addr := some (x.sec * 64) } (srcSlice t x.pkt.widN) (w64 (x.sec * 64)) 3

/-- Every snoop of a transaction is answered: the row of R126 is completed for the state the answers leave (R127, R142, R150). -/
def State.txAnswered (s0 : State) (t : Nat) (x : Tx) : State :=
  let s := if x.ownerDead then s0.txDead t x else s0
  let op := x.pkt.opcode
  if x.back then
    let s1 := s.txReturn t x
    (s1.modDir t x.sec (fun e => { e with st := .ds, owner := 0, fmt := false, ptrs := [], groups := 0, annex := 0 })).txDone t x
  else if op == Opc.readShared then
    let s1 := s.txReturn t x
    let s2 := match x.owner with
      | none => s1
      | some o => s1.modDir t x.sec (fun e => match x.ownerSt with
        | 3 => { e with st := .dox }
        | 1 => e.dropOwner.addS o
        | _ => e.dropOwner)
    if x.ownerDead then s2.txGrant t x 0 true false
    else if x.fwd then
      match x.agent with
      | some a => (s2.modDir t x.sec (fun e => e.addS a)).txAwait t x
      | none => s2
    else s2.txRead t x
  else if op == Opc.readUnique || op == Opc.cleanUnique then
    let s1 := s.txReturn t x
    if x.ownerDead then s1.txGrant t x 0 true true
    else if x.fwd then
      match x.agent with
      | some a => ((s1.modDir t x.sec (fun _ => dxEntry x.sec a true)).setTx t { x with phase := .ack }).respond t x Opc.comp 0
      | none => s1
    else if op == Opc.cleanUnique && x.listed then
      match x.agent with
      | some a =>
        (((s1.homeDrop t x.sec).modDir t x.sec (fun _ => dxEntry x.sec a true)).setTx t { x with phase := .ack }).respond t x Opc.comp 3
      | none => s1
    else (s1.modDir t x.sec (fun e => { e with st := .ds, owner := 0, fmt := false, ptrs := [], groups := 0, annex := 0 })).txRead t x
  else if op == Opc.readOnce then
    let s1 := match x.owner with
      | none => s
      | some o => s.modDir t x.sec (fun e =>
        if x.ownerSt = 0 then e.dropOwner else if e.st == DState.dox then e.dropOwner.addS o else e)
    if x.pkt.cmo = 0 then
      match x.dirty with
      | some (d, p) => (s1.placeReturned t x.sec d p x.pkt.widN).txGrant t x d p false
      | none => if x.ownerDead then s1.txGrant t x 0 true false else s1.txRead t x
    else
      let s2 := if x.pkt.cmo = 2 then s1.modDir t x.sec (fun e => { e with st := .ds, owner := 0, fmt := false, ptrs := [], groups := 0, annex := 0 }) else s1
      s2.txCmo t x
  else
    -- WritePartial and WriteInvalidateFull: every other copy is gone; a requester that was listed stays in S
    let s1 := s.modDir t x.sec (fun e =>
      let e0 : DirEnt := { e with st := .ds, owner := 0, fmt := false, ptrs := [], groups := 0, annex := 0 }
      match x.agent with
      | some a => if x.listed then e0.addS a else e0
      | none => e0)
    (s1.setTx t { x with phase := .pull }).respond t x Opc.dataPull 0

/-- Open a transaction with its snoops; with none to wait for, it is answered at once. -/
def State.txSnoop (s : State) (t : Nat) (x : Tx) (own : Option (Nat × BitVec 8)) (inv : List Nat) : State :=
  let x1 := { x with waits := (own.map (·.1)).toList ++ inv, owner := own.map (·.1), phase := .snoops }
  let s0 := (s.openTx t x1).modDir t x.sec (fun e => { e with busy := true })
  let s1 := if x1.waits.isEmpty then s0 else s0.pmu .tile t 0x107 x1.waits.length { wid := some x.pkt.widN, addr := some (x.sec * 64) }
  let s2 := match own with
    | some (o, op) => s1.send (snoopTo t x.pkt op x.sec o)
    | none => s1
  let s3 := inv.foldl (fun s a => s.send (snoopTo t x.pkt Opc.snpInvalidate x.sec a)) s2
  if x1.waits.isEmpty then s3.txAnswered t x1 else s3

/-- Back-invalidate an entry on the home's own account: the owner is snooped home and every S holder invalidated (R114, R145, R211). -/
def State.backInval (s : State) (t wid : Nat) (e : DirEnt) (forSec : Option Nat) : State :=
  let s1 := s.pmu .tile t 0x108 1 { addr := some (e.sec * 64) }
  let own := if e.st = .ds then none else some (e.owner, Opc.snpUniqueHome)
  let st := tileStop t
  let tag := s1.freeTag st
  let bp : Packet := { opcode := Opc.readUnique, tag := BitVec.ofNat 12 tag, wid := BitVec.ofNat 6 wid, src := BitVec.ofNat 8 st, dst := BitVec.ofNat 8 st,
                       endpoint := 2, address := BitVec.ofNat 46 e.sec }
  let s2 := s1.setReq st tag (some { pkt := bp, ep := 2, purp := .mem })
  s2.txSnoop t { sec := e.sec, pkt := bp, phase := .snoops, back := true, forSec := forSec } own
    ((s2.sharers e).filter (fun a => e.st == .ds || a != e.owner))

/-- Find or make a way for a sector's entry in a class: an invalid way, else a back-invalidation is started and the request waits, one victim at a time
(R114, R144, R145). -/
def State.dirPlace (s : State) (t sec cls : Nat) (p : Packet) : Bool × State :=
  let ways := s.dirWays cls
  match ways.find? (fun w => (s.dir.get none (dirKey t sec + w)).isNone) with
  | some w => (true, s.setDir (dirKey t sec + w) (some { sec := sec, st := .ds, busy := true }))
  | none =>
    let open_ := ways.filterMap (fun w => match s.dir.get none (dirKey t sec + w) with
      | some e => if e.busy then none else some e
      | none => none)
    if (s.slice t).txs.any (fun x => x.back && x.forSec == some sec) then (false, s)
    else match open_[Config.freeChoice s.fresh % open_.length]? with
    | none => (false, s)
    | some e => (false, State.backInval { s with fresh := s.fresh + 1 } t p.widN e (some sec))

/-- The ATTR bits that R202 allows a coherent request, of the layout of R207: SPEC 0, SHAREDONLY 1, KEEP 2, CMO 4:3, ATOMIC 5, ETYPE 7:6, PREFETCH 8; CMO is not 0b11,
and PREFETCH goes only with CMO 0. -/
def reqAttrOk (op : BitVec 8) (p : Packet) : Bool :=
  let mask : BitVec 16 :=
    if op == Opc.readShared then 0xC3 else if op == Opc.readUnique || op == Opc.cleanUnique || op == Opc.writeInvFull then 0xC0
    else if op == Opc.readOnce then 0x1D8 else if op == Opc.writePartial then 0xE0
    else if op == Opc.writeBackDirty || op == Opc.writeBackOwned then 0x4 else 0
  p.attr &&& ~~~mask == 0 && p.cmo != 3 && !(p.prefetch && p.cmo != 0)

/-- Whether a request is the deed unit's own, which is not checked against deeds (R198, R303). -/
def Packet.ofDeedUnit (p : Packet) : Bool := p.srcN == svcStop && p.epN == 2

/-- Start serving a request, or answer none when it must wait (R119, R126, R128, R143, R144). The boolean says whether the request was taken; a request that
waits for a directory way may have started a back-invalidation. -/
def State.homeStart (s : State) (t : Nat) (p : Packet) : Bool × State :=
  let sec := p.sec
  let op := p.opcode
  let a := agentId p.srcN p.epN
  let x : Tx := { sec := sec, pkt := p, phase := .snoops }
  let e := s.dirFind t sec
  let lst : Bool := match a, e with
    | some a, some (_, e) => s.listed e a
    | _, _ => false
  let x := { x with listed := lst }
  let done (s : State) : State := s.freeHq t p
  let write : Bool := op == Opc.readUnique || op == Opc.cleanUnique || op == Opc.writeInvFull || op == Opc.writePartial
  if !reqAttrOk op p then (true, done (s.send (errAnswer p (tileStop t) Err.format Origin.home))) else
  if op == Opc.writeBackDirty || op == Opc.writeBackOwned then
    let owns : Bool := match a, e with
      | some a, some (_, e) => e.owner == a && (if op == Opc.writeBackDirty then e.st == .dx else e.st == .dox)
      | _, _ => false
    if owns then (true, ((s.openTx t { x with phase := .pull }).modDir t sec (fun e => { e with busy := true })).respond t x Opc.dataPull 0)
    else (true, done (s.respond t x Opc.comp 0))
  else if !s.memAddressOk (tileStop t) sec then (true, done (s.send (errAnswer p (tileStop t) Err.address Origin.home)))
  else
  let s := if p.ofDeedUnit then s else s.deedNote (dcSlice t) (sec / 64)
  if !p.ofDeedUnit && !s.deedOk sec p.widN write then
    (true, done ((if p.prefetch then s else s.deedRefused t sec p.widN).send (errAnswer p (tileStop t) Err.permission Origin.home)))
  else if op == Opc.readOnce && p.prefetch then
    if (s.homeData t sec).isSome || isDepo (sec / 2) || !s.allocates t p then (true, done (s.respond t x Opc.comp 0))
    else (true, s.openTx t { x with phase := .memory } |>.memPush t
      { gran := sec / 2, write := false, wid := p.widN, prefetch := some p, forSec := some sec, alloc := true })
  else if (op == Opc.writePartial || op == Opc.writeInvFull) && (s.evFind t (sec / 2)).isSome && s.evSent t (sec / 2) then (false, s)
  else
    let needs : Bool := op == Opc.readShared || op == Opc.readUnique || op == Opc.cleanUnique
    let placed := if needs && e.isNone then s.dirPlace t sec (s.classOf p.widN) p else (true, s)
    if !placed.1 then placed
    else
      let s := placed.2
      let ent : DirEnt := match s.dirFind t sec with
        | some (_, e) => e
        | none => { sec := sec, st := .ds, busy := true }
      let others := (s.sharers ent).filter (fun b => some b != a && !(ent.st != .ds && ent.owner == b))
      let ownerOther : Bool := ent.st != .ds && some ent.owner != a
      let own (o : BitVec 8) : Option (Nat × BitVec 8) := if ownerOther then some (ent.owner, o) else none
      let s' :=
        if op == Opc.readShared then s.txSnoop t x (own Opc.snpShared) []
        else if op == Opc.readUnique || (op == Opc.cleanUnique && !lst) then s.txSnoop t x (own Opc.snpUnique) others
        else if op == Opc.cleanUnique then s.txSnoop t x (own Opc.snpInvalidate) others
        else if op == Opc.readOnce then
          if p.cmo = 2 then s.txSnoop t x (own Opc.snpUniqueHome) others else s.txSnoop t x (own Opc.snpClean) []
        else if op == Opc.writeInvFull then s.txSnoop t x (own Opc.snpInvalidate) others
        else s.txSnoop t x (own Opc.snpUniqueHome) others
      (true, s')

/-- The first home-queue entry that may start: its sector is not BUSY and no earlier entry waits for the same sector (R119, R144). -/
def State.hqReady (s : State) (t : Nat) : List Nat :=
  let c := s.slice t
  (List.range c.hq.length).filter (fun i =>
    match c.hq[i]? with
    | some e => !e.active && !(c.txs.any (fun x => x.sec == e.pkt.sec)) &&
        !((c.hq.take i).any (fun f => !f.active && f.pkt.sec == e.pkt.sec))
    | none => false)

/-- Try to start entry i. -/
def State.hqTry (s : State) (t i : Nat) : Bool × State :=
  match (s.slice t).hq[i]? with
  | none => (false, s)
  | some e =>
    let s1 := s.modSlice t (fun c => { c with hq := c.hq.set i { e with active := true } })
    let r := s1.homeStart t e.pkt
    if r.1 then r
    else (false, r.2.modSlice t (fun c => { c with hq := c.hq.set i e }))

/-- Start every request that can start, in queue order (R119, R144). -/
def State.hqScan (s : State) (t : Nat) : Nat → State
  | 0 => s
  | n + 1 =>
    let r := (s.hqReady t).foldl (fun (acc : Bool × State) i => if acc.1 then acc else acc.2.hqTry t i) (false, s)
    if r.1 then r.2.hqScan t n else r.2

/-- Close a transaction and serve what waited for it. -/
def State.txClose (s : State) (t : Nat) (x : Tx) : State := (s.txDone t x).hqScan t 49

/-! ### Home queue entries and the roster -/

/-- The kind of entry available to a request of a class: its reserved entry first, then a shared one (R102, R157). -/
def State.hqKind (s : State) (t cls : Nat) : Option (Option Nat) :=
  let c := s.slice t
  let res (k : Nat) : Nat := if s.shelved then s.getF F.llcShelf_hqReserve 0 k else 0
  let usedRes := (c.hq.filter (fun e => e.resClass == some cls)).length + (c.roster.filter (fun r => r.res == some (some cls))).length
  let shared := 48 - ((List.range 16).map res).foldl (· + ·) 0
  let usedSh := (c.hq.filter (fun e => e.resClass.isNone)).length + (c.roster.filter (fun r => r.res == some none)).length
  if usedRes < res cls then some (some cls) else if usedSh < shared then some none else none

/-- A request reaches a home: it takes an entry, reserved for it or free, or receives Retry and joins the roster (R119, R155 to R157). -/
def State.homeRequest (s : State) (t : Nat) (p : Packet) : State :=
  let c := s.slice t
  let slot := rosterSlot p.srcN p.epN
  let cls := s.classOf p.widN
  let listed := c.roster.find? (fun r => r.slot == slot)
  let kind : Option (Option Nat) := match listed with
    | some r => (match r.res with
      | some k => some k
      | none => s.hqKind t cls)
    | none => s.hqKind t cls
  match kind with
  | some k =>
    (s.modSlice t (fun c => { c with hq := c.hq ++ [{ pkt := p, active := false, resClass := k }],
                                     roster := c.roster.filter (fun r => r.slot != slot) })).hqScan t 49
  | none =>
    let s1 := if listed.isSome then s else s.modSlice t (fun c => { c with roster := c.roster ++ [{ slot := slot, cls := cls }] })
    (s1.pmu .tile t 0x106 1 { wid := some p.widN, agent := some p.srcN }).send (answer p (tileStop t) Opc.retry 0)

/-! ### Flushing ways and entries (R101, R104, R469, R474) -/

/-- Whether a directory entry that a flush covers is there, and whether a line is. -/
def State.flushDirs (s : State) (pd : Nat → DirEnt → Bool) : List (Nat × DirEnt) := s.dir.filterMap (fun e => match e.2 with
  | some d => if pd e.1 d then some (e.1, d) else none
  | none => none)
def State.flushLines (s : State) (pl : Nat → Bool) : List (Nat × LlcLine) := s.llc.filterMap (fun e => match e.2 with
  | some l => if pl e.1 && !l.pinned then some (e.1, l) else none
  | none => none)

/-- One round of a flush: each directory entry that it covers and that is not BUSY is back-invalidated on the home's own account, and each line that it covers leaves, a dirty one through the eviction
buffer while that has room (R101, R140). -/
def State.flushRound (s : State) (pd : Nat → DirEnt → Bool) (pl : Nat → Bool) : State :=
  let s1 := (s.flushDirs pd).foldl (fun (s : State) (e : Nat × DirEnt) =>
    let t := e.1 / 16 / 2048
    if e.2.busy || decide (48 ≤ (s.slice t).txs.length) then s else s.backInval t 0 e.2 none) s
  (s1.flushLines pl).foldl (fun (s : State) (e : Nat × LlcLine) =>
    let t := e.1 / 12 / 1024
    if (e.2.k0 || e.2.k1) && decide (16 ≤ (s.slice t).evUsed) then s else s.llcEvict t e.1 e.2 0) s1

/-- Whether a flush of some tiles is done: no entry or line that it covers is left, and no write-back of theirs awaits its acknowledgement (R101). -/
def State.flushDone (s : State) (pt : Nat → Bool) (pd : Nat → DirEnt → Bool) (pl : Nat → Bool) : Bool :=
  (s.flushDirs pd).isEmpty && (s.flushLines pl).isEmpty
    && s.slices.all (fun e => !pt e.1 || e.2.mem.all (fun m => !(m.write && m.victim)))

/-- The retirement of LLC ways goes on: a slice flushes the ways, which then take no lookup (R474). -/
def State.retirePump (s : State) (t : Nat) : State :=
  if (s.slice t).retiring = 0 then s
  else
    let pl (k : Nat) : Bool := k / 12 / 1024 == t && (s.slice t).retiring.getLsbD (k % 12)
    let s1 := s.flushRound (fun _ _ => false) pl
    if s1.flushDone (fun u => u == t) (fun _ _ => false) pl then s1.modSlice t (fun c => { c with retiring := 0 }) else s1

end Sys2Proof.Machine
end

