-- ==== Sys2Proof/Machine/Detect.lean ====
section
/-! DEFINITION. What a requester's interface does for each request: the order of R156 behind a Retry, the stride detectors of R91 and R92, and the accesses of I/O agents as
requests of the fabric (R107, R130). -/
namespace Sys2Proof.Machine

/-! ### Open requests -/

/-- The open coherent request of an agent for a sector: its tag. -/
def State.openReq (s : State) (stop ep sec : Nat) : Option (Nat × Req) :=
  s.reqs.findSome? (fun e => match e.2 with
    | some r => if e.1 / 4096 = stop ∧ r.ep = ep ∧ r.pkt.sec = sec ∧ isCoherentReq r.pkt.opcode then some (e.1 % 4096, r) else none
    | none => none)

/-- Whether a request is one of a slot's at a home that have been retried and not yet accepted (R155, R156). -/
def Req.retriedAt (r : Req) (stop ep home : Nat) : Bool :=
  rosterSlot stop r.ep == rosterSlot stop ep && r.pkt.dstN == home && decide (0 < r.retries)

/-- Whether an agent's slot must wait before it sends a home a request: one of its requests there has been retried and not yet accepted (R156). -/
def State.homeBlocked (s : State) (stop ep home : Nat) : Bool :=
  s.reqs.any (fun e => match e.2 with
    | some r => e.1 / 4096 == stop && r.retriedAt stop ep home
    | none => false)

/-- The place in order of a stop's next request to be retried. -/
def State.nextRetry (s : State) (stop : Nat) : Nat :=
  s.reqs.foldl (fun a e => match e.2 with
    | some r => if e.1 / 4096 = stop then max a (r.retryNo + 1) else a
    | none => a) 1

/-- Whether a retried request is the one that its slot holds for its home: the first that was retried. The others wait behind it (R155, R156). -/
def State.holdsRetry (s : State) (stop : Nat) (r : Req) : Bool :=
  s.reqs.all (fun e => match e.2 with
    | some q => !(e.1 / 4096 == stop && q.retriedAt stop r.ep r.pkt.dstN && decide (q.retryNo < r.retryNo))
    | none => true)

/-! ### Stride streams (R91, R92) -/

/-- Train a detector with a block number: the stream of the key, and whether it is confirmed. A new key takes the place of the least recently used of `cap`
streams; the list is kept in order of use (R91, R92). -/
def trainStream (l : List Stream) (cap maxStride key blk : Nat) : List Stream × Option Stream :=
  match l.find? (fun e => e.key == key) with
  | none =>
    let e : Stream := { key := key, last := blk, stride := 0, count := 0, dist := 2 }
    ((if l.length < cap then l else l.drop 1) ++ [e], none)
  | some e =>
    let d : Int := (blk : Int) - (e.last : Int)
    if d = 0 ∨ (maxStride : Int) < d ∨ d < -(maxStride : Int) then
      ((l.filter (fun f => f.key != key)) ++ [{ e with last := blk, stride := 0, count := 0 }], none)
    else
      let n := if d = e.stride then e.count + 1 else 1
      let e1 : Stream := { e with last := blk, stride := d, count := n }
      ((l.filter (fun f => f.key != key)) ++ [e1], if 2 ≤ n then some e1 else none)

/-- The blocks that a confirmed stream asks for: up to its distance ahead, within the 4 KiB page of `perPage` blocks (R91, R93). -/
def prefetchBlocks (e : Stream) (dist perPage : Nat) : List Nat :=
  (List.range dist).filterMap (fun (i : Nat) =>
    let b : Int := (e.last : Int) + e.stride * ((i : Int) + 1)
    if 0 ≤ b ∧ b.toNat / perPage = e.last / perPage then some b.toNat else none)

/-- Whether the detector of an agent is enabled, and its distance in granules (R92, R94, R95). A core's is enabled by its own register; DBG, the service complex and the memory
ports have none. -/
def State.detector (s : State) (st ep : Nat) : Option Nat :=
  match stopTile st with
  | some t => if ep < 2 ∧ s.isF F.corePfCtrl_llcEn (2 * t + ep) 0 = true then some 8 else none
  | none => if (st = svcStop ∨ st = dbgStop ∨ (stopMp st).isSome) ∨ ¬ s.isF F.niPfCtrl_en st 0 = true then none else some (s.getF F.niPfCtrl_maxDist st 0)

/-- Whether a request trains a detector: a read or write of local memory under WB, a read under WT or WA, nothing under UC (R90, R92). (DEDUCED, assumption 143.) -/
def Packet.trains (p : Packet) : Bool :=
  let o := p.opcode
  let load : Bool := o == Opc.readShared || (o == Opc.readOnce && p.cmo == 0 && !p.prefetch)
  let store : Bool := o == Opc.readUnique || o == Opc.cleanUnique || o == Opc.writeInvFull || o == Opc.writePartial
  !p.spec && (load && p.etype != 3 || store && p.etype == 0)

/-- The endpoint under which a stop's interface prefetches: the interface itself (R198). -/
def niEndpoint (st : Nat) : Nat := if (stopTile st).isSome then 2 else if (stopAx st).isSome then 16 else 0

/-- The ETYPE that the policy of a sector calls for (R87, R207). -/
def State.policyCode (s : State) (sec : Nat) : Nat := (s.effType (sec * 64) .pma).code

/-- Whether a stop has a prefetch of a granule open. -/
def State.prefetching (s : State) (st gran : Nat) : Bool :=
  s.reqs.any (fun e => match e.2 with
    | some q => e.1 / 4096 == st && q.pkt.prefetch && q.pkt.gran == gran
    | none => false)

/-- Train the LLC stride detector of an agent with a bound request to local memory, and send its prefetches: ReadOnce with PREFETCH to each granule's home. A tile has a detector
for each core, every other stop one; a request whose interface is held behind a Retry is not sent (R92, R93, R156). -/
def State.detect (s : State) (st ep : Nat) (p : Packet) : State :=
  match region (p.sec * 64), s.detector st ep with
  | .local, some mx =>
    if !p.trains then s
    else
      let r := trainStream (s.ni st).detect 16 16 (if (stopTile st).isSome then ep else 0) p.gran
      let s1 := s.modNi st (fun n => { n with detect := r.1 })
      match r.2 with
      | none => s1
      | some e =>
        if (List.range 12).all (fun w => s.getF F.llcShelf_llcWays 0 (s.classOf p.widN) / 2 ^ w % 2 == 0) then s1
        else (prefetchBlocks e (min 8 mx) 32).foldl (fun (s : State) (g : Nat) =>
          let home := s.homeStop (2 * g)
          if s.prefetching st g || s.homeBlocked st (niEndpoint st) home || s.policyCode (2 * g) == 3 then s
          else (s.request st
            { pkt := { opcode := Opc.readOnce, wid := p.wid, dst := BitVec.ofNat 8 home, endpoint := BitVec.ofNat 8 (niEndpoint st),
                       address := BitVec.ofNat 46 (2 * g), attr := reqAttr false false false 0 false (s.policyCode (2 * g)) true },
              ep := niEndpoint st, purp := .prefetch }).2) s1
  | _, _ => s

/-! ### Accesses of I/O agents (R107, R130) -/

/-- The sector and the world of an access. -/
def Acc.sec : Acc → Nat
  | .read _ s | .write _ s _ _ _ | .atomic _ s _ _ _ | .flush _ s => s
  | .turn => 0
def Acc.wid : Acc → Nat
  | .read w _ | .write w _ _ _ _ | .atomic w _ _ _ _ | .flush w _ => w
  | .turn => 0

/-- Whether an access is the one that an answer was given to, whatever the data it writes. -/
def Acc.same (a b : Acc) : Bool :=
  match a, b with
  | .read w s, .read w' s' | .flush w s, .flush w' s' | .write w s _ _ _, .write w' s' _ _ _ | .atomic w s _ _ _, .atomic w' s' _ _ _ => w == w' && s == s'
  | .turn, .turn => true
  | _, _ => false

/-- The request that performs an access: ReadOnce, WriteInvalidateFull for a whole sector, WritePartial, a far atomic, or a CMO (R115, R129 to R131). -/
def State.accReq (s : State) (st ep : Nat) (a : Acc) : Req :=
  let pk (op : BitVec 8) (cmo : Nat) (atomic : Bool) : Packet :=
    { opcode := op, wid := BitVec.ofNat 6 a.wid, src := BitVec.ofNat 8 st, dst := BitVec.ofNat 8 (s.homeStop a.sec), endpoint := BitVec.ofNat 8 ep,
      address := BitVec.ofNat 46 a.sec, attr := reqAttr false false false cmo atomic (s.policyCode a.sec) false }
  match a with
  | .read _ _ => { pkt := pk Opc.readOnce 0 false, ep := ep, purp := .engine }
  | .write _ _ d m p => { pkt := pk (if m = fullMask then Opc.writeInvFull else Opc.writePartial) 0 false, ep := ep, purp := .engine, data := d, mask := m, poison := p }
  | .atomic _ _ aop d m => { pkt := pk Opc.writePartial 0 true, ep := ep, purp := .engine, data := d, mask := m, aop := aop }
  | .flush _ _ => { pkt := pk Opc.readOnce 2 false, ep := ep, purp := .engine }
  | .turn => { pkt := pk Opc.readOnce 0 false, ep := ep, purp := .engine }

/-- Whether a host port has 512 inbound sectors in flight (R360). -/
def State.portFull (s : State) (st : Nat) : Bool :=
  hpStops.contains st && decide (512 ≤ (s.reqs.filter (fun e => match e.2 with
    | some q => e.1 / 4096 == st && q.purp == .engine
    | none => false)).length)

/-- Send the request of a run's next access, unless its slot waits behind a Retry (R156) or the run waits for its turn (R361). -/
def State.runSend (s : State) (r : Run) : State :=
  match r.next, r.tag with
  | some a, none =>
    let q := s.accReq r.stop r.ep a
    if a == .turn || s.portFull r.stop || s.homeBlocked r.stop r.ep q.pkt.dstN then s
    else
      let t := s.request r.stop q
      State.detect { t.2 with works := t.2.works.map (fun x => if x == r then { r with tag := some t.1 } else x) } r.stop r.ep q.pkt
  | _, _ => s

/-- Send what the runs of the device can send. -/
def State.pumpRuns (s : State) : State := s.works.foldl (fun s r => s.runSend r) s

/-- Carry a command on from the answers that its accesses have had: it is performed when it needs no further one; otherwise it has done nothing yet but to ask for the next. -/
def State.serve (s : State) (r : Run) (f : State → State) : State :=
  let s1 := f { s with cursor := { left := r.log } }
  match s1.cursor.block with
  | none => { s1 with cursor := {}, works := s1.works.erase r }
  | some a =>
    let r1 : Run := { r with log := s1.cursor.used, next := some a, tag := none }
    State.pumpRuns { s with works := if s.works.contains r then s.works.map (fun x => if x == r then r1 else x) else s.works ++ [r1] }

/-- Carry out a command of an I/O agent at a stop and endpoint. While an access of it is unanswered, the same command again changes nothing. (DEDUCED, assumption 26.) (DESIGN CHOICE, assumption 149.) -/
def State.served (s : State) (stop ep : Nat) (cmd : Instr) (f : State → State) : State :=
  match s.works.find? (fun r => r.stop == stop && r.ep == ep && r.cmd == cmd) with
  | some r => if r.next.isSome then s else s.serve r f
  | none => s.serve { stop := stop, ep := ep, cmd := cmd } f

/-- The answer that an access has had; without one the command waits for it. -/
def State.coh (s : State) (a : Acc) : CohAns × State :=
  match s.cursor.block, s.cursor.left with
  | some _, _ => (.err 0 0, s)
  | none, e :: l =>
    if e.1.same a then (e.2, { s with cursor := { s.cursor with left := l, used := s.cursor.used ++ [e] } })
    else (.err 0 0, { s with cursor := { s.cursor with left := [], block := some a } })
  | none, [] => (.err 0 0, { s with cursor := { s.cursor with block := some a } })

/-- Whether the command waits for an access. -/
def State.waiting (s : State) : Bool := s.cursor.block.isSome

/-- An access is answered: its tag is free, and the command that it was for can go on. -/
def State.runAnswer (s : State) (st tag : Nat) (a : CohAns) : Option Instr × State :=
  let s1 := s.setReq st tag none
  match s1.works.find? (fun r => r.stop == st && r.tag == some tag) with
  | none => (none, s1.pumpRuns)
  | some r =>
    let r1 : Run := { r with log := r.log ++ (r.next.map (fun x => (x, a))).toList, next := none, tag := none }
    (some r.cmd, State.pumpRuns { s1 with works := s1.works.map (fun x => if x == r then r1 else x) })

/-- Whether an agent waits for the answer to an access of its own. -/
def State.agentWaits (s : State) (st ep : Nat) : Bool := s.works.any (fun r => r.stop == st && r.ep == ep)

/-- What an agent was carrying out ends with its reset. -/
def State.dropAgent (s : State) (st ep : Nat) : State := { s with works := s.works.filter (fun r => !(r.stop == st && r.ep == ep)) }

/-- The runs of a stop end with its power (R434). -/
def State.dropRuns (s : State) (st : Nat) : State := { s with works := s.works.filter (fun r => r.stop != st) }

end Sys2Proof.Machine
end

