-- ==== Sys2Proof/Machine/HomeSteps.lean ====
section
/-! DEFINITION. The commands that reach a home slice: requests (R126, R128), the speculative pair (R122), snoop answers (R127), write data, memory answers
and acknowledgements. -/
namespace Sys2Proof.Machine

/-- The tile whose home a packet reaches. -/
def State.tileOf (s : State) (p : Packet) : Nat := (stopTile p.dstN).getD (s.homeTile p.gran)

/-- A request arrives at its home (R119). -/
def State.homeArrive (s : State) (op : BitVec 8) (p : Packet) : State :=
  s.receive p (fun s => s.homeRequest (s.tileOf p) { p with opcode := op })

/-- A speculative ReadShared: served from an LLC hit that no other agent owns, else held, else Retry (R122). -/
def State.specRead (s : State) (p0 : Packet) : State :=
  let p := { p0 with opcode := Opc.readShared }
  let t := s.tileOf p
  let sec := p.sec
  let x : Tx := { sec := sec, pkt := p, phase := .snoops }
  let shared : Bool := match s.dirFind t sec with
    | none => true
    | some (_, e) => e.st == .ds || some e.owner == agentId p.srcN p.epN
  if !reqAttrOk Opc.readShared p then s.send (errAnswer p (tileStop t) Err.format Origin.home)
  else if !s.memAddressOk (tileStop t) sec then s.send (errAnswer p (tileStop t) Err.address Origin.home)
  else
  let s := s.deedNote (dcSlice t) (sec / 64)
  if !s.deedOk sec p.widN false then (s.deedRefused t sec p.widN).send (errAnswer p (tileStop t) Err.permission Origin.home)
  else
    let s := s.llcCount t p
    let c : PmuCtx := { wid := some p.widN, agent := some p.srcN }
    let hold : State := if (s.slice t).spec.length < 32 then (s.modSlice t (fun c => { c with spec := c.spec ++ [p] })).pmu .tile t 0x10A 1 c
                        else (s.pmu .tile t 0x106 1 c).send (answer p (tileStop t) Opc.retry 0)
    match s.homeData t sec with
    | some (d, po, _) => if shared then s.compData t x 0 d po else hold
    | none => hold

/-- READ_SHARED (R122, R126). -/
def execReadShared (p : Packet) (s : State) : Host.Outcome State Fault Refusal :=
  if p.spec then ok (s.receive p (fun s => s.specRead p)) else ok (s.homeArrive Opc.readShared p)

/-- READ_UNIQUE (R126). -/
def execReadUnique (p : Packet) (s : State) : Host.Outcome State Fault Refusal := ok (s.homeArrive Opc.readUnique p)

/-- READ_ONCE (R126, R129, R207). -/
def execReadOnce (p : Packet) (s : State) : Host.Outcome State Fault Refusal := ok (s.homeArrive Opc.readOnce p)

/-- CLEAN_UNIQUE (R126). -/
def execCleanUnique (p : Packet) (s : State) : Host.Outcome State Fault Refusal := ok (s.homeArrive Opc.cleanUnique p)

/-- WRITE_INVALIDATE_FULL (R126). -/
def execWriteInvalidateFull (p : Packet) (s : State) : Host.Outcome State Fault Refusal := ok (s.homeArrive Opc.writeInvFull p)

/-- WRITE_PARTIAL (R126, R131). -/
def execWritePartial (p : Packet) (s : State) : Host.Outcome State Fault Refusal := ok (s.homeArrive Opc.writePartial p)

/-- Remove a requester's listing, whether or not the sector is BUSY; an entry nobody is listed in is freed when no transaction is open (R128, R137). -/
def State.dropListing (s : State) (t sec a : Nat) : State :=
  match s.dirFind t sec with
  | none => s
  | some (k, e) =>
    if !s.listed e a then s else
    let e1 := if e.st != .ds && e.owner == a then (if e.st == .dx then { e.dropOwner with ptrs := [] } else e.dropOwner) else e.dropS a
    if e1.empty && !e1.busy then s.setDir k none else s.setDir k (some e1)

/-- EVICT_CLEAN (R128, R137): applied on arrival, never queued, retried or answered. -/
def execEvictClean (p : Packet) (s : State) : Host.Outcome State Fault Refusal :=
  ok (s.receive p (fun s => match agentId p.srcN p.epN with
    | some a => s.dropListing (s.tileOf p) p.sec a
    | none => s))

/-- WRITE_BACK_DIRTY (R128, R138). -/
def execWriteBackDirty (p : Packet) (s : State) : Host.Outcome State Fault Refusal := ok (s.homeArrive Opc.writeBackDirty p)

/-- WRITE_BACK_OWNED (R128, R138). -/
def execWriteBackOwned (p : Packet) (s : State) : Host.Outcome State Fault Refusal := ok (s.homeArrive Opc.writeBackOwned p)

/-- Whether a held speculative request is the one a packet names: same source and tag (R115, R122). -/
def sameTag (p q : Packet) : Bool := p.src == q.src && p.tag == q.tag

/-- SPEC_RELEASE (R122, R218): the held request enters the home queue as an ordinary ReadShared; otherwise the message is discarded. -/
def execSpecRelease (p : Packet) (s : State) : Host.Outcome State Fault Refusal :=
  ok (s.receive p (fun s =>
    let t := s.tileOf p
    match (s.slice t).spec.find? (sameTag p) with
    | some q => (s.modSlice t (fun c => { c with spec := c.spec.erase q })).homeRequest t { q with attr := q.attr &&& 0xFFFE }
    | none => s))

/-- SPEC_CANCEL (R122, R218): any held request is dropped and the home answers Comp. -/
def execSpecCancel (p : Packet) (s : State) : Host.Outcome State Fault Refusal :=
  ok (s.receive p (fun s =>
    let t := s.tileOf p
    (s.modSlice t (fun c => { c with spec := c.spec.filter (fun q => !sameTag p q) })).send (answer p (tileStop t) Opc.comp 0)))

/-- An answer of a snooped agent joins its transaction; with the last one the transaction is served (R127, R145). -/
def State.snoopAnswer (s : State) (t : Nat) (x : Tx) (a st : Nat) (fwd dead : Bool) (data : Option (Sector × Bool)) : State :=
  if x.waits.contains a then
    let isOwner : Bool := x.owner == some a
    let x1 := { x with waits := x.waits.erase a,
                       ownerSt := if isOwner then st else x.ownerSt,
                       fwd := x.fwd || fwd,
                       ownerDead := x.ownerDead || (isOwner && dead),
                       dirty := match data with
                         | some d => some d
                         | none => x.dirty }
    let s1 := s.setTx t x1
    if x1.waits.isEmpty then (s1.txAnswered t x1).hqScan t 49 else s1
  else s

/-- SNP_RESP (R127, R200): attributed to the holder by SRC_STOP and RESP_ENDPOINT. -/
def execSnpResp (p : Packet) (s : State) : Host.Outcome State Fault Refusal :=
  ok (s.receive p (fun s =>
    let t := s.tileOf p
    match s.tx t p.sec, agentId p.srcN p.respEp with
    | some x, some a => s.snoopAnswer t x a p.snpState p.snpFwd p.snpDead none
    | _, _ => s))

/-- SNP_RESP_DATA (R127, R200): matched by the requester's stop in ENDPOINT and TAG; only the owner returns data. -/
def execSnpRespData (p : Packet) (s : State) : Host.Outcome State Fault Refusal :=
  ok (s.receive p (fun s =>
    let t := s.tileOf p
    match (s.slice t).txs.find? (fun x => x.pkt.src == p.endpoint && x.pkt.tag == p.tag && !x.waits.isEmpty) with
    | some x =>
      (match x.owner with
        | some a => s.snoopAnswer t x a (p.opcode.toNat % 4) (p.opcode.toNat / 4 % 2 == 1) false (some (p.payload, p.poison))
        | none => s)
    | none => s))

/-- COMP_ACK (R119, R200): the transaction closes; one that comes before the last snoop answer, which it may overtake (R136), is remembered. -/
def execCompAck (p : Packet) (s : State) : Host.Outcome State Fault Refusal :=
  ok (s.receive p (fun s =>
    let t := s.tileOf p
    match s.tx t p.sec with
    | some x => if x.phase == .ack then s.txClose t x else if x.phase == .snoops && !x.back then s.setTx t { x with acked := true } else s
    | none => s))

/-- Write data at a home: a write-back is placed in the LLC and closes (R119, R128); a write is merged, placed or performed (R127, R131). None where no
transaction pulled it. -/
def State.homeWriteData (s : State) (p : Packet) (d : Sector) (m : BitVec 64) (po : Bool) (aop : Nat) : Option State :=
  match stopTile p.dstN with
  | none => none
  | some t =>
    match (s.slice t).txs.find? (fun x => x.phase == .pull && sameTag x.pkt p) with
    | none => none
    | some x =>
      let wb : Bool := x.pkt.opcode == Opc.writeBackDirty || x.pkt.opcode == Opc.writeBackOwned
      if wb then
        let s1 := s.placeDirty t x.sec d po x.pkt.widN
        let s2 := match x.agent with
          | some a =>
            if x.pkt.opcode == Opc.writeBackDirty then (if x.pkt.keep then s1 else s1.modDir t x.sec (fun e => { e.dropOwner with ptrs := [] }))
            else s1.modDir t x.sec (fun e => if x.pkt.keep then e.dropOwner.addS a else e.dropOwner)
          | none => s1
        some (s2.txClose t x)
      else some ((s.txWrite t x d m po aop).hqScan t 49)

/-- The memory message with a tag at a home, taken out of the list; its write credit returns (R139, R210). -/
def State.memTake (s : State) (t tag : Nat) : Option (MemMsg × State) :=
  match (s.slice t).mem.find? (fun m => m.sent && m.tag == tag) with
  | none => none
  | some m =>
    let tgt := (s.memTarget (tileStop t) m.gran).1
    some (m, (s.setReq (tileStop t) tag none).modSlice t (fun c =>
      { c with mem := c.mem.filter (fun y => !(y.sent && y.tag == tag)),
               credits := if m.write then c.credits.set 0 tgt (c.credits.get 0 tgt - 1) else c.credits,
               evb := if m.evict then c.evb.eraseP (fun e => e.gran == m.gran) else c.evb }))

/-- Whether the companion of a filled sector may be installed (R85, R143, R146). -/
def State.companionOk (s : State) (t sec : Nat) (l : LlcLine) : Bool :=
  let comp := xorNat sec 1
  !l.valid (comp % 2) && (s.tx t comp).isNone
    && (match s.dirFind t comp with
      | some (_, e) => e.st == .ds
      | none => true)
    && (match s.evFind t (sec / 2) with
      | some e => !e.valid (comp % 2)
      | none => true)

/-- Install a memory fill whose read had an eviction-buffer entry reserved: the requested sector, and the companion where R85 allows; a prefetch's sectors both under that
condition (R81, R82, R92, R140). -/
def State.install (s : State) (t sec : Nat) (p : Packet) (pf : Bool) (d0 d1 : Sector) (p0 p1 : Bool) : State :=
  let i := sec % 2
  let put (s : State) (k : Nat) (l : LlcLine) : State :=
    let own : Bool := !l.valid i && (!pf || (match s.dirFind t sec with
      | some (_, e) => e.st == .ds
      | none => true))
    let l1 := if own then l.put i true false (if i = 0 then d0 else d1) (if i = 0 then p0 else p1) else l
    let l2 := if s.companionOk t sec l then l1.put (1 - i) true false (if i = 0 then d1 else d0) (if i = 0 then p1 else p0) else l1
    s.setLlc k (if l2.v0 || l2.v1 then some { l2 with rrpv := 2 } else none)
  match s.llcFind t (sec / 2) with
  | some (k, _, l) => if l.pinned then s else put s k l
  | none =>
    match s.llcAlloc t (sec / 2) (s.classOf p.widN) p.widN with
    | some (k, s1) => put s1 k { gran := sec / 2 }
    | none => s

/-- MEM_DATA at a home (R139, R85): the fill is installed and the transaction that waits is served. -/
def State.homeMemData (s : State) (p : Packet) : State :=
  match stopTile p.dstN with
  | none => s
  | some t =>
    match s.memTake t p.tagN with
    | none => s
    | some (m, s1) =>
      let s2 := match m.forSec with
        | none => s1
        | some sec =>
          (match s1.tx t sec with
            | none => s1
            | some x =>
              let d := if sec % 2 = 0 then p.payload else p.payload2
              let po := if sec % 2 = 0 then p.poison else p.poison2
              let s2 := if m.resv then s1.install t sec x.pkt m.prefetch.isSome p.payload p.payload2 p.poison p.poison2 else s1
              if m.prefetch.isSome then (s2.respond t x Opc.comp 0).txDone t x
              else if x.pkt.atomic then s2.txAtomic t x d po
              else s2.txGrant t x d po false)
      (s2.memPump t).hqScan t 49

/-- A write that a transaction waited on is performed: CompData of a far atomic, else Comp; the transaction closes (R127, R129, R131). -/
def State.memPerformed (s : State) (t sec : Nat) : State :=
  match s.tx t sec with
  | none => s
  | some x =>
    if x.phase != .memWrite then s
    else
      match x.pkt.atomic, x.dirty with
      | true, some (old, po) => (s.compData t x 0 old po).txDone t x
      | _, _ => (s.respond t x Opc.comp 0).txDone t x

/-- MEM_ACK (R139, R210): the credit returns, an eviction-buffer entry is freed, and a transaction that waited is answered. -/
def execMemAck (p : Packet) (s : State) : Host.Outcome State Fault Refusal :=
  ok (s.receive p (fun s => match stopTile p.dstN with
    | none => s
    | some t =>
      match s.memTake t p.tagN with
      | none => s
      | some (m, s1) =>
        let s2 := match m.forSec with
          | some sec => s1.memPerformed t sec
          | none => s1
        (s2.memPump t).hqScan t 49))

/-- The gate's Comp for a MemWrite: it returns no credit and frees no tag; a write other than WT is performed (R127, R129, R210). -/
def State.gateComp (s : State) (t tag : Nat) : State :=
  match (s.slice t).mem.find? (fun m => m.sent && m.tag == tag) with
  | some m =>
    (match m.forSec with
      | some sec =>
        (match s.tx t sec with
          | some x =>
            if x.pkt.etype == 1 && x.pkt.opcode != Opc.readOnce then s
            else ((s.modSlice t (fun c => { c with mem := c.mem.map (fun y => if y.sent && y.tag == tag then { y with forSec := none } else y) })).memPerformed t
              sec).hqScan t 49
          | none => s)
      | none => s)
  | none => s

/-- A memory target answers a home with an error: the response goes to the requester, and data of a lost victim is recorded (R127, R151, R304). -/
def State.homeMemError (s : State) (t : Nat) (p : Packet) : State :=
  match s.memTake t p.tagN with
  | none => s
  | some (m, s1) =>
    let s2 := if m.write && m.forSec.isNone then
        s1.errorEvent .tile t { sev := .uec, code := Ev.storeLost, addr := some (m.gran * 128), errCode := p.errCode, origin := p.errOrigin }
          (srcSlice t m.wid) (w64 (m.gran * 128)) (w64 (p.errCode + p.errOrigin * 256)) else s1
    let s3 := match m.forSec with
      | some sec => (match s2.tx t sec with
        | some x => s2.txFail t x p.errCode p.errOrigin
        | none => s2)
      | none => s2
    (s3.memPump t).hqScan t 49

/-- RESERVE_LIMIT_EXPIRY (R157): the slot loses its reservation and moves to the tail; the reservation passes to the next eligible slot. -/
def execReserveLimitExpiry (tile : Fin 136) (slot : Fin 512) (s : State) : Host.Outcome State Fault Refusal :=
  let t := tile.val
  let c := s.slice t
  match c.roster.find? (fun r => r.slot == slot.val) with
  | some r =>
    (match r.res with
      | some kind =>
        let rest := reserveFor (c.roster.filter (fun q => q.slot != slot.val)) kind
        ok (s.setSlice t { c with roster := rest ++ [{ r with res := none }] })
      | none => ok s)
  | none => ok s

end Sys2Proof.Machine
end

