-- ==== Sys2Proof/Machine/Xlate.lean ====
section
/-! DEFINITION. The checks that a core makes of an access before it performs it (R31, R34, R75): translation from the leaf entries of a walk, physical memory protection and
debug triggers. Where R31 names the privileged architecture, the debug specification and their extensions, the rules are theirs. -/
namespace Sys2Proof.Machine

/-! ### Effective privilege and address spaces -/

/-- The mode in which a hart's loads and stores are made: MPRV lends M mode the mode of MPP and MPV. -/
def State.dataPriv (s : State) (h : Nat) : Priv × Bool :=
  let x := s.hart h
  let st := s.csr h 0x300
  if x.priv = .m ∧ bitsOf st 17 1 = 1 then
    let p := Priv.ofCode (bitsOf st 11 2)
    (p, p != .m && bitsOf st 39 1 == 1)
  else (x.priv, x.virt)

/-- Whether the first stage and the guest stage translate the hart's loads and stores. -/
def State.stages (s : State) (h : Nat) : Bool × Bool :=
  let p := s.dataPriv h
  if p.1 = .m then (false, false)
  else (bitsOf (s.csr h (if p.2 then 0x280 else 0x180)) 60 4 != 0, p.2 && bitsOf (s.csr h 0x680) 60 4 != 0)

/-! ### Leaf entries -/

/-- What a leaf entry makes of an access: a page fault, or the physical page's address, with the bits of its level and NAPOT taken from the virtual address, and its type. NAPOT is 64 KiB only,
A and D are not updated by hardware (R34), and the type is that of Svpbmt where `pbmt` enables it. -/
def leafCheck (pte : Word) (level va : Nat) (store ok pbmt : Bool) : Option (Nat × PageType) :=
  let ppn := bitsOf pte 10 44
  let napot : Bool := bitsOf pte 63 1 == 1
  let t := bitsOf pte 61 2
  let low := if napot then 4 else 9 * level
  let bad : Bool := bitsOf pte 0 1 == 0 || !ok || bitsOf pte 6 1 == 0 || (store && bitsOf pte 7 1 == 0) || bitsOf pte 54 7 != 0 || t == 3 || (t != 0 && !pbmt)
    || (bitsOf pte 1 1 == 0 && bitsOf pte 2 1 == 1) || (napot && (level != 0 || ppn % 16 != 8)) || (!napot && ppn % 2 ^ low != 0)
  if bad then none
  else some ((ppn / 2 ^ low * 2 ^ low + va / 4096 % 2 ^ low) * 4096 + va % 4096, if t = 1 then .nc else if t = 2 then .io else .pma)

/-- Whether a first-stage leaf admits a mode: U pages, SUM and MXR. -/
def stageOk (pte st : Word) (priv : Priv) (store : Bool) : Bool :=
  let u : Bool := bitsOf pte 4 1 == 1
  (if store then bitsOf pte 2 1 == 1 else bitsOf pte 1 1 == 1 || (bitsOf st 19 1 == 1 && bitsOf pte 3 1 == 1))
    && (if priv = .u then u else !u || bitsOf st 18 1 == 1)

/-- The translation of one part of a hart's access: bare, or from what the walk read. -/
def State.translate (s : State) (h : Nat) (va : Nat) (store : Bool) (x : Xlate) : Xlate :=
  let m := s.dataPriv h
  let st := s.stages h
  if !st.1 && !st.2 then { pa := BitVec.ofNat 52 va, fault := if va < 2 ^ 52 then none else some (if store then 7 else 5) }
  else if x.fault.isSome || x.poisonWalk then x
  else
    let status := s.csr h (if m.2 then 0x200 else 0x300)
    let page := if store then 15 else 13
    let guest := if store then 23 else 21
    let pb (r : Nat) : Bool := bitsOf (s.csr h r) 62 1 == 1
    let one : Option (Nat × PageType) := match st.1, x.leaf with
      | true, some (pte, lvl) => leafCheck pte lvl va store (stageOk pte status m.1 store) (if m.2 then pb 0x60A else pb 0x30A)
      | true, none => some (x.pa.toNat, x.ptype)
      | false, _ => some (va, .pma)
    match one with
    | none => { x with fault := some page }
    | some (gpa, ty) =>
      match st.2, x.gleaf with
      | true, some (pte, lvl) =>
        let u : Bool := bitsOf pte 4 1 == 1 && (if store then bitsOf pte 2 1 == 1 else bitsOf pte 1 1 == 1 || (bitsOf (s.csr h 0x300) 19 1 == 1 && bitsOf pte 3 1 == 1))
        (match leafCheck pte lvl gpa store u (pb 0x30A) with
          | none => { x with fault := some guest, gpa := w64 gpa }
          | some (pa, gt) => { x with pa := BitVec.ofNat 52 pa, ptype := if ty = .pma then gt else ty })
      | _, _ => { x with pa := BitVec.ofNat 52 gpa, ptype := ty }

/-! ### Physical memory protection -/

/-- The entry byte of a PMP entry. -/
def State.pmpCfg (s : State) (h i : Nat) : Nat := bitsOf (s.csr h (0x3A0 + i / 8 * 2)) (i % 8 * 8) 8

/-- The range of a PMP entry in bytes, low and high, at granularity 4 KiB (R34): none where it is OFF. -/
def State.pmpRange (s : State) (h i : Nat) : Option (Nat × Nat) :=
  let a := (s.csr h (0x3B0 + i)).toNat
  match s.pmpCfg h i / 8 % 4 with
  | 1 => some (if i = 0 then 0 else (s.csr h (0x3B0 + i - 1)).toNat / 1024 * 4096, a / 1024 * 4096)
  | 3 =>
    let v := Nat.lor a 511
    let k := ((List.range 54).takeWhile (fun j => v / 2 ^ j % 2 == 1)).length
    some (v / 2 ^ k * 2 ^ k * 4, v / 2 ^ k * 2 ^ k * 4 + 2 ^ (k + 3))
  | _ => none

/-- Whether an entry admits an access by a mode (Smepmp where MML is set). -/
def pmpAllows (cfg : Nat) (mml : Bool) (machine store : Bool) : Bool :=
  let r := cfg % 2
  let w := cfg / 2 % 2
  let x := cfg / 4 % 2
  let l : Bool := cfg / 128 == 1
  if !mml then (machine && !l) || (if store then w == 1 else r == 1)
  else if r == 0 && w == 1 then
    (if l then (x == 1 && machine && !store) else (!store || machine || x == 1))
  else if r == 1 && w == 1 && x == 1 && l then !store
  else (l == machine) && (if store then w == 1 else r == 1)

/-- Whether physical memory protection admits `n` bytes at an address: the lowest entry that matches any byte must match all of them and admit the mode; without a match M mode
may, unless MMWP is set, and no other mode. -/
def State.pmpOk (s : State) (h : Nat) (priv : Priv) (pa n : Nat) (store : Bool) : Bool :=
  let sec := s.csr h 0x747
  match (List.range 64).find? (fun i => match s.pmpRange h i with
    | some (lo, hi) => decide (lo < pa + n) && decide (pa < hi)
    | none => false) with
  | none => priv == .m && bitsOf sec 1 1 == 0
  | some i => match s.pmpRange h i with
    | some (lo, hi) => decide (lo ≤ pa) && decide (pa + n ≤ hi) && pmpAllows (s.pmpCfg h i) (bitsOf sec 0 1 == 1) (priv == .m) store
    | none => false

/-! ### Debug triggers -/

/-- The place of register k of trigger i. -/
def trigKey (i k : Nat) : Nat := 0x10000 + 16 * i + k

/-- Whether the mode bits of a trigger word admit a hart's mode: M, S, U, VS and VU at the places given. -/
def trigMode (d : Word) (x : Hart) (m sb u vs vu : Nat) : Bool :=
  match x.priv, x.virt with
  | .m, _ => bitsOf d m 1 == 1
  | .s, false => bitsOf d sb 1 == 1
  | .u, false => bitsOf d u 1 == 1
  | .s, true => bitsOf d vs 1 == 1
  | .u, true => bitsOf d vu 1 == 1

/-- The address comparison of an mcontrol6 trigger: equal, NAPOT, not less, less, and their negations. -/
def trigAddr (mode : Nat) (d2 va : Nat) : Bool :=
  let k := ((List.range 63).takeWhile (fun j => d2 / 2 ^ j % 2 == 1)).length + 1
  match mode with
  | 0 => d2 == va
  | 1 => d2 / 2 ^ k == va / 2 ^ k
  | 2 => decide (d2 ≤ va)
  | 3 => decide (va < d2)
  | 8 => d2 != va
  | 9 => d2 / 2 ^ k != va / 2 ^ k
  | _ => false

/-- What a trigger looks at: an executed address, a load or a store with its size. -/
inductive TrigOn where
  | execute | load | store
  deriving DecidableEq, Repr

/-- Whether trigger i is an mcontrol6 trigger that matches (R34, R75). Only addresses are compared. -/
def State.trigMatch (s : State) (h i : Nat) (on : TrigOn) (va size : Nat) : Bool :=
  let d := s.csr h (trigKey i 1)
  let sz := bitsOf d 16 3
  bitsOf d 60 4 == 6 && trigMode d (s.hart h) 6 4 3 24 23 && bitsOf d 21 1 == 0
    && (match on with
      | .execute => bitsOf d 2 1 == 1
      | .store => bitsOf d 1 1 == 1
      | .load => bitsOf d 0 1 == 1)
    && (sz == 0 || (sz == 1 && size == 1) || (sz == 2 && size == 2) || (sz == 3 && size == 4) || (sz == 5 && size == 8))
    && trigAddr (bitsOf d 7 4) (s.csr h (trigKey i 2)).toNat va

/-- The trigger that fires on an address: the first that matches and, where it is chained, whose chain matches; true when its action enters debug mode (R34, R321). -/
def State.trigHit (s : State) (h : Nat) (on : TrigOn) (va size : Nat) : Option Bool :=
  let chain (i : Nat) : Nat := bitsOf (s.csr h (trigKey i 1)) 11 1
  let fires (i : Nat) : Bool := (i == 0 || chain (i - 1) == 0)
    && ((List.range (8 - i)).takeWhile (fun j => j == 0 || chain (i + j - 1) == 1)).all (fun j => s.trigMatch h (i + j) on va size)
  let last (i : Nat) : Nat := i + ((List.range (7 - i)).takeWhile (fun j => chain (i + j) == 1)).length
  ((List.range 8).find? fires).map (fun i => bitsOf (s.csr h (trigKey (last i) 1)) 12 4 == 1)

/-- The itrigger (4) or etrigger (5) that fires on a trap taken from a mode: true when its action enters debug mode. -/
def State.trapTrigger (s : State) (h type cause : Nat) (x : Hart) : Option Bool :=
  ((List.range 8).find? (fun i =>
    let d := s.csr h (trigKey i 1)
    bitsOf d 60 4 == type && trigMode d x 9 7 6 12 11 && bitsOf (s.csr h (trigKey i 2)) (cause % 64) 1 == 1)).map
      (fun i => bitsOf (s.csr h (trigKey i 1)) 0 6 == 1)

/-- The icount triggers of a hart that count an instruction, and whether the count of trigger i then ends (R34). -/
def State.icounts (s : State) (h i : Nat) : Bool :=
  let d := s.csr h (trigKey i 1)
  bitsOf d 60 4 == 3 && trigMode d (s.hart h) 9 7 6 26 25 && bitsOf d 10 14 != 0

end Sys2Proof.Machine
end

