-- ==== Sys2Proof/Machine/CoreOps.lean ====
section
/-! DEFINITION. The requester's side of a core: its cached sectors (R110, R123), the requests it sends (R115, R120, R156), its store queue and shadow buffer
(R60, R66 to R69), prefetch (R91), hold windows (R152), and what its instructions in flight do next. -/
namespace Sys2Proof.Machine

/-! ### Performance events (R511 to R514) -/

/-- Advance the performance counter k of a hart by n; a wrap sets OF and raises the local counter-overflow interrupt where OF was clear (R34, R510, R511). -/
def State.countHpm (s : State) (h k n : Nat) : State :=
  let ev := s.csr h (0x320 + k)
  let x := s.hart h
  let inhib : Bool := bitsOf (s.csr h 0x320) k 1 == 1
    || (x.priv == .m && bitsOf ev 62 1 == 1)
    || (x.priv == .s && !x.virt && bitsOf ev 61 1 == 1) || (x.priv == .u && !x.virt && bitsOf ev 60 1 == 1)
    || (x.priv == .s && x.virt && bitsOf ev 59 1 == 1) || (x.priv == .u && x.virt && bitsOf ev 58 1 == 1)
  if inhib then s
  else
    let v := (s.csr h (0xB00 + k)).toNat + n
    if v < 2 ^ 48 then s.setCsr h (0xB00 + k) (w64 v)
    else
      let s1 := s.setCsr h (0xB00 + k) (w64 (v % 2 ^ 48))
      if bitsOf ev 63 1 = 1 then s1 else (s1.setCsrBits h (0x320 + k) 63 1 1).setCsrBits h 0x344 13 1 1

/-- Count n occurrences of a performance event of a hart in every counter that selects it (R512). -/
def State.hartEvents (s : State) (h ev n : Nat) : State :=
  (List.range 8).foldl (fun s j => if bitsOf (s.csr h (0x323 + j)) 0 12 = ev ∧ ev ≠ 0 then s.countHpm h (3 + j) n else s) s

/-- Count a performance event of a hart (R512). -/
def State.hartEvent (s : State) (h ev : Nat) : State := s.hartEvents h ev 1

/-- Count a wrong-path occurrence in the counters that select its event with SPEC (R512). -/
def State.specEvent (s : State) (h ev : Nat) : State :=
  (List.range 8).foldl (fun s j => if bitsOf (s.csr h (0x323 + j)) 0 13 = ev + 2 ^ 12 ∧ ev ≠ 0 then s.countHpm h (3 + j) 1 else s) s

/-! ### Lines -/

def State.cline (s : State) (a sec : Nat) : CLine := s.caches.get {} (a * 2 ^ 46 + sec)
def State.setCline (s : State) (a sec : Nat) (l : CLine) : State := { s with caches := s.caches.set {} (a * 2 ^ 46 + sec) l }

/-- A state in which a load hits (R124). -/
def CState.readable : CState → Bool
  | .s | .e | .o | .m => true
  | _ => false
/-- A state in which a store hits (R124). -/
def CState.writable : CState → Bool
  | .e | .m => true
  | _ => false

/-- The sectors that an agent's cache lists. -/
def State.heldBy (s : State) (a : Nat) : List (Nat × CLine) :=
  s.caches.filterMap (fun e => if e.1 / 2 ^ 46 = a then some (e.1 % 2 ^ 46, e.2) else none)

/-! ### Requests -/

/-- The world of the hart on a core. -/
def State.coreWid (s : State) (c : Nat) : Nat :=
  match s.hartOf c with
  | some h => s.seat h
  | none => 0

/-- A core's packet to the home of a sector (R197). -/
def State.corePacket (s : State) (c sec : Nat) (op : BitVec 8) (attr : BitVec 16) : Packet :=
  { opcode := op, wid := BitVec.ofNat 6 (s.coreWid c), src := BitVec.ofNat 8 (coreStop c), dst := BitVec.ofNat 8 (s.homeStop sec),
    endpoint := BitVec.ofNat 8 (c % 2), address := BitVec.ofNat 46 sec, attr := attr }

/-- Send a core's request (R115): its tag and the state. A bound request trains the core's LLC detector (R92). -/
def State.coreSend (s : State) (c sec : Nat) (op : BitVec 8) (attr : BitVec 16) (r : Req) : Nat × State :=
  let p := s.corePacket c sec op attr
  let t := s.request (coreStop c) { r with pkt := p, ep := c % 2 }
  if r.unbound || r.purp == .prefetch then t else (t.1, t.2.detect (coreStop c) (c % 2) p)

/-- Whether a core may send a request for a sector: it has none open (R120), its slot waits behind no Retry (R156), and it is not draining (R148). -/
def State.canSend (s : State) (c sec : Nat) : Bool :=
  (s.openReq (coreStop c) (c % 2) sec).isNone && !s.homeBlocked (coreStop c) (c % 2) (s.homeStop sec) && !(s.core c).quiet

/-- Whether an open request is a speculative one that its home holds or that is cancelled: it delays no cache-block operation (R146). -/
def Req.held (r : Req) : Bool := r.pkt.spec || r.purp == .cancel

/-- Whether a core has no request open for a sector, held speculative ones aside (R120, R146). -/
def State.noneOpen (s : State) (c sec : Nat) : Bool :=
  s.reqs.all (fun e => match e.2 with
    | some r => !(e.1 / 4096 == coreStop c && r.ep == c % 2 && r.pkt.sec == sec && isCoherentReq r.pkt.opcode && !r.held)
    | none => true)

/-- The same as `canSend` for a cache-block operation, which a held speculative request does not delay (R146). -/
def State.canSendCbo (s : State) (c sec : Nat) : Bool :=
  s.noneOpen c sec && !s.homeBlocked (coreStop c) (c % 2) (s.homeStop sec) && !(s.core c).quiet

/-- A sector leaves a core's L1D or L2: a reservation on it is lost (R38), a wait for a change to it ends (R34), and shadow entries that it served are no longer kept
current by snoops (R69). -/
def State.sectorLeft (s : State) (c sec : Nat) (l2 : Bool) : State :=
  match s.hartOf c with
  | none => s
  | some h => s.modHart h (fun x =>
      { x with resv := if x.resv == some sec then none else x.resv,
               wait := if x.resv == some sec && (x.wait == .wrsNto sec || x.wait == .wrsSto sec) then .run else x.wait,
               shadowD := if l2 then x.shadowD.map (fun e => if e.sec = sec then { e with fromLlc := true } else e) else x.shadowD })

/-- Whether a core may evict a sector now: it has no request open for it (R120), no hold window keeps it, and a write-back is not held behind a Retry (R156). -/
def State.mayEvict (s : State) (c sec : Nat) : Bool :=
  s.noneOpen c sec && !(s.core c).windows.any (fun w => w.sec == sec)
    && !(((s.cline c sec).st == .m || (s.cline c sec).st == .o) && s.homeBlocked (coreStop c) (c % 2) (s.homeStop sec))

/-- Evict a core's copy of a sector (R124): a clean one with EvictClean, a dirty one with a write-back. -/
def State.evictLine (s : State) (c sec : Nat) (keep : Bool) : State :=
  let l := s.cline c sec
  let at_ := reqAttr false false keep 0 false 0 false
  if !s.mayEvict c sec then s
  else match l.st with
  | .s | .e => if keep then s else ((s.setCline c sec {}).sectorLeft c sec true).send (s.corePacket c sec Opc.evictClean 0)
  | .m => (((if keep then s else s.sectorLeft c sec true).setCline c sec { l with st := .miP, keep := keep }).coreSend c sec Opc.writeBackDirty at_
      { pkt := {}, ep := 0, purp := .writeback, unbound := true }).2
  | .o => (((if keep then s else s.sectorLeft c sec true).setCline c sec { l with st := .oiP, keep := keep }).coreSend c sec Opc.writeBackOwned at_
      { pkt := {}, ep := 0, purp := .writeback, unbound := true }).2
  | _ => s

/-- The sets of the L2 and the L1D: the way count and the set of a sector (R80). -/
def l2Set (sec : Nat) : Nat := sec % 1024
def l1dSet (sec : Nat) : Nat := sec % 128

/-- The other sectors that the L2 set of a sector holds. -/
def State.l2Others (s : State) (c sec : Nat) : List (Nat × CLine) :=
  (s.heldBy c).filter (fun e => decide (l2Set e.1 = l2Set sec) && e.1 != sec && e.2.st.readable)

/-- Make room in the L2 set of a sector: with eight sectors held there, the pseudo-LRU choice among those that may leave leaves (R80, R120, R124). (DESIGN CHOICE, assumption 146.) -/
def State.l2Room (s : State) (c sec : Nat) : State :=
  let occ := s.l2Others c sec
  if occ.length < 8 then s
  else
    let out := occ.filter (fun e => s.mayEvict c e.1)
    match out[Config.freeChoice s.fresh % out.length]? with
    | some e => ({ s with fresh := s.fresh + 1 }).evictLine c e.1 false
    | none => s

/-- Mark a sector as present in the L1D; a full set gives up its pseudo-LRU choice, which stays in the L2 (R80). -/
def State.l1dFill (s : State) (c sec : Nat) : State :=
  let l := s.cline c sec
  if l.l1d || !l.st.readable then s
  else
    let occ := (s.heldBy c).filter (fun e => e.2.l1d && decide (l1dSet e.1 = l1dSet sec))
    let s1 := if occ.length < 8 then s
      else match occ[Config.freeChoice s.fresh % occ.length]? with
        | some e => ({ s with fresh := s.fresh + 1 }.setCline c e.1 { e.2 with l1d := false }).sectorLeft c e.1 false
        | none => s
    s1.setCline c sec { l with l1d := true }

/-- Put a block into the L1I; a full set of four ways gives up its pseudo-LRU choice (R80). -/
def State.l1iFill (s : State) (c sec : Nat) : State :=
  let k := s.core c
  if k.l1i.contains sec then s
  else
    let occ := k.l1i.filter (fun b => decide (b % 256 = sec % 256))
    if occ.length < 4 then s.setCore c { k with l1i := k.l1i ++ [sec] }
    else match occ[Config.freeChoice s.fresh % occ.length]? with
      | some b => State.setCore { s with fresh := s.fresh + 1 } c { k with l1i := k.l1i.erase b ++ [sec] }
      | none => s

/-- A block leaves the L1I (R71, R72). -/
def State.l1iDrop (s : State) (c sec : Nat) : State := s.modCore c (fun k => { k with l1i := k.l1i.filter (fun b => b != sec) })

/-- The state that a grant code gives: 0 I, 1 S, 2 E, 3 M (R205). -/
def grantState (g : Nat) : CState := if g = 1 then .s else if g = 2 then .e else if g = 3 then .m else .i

/-- Install a granted sector in a core's L2 (R124); where no sector of its set may leave, the granted one leaves again. -/
def State.l2Fill (s : State) (c sec g : Nat) (d : Sector) (p : Bool) : State :=
  let s1 := s.l2Room c sec
  let s2 := s1.setCline c sec { st := grantState g, data := d, poison := p, pf := (s1.cline c sec).pf }
  if 8 ≤ (s2.l2Others c sec).length then s2.evictLine c sec false else s2

/-- Install a granted sector in a core's L2 and L1D (R124). -/
def State.coreFill (s : State) (c sec g : Nat) (d : Sector) (p : Bool) : State := (s.l2Fill c sec g d p).l1dFill c sec

/-! ### Store queue -/

/-- The bytes of a sector that the entries of a store queue would write over it, oldest first. -/
def overlay (q : List StoreEnt) (sec : Nat) : BitVec 64 × Sector :=
  q.foldl (fun a e =>
    if e.sec = sec then
      let m : BitVec 64 := if e.zero then fullMask else spanMask e.off e.len
      let d : Sector := if e.zero then 0 else sectorAt e.val e.off e.len
      (a.1 ||| m, mergeSector a.2 d m)
    else a) (0, 0)

/-- The stores of a hart that are older than a new instruction: the store queue, then the stores in flight that have not entered it. -/
def Hart.olderStores (x : Hart) : List StoreEnt :=
  x.sq ++ (x.infl.filter (fun i => i.kind == .store && !i.done)).flatMap (fun i =>
    i.parts.map (fun p => { sec := p.sec, off := p.off, len := p.len, val := p.val.getD 0, etype := p.etype, pc := i.pc }))

/-- Whether a mask covers the bytes of a part. -/
def covers (m : BitVec 64) (off len : Nat) : Bool := spanMask off len &&& m == spanMask off len

/-! ### Hold windows (R152) -/

/-- The accesses of a hart that wait for a unique grant of a sector: its retired stores, counted, and its SC, AMO and cbo.zero in flight. -/
def Hart.waitsUnique (x : Hart) (sec : Nat) : Nat × List Nat :=
  ((x.sq.filter (fun e => e.sec == sec && (e.etype == .wb || e.etype == .wa))).length,
   (x.infl.filter (fun i => (match i.kind with
        | .sc | .amo _ | .cboZero => true
        | _ => false) && !i.complete && i.fault.isNone && i.parts.any (fun p => p.sec == sec))).map (·.id))

/-- Whether a hold window is open for a sector at a core. -/
def State.windowOpen (s : State) (c sec : Nat) : Bool := (s.core c).windows.any (fun w => w.sec == sec)

/-- Open a hold window on a unique grant, where an access waits for it or an LR was served: it stays for those that wait now (R152, R153). -/
def State.openWindow (s : State) (c sec : Nat) (lr : Bool) : State :=
  let waits : Nat × List Nat := match s.hartOf c with
    | some h => (s.hart h).waitsUnique sec
    | none => (0, [])
  let keepLr : Bool := lr && s.isF F.coreHoldCtrl_lrsc 0 0
  if s.getF F.coreHoldCtrl_window 0 0 = 0 ∨ (waits == (0, []) && !keepLr) = true ∨ (s.core c).quiet = true then s
  else s.modCore c (fun k => { k with windows := k.windows ++ [{ sec := sec, lr := keepLr, held := [], stores := waits.1, ids := waits.2 }] })

/-! ### Snoops (R125) -/

/-- The kinds of snoop. -/
inductive Snoop where
  | shared | unique | toHome | inv | clean
  deriving DecidableEq, Repr

/-- What a holder answers: the grant it forwards, the state it reports, whether it returns its data to the home, and its next state. -/
structure SnoopAns where
  fwd : Option Nat := none
  st : Nat := 0
  data : Bool := false
  next : CState
  deriving DecidableEq, Repr

/-- The table of R125. States are reported as in R212 and R205: 0 I, 1 S, 2 E, 3 O. -/
def snoopTable (k : Snoop) (st : CState) : SnoopAns :=
  match k, st with
  | .shared, .m => { fwd := some 1, st := 3, next := .o }
  | .shared, .o => { fwd := some 1, st := 3, next := .o }
  | .shared, .e => { fwd := some 1, st := 1, next := .s }
  | .shared, .s => { st := 1, next := .s }
  | .shared, .smA => { st := 1, next := .smA }
  | .shared, .omA => { fwd := some 1, st := 3, next := .omA }
  | .shared, .miP => { fwd := some 1, data := true, next := .iP }
  | .shared, .oiP => { fwd := some 1, data := true, next := .iP }
  | .unique, .m => { fwd := some 3, next := .i }
  | .unique, .o => { fwd := some 3, next := .i }
  | .unique, .e => { fwd := some 2, next := .i }
  | .unique, .smA => { next := .imD }
  | .unique, .omA => { fwd := some 3, next := .imD }
  | .unique, .miP => { fwd := some 3, next := .iP }
  | .unique, .oiP => { fwd := some 3, next := .iP }
  | .toHome, .m => { data := true, next := .i }
  | .toHome, .o => { data := true, next := .i }
  | .toHome, .smA => { next := .imD }
  | .toHome, .omA => { data := true, next := .imD }
  | .toHome, .miP => { data := true, next := .iP }
  | .toHome, .oiP => { data := true, next := .iP }
  | .inv, .smA => { next := .imD }
  | .inv, .omA => { next := .imD }
  | .inv, .miP => { next := .iP }
  | .inv, .oiP => { next := .iP }
  | .clean, .m => { st := 2, data := true, next := .e }
  | .clean, .o => { st := 1, data := true, next := .s }
  | .clean, .e => { st := 2, next := .e }
  | .clean, .s => { st := 1, next := .s }
  | .clean, .smA => { st := 1, next := .smA }
  | .clean, .omA => { st := 1, data := true, next := .smA }
  | .clean, .miP => { data := true, next := .iP }
  | .clean, .oiP => { data := true, next := .iP }
  | _, .isD => { next := .isD }
  | _, .imD => { next := .imD }
  | _, .iP => { next := .iP }
  | _, _ => { next := .i }

/-- The packets of a snoop answer (R116, R117, R219). -/
def snoopPackets (p : Packet) (a : SnoopAns) (dead : Bool) (d : Sector) (po : Bool) : List Packet :=
  let fwd : List Packet := match a.fwd with
    | some g => [{ opcode := Opc.dataFwd g, tag := p.tag, wid := p.wid, src := p.dst, dst := BitVec.ofNat 8 p.reqStop,
                   endpoint := BitVec.ofNat 8 p.reqEp, payload := d, poison := po }]
    | none => []
  let ans : Packet :=
    if a.data then { opcode := Opc.snpRespData a.st a.fwd.isSome, tag := p.tag, wid := p.wid, src := p.dst, dst := p.src,
                     endpoint := BitVec.ofNat 8 p.reqStop, payload := d, poison := po }
    else { opcode := Opc.snpResp, tag := p.tag, wid := p.wid, src := p.dst, dst := p.src, endpoint := 2, address := p.address,
           attr := snpAttr a.st a.fwd.isSome dead p.epN }
  fwd ++ [ans]

/-- The line that a snoop leaves. -/
def snoopLine (l : CLine) (a : SnoopAns) : CLine :=
  if a.next = .i then {} else if a.next = .imD ∨ a.next = .iP then { l with st := a.next, l1d := false, keep := false } else { l with st := a.next }

/-- Answer a snoop at a core from the sector's state. A snoop that reaches the L2 invalidates the shadow entries it served and, where the copy goes, clears
the reservation (R34, R69, R125). -/
def State.coreSnoop (s : State) (c : Nat) (k : Snoop) (p : Packet) : State :=
  let l := s.cline c p.sec
  let a := snoopTable k l.st
  let s1 := s.setCline c p.sec (snoopLine l a)
  let gone : Bool := k != .shared && k != .clean
  let s2 := match s1.hartOf c with
    | some h => s1.modHart h (fun x =>
        { x with shadowD := x.shadowD.filter (fun e => e.fromLlc || e.sec != p.sec),
                 resv := if gone && x.resv == some p.sec then none else x.resv,
                 wait := if gone && (x.wait == .wrsNto p.sec || x.wait == .wrsSto p.sec) then .run else x.wait })
    | none => s1
  (snoopPackets p a false l.data l.poison).foldl State.send s2

/-- The kind of a snoop packet (R203). -/
def snoopKind (o : BitVec 8) : Option Snoop :=
  if o == Opc.snpShared then some .shared else if o == Opc.snpUnique then some .unique else if o == Opc.snpUniqueHome then some .toHome
  else if o == Opc.snpInvalidate then some .inv else if o == Opc.snpClean then some .clean else none

/-- Close a hold window: its held snoops are answered in arrival order (R152). -/
def State.closeWindow (s : State) (c sec : Nat) : State :=
  match (s.core c).windows.find? (fun w => w.sec == sec) with
  | none => s
  | some w =>
    w.held.foldl (fun s p => match snoopKind p.opcode with
        | some k => s.coreSnoop c k p
        | none => s)
      (s.modCore c (fun k => { k with windows := k.windows.filter (fun v => v.sec != sec) }))

/-- Whether an LR in flight waits for a sector. -/
def Hart.lrWaits (x : Hart) (sec : Nat) : Bool := x.infl.any (fun i => i.kind == .lr && !i.done && i.fault.isNone && i.parts.any (fun q => q.sec == sec))

/-- Close a window whose accesses are performed, and whose LR has had its SC or lost its reservation (R152). -/
def State.windowCheck (s : State) (c sec : Nat) : State :=
  match (s.core c).windows.find? (fun w => w.sec == sec) with
  | none => s
  | some w =>
    let waits : Bool := match s.hartOf c with
      | some h =>
        let x := s.hart h
        decide (0 < w.stores) || x.infl.any (fun i => w.ids.contains i.id && !i.complete && i.fault.isNone)
          || (w.lr && (x.resv == some sec || x.lrWaits sec))
      | none => false
    if waits then s else s.closeWindow c sec

/-- Check every window of a core. -/
def State.windowsCheck (s : State) (c : Nat) : State := (s.core c).windows.foldl (fun s w => s.windowCheck c w.sec) s

/-- A store to a sector has been written: one that its window waited for (R152). -/
def State.windowStore (s : State) (c sec : Nat) : State :=
  s.modCore c (fun k => { k with windows := k.windows.map (fun w => if w.sec = sec then { w with stores := w.stores - 1 } else w) })

/-- Close every window of a core (R148, R152). -/
def State.closeWindows (s : State) (c : Nat) : State := (s.core c).windows.foldl (fun s w => s.closeWindow c w.sec) s

/-! ### Prefetch (R91) -/

/-- Issue a prefetch into the L2, where nothing of the sector is held or asked for (R91). `key` is the stream that asks. -/
def State.prefetchL2 (s : State) (c sec : Nat) (store : Bool) (key : Option Nat) : State :=
  if (s.cline c sec).st != .i || !s.canSend c sec then s
  else
    let ty := s.effType (sec * 64) .pma
    let r := (s.setCline c sec { st := if store then .imD else .isD, pf := key }).coreSend c sec (if store then Opc.readUnique else Opc.readShared)
      (reqAttr false (ty == .wt) false 0 false ty.code false) { pkt := {}, ep := 0, purp := .prefetch, unbound := true }
    match r.2.hartOf c with
    | some h => r.2.hartEvent h 0x20
    | none => r.2

/-- A bound L1D miss trains the L2's streams and may prefetch (R90, R91, R94). A stream's key is its PC and access type. -/
def State.trainL2 (s : State) (c : Nat) (pc : Word) (sec : Nat) (store : Bool) (ty : EType) : State :=
  if !s.isF F.corePfCtrl_l2En c 0 || ty == .uc || ty == .io then s
  else
    let key := pc.toNat * 2 + store.toNat
    let r := trainStream (s.core c).streams 16 32 key sec
    let s1 := s.modCore c (fun k => { k with streams := r.1 })
    match r.2 with
    | none => s1
    | some e =>
      if store && (!s.isF F.corePfCtrl_storeStreams c 0 || ty != .wb) then s1
      else (prefetchBlocks e (min e.dist (s.getF F.corePfCtrl_maxDist c 0)) 64).foldl (fun s b => s.prefetchL2 c b store (some key)) s1

/-- A bound access uses a sector: where a stream's prefetch brought it before the demand miss, the stream's distance doubles, up to MAX_DIST (R91). -/
def State.usePf (s : State) (c sec : Nat) : State :=
  match (s.cline c sec).pf with
  | none => s
  | some key => (s.setCline c sec { s.cline c sec with pf := none }).modCore c (fun k => { k with
      streams := k.streams.map (fun f => if f.key == key then { f with dist := max f.dist (min (s.getF F.corePfCtrl_maxDist c 0) (2 * f.dist)) } else f) })

/-- The next-two-block prefetcher that serves L1I misses (R91, R93, R94). (DESIGN CHOICE, assumption 142.) -/
def State.prefetchNext (s : State) (c sec : Nat) : State :=
  if s.isF F.corePfCtrl_l2En c 0 then
    ([sec + 1, sec + 2].filter (fun b => decide (b / 64 = sec / 64))).foldl (fun s b => s.prefetchL2 c b false none) s
  else s

/-! ### Instructions in flight -/

/-- The effective type of a part, and the region where its address leads. -/
def State.partType (s : State) (x : Xlate) : EType := s.effType x.pa.toNat x.ptype

/-- The parts of an access: virtual address, translation, offset in the block and length (R74). -/
def accessParts (a : Access) : List (Word × Xlate × Nat × Nat) :=
  let o := a.va.toNat % 64
  let n := a.size.val
  if o + n ≤ 64 then [(a.va, a.x0, o, n)]
  else [(a.va, a.x0, o, 64 - o), (a.va + w64 (64 - o), a.x1, 0, o + n - 64)]

/-- Whether an address exists for a core: not unmapped, below LOCAL_TOP, and a mapped depository segment (R23). -/
def State.addrExists (s : State) (c pa : Nat) : Bool :=
  match region pa with
  | .local => decide (pa < s.localTop)
  | .depo n => s.isF F.niDepoMap_valid (coreStop c) n
  | .unmapped => false
  | _ => true

/-- The PMA and Svpbmt type of one part, which R75 compares: type IO for a control or MMIO address, else the page's type. -/
def partKind (x : Xlate) : PageType := if x.pa.toNat / 2 ^ 48 = 0xE ∨ x.pa.toNat / 2 ^ 48 = 0xF then .io else x.ptype

/-- The exception that the core's checks find in one part (R23, R31, R37, R75, R485); `acc` is the access-fault code. -/
def State.partFault (s : State) (h : Nat) (a : Access) (acc : Nat) (va : Word) (x : Xlate) (len : Nat) : Option Pend :=
  match x.fault with
  | some code => some { cause := code, tval := va, gpa := x.gpa, tinst := a.tinst }
  | none =>
    if x.poisonWalk then some { cause := Exc.hardwareError, tval := va, tinst := 0 }
    else if !s.addrExists (s.physCore h) x.pa.toNat || !s.pmpOk h (s.dataPriv h).1 x.pa.toNat len (acc == Exc.storeAccess) then
      some { cause := acc, tval := va, tinst := a.tinst }
    else if s.partType x = .io ∧ a.va.toNat % max 1 a.size.val ≠ 0 then some { cause := acc, tval := va, tinst := a.tinst }
    else none

/-- The trigger that matches an access: on its instruction's address, or on either part (R34, R75). -/
def State.accessTrigger (s : State) (h : Nat) (a : Access) (acc : Nat) : Option Bool :=
  match s.trigHit h .execute a.pc.toNat 4 with
  | some d => some d
  | none => (accessParts a).findSome? (fun p => s.trigHit h (if acc = Exc.storeAccess then .store else .load) p.1.toNat a.size.val)

/-- An access with its parts translated (R31). -/
def State.translated (s : State) (h : Nat) (a : Access) (store : Bool) : Access :=
  let o := a.va.toNat % 64
  { a with x0 := s.translate h a.va.toNat store a.x0,
           x1 := if o + a.size.val ≤ 64 then a.x1 else s.translate h (a.va + w64 (64 - o)).toNat store a.x1 }

/-- The exception of a translated access (R75): a debug trigger first, then the first part, then the second, then a difference of types. -/
def State.accessFault (s : State) (h : Nat) (a : Access) (acc : Nat) : Option Pend :=
  let ps := accessParts a
  match s.accessTrigger h a acc with
  | some dbg => some { cause := Exc.breakpoint, debug := dbg }
  | none =>
    match ps.findSome? (fun p => s.partFault h a acc p.1 p.2.1 p.2.2.2) with
    | some f => some f
    | none =>
      match ps with
      | [p, q] => if partKind p.2.1 = partKind q.2.1 then none else some { cause := acc, tval := q.1, tinst := a.tinst }
      | _ => none

/-- The parts of a new instruction in flight, with the bytes that older stores supply. -/
def State.newParts (s : State) (h : Nat) (a : Access) (value : Bool) : List Part :=
  let q := (s.hart h).olderStores
  (accessParts a).map (fun p =>
    let sec := p.2.1.pa.toNat / 64
    let ov := overlay q sec
    let v := a.value.toNat / 2 ^ (8 * (if p.1 = a.va then 0 else a.size.val - p.2.2.2)) % 2 ^ (8 * p.2.2.2)
    { sec := sec, off := p.2.2.1, len := p.2.2.2, etype := s.partType p.2.1, val := if value then some v else none, ovm := ov.1, ovd := ov.2 })

/-- A new instruction in flight. -/
def State.newInfl (s : State) (h : Nat) (k : OpKind) (a : Access) (value : Bool) (f : Option Pend) : Infl :=
  { id := a.id, kind := k, pc := a.pc, spec := a.spec, va := a.va, size := a.size.val, signed := a.signed, dest := a.dest, opnd := a.value,
    parts := if f.isSome then [] else s.newParts h a value, elt := a.elt, isec := a.isec.toNat, fault := f, tinst := a.tinst,
    aq := a.aq, rl := a.rl, fof := a.fof }

/-- Whether a hart executes instructions: released, not halted, not stopped (R39, R44, R321). -/
def State.runs (s : State) (h : Nat) : Bool :=
  s.getF F.coreHartMap_state 0 h == 1 && !(s.hart h).debug && !(s.hart h).stopped && (s.mode == 3 || s.mode == 4 || s.mode == 5)
    && s.domain (s.physCore h) == 2 && !(s.core (s.physCore h)).cut

/-- Whether an instruction in flight occupies the load queue, or the store queue before it retires (R59). -/
def OpKind.loads : OpKind → Bool
  | .load | .lr | .ioLoad => true
  | _ => false
def OpKind.stores : OpKind → Bool
  | .store | .ioStore | .sc | .amo _ | .farAmo _ | .cboZero => true
  | _ => false

/-- Whether a hart has room for one more instruction in its reorder buffer, load queue and store queue, and its fetch is not waiting for a store into the code (R59, R71). -/
def Hart.room (x : Hart) (k : OpKind) : Bool :=
  decide (x.infl.length < 256) && x.smc.isEmpty && !x.stopping && !x.haltReq
    && (!k.loads || decide ((x.infl.filter (fun i => i.kind.loads)).length < 96))
    && (!k.stores || decide (x.sq.length + (x.infl.filter (fun i => i.kind.stores && !i.done)).length < 72))

/-- Put an instruction in flight. -/
def State.launch (s : State) (h : Nat) (i : Infl) : State :=
  if (s.hart h).room i.kind then s.modHart h (fun x => { x with infl := x.infl ++ [i], wait := .run }) else s

/-- The shadow buffer's data entries: those held and those that outstanding speculative requests will fill; 24 are all (R68). -/
def State.shadowFull (s : State) (h : Nat) : Bool :=
  let c := s.physCore h
  let out := (s.reqs.filter (fun e => match e.2 with
    | some r => e.1 / 4096 == coreStop c && r.ep == c % 2 && r.pkt.spec && r.purp != .cancel
    | none => false)).length
  decide (24 ≤ (s.hart h).shadowD.length + out)

/-- Whether a hart's speculative accesses are deferred (R61). -/
def State.deferOn (s : State) (c : Nat) : Bool := s.isF F.coreSpecCtrl_fillDeferEff c 0

/-- Release a speculative request whose instruction is bound: at its home it becomes an ordinary ReadShared (R122, R218). (DEDUCED, assumption 141.) -/
def State.specReleased (s : State) (c t : Nat) (r : Req) (purp : Purp) : State :=
  let s1 := ((s.setReq (coreStop c) t (some { r with pkt := { r.pkt with attr := r.pkt.attr &&& 0xFFFE }, purp := purp, unbound := false })).send
      { (s.corePacket c r.pkt.sec Opc.specRelease 0) with tag := BitVec.ofNat 12 t }).detect (coreStop c) (c % 2) { r.pkt with attr := r.pkt.attr &&& 0xFFFE }
  if (s1.cline c r.pkt.sec).st = .i then s1.setCline c r.pkt.sec { st := .isD } else s1

/-- Fetch the block of an instruction (R67, R70, R80): from the L1I, the shadow buffer or the L2, else by a request. The boolean says whether the block is there; while it is not,
the instruction does not execute. A block of type UC or IO is not cached. -/
def State.fetch (s : State) (h sec id : Nat) (spec : Bool) : Bool × State :=
  let c := s.physCore h
  let ty := s.effType (sec * 64) .pma
  let defer : Bool := spec && s.deferOn c
  let use (s : State) : State := s.modHart h (fun x =>
    { x with shadowD := x.shadowD.map (fun e => if e.code && e.sec == sec then { e with users := e.users ++ [id] } else e) })
  if (s.core c).l1i.contains sec || ty == .uc || ty == .io then (true, s)
  else if defer && (s.hart h).shadowD.any (fun e => e.code && e.sec == sec) then (true, use s)
  else if (s.cline c sec).st.readable then
    if defer then
      (if s.shadowFull h then (false, s)
       else (true, s.modHart h (fun x => { x with shadowD := x.shadowD ++
        [{ sec := sec, data := (s.cline c sec).data, poison := (s.cline c sec).poison, fromLlc := false, users := [id], code := true }] })))
    else
      let s1 := if (s.cline c sec).poison then s else s.l1iFill c sec
      (true, if spec then s1 else s1.prefetchNext c sec)
  else match s.openReq (coreStop c) (c % 2) sec with
    | some (t, r) => if r.purp == .fetch && r.pkt.spec && !spec then (false, s.specReleased c t r .fetch) else (false, s)
    | none =>
      if !s.canSend c sec || (defer && (s.shadowFull h || (s.hart h).fetchRetry.contains sec)) then (false, s)
      else
        let at_ := reqAttr defer (ty == .wt) false 0 false ty.code false
        let s1 := if defer then s else (s.setCline c sec { st := .isD }).modHart h (fun x => { x with fetchRetry := x.fetchRetry.erase sec })
        let s2 := (s1.coreSend c sec Opc.readShared at_ { pkt := {}, ep := 0, purp := .fetch, unbound := spec }).2
        (false, if spec then s2 else s2.prefetchNext c sec)

/-- Whether the block that an instruction comes from is held poisoned (R217, R485); the L1I takes no poisoned block. -/
def State.codePoison (s : State) (h sec : Nat) : Bool :=
  let c := s.physCore h
  !(s.core c).l1i.contains sec && ((s.cline c sec).poison || (s.hart h).shadowD.any (fun e => e.code && e.sec == sec && e.poison))

/-- Change one part of an instruction in flight. -/
def State.modPart (s : State) (h id j : Nat) (f : Part → Part) : State :=
  s.modHart h (fun x => { x with infl := x.infl.map (fun i => if i.id = id then { i with parts := i.parts.modify j f } else i) })
/-- Change an instruction in flight. -/
def State.modInfl (s : State) (h id : Nat) (f : Infl → Infl) : State :=
  s.modHart h (fun x => { x with infl := x.infl.map (fun i => if i.id = id then f i else i) })

/-- The value of a part from a sector's data, under the bytes of older stores. -/
def Part.take (p : Part) (d : Sector) (po : Bool) : Part :=
  { p with val := some (sectorBytes (mergeSector d p.ovd p.ovm) p.off p.len), poison := po && !covers p.ovm p.off p.len, tag := none }

/-- Whether an earlier type IO access of the hart is not yet performed (R134). -/
def Hart.ioBefore (x : Hart) (id : Nat) : Bool :=
  x.sq.any (fun e => e.etype == .io)
    || (x.infl.takeWhile (fun i => i.id != id)).any (fun i => !i.complete && i.parts.any (fun p => p.etype == .io))

/-- Whether an older fence of the hart, or an older access annotated aq, is not complete: no later access is performed before it (R57, R134). -/
def Hart.fenced (x : Hart) (id : Nat) : Bool :=
  (x.infl.takeWhile (fun i => i.id != id)).any (fun i => !i.complete && i.fault.isNone && (i.kind == .fence || i.kind == .fenceAx || i.aq))

/-- The target stop of a type IO address (R22, R27). -/
def ioStop (pa : Nat) : Nat :=
  match region pa with
  | .pcie k => hpStops.getD k 70
  | .annexMmio k => axStops.getD k 2
  | _ => pa / 0x400000 % 256

/-- Log2 of an access size, as IORead and IOWrite code it (R208). -/
def sizeLog (n : Nat) : Nat := if n ≤ 1 then 0 else if n ≤ 2 then 1 else if n ≤ 4 then 2 else if n ≤ 8 then 3 else if n ≤ 16 then 4 else if n ≤ 32 then 5 else 6

/-- A core's IORead or IOWrite of a part (R198, R208). -/
def State.coreIo (s : State) (c : Nat) (write posted : Bool) (sec off len : Nat) (v : Nat) : Nat × State :=
  s.request (coreStop c)
    { pkt := { opcode := if write then Opc.ioWrite else Opc.ioRead, wid := BitVec.ofNat 6 (s.coreWid c),
               dst := BitVec.ofNat 8 (ioStop (sec * 64)), address := BitVec.ofNat 46 sec, attr := ioAttr off (sizeLog len) posted },
      ep := c % 2, purp := .io, data := sectorAt v off len, mask := spanMask off len }

/-- A hit of a part in the core's caches: with deferral, a speculative L2 hit is served into the shadow buffer (R67). An L1D miss of a bound access trains the L2's streams (R91). -/
def State.servePart (s : State) (h c : Nat) (i : Infl) (j : Nat) (p : Part) (l : CLine) : State :=
  let defer : Bool := i.spec && s.deferOn c
  let s0 := if l.l1d then s else if i.spec then s.modPart h i.id j (fun p => { p with missed := true }) else s.trainL2 c i.pc p.sec false p.etype
  let s1 := (if i.spec then s0 else s0.usePf c p.sec).modPart h i.id j (fun p => p.take l.data l.poison)
  if defer then
    if l.l1d then s1
    else s1.modHart h (fun x =>
      if x.shadowD.any (fun e => !e.code && e.sec == p.sec) then
        { x with shadowD := x.shadowD.map (fun e => if !e.code && e.sec == p.sec then { e with users := e.users ++ [i.id] } else e) }
      else { x with shadowD := x.shadowD ++ [{ sec := p.sec, data := l.data, poison := l.poison, fromLlc := false, users := [i.id] }] })
  else if p.etype = .wb ∨ p.etype = .wa ∨ p.etype = .wt then s1.l1dFill c p.sec else s1

/-- Whether an access is the hart's oldest. -/
def Hart.oldest (x : Hart) (id : Nat) : Bool := (x.infl.head?.map (·.id)) == some id

/-- Send the request of a part that misses (R67, R70, R90): a speculative one under deferral with SPEC, a UC one as ReadOnce, an LR's for ownership, else ReadShared. (DEDUCED, assumption 140.) -/
def State.loadMiss (s : State) (h c : Nat) (i : Infl) (j : Nat) (p : Part) : State :=
  let l := s.cline c p.sec
  let lr : Bool := i.kind == .lr
  let rd (s : State) (spec : Bool) (purp : Purp) : Nat × State :=
    s.coreSend c p.sec Opc.readShared (reqAttr spec (p.etype == .wt) false 0 false p.etype.code false) { pkt := {}, ep := 0, purp := purp, unbound := i.spec }
  let tagged (r : Nat × State) : State := r.2.modPart h i.id j (fun p => { p with tag := some r.1, missed := i.spec })
  if i.spec && s.deferOn c then
    if p.specRetry || s.shadowFull h then s else tagged (rd s true .spec)
  else if p.etype = .uc then
    tagged (s.coreSend c p.sec Opc.readOnce (reqAttr false false false 0 false 3 false) { pkt := {}, ep := 0, purp := .once, unbound := i.spec })
  else if lr then
    let at_ := reqAttr false false false 0 false p.etype.code false
    match l.st with
    | .i => ((s.setCline c p.sec { st := .imD }).coreSend c p.sec Opc.readUnique at_ { pkt := {}, ep := 0, purp := .demand }).2
    | .s => ((s.setCline c p.sec { l with st := .smA }).coreSend c p.sec Opc.cleanUnique at_ { pkt := {}, ep := 0, purp := .demand }).2
    | .o => ((s.setCline c p.sec { l with st := .omA }).coreSend c p.sec Opc.cleanUnique at_ { pkt := {}, ep := 0, purp := .demand }).2
    | _ => s
  else if l.st = .i then
    let s1 := if i.spec then s.modPart h i.id j (fun p => { p with missed := true }) else s.trainL2 c i.pc p.sec false p.etype
    (rd (s1.setCline c p.sec { st := .isD }) false .demand).2
  else s

/-- Try to serve a part of a load or LR that waits: from older stores, its own caches, the shadow buffer, or by a request (R67, R90, R120, R124). An LR is performed only when
bound: no speculative request asks for ownership (R67). (DESIGN CHOICE, assumption 138.) -/
def State.loadTry (s : State) (h c : Nat) (i : Infl) (j : Nat) (p : Part) : State :=
  let l := s.cline c p.sec
  let x := s.hart h
  let defer : Bool := i.spec && s.deferOn c
  let lr : Bool := i.kind == .lr
  if x.fenced i.id || !i.xl.isEmpty || (lr && i.spec) || (i.rl && !(x.oldest i.id && x.sq.isEmpty)) then s
  else if p.etype = .io then
    if i.spec || x.ioBefore i.id || !x.oldest i.id || (s.core c).quiet then s
    else
      let r := s.coreIo c false false p.sec p.off p.len 0
      r.2.modPart h i.id j (fun p => { p with tag := some r.1 })
  else if covers p.ovm p.off p.len && !lr then s.modPart h i.id j (fun p => p.take 0 false)
  else if l.st.readable && (!lr || l.st.writable) then
    if defer && !l.l1d && s.shadowFull h && !x.shadowD.any (fun e => !e.code && e.sec == p.sec) then s else s.servePart h c i j p l
  else
    match (if i.spec then x.shadowD.find? (fun e => !e.code && e.sec == p.sec) else none) with
    | some e => (s.modPart h i.id j (fun p => { p.take e.data e.poison with missed := true })).modHart h (fun x =>
        { x with shadowD := x.shadowD.map (fun f => if !f.code && f.sec == p.sec then { f with users := f.users ++ [i.id] } else f) })
    | none => if s.canSend c p.sec then s.loadMiss h c i j p else s

/-- Ask for write permission of a sector (R124). -/
def State.askUnique (s : State) (c sec : Nat) (ty : EType) (purp : Purp) : State :=
  let l := s.cline c sec
  let at_ := reqAttr false false false 0 false ty.code false
  if !s.canSend c sec then s
  else match l.st with
    | .i => ((s.setCline c sec { st := .imD }).coreSend c sec Opc.readUnique at_ { pkt := {}, ep := 0, purp := purp }).2
    | .s => ((s.setCline c sec { l with st := .smA }).coreSend c sec Opc.cleanUnique at_ { pkt := {}, ep := 0, purp := purp }).2
    | .o => ((s.setCline c sec { l with st := .omA }).coreSend c sec Opc.cleanUnique at_ { pkt := {}, ep := 0, purp := purp }).2
    | _ => s

/-- Send a write to the home: a copy in S takes the same bytes, a copy in E, M or O is given up first (R90, R127). The tag, or none where it must wait. -/
def State.writeHome (s : State) (c sec : Nat) (d : Sector) (m : BitVec 64) (ty : EType) (purp : Purp) (aop : Nat) : Option (Nat × State) :=
  let l := s.cline c sec
  if !s.canSend c sec then none
  else
    let give : Bool := aop != 0 && l.st == .s
    match l.st with
    | .i | .s | .e =>
      let s1 := if l.st = .e ∨ give = true then s.evictLine c sec false
        else if l.st = .s then s.setCline c sec { l with data := mergeSector l.data d m, poison := poisonAfter m l.poison false } else s
      let full : Bool := m == fullMask && aop == 0
      some (s1.coreSend c sec (if full then Opc.writeInvFull else Opc.writePartial) (reqAttr false false false 0 (aop != 0) ty.code false)
        { pkt := {}, ep := 0, purp := purp, data := d, mask := m, aop := aop })
    | .m | .o => some (0, s.evictLine c sec false)
    | _ => none

/-- The AOP code of an AMO (R215). -/
def AmoOp.code : AmoOp → Nat
  | .swap => 1 | .add => 2 | .and => 3 | .or => 4 | .xor => 5 | .min => 6 | .max => 7 | .minu => 8 | .maxu => 9

/-- The mask and data of a store of the store queue. -/
def StoreEnt.mask (e : StoreEnt) : BitVec 64 := if e.zero then fullMask else spanMask e.off e.len
def StoreEnt.data (e : StoreEnt) : Sector := if e.zero then 0 else sectorAt e.val e.off e.len

/-- A store that misses in the L1D trains the L2's streams when its request is sent (R91). -/
def State.trainStore (s : State) (c : Nat) (e : StoreEnt) : State := if (s.cline c e.sec).l1d then s else s.trainL2 c e.pc e.sec true e.etype

/-- Send a retired store to its home. -/
def State.storeHome (s : State) (h c : Nat) (e : StoreEnt) : State :=
  let s0 := if s.canSend c e.sec then s.trainStore c e else s
  match s0.writeHome c e.sec e.data e.mask e.etype .store 0 with
  | some (t, s1) => if t = 0 then s1 else s1.modHart h (fun x => { x with sq := x.sq.modify 0 (fun f => { f with tag := some t }) })
  | none => s

/-- Move the oldest store on (R60, R67, R90): ask for write permission, or send it to its home or device. -/
def State.storePump (s : State) (h : Nat) : State :=
  let c := s.physCore h
  match (s.hart h).sq with
  | [] => s
  | e :: _ =>
    if e.tag.isSome then s
    else match e.etype with
      | .io =>
        let r := s.coreIo c true true e.sec e.off e.len e.val
        r.2.modHart h (fun x => { x with sq := x.sq.modify 0 (fun f => { f with tag := some r.1 }) })
      | .wb => if (s.cline c e.sec).st.writable || !s.canSend c e.sec then s else (s.trainStore c e).askUnique c e.sec .wb .store
      | .wa => if (s.cline c e.sec).st.writable then s else s.storeHome h c e
      | _ => s.storeHome h c e

/-- Merge bytes into a writable line (R124, R216); the block leaves the core's L1I (R72). -/
def State.writeLine (s0 : State) (c sec : Nat) (d : Sector) (m : BitVec 64) : State :=
  let s := (s0.usePf c sec).l1iDrop c sec
  let l := s.cline c sec
  (s.setCline c sec { l with st := .m, data := mergeSector l.data d m, poison := poisonAfter m l.poison false }).l1dFill c sec

/-- Whether an instruction in flight is the oldest and bound, with the hart's older stores written: when an SC, AMO, CMO or control-space store acts (R66). -/
def State.mayAct (s : State) (h : Nat) (i : Infl) : Bool :=
  !i.spec && ((s.hart h).infl.head?.map (·.id)) == some i.id && (s.hart h).sq.isEmpty && !i.complete && i.fault.isNone

/-- Complete an instruction with a result value in its first part. -/
def State.finish (s : State) (h id v : Nat) : State :=
  s.modInfl h id (fun i => { i with complete := true, parts := i.parts.modify 0 (fun p => { p with val := some v }) })

/-- Give an instruction in flight an exception. -/
def State.failInfl (s : State) (h id : Nat) (f : Pend) : State := s.modInfl h id (fun i => { i with fault := some f })

/-- The hardware-error exception of a consumer of poison (R485). -/
def State.poisonFault (s : State) (h : Nat) (i : Infl) (sec : Nat) (va : Word) : State :=
  s.failInfl h i.id { cause := Exc.hardwareError, tval := va, pa := sec * 64 }

/-- An SC that may act (R34, R38): it fails without a reservation; with one it writes once the sector is writable. -/
def State.scTry (s : State) (h c : Nat) (i : Infl) (p : Part) : State :=
  if (s.hart h).resv != some p.sec then ((s.modHart h (fun x => { x with resv := none })).finish h i.id 1).windowsCheck c
  else
    let l := s.cline c p.sec
    if l.st.writable then
      if l.poison then s.poisonFault h i p.sec i.va
      else (((s.writeLine c p.sec (sectorAt i.opnd.toNat p.off p.len) (spanMask p.off p.len)).modHart h (fun x => { x with resv := none })).finish
        h i.id 0).windowCheck c p.sec
    else s.askUnique c p.sec p.etype .demand

/-- An AMO in the L1D (R38). -/
def State.amoTry (s : State) (h c : Nat) (i : Infl) (p : Part) (op : AmoOp) : State :=
  let l := s.cline c p.sec
  if l.st.writable then
    if l.poison then s.poisonFault h i p.sec i.va
    else
      let old := sectorBytes l.data p.off p.len
      let r := aopResult op.code p.len old (i.opnd.toNat % 2 ^ (8 * p.len))
      ((s.writeLine c p.sec (sectorAt r p.off p.len) (spanMask p.off p.len)).finish h i.id old).windowCheck c p.sec
  else s.askUnique c p.sec p.etype .demand

/-- A far atomic (R38, R127, R131). -/
def State.farTry (s : State) (h c : Nat) (i : Infl) (p : Part) (op : AmoOp) : State :=
  match s.writeHome c p.sec (sectorAt i.opnd.toNat p.off p.len) (spanMask p.off p.len) p.etype .atomic op.code with
  | some (t, s1) => if t = 0 then s1 else s1.modPart h i.id 0 (fun p => { p with tag := some t })
  | none => s

/-- A cbo.clean or cbo.flush (R129): first the hart's own copy, then ReadOnce with CMO. A flush also leaves nothing in the hart's shadow buffer (R105). -/
def State.cboTry (s0 : State) (h c : Nat) (i : Infl) (p : Part) (flush : Bool) : State :=
  let l := s0.cline c p.sec
  let s := if flush then s0.modHart h (fun x => { x with shadowD := x.shadowD.filter (fun e => e.sec != p.sec || e.installing) }) else s0
  if i.sent || !s.canSendCbo c p.sec then s0
  else if (flush && l.st.readable) || (!flush && (l.st == .m || l.st == .o)) then
    -- the write-back closes first; EvictClean has no answer
    let s1 := (if flush then s.closeWindow c p.sec else s).evictLine c p.sec (!flush)
    if l.st = .m ∨ l.st = .o then s1
    else
      let r := s1.coreSend c p.sec Opc.readOnce (reqAttr false false false 2 false p.etype.code false) { pkt := {}, ep := 0, purp := .cmo }
      (r.2.modInfl h i.id (fun i => { i with sent := true })).modPart h i.id 0 (fun p => { p with tag := some r.1 })
  else
    let r := s.coreSend c p.sec Opc.readOnce (reqAttr false false false (if flush then 2 else 1) false p.etype.code false)
      { pkt := {}, ep := 0, purp := .cmo }
    (r.2.modInfl h i.id (fun i => { i with sent := true })).modPart h i.id 0 (fun p => { p with tag := some r.1 })

/-- A cbo.zero (R105): in a WB region the sector in M, elsewhere WriteInvalidateFull carrying zeros. -/
def State.zeroTry (s : State) (h c : Nat) (i : Infl) (p : Part) : State :=
  if p.etype = .wb then
    if (s.cline c p.sec).st.writable then ((s.writeLine c p.sec 0 fullMask).finish h i.id 0).windowCheck c p.sec
    else s.askUnique c p.sec .wb .zero
  else
    match s.writeHome c p.sec 0 fullMask p.etype .cmo 0 with
    | some (t, s1) => if t = 0 then s1 else s1.modPart h i.id 0 (fun p => { p with tag := some t })
    | none => s

/-- Send the fence probes of PX.FENCE.AX (R57): an IORead of AXG_FENCE at each selected port; rs1[5:0] selects, and a zero mask selects all six. -/
def State.axProbes (s0 : State) (h : Nat) (i : Infl) : State :=
  let c := s0.physCore h
  let m : BitVec 6 := if i.va.setWidth 6 = 0#6 then BitVec.allOnes 6 else i.va.setWidth 6
  let r := match i.dest with
    | .x r => r
    | _ => 0
  let s := s0.modHart h (fun x => { x with fence := some { id := i.id, rd := r, waiting := m, failed := 0, probed := true, tags := [] } })
  (List.range 6).foldl (fun s k =>
    if m.getLsbD k then
      let pa := regAddr .axgFence k 0
      let r := s.request (coreStop c)
        { pkt := { opcode := Opc.ioRead, wid := BitVec.ofNat 6 (s.seat h), dst := BitVec.ofNat 8 (axStops.getD k 2),
                   address := BitVec.ofNat 46 (pa / 64), attr := ioAttr (pa % 64) 3 false }, ep := c % 2, purp := .probe }
      r.2.modHart h (fun x => { x with fence := x.fence.map (fun f => { f with tags := f.tags ++ [(k, r.1)] }) })
    else s) s

/-- Drop the instructions in flight that a predicate picks: their speculative requests are cancelled, with those of the blocks fetched ahead, and their shadow entries
lose them (R67, R68, R122). -/
def State.squash (s : State) (h : Nat) (pick : Infl → Bool) : State :=
  let c := s.physCore h
  let out := (s.hart h).infl.filter pick
  let ids := out.map (·.id)
  let tags := out.flatMap (fun i => i.parts.filterMap (·.tag)) ++ s.reqs.filterMap (fun e => match e.2 with
    | some r => if e.1 / 4096 = coreStop c ∧ r.ep = c % 2 ∧ r.purp = .fetch ∧ r.pkt.spec = true then some (e.1 % 4096) else none
    | none => none)
  let s1 := tags.foldl (fun s t => match s.req (coreStop c) t with
    | some r =>
      if r.pkt.spec && r.purp != .cancel then
        (s.setReq (coreStop c) t (some { r with purp := .cancel })).send
          { (s.corePacket c r.pkt.sec Opc.specCancel 0) with tag := BitVec.ofNat 12 t }
      else s
    | none => s) s
  s1.modHart h (fun x =>
    { x with infl := x.infl.filter (fun i => !pick i), fetchRetry := [],
             shadowD := (x.shadowD.map (fun e => { e with users := e.users.filter (fun u => !ids.contains u) })).filter (fun e => !e.users.isEmpty || e.installing),
             shadowT := (x.shadowT.map (fun e => { e with users := e.users.filter (fun u => !ids.contains u) })).filter (fun e => !e.users.isEmpty) })

/-- Put translations into the TLB or, under deferral, into the shadow buffer; false where the shadow buffer's 16 entries leave no room (R66 to R68). -/
def State.transl (s : State) (h id : Nat) (spec : Bool) (es : List Transl) : Bool × State :=
  let x := s.hart h
  let new := es.filter (fun e => !x.tlb.any (fun t => t.vpn == e.vpn && t.ppn == e.ppn && t.ptype == e.ptype))
  if spec && s.deferOn (s.physCore h) then
    let add := new.filter (fun e => !x.shadowT.any (fun t => t.vpn == e.vpn && t.ppn == e.ppn))
    if 16 < x.shadowT.length + add.length then (false, s)
    else (true, s.setHart h { x with
      shadowT := x.shadowT.map (fun t => if new.any (fun e => e.vpn == t.vpn && e.ppn == t.ppn) then { t with users := t.users ++ [id] } else t)
        ++ add.map (fun e => { e with users := [id] }) })
  else (true, s.setHart h { x with tlb := x.tlb ++ new.map (fun e => { e with users := [] }) })

/-- An installed shadow entry is compared with the data that the coherent read gives: where they differ, the hart re-executes from the oldest unretired user (R69). -/
def State.shadowCompare (s : State) (h : Nat) (e : ShadowData) (d : Sector) : State :=
  let s1 := s.modHart h (fun x => { x with shadowD := x.shadowD.filter (fun f => !(f.sec == e.sec && f.code == e.code)) })
  if e.data = d then s1
  else match (s1.hart h).infl.find? (fun i => e.users.contains i.id && !i.done) with
    | none => s1
    | some i =>
      let out := (s1.hart h).infl.dropWhile (fun j => j.id != i.id)
      ((s1.squash h (fun j => out.any (fun o => o.id == j.id))).modHart h (fun x => { x with pc := i.pc })).hartEvent h 0x0D

/-- Shadow entries whose oldest user is bound are installed (R69): one from the L1 or L2 at once; one from the LLC by a ReadShared with a compare, or by the compare alone where the core has
come to hold the sector; a UC one is compared with a new read and installed nowhere (R90); a translation goes to the TLB. -/
def State.shadowPump (s : State) (h : Nat) : State :=
  let c := s.physCore h
  let x := s.hart h
  let bound (us : List Nat) : Bool := us.any (fun u => !(x.infl.any (fun i => i.id == u && i.spec)))
  let ts := x.shadowT.filter (fun e => bound e.users)
  let s1 := s.modHart h (fun x => { x with tlb := x.tlb ++ ts.map (fun e => { e with users := [] }), shadowT := x.shadowT.filter (fun e => !ts.contains e) })
  (x.shadowD.filter (fun e => bound e.users && !e.installing)).foldl (fun (s : State) (e : ShadowData) =>
    let ty := s.effType (e.sec * 64) .pma
    let put (s : State) : State := if e.code then (if e.poison then s else s.l1iFill c e.sec).prefetchNext c e.sec else s.l1dFill c e.sec
    if !((s.hart h).shadowD.contains e) then s
    else if (s.cline c e.sec).st.readable then put (s.shadowCompare h e (if e.fromLlc then (s.cline c e.sec).data else e.data))
    else if !s.canSend c e.sec then s
    else
      let mark (s : State) : State := s.modHart h (fun x =>
        { x with shadowD := x.shadowD.map (fun f => if f == e then { f with installing := true } else f) })
      if ty == .uc then mark (s.coreSend c e.sec Opc.readOnce (reqAttr false false false 0 false 3 false) { pkt := {}, ep := 0, purp := .install }).2
      else mark ((s.setCline c e.sec { st := .isD }).coreSend c e.sec Opc.readShared (reqAttr false (ty == .wt) false 0 false ty.code false)
        { pkt := {}, ep := 0, purp := .install }).2) s1

/-- The doorbell of a PX.BELL.SEND in flight: rs1 names the target hart and WID, rs2 is the payload (R50). -/
def State.bellOf (s : State) (h : Nat) (i : Infl) : BellMsg :=
  { sender := h, wid := s.seat h, target := bitsOf i.va 0 8, targetWid := bitsOf i.va 8 6, payload := i.opnd,
    badBits := decide (bitsOf i.va 14 50 ≠ 0) }

/-- Move an instruction in flight on, as its kind allows. -/
def State.inflPump (s0 : State) (h : Nat) (i0 : Infl) : State :=
  let c := s0.physCore h
  let tr := if i0.xl.isEmpty then (true, s0) else s0.transl h i0.id i0.spec i0.xl
  let i := if tr.1 then { i0 with xl := [] } else i0
  let s := if tr.1 && !i0.xl.isEmpty then tr.2.modInfl h i.id (fun j => { j with xl := [] }) else s0
  if i.complete ∨ i.fault.isSome then s
  else
    match i.kind with
    | .load | .lr | .ioLoad =>
      (List.range i.parts.length).foldl (fun s j => match i.parts[j]? with
        | some p => if p.val.isNone && p.tag.isNone then s.loadTry h c i j p else s
        | none => s) s
    | .ioStore => match i.parts with
      | p :: _ => if s.mayAct h i && p.tag.isNone then
                    (let r := s.coreIo c true false p.sec p.off p.len (p.val.getD 0)
                     r.2.modPart h i.id 0 (fun p => { p with tag := some r.1 }))
                  else s
      | [] => s
    | .sc => match i.parts with
      | p :: _ => if s.mayAct h i then s.scTry h c i p else s
      | [] => s
    | .amo op => match i.parts with
      | p :: _ => if s.mayAct h i then s.amoTry h c i p op else s
      | [] => s
    | .farAmo op => match i.parts with
      | p :: _ => if s.mayAct h i && p.tag.isNone then s.farTry h c i p op else s
      | [] => s
    | .cbo fl => match i.parts with
      | p :: _ => if s.mayAct h i then s.cboTry h c i p fl else s
      | [] => s
    | .cboZero => match i.parts with
      | p :: _ => if s.mayAct h i && p.tag.isNone then s.zeroTry h c i p else s
      | [] => s
    | .bellSend =>
      if s.mayAct h i && !i.sent then
        State.modInfl { s with bells := s.bells ++ [s.bellOf h i] } h i.id (fun i => { i with sent := true })
      else s
    | .fenceAx => if s.mayAct h i && !i.sent then (s.axProbes h i).modInfl h i.id (fun i => { i with sent := true }) else s
    | .fence => if s.mayAct h i then s.modInfl h i.id (fun i => { i with complete := true }) else s
    | _ => s

/-- A load whose parts have all arrived is complete; one that consumed poison takes the hardware-error exception of its first poisoned part (R485, R486). -/
def State.loadDone (s : State) (h : Nat) (i : Infl) : State :=
  if i.complete || i.fault.isSome || !(i.kind == .load || i.kind == .lr || i.kind == .ioLoad) || !i.parts.all (fun p => p.val.isSome) then s
  else
    match (List.range i.parts.length).find? (fun j => match i.parts[j]? with
      | some p => p.poison
      | none => false) with
    | some j =>
      let sec := ((i.parts[j]?).map (·.sec)).getD 0
      let va := if j = 0 then i.va else i.va + w64 (64 - i.va.toNat % 64)
      s.poisonFault h i sec va
    | none => s.modInfl h i.id (fun i => { i with complete := true })

/-- The value that the parts of a completed instruction form, the first part lowest. -/
def Infl.value (i : Infl) : Nat :=
  (i.parts.foldl (fun (a : Nat × Nat) p => (a.1 + p.val.getD 0 * 2 ^ (8 * a.2), a.2 + p.len)) (0, 0)).1

/-- Whether an instruction comes after another in flight. -/
def Hart.younger (x : Hart) (id : Nat) (i : Infl) : Bool := ((x.infl.dropWhile (fun j => j.id != id)).drop 1).any (fun j => j.id == i.id)

/-- Take a trap from outside an access: what is in flight is squashed first (R31, R75). -/
def State.trap (s : State) (h cause : Nat) (irq : Bool) (tval epc : Word) : State :=
  (s.squash h (fun _ => true)).takeTrap h cause irq tval epc

/-- Take a trap with the further registers of R34: the guest address and the transformed instruction. -/
def State.trapPend (s : State) (h : Nat) (f : Pend) (pc : Word) : State :=
  let s1 := (s.squash h (fun _ => true)).takeTrap h f.cause false f.tval pc
  match (s1.hart h).priv, (s1.hart h).virt with
  | .m, _ => ((s1.setCsr h 0x34B (w64 (f.gpa.toNat / 4))).setCsr h 0x34A f.tinst)
  | .s, false => ((s1.setCsr h 0x643 (w64 (f.gpa.toNat / 4))).setCsr h 0x64A f.tinst)
  | _, _ => s1

/-- Halt a hart in debug mode: the cause and pc of the debug control register, the predictors emptied (R64, R321). -/
def State.haltHart (s : State) (h cause : Nat) (pc : Word) : State :=
  let x := s.hart h
  let d := putBits (putBits (s.csr h 0x7B0) 6 3 cause) 0 2 x.priv.code
  let s1 := (((s.squash h (fun _ => true)).setCsr h 0x7B0 (putBits d 5 1 x.virt.toNat)).setCsr h 0x7B1 pc).modHart h (fun x => { x.squashAll with debug := true, haltReq := false })
  s1.predFlush h

/-- An itrigger or etrigger fires on a trap taken from a mode: debug mode, or a breakpoint exception at the handler (R34). -/
def State.trapFires (s : State) (h type cause : Nat) (x : Hart) : State :=
  match s.trapTrigger h type cause x with
  | some true => s.haltHart h 2 (s.hart h).pc
  | some false => s.trap h Exc.breakpoint false 0 (s.hart h).pc
  | none => s

/-- Take an exception with its triggers (R34, R75). -/
def State.except (s : State) (h : Nat) (f : Pend) (pc : Word) : State := (s.trapPend h f pc).trapFires h 5 f.cause (s.hart h)

/-- The first faulting element of a fault-only-first load, but for element 0, trims vl and raises nothing (R34). -/
def State.trimVl (s : State) (h : Nat) (i : Infl) (e : Nat) : State :=
  (s.setCsr h 0xC20 (w64 e)).modHart h (fun x => { x with infl := x.infl.map (fun j => if j.id = i.id then { j with fault := none, complete := true, done := true } else j) })

/-- Act on the oldest instruction when it is bound: raise its exception, or write its register or pass its store to the store queue (R60, R75). -/
def State.settle (s : State) (h : Nat) : State :=
  match (s.hart h).infl with
  | [] => s
  | i :: _ =>
    if i.spec then s
    else match i.fault with
      | some f =>
        if f.debug then s.haltHart h 2 i.pc
        else if i.fof && i.elt.getD 0 != 0 && f.cause != Exc.breakpoint then s.trimVl h i (i.elt.getD 0)
        else
          let s1 := match i.elt with
            | some e => s.setCsr h 0x008 (w64 e)
            | none => s
          let s2 := if f.cause = Exc.hardwareError then
              s1.errorEvent .core (s1.physCore h) { sev := .uec, code := Ev.poisonConsumed, addr := some f.pa } (s1.srcHart h) (w64 f.pa) (w64 h)
            else s1
          s2.except h f i.pc
      | none =>
        if i.kind = .store ∧ i.done = false then
          s.modHart h (fun x =>
            { x with sq := x.sq ++ i.parts.map (fun p => { sec := p.sec, off := p.off, len := p.len, val := p.val.getD 0, etype := p.etype, pc := i.pc }),
                     infl := x.infl.modify 0 (fun j => { j with done := true }) })
        else if i.complete ∧ i.done = false then
          s.modHart h (fun x => { (x.setDest i.dest i.size i.signed i.value) with
            infl := x.infl.modify 0 (fun j => { j with done := true }),
            resv := if i.kind == .lr then (i.parts.head?).map (·.sec) else x.resv })
        else s

/-- A pending write of CORE_SPEC_CTRL takes effect at an instruction boundary of the core's hart (R61, R62): a carrel has both protections whatever the fields hold. -/
def State.specBoundary (s : State) (c : Nat) : State :=
  match (s.core c).specNext with
  | none => s
  | some v =>
    let carrel : Bool := match s.hartOf c with
      | some h => decide (3 ≤ s.seat h)
      | none => false
    let pf := bitsOf v 0 1
    let fd := bitsOf v 1 1
    ((((s.modCore c (fun k => { k with specNext := none })).setF F.coreSpecCtrl_predFlush c 0 pf).setF F.coreSpecCtrl_fillDefer c 0 fd).setF F.coreSpecCtrl_predFlushEff c 0
      (if carrel then 1 else pf)).setF F.coreSpecCtrl_fillDeferEff c 0 (if carrel then 1 else fd)

/-- A hart stops: what is in flight is squashed, its LR reservation is cleared and hold windows close (R44 step 2, R152). -/
def State.halted (s : State) (h : Nat) : State :=
  (((s.squash h (fun _ => true)).specBoundary (s.physCore h)).closeWindows (s.physCore h)).modHart h (fun x =>
    { x with fence := none, resv := none, stopped := true, stopping := false })

/-- Move everything of a hart that can move: its oldest store, its instructions in flight in order, and its oldest instruction; a hart that is to stop stops when nothing is in flight. -/
def State.hartPump (s : State) (h : Nat) : State :=
  let go (s : State) : State := (s.hart h).infl.foldl (fun s i => s.inflPump h i) s
  let s1 := go (s.storePump h)
  let s2 := (s1.hart h).infl.foldl (fun s i => s.loadDone h i) s1
  let s3 := (((s2.settle h).storePump h).shadowPump h).windowsCheck (s2.physCore h)
  if !(s3.hart h).infl.isEmpty then s3
  else if (s3.hart h).stopping then s3.halted h
  else if (s3.hart h).haltReq && s3.runs h then s3.haltHart h 3 (s3.hart h).pc
  else s3

/-! ### Emptying a core (R44, R148, R297) -/

/-- Whether a core has no open request (R148 step 1). -/
def State.coreIdle (s : State) (c : Nat) : Bool :=
  s.reqs.all (fun e => match e.2 with
    | some r => !(e.1 / 4096 == coreStop c && r.ep == c % 2)
    | none => true)

/-- Whether a core holds nothing and waits for nothing (R148 step 4). -/
def State.coreEmpty (s : State) (c : Nat) : Bool := s.coreIdle c && (s.heldBy c).isEmpty

/-- A core that is to empty its caches evicts every sector that may leave; with the last answer it is empty, and on its way to isolation it is FLUSHED (R148). -/
def State.emptyPump (s : State) (c : Nat) : State :=
  let s0 := if (s.core c).quiet && s.coreIdle c && !(s.core c).flushed then s.modCore c (fun k => { k with emptying := true }) else s
  if !(s0.core c).emptying then s0
  else
    let s1 := (s0.heldBy c).foldl (fun s e => s.evictLine c e.1 false) s0
    if s1.coreEmpty c then s1.modCore c (fun k => { k with emptying := false, flushed := k.quiet }) else s1

/-- Move what the hart on a core has in flight, and the core's own eviction. -/
def State.corePump (s : State) (c : Nat) : State :=
  State.emptyPump (match s.hartOf c with
    | some h => s.hartPump h
    | none => s) c

/-- Bring a hart towards an instruction boundary, as an interrupt does (R77). An instruction that an interrupt abandons is abandoned; a vector access stops between elements; every
other instruction that is the oldest completes first, with nothing younger. The boolean says that the hart stands at the boundary. -/
def State.toBoundary (s : State) (h : Nat) : Bool × State :=
  match (s.hart h).infl with
  | [] => (true, s)
  | i :: l =>
    let main : Bool := i.elt.isSome && i.parts.all (fun p => p.etype != .io)
    let begun : Bool := i.parts.any (fun p => p.tag.isSome || p.val.isSome)
    let none_ (s : State) : State := s.squash h (fun _ => true)
    if i.spec || ((i.kind == .fence || i.kind == .fenceAx) && !i.complete) then (true, none_ s)
    else if main && !begun && !i.done then (true, none_ (s.setCsr h 0x008 (w64 (i.elt.getD 0))))
    else if main && i.done && (l.head?.map (fun j => j.pc == i.pc && j.elt == i.elt.map (· + 1))) == some true then
      (true, none_ (s.setCsr h 0x008 (w64 (i.elt.getD 0 + 1))))
    else (false, s.squash h (fun j => j.id != i.id))

/-- Stop a hart at its next instruction boundary, as an interrupt would (R44 step 2, R77). (DEDUCED, assumption 54.) -/
def State.stopHart (s : State) (h : Nat) : State :=
  let r := s.toBoundary h
  if r.1 then (if (s.hart h).stopped then s else r.2.halted h) else r.2.modHart h (fun x => { x with stopping := true })

/-- Halt a running hart at its next instruction boundary, as an interrupt would (R77, R321). -/
def State.haltSoon (s : State) (h : Nat) : State :=
  let r := s.toBoundary h
  if r.1 then r.2.haltHart h 3 (r.2.hart h).pc else r.2.modHart h (fun x => { x with haltReq := true })

/-- Whether no request of a core waits at its stop's interface to be sent (R298). -/
def State.allSent (s : State) (c : Nat) : Bool :=
  let own (p : Packet) : Bool := p.srcN == coreStop c && p.epN == c % 2 && isCoherentReq p.opcode
  !s.outq.any own && !(s.ni (coreStop c)).hold.any own

/-- Whether a hart has stopped and everything that it issued is performed: no instruction in flight, no retired store waiting, no open request of its core (R44 step 3). -/
def State.atRest (s : State) (h : Nat) : Bool :=
  (s.hart h).stopped && (s.hart h).infl.isEmpty && (s.hart h).sq.isEmpty && s.coreIdle (s.physCore h) && s.allSent (s.physCore h)

/-- Bring a stopped hart to rest and empty its core's caches (R44 steps 3 and 4, R297 steps 2 and 3). The boolean says that nothing is left; until then the command that asked is repeated. -/
def State.quiesce (s : State) (h : Nat) : Bool × State :=
  let c := s.physCore h
  let s1 := s.corePump c
  if (s1.core c).emptying || s1.coreEmpty c then (s1.coreEmpty c && s1.atRest h, s1)
  else if s1.atRest h then
    let s2 := (s1.modCore c (fun k => { k with emptying := true })).emptyPump c
    (s2.coreEmpty c, s2)
  else (false, s1)

end Sys2Proof.Machine
end

