-- ==== Sys2Proof/Machine/Mem.lean ====
section
/-! DEFINITION. The memory ports: populations and placement (R262, R263), decoding and erasures (R267, R275), the marginalia cache (R270), reads and writes
(R268, R269, R271, R273, R278), and the same for a depository granule behind its gate (R248). -/
namespace Sys2Proof.Machine

/-- Port rows in a bank (R262): by the raw capacity that MP_CFG's density and device mode give. -/
def mpRows (density : Nat) (clam : Bool) : Option Nat :=
  match density, clam with
  | 1, false => some 32768
  | 2, false => some 65536
  | 0, true => some 32768
  | 1, true => some 65536
  | 2, true => some 131072
  | _, _ => none

/-- Row groups of a bank: five rows each (R262). -/
def mpGroups (density : Nat) (clam : Bool) : Option Nat := (mpRows density clam).map (· / 5)

/-- Where a port-local granule and its marginalia lie (R263). -/
structure MpPlace where
  bank : Nat
  row : Nat
  col : Nat
  mbank : Nat
  mrow : Nat
  mcol : Nat
  mslot : Nat
  deriving DecidableEq, Repr

/-- The address mapping of R263. -/
def mpPlace (loc : Nat) : MpPlace :=
  let grp := loc / 4096
  let r := loc % 4096
  let col := r % 64
  let bank := xorNat (r / 64 % 16) (grp % 16)
  let drow := r / 1024
  let u := 64 * drow + col
  { bank := bank, row := 5 * grp + drow, col := col, mbank := xorNat bank 8, mrow := 5 * grp + 4, mcol := u / 4, mslot := u % 4 }

/-- The number of a marginalia burst, for the cache. -/
def MpPlace.burst (m : MpPlace) : Nat := (m.mrow * 16 + m.mbank) * 64 + m.mcol

/-- The granules of a port (R262), and of its mirror area (R277). -/
def State.mpGranules (s : State) (k : Nat) : Nat := 4096 * s.getF F.mpStatus_groups k 0
def State.mpMirror (s : State) (k : Nat) : Nat := 4096 * s.getF F.mpCfg_mirrorGroups k 0

/-- Whether a port-local granule is mirrored (R277). -/
def State.mirrored (s : State) (k loc : Nat) : Bool :=
  let d := s.mpGranules k
  let m := s.mpMirror k
  decide (0 < m) && decide (d - 2 * m ≤ loc) && decide (loc < d - m)

/-- The retired lanes of a port (R275, R276). -/
def State.retiredLanes (s : State) (k : Nat) : List Nat :=
  (List.range 4).filterMap (fun i => if s.isF (F.mpLaneRetire_valid i) k 0 then some (s.getF (F.mpLaneRetire_lane i) k 0) else none)

/-- The erasures of a codeword: each retired lane's data symbol, and its marginalia symbol where the slot lies on the lane (R266, R275). -/
def erasures (lanes : List Nat) (mslot : Nat) : Nat := lanes.length + (lanes.filter (fun l => l / 16 == mslot)).length

/-! ### The codeword of a granule (R264 to R266) -/

/-- The ciphertext that the devices hold of a stored granule: its two sectors (R268); a blank granule is zero (R309). -/
def Granule.cipher (g : Granule) (gran : Nat) : Sector × Sector :=
  if g.blank then (g.d0, g.d1) else (sealSector (Config.keyBits g.gen) (2 * gran) g.d0, sealSector (Config.keyBits g.gen) (2 * gran + 1) g.d1)

/-- The level of DQ pin p in beat b of a data burst: bit p mod 8 of byte 8 (b mod 8) + p div 8 of sector b div 8 (R264). -/
def dqLevel (d : Sector × Sector) (b p : Nat) : Bool := (if b / 8 = 0 then d.1 else d.2).getLsbD (8 * (8 * (b % 8) + p / 8) + p % 8)

/-- Beat b of a data burst: 64 pins (R264). -/
def dataBeat (d : Sector × Sector) (b : Nat) : BitVec 64 := BitVec.ofNat 64 ((List.range 64).foldl (fun a p => a + (dqLevel d b p).toNat * 2 ^ p) 0)

/-- Data symbol d_p: the 16 beats of data pin p, beat b at bit b (R266). -/
def dataSymbol (d : Sector × Sector) (p : Nat) : Nat := (List.range 16).foldl (fun a b => a + (dqLevel d b p).toNat * 2 ^ b) 0

/-- The metadata of a granule (R265). -/
def Granule.metadata (g : Granule) : Nat :=
  g.p0.toNat + g.p1.toNat * 2 + g.echoWid % 2 ^ 6 * 2 ^ 8 + g.echoSlot % 2 ^ 8 * 2 ^ 14 + g.keyEpoch % 2 ^ 8 * 2 ^ 24 + g.scrubEpoch % 2 ^ 6 * 2 ^ 32

/-- A product in GF(2^16) with polynomial 0x1100B (R266): Horner over the bits of the second factor. -/
def gfMul (a b : Nat) : Nat :=
  (List.range 16).foldl (fun r i =>
    let d := if r < 2 ^ 15 then 2 * r else xorNat (2 * r - 2 ^ 16) 0x100B
    if b / 2 ^ (15 - i) % 2 = 1 then xorNat d a else d) 0

/-- The generator polynomial g(x), the product of x - α^j for j = 0 to 11: its twelve low coefficients, the highest 1 (R266). -/
def rsGenerator : List Nat :=
  ((List.range 12).foldl (fun (a : List Nat × Nat) _ =>
    (List.zipWith xorNat (a.1.map (gfMul a.2) ++ [0]) (0 :: a.1), gfMul a.2 2)) ([1], 1)).1.take 12

/-- The check symbols p_0 to p_11 of the symbols u_0 to u_67: the remainder of info(x) x^12 by g(x), the highest symbol first into the division (R266). -/
def rsChecks (u : List Nat) : List Nat :=
  u.reverse.foldl (fun (r : List Nat) c =>
    let f := xorNat c (r.getD 11 0)
    List.zipWith xorNat (0 :: r.take 11) (rsGenerator.map (gfMul f))) (List.replicate 12 0)

/-- The information symbols of a stored granule, d_0 to d_63 and m_0 to m_3, and its codeword, position 0 first (R266). -/
def Granule.symbols (g : Granule) (gran : Nat) : List Nat :=
  (List.range 64).map (dataSymbol (g.cipher gran)) ++ (List.range 4).map (fun k => g.metadata / 2 ^ (16 * k) % 2 ^ 16)
def Granule.codeword (g : Granule) (gran : Nat) : List Nat := rsChecks (g.symbols gran) ++ g.symbols gran

/-- What a granule stores on the sixteen pins of its slot of the marginalia burst: m_k on pin k, p_j on pin 4 + j (R266). -/
def Granule.marginalia (g : Granule) (gran : Nat) : List Nat := (g.symbols gran).drop 64 ++ rsChecks (g.symbols gran)

/-- What a decode finds. -/
inductive Dec where
  | clean | corrected | lost
  deriving DecidableEq, Repr

/-- Correction mode (R267): every pattern of t errors and e erasures with 2t + e at most 12. -/
def decodeAt (syms eras : Nat) : Dec :=
  if syms = 0 ∧ eras ≤ 12 then .clean else if 2 * syms + eras ≤ 12 then .corrected else .lost

/-- Decode a granule of a port: the mirrored range by R278 while its link is up and no copy runs, everything else in correction mode (R279). The
second component says whether the partner's copy served. -/
def State.decode (s : State) (k loc : Nat) (re : ReadErr) : Dec × Bool :=
  let e := erasures (s.retiredLanes k) (mpPlace loc).mslot
  if s.mirrored k loc && s.isF F.mpStatus_mirrorLinkUp k 0 && !(s.mps.get {} k).resync then
    if re.syms = 0 then (.clean, false)
    else if re.partner = 0 then (.clean, true)
    else if decodeAt re.syms e ≠ .lost then (.corrected, false)
    else (decodeAt re.partner e, true)
  else (decodeAt re.syms e, false)

/-- The suppl_info of a memory error (R490). -/
def supplMem (syms eras : Nat) : Word := w64 (syms % 256 + eras % 256 * 2 ^ 8)

/-- A port as a source of events. -/
def srcMp (k wid : Nat) : Source := { stop := mpStops.getD k 0, unit := 4, wid := wid }

/-- Touch a marginalia burst in a port's cache: a read that misses fills all four slots, a write makes its slot valid and dirty; a set of 16 gives up its least recently used
entry (R270). -/
def State.margTouch (s : State) (k loc : Nat) (write : Bool) : State :=
  let m := s.mps.get {} k
  let pl := mpPlace loc
  let b := pl.burst
  let old := m.mcache.find? (fun e => e.1 == b)
  let bit : BitVec 4 := 1 <<< pl.mslot
  let hit : Bool := match old with
    | some (_, v, _) => write || v &&& bit != 0
    | none => false
  let new : Nat × BitVec 4 × BitVec 4 := match old with
    | some (_, v, d) => if write then (b, v ||| bit, d ||| bit) else (b, if hit then v else BitVec.allOnes 4, d)
    | none => if write then (b, bit, bit) else (b, BitVec.allOnes 4, 0)
  let rest := m.mcache.filter (fun e => e.1 != b)
  let set := rest.filter (fun e => decide (e.1 % 128 = b % 128))
  let kept := if set.length < 16 then rest else match set.head? with
    | some v => rest.erase v
    | none => rest
  State.pmu { s with mps := s.mps.set {} k { m with mcache := kept ++ [new] } } .mp k (if hit then 0x304 else 0x305) 1
    { addr := some (deinterleave k loc * 128) }

/-- What a memory target answers a read: the two sectors with their poison, or an error code. -/
inductive MemAns where
  | data (d0 d1 : Sector) (p0 p1 : Bool)
  | err (code : Nat)
  deriving DecidableEq, Repr

/-- Record an access to a port that cannot serve it (R280, R283). -/
def State.mpAsleep (s : State) (k wid : Nat) : State := s.record Ev.mpEvent (srcMp k wid) (w64 k) 4

/-- Record an access that a target refuses (R304, R496). -/
def State.refusedPage (s : State) (src : Source) (gran wid origin : Nat) : State :=
  s.record Ev.accessRefused src (w64 (gran * 128)) (w64 (wid % 64 + origin * 256))

/-- The EDC repeats of a burst: at most four (R271). -/
def State.countEdc (s : State) (k : Nat) (re : ReadErr) : State :=
  (List.range (min 4 re.edcRepeats)).foldl (fun s _ => s.incSat F.mpErrCount_edcRetries k 0) s

/-- Count and record what a decode found (R273, R278, R289, R472). -/
def State.countDecode (s : State) (k gran loc : Nat) (re : ReadErr) (wid : Nat) : State :=
  let e := erasures (s.retiredLanes k) (mpPlace loc).mslot
  let r := s.decode k loc re
  let c : PmuCtx := { addr := some (gran * 128) }
  let s0 := if r.2 then (s.incSat F.mpErrCount_mirrorFallbacks k 0).pmu .mp k 0x30A 1 c else s
  let s1 := s0.countEdc k re
  match r.1 with
  | .clean => s1
  | .corrected => (((re.pins.foldl (fun (s : State) (p : Nat) => s.countErr (4096 + 64 * k + p % 64)) s1).incSat F.mpErrCount_corrected k 0).pmu .mp k 0x308 1 c).errorEvent .mp k
      { sev := .ce, code := Ev.mpCorrected, addr := some (gran * 128), syms := re.syms, eras := e } (srcMp k wid) (w64 (gran * 128)) (supplMem re.syms e)
  | .lost => (s1.incSat F.mpErrCount_uncorrectable k 0).errorEvent .mp k
      { sev := .ued, code := Ev.mpUncorrectable, addr := some (gran * 128), syms := re.syms, eras := e } (srcMp k wid) (w64 (gran * 128)) (supplMem re.syms e)

/-- Whether a port serves requests (R280, R283). -/
def State.mpServes (s : State) (k : Nat) : Bool := s.getF F.mpStatus_trainState k 0 == 9

/-- A read at a port: deed check (R304), decode (R267, R278), uncorrectable granules (R273), owner echo (R269), decryption (R268, R309). -/
def State.portRead (s : State) (k gran wid : Nat) (check : Bool) (re : ReadErr) : MemAns × State :=
  let loc := (interleave (gran % 2 ^ 33)).2
  if !s.mpServes k then (.err Err.targetDead, s.mpAsleep k wid)
  else
    let s := s.deedNote (dcPort k) (gran / 32)
    match s.sealDeed (gran / 32) with
    | none => (.err Err.permission, s.refusedPage (srcMp k wid) gran wid Origin.memPort)
    | some d =>
      if check && !deedAllows d wid false then (.err Err.permission, s.refusedPage (srcMp k wid) gran wid Origin.memPort)
      else
        let s0 := s.pmu .mp k 0x301 1 { wid := some wid, addr := some (gran * 128) }
        let s1 := (s0.margTouch k loc false).countDecode k gran loc re wid
        match (s.decode k loc re).1 with
        | .lost => (.data 0 0 true true, s1.setGranule gran (s1.sealed d 0 0 true true))
        | _ =>
          let g := s1.granule gran
          if !s1.echoOk g d then
            (.err Err.permission, (s1.incSat F.mpErrCount_echoMismatch k 0).record Ev.mpEchoMismatch (srcMp k wid) (w64 (gran * 128)) (w64 wid))
          else
            let r := s1.openGranule gran g d
            (.data r.1 r.2 g.p0 g.p1, s1)

/-- What a MemWrite carries: for each sector whether it is carried, its data, its mask and its poison (R209). -/
structure WData where
  s0 : Bool := false
  s1 : Bool := false
  d0 : Sector := 0
  d1 : Sector := 0
  m0 : BitVec 64 := 0
  m1 : BitVec 64 := 0
  p0 : Bool := false
  p1 : Bool := false
  deriving DecidableEq, Repr

/-- Both sectors, unmasked. -/
def WData.full (w : WData) : Bool := w.s0 && w.s1 && w.m0 == fullMask && w.m1 == fullMask

/-- One sector under a mask. -/
def WData.one (sec : Nat) (d : Sector) (m : BitVec 64) (p : Bool) : WData :=
  if sec % 2 = 0 then { s0 := true, d0 := d, m0 := m, p0 := p } else { s1 := true, d1 := d, m1 := m, p1 := p }

/-- The granule that a write leaves over what was there (R86, R216). -/
def WData.merge (w : WData) (o0 o1 : Sector) (q0 q1 : Bool) : Sector × Sector × Bool × Bool :=
  (if w.s0 then mergeSector o0 w.d0 w.m0 else o0, if w.s1 then mergeSector o1 w.d1 w.m1 else o1,
   if w.s0 then poisonAfter w.m0 q0 w.p0 else q0, if w.s1 then poisonAfter w.m1 q1 w.p1 else q1)

/-- A write at a port (R268, R269, R271, R273, R304): none when performed, or the error code. A burst that fails a fifth time is read back, and where that finds it damaged
(`syms`) the port writes it once more and records the event. -/
def State.portWrite (s : State) (k gran wid : Nat) (victim : Bool) (w : WData) (re : ReadErr) : Option Nat × State :=
  let loc := (interleave (gran % 2 ^ 33)).2
  if !s.mpServes k then (some Err.targetDead, s.mpAsleep k wid)
  else
    let s := s.deedNote (dcPort k) (gran / 32)
    match s.sealDeed (gran / 32) with
    | none => (some Err.permission, s.refusedPage (srcMp k wid) gran wid Origin.memPort)
    | some d =>
      if !victim && !deedAllows d wid true then (some Err.permission, s.refusedPage (srcMp k wid) gran wid Origin.memPort)
      else if w.full then
        let s0 := s.pmu .mp k 0x302 1 { wid := some wid, addr := some (gran * 128) }
        let s1 := (s0.margTouch k loc true).countEdc k re
        let s2 := if 4 < re.edcRepeats ∧ re.syms ≠ 0 then s1.record Ev.mpEvent (srcMp k wid) (w64 k) 5 else s1
        (none, s2.setGranule gran (s2.sealed d w.d0 w.d1 w.p0 w.p1))
      else
        let s0 := s.pmu .mp k 0x303 1 { wid := some wid, addr := some (gran * 128) }
        let s1 := (s0.margTouch k loc false).countDecode k gran loc re wid
        match (s.decode k loc re).1 with
        | .lost =>
          let r := w.merge 0 0 true true
          (none, (s1.margTouch k loc true).setGranule gran (s1.sealed d r.1 r.2.1 r.2.2.1 r.2.2.2))
        | _ =>
          let g := s1.granule gran
          if !s1.echoOk g d then
            (some Err.permission, (s1.incSat F.mpErrCount_echoMismatch k 0).record Ev.mpEchoMismatch (srcMp k wid) (w64 (gran * 128)) (w64 wid))
          else
            let o := s1.openGranule gran g d
            let r := w.merge o.1 o.2 g.p0 g.p1
            (none, (s1.margTouch k loc true).setGranule gran (s1.sealed d r.1 r.2.1 r.2.2.1 r.2.2.2))

/-! ### Depository granules -/

/-- The gate of a depository granule and its home agent's endpoint (R25). -/
def State.depoGate (s : State) (st gran : Nat) : Option (Nat × Nat) :=
  let t := s.memTarget st gran
  (stopAx t.1).map (fun k => (k, t.2))

/-- Why a gate cannot reach a home agent: the port is not open, or it or the agent is quarantined (R213, R250, R252). -/
def State.agentDead (s : State) (k j : Nat) : Bool :=
  s.isF F.axgQstatus_portQuarantined k 0 || s.getF F.axgQstatus_agentQuarantined k 0 / 2 ^ j % 2 == 1
    || s.getF F.axgPortStatus_linkState k 0 != 5

end Sys2Proof.Machine
end

