-- ==== Sys2Proof/Machine/Coherent.lean ====
section
/-! DEFINITION. What engines, host ports, the Keeper, the Curator, the debug module and the deed unit ask of memory (R107, R130), and byte ranges of it. -/
namespace Sys2Proof.Machine

/-- A coherent read of a sector: ReadOnce (R126, R130). -/
def State.cohRead (s : State) (wid sec : Nat) : CohAns × State := s.coh (.read wid sec)

/-- A coherent write of a sector under a mask (R127, R130): none when performed, or the error's code and origin. -/
def State.cohWrite (s : State) (wid sec : Nat) (d : Sector) (m : BitVec 64) (p : Bool) : Option (Nat × Nat) × State :=
  let r := s.coh (.write wid sec d m p)
  (match r.1 with
    | .err c o => some (c, o)
    | _ => none, r.2)

/-- A far atomic (R131, R215, R217): the old sector, or an error. -/
def State.cohAtomic (s : State) (wid sec aop off size val : Nat) : CohAns × State :=
  s.coh (.atomic wid sec aop (sectorAt (val % 2 ^ (8 * size)) off size) (spanMask off size))

/-- The effect of cbo.flush on a sector (R105, R129). -/
def State.cohFlush (s : State) (sec wid : Nat) : State := (s.coh (.flush wid sec)).2

/-! ### Byte ranges -/

/-- Read `n` bytes from an address, across sectors: the bytes as a number, or the first error; poison is an error of its own kind for the caller. -/
def State.readBytes (s : State) (wid : Nat) : Nat → Nat → Nat → (Option (Nat × Nat) × Bool × Nat × State)
  | 0, _, _ => (none, false, 0, s)
  | _ + 1, _, 0 => (none, false, 0, s)
  | f + 1, pa, n =>
    let off := pa % 64
    let len := min n (64 - off)
    let r := s.cohRead wid (pa / 64)
    match r.1 with
    | .err c o => (some (c, o), false, 0, r.2)
    | .done => (none, false, 0, r.2)
    | .data d p =>
      let q := State.readBytes r.2 wid f (pa + len) (n - len)
      (q.1, p || q.2.1, sectorBytes d off len + q.2.2.1 * 2 ^ (8 * len), q.2.2.2)

/-- Write `n` bytes to an address, across sectors. None when every part is performed. -/
def State.writeBytes (s : State) (wid : Nat) : Nat → Nat → Nat → Nat → (Option (Nat × Nat) × State)
  | 0, _, _, _ => (none, s)
  | _ + 1, _, 0, _ => (none, s)
  | f + 1, pa, n, v =>
    let off := pa % 64
    let len := min n (64 - off)
    let r := s.cohWrite wid (pa / 64) (sectorAt v off len) (spanMask off len) false
    match r.1 with
    | some e => (some e, r.2)
    | none => State.writeBytes r.2 wid f (pa + len) (n - len) (v / 2 ^ (8 * len))

end Sys2Proof.Machine
end

