-- ==== Sys2Proof/Machine/Access.lean ====
section
/-! DEFINITION. Who issues a write to control space and how it is answered: accepted, or refused as R8, R214 and R292 say. -/
namespace Sys2Proof.Machine

/-- The WID an access carries: the seat's for a hart, the packet's for another agent (R197, R290). -/
def State.issuerWid (s : State) (w : Issuer) : Nat :=
  match w.hart with
  | some h => s.seat h.toNat
  | none => w.wid.toNat

/-- A response to an issuer that is not a hart. -/
def issuerPacket (w : Issuer) (from_ : Nat) (op : BitVec 8) (attr : BitVec 16) : Packet :=
  { opcode := op, tag := w.tag, wid := w.wid, src := BitVec.ofNat 8 from_, dst := w.stop, endpoint := w.ep, attr := attr }

/-- The record of a register block's refusal (R292, R496): the network interface at the target stop is the source. (DEDUCED, assumption 13.) -/
def State.refusedReg (s : State) (st wid pa : Nat) : State := s.record Ev.accessRefused (srcStop st 3 wid) (w64 pa) (w64 (wid % 64 + Origin.register * 256))

/-- Refuse an access: a hart takes a load or store access fault, another agent receives ErrResp with the register block as its origin (R8, R214, R292). -/
def State.refuse (s : State) (w : Issuer) (st : Nat) (write : Bool) (code : Nat) : State :=
  let s := if code = Err.permission then s.refusedReg st (s.issuerWid w) w.pa.toNat else s
  match w.hart with
  | some h => s.trap h.toNat (if write then Exc.storeAccess else Exc.loadAccess) false w.va (s.hart h.toNat).pc
  | none => s.send (issuerPacket w st Opc.errResp (errAttr code Origin.register))

/-- Answer a write that is performed: Comp to an agent that is not a hart. -/
def State.accept (s : State) (w : Issuer) (st : Nat) : State :=
  match w.hart with
  | some _ => s
  | none => s.send (issuerPacket w st Opc.comp 0)

/-- A write that only some worlds may make: performed and answered, or refused with PERMISSION_ERR. -/
def State.guarded (s : State) (w : Issuer) (st : Nat) (may : Bool) (f : State → State) : Host.Outcome State Fault Refusal :=
  if may then ok ((f s).accept w st) else ok (s.refuse w st true Err.permission)

/-- The same for a register of a block: refused where the block cannot be reached (R28). -/
def State.guardedAt (s : State) (w : Issuer) (p : Place) (u : Nat) (may : Bool) (f : State → State) : Host.Outcome State Fault Refusal :=
  if s.reachable p u then s.guarded w (p.stopOf u) may f else ok (s.refuse w (p.stopOf u) true Err.targetDead)

/-- A write of a service-complex register that only WID 0 may make. -/
def State.keeperOnly (s : State) (w : Issuer) (st : Nat) (f : State → State) : Host.Outcome State Fault Refusal :=
  s.guarded w st (s.issuerWid w == 0) f

/-- A write of a block's register that only WID 0 may make. -/
def State.keeperAt (s : State) (w : Issuer) (p : Place) (u : Nat) (f : State → State) : Host.Outcome State Fault Refusal :=
  s.guardedAt w p u (s.issuerWid w == 0) f

/-- In M1 and M2 the SVC holds a write to a core's range or an interrupt file and answers Comp; when its queue is full the issuer stalls (R450). -/
def State.holdWrite (s : State) (w : Issuer) (x : HeldWrite) : State :=
  if s.pw.held.length < 64 then State.accept { s with pw := { s.pw with held := s.pw.held ++ [x] } } w svcStop else s

/-- Whether the SVC holds writes (R450). -/
def State.holds (s : State) : Bool := s.mode == 1 || s.mode == 2

/-- All bytes of a 64-bit write. -/
def allBytes : Word := 0xFFFFFFFFFFFFFFFF

end Sys2Proof.Machine
end

