-- ==== Sys2Proof/Machine/MeshSteps.lean ====
section
/-! DEFINITION. The mesh: injection (R169, R172, R178), absorption (R181), route writes (R170), the global fence (R175), epoch switching (R177 to R179),
metering (R183 to R190) and link sparing (R192, R193). -/
namespace Sys2Proof.Machine

/-! ### Answers in place of a target that cannot take a packet -/

/-- Whether an MGT message is a response (R206). -/
def mgtResponse (o : BitVec 8) : Bool := o == Opc.fenceAck || o == Opc.agentFlushDone || o == Opc.mgtErr

/-- The ENDPOINT of an answer to a packet's source (R198): a home's own messages come from endpoint 2 of its stop, an annex's management messages from its gate, and a
coherent request names its agent. -/
def sourceEp (p : Packet) : BitVec 8 :=
  if p.opcode == Opc.memRead || p.opcode == Opc.memWrite then 2
  else if p.cls = 3 && (stopAx p.srcN).isSome then 16
  else if p.cls = 4 && (stopTile p.srcN).isSome then 2
  else p.endpoint

/-- The answer of an absorbing stop or of a route miss (R172, R181): `flushed` is the FLUSHED bit that applies. R181 names DAT WriteData and other DAT; a WriteDataMasked, which
carries write data too, is answered as WriteData. (DESIGN CHOICE, assumption 115.) -/
def deadAnswer (p : Packet) (at_ : Nat) (flushed : Bool) (origin : Nat) : Option Packet :=
  let err (op : BitVec 8) : Packet := { answer p at_ op (errAttr Err.targetDead origin) with endpoint := sourceEp p }
  match p.cls with
  | 0 => some (err Opc.errResp)
  | 1 => some { opcode := Opc.snpResp, tag := p.tag, wid := p.wid, src := p.dst, dst := p.src, endpoint := 2, address := p.address,
                attr := snpAttr 0 false (!flushed) p.epN }
  | 3 => if mgtResponse p.opcode then none else some (err Opc.mgtErr)
  | 4 => if p.opcode == Opc.writeData || p.opcode == Opc.writeDataMasked then some (err Opc.errResp) else none
  | _ => none

/-! ### Routes -/

/-- The route entry of a bank: ROUTE and VALID (R169). -/
def State.routeEntry (s : State) (st : Nat) (bank : Bool) (d : Nat) : BitVec 40 × Bool :=
  let w := s.regWord (if bank then .niRouteB else .niRouteA) st d
  (w.setWidth 40, d < 160 && w.getLsbD 40)

/-! ### Injection -/

/-- Put a packet into the mesh on its active route, through the injection port: on the metered VC in a slot of its world's lane there, or where its world holds no lane, or the
lane's slots are gone, in an unreserved one (R169, R173, R183, R187, R190, R194). A packet for its own stop enters no router (R162). The boolean says whether it had a slot. -/
def State.launchPacket (s : State) (st : Nat) (p : Packet) : Bool × State :=
  let q := { p with route := (s.routeEntry st (s.bank st) p.dstN).1, epoch := s.bank st, metered := s.isMetered p }
  if st = p.dstN then (true, { s with net := s.net ++ [{ pkt := q, at_ := st }] })
  else
    let r := s.reach { pkt := q, at_ := st, onOpen := (s.ni st).orphan.contains p } 5
    if !r.2.departs st 5 q r.1.onOpen then (false, s)
    else
      let t := ((r.2.leavePort st 5 q).modNi st (fun n => { n with orphan := n.orphan.erase p })).reach r.1 r.1.port
      (true, { t.2 with net := t.2.net ++ [t.1] })

/-- A route miss: counted, recorded, and answered at once to the agent at the stop itself (R172). -/
def State.missRoute (s : State) (st : Nat) (p : Packet) : State :=
  let s1 := (s.modNi st (fun n => { n with routeMiss := n.routeMiss + 1 })).pmu .stop st 0x206 1 { wid := some p.widN }
  let s2 := s1.record Ev.routeMiss (srcStop st 3 p.widN) (w64 p.dstN) (w64 st)
  match deadAnswer p st false Origin.sourceNi with
  | some q => { s2 with net := s2.net ++ [{ pkt := { q with route := 0x80, epoch := s.bank st }, at_ := st }] }
  | none => s2

/-- Whether a packet must wait for the epoch's drain: its interface has flipped and its entry differs between the banks (R178). -/
def State.mustHold (s : State) (st : Nat) (p : Packet) : Bool :=
  s.isF F.niFabricStatus_drainBusy 0 0 && s.bank st == s.isF F.niFabricStatus_epoch 0 0
    && s.regWord .niRouteA st p.dstN != s.regWord .niRouteB st p.dstN

/-- Inject a packet at an interface: held, stalled, missed, or sent into the mesh (R172, R178). The boolean says whether it left its queue. -/
def State.injectAt (s : State) (st : Nat) (p : Packet) : Bool × State :=
  if s.mustHold st p then
    if (s.ni st).hold.length < 16 then
      (true, ((s.modNi st (fun n => { n with hold := n.hold ++ [p] })).setF F.niRouteStatus_holding st 0 1).pmu .stop st 0x208 1
        { wid := some p.widN, cls := some (p.cls) })
    else (false, s)
  else if !(s.routeEntry st (s.bank st) p.dstN).2 then (true, s.missRoute st p)
  else s.launchPacket st p

/-- Whether an interface sends one packet only behind another: they have the same class and destination on the open VC, or the same class and lane (R173, R188). -/
def State.behind (s : State) (p q : Packet) : Bool :=
  q.src == p.src && q.cls == p.cls && s.isMetered q == s.isMetered p && (if s.isMetered p then q.wid == p.wid else q.dst == p.dst)

/-- Whether a packet must wait at its interface: behind an earlier packet, queued or held, or behind one of its class that stalls at a full hold queue (R173, R178, R188). -/
def State.stalledBehind (s : State) (st : Nat) (p : Packet) : Bool :=
  let before := s.outq.takeWhile (fun q => q != p)
  before.any (fun q => s.behind p q) || (!s.mustHold st p && (s.ni st).hold.any (fun q => s.behind p q))
    || (decide (16 ≤ (s.ni st).hold.length) && before.any (fun q => q.srcN == st && q.cls == p.cls && s.mustHold st q))

/-- PACKET_INJECT (R169, R172, R173, R178, R183, R187, R188, R197): the packet leaves its source's queue; in Quarantine only the Keeper's (R455). -/
def execPacketInject (p : Packet) (s : State) : Host.Outcome State Fault Refusal :=
  let st := p.srcN
  if s.stalledBehind st p || (s.mode == 7 && !(st == svcStop && p.epN == 0)) then ok s
  else
    let r := s.injectAt st p
    if r.1 then ok (State.modNi { r.2 with outq := r.2.outq.erase p } st (fun n => { n with before := n.before.erase p }))
    else ok s

/-! ### Dead stops -/

/-- Whether a packet is absorbed at a stop, and under which FLUSHED bit (R181): by its router, where the packet would end beyond a port whose neighbour is dead; or by the interface of
a dead stop to which it is ejected. -/
def State.absorbs (s : State) (st : Nat) (port : Option (Fin 4)) (f : Flight) : Option Bool :=
  if f.at_ != st then none
  else match port with
    | some i =>
      (match routeStep f.pkt.route with
        | some (d, r) => if d = i.val ∧ s.deadAhead st d r = true then some (s.getF F.rtDeadCtrl_flushed st 0 / 2 ^ i.val % 2 == 1) else none
        | none => none)
    | none => if s.selfDead st && f.ejecting then some (s.isF F.rtDeadCtrl_selfFlushed st 0) else none

/-- PACKET_ABSORB (R181): where nothing absorbs the packet it goes its way, and while the answer cannot be sent it waits in the router (R178). -/
def execPacketAbsorb (stop : Fin 160) (port : Option (Fin 4)) (p : Packet) (s : State) : Host.Outcome State Fault Refusal :=
  let st := stop.val
  let i := s.net.findIdx? (fun f => samePacket f.pkt p)
  let f : Flight × State := match i.bind (fun i => s.net[i]?) with
    | some f => s.forward f 160
    | none => ({ pkt := p, at_ := st }, s)
  match s.absorbs st port f.1 with
  | none => ok s
  | some fl =>
    let s0 : State := match i with
      | some i => { f.2 with net := f.2.net.eraseIdx i }
      | none => f.2
    let s1 := (s0.modNi st (fun n => { n with absorbed := n.absorbed + 1 })).pmu .stop st 0x207 1
      { wid := some p.widN, cls := some (p.cls), port := some (match port with
          | some i => i.val
          | none => 4) }
    match deadAnswer p st fl Origin.absorber with
    | some q =>
      let r := s1.injectAt st q
      ok (if r.1 then r.2 else s)
    | none => ok s1

/-- EJECT_IDLE: no flit is in a stop's ejection path (R180). -/
def State.ejectIdle (s : State) (st : Nat) : Bool :=
  !(s.net.any (fun f => f.pkt.dstN == st && f.pkt.src != f.pkt.dst && (s.forward f 160).1.ejecting))

/-! ### Route writes -/

/-- A write of a route entry (R168 to R171): refused for the active bank, during a drain, and where a valid route breaks R168; entries 160 to 255 stay 0. True when it is not
refused. -/
def State.routeWrite (s : State) (st : Nat) (bank : Bool) (i : Nat) (v : Word) : Bool × State :=
  if bank == s.bank st || s.isF F.niFabricStatus_drainBusy 0 0 || (v.getLsbD 40 && (decide (160 ≤ i) || !routeOk st i (v.setWidth 40))) then
    (false, (s.setF F.niRouteStatus_reject st 0 1).setF F.niRouteStatus_rejectIndex st 0 i)
  else if 160 ≤ i then (true, s)
  else (true, s.writeReg (if bank then .niRouteB else .niRouteA) st i v allBytes)

/-- NI_ROUTE_WRITE (R168 to R171). -/
def execNiRouteWrite (w : Issuer) (stop : Fin 160) (bank : Bool) (d : BitVec 8) (v : Word) (s : State) : Host.Outcome State Fault Refusal :=
  s.keeperAt w .stop stop.val (fun s => (s.routeWrite stop.val bank d.toNat v).2)

/-! ### The global fence -/

/-- The stops in powered mesh column segments (R175). -/
def State.poweredStops (s : State) : List Nat := (List.range 160).filter (fun st => s.domain (431 + stopX st) == 2)

/-- Start a global fence: FenceReq goes to every powered interface (R175). -/
def State.startFence (s : State) (switch : Bool) : State :=
  let n := (s.fenceSeq + 1) % 256
  ({ s with fenceSeq := n, fence := some { seq := n, missing := s.poweredStops, switch := switch } }).setF F.niFabricStatus_fenceBusy 0 0 1

/-- Whether R179 refuses a fence or switch now. -/
def State.fabricBusy (s : State) : Bool := s.isF F.niFabricStatus_fenceBusy 0 0 || s.isF F.niFabricStatus_drainBusy 0 0

/-- A write of FENCE or EPOCH_SWITCH (R176, R179). -/
def State.fenceWrite (s : State) (switch : Bool) : State :=
  if s.fabricBusy then s.setF F.niFabricStatus_ctrlReject 0 0 1 else s.startFence switch

/-- GLOBAL_FENCE (R175, R176, R179). -/
def execGlobalFence (w : Issuer) (s : State) : Host.Outcome State Fault Refusal := s.keeperOnly w svcStop (fun s => s.fenceWrite false)

/-- FENCE_REQ (R175): the interface takes note of what it has decoded or queued before the request. -/
def execFenceReq (stop : Fin 160) (s : State) : Host.Outcome State Fault Refusal :=
  match s.fence with
  | some f =>
    if f.missing.contains stop.val then
      ok (s.modNi stop.val (fun n => { n with fenceSeq := some f.seq, before := s.outq.filter (fun p => p.srcN == stop.val) }))
    else ok s
  | none => ok s

/-- A fence completes; that of an epoch switch is followed by FLIP (R175, R177, R179). -/
def State.fenceDone (s : State) (f : Fence) : State :=
  let s1 := ({ s with fence := none }).setF F.niFabricStatus_fenceBusy 0 0 0
  if f.switch then
    ({ (s1.setF F.niFabricStatus_drainBusy 0 0 1) with flipTime := s1.mtime }).setF F.niFabricStatus_epoch 0 0 (1 - s1.getF F.niFabricStatus_epoch 0 0)
  else s1

/-- FENCE_ACK (R175): counted once the interface has the request and has injected what it held before it. -/
def execFenceAck (stop : Fin 160) (s : State) : Host.Outcome State Fault Refusal :=
  match s.fence with
  | some f =>
    let n := s.ni stop.val
    if f.missing.contains stop.val && n.fenceSeq == some f.seq && n.before.isEmpty then
      let f1 := { f with missing := f.missing.erase stop.val }
      let s1 := State.modNi { s with fence := some f1 } stop.val (fun n => { n with fenceSeq := none })
      ok (if f1.missing.isEmpty then s1.fenceDone f1 else s1)
    else ok s
  | none => ok s

/-- FENCE_TIMEOUT (R175): FENCE_ERR and the first missing stop are set, the event is recorded and the fence completes. -/
def execFenceTimeout (s : State) : Host.Outcome State Fault Refusal :=
  match s.fence with
  | some f =>
    let late := f.missing.headD 0
    let s1 := (s.setF F.niFabricStatus_fenceErr 0 0 1).setF F.niFabricStatus_fenceLateStop 0 0 late
    ok ((s1.record Ev.fenceLate srcSvc (w64 late) 0).fenceDone f)
  | none => ok s

/-! ### Epochs -/

/-- EPOCH_SWITCH (R176, R177, R179). -/
def execEpochSwitch (w : Issuer) (s : State) : Host.Outcome State Fault Refusal := s.keeperOnly w svcStop (fun s => s.fenceWrite true)

/-- FLIP (R177, R179): the interface changes to the new bank, once a switch has sent it. -/
def execFlip (stop : Fin 160) (s : State) : Host.Outcome State Fault Refusal :=
  if s.isF F.niFabricStatus_drainBusy 0 0 then ok (s.setF F.niRouteStatus_active stop.val 0 (s.getF F.niFabricStatus_epoch 0 0)) else ok s

/-- The flits of the epoch that is not an interface's own in its stop's router buffers and ejection path (R171); a packet takes its epoch when it is injected (R179), so none is in
the injection queue. (DEDUCED, assumption 32.) -/
def State.oldFlits (s : State) (st : Nat) : Nat :=
  ((s.net.filter (fun f => f.at_ == st && f.pkt.epoch != s.bank st)).map (fun f => f.pkt.flits)).foldl (· + ·) 0

/-- Release an interface's hold queue, in order, as far as its packets have slots (R177, R178). -/
def State.releaseHold (s : State) (st : Nat) : State :=
  let r := (s.ni st).hold.foldl (fun (a : List Packet × State) (p : Packet) =>
    if a.1.isEmpty then (let r := a.2.injectAt st p
                         (if r.1 then [] else [p], if r.1 then r.2 else a.2))
    else (a.1 ++ [p], a.2)) ([], s)
  (r.2.modNi st (fun n => { n with hold := r.1 })).setF F.niRouteStatus_holding st 0 (!r.1.isEmpty).toNat

/-- Release the hold queues of every interface (R177, R178). -/
def State.releaseHolds (s : State) : State := s.nis.foldl (fun (s : State) (e : Nat × Ni) => if e.2.hold.isEmpty then s else s.releaseHold e.1) s

/-- EPOCH_DRAIN_COMPLETE (R177): with every interface flipped and no old-epoch packet left, DRAIN_BUSY clears and the held packets are released. -/
def execEpochDrainComplete (s : State) : Host.Outcome State Fault Refusal :=
  let new := s.isF F.niFabricStatus_epoch 0 0
  if s.isF F.niFabricStatus_drainBusy 0 0 && s.poweredStops.all (fun st => s.bank st == new) && s.net.all (fun f => f.pkt.epoch == new) then
    let s1 := s.setF F.niFabricStatus_drainBusy 0 0 0
    ok (s1.record Ev.epochSwitch srcSvc (w64 new.toNat) (w64 ((s.mtime - s.flipTime) * 10))).releaseHolds
  else ok s

/-! ### Metering -/

/-- METER_STAGING_WRITE (R184 to R187): refused while a commit is pending. -/
def execMeterStagingWrite (w : Issuer) (pa : BitVec 52) (v : Word) (s : State) : Host.Outcome State Fault Refusal :=
  let st := (pa.toNat - controlBase) / 0x400000 % 256
  match (if pa.toNat < controlBase then none else locate st ((pa.toNat - controlBase) % 0x400000)) with
  | some (r, u, i) =>
    if r = .rtMeterLane ∨ r = .rtMeterWheel ∨ r = .niMeterWids then
      s.keeperAt w r.place u (fun s =>
        if s.isF F.niFabricStatus_meterPending 0 0 then s.setF F.niFabricStatus_ctrlReject 0 0 1 else s.writeReg r u i v allBytes)
    else ok (s.refuse w st true Err.address)
  | none => ok (s.refuse w st true Err.address)

/-- Whether a port's staging copy assigns no world to two lanes (R185). -/
def laneOk (v : Word) : Bool :=
  (List.range 4).all (fun i => (List.range 4).all (fun j => decide (j ≤ i) || !v.getLsbD (8 * i + 7) || !v.getLsbD (8 * j + 7)
    || bitsOf v (8 * i) 6 != bitsOf v (8 * j) 6))

/-- A write of METER_COMMIT (R179, R184, R185). -/
def State.meterCommitWrite (s : State) : State :=
  let good : Bool := (List.range 160).all (fun st => (List.range 6).all (fun p => laneOk (s.regWord .rtMeterLane st p)))
  if s.isF F.niFabricStatus_meterPending 0 0 || !good then s.setF F.niFabricStatus_ctrlReject 0 0 1
  else s.setF F.niFabricStatus_meterPending 0 0 1

/-- METER_COMMIT_REQUEST (R176, R184). -/
def execMeterCommitRequest (w : Issuer) (s : State) : Host.Outcome State Fault Refusal := s.keeperOnly w svcStop State.meterCommitWrite

/-- The lanes and slots that a stop's staging copies hold. -/
def State.stagedLanes (s : State) (st : Nat) : Map Nat :=
  (List.range 24).foldl (fun (m : Map Nat) j =>
    let v := s.regWord .rtMeterLane st (j / 4)
    m.set 0 j (if v.getLsbD (8 * (j % 4) + 7) then bitsOf v (8 * (j % 4)) 6 + 1 else 0)) []
def State.stagedWheel (s : State) (st : Nat) : Map Nat :=
  (List.range 768).foldl (fun (m : Map Nat) j =>
    let v := s.regWord .rtMeterWheel st (j / 8)
    m.set 0 j (if v.getLsbD (8 * (j % 8) + 2) then bitsOf v (8 * (j % 8)) 2 + 1 else 0)) []

/-- Whether a world has a slot in its lane of a port on a network (R183). -/
def Ni.served (n : Ni) (net port wid : Nat) : Bool :=
  match n.lane port wid with
  | some k => n.hasSlot net port (k + 1)
  | none => false

/-- A commit makes a stop's staged lanes and slots active: packets that wait in a lane whose slots are gone, at its injection port or in its router, are meter orphans, counted by
flit, and leave as open traffic (R184, R190). -/
def State.meterStop (s : State) (st : Nat) : State :=
  let old := s.ni st
  let new := { old with lanes := s.stagedLanes st, wheel := s.stagedWheel st }
  let lost (p : Packet) (port : Nat) : Bool := s.isMetered p && old.served (netOf p) port p.widN && !new.served (netOf p) port p.widN
  let q := s.outq.filter (fun p => p.srcN == st && p.dstN != st && lost p 5)
  let r := s.net.filter (fun f => f.at_ == st && f.pkt.src != f.pkt.dst && f.pkt.metered && !f.onOpen && lost f.pkt f.port)
  let all := q.map (fun p => (p, 5)) ++ r.map (fun f => (f.pkt, f.port))
  let s1 := s.setNi st { new with orphan := old.orphan ++ q, meterOrphans := old.meterOrphans + (all.map (fun e => e.1.flits)).foldl (· + ·) 0 }
  all.foldl (fun (s : State) (e : Packet × Nat) => s.pmu .stop st 0x205 e.1.flits { wid := some e.1.widN, port := some e.2 })
    { s1 with net := s1.net.map (fun f => if r.contains f then { f with onOpen := true } else f) }

/-- METER_COMMIT (R184, R190): every staging copy becomes active at once. -/
def execMeterCommit (s : State) : Host.Outcome State Fault Refusal :=
  if s.isF F.niFabricStatus_meterPending 0 0 then
    let s1 := (List.range 160).foldl State.meterStop s
    ok (({ s1 with meterWids := s1.regWord .niMeterWids 0 0 }).setF F.niFabricStatus_meterPending 0 0 0)
  else ok s

/-! ### Sparing -/

/-- Whether a spare map names distinct wires below the link's wire count (R192). -/
def spareOk (net : Nat) (v : Word) : Bool :=
  let on (i : Nat) : Bool := v.getLsbD (16 * i + 15)
  let wire (i : Nat) : Nat := bitsOf v (16 * i) 10
  (List.range 4).all (fun i => !on i || (decide (wire i < (if net = 0 then 195 else 650))
    && (List.range 4).all (fun j => decide (j ≤ i) || !on j || wire i != wire j)))

/-- RT_SPARE_WRITE (R192, R193): a map that breaks R192 is a reserved encoding and changes nothing; any other is in force at both ends when sending resumes. -/
def execRtSpareWrite (w : Issuer) (stop : Fin 160) (np : Fin 8) (v : Word) (s : State) : Host.Outcome State Fault Refusal :=
  s.keeperAt w .stop stop.val (fun s => if spareOk (np.val / 4) v then s.writeReg .rtSpare stop.val np.val v allBytes else s)

end Sys2Proof.Machine
end

