-- ==== Sys2Proof/Machine/Link.lean ====
section
/-! DEFINITION. The annex link layer: link flits (R222 to R227), their CRCs, the replay protocol of both sides (R228 to R230) and credits (R232). -/
namespace Sys2Proof.Machine

/-! ### CRC (R227) -/

/-- One bit into the CRC-16 of generator 0x8BB7. -/
def crcStep (c : Nat) (b : Nat) : Nat :=
  let c' := c * 2 % 65536
  if (c / 32768 + b) % 2 = 1 then xorNat c' 0x8BB7 else c'

/-- Feed bits hi down to lo of a number. -/
def crcRange (c v hi lo : Nat) : Nat := (List.range (hi + 1 - lo)).foldl (fun c i => crcStep c (v / 2 ^ (hi - i) % 2)) c

def dataCrc (v : Nat) : Nat := crcRange (crcRange 0xFFFF v 639 128) v 111 0
def slotCrc (v : Nat) : Nat := crcRange 0xFFFF v 175 0
def ovhCrc (v : Nat) : Nat := crcRange 0xFFFF v 623 576
def lcCrc (v : Nat) : Nat := crcRange 0xFFFF v 559 0

/-! ### Building link flits -/

/-- A field of a flit. -/
def flitBits (v lo w : Nat) : Nat := v / 2 ^ lo % 2 ^ w

/-- The CRD counters that the link reports (R225): those of REQ and MGT stand still while credits are withheld (R448). -/
def Link.shown (l : Link) : List Nat :=
  match l.withheld with
  | some (q, m) => (l.freed.set 0 q).set 3 m
  | none => l.freed

/-- Close a control or link control flit with the link overhead (R225). -/
def Link.overhead (l : Link) (body : Nat) : BitVec 640 :=
  let v := body % 2 ^ 576 + l.ackSeq % 256 * 2 ^ 576
    + (List.range 5).foldl (fun a i => a + l.shown.getD i 0 % 256 * 2 ^ (584 + 8 * i)) 0
  BitVec.ofNat 640 (v + ovhCrc v * 2 ^ 624)

/-- A control slot with its LINK_CRC; 0 makes the NULL slot (R224). -/
def slotOf (v : Nat) : Nat := v % 2 ^ 176 + slotCrc (v % 2 ^ 176) * 2 ^ 176

/-- A control link flit carrying one packet, or none (R224, R228). -/
def Link.controlFlit (l : Link) (p : Option Packet) : BitVec 640 :=
  let s0 := match p with
    | some p => slotOf p.controlFlit.toNat
    | none => slotOf 0
  l.overhead (s0 + slotOf 0 * 2 ^ 192 + slotOf 0 * 2 ^ 384)

/-- A link control flit (R226). -/
def Link.lcFlit (l : Link) (type seq fields : Nat) : BitVec 640 :=
  let b := 7 + type % 32 * 2 ^ 3 + seq % 256 * 2 ^ 8 + fields % 2 ^ 544 * 2 ^ 16
  l.overhead (b + lcCrc b * 2 ^ 560)

/-- A data link flit (R196, R223). -/
def dataLinkFlit (p : Packet) (i : Nat) : BitVec 640 :=
  let v := (p.dataFlit i).toNat
  BitVec.ofNat 640 (v + dataCrc v * 2 ^ 112)

/-- What a packet is on an annex link: ROUTE, EPOCH and METERED are 0 (R197). -/
def linkPacket (p : Packet) : Packet := { p with route := 0, epoch := false, metered := false }

/-- The link flits of a packet. -/
def Link.flitsOf (l : Link) (p : Packet) : List (BitVec 640) :=
  let q := linkPacket p
  if q.cls = 4 then (if twoFlits q.opcode then [dataLinkFlit q 0, dataLinkFlit q 1] else [dataLinkFlit q 0]) else [l.controlFlit (some q)]

/-- The lane and the unit interval of a bit of a link flit: of 128 lanes over 5 UI, or of module m's 64 lanes over 10 UI where it alone carries traffic (R222). -/
def bitPlace (modules b : Nat) : Nat × Nat :=
  if modules = 3 then (b % 128, b / 128) else ((if modules = 2 then 64 else 0) + b % 64, b / 64)

/-- How many unit intervals a link flit takes (R222). -/
def flitUis (modules : Nat) : Nat := if modules = 3 then 5 else 10

/-- The levels of the 128 lanes in a unit interval of a link flit (R222). -/
def laneLevels (modules : Nat) (f : BitVec 640) (ui : Nat) : BitVec 128 :=
  BitVec.ofNat 128 ((List.range 640).foldl (fun a b =>
    if (bitPlace modules b).2 = ui ∧ f.getLsbD b = true then a + 2 ^ (bitPlace modules b).1 else a) 0)

/-- The link flit that a receiver assembles from the lanes, UI 0 first (R222). -/
def ofLanes (modules : Nat) (uis : List (BitVec 128)) : BitVec 640 :=
  BitVec.ofNat 640 ((List.range 640).foldl (fun a b =>
    let p := bitPlace modules b
    if (uis.getD p.2 0).getLsbD p.1 then a + 2 ^ b else a) 0)

/-! ### Links in the state -/

def State.link (s : State) (k : Nat) : Link := s.links.get {} k
def State.setLink (s : State) (k : Nat) (v : Link) : State := { s with links := s.links.set {} k v }
def State.modLink (s : State) (k : Nat) (f : Link → Link) : State := s.setLink k (f (s.link k))
def State.linkState (s : State) (k : Nat) : Nat := s.getF F.axgPortStatus_linkState k 0
def State.gate (s : State) (k : Nat) : Gate := s.gates.get {} k
def State.setGate (s : State) (k : Nat) (v : Gate) : State := { s with gates := s.gates.set {} k v }
def State.modGate (s : State) (k : Nat) (f : Gate → Gate) : State := s.setGate k (f (s.gate k))

/-! The values of LINK_STATE (R256). -/
namespace LinkState
def down : Nat := 0
def training : Nat := 1
def init : Nat := 2
def declare_ : Nat := 3
def ready : Nat := 4
def open_ : Nat := 5
def quarantined : Nat := 6
def failed : Nat := 7
end LinkState

/-- Credits held for a class (R232). -/
def Link.credits (l : Link) (c : Nat) : Nat := l.peer.getD c 0 - (l.sent.getD c 0 + 256 - l.returned.getD c 0 % 256) % 256

/-- Send the first waiting packet whose class has credits, while fewer than 64 sequenced flits are unacknowledged (R229, R232). -/
def Link.pumpOne (l : Link) : Option Link :=
  match l.txq.find? (fun p => decide ((if twoFlits p.opcode then 2 else 1) ≤ l.credits p.cls)) with
  | none => none
  | some p =>
    let fs := l.flitsOf p
    if 64 < l.buf.length + fs.length then none
    else
      let nums := (List.range fs.length).map (fun i => (l.txSeq + i) % 256)
      some { l with txq := l.txq.erase p, buf := l.buf ++ nums.zip fs, out := l.out ++ fs, txSeq := (l.txSeq + fs.length) % 256,
                    sent := l.sent.modify p.cls (fun n => (n + fs.length) % 256) }

/-- Send while something may be sent. -/
def Link.pump : Nat → Link → Link
  | 0, l => l
  | n + 1, l => match l.pumpOne with
    | some l' => Link.pump n l'
    | none => l

/-- Free every buffered flit up to an acknowledged number (R229). -/
def Link.acked (l : Link) (a : Nat) : Link :=
  match l.buf.findIdx? (fun e => e.1 == a) with
  | some i => { l with buf := l.buf.drop (i + 1) }
  | none => l

/-- A buffered flit as it is sent again: a control flit carries the overhead of now. -/
def Link.refresh (l : Link) (f : BitVec 640) : BitVec 640 := if f.toNat % 8 < 4 then l.overhead f.toNat else f

/-- Replay from a number: REPLAY, then every buffered flit from it onward (R229). -/
def Link.replay (l : Link) (e : Nat) : Link :=
  match l.buf.findIdx? (fun b => b.1 == e) with
  | some i => { l with out := l.out ++ l.lcFlit 5 e 0 :: (l.buf.drop i).map (fun b => l.refresh b.2) }
  | none => { l with out := l.out ++ [l.lcFlit 5 e 0] }

/-- Replay and count it (R229, R231, R257). -/
def State.linkReplay (s : State) (k e : Nat) : State :=
  ((s.modLink k (fun l => { (l.replay e) with replayAt := (l.replayAt.filter (fun t => decide (s.mtime ≤ t + 1000))) ++ [s.mtime] })).incSat
    F.axgLinkCount_replays k 0).pmu .ax k 0x404 1 {}

/-- Send a packet into the annex, in the order of its class (R173, R232). -/
def State.linkPush (s : State) (k : Nat) (p : Packet) : State :=
  s.modLink k (fun l => Link.pump (l.txq.length + 1) { l with txq := l.txq ++ [p] })

/-- Send a link control flit. -/
def State.linkControl (s : State) (k type seq fields : Nat) : State := s.modLink k (fun l => { l with out := l.out ++ [l.lcFlit type seq fields] })

/-! ### Reading link flits -/

/-- The packet of a control flit and whether its reserved bits are zero (R195, R197). -/
def unpackControl (v : Nat) : Packet × Bool :=
  ({ opcode := BitVec.ofNat 8 (flitBits v 3 8), tag := BitVec.ofNat 12 (flitBits v 11 12), wid := BitVec.ofNat 6 (flitBits v 23 6),
     src := BitVec.ofNat 8 (flitBits v 29 8), dst := BitVec.ofNat 8 (flitBits v 37 8), endpoint := BitVec.ofNat 8 (flitBits v 45 8),
     route := BitVec.ofNat 40 (flitBits v 53 40), poison := flitBits v 93 1 == 1, epoch := flitBits v 94 1 == 1, metered := flitBits v 95 1 == 1,
     address := BitVec.ofNat 46 (flitBits v 97 46), attr := BitVec.ofNat 16 (flitBits v 143 16) },
   flitBits v 159 17 == 0 && flitBits v 96 1 == 1 && flitBits v 0 3 == classOf (BitVec.ofNat 8 (flitBits v 3 8)))

/-- The packet of one or two data flits and whether its reserved bits and framing are as R196 and R219 ask. -/
def unpackData (v : Nat) (w : Option Nat) : Packet × Bool :=
  let op : BitVec 8 := BitVec.ofNat 8 (flitBits v 3 8)
  ({ opcode := op, tag := BitVec.ofNat 12 (flitBits v 11 12), wid := BitVec.ofNat 6 (flitBits v 23 6),
     src := BitVec.ofNat 8 (flitBits v 29 8), dst := BitVec.ofNat 8 (flitBits v 37 8), endpoint := BitVec.ofNat 8 (flitBits v 45 8),
     route := BitVec.ofNat 40 (flitBits v 53 40), poison := flitBits v 93 1 == 1, epoch := flitBits v 94 1 == 1, metered := flitBits v 95 1 == 1,
     payload := BitVec.ofNat 512 (flitBits v 128 512), payload2 := BitVec.ofNat 512 (flitBits (w.getD 0) 128 512),
     poison2 := flitBits (w.getD 0) 93 1 == 1 },
   flitBits v 97 15 == 0 && classOf op == 4 && (match w with
     | some w => twoFlits op && flitBits v 96 1 == 0 && flitBits w 96 1 == 1 && flitBits w 97 15 == 0 && flitBits v 0 93 == flitBits w 0 93
     | none => !twoFlits op && flitBits v 96 1 == 1))

/-- Whether every CRC of a link flit passes and its kind is one of R223; a link control flit's LCTYPE must be listed (R226, R230). -/
def linkFlitOk (v : Nat) : Bool :=
  let k := v % 8
  if k = 4 then dataCrc v == flitBits v 112 16
  else if k < 4 then
    (List.range 3).all (fun i => slotCrc (flitBits v (192 * i) 176) == flitBits v (192 * i + 176) 16) && ovhCrc v == flitBits v 624 16
  else if k = 7 then lcCrc v == flitBits v 560 16 && ovhCrc v == flitBits v 624 16 && decide (1 ≤ flitBits v 3 5) && decide (flitBits v 3 5 ≤ 6)
  else false

/-- Whether a link flit is sequenced (R223). -/
def sequencedFlit (v : Nat) : Bool := v % 8 == 4 || (decide (v % 8 < 4) && flitBits v 0 176 != 0)

/-- Take the overhead of a good control or link control flit (R225, R229). -/
def Link.takeOverhead (l : Link) (v : Nat) : Link :=
  let l1 := { (l.acked (flitBits v 576 8)) with returned := (List.range 5).map (fun i => flitBits v (584 + 8 * i) 8) }
  Link.pump (l1.txq.length + 1) l1

/-- The packets that a good sequenced flit completes, and the link after it: a data flit without LAST waits for its second flit. -/
def Link.deliver (l : Link) (v : Nat) : List (Packet × Bool) × Link :=
  if v % 8 = 4 then
    let l1 := { l with freed := l.freed.modify 4 (· + 1) }
    match l.half with
    | some h => ([unpackData h.toNat (some v)], { l1 with half := none })
    | none => if flitBits v 96 1 = 0 then ([], { l1 with half := some (BitVec.ofNat 640 v) }) else ([unpackData v none], l1)
  else
    let ps := (List.range 3).filterMap (fun i => if flitBits v (192 * i) 176 = 0 then none else some (unpackControl (flitBits v (192 * i) 192)))
    (ps, { l with freed := ps.foldl (fun f p => f.modify p.1.cls (· + 1)) l.freed })

end Sys2Proof.Machine
end

