-- ==== Sys2Proof/Machine/Gate.lean ====
section
/-! DEFINITION. The annex gate: delivery into the annex, the checks on what comes out of it (R235, R239 to R243), MMIO and depository traffic (R247, R248), strikes
and quarantine (R249 to R253), the timers' answers (R238) and fence probes (R541). -/
namespace Sys2Proof.Machine

def axStop (k : Nat) : Nat := axStops.getD k 2

/-- A gate as a source of events. -/
def srcAx (k wid : Nat) : Source := { stop := axStop k, unit := 4, wid := wid }

/-- The class that AXG_AGENT_CFG gives an agent (R235). -/
def State.agentClass (s : State) (k j : Nat) : Nat := s.getF F.axgAgentCfg_class k j

/-- Whether a gate admits an agent's traffic: the port is open, the agent admitted, nothing quarantined (R226, R250, R252). -/
def State.agentUp (s : State) (k j : Nat) : Bool := decide (j < 16) && (s.gate k).admitted.getLsbD j && !s.agentDead k j

def State.quarantined (s : State) (k : Nat) : Bool := s.isF F.axgQstatus_portQuarantined k 0

/-! ### Windows (R242 to R247) -/

/-- The permissions that the active windows give an agent at an address: READ, WRITE, CACHE as bits 1, 2 and 3 (R242, R243). -/
def Gate.permissions (g : Gate) (j pa : Nat) : Nat :=
  if 0xE ≤ pa / 2 ^ 48 then 0
  else (List.range 32).foldl (fun a n =>
    let w := g.win.get 0 (2 * n)
    let l := g.win.get 0 (2 * n + 1)
    if bitsOf w 0 1 = 1 ∧ bitsOf l j 1 = 1 ∧ bitsOf w 16 36 ≤ pa / 65536 ∧ pa / 65536 ≤ bitsOf l 16 36 then Nat.lor a (bitsOf w 1 3 * 2) else a) 0

/-- The permissions that a request needs (R242, R243). -/
def windowNeed (o : BitVec 8) : Nat :=
  if o == Opc.readOnce then 2
  else if o == Opc.readShared then 2 + 8
  else if o == Opc.readUnique || o == Opc.cleanUnique then 2 + 4 + 8
  else if o == Opc.writeInvFull || o == Opc.writePartial then 4
  else 0

/-- Check 6 of R239. -/
def Gate.windowOk (g : Gate) (j : Nat) (p : Packet) : Bool :=
  let need := windowNeed p.opcode
  need == 0 || Nat.land (g.permissions j (p.sec * 64)) need == need

/-- The agent that an MMIO address leads to (R247). -/
def State.mmioAgent (s : State) (k pa : Nat) : Option Nat :=
  let g := s.gate k
  match region pa with
  | .annexMmio p =>
    if p ≠ k then none
    else
      (match (List.range 8).find? (fun n =>
          let w := g.mmio.get 0 (2 * n)
          bitsOf w 0 1 == 1 && decide (bitsOf w 16 36 ≤ pa / 65536) && decide (pa / 65536 ≤ bitsOf (g.mmio.get 0 (2 * n + 1)) 16 36)) with
        | some n =>
          let j := bitsOf (g.mmio.get 0 (2 * n)) 8 8
          if s.agentUp k j ∧ (s.agentClass k j = 3 ∨ s.agentClass k j = 4) then some j else none
        | none => none)
  | _ => none

/-! ### Delivery -/

/-- Deliver a packet into the annex (R167, R219, R232). -/
def State.deliver (s : State) (k : Nat) (p : Packet) : State :=
  let s1 := (s.modGate k (fun g => { g with toAnnex := g.toAnnex ++ [p] })).linkPush k p
  let x : PmuCtx := { wid := some p.widN, agent := some p.srcN, addr := some (p.sec * 64) }
  if p.cls = 0 then s1.pmu .ax k 0x402 1 x
  else if p.cls = 4 then s1.pmu .ax k 0x403 (if twoFlits p.opcode then 2 else 1) { wid := some p.widN, cls := some 4, port := some 1 }
  else s1

/-- Open a transaction at a gate. -/
def State.openGate (s : State) (k : Nat) (x : GateTx) : State := s.modGate k (fun g => { g with txs := g.txs ++ [x] })

/-- Answer the fence probes that wait for nothing more (R541). -/
def State.probesDone (s : State) (k : Nat) : State :=
  let done := (s.gate k).probes.filter (fun q => q.waits.isEmpty)
  done.foldl (fun (s : State) (q : Probe) =>
      s.send { answer q.pkt (axStop k) Opc.ioData 0 with payload := sectorAt q.failed.toNat q.pkt.ioOffset 8 })
    (s.modGate k (fun g => { g with probes := g.probes.filter (fun q => !q.waits.isEmpty) }))

/-- Close a transaction; a write that a probe waits on leaves it, and counts as failed for the probe's world when it was (R541). -/
def State.closeGate (s : State) (k : Nat) (x : GateTx) (failed : Bool) : State :=
  (s.modGate k (fun g =>
    { g with txs := g.txs.erase x,
             probes := g.probes.map (fun q =>
               if q.waits.contains (x.pkt.srcN, x.pkt.tagN) then
                 { q with waits := q.waits.erase (x.pkt.srcN, x.pkt.tagN), failed := q.failed || (failed && x.pkt.wid == q.pkt.wid) }
               else q) })).probesDone k

/-- Free an annex request's tag (R199); OLD_OPEN counts those admitted under a replaced set (R244, R245). -/
def State.freeAnnexTag (s : State) (k tag : Nat) : State :=
  match s.req (axStop k) tag with
  | some r =>
    let s1 := s.setReq (axStop k) tag none
    if r.old then s1.setF F.axgWinCtrl_oldOpen k 0 (s1.getF F.axgWinCtrl_oldOpen k 0 - 1) else s1
  | none => s

/-- The open request of an annex under a tag. -/
def State.annexReq (s : State) (k tag : Nat) : Option Req :=
  match s.req (axStop k) tag with
  | some r => if r.purp = .annex then some r else none
  | none => none

/-! ### Answers on the annex's behalf (R250) -/

/-- The CompAck of an annex's request. -/
def annexCompAck (k : Nat) (p : Packet) : Packet :=
  { opcode := Opc.compAck, tag := p.tag, wid := p.wid, src := BitVec.ofNat 8 (axStop k), dst := p.dst, endpoint := 2, address := p.address }

/-- The write data of a request whose writer is gone: poisoned zeros, or an empty mask for a WritePartial (R150, R250). -/
def deadData (st : Nat) (p : Packet) : Packet :=
  { opcode := if p.opcode == Opc.writePartial then Opc.writeDataMasked else Opc.writeData, tag := p.tag, wid := p.wid, src := BitVec.ofNat 8 st, dst := p.dst,
    endpoint := 2, address := p.address, poison := p.opcode != Opc.writePartial }

/-- SnpResp I in a holder's place (R151, R181). -/
def snpEmpty (p : Packet) (dead : Bool) : Packet :=
  { opcode := Opc.snpResp, tag := p.tag, wid := p.wid, src := p.dst, dst := p.src, endpoint := 2, address := p.address, attr := snpAttr 0 false dead p.epN }

/-- Record a write that was accepted and then lost (R214, R238). -/
def State.postedLost (s : State) (k : Nat) (p : Packet) (code : Nat) : State :=
  s.errorEvent .ax k { sev := .uec, code := Ev.storeLost, addr := some (p.sec * 64), errCode := code, origin := Origin.gate } (srcAx k p.widN)
    (w64 (p.sec * 64)) (w64 (code + Origin.gate * 256))

/-- An ErrResp from a gate to the agent that sent a packet: a home's memory messages come from endpoint 2 of its stop (R198). -/
def gateErr (k : Nat) (p : Packet) (code : Nat) : Packet := { errAnswer p (axStop k) code Origin.gate with endpoint := sourceEp p }

/-- Answer a forwarded request with an error; the requester of a posted write has its Comp already (R238, R250). -/
def State.gateError (s : State) (k : Nat) (x : GateTx) (code : Nat) : State :=
  if x.kind = .mmio ∧ x.pkt.opcode = Opc.ioWrite ∧ x.pkt.ioPosted = true then s.postedLost k x.pkt code
  else s.send (gateErr k x.pkt code)

/-- Answer one open transaction in the annex's place (R250 step 2). -/
def State.gateFor (s : State) (k : Nat) (x : GateTx) : State :=
  match x.kind with
  | .snoop => s.send (snpEmpty x.pkt true)
  | .ack => (s.send (annexCompAck k x.pkt)).freeAnnexTag k x.pkt.tagN
  | .wdata =>
    let s1 := s.send (deadData (axStop k) x.pkt)
    if x.pkt.opcode == Opc.writeBackDirty || x.pkt.opcode == Opc.writeBackOwned then s1.freeAnnexTag k x.pkt.tagN else s1
  | .memRead | .memWrite | .mmio | .pull => s.gateError k x Err.targetDead
  | .flush => s

/-- Quarantine an annex (R250): the cause, HOLD, an answer for everything open, and reclaim. -/
def State.quarantine (s : State) (k cause agent : Nat) : State :=
  if s.quarantined k then s
  else
    let s0 := if s.getF F.axgQstatus_agentQuarantined k 0 = 0 then (s.setF F.axgQstatus_cause k 0 cause).setF F.axgQstatus_causeAgent k 0 agent else s
    let s1 := (((s0.setF F.axgQstatus_portQuarantined k 0 1).setF F.axgPortStatus_linkState k 0 LinkState.quarantined).linkControl k 6 0 cause).modLink k
      (fun l => { l with txq := [] })
    let txs := (s1.gate k).txs
    let s2 := txs.foldl (fun (s : State) (x : GateTx) => (s.gateFor k x).closeGate k x true) s1
    let s3 := (s2.setF F.axgPortStatus_reclaimBusy k 0 1).setF F.axgPortCtrl_attested k 0 0
    s3.record Ev.annexQuarantine (srcAx k 255) (w64 k) (s3.regWord .axgQstatus k 0)

/-- A strike (R239, R249); `check` is the check of R239 that failed, 0 for a timer. (PRESUMED, assumption 33.) -/
def State.strike (s : State) (k agent check : Nat) : State :=
  let s1 := (s.incSat F.axgQstatus_strikes k 0).record Ev.annexStrike (srcAx k 255) (w64 (k + agent * 256)) (w64 check)
  let lim := s1.getF F.axgPortCtrl_strikeLimit k 0
  if lim ≠ 0 ∧ lim ≤ s1.getF F.axgQstatus_strikes k 0 then s1.quarantine k 4 agent else s1

/-! ### Checks on arrival (R239) -/

/-- The attribute bits that R202 and R212 allow an opcode from an annex; none for an opcode no annex sends (R207, R219). -/
def annexAttr (o : BitVec 8) : Option Nat :=
  if o == Opc.readShared then some 0xC2
  else if o == Opc.readUnique || o == Opc.cleanUnique || o == Opc.writeInvFull || o == Opc.writePartial then some 0xC0
  else if o == Opc.readOnce then some 0xD8
  else if o == Opc.writeBackDirty || o == Opc.writeBackOwned then some 0x4
  else if o == Opc.snpResp then some 0xFF0F
  else if o == Opc.errResp then some 0xFFF
  else if o == Opc.comp then some 0x3
  else if o == Opc.agentFlushDone then some 0x1
  else if o == Opc.mgtNotify then some 0xFFFF
  else if Opc.listed o then some 0
  else none

/-- Check 1: reserved bits, listed opcode, framing, POISON (R217, R239). -/
def annexFormOk (framed : Bool) (p : Packet) : Bool :=
  framed && (match annexAttr p.opcode with
    | some m => p.cls == 4 || Nat.land p.attr.toNat (0xFFFF - m) == 0
    | none => false)
    && !(p.opcode == Opc.readOnce && p.cmo == 3) && p.route == 0 && !p.epoch && !p.metered
    && !(p.opcode == Opc.agentFlushDone && (p.attr != 1 || p.address != 0))
    && !(p.poison && (p.cls != 4 || p.opcode == Opc.writeDataMasked))
    && !(p.opcode == Opc.writeDataMasked && decide (p.payload.toNat / 2 ^ 64 ≠ 0))

/-- Whether a class may send a request or management message (R235). -/
def classMaySend (c : Nat) (p : Packet) : Bool :=
  let o := p.opcode
  match c with
  | 1 => (decide (1 ≤ o.toNat) && decide (o.toNat ≤ 9)) || o == Opc.agentFlushDone
  | 3 => (o == Opc.readOnce && p.cmo == 0) || o == Opc.writeInvFull || o == Opc.writePartial
  | 4 => o == Opc.mgtNotify
  | _ => false

/-- Whether a class may send an answer (R235). -/
def classMayAnswer (c : Nat) (p : Packet) : Bool :=
  let o := p.opcode
  let homeErr : Bool := o == Opc.errResp && (p.errCode == Err.address || p.errCode == Err.abort)
  match c with
  | 1 => o == Opc.snpResp || o == Opc.compAck || (0xC5 ≤ o.toNat && o.toNat ≤ 0xC9) || decide (0xD0 ≤ o.toNat)
  | 2 => o == Opc.memData || o == Opc.memAck || homeErr
  | 3 => o == Opc.writeData || o == Opc.writeDataMasked || o == Opc.ioData || o == Opc.comp || homeErr
  | 4 => o == Opc.ioData || o == Opc.comp || homeErr
  | _ => false

/-- The transaction that an answer matches (R200, R219, R239). -/
def Gate.match_ (g : Gate) (p : Packet) : Option GateTx :=
  let o := p.opcode
  g.txs.find? (fun x =>
    x.pkt.tag == p.tag && (match x.kind with
      | .snoop => (o == Opc.snpResp && x.pkt.src == p.dst && x.pkt.address == p.address && p.respEp == x.agent)
          || (decide (0xD0 ≤ o.toNat) && x.pkt.src == p.dst && p.epN == x.pkt.reqStop)
          || (decide (0xC5 ≤ o.toNat) && decide (o.toNat ≤ 0xC7) && p.dstN == x.pkt.reqStop && p.epN == x.pkt.reqEp)
      | .ack => o == Opc.compAck && x.pkt.dst == p.dst && x.pkt.address == p.address
      | .wdata => (o == Opc.writeData || o == Opc.writeDataMasked) && x.pkt.dst == p.dst
      | .memRead => (o == Opc.memData || o == Opc.errResp) && x.pkt.src == p.dst
      | .memWrite => (o == Opc.memAck || o == Opc.errResp) && x.pkt.src == p.dst
      | .mmio => ((o == Opc.ioData && x.pkt.opcode == Opc.ioRead) || (o == Opc.comp && x.pkt.opcode == Opc.ioWrite) || o == Opc.errResp) && x.pkt.src == p.dst
      | _ => false))

/-! ### Depository traffic (R248) -/

/-- The key that a gate uses for a page: that of the slot which the deed names (R248). -/
def State.gateKey (s : State) (gran : Nat) : BitVec 512 := Config.keyBits (s.keyGen (((s.effDeed (gran / 32)).map dSlot).getD 0))

/-- Forward a MemWrite's carried sectors, whole and encrypted, each with its POISON bit (R248). (DEDUCED, assumption 108.) -/
def State.gateForward (s : State) (k j : Nat) (x : GateTx) : State :=
  let p := x.pkt
  let c (i : Nat) (d : Sector) (po : Bool) : Packet :=
    { opcode := Opc.writeData, tag := p.tag, wid := p.wid, src := p.src, dst := p.dst, endpoint := BitVec.ofNat 8 j,
      payload := sealSector (s.gateKey p.gran) (2 * p.gran + i) d, poison := po }
  let s1 := s.openGate k { x with kind := .memWrite, merging := false }
  let s2 := s1.deliver k { p with attr := memAttr p.s0 p.s1 false false p.victim, endpoint := BitVec.ofNat 8 j }
  let s3 := if p.s0 then s2.deliver k (c 0 x.d0 x.p0) else s2
  if p.s1 then s3.deliver k (c 1 x.d1 x.p1) else s3

/-! ### Answers from the annex -/

/-- Inject a checked packet: the gate writes SRC_STOP (R197, R239 check 7). -/
def State.gateInject (s : State) (k : Nat) (p : Packet) : State := s.send { p with src := BitVec.ofNat 8 (axStop k), route := 0, epoch := false, metered := false }

/-- An answer that matches an open transaction (R235, R240, R248). -/
def State.annexAnswer (s : State) (k : Nat) (x : GateTx) (p : Packet) : State :=
  let o := p.opcode
  match x.kind with
  | .snoop =>
    if decide (0xC5 ≤ o.toNat) && decide (o.toNat ≤ 0xC7) then s.gateInject k { p with wid := x.pkt.wid }
    else (s.closeGate k x false).gateInject k { p with wid := x.pkt.wid, endpoint := if o == Opc.snpResp then 2 else p.endpoint }
  | .ack => (((s.closeGate k x false).freeAnnexTag k p.tagN)).gateInject k { p with wid := x.pkt.wid, endpoint := 2 }
  | .wdata =>
    let s1 := (s.closeGate k x false).gateInject k { p with wid := x.pkt.wid, endpoint := 2 }
    if x.pkt.opcode == Opc.writeBackDirty || x.pkt.opcode == Opc.writeBackOwned then s1.freeAnnexTag k p.tagN else s1
  | .memRead =>
    if o == Opc.errResp then (s.closeGate k x false).gateError k x p.errCode
    else if x.merging then
      let w : WData := { s0 := x.pkt.s0, s1 := x.pkt.s1, d0 := x.d0, d1 := x.d1, m0 := x.m0, m1 := x.m1, p0 := x.p0, p1 := x.p1 }
      let r := w.merge (openSector (s.gateKey x.pkt.gran) (2 * x.pkt.gran) p.payload) (openSector (s.gateKey x.pkt.gran) (2 * x.pkt.gran + 1) p.payload2) p.poison p.poison2
      (s.closeGate k x false).gateForward k x.agent { x with d0 := r.1, d1 := r.2.1, p0 := r.2.2.1, p1 := r.2.2.2, m0 := fullMask, m1 := fullMask }
    else
      let q : Packet := { answer x.pkt (axStop k) Opc.memData 0 with endpoint := 2, address := 0, poison := p.poison,
                                                                        payload := openSector (s.gateKey x.pkt.gran) (2 * x.pkt.gran) p.payload }
      (s.closeGate k x false).send { q with poison2 := p.poison2, payload2 := openSector (s.gateKey x.pkt.gran) (2 * x.pkt.gran + 1) p.payload2 }
  | .memWrite =>
    if o == Opc.errResp then (s.closeGate k x true).gateError k x p.errCode
    else (s.closeGate k x false).send { answer x.pkt (axStop k) Opc.memAck 0 with endpoint := 2 }
  | .mmio =>
    let s1 := s.closeGate k x false
    if o == Opc.errResp then s1.gateError k x p.errCode
    else if o == Opc.ioData then s1.send { answer x.pkt (axStop k) Opc.ioData 0 with payload := p.payload, poison := p.poison }
    else if x.pkt.ioPosted then s1
    else s1.send (answer x.pkt (axStop k) Opc.comp 0)
  | _ => s

/-! ### Traffic toward the annex -/

/-- A snoop reaches a gate: it is delivered to a caching agent that is enabled and was admitted at OPEN; for any other agent, or one that has confirmed that it is empty, the gate answers
SnpResp I, and for a quarantined annex as R250 says (R113, R148, R151, R235, R250). -/
def State.gateSnoop (s : State) (k : Nat) (p : Packet) : State :=
  let j := p.epN
  if s.quarantined k then s.send (snpEmpty p (!s.isF F.axgPortStatus_reclaimed k 0))
  else if (s.gate k).empty.getLsbD j || !s.agentUp k j || s.agentClass k j != 1 || !s.isF F.axgAgentCfg_enable k j then s.send (snpEmpty p false)
  else (s.deliver k p).openGate k { kind := .snoop, agent := j, pkt := p }

/-- Whether a message is DataFwd. -/
def isFwd (p : Packet) : Bool := decide (0xC5 ≤ p.opcode.toNat) && decide (p.opcode.toNat ≤ 0xC7)

/-- Whether a request's grant is complete with this message: a ReadUnique that the owner serves needs DataFwd and Comp, and so does a CleanUnique served as a ReadUnique; a Comp that
carries the grant M completes a CleanUnique by itself (R115, R120, R126, R212). -/
def grantDone (r : Req) (p : Packet) : Bool :=
  let o := r.pkt.opcode
  if decide (0xC1 ≤ p.opcode.toNat) && decide (p.opcode.toNat ≤ 0xC3) then true
  else if isFwd p then o == Opc.readShared || r.backing
  else p.opcode == Opc.comp && ((o == Opc.cleanUnique && p.attr.toNat % 4 == 3) || ((o == Opc.readUnique || o == Opc.cleanUnique) && r.backing))

/-- Whether a message is half of a DataFwd and Comp pair, the first to arrive. -/
def grantHalf (r : Req) (p : Packet) : Bool :=
  (r.pkt.opcode == Opc.readUnique || r.pkt.opcode == Opc.cleanUnique) && !r.backing && ((p.opcode == Opc.comp && p.attr.toNat % 4 != 3) || isFwd p)

/-- A response for an annex requester reaches its gate: delivered, with the timer of what the agent now owes; from a quarantined annex the gate acts in its place
(R199, R238, R250). -/
def State.gateResponse (s : State) (k : Nat) (p : Packet) : State :=
  match s.annexReq k p.tagN with
  | none => s
  | some r =>
    let dead : Bool := s.quarantined k
    let s1 := if dead then s else s.deliver k { p with endpoint := BitVec.ofNat 8 r.ep }
    let x : GateTx := { kind := .ack, agent := r.ep, pkt := r.pkt }
    if grantHalf r p then s1.setReq (axStop k) p.tagN (some { r with backing := true })
    else if grantDone r p then (if dead then (s1.gateFor k x) else s1.openGate k x)
    else if p.opcode == Opc.dataPull then (if dead then s1.gateFor k { x with kind := .wdata } else s1.openGate k { x with kind := .wdata })
    else if p.opcode == Opc.retry then
      (if dead then s1.freeAnnexTag k p.tagN else s1.setReq (axStop k) p.tagN (some { r with retries := r.retries + 1, waitBound := true }))
    else s1.freeAnnexTag k p.tagN

/-- An IORead or IOWrite of annex MMIO reaches a gate (R208, R235, R247). -/
def State.gateMmio (s : State) (k : Nat) (p : Packet) : State :=
  let pa := p.sec * 64 + p.ioOffset
  if s.quarantined k then s.send (errAnswer p (axStop k) Err.targetDead Origin.gate)
  else if p.ioSize = 7 ∨ p.ioOffset % 2 ^ p.ioSize ≠ 0 then s.send (errAnswer p (axStop k) Err.format Origin.gate)
  else match s.mmioAgent k pa with
    | none => s.send (errAnswer p (axStop k) Err.address Origin.gate)
    | some j =>
      if p.opcode == Opc.ioRead then
        (s.deliver k { p with endpoint := BitVec.ofNat 8 j }).openGate k { kind := .mmio, agent := j, pkt := p }
      else (s.send (answer p (axStop k) Opc.dataPull 0)).openGate k { kind := .pull, agent := j, pkt := p }

/-- The data of an IOWrite arrives: it is forwarded, and a posted write has its Comp (R208, R235). -/
def State.gateWriteData (s : State) (k : Nat) (p : Packet) : State :=
  match (s.gate k).txs.find? (fun x => x.kind == .pull && x.pkt.src == p.src && x.pkt.tag == p.tag) with
  | none => s
  | some x =>
    let s1 := s.modGate k (fun g => { g with txs := g.txs.erase x })
    if !s1.agentUp k x.agent then s1.send (errAnswer x.pkt (axStop k) Err.targetDead Origin.gate)
    else
      let s2 := (s1.deliver k { x.pkt with endpoint := BitVec.ofNat 8 x.agent }).deliver k { p with endpoint := BitVec.ofNat 8 x.agent }
      let s3 := s2.openGate k { x with kind := .mmio, d0 := p.payload, p0 := p.poison }
      if x.pkt.ioPosted then s3.send (answer x.pkt (axStop k) Opc.comp 0) else s3

/-- Send AgentFlush to every admitted caching agent (R151, R258). -/
def State.flushAgents (s : State) (k : Nat) : State :=
  ((List.range 16).filter (fun j => s.agentUp k j && s.agentClass k j == 1 && !(s.gate k).empty.getLsbD j)).foldl (fun (s : State) (j : Nat) =>
    let p : Packet := { opcode := Opc.agentFlush, src := BitVec.ofNat 8 (axStop k), dst := BitVec.ofNat 8 (axStop k), endpoint := BitVec.ofNat 8 j }
    (s.deliver k p).openGate k { kind := .flush, agent := j, pkt := p }) s

/-- An agent confirms AgentFlush: its snoops are answered as empty from then on (R148, R151). -/
def State.agentFlushed (s : State) (k j : Nat) : State :=
  match (s.gate k).txs.find? (fun x => x.kind == .flush && x.agent == j) with
  | some x => (s.closeGate k x false).modGate k (fun g => { g with empty := g.empty ||| (1#16 <<< j), flushing := g.flushing &&& ~~~(1#16 <<< j) })
  | none => s

end Sys2Proof.Machine
end

