-- ==== Sys2Proof/Machine/AnnexSteps.lean ====
section
/-! DEFINITION. The commands of the annex ports: the link (R226 to R232), bring-up (R233 to R236), gate registers (R237, R241 to R246), packets from the annex (R239),
timers (R238), quarantine and its end (R250 to R255), fence probes and management messages (R206, R541), and depository traffic (R248). -/
namespace Sys2Proof.Machine

/-! ### Bring-up -/

/-- Record a failed bring-up (R234). -/
def State.recordBringup (s : State) (k : Nat) : State := s.record Ev.annexBringupFail (srcAx k 255) (w64 k) (s.regWord .axgPortStatus k 0)

/-- A bring-up attempt fails (R234): three retries at 32 GT/s, then one at 16 GT/s where it is allowed, then FAILED. -/
def State.attemptFailed (s : State) (k : Nat) : State :=
  let n := (s.link k).attempts + 1
  let again : Phy := if n ≤ 3 ∨ (n == 4 && s.isF F.axgPortCtrl_allow16g k 0) = true then .sbinit else .trainerror
  let s1 := s.modLink k (fun l => { ({} : Link) with attempts := n, told := l.told, phy0 := again, phy1 := again })
  let slow : Bool := n == 4 && s.isF F.axgPortCtrl_allow16g k 0
  let s2 := if n ≤ 3 ∨ slow = true then (s1.setF F.axgPortStatus_linkState k 0 LinkState.training).setF F.axgPortStatus_rate k 0 slow.toNat
            else s1.setF F.axgPortStatus_linkState k 0 LinkState.failed
  (s2.setF F.axgPortStatus_modules k 0 0).recordBringup k

/-- A bring-up fails without a retry (R234). -/
def State.bringupFailed (s : State) (k : Nat) (declare_ : Bool) : State :=
  let s1 := s.setF F.axgPortStatus_linkState k 0 LinkState.failed
  (if declare_ then s1.setF F.axgPortStatus_declareFail k 0 1 else s1).recordBringup k

/-- Start training (R233, R253): a new bring-up clears the quarantine. -/
def State.startBringup (s : State) (k : Nat) : State :=
  if s.linkState k ≠ LinkState.down then s
  else
    let s1 := ({ s with links := s.links.set {} k { phy0 := .sbinit, phy1 := .sbinit } }).modGate k (fun g => { ({} : Gate) with win := g.win, mmio := g.mmio, discarded := g.discarded, refused := g.refused })
    ((((((s1.setF F.axgPortStatus_linkState k 0 LinkState.training).setF F.axgPortCtrl_attested k 0 0).setF F.axgPortStatus_rate k 0 0).setF F.axgPortStatus_declareFail k 0 0).setF
      F.axgQstatus_portQuarantined k 0 0).setF F.axgQstatus_agentQuarantined k 0 0).setF F.axgPortStatus_reclaimed k 0 0

/-- PORT_BRINGUP (R233, R255). -/
def execPortBringup (w : Issuer) (port : Fin 6) (s : State) : Host.Outcome State Fault Refusal :=
  let k := port.val
  s.keeperAt w .ax k (fun s => if s.isF F.axgPortCtrl_enable k 0 then s else (s.setF F.axgPortCtrl_enable k 0 1).startBringup k)

/-- The buffer sizes that the gate advertises in INIT (R232). -/
def gateInit : Nat := 0x10 + 64 * 2 ^ 8 + 0 * 2 ^ 16 + 64 * 2 ^ 24 + 4 * 2 ^ 32 + 128 * 2 ^ 40

/-- UCIE_TRAINING_COMPLETE (R220, R233, R234): the modules that trained, the redundant lanes they use and the eye margins of the lanes; with none the attempt has failed, and a module
that failed stays out of service. -/
def execUcieTrainingComplete (port : Fin 6) (modules : BitVec 2) (found0 found1 : LaneTest) (s : State) : Host.Outcome State Fault Refusal :=
  let k := port.val
  if s.linkState k ≠ LinkState.training then ok s
  else if modules = 0 then ok (s.attemptFailed k)
  else
    let s1 := (((s.setF F.axgPortStatus_linkState k 0 LinkState.init).setF F.axgPortStatus_modules k 0 modules.toNat).setF F.axgPortStatus_repairedM0 k 0 (found0.lanes.getD 0).val).setF
      F.axgPortStatus_repairedM1 k 0 (found1.lanes.getD 0).val
    let phy (m : Nat) : Phy := if modules.getLsbD m then .active else .trainerror
    let s2 := (s1.modLink k (fun l => { l with dead := ~~~modules, phy0 := phy 0, phy1 := phy 1 })).noteEyes (128 * k) (found0.eyes.take 64)
    let s3 := s2.noteEyes (128 * k + 64) (found1.eyes.take 64)
    ok ((if modules = 3#2 then s3 else s3.recordBringup k).linkControl k 1 0 gateInit)

/-- BRINGUP_ATTEMPT_TIMEOUT (R234). -/
def execBringupAttemptTimeout (port : Fin 6) (s : State) : Host.Outcome State Fault Refusal :=
  let st := s.linkState port.val
  if st = LinkState.training ∨ st = LinkState.init then ok (s.attemptFailed port.val) else ok s

/-- INIT from the annex (R232 to R234): the sizes of its REQ, FWD, RSP, MGT and DAT buffers. -/
def State.annexInit (s : State) (k rev : Nat) (sizes : List Nat) : State :=
  if s.linkState k ≠ LinkState.init ∨ (s.link k).gotInit = true then s
  else
    let good : Bool := rev == 0x10 && sizes.all (fun n => decide (n ≤ 128)) && (sizes.zip [4, 16, 16, 2, 16]).all (fun e => decide (e.2 ≤ e.1))
    if good then s.modLink k (fun l => { l with peer := sizes, gotInit := true }) else s.bringupFailed k false

/-- INIT. -/
def execInit (port : Fin 6) (rev req fwd rsp mgt dat : BitVec 8) (s : State) : Host.Outcome State Fault Refusal :=
  ok (s.annexInit port.val rev.toNat [req.toNat, fwd.toNat, rsp.toNat, mgt.toNat, dat.toNat])

/-- DECLARE from the annex (R233, R236): recorded whether it passes or fails; after OPEN it is a breach. -/
def State.annexDeclare (s : State) (k : Nat) (classes : Nat) (id : Nat) : State :=
  let s1 := (s.setRegWord .axgDeclared k 0 (w64 classes)).setRegWord .axgAnnexId k 0 (w64 (id % 2 ^ 40))
  if s.linkState k = LinkState.open_ then s1.quarantine k 8 0
  else if s.linkState k = LinkState.init ∧ (s.link k).gotInit = true then
    let s2 := s1.setF F.axgPortStatus_linkState k 0 LinkState.declare_
    if (List.range 16).all (fun j => classes / 16 ^ j % 16 == s.agentClass k j) then s2.setF F.axgPortStatus_linkState k 0 LinkState.ready
    else s2.bringupFailed k true
  else s1

/-- DECLARE. -/
def execDeclare (port : Fin 6) (classes : BitVec 64) (vendor device : BitVec 16) (rev : BitVec 8) (s : State) : Host.Outcome State Fault Refusal :=
  ok (s.annexDeclare port.val classes.toNat (vendor.toNat + device.toNat * 2 ^ 16 + rev.toNat * 2 ^ 32))

/-- DECLARE_TIMEOUT (R234). -/
def execDeclareTimeout (port : Fin 6) (s : State) : Host.Outcome State Fault Refusal :=
  let k := port.val
  if s.linkState k = LinkState.init ∧ (s.link k).gotInit = true then ok (s.bringupFailed k true) else ok s

/-- Set REJECT of a port (R256). -/
def State.axReject (s : State) (k : Nat) : State := s.setF F.axgPortStatus_reject k 0 1

/-- A write of OPEN = 1 (R233, R234, R237); where the port is open already and OPEN has been cleared, requests are admitted again. -/
def State.openPort (s : State) (k : Nat) : State :=
  let en := (List.range 16).filter (fun j => s.isF F.axgAgentCfg_enable k j)
  let sum := (en.map (fun j => s.getF F.axgAgentCfg_maxOut k j)).foldl (· + ·) 0
  if s.linkState k = LinkState.open_ then s.setF F.axgPortCtrl_open k 0 1
  else if s.linkState k ≠ LinkState.ready ∨ 4096 < sum then (s.axReject k).recordBringup k
  else
    let mask : BitVec 16 := BitVec.ofNat 16 (en.foldl (fun a j => a + 2 ^ j) 0)
    (((s.setF F.axgPortCtrl_open k 0 1).setF F.axgPortStatus_linkState k 0 LinkState.open_).modGate k (fun g => { g with admitted := mask })).linkControl k 3 0 mask.toNat

/-- AXG_OPEN_WRITE. -/
def execAxgOpenWrite (w : Issuer) (port : Fin 6) (s : State) : Host.Outcome State Fault Refusal :=
  s.keeperAt w .ax port.val (fun s => s.openPort port.val)

/-- The first link control flit of a type that the gate has sent and the annex has not taken. -/
def Link.takeControl (l : Link) (type : Nat) : Option (BitVec 640 × Link) :=
  match l.out.find? (fun f => f.toNat % 8 == 7 && flitBits f.toNat 3 5 == type) with
  | some f => some (f, { l with out := l.out.erase f })
  | none => none

/-- OPEN (R226): the annex receives the gate's OPEN. -/
def execOpen (port : Fin 6) (s : State) : Host.Outcome State Fault Refusal :=
  match (s.link port.val).takeControl 3 with
  | some (f, l) => ok (s.setLink port.val { l with told := BitVec.ofNat 16 (flitBits f.toNat 16 16) })
  | none => ok s

/-- HOLD (R226): the annex receives the gate's HOLD. -/
def execHold (port : Fin 6) (s : State) : Host.Outcome State Fault Refusal :=
  match (s.link port.val).takeControl 6 with
  | some (f, l) => ok (s.setLink port.val { l with heldCause := some (flitBits f.toNat 16 8) })
  | none => ok s

/-! ### The link -/

/-- Whether a port's link carries flits. -/
def State.linkUp (s : State) (k : Nat) : Bool := decide (2 ≤ s.linkState k) && decide (s.linkState k ≤ 6)

/-- A transmitter receives NAK (R229). -/
def State.linkNak (s : State) (k e : Nat) : State := if s.linkUp k then s.linkReplay k e else s

/-- A receiver receives REPLAY (R230): the flits that follow are numbered from its sequence. -/
def State.linkResume (s : State) (k n : Nat) : State :=
  if s.linkUp k then s.modLink k (fun l => { l with waiting := false, nakRounds := 0, rxNum := n % 256 }) else s

/-- Send a NAK of the expected number. -/
def State.sendNak (s : State) (k : Nat) : State :=
  let l := s.link k
  (s.linkControl k 4 l.expect 0).modLink k (fun l => { l with waiting := true, nakRounds := l.nakRounds + 1 })

/-- LINK_FLIT_RECEIVE (R223, R230, R234). R230 gives a good sequenced flit whose number lies ahead of the expected one no action: it is discarded (DESIGN CHOICE, assumption 119).
CRC_ERRORS counts the flits that fail a CRC, and not those discarded in WAIT or as duplicates (R257; DESIGN CHOICE, assumption 120). -/
def execLinkFlitReceive (port : Fin 6) (f : BitVec 640) (s : State) : Host.Outcome State Fault Refusal :=
  let k := port.val
  let v := f.toNat
  if !s.linkUp k then ok s
  else if !linkFlitOk v then
    let s0 := s.incSat F.axgLinkCount_crcErrors k 0
    let s1 := s0.errorEvent .ax k { sev := .ce, code := Ev.annexLink } (srcAx k 255) (w64 k) (s0.regWord .axgLinkCount k 0)
    ok (if (s1.link k).waiting then s1 else s1.sendNak k)
  else
    let used (s : State) : State := if v % 8 = 4 then s else s.modLink k (fun l => l.takeOverhead v)
    if sequencedFlit v then
      if s.linkState k < LinkState.open_ then ok (s.attemptFailed k)
      else if (s.link k).waiting then ok s
      else if (s.link k).rxNum = (s.link k).expect then
          let s1 := used s
          let l := s1.link k
          let r := l.deliver v
          let n := (l.expect + 1) % 256
          let data := if v % 8 = 4 then 1 else 0
          let s2 := (s1.setLink k { r.2 with expect := n, rxNum := n, ackSeq := l.expect }).modGate k (fun g => { g with inq := g.inq ++ r.1 })
          ok (if data = 1 then s2.pmu .ax k 0x403 1 { wid := some (flitBits v 23 6), cls := some 4, port := some 0 } else s2)
      else ok (s.modLink k (fun l => { l with rxNum := (l.rxNum + 1) % 256 }))
    else
      let s1 := used s
      if v % 8 = 7 then
      match flitBits v 3 5 with
      | 1 => ok (s1.annexInit k (flitBits v 16 8) ((List.range 5).map (fun i => flitBits v (24 + 8 * i) 8)))
      | 2 => ok (s1.annexDeclare k (flitBits v 16 64) (flitBits v 80 40))
      | 4 => ok (s1.linkNak k (flitBits v 8 8))
      | 5 => ok (s1.linkResume k (flitBits v 8 8))
      | _ => ok s1
      else ok s1

/-- NAK (R229). -/
def execNak (port : Fin 6) (seq : BitVec 8) (s : State) : Host.Outcome State Fault Refusal := ok (s.linkNak port.val seq.toNat)

/-- REPLAY (R230). -/
def execReplay (port : Fin 6) (seq : BitVec 8) (s : State) : Host.Outcome State Fault Refusal := ok (s.linkResume port.val seq.toNat)

/-- REPLAY_TIMEOUT (R229). -/
def execReplayTimeout (port : Fin 6) (s : State) : Host.Outcome State Fault Refusal :=
  match (s.link port.val).buf with
  | (n, _) :: _ => ok (s.linkNak port.val n)
  | [] => ok s

/-- NAK_RESEND_TIMEOUT (R230). -/
def execNakResendTimeout (port : Fin 6) (s : State) : Host.Outcome State Fault Refusal :=
  if (s.link port.val).waiting && s.linkUp port.val then ok (s.sendNak port.val) else ok s

/-- ACK_IDLE_INSERT (R228). -/
def execAckIdleInsert (port : Fin 6) (s : State) : Host.Outcome State Fault Refusal :=
  if s.linkUp port.val then ok (s.modLink port.val (fun l => { l with out := l.out ++ [l.controlFlit none] })) else ok s

/-- Resume at a width by replaying from the last acknowledged flit; a module left out retrains (R231). -/
def State.resumeWidth (s : State) (k modules : Nat) : State :=
  let phy (m : Nat) (old : Phy) : Phy := if modules / 2 ^ m % 2 = 1 then .active else if old = .active then .phyretrain else old
  let s1 := (s.setF F.axgPortStatus_modules k 0 modules).modLink k (fun l => { l with phy0 := phy 0 l.phy0, phy1 := phy 1 l.phy1 })
  match (s1.link k).buf with
  | (n, _) :: _ => s1.linkReplay k n
  | [] => s1

/-- LINK_NARROW (R231): to module 0, then to module 1; with the other module out of service the link has failed. -/
def execLinkNarrow (port : Fin 6) (s : State) : Host.Outcome State Fault Refusal :=
  let k := port.val
  let l := s.link k
  let due : Bool := decide (4 ≤ l.nakRounds) || decide (16 < (l.replayAt.filter (fun t => decide (s.mtime ≤ t + 1000))).length)
  if !due || !s.linkUp k then ok s
  else
    let s1 := s.modLink k (fun l => { l with nakRounds := 0, replayAt := [] })
    match s.getF F.axgPortStatus_modules k 0 with
    | 3 => ok ((s1.incSat F.axgLinkCount_narrows k 0).resumeWidth k 1)
    | 1 => if l.dead.getLsbD 1 then ok (s1.quarantine k 6 0) else ok (s1.resumeWidth k 2)
    | _ => ok (s1.quarantine k 6 0)

/-- LINK_WIDEN (R220, R231, R256, R460): the module left out has retrained on a number of redundant lanes, and its lanes' eye margins are known; one that the redundant lanes cannot repair
stays out of service. In a recalibration module 1 leaves when module 0 has returned. -/
def execLinkWiden (port : Fin 6) (found : LaneTest) (s : State) : Host.Outcome State Fault Refusal :=
  let k := port.val
  let m := s.getF F.axgPortStatus_modules k 0
  if !s.linkUp k || (m != 1 && m != 2) || (s.link k).dead != 0 then ok s
  else
    let s1 := (s.incSat F.axgLinkCount_retrains k 0).noteEyes (128 * k + (if m = 1 then 64 else 0)) (found.eyes.take 64)
    match found.lanes with
    | some n =>
      let s2 := (s1.setF (if m = 1 then F.axgPortStatus_repairedM1 else F.axgPortStatus_repairedM0) k 0 n.val).resumeWidth k 3
      if (s.link k).recal then
        ok (((s2.modLink k (fun l => { l with recal := false })).incSat F.axgLinkCount_narrows k 0).resumeWidth k 1)
      else ok s2
    | none => ok (s1.modLink k (fun l =>
        { l with dead := l.dead ||| BitVec.ofNat 2 (3 - m), recal := false,
                 phy0 := if m = 2 then .trainerror else l.phy0, phy1 := if m = 1 then .trainerror else l.phy1 }))

/-- A write of RECAL (R231, R255): module 0 leaves and retrains, then module 1. At half width the spec gives no outcome, and nothing happens. (DESIGN CHOICE, assumption 121.) -/
def State.recalPort (s : State) (k : Nat) : State :=
  if s.linkUp k && s.getF F.axgPortStatus_modules k 0 == 3 then
    ((s.incSat F.axgLinkCount_narrows k 0).modLink k (fun l => { l with recal := true })).resumeWidth k 2
  else s

/-- MODULE_RECAL. -/
def execModuleRecal (w : Issuer) (port : Fin 6) (s : State) : Host.Outcome State Fault Refusal :=
  s.keeperAt w .ax port.val (fun s => s.recalPort port.val)

/-! ### Gate registers -/

/-- Whether any grant list holds a carrel (R241). -/
def State.carrelGrants (s : State) (k : Nat) : Bool := (List.range 16).any (fun j => decide (2 ≤ s.getF F.axgGrant_wids k j))

/-- A write of ATTESTED (R241). -/
def State.setAttested (s : State) (k : Nat) (v : Bool) : State :=
  if !v && s.carrelGrants k then s.axReject k else s.setF F.axgPortCtrl_attested k 0 v.toNat

/-- AXG_ATTESTED_WRITE. -/
def execAxgAttestedWrite (w : Issuer) (port : Fin 6) (v : Bool) (s : State) : Host.Outcome State Fault Refusal :=
  s.keeperAt w .ax port.val (fun s => s.setAttested port.val v)

/-- AXG_GRANT_WRITE (R240, R241). -/
def execAxgGrantWrite (w : Issuer) (port : Fin 6) (j : Fin 16) (v : Word) (s : State) : Host.Outcome State Fault Refusal :=
  let k := port.val
  s.keeperAt w .ax k (fun s =>
    if !s.isF F.axgPortCtrl_attested k 0 && decide (8 ≤ v.toNat) then s.axReject k else s.writeReg .axgGrant k j.val v allBytes)

/-- Whether a register has a staging copy and an active copy at a gate (R242, R247). -/
def gateStaged (r : RegName) : Bool := r == .axgWin || r == .axgWinLim || r == .axgMmio || r == .axgMmioLim

/-- A write of a staging copy (R246). (DEDUCED, assumption 31.) -/
def State.stageWindow (s : State) (r : RegName) (k i : Nat) (v en : Word) : State :=
  if s.isF F.axgWinCtrl_pending k 0 then s.setF F.axgWinCtrl_commitReject k 0 1 else s.writeReg r k i v en

/-- AXG_WINDOW_STAGING_WRITE (R242, R246, R247). -/
def execAxgWindowStagingWrite (w : Issuer) (pa : BitVec 52) (v : Word) (s : State) : Host.Outcome State Fault Refusal :=
  let st := (pa.toNat - controlBase) / 0x400000 % 256
  match (if pa.toNat < controlBase then none else locate st ((pa.toNat - controlBase) % 0x400000)) with
  | some (r, k, i) => if gateStaged r then s.keeperAt w .ax k (fun s => s.stageWindow r k i v allBytes) else ok (s.refuse w st true Err.address)
  | none => ok (s.refuse w st true Err.address)

/-- A write of COMMIT (R245, R246). -/
def State.windowCommit (s : State) (k : Nat) : State :=
  if s.isF F.axgWinCtrl_pending k 0 then s.setF F.axgWinCtrl_commitReject k 0 1 else s.setF F.axgWinCtrl_pending k 0 1

/-- WINDOW_COMMIT. -/
def execWindowCommit (w : Issuer) (port : Fin 6) (s : State) : Host.Outcome State Fault Refusal :=
  s.keeperAt w .ax port.val (fun s => s.windowCommit port.val)

/-- WINDOW_COMMIT_EDGE (R244, R245): every staged window becomes active, and the requests open now count as old: those that the annex's agents originated. Whether OLD_OPEN also counts
MMIO transactions admitted under the old MMIO windows is open. (DESIGN CHOICE, assumption 122.) -/
def execWindowCommitEdge (port : Fin 6) (s : State) : Host.Outcome State Fault Refusal :=
  let k := port.val
  if !s.isF F.axgWinCtrl_pending k 0 then ok s
  else
    let copy (a b : RegName) (n : Nat) : Map Word := (List.range n).foldl (fun (m : Map Word) i =>
      (m.set 0 (2 * i) (s.regWord a k i)).set 0 (2 * i + 1) (s.regWord b k i)) []
    let s1 := s.modGate k (fun g => { g with win := copy .axgWin .axgWinLim 32, mmio := copy .axgMmio .axgMmioLim 8 })
    let mine (e : Nat × Option Req) : Bool := e.1 / 4096 == axStop k && (match e.2 with
      | some r => r.purp == .annex
      | none => false)
    let s2 : State := { s1 with reqs := s1.reqs.map (fun e => if mine e then (e.1, e.2.map (fun r => { r with old := true })) else e) }
    ok (((s2.setF F.axgWinCtrl_pending k 0 0).incF F.axgWinCtrl_commitSeq k 0).setF F.axgWinCtrl_oldOpen k 0 (s2.reqs.filter mine).length)

/-! ### Packets from the annex -/

/-- Refuse a request of the annex, or discard any other packet (R239). -/
def State.annexRefuse (s : State) (k : Nat) (p : Packet) (code : Nat) : State :=
  if p.cls = 0 then s.deliver k (errAnswer { p with src := BitVec.ofNat 8 (axStop k) } (axStop k) code Origin.gate)
  else s.modGate k (fun g => { g with discarded := g.discarded + 1 })

/-- A refusal that carries no strike: counted and recorded (R239, R249). -/
def State.annexDenied (s : State) (k : Nat) (p : Packet) : State :=
  let s1 := ((s.modGate k (fun g => { g with refused := g.refused + 1 })).pmu .ax k 0x405 1 { wid := some p.widN, addr := some (p.sec * 64) }).record Ev.accessRefused
    (srcAx k p.widN) (w64 (p.sec * 64)) (w64 (p.widN + Origin.gate * 256))
  s1.annexRefuse k p Err.permission

/-- Admit a checked request: its tag is taken and it is sent to its home, where it trains the port's stride detector, or to the service complex (R92, R197, R198, R199, R207). -/
def State.annexAdmit (s : State) (k j : Nat) (p : Packet) : State :=
  let pa := p.sec * 64
  let q : Packet :=
    if p.opcode == Opc.mgtNotify then { p with dst := BitVec.ofNat 8 svcStop, endpoint := 3, tag := BitVec.ofNat 12 j, wid := 0 }
    else { p with dst := BitVec.ofNat 8 (s.homeStop p.sec), src := BitVec.ofNat 8 (axStop k),
                  attr := (p.attr &&& 0xFF3F) ||| (if p.opcode == Opc.evictClean || p.opcode == Opc.writeBackDirty || p.opcode == Opc.writeBackOwned then 0
                            else BitVec.ofNat 16 (s.policy pa * 64)) }
  let s1 := if p.opcode == Opc.evictClean || p.cls != 0 then s else s.setReq (axStop k) p.tagN (some { pkt := q, ep := j, purp := .annex })
  if p.cls = 0 then ((s1.pmu .ax k 0x401 1 { wid := some p.widN, addr := some pa }).gateInject k q).detect (axStop k) j q else s1.gateInject k q

/-- The requests that an agent has open. -/
def State.annexOpen (s : State) (k j : Nat) : Nat :=
  (s.reqs.filter (fun e => e.1 / 4096 == axStop k && (match e.2 with
    | some r => r.purp == .annex && r.ep == j
    | none => false))).length

/-- Whether a request is sent again after Retry, with its own tag (R156, R199). -/
def State.annexAgain (s : State) (k j : Nat) (p : Packet) : Bool :=
  match s.annexReq k p.tagN with
  | some r => r.waitBound && r.ep == j && r.pkt.opcode == p.opcode && r.pkt.address == p.address && r.pkt.wid == p.wid
  | none => false

/-- Whether the grant list lets an agent carry a WID; an annex that is not attested carries at most the Open world (R240, R241). (DEDUCED, assumption 117.) -/
def State.granted (s : State) (k j wid : Nat) : Bool := (s.regWord .axgGrant k j).getLsbD wid && (decide (wid ≤ 2) || s.isF F.axgPortCtrl_attested k 0)

/-- The gate's checks on a packet from the annex, in order (R239, R240, R243). EvictClean, which holds no tag, passes check 4 whole, MAX_OUT included (DESIGN CHOICE, assumption 123), and a
request sent again after Retry has its tag and its place already. While OPEN is 0, as at step 3 of R258, no new request is admitted (DESIGN CHOICE, assumption 116). -/
def State.annexArrive (s : State) (k : Nat) (framed : Bool) (p : Packet) : State :=
  let g := s.gate k
  let j := p.epN
  let named : Bool := p.cls == 0 || p.opcode == Opc.mgtNotify || p.opcode == Opc.agentFlushDone
  if s.quarantined k || s.linkState k != LinkState.open_ then s.modGate k (fun g => { g with discarded := g.discarded + 1 })
  else if named then
    if !annexFormOk framed p then (s.annexRefuse k p Err.format).strike k (j % 16) 1
    else if !s.agentUp k j || !classMaySend (s.agentClass k j) p then (s.annexRefuse k p Err.format).strike k (j % 16) 2
    else if p.opcode == Opc.agentFlushDone then s.agentFlushed k j
    else if p.cls = 0 ∧ s.annexAgain k j p = false ∧ (g.closing = true ∨ s.isF F.axgPortCtrl_open k 0 = false) then s.annexRefuse k p Err.targetDead
    else if p.cls = 0 ∧ p.opcode ≠ Opc.evictClean ∧ s.annexAgain k j p = false ∧ ((s.req (axStop k) p.tagN).isSome ∨ s.getF F.axgAgentCfg_maxOut k j ≤ s.annexOpen k j) then
      (s.annexRefuse k p Err.format).strike k j 4
    else if p.cls = 0 ∧ ¬(s.granted k j p.widN = true) then s.annexDenied k p
    else if p.cls = 0 ∧ ¬(g.windowOk j p = true) then s.annexDenied k p
    else s.annexAdmit k j p
  else
    match g.match_ p with
    | some x =>
      if !annexFormOk framed p then (s.annexRefuse k p Err.format).strike k x.agent 1
      else if !classMayAnswer (s.agentClass k x.agent) p then (s.annexRefuse k p Err.format).strike k x.agent 3
      else s.annexAnswer k x p
    | none => (s.annexRefuse k p Err.format).strike k 0 (if annexFormOk framed p then 3 else 1)

/-- ANNEX_PACKET_ARRIVAL. -/
def execAnnexPacketArrival (port : Fin 6) (framed : Bool) (p : Packet) (s : State) : Host.Outcome State Fault Refusal :=
  ok ((s.modGate port.val (fun g => { g with inq := g.inq.erase (p, framed) })).annexArrive port.val framed p)

/-- STRIKE_INTERVAL_RESET (R249). -/
def execStrikeIntervalReset (s : State) : Host.Outcome State Fault Refusal :=
  ok ((List.range 6).foldl (fun (s : State) (k : Nat) => s.setF F.axgQstatus_strikes k 0 0) s)

/-! ### Timers (R238) -/

/-- Open transaction i of a gate when it is of a kind that a timer guards; the expiry is counted. (DESIGN CHOICE, assumption 35.) -/
def State.expiring (s : State) (k i : Nat) (kinds : List GateKind) : Option (GateTx × State) :=
  match (s.gate k).txs[i]? with
  | some x => if kinds.contains x.kind then some (x, s.pmu .ax k 0x407 1 {}) else none
  | none => none

/-- SNOOP_TO_EXPIRY (R151, R238). -/
def execSnoopToExpiry (port : Fin 6) (i : Nat) (s : State) : Host.Outcome State Fault Refusal :=
  match s.expiring port.val i [.snoop] with
  | some (x, s1) => ok (((s1.gateFor port.val x).closeGate port.val x true).quarantine port.val 1 x.agent)
  | none => ok s

/-- ACK_TO_EXPIRY (R238). -/
def execAckToExpiry (port : Fin 6) (i : Nat) (s : State) : Host.Outcome State Fault Refusal :=
  match s.expiring port.val i [.ack, .wdata] with
  | some (x, s1) => ok (((s1.gateFor port.val x).closeGate port.val x true).quarantine port.val 2 x.agent)
  | none => ok s

/-- Quarantine one home agent whose MemWrite is lost (R252). -/
def State.quarantineAgent (s : State) (k j : Nat) : State :=
  let s0 := if s.getF F.axgQstatus_agentQuarantined k 0 = 0 then (s.setF F.axgQstatus_cause k 0 3).setF F.axgQstatus_causeAgent k 0 j else s
  let s1 := s0.setF F.axgQstatus_agentQuarantined k 0 (Nat.lor (s0.getF F.axgQstatus_agentQuarantined k 0) (2 ^ j))
  s1.record Ev.annexQuarantine (srcAx k 255) (w64 k) (s1.regWord .axgQstatus k 0)

/-- RESP_TO_EXPIRY (R238, R248, R252): a merge's read ends the merge with the error; a lost MemWrite quarantines the home agent. -/
def execRespToExpiry (port : Fin 6) (i : Nat) (s : State) : Host.Outcome State Fault Refusal :=
  let k := port.val
  match s.expiring k i [.memRead, .memWrite] with
  | some (x, s1) =>
    let s2 := (s1.closeGate k x true).gateError k x Err.timeout
    ok (if x.kind = .memWrite then s2.quarantineAgent k x.agent else s2.strike k x.agent 0)
  | none => ok s

/-- MMIO_TO_EXPIRY (R238). -/
def execMmioToExpiry (port : Fin 6) (i : Nat) (s : State) : Host.Outcome State Fault Refusal :=
  let k := port.val
  match s.expiring k i [.mmio] with
  | some (x, s1) => ok (((s1.closeGate k x true).gateError k x Err.timeout).strike k x.agent 0)
  | none => ok s

/-- FLUSH_TIMEOUT (R238). -/
def execFlushTimeout (port : Fin 6) (i : Nat) (s : State) : Host.Outcome State Fault Refusal :=
  let k := port.val
  match s.expiring k i [.flush] with
  | some (x, s1) => ok ((s1.closeGate k x true).quarantine k 5 x.agent)
  | none => ok s

/-! ### Quarantine -/

/-- PORT_QUARANTINE_WRITE (R255). -/
def execPortQuarantineWrite (w : Issuer) (port : Fin 6) (s : State) : Host.Outcome State Fault Refusal :=
  s.keeperAt w .ax port.val (fun s => s.quarantine port.val 7 0)

/-- Take an annex's agents out of a directory entry: S listings and the ANNEX bit go, and a dead owner's sector is poisoned (R251). -/
def State.reclaimEntry (s : State) (k key : Nat) (e : DirEnt) : State :=
  let mine (a : Nat) : Bool := decide (272 + 16 * k ≤ a) && decide (a ≤ 287 + 16 * k)
  let e1 : DirEnt := { e with ptrs := e.ptrs.filter (fun a => !mine a), annex := e.annex &&& ~~~(1#6 <<< k) }
  let t := key / 16 / 2048
  if e1.st != .ds && mine e1.owner then
    let e2 := e1.dropOwner
    (s.setDir key (if e2.empty then none else some e2)).txDead t { sec := e.sec, pkt := {}, phase := .snoops }
  else s.setDir key (if e1.empty then none else some e1)

/-- Whether a directory entry names an annex's agents. -/
def DirEnt.names (e : DirEnt) (k : Nat) : Bool :=
  let mine (a : Nat) : Bool := decide (272 + 16 * k ≤ a) && decide (a ≤ 287 + 16 * k)
  (e.st != .ds && mine e.owner) || (if e.fmt then e.annex.getLsbD k else e.ptrs.any mine)

/-- RECLAIM_COMPLETE (R251): the scan ends once no BUSY entry names the annex. -/
def execReclaimComplete (port : Fin 6) (s : State) : Host.Outcome State Fault Refusal :=
  let k := port.val
  if !s.isF F.axgPortStatus_reclaimBusy k 0 then ok s
  else
    let s1 := s.dir.foldl (fun (s : State) (e : Nat × Option DirEnt) => match e.2 with
      | some d => if d.names k && !d.busy then s.reclaimEntry k e.1 d else s
      | none => s) s
    if s1.dir.any (fun e => match e.2 with
      | some d => d.names k
      | none => false) then ok s1
    else ok ((s1.setF F.axgPortStatus_reclaimBusy k 0 0).setF F.axgPortStatus_reclaimed k 0 1)

/-- A write of ENABLE = 0 (R253): an open port is quarantined first; a reclaimed quarantine ends with the link down. -/
def State.disablePort (s : State) (k : Nat) : State :=
  let s1 := s.setF F.axgPortCtrl_enable k 0 0
  if s.linkState k = LinkState.open_ then s1.quarantine k 7 0
  else if s.quarantined k ∧ ¬(s.isF F.axgPortStatus_reclaimed k 0 = true) then s1
  else ((s1.setF F.axgPortStatus_linkState k 0 LinkState.down).setF F.axgPortCtrl_open k 0 0).setF F.axgPortStatus_modules k 0 0

/-- PORT_DISABLE. -/
def execPortDisable (w : Issuer) (port : Fin 6) (s : State) : Host.Outcome State Fault Refusal :=
  s.keeperAt w .ax port.val (fun s => s.disablePort port.val)

/-! ### Fence probes and management -/

/-- The gate that a packet reaches. -/
def gateOf (p : Packet) : Nat := (stopAx p.dstN).getD 0

/-- A fence probe (R541): it waits for the posted writes and MemWrites accepted before it. -/
def State.fenceProbe (s : State) (k : Nat) (p : Packet) : State :=
  let waits := (s.gate k).txs.filterMap (fun x =>
    if x.kind = .memWrite ∨ (x.kind = .memRead ∧ x.merging = true) ∨ (x.kind = .mmio ∧ x.pkt.opcode = Opc.ioWrite ∧ x.pkt.ioPosted = true) then
      some (x.pkt.srcN, x.pkt.tagN) else none)
  (s.modGate k (fun g => { g with probes := g.probes ++ [{ pkt := p, waits := waits, failed := false }] })).probesDone k

/-- AXG_FENCE_PROBE. -/
def execAxgFenceProbe (p : Packet) (s : State) : Host.Outcome State Fault Refusal := ok (s.receive p (fun s => s.fenceProbe (gateOf p) p))

/-- AGENT_FLUSH (R151): the annex caching agent takes the gate's AgentFlush; what it evicts comes back as packets. -/
def execAgentFlush (port : Fin 6) (j : Fin 16) (s : State) : Host.Outcome State Fault Refusal :=
  let k := port.val
  match (s.gate k).toAnnex.find? (fun p => p.opcode == Opc.agentFlush && p.epN == j.val) with
  | some p => ok (s.modGate k (fun g => { g with toAnnex := g.toAnnex.erase p, flushing := g.flushing ||| (1#16 <<< j.val) }))
  | none => ok s

/-- AGENT_FLUSH_DONE (R151). -/
def execAgentFlushDone (port : Fin 6) (j : Fin 16) (s : State) : Host.Outcome State Fault Refusal := ok (s.agentFlushed port.val j.val)

/-- MGT_NOTIFY (R206, R212): recorded with its port, agent, event code and detail. ENDPOINT names the SVC (R198), so the gate names the agent in TAG. (DESIGN CHOICE, assumption 34.) -/
def execMgtNotify (p : Packet) (s : State) : Host.Outcome State Fault Refusal :=
  let k := (stopAx p.srcN).getD 0
  ok (s.receive p (fun s => s.record Ev.annexNotify (srcAx k 255) (w64 (k + p.tagN * 2 ^ 8 + p.attr.toNat * 2 ^ 16)) (w64 p.address.toNat)))

/-- MGT_ERR (R206, R181): the sender learns that its management request failed; the message is taken and counted. -/
def execMgtErr (p : Packet) (s : State) : Host.Outcome State Fault Refusal :=
  ok (s.receive p (fun s => match stopAx p.dstN with
    | some k => s.modGate k (fun g => { g with discarded := g.discarded + 1 })
    | none => s))

/-! ### Depository traffic -/

/-- The deed check of a depository message at its gate (R248, R304). -/
def State.gateDeed (s : State) (k j : Nat) (p : Packet) (write : Bool) : Option Nat × State :=
  if s.agentDead k j || !(s.gate k).admitted.getLsbD j || s.agentClass k j != 2 then (some Err.targetDead, s)
  else
  let s := s.deedNote (dcGate k) (p.gran / 32)
  match s.sealDeed (p.gran / 32) with
    | none => (some Err.permission, s.refusedPage (srcAx k p.widN) p.gran p.widN Origin.gate)
    | some d => if !(write && p.victim) && !deedAllows d p.widN write then (some Err.permission, s.refusedPage (srcAx k p.widN) p.gran p.widN Origin.gate) else (none, s)

/-- GATE_MEM_READ (R248, R304). -/
def execGateMemRead (p : Packet) (s : State) : Host.Outcome State Fault Refusal :=
  ok (s.receive p (fun s =>
    let k := gateOf p
    let r := s.gateDeed k p.epN p false
    match r.1 with
    | some c => r.2.send (gateErr k p c)
    | none => (r.2.deliver k p).openGate k { kind := .memRead, agent := p.epN, pkt := p }))

/-- What the data packets of a MemWrite carry, in order (R209, R215). -/
def gateData (p q0 q1 : Packet) : GateTx :=
  let one (q : Packet) : BitVec 64 × Sector × Bool := if q.opcode = Opc.writeDataMasked then (q.mask, q.payload2, q.poison2) else (fullMask, q.payload, q.poison)
  let a := one q0
  let b := if p.s0 then one q1 else a
  { kind := .memWrite, agent := p.epN, pkt := p, d0 := a.2.1, m0 := a.1, p0 := a.2.2, d1 := b.2.1, m1 := b.1, p1 := b.2.2 }

/-- GATE_MEM_WRITE (R210, R235, R248): Comp on acceptance; masked sectors are merged with what a MemRead of the agent returns. -/
def execGateMemWrite (p q0 q1 : Packet) (s : State) : Host.Outcome State Fault Refusal :=
  ok (s.receiveWrite p q0 q1 (fun s =>
    let k := gateOf p
    let r := s.gateDeed k p.epN p true
    match r.1 with
    | some c => r.2.send (gateErr k p c)
    | none =>
      let x := gateData p q0 q1
      let s1 := r.2.send { answer p (axStop k) Opc.comp 0 with endpoint := 2 }
      if (p.s0 && p.m0) || (p.s1 && p.m1) then
        (s1.deliver k { p with opcode := Opc.memRead, attr := 0 }).openGate k { x with kind := .memRead, merging := true }
      else s1.gateForward k p.epN x))

end Sys2Proof.Machine
end

