-- ==== Sys2Proof/Machine/HartSteps.lean ====
section
/-! DEFINITION. The commands that a hart executes: accesses (R36 to R38, R60, R74 to R76), fences, waits (R34), cache-block operations (R105, R129), hints (R96),
branches and the life of an instruction in flight (R60 to R69), traps and interrupts (R64, R77). A hart that is not running executes nothing (R39). -/
namespace Sys2Proof.Machine

/-- The access-fault code of loads, and of stores and AMOs. -/
def accCode (store : Bool) : Nat := if store then Exc.storeAccess else Exc.loadAccess

/-- Whether an instruction that is performed only when bound and is not followed in flight may execute: the hart runs and the instruction is its oldest (R66). (DEDUCED, assumption 144.) -/
def State.alone (s : State) (h : Nat) : Bool := s.runs h && (s.hart h).infl.isEmpty && !(s.hart h).haltReq

/-- The translations that an access used (R66 to R68); none where no stage translates. -/
def State.translOf (s : State) (h : Nat) (a : Access) : List Transl :=
  if s.stages h = (false, false) then []
  else (accessParts a).filterMap (fun p =>
    if p.2.1.fault.isSome then none
    else some { vpn := p.1.toNat / 4096, ppn := p.2.1.pa.toNat / 4096, ptype := p.2.1.ptype, users := [a.id] })

/-- Put an instruction in flight with the translations it used, and do what it may do at once; one that finds no free translation entry waits for it in the queue (R68). -/
def State.enter (s : State) (h : Nat) (a : Access) (i : Infl) : State :=
  let es := s.translOf h a
  let r := s.transl h a.id a.spec es
  (r.2.launch h (if r.1 then i else { i with xl := es })).hartPump h

/-- The hardware-error exception of an instruction fetched from a poisoned sector (R485). -/
def State.fetchPoison (s : State) (h : Nat) (a : Access) : Option Pend :=
  if s.codePoison h a.isec.toNat then some { cause := Exc.hardwareError, tval := a.pc, pa := a.isec.toNat * 64 } else none

/-- Execute a translated access: its instruction must have been fetched (R67) and find room (R59); its exceptions are found first (R75). (DESIGN CHOICE, assumption 145.) -/
def State.execAccess (s : State) (h : Nat) (a : Access) (k : OpKind) (store value : Bool) (f : Option Pend) : State :=
  if !s.runs h || !(s.hart h).room k then s
  else
    let g := s.fetch h a.isec.toNat a.id a.spec
    if !g.1 then g.2
    else
      let fault := match (g.2.fetchPoison h a).or f with
        | some p => some p
        | none => g.2.accessFault h a (accCode store)
      g.2.enter h a (g.2.newInfl h k a value fault)

/-- The illegal-instruction or virtual-instruction exception with the encoding in tval (R34). -/
def State.illegal (s : State) (h : Nat) (virtual_ : Bool) (enc : Nat) : State :=
  s.except h { cause := if virtual_ then Exc.virtualInstr else Exc.illegal, tval := w64 enc } (s.hart h).pc

/-- HART_LOAD (R36, R74, R75). -/
def execHartLoad (h : BitVec 8) (a : Access) (s : State) : Host.Outcome State Fault Refusal := 
  ok (s.execAccess h.toNat (s.translated h.toNat a false) .load false false none)

/-- HART_STORE (R60): a store to control space keeps its place until the register answers (R8), every other store retires into the store queue. (DEDUCED, assumption 14.) -/
def execHartStore (h : BitVec 8) (a0 : Access) (s : State) : Host.Outcome State Fault Refusal :=
  let a := s.translated h.toNat a0 true
  let k : OpKind := if region a.x0.pa.toNat = .control then .ioStore else .store
  ok (s.execAccess h.toNat a k true true none)

/-- The type of the first part of an access at its hart. -/
def State.accType (s : State) (a : Access) : EType := s.effType a.x0.pa.toNat a.x0.ptype

/-- Whether an access is misaligned. -/
def misaligned (a : Access) : Bool := decide (a.va.toNat % max 1 a.size.val ≠ 0)

/-- The exception of LR, SC and AMO before the common checks: misalignment, or, after translation, a target of the wrong type (R38). -/
def State.atomicFault (s : State) (h : Nat) (a : Access) (mis acc : Nat) (okType : EType → Bool) : Option Pend :=
  if misaligned a then some { cause := mis, tval := a.va, tinst := a.tinst }
  else match s.accessFault h a acc with
    | some f => some f
    | none => if okType (s.accType a) then none else some { cause := acc, tval := a.va, tinst := a.tinst }

/-- An LR, SC or AMO of 1 or 2 bytes is a Zabha instruction, which is not supported (R32): none, or the illegal-instruction exception. -/
def zabha (a : Access) : Option Pend :=
  if a.size.val = 4 ∨ a.size.val = 8 then none else some { cause := Exc.illegal, tval := w64 a.enc.toNat }

/-- Whether a target of the main-memory PMA kind: policies WB and WA (R90). -/
def EType.near (t : EType) : Bool := t == .wb || t == .wa

/-- AMO (R38): in the L1D for WB and WA, a far atomic at the home for WT and UC, an access fault for IO. -/
def execAmo (h : BitVec 8) (op : AmoOp) (a0 : Access) (s : State) : Host.Outcome State Fault Refusal :=
  let a := s.translated h.toNat a0 true
  let f := (zabha a).or (s.atomicFault h.toNat a Exc.storeMisaligned Exc.storeAccess (fun t => t != .io))
  ok (s.execAccess h.toNat a (if (s.accType a).near then .amo op else .farAmo op) true false f)

/-- LR (R34, R38). (DEDUCED, assumption 19.) -/
def execLr (h : BitVec 8) (a0 : Access) (s : State) : Host.Outcome State Fault Refusal :=
  let a := s.translated h.toNat a0 false
  ok (s.execAccess h.toNat a .lr false false ((zabha a).or (s.atomicFault h.toNat a Exc.loadMisaligned Exc.loadAccess EType.near)))

/-- SC (R34, R38). -/
def execSc (h : BitVec 8) (a0 : Access) (s : State) : Host.Outcome State Fault Refusal :=
  let a := s.translated h.toNat a0 true
  ok (s.execAccess h.toNat a .sc true false ((zabha a).or (s.atomicFault h.toNat a Exc.storeMisaligned Exc.storeAccess EType.near)))

/-- Whether an instruction writes memory when it retires or after (R71). -/
def OpKind.writes : OpKind → Bool
  | .store | .ioStore | .sc | .amo _ | .farAmo _ | .cboZero => true
  | _ => false

/-- The self-modifying-code check of a store that retires (R71): where an instruction in flight was fetched from a block that it writes, every younger instruction is squashed, the
block leaves the L1I, and fetch restarts after the store once it is written. -/
def State.selfModify (s : State) (h : Nat) (i : Infl) : State :=
  if !i.kind.writes then s
  else
    let hit := (i.parts.map (·.sec)).filter (fun b => (s.hart h).infl.any (fun j => j.isec == b))
    if hit.isEmpty then s
    else
      let s1 := (s.squash h (fun _ => true)).hartEvent h 0x0F
      let s2 := hit.foldl (fun s b => s.l1iDrop (s.physCore h) b) s1
      s2.modHart h (fun x => { x with smc := hit.filter (fun b => x.sq.any (fun e => e.sec == b)) })

/-- Blocks whose modifying stores are written no longer hold up fetch (R71). -/
def Hart.smcDone (x : Hart) : Hart := { x with smc := x.smc.filter (fun b => x.sq.any (fun e => e.sec == b)) }

/-- The oldest retired store has been performed: it leaves the store queue (R60, R71, R72). -/
def State.storeGone (s : State) (h sec : Nat) : State :=
  (((s.modHart h (fun x => { x with sq := x.sq.drop 1 }.smcDone)).l1iDrop (s.physCore h) sec).windowStore (s.physCore h) sec).windowCheck (s.physCore h) sec

/-- STORE_COMMIT_L1D (R60, R124): the oldest retired store is written once its sector is in E or M; otherwise it waits. -/
def execStoreCommitL1d (hb : BitVec 8) (s : State) : Host.Outcome State Fault Refusal :=
  let h := hb.toNat
  let c := s.physCore h
  match (s.hart h).sq with
  | e :: _ =>
    if (e.etype == .wb || e.etype == .wa) && e.tag.isNone && (s.cline c e.sec).st.writable then
      ok (((s.writeLine c e.sec e.data e.mask).storeGone h e.sec).hartPump h)
    else ok (s.hartPump h)
  | [] => ok s

/-- An instruction without an access, in flight. -/
def plainInfl (id : Nat) (k : OpKind) (pc : Word) (dest : Dest) (va opnd : Word) : Infl :=
  { id := id, kind := k, pc := pc, spec := false, va := va, size := 8, dest := dest, opnd := opnd, parts := [{ sec := 0, off := 0, len := 8 }], isec := 2 ^ 46 }

/-- FENCE (R134): complete once every earlier access is performed. -/
def execFence (hb : BitVec 8) (id : Nat) (s : State) : Host.Outcome State Fault Refusal :=
  let h := hb.toNat
  if s.runs h then ok ((s.launch h (plainInfl id .fence (s.hart h).pc .none 0 0)).hartPump h) else ok s

/-- FENCE.I (R73): the whole L1I is invalidated, and what was fetched ahead is dropped. It acts when it is the oldest. -/
def execFenceI (hb : BitVec 8) (s : State) : Host.Outcome State Fault Refusal :=
  let h := hb.toNat
  if s.alone h then
    ok (((s.squash h (fun _ => true)).modCore (s.physCore h) (fun k => { k with l1i := [] })).modHart h (fun x => { x with shadowD := x.shadowD.filter (fun e => !e.code) }))
  else ok s

/-- SFENCE_VMA (R68): SFENCE.VMA or, with `hyp`, an HFENCE: the TLB and every translation entry of the shadow buffer are emptied. -/
def execSfenceVma (hb : BitVec 8) (hyp : Bool) (enc : BitVec 32) (s : State) : Host.Outcome State Fault Refusal :=
  let h := hb.toNat
  let x := s.hart h
  let tvm := bitsOf (s.csr h 0x300) 20 1 = 1
  let vtvm := bitsOf (s.csr h 0x600) 20 1 = 1
  if !s.alone h then ok s
  else if x.virt ∧ (x.priv = .u ∨ hyp = true ∨ vtvm) then ok (s.illegal h true enc.toNat)
  else if x.priv = .u ∨ (x.priv = .s ∧ x.virt = false ∧ tvm) then ok (s.illegal h false enc.toNat)
  else ok (s.setHart h { x with tlb := [], shadowT := [] })

/-- Whether TW or VTW makes a wait trap in the hart's mode: none, an illegal-instruction or a virtual-instruction exception (R34). -/
def State.waitTrap (s : State) (h : Nat) : Option Bool :=
  let x := s.hart h
  if x.priv = .m then none
  else if bitsOf (s.csr h 0x300) 21 1 = 1 then some false
  else if x.virt ∧ x.priv = .s ∧ bitsOf (s.csr h 0x600) 21 1 = 1 then some true
  else none

/-- The exception of a WFI: that of TW and VTW; and U mode may not wait, nor VU mode, whatever TW holds (R31, R34). -/
def State.wfiTrap (s : State) (h : Nat) : Option Bool :=
  match s.waitTrap h with
  | some v => some v
  | none => if (s.hart h).priv = .u then some (s.hart h).virt else none

/-- The encodings of the waits and returns, for tval (R34). -/
def encWfi : Nat := 0x10500073
def encWrsNto : Nat := 0x00D00073
def encMret : Nat := 0x30200073
def encSret : Nat := 0x10200073

/-- WFI (R34). -/
def execWfi (hb : BitVec 8) (s : State) : Host.Outcome State Fault Refusal :=
  let h := hb.toNat
  if !s.alone h then ok s
  else match s.wfiTrap h with
    | some v => ok (s.illegal h v encWfi)
    | none => ok (s.modHart h (fun x => { x with wait := .wfi }))

/-- WRS.NTO (R34): waits for a change to the reservation set; without a reservation it completes. -/
def execWrsNto (hb : BitVec 8) (s : State) : Host.Outcome State Fault Refusal :=
  let h := hb.toNat
  if !s.alone h then ok s
  else match (s.hart h).resv with
    | some sec => ok (s.modHart h (fun x => { x with wait := .wrsNto sec }))
    | none => ok s

/-- WRS_NTO_TIMEOUT (R34): after 10 µs under TW in a lower mode the wait traps. -/
def execWrsNtoTimeout (hb : BitVec 8) (s : State) : Host.Outcome State Fault Refusal :=
  let h := hb.toNat
  match (s.hart h).wait, s.waitTrap h with
  | .wrsNto _, some v => ok (s.illegal h v encWrsNto)
  | _, _ => ok s

/-- WRS.STO (R34): stalls for at most 2 µs. -/
def execWrsSto (hb : BitVec 8) (s : State) : Host.Outcome State Fault Refusal :=
  let h := hb.toNat
  if !s.alone h then ok s
  else match (s.hart h).resv with
    | some sec => ok (s.modHart h (fun x => { x with wait := .wrsSto sec }))
    | none => ok s

/-- WRS_STO_EXPIRY (R34). -/
def execWrsStoExpiry (hb : BitVec 8) (s : State) : Host.Outcome State Fault Refusal :=
  match (s.hart hb.toNat).wait with
  | .wrsSto _ => ok (s.modHart hb.toNat (fun x => { x with wait := .run }))
  | _ => ok s

/-! ### Cache-block operations -/

/-- The exception of a cache-block operation whose enable field is 0 in the hart's mode: none, illegal-instruction (false) or virtual-instruction (true) (R39, R105). -/
def State.cboTrap (s : State) (h lsb width : Nat) : Option Bool :=
  let x := s.hart h
  let off (r : Nat) : Bool := bitsOf (s.csr h r) lsb width == 0
  if x.priv = .m then none
  else if off 0x30A then some false
  else if x.virt then (if off 0x60A || (x.priv == .u && off 0x10A) then some true else none)
  else if x.priv = .u ∧ off 0x10A = true then some false
  else none

/-- A cache-block operation on the 64-byte block of its address (R34, R105). A cache-block operation has no data operand: VALUE holds its encoding. `store` is the permission it needs. -/
def State.cboExec (s : State) (hb : BitVec 8) (a0 : Access) (k : OpKind) (lsb width : Nat) (store : Bool) : State :=
  let h := hb.toNat
  if !s.runs h || !(s.hart h).room k then s
  else
    let g := s.fetch h a0.isec.toNat a0.id a0.spec
    if !g.1 then g.2
    else
      let t := { g.2.translate h a0.va.toNat store a0.x0 with fault := (g.2.translate h a0.va.toNat store a0.x0).fault.map (fun c => if c = 5 then 7 else if c = 13 then 15
        else if c = 21 then 23 else c) }
      let a := { a0 with x0 := t, size := 1 }
      let trap : Option Pend := (g.2.fetchPoison h a).or <| match s.cboTrap h lsb width with
        | some v => some { cause := if v then Exc.virtualInstr else Exc.illegal, tval := w64 a.value.toNat }
        | none =>
          match g.2.accessTrigger h a Exc.storeAccess with
          | some dbg => some { cause := Exc.breakpoint, debug := dbg }
          | none =>
            match t.fault with
            | some code => some { cause := code, tval := a.va, gpa := t.gpa, tinst := a.tinst }
            | none =>
              if !g.2.addrExists (g.2.physCore h) t.pa.toNat || g.2.accType a == .io
                || !(g.2.pmpOk h (g.2.dataPriv h).1 (t.pa.toNat / 64 * 64) 64 true || (!store && g.2.pmpOk h (g.2.dataPriv h).1 (t.pa.toNat / 64 * 64) 64 false)) then
                some { cause := Exc.storeAccess, tval := a.va, tinst := a.tinst }
              else none
      g.2.enter h a { id := a.id, kind := k, pc := a.pc, spec := a.spec, va := a.va, size := 8, fault := trap, isec := a.isec.toNat, tinst := a.tinst,
                      parts := [{ sec := t.pa.toNat / 64, off := 0, len := 8, etype := g.2.accType a }] }

/-- CBO_CLEAN (R105, R129). -/
def execCboClean (h : BitVec 8) (a : Access) (s : State) : Host.Outcome State Fault Refusal := ok (s.cboExec h a (.cbo false) 6 1 false)
/-- CBO_FLUSH (R105, R129). -/
def execCboFlush (h : BitVec 8) (a : Access) (s : State) : Host.Outcome State Fault Refusal := ok (s.cboExec h a (.cbo true) 6 1 false)
/-- CBO_INVAL (R105): performed as cbo.flush. -/
def execCboInval (h : BitVec 8) (a : Access) (s : State) : Host.Outcome State Fault Refusal := ok (s.cboExec h a (.cbo true) 4 2 true)
/-- CBO_ZERO (R105). -/
def execCboZero (h : BitVec 8) (a : Access) (s : State) : Host.Outcome State Fault Refusal := ok (s.cboExec h a .cboZero 7 1 true)

/-- Whether a hint is dropped: unbound, a fault in its translation, an address that does not exist, PMP, or an effective type UC or IO (R96). -/
def State.hintDropped (s : State) (h : Nat) (a : Access) (store : Bool) : Bool :=
  !s.runs h || a.spec || a.x0.fault.isSome || a.x0.poisonWalk || !s.addrExists (s.physCore h) a.x0.pa.toNat
    || !s.pmpOk h (s.dataPriv h).1 (a.x0.pa.toNat / 64 * 64) 64 store || s.accType a == .uc || s.accType a == .io

/-- A Zicbop hint that is not dropped: its translation reaches the TLB, and the block is asked for (R96). -/
def State.hint (s : State) (h : Nat) (a0 : Access) (store : Bool) (f : State → Nat → Nat → EType → State) : State :=
  let a := { s.translated h { a0 with size := 1 } store with id := a0.id }
  if s.hintDropped h a store then s
  else
    let s1 := (s.transl h a.id false (s.translOf h a)).2
    f s1 (s1.physCore h) (a.x0.pa.toNat / 64) (s1.accType a)

/-- PREFETCH_R (R96): the block comes into the L1D. -/
def execPrefetchR (hb : BitVec 8) (a : Access) (s : State) : Host.Outcome State Fault Refusal :=
  ok (s.hint hb.toNat a false (fun s c sec ty =>
    if (s.cline c sec).st.readable then s.l1dFill c sec
    else if (s.cline c sec).st != .i || !s.canSend c sec then s
    else ((s.setCline c sec { st := .isD }).coreSend c sec Opc.readShared (reqAttr false (ty == .wt) false 0 false ty.code false)
      { pkt := {}, ep := 0, purp := .own }).2))

/-- PREFETCH_W (R96): the block comes into the L1D in M, in WB regions. -/
def execPrefetchW (hb : BitVec 8) (a : Access) (s : State) : Host.Outcome State Fault Refusal :=
  ok (s.hint hb.toNat a true (fun s c sec ty =>
    if ty ≠ .wb then s
    else if (s.cline c sec).st.writable then (s.setCline c sec { s.cline c sec with st := .m }).l1dFill c sec
    else s.askUnique c sec .wb .own))

/-- PREFETCH_I (R96): the block comes into the L2. -/
def execPrefetchI (hb : BitVec 8) (a : Access) (s : State) : Host.Outcome State Fault Refusal :=
  ok (s.hint hb.toNat a false (fun s c sec _ => s.prefetchL2 c sec false none))

/-! ### Branches and the life of an instruction -/

/-- What fetch does for a branch that it predicts (R63, R65): the global history takes the prediction, a call pushes its return address, and a return is predicted by the top of
the return stack, which it pops, or from an empty stack by the indirect-target predictor. -/
def Core.fetchBranch (k : Core) (b : Pred) : Core :=
  let dest : Option Word := if b.isReturn then (match k.ras with
    | t :: _ => some t
    | [] => (k.indp.find? (fun e => e.1 == b.pc)).map (·.2)) else none
  { k with preds := k.preds ++ [{ id := b.id, ghist := k.ghist, target := dest }],
           ghist := w64 (k.ghist.toNat * 2 + b.taken.toNat),
           ras := if b.isCall then (b.link :: k.ras).take 32 else if b.isReturn then k.ras.drop 1 else k.ras }

/-- BRANCH_RESOLVE (R63, R65): what fetch has predicted since the last resolution has changed the history and the return stack, on the right path and on wrong ones. A
misprediction squashes younger instructions and restores the global history to its value at the branch, but not the return stack; a return whose predicted target was wrong
empties the return stack. -/
def execBranchResolve (hb : BitVec 8) (b : Branch) (s : State) : Host.Outcome State Fault Refusal :=
  let h := hb.toNat
  let c := s.physCore h
  if !s.runs h then ok s
  else
    let k := b.fetched.foldl Core.fetchBranch (s.core c)
    let rec_ := k.preds.find? (fun e => e.id == b.id)
    let bad : Bool := b.isReturn && (match rec_.bind (·.target) with
      | some t => t != b.target
      | none => false)
    let k1 : Core := { k with preds := k.preds.filter (fun e => if b.mispredicted then decide (e.id < b.id) else e.id != b.id),
                              ras := if bad then [] else k.ras,
                              ghist := match b.mispredicted, rec_ with
                                | true, some e => w64 (e.ghist.toNat * 2 + b.taken.toNat)
                                | _, _ => k.ghist }
    if b.mispredicted then ok (((s.setCore c k1).squash h (fun i => decide (b.id < i.id))).hartPump h) else ok (s.setCore c k1)

/-- INSTRUCTION_BOUND (R67, R69, R91): held requests are released, what it missed trains the prefetchers, its block and shadow entries are installed, and the exception it carries
may be raised. A held request of a UC load, which may allocate nothing, is cancelled and read anew. -/
def execInstructionBound (hb : BitVec 8) (id : Nat) (s : State) : Host.Outcome State Fault Refusal :=
  let h := hb.toNat
  let c := s.physCore h
  match (s.hart h).infl.find? (fun i => i.id == id) with
  | none => ok s
  | some i =>
    let s1 := s.modInfl h id (fun i => { i with spec := false, parts := i.parts.map (fun p => { p with missed := false }) })
    let s2 := i.parts.foldl (fun s p => if i.spec && p.missed then (s.usePf c p.sec).trainL2 c i.pc p.sec false p.etype else s) s1
    let s3 := (i.parts.filterMap (·.tag)).foldl (fun s t => match s.req (coreStop c) t with
      | some r =>
        if r.purp = .spec ∧ r.pkt.etype = 3 then
          ((s.setReq (coreStop c) t (some { r with purp := .cancel })).send { (s.corePacket c r.pkt.sec Opc.specCancel 0) with tag := BitVec.ofNat 12 t }).modHart h (fun x =>
            { x with infl := x.infl.map (fun j => { j with parts := j.parts.map (fun q => if q.tag = some t then { q with tag := none } else q) }) })
        else if r.purp = .spec then s.specReleased c t r .demand
        else s
      | none => s) s2
    let s4 := i.parts.foldl (fun s p => match s.openReq (coreStop c) (c % 2) p.sec with
      | some (t, r) => if r.unbound && r.purp == .demand then (s.setReq (coreStop c) t (some { r with unbound := false })).detect (coreStop c) (c % 2) r.pkt else s
      | none => s) s3
    ok ((if (s4.core c).l1i.contains i.isec || i.isec == 2 ^ 46 || s4.codePoison h i.isec || !s4.deferOn c || (s4.hart h).shadowD.any (fun e => e.code && e.sec == i.isec) then s4
         else s4.l1iFill c i.isec).hartPump h)

/-- Advance a 48-bit or 64-bit counter CSR unless mcountinhibit stops it. -/
def State.countCsr (s : State) (h csr n : Nat) : State :=
  let i := csr - 0xB00
  if bitsOf (s.csr h 0x320) i 1 = 1 then s else s.setCsr h csr (w64 ((s.csr h csr).toNat + n))

/-- INSTRUCTION_SQUASH (R66 to R68): its wrong-path events count where a counter's SPEC asks for them, and its wasted slot counts (R512, R514). (DESIGN CHOICE, assumption 24.) -/
def execInstructionSquash (hb : BitVec 8) (id : Nat) (events : List Nat) (s : State) : Host.Outcome State Fault Refusal :=
  let h := hb.toNat
  if (s.hart h).infl.any (fun i => i.id == id && !i.done) then
    let s1 := s.squash h (fun i => i.id == id && !i.done)
    ok ((events.foldl (fun s e => if e = 0x12 then s.hartEvent h e else s.specEvent h e) s1).hartPump h)
  else ok s

/-- The icount triggers of a hart count an instruction that retires; the first whose count ends fires before the next one (R34). -/
def State.icountRetire (s : State) (h : Nat) : State :=
  let on := (List.range 8).filter (fun i => s.icounts h i)
  let s1 := on.foldl (fun s i => s.setCsrBits h (trigKey i 1) 10 14 (bitsOf (s.csr h (trigKey i 1)) 10 14 - 1)) s
  match on.find? (fun i => bitsOf (s1.csr h (trigKey i 1)) 10 14 == 0) with
  | none => s1
  | some i => if bitsOf (s1.csr h (trigKey i 1)) 0 6 = 1 then s1.haltHart h 2 (s1.hart h).pc else s1.except h { cause := Exc.breakpoint } (s1.hart h).pc

/-- A hart that the debug module steps enters debug mode again after one instruction (R321). -/
def State.stepHalt (s : State) (h : Nat) : State :=
  if s.runs h && (s.csr h 0x7B0).getLsbD 2 then s.haltHart h 4 (s.hart h).pc else s

/-- INSTRUCTION_RETIRE (R60, R63): the oldest instruction leaves, the pc advances, the predictors train, and its events count. (DEDUCED, assumption 23.) -/
def execInstructionRetire (hb : BitVec 8) (r : Retire) (s : State) : Host.Outcome State Fault Refusal :=
  let h := hb.toNat
  let c := s.physCore h
  let ready : Bool := match r.id, (s.hart h).infl with
    | some id, i :: _ => i.id == id && i.done && !i.spec
    | some _, [] => false
    | none, _ => true
  if !s.runs h || !ready then ok s
  else
    let s0 := s.modHart h (fun x => { x with pc := r.next, wait := .run, infl := if r.id.isSome then x.infl.drop 1 else x.infl })
    let s1 := (match r.id, (s.hart h).infl with
      | some _, i :: _ => s0.selfModify h i
      | _, _ => s0).specBoundary c
    let s2 := match r.branch with
      | none => s1
      | some b => s1.modCore c (fun k =>
          { k with btb := if b.taken then (b.pc, b.target) :: k.btb.filter (fun e => e.1 != b.pc) else k.btb,
                   dirp := (b.pc, b.taken) :: k.dirp.filter (fun e => e.1 != b.pc),
                   indp := if b.indirect then (b.pc, b.target) :: k.indp.filter (fun e => e.1 != b.pc) else k.indp })
    ok ((((r.events.foldl (fun s e => s.hartEvent h e) (s2.countCsr h 0xB02 1)).icountRetire h).stepHalt h).hartPump h)

/-! ### Interrupts and returns -/

/-- Whether an interrupt file presents an identity: delivery on, and an enabled pending identity below the threshold. -/
def ImsicFile.presents (f : ImsicFile) : Bool :=
  let thr := f.threshold.toNat
  f.delivery == 1 && (List.range 256).any (fun i => decide (i ≠ 0) && f.pend.getLsbD i && f.en.getLsbD i && (thr == 0 || decide (i < thr)))

/-- A file of a hart. -/
def State.file (s : State) (h n : Nat) : ImsicFile := (s.hart h).imsic.get {} n

/-- The pending bit of an interrupt cause (R31, R34, R40, R46). -/
def State.irqPending (s : State) (h cause : Nat) : Bool :=
  let sw : Bool := bitsOf (s.csr h 0x344) cause 1 == 1
  let mt := s.mtime
  match cause with
  | 11 => (s.file h 0).presents
  | 9 => sw || (s.file h 1).presents
  | 6 => bitsOf (s.csr h 0x645) 6 1 == 1
      || (bitsOf (s.csr h 0x60A) 63 1 == 1 && decide ((s.csr h 0x24D).toNat ≤ (mt + (s.csr h 0x605).toNat) % 2 ^ 64))
  | 10 => bitsOf (s.csr h 0x645) 10 1 == 1
      || (let g := bitsOf (s.csr h 0x600) 12 6
          decide (1 ≤ g) && decide (g ≤ 7) && (s.file h (1 + g)).presents)
  | 12 => (List.range 8).any (fun g => decide (1 ≤ g) && bitsOf (s.csr h 0x607) g 1 == 1 && (s.file h (1 + g)).presents)
  | 2 => bitsOf (s.csr h 0x645) 2 1 == 1
  | _ => sw

/-- Whether an interrupt is pending, enabled and not masked at a hart (R31, R78). -/
def State.irqReady (s : State) (h cause : Nat) : Bool :=
  let x := s.hart h
  let del := bitsOf (s.csr h 0x303) cause 1 == 1
  let hdel := bitsOf (s.csr h 0x603) cause 1 == 1
  let open_ : Bool :=
    if !del then x.priv != .m || bitsOf (s.csr h 0x300) 3 1 == 1
    else if !hdel then x.priv != .m && (x.virt || x.priv == .u || bitsOf (s.csr h 0x300) 1 1 == 1)
    else x.virt && (x.priv == .u || bitsOf (s.csr h 0x200) 1 1 == 1)
  s.irqPending h cause && bitsOf (s.csr h 0x304) cause 1 == 1 && open_

/-- Take an interrupt with its triggers (R34, R77). -/
def State.takeIrq (s : State) (h cause : Nat) (epc : Word) : State :=
  ((s.specBoundary (s.physCore h)).trap h cause true 0 epc).trapFires h 4 cause (s.hart h)

/-- INTERRUPT_TAKEN (R77): at an instruction boundary; the oldest instruction is abandoned only as the table of R77 says, and otherwise completes first. The operand names the
case and the address that the state does not hold; a case that the hart is not in changes nothing. -/
def execInterruptTaken (hb : BitVec 8) (cause : BitVec 6) (o : Oldest) (s : State) : Host.Outcome State Fault Refusal :=
  let h := hb.toNat
  let x := s.hart h
  let c := cause.toNat
  if !s.runs h || !s.irqReady h c then ok s
  else match o, x.infl with
    | .wait next, [] => if x.wait = .run then ok s else ok (s.takeIrq h c next)
    | .fence, i :: _ => if (i.kind == .fence || i.kind == .fenceAx) && !i.complete then ok (s.takeIrq h c x.pc) else ok s
    | .fence, [] => if x.wait = .run then ok (s.takeIrq h c x.pc) else ok s
    | .vectorMem e, i :: _ =>
      -- the next element boundary: before an element that has not begun, or after one that is done
      let main : Bool := i.parts.all (fun p => p.etype != .io)
      let begun : Bool := i.parts.any (fun p => p.tag.isSome || p.val.isSome)
      if main && !i.spec && ((i.elt == some e && !begun && !i.done) || (i.elt.isSome && i.elt.map (· + 1) == some e && i.done)) then
        ok ((s.setCsr h 0x008 (w64 e)).takeIrq h c x.pc)
      else ok s
    | .other next, i :: _ => if i.spec || i.done then ok (s.takeIrq h c next) else ok s
    | .other next, [] => if x.wait = .run then ok (s.takeIrq h c next) else ok s
    | _, _ => ok s

/-- TRAP_RETURN (R31, R64): MRET, or SRET, with the traps of the hart's mode; the predictors are emptied when the mode or V changes. -/
def execTrapReturn (hb : BitVec 8) (m : Bool) (s : State) : Host.Outcome State Fault Refusal :=
  let h := hb.toNat
  let x := s.hart h
  let enc := if m then encMret else encSret
  if !s.alone h then ok s
  else if m then
    if x.priv ≠ .m then ok (s.illegal h x.virt enc)
    else
      let st := s.csr h 0x300
      let pp := Priv.ofCode (bitsOf st 11 2)
      let v : Bool := pp != .m && bitsOf st 39 1 == 1
      let st1 := putBits (putBits (putBits (putBits st 3 1 (bitsOf st 7 1)) 7 1 1) 11 2 0) 39 1 0
      let st2 := if pp = .m then st1 else putBits st1 17 1 0
      let s1 := (s.setCsr h 0x300 st2).modHart h (fun y => { y with priv := pp, virt := v, pc := s.csr h 0x341, wait := .run })
      if pp != .m || v then ok (s1.predFlush h) else ok s1
  else if x.virt ∧ (x.priv = .u ∨ bitsOf (s.csr h 0x600) 22 1 = 1) then ok (s.illegal h true enc)
  else if x.priv = .u ∨ (x.priv = .s ∧ x.virt = false ∧ bitsOf (s.csr h 0x300) 22 1 = 1) then ok (s.illegal h false enc)
  else if x.virt then
    let st := s.csr h 0x200
    let pp := Priv.ofCode (bitsOf st 8 1)
    let st1 := putBits (putBits (putBits st 1 1 (bitsOf st 5 1)) 5 1 1) 8 1 0
    let s1 := (s.setCsr h 0x200 st1).modHart h (fun y => { y with priv := pp, pc := s.csr h 0x241, wait := .run })
    if pp != .s then ok (s1.predFlush h) else ok s1
  else
    let st := s.csr h 0x300
    let hs := s.csr h 0x600
    let pp := Priv.ofCode (bitsOf st 8 1)
    let v : Bool := bitsOf hs 7 1 == 1
    let st1 := putBits (putBits (putBits (putBits st 1 1 (bitsOf st 5 1)) 5 1 1) 8 1 0) 17 1 0
    let s1 := ((s.setCsr h 0x300 st1).setCsr h 0x600 (putBits hs 7 1 0)).modHart h
      (fun y => { y with priv := pp, virt := v, pc := s.csr h 0x141, wait := .run })
    if pp != x.priv || v then ok (s1.predFlush h) else ok s1

/-! ### Doorbells and PX.FENCE.AX -/

/-- The exception of an Xpxbell instruction: a word outside R49, or a mode that may not execute it (R54). -/
def State.bellTrap (s : State) (h : Nat) (enc : BitVec 32) (f3 : Nat) : Option Bool :=
  let x := s.hart h
  let w := enc.toNat
  let fields : Bool := w % 128 == 0x0B && w / 2 ^ 12 % 8 == f3 && w / 2 ^ 25 == 0 && (f3 == 0 || w / 2 ^ 15 % 1024 == 0)
  let cfg := s.csr h 0x7C0
  if !fields then some false
  else if x.virt then some true
  else if x.priv = .m ∨ (x.priv = .s ∧ bitsOf cfg 0 1 = 1) ∨ (x.priv = .u ∧ bitsOf cfg 0 1 = 1 ∧ bitsOf cfg 1 1 = 1) then none
  else some false

/-- PX_BELL_SEND (R50, R51, R54): the doorbell leaves when the instruction is the oldest, bound, and after every earlier access. -/
def execPxBellSend (hb : BitVec 8) (id : Nat) (rd : BitVec 5) (rs1 rs2 : Word) (enc : BitVec 32) (s : State) : Host.Outcome State Fault Refusal :=
  let h := hb.toNat
  if !s.runs h then ok s
  else match s.bellTrap h enc 0 with
    | some v => ok (s.illegal h v enc.toNat)
    | none => ok ((s.launch h (plainInfl id .bellSend (s.hart h).pc (.x rd.toNat) rs1 rs2)).hartPump h)

/-- The status of a doorbell at its target stop, in the order 4, 2, 3, 1 of R50. -/
def State.bellStatus (s : State) (b : BellMsg) : Nat :=
  let t := b.target % 256
  if b.badBits ∨ t = b.sender then 4
  else if s.getF F.wldBellPairs_targets 0 (b.wid % 64) / 2 ^ (b.targetWid % 64) % 2 = 0 ∨ s.seat t ≠ b.targetWid then 2
  else if s.isF F.wldSeat_lending 0 t then 3
  else if 16 ≤ (s.hart t).inbox.length then 1
  else 0

/-- DOORBELL_ARRIVAL (R50, R53, R54). -/
def execDoorbellArrival (b : BellMsg) (s : State) : Host.Outcome State Fault Refusal :=
  let t := b.target % 256
  let st := s.bellStatus b
  let s1 := { s with bells := s.bells.erase b, bellRet := s.bellRet ++ [(b.sender, st)] }
  if st = 0 then
    let s2 := s1.modHart t (fun x => { x with inbox := x.inbox ++ [{ wid := b.wid, hart := b.sender, payload := b.payload }] })
    let cfg := s.csr t 0x7C0
    ok (s2.setIrq t (bitsOf cfg 2 1) (bitsOf cfg 8 8))
  else ok s1

/-- PX_BELL_SEND_STATUS (R51): the send completes with the target stop's status in rd. -/
def execPxBellSendStatus (hb : BitVec 8) (status : BitVec 3) (s : State) : Host.Outcome State Fault Refusal :=
  let h := hb.toNat
  let s1 := { s with bellRet := s.bellRet.erase (h, status.toNat) }
  match (s1.hart h).infl.find? (fun i => i.kind == .bellSend && i.sent && !i.complete) with
  | some i => ok ((s1.finish h i.id status.toNat).hartPump h)
  | none => ok s1

/-- PX_BELL_RECV (R52): the payload of the head, which is removed; 0 from an empty inbox. -/
def execPxBellRecv (hb : BitVec 8) (rd : BitVec 5) (enc : BitVec 32) (s : State) : Host.Outcome State Fault Refusal :=
  let h := hb.toNat
  if !s.alone h then ok s
  else match s.bellTrap h enc 1 with
    | some v => ok (s.illegal h v enc.toNat)
    | none => ok (s.modHart h (fun x => { (x.setX rd.toNat (match x.inbox with
        | d :: _ => d.payload
        | [] => 0)) with inbox := x.inbox.drop 1 }))

/-- The head descriptor of R52. -/
def bellHead (q : List Doorbell) : Word :=
  match q with
  | [] => 0
  | d :: _ => w64 (1 + d.wid % 64 * 2 ^ 8 + d.hart % 256 * 2 ^ 16 + q.length % 32 * 2 ^ 32)

/-- PX_BELL_PEEK (R52). -/
def execPxBellPeek (hb : BitVec 8) (rd : BitVec 5) (enc : BitVec 32) (s : State) : Host.Outcome State Fault Refusal :=
  let h := hb.toNat
  if !s.alone h then ok s
  else match s.bellTrap h enc 2 with
    | some v => ok (s.illegal h v enc.toNat)
    | none => ok (s.modHart h (fun x => x.setX rd.toNat (bellHead x.inbox)))

/-- Whether a word is PX.FENCE.AX: custom-1 with funct7, funct3 and rs2 all 0; any other encoding of custom-1 is illegal (R56). -/
def fenceAxEnc (enc : BitVec 32) : Bool := enc.toNat % 128 == 0x2B && enc.toNat / 2 ^ 12 % 8 == 0 && enc.toNat / 2 ^ 20 == 0

/-- The rd field of an encoding. -/
def encRd (enc : BitVec 32) : Nat := enc.toNat / 2 ^ 7 % 32

/-- PX_FENCE_AX (R56, R57): executable in every mode; the probes leave once every earlier access is performed. -/
def execPxFenceAx (hb : BitVec 8) (id : Nat) (enc : BitVec 32) (rs1 : Word) (s : State) : Host.Outcome State Fault Refusal :=
  let h := hb.toNat
  if !s.runs h then ok s
  else if !fenceAxEnc enc then (if s.alone h then ok (s.illegal h false enc.toNat) else ok s)
  else ok ((s.launch h (plainInfl id .fenceAx (s.hart h).pc (.x (encRd enc)) rs1 0)).hartPump h)

/-- A fence probe's answer (R57, R58): FAILED sets the port's bit, a dead port sets none; with the last answer the fence completes. -/
def State.probeAnswer (s : State) (h k : Nat) (failed : Bool) : State :=
  match (s.hart h).fence with
  | none => s
  | some f =>
    if !f.probed then s
    else
      let bit : BitVec 6 := 1 <<< k
      let f1 := { f with waiting := f.waiting &&& ~~~bit, failed := if failed then f.failed ||| bit else f.failed }
      if f1.waiting = 0 then
        let r := f1.failed ||| (s.hart h).axErr
        ((s.modHart h (fun x => { x with fence := none, axErr := 0 })).finish h f.id r.toNat).hartPump h
      else s.modHart h (fun x => { x with fence := some f1 })

/-- PX_FENCE_AX_COMPLETE (R58). R58 and R541 name the answers FAILED and TARGET_DEAD alone; a probe that any other error answers counts as failed. (DESIGN CHOICE, assumption 114.) -/
def execPxFenceAxComplete (hb : BitVec 8) (port : Fin 6) (ans : ProbeAns) (s : State) : Host.Outcome State Fault Refusal :=
  match ans with
  | .done f => ok (s.probeAnswer hb.toNat port.val f)
  | .dead => ok (s.probeAnswer hb.toNat port.val false)
  | .error => ok (s.probeAnswer hb.toNat port.val true)

end Sys2Proof.Machine
end

