-- ==== Sys2Proof/Machine/MemSteps.lean ====
section
/-! DEFINITION. The commands that reach a memory port: reads and writes (R268), patrol scrub (R272), lane retirement (R275, R276), training (R280, R281), refresh and
self-refresh (R282, R283), mirroring (R277 to R279). -/
namespace Sys2Proof.Machine

/-- The port a packet reaches. -/
def mpOf (p : Packet) : Nat := (stopMp p.dstN).getD (interleave (p.gran % 2 ^ 33)).1

/-- A memory port's answer to the home that asked; the agent at a home's stop is endpoint 2 (R198). -/
def memAnswer (p : Packet) (op : BitVec 8) (attr : BitVec 16) : Packet := { answer p p.dstN op attr with endpoint := 2 }

/-- A MemRead at a memory port. -/
def State.memReadAt (s : State) (p : Packet) (re : ReadErr) : State :=
  let r := s.portRead (mpOf p) p.gran p.widN true re
  match r.1 with
  | .data d0 d1 p0 p1 => r.2.send { memAnswer p Opc.memData 0 with address := 0, payload := d0, poison := p0, payload2 := d1, poison2 := p1 }
  | .err code => r.2.send (memAnswer p Opc.errResp (errAttr code Origin.memPort))

/-- MEM_READ (R268, R269, R273, R304). -/
def execMemRead (p : Packet) (re : ReadErr) (s : State) : Host.Outcome State Fault Refusal := ok (s.receive p (fun s => s.memReadAt p re))

/-- The mask, data and poison of a write's data packet (R205, R215). -/
def dataOf (q : Packet) : BitVec 64 × Sector × Bool :=
  if q.opcode = Opc.writeDataMasked then (q.mask, q.payload2, q.poison2) else (fullMask, q.payload, q.poison)

/-- What a MemWrite and its data packets carry: the carried sectors in order (R209). -/
def wdataOf (p q0 q1 : Packet) : WData :=
  let a := dataOf q0
  let b := if p.s0 then dataOf q1 else a
  { s0 := p.s0, s1 := p.s1, d0 := a.2.1, m0 := a.1, p0 := a.2.2, d1 := b.2.1, m1 := b.1, p1 := b.2.2 }

/-- A MemWrite at a memory port. -/
def State.memWriteAt (s : State) (p q0 q1 : Packet) (re : ReadErr) : State :=
  let r := s.portWrite (mpOf p) p.gran p.widN p.victim (wdataOf p q0 q1) re
  match r.1 with
  | none => r.2.send (memAnswer p Opc.memAck 0)
  | some code => r.2.send (memAnswer p Opc.errResp (errAttr code Origin.memPort))

/-- MEM_WRITE (R268, R271, R304): MemAck once performed, or the error. -/
def execMemWrite (p q0 q1 : Packet) (re : ReadErr) (s : State) : Host.Outcome State Fault Refusal := ok (s.receiveWrite p q0 q1 (fun s => s.memWriteAt p q0 q1 re))

/-- PATROL_SCRUB_READ (R272, R273): the next granule is decoded; a damaged one is rewritten, poisoned where it is uncorrectable; the walk moves on. -/
def execPatrolScrubRead (mp : Fin 12) (re : ReadErr) (s : State) : Host.Outcome State Fault Refusal :=
  let k := mp.val
  if !s.isF F.mpScrubCtrl_patrolEn k 0 || !s.mpServes k then ok s
  else
    let d := s.mpGranules k
    let loc := s.getF F.mpScrubStatus_position k 0
    let gran := deinterleave k loc
    let own : Bool := decide (loc < d - s.mpMirror k)
    let s1 := (s.pmu .mp k 0x309 1 {}).countDecode k gran loc re 0
    let s2 := match (s.decode k loc re).1 with
      | .lost => if own then s1.setGranule gran (s1.sealed ((s1.sealDeed (gran / 32)).getD defaultDeed) 0 0 true true) else s1
      | _ => s1
    if loc + 1 < d then ok (s2.setF F.mpScrubStatus_position k 0 (loc + 1))
    else ok ((s2.setF F.mpScrubStatus_position k 0 0).incSat F.mpScrubStatus_passes k 0)

/-- Whether a write of MP_LANE_RETIRE only adds entries and names no lane twice (R287). -/
def retireOk (old new : Word) : Bool :=
  let v (w : Word) (i : Nat) : Bool := bitsOf w (8 * i + 7) 1 == 1
  let l (w : Word) (i : Nat) : Nat := bitsOf w (8 * i) 6
  (List.range 4).all (fun i => !v old i || (v new i && l new i == l old i))
    && (List.range 4).all (fun i => (List.range 4).all (fun j => i == j || !v new i || !v new j || l new i != l new j))

/-- Set a port's retirement entries and their count (R276). -/
def State.setRetire (s : State) (k : Nat) (v : Word) : State :=
  let s1 := s.writeReg .mpLaneRetire k 0 v allBytes
  s1.setF F.mpStatus_retired k 0 (s1.retiredLanes k).length

/-- Start training (R280, R285): step 1 checks MP_CFG against R259 and R277: a population of R259, the same in all 12 ports, with the same MIRROR_GROUPS. -/
def State.trainStart (s : State) (k : Nat) : State :=
  let st := s.getF F.mpStatus_trainState k 0
  if st ≠ 0 ∧ st ≠ 10 then s.setF F.mpStatus_reject k 0 1
  else
    match mpGroups (s.getF F.mpCfg_density k 0) (s.isF F.mpCfg_clamshell k 0) with
    | none => (s.setF F.mpStatus_trainState k 0 10).setF F.mpStatus_failStep k 0 1
    | some g =>
      let same (f : Fld) : Bool := (List.range 12).all (fun j => s.getF f j 0 == s.getF f k 0)
      if g / 2 < s.getF F.mpCfg_mirrorGroups k 0 ∨ ¬(same F.mpCfg_density && same F.mpCfg_clamshell && same F.mpCfg_mirrorGroups) = true then
        (s.setF F.mpStatus_trainState k 0 10).setF F.mpStatus_failStep k 0 1
      else { s.setF F.mpStatus_trainState k 0 1 with mps := s.mps.set {} k { s.mps.get {} k with retried := false, started := s.mtime } }

/-- MP_TRAIN_START (R280, R285). -/
def execMpTrainStart (w : Issuer) (mp : Fin 12) (s : State) : Host.Outcome State Fault Refusal :=
  s.keeperAt w .mp mp.val (fun s => s.trainStart mp.val)

/-- TRAIN_STATE of a sequence that has run for a number of milliseconds: steps 2 to 9 of R280, each to its bound. -/
def trainStage (ms : Nat) : Nat :=
  if ms < 5 then 1 else if ms < 50 then 2 else if ms < 100 then 3 else if ms < 300 then 4 else if ms < 500 then 5 else if ms < 600 then 6 else if ms < 650 then 7 else 8

/-- TRAIN_STATE of every port in training follows the time that its sequence has run (R280, R286). (DESIGN CHOICE, assumption 131.) -/
def State.trainTick (s : State) : State :=
  (List.range 12).foldl (fun (s : State) (k : Nat) =>
    let st := s.getF F.mpStatus_trainState k 0
    if 1 ≤ st ∧ st ≤ 8 then s.setF F.mpStatus_trainState k 0 (trainStage ((s.mtime - (s.mps.get {} k).started) / 100000)) else s) s

/-- Add retirement entries for failing pins; none where more than four lanes would be retired (R275, R280). -/
def addRetire (old : Word) (pins : List Nat) : Option Word :=
  pins.foldl (fun acc p => match acc with
    | none => none
    | some w =>
      if (List.range 4).any (fun i => bitsOf w (8 * i + 7) 1 == 1 && bitsOf w (8 * i) 6 == p % 64) then some w
      else match (List.range 4).find? (fun i => bitsOf w (8 * i + 7) 1 == 0) with
        | some i => some (putBits (putBits w (8 * i) 6 p) (8 * i + 7) 1 1)
        | none => none) (some old)

/-- The partner port (R277). -/
def mpPartner (k : Nat) : Nat := if k % 2 = 0 then k + 1 else k - 1

/-- When all twelve ports are trained, LOCAL_TOP takes its trained value everywhere (R262, R277, R280). -/
def State.publishTop (s : State) : State :=
  if (List.range 12).all (fun k => s.getF F.mpStatus_trainState k 0 == 9) then
    let d := s.mpGranules 0
    let m := s.mpMirror 0
    (List.range 12).foldl (fun s k => s.setF F.mpLocalTop_top k 0 (1536 * (d - m))) s
  else s

/-- Training succeeds (R280): the retirements of failing pins, blank granules, the marginalia cache written back, TRAINED. -/
def State.trained (s : State) (k : Nat) (retire : Word) : State :=
  let g := (mpGroups (s.getF F.mpCfg_density k 0) (s.isF F.mpCfg_clamshell k 0)).getD 0
  let s1 := s.setRetire k retire
  let mem := s1.mem.filter (fun e => isDepo e.1 || (interleave (e.1 % 2 ^ 33)).1 != k)
  let s2 : State := { s1 with mem := mem, mps := s1.mps.set {} k { s1.mps.get {} k with mcache := [], retried := false, refreshMs := 32 } }
  let s3 : State := ((s2.setF F.mpStatus_trainState k 0 9).setF F.mpStatus_failStep k 0 0).setF F.mpStatus_groups k 0 g
  let pr := mpPartner k
  let s4 := if 0 < s3.getF F.mpCfg_mirrorGroups k 0 ∧ s3.getF F.mpStatus_trainState pr 0 = 9 then
      (s3.setF F.mpStatus_mirrorLinkUp k 0 1).setF F.mpStatus_mirrorLinkUp pr 0 1 else s3
  s4.publishTop

/-- REFRESH_DUE (R282): a per-bank refresh is issued. -/
def execRefreshDue (mp : Fin 12) (bank : Fin 16) (s : State) : Host.Outcome State Fault Refusal :=
  let m := s.mps.get {} mp.val
  if s.mpServes mp.val then ok { s with mps := s.mps.set {} mp.val { m with refreshes := m.refreshes + 1, lastBank := bank.val } } else ok s

/-- MP_TEMPERATURE_POLL (R282): the refresh interval follows the temperature; above 95 °C a thermal event is recorded. -/
def execMpTemperaturePoll (mp : Fin 12) (temp : Nat) (s : State) : Host.Outcome State Fault Refusal :=
  let m := s.mps.get {} mp.val
  let s1 := { s with mps := s.mps.set {} mp.val { m with refreshMs := if temp ≤ 85 then 32 else 16, hot := decide (95 < temp) } }
  if 95 < temp ∧ m.hot = false then ok (s1.record Ev.mpEvent (srcMp mp.val 0) (w64 mp.val) 3) else ok s1

/-- Put a trained port into self-refresh (R283): its marginalia cache is written back and left empty. -/
def State.selfRefresh (s : State) (k : Nat) : State :=
  if s.mpServes k then
    { s.setF F.mpStatus_trainState k 0 11 with mps := s.mps.set {} k { s.mps.get {} k with mcache := [] } }
  else s

/-- Leave self-refresh (R283): no training runs, and the marginalia cache starts empty. -/
def State.selfRefreshExit (s : State) (k : Nat) : State :=
  if s.getF F.mpStatus_trainState k 0 = 11 then s.setF F.mpStatus_trainState k 0 9 else s

/-- SELF_REFRESH_ENTER (R283). -/
def execSelfRefreshEnter (mp : Fin 12) (s : State) : Host.Outcome State Fault Refusal := ok (s.selfRefresh mp.val)
/-- SELF_REFRESH_EXIT (R283). -/
def execSelfRefreshExit (mp : Fin 12) (s : State) : Host.Outcome State Fault Refusal := ok (s.selfRefreshExit mp.val)

/-- MIRROR_LINK_DOWN (R279): the port serves its mirrored range from its own copy and records the event. -/
def execMirrorLinkDown (mp : Fin 12) (s : State) : Host.Outcome State Fault Refusal :=
  let k := mp.val
  if s.isF F.mpStatus_mirrorLinkUp k 0 then
    let m := s.mps.get {} k
    let s1 := { s.setF F.mpStatus_mirrorLinkUp k 0 0 with mps := s.mps.set {} k { m with resync := false } }
    ok (s1.record Ev.mpEvent (srcMp k 0) (w64 k) 1)
  else ok s

/-- MIRROR_LINK_RETURN (R279): the copy of the whole mirrored range to the partner starts. -/
def execMirrorLinkReturn (mp : Fin 12) (s : State) : Host.Outcome State Fault Refusal :=
  let m := s.mps.get {} mp.val
  if s.mpMirror mp.val = 0 ∨ s.isF F.mpStatus_mirrorLinkUp mp.val 0 = true then ok s
  else ok { s with mps := s.mps.set {} mp.val { m with resync := true } }

/-- MIRROR_RESYNC_DONE (R279): MIRROR_LINK_UP is set again. -/
def execMirrorResyncDone (mp : Fin 12) (s : State) : Host.Outcome State Fault Refusal :=
  let m := s.mps.get {} mp.val
  if m.resync then
    let s1 := { s.setF F.mpStatus_mirrorLinkUp mp.val 0 1 with mps := s.mps.set {} mp.val { m with resync := false } }
    ok (s1.record Ev.mpEvent (srcMp mp.val 0) (w64 mp.val) 2)
  else ok s

end Sys2Proof.Machine
end

