-- ==== Sys2Proof/Machine/AgentSteps.lean ====
section
/-! DEFINITION. What arrives at a requester or a holder: snoops (R125, R148, R150), hold windows (R152), data and grants (R120, R124), completions, data pulls (R121),
retries (R156) and errors (R214), at the cores, the home slices and the annex gates. -/
namespace Sys2Proof.Machine

/-! ### Snoops -/

/-- A snoop reaches a core or a gate (R125, R148, R150, R152, R235). -/
def State.snooped (s : State) (k : Snoop) (p : Packet) : State :=
  match agentId p.dstN p.epN with
  | none => s
  | some a =>
    if a < 272 then
      if (s.core a).flushed then s.send (snpEmpty p false)
      else if (s.core a).dead then s.send (snpEmpty p true)
      else if s.windowOpen a p.sec then
        let s1 := s.modCore a (fun c => { c with windows := c.windows.map (fun w => if w.sec = p.sec then { w with held := w.held ++ [p] } else w) })
        match s1.hartOf a with
        | some h => s1.hartEvent h 0x23
        | none => s1
      else (s.coreSnoop a k p).corePump a
    else s.gateSnoop ((a - 272) / 16) p

/-- A snoop arrives. -/
def State.snoopArrive (s : State) (k : Snoop) (op : BitVec 8) (p : Packet) : State := s.receive p (fun s => s.snooped k { p with opcode := op })

/-- SNP_SHARED (R116, R125). -/
def execSnpShared (p : Packet) (s : State) : Host.Outcome State Fault Refusal := ok (s.snoopArrive .shared Opc.snpShared p)
/-- SNP_UNIQUE (R116, R125). -/
def execSnpUnique (p : Packet) (s : State) : Host.Outcome State Fault Refusal := ok (s.snoopArrive .unique Opc.snpUnique p)
/-- SNP_UNIQUE_TO_HOME (R116, R125). -/
def execSnpUniqueToHome (p : Packet) (s : State) : Host.Outcome State Fault Refusal := ok (s.snoopArrive .toHome Opc.snpUniqueHome p)
/-- SNP_INVALIDATE (R116, R125). -/
def execSnpInvalidate (p : Packet) (s : State) : Host.Outcome State Fault Refusal := ok (s.snoopArrive .inv Opc.snpInvalidate p)
/-- SNP_CLEAN (R116, R125). -/
def execSnpClean (p : Packet) (s : State) : Host.Outcome State Fault Refusal := ok (s.snoopArrive .clean Opc.snpClean p)

/-- HOLD_WINDOW_CLOSE (R152): WINDOW cycles have elapsed; the held snoops are answered in arrival order. -/
def execHoldWindowClose (core : Fin 272) (sec : BitVec 46) (s : State) : Host.Outcome State Fault Refusal :=
  ok ((s.closeWindow core.val sec.toNat).corePump core.val)

/-! ### Instructions that a response concerns -/

/-- The hart on a core changed. -/
def State.onCore (s : State) (c : Nat) (f : State → Nat → State) : State :=
  match s.hartOf c with
  | some h => f s h
  | none => s

/-- Every part of the hart's instructions in flight that waits for a tag takes a sector's data. -/
def State.takeParts (s : State) (h tag : Nat) (d : Sector) (po : Bool) : State :=
  s.modHart h (fun x => { x with infl := x.infl.map (fun i => { i with parts := i.parts.map (fun q => if q.tag = some tag then q.take d po else q) }) })

/-- Parts that waited for a tag wait for their sector instead. -/
def State.clearTag (s : State) (h tag : Nat) : State :=
  s.modHart h (fun x => { x with infl := x.infl.map (fun i => { i with parts := i.parts.map (fun q => if q.tag = some tag then { q with tag := none } else q) }) })

/-- The identities of the instructions in flight with a part under a tag. -/
def Hart.usersOf (x : Hart) (tag : Nat) : List Nat := (x.infl.filter (fun i => i.parts.any (fun q => q.tag == some tag))).map (·.id)

/-- The instruction in flight with a part under a tag. -/
def State.taggedInfl (s : State) (h tag : Nat) : Option Infl := (s.hart h).infl.find? (fun i => i.parts.any (fun q => q.tag == some tag))

/-! ### Grants (R120, R124) -/

/-- CompAck for a grant; it frees the tag (R120, R199). -/
def State.ackGrant (s : State) (st : Nat) (r : Req) : State :=
  (s.setReq st r.pkt.tagN none).send
    { opcode := Opc.compAck, tag := r.pkt.tag, wid := r.pkt.wid, src := BitVec.ofNat 8 st, dst := r.pkt.dst, endpoint := 2, address := r.pkt.address }

/-- What a grant brings goes where its purpose says (R67, R69, R91, R96): a prefetch stops at the L2, a fetched block reaches the L1I unless it is poisoned, and prefetch.w leaves its
sector in M. -/
def State.placeGrant (s : State) (c : Nat) (r : Req) (g : Nat) (d : Sector) (po : Bool) : State :=
  let sec := r.pkt.sec
  let s1 := s.l2Fill c sec g d po
  match r.purp with
  | .prefetch => s1
  | .fetch => if po then s1 else s1.l1iFill c sec
  | .install => s1
  | .own =>
    let s2 := s1.l1dFill c sec
    if r.pkt.opcode != Opc.readShared && (s2.cline c sec).st.writable then s2.setCline c sec { s2.cline c sec with st := .m } else s2
  | _ => s1.l1dFill c sec

/-- An entry of the shadow buffer whose install has been answered: it is compared, and its block is placed (R69, R90). -/
def State.installed (s : State) (h c sec : Nat) (d : Sector) (keep : Bool) : State :=
  (((s.hart h).shadowD.filter (fun e => e.sec == sec && e.installing)).foldl (fun (s : State) (e : ShadowData) =>
    let s1 := s.shadowCompare h e d
    if !keep then s1 else if e.code then (if (s1.cline c sec).poison then s1 else s1.l1iFill c sec).prefetchNext c sec else s1.l1dFill c sec) s)

/-- A core holds both data and grant: the copy is installed, CompAck is sent, a hold window may open, and what waited goes on (R120, R124, R152). -/
def State.coreGrant (s : State) (c : Nat) (r : Req) (g : Nat) (d : Sector) (po : Bool) : State :=
  let sec := r.pkt.sec
  let s1 := (s.ackGrant (coreStop c) r).placeGrant c r g d po
  let s2 := s1.onCore c (fun s h => (s.clearTag h r.pkt.tagN).installed h c sec d true)
  let lr : Bool := match s2.hartOf c with
    | some h => (s2.hart h).lrWaits sec
    | none => false
  let s3 := if 2 ≤ g then s2.openWindow c sec lr else s2
  (s3.corePump c).windowsCheck c

/-- A speculative request is answered from the LLC (R67, R122): its data goes to the shadow buffer, for the loads that wait or for fetch. -/
def State.specData (s : State) (c : Nat) (r : Req) (d : Sector) (po : Bool) : State :=
  let t := r.pkt.tagN
  let code : Bool := r.purp == .fetch
  let s1 := s.setReq (coreStop c) t none
  let s2 := s1.onCore c (fun s h =>
    let us := (s.hart h).usersOf t
    (s.takeParts h t d po).modHart h (fun x =>
      if us.isEmpty && !code then x
      else { x with shadowD := x.shadowD.filter (fun e => e.sec != r.pkt.sec || e.code != code)
                      ++ [{ sec := r.pkt.sec, data := d, poison := po, fromLlc := true, users := us, code := code }] }))
  let s3 := if (s2.cline c r.pkt.sec).st = .isD then s2.setCline c r.pkt.sec {} else s2
  s3.corePump c

/-- Data arrives at a core: CompData, or DataFwd with `fwd` (R120, R122, R124, R131). A cancelled request keeps its tag until the Comp of its SpecCancel (R218); for a dead core its interface
acknowledges what grants (R150). -/
def State.coreData (s : State) (c : Nat) (r : Req) (g : Nat) (fwd : Bool) (d : Sector) (po : Bool) : State :=
  let st := coreStop c
  let t := r.pkt.tagN
  let half : Bool := fwd && r.pkt.opcode != Opc.readShared
  if (s.core c).dead then
    (if g = 0 then (if r.purp = .cancel then s else s.setReq st t none)
     else if half && !r.backing then s.setReq st t (some { r with backing := true, retries := 0 }) else s.ackGrant st r)
  else match r.purp with
    | .cancel => if g = 0 then s else s.ackGrant st r
    | .atomic =>
      let s1 := (s.setReq st t none).l1iDrop c r.pkt.sec
      (s1.onCore c (fun s h => match s.taggedInfl h t with
        | some i =>
          (match i.parts.head? with
            | some q => if po then (s.clearTag h t).poisonFault h i q.sec i.va else (s.clearTag h t).finish h i.id (sectorBytes d q.off q.len)
            | none => s)
        | none => s)).corePump c
    | .once => ((s.setReq st t none).onCore c (fun s h => s.takeParts h t d po)).corePump c
    | _ =>
      if g = 0 then
        (if r.purp = .install then ((s.setReq st t none).onCore c (fun s h => s.installed h c r.pkt.sec d false)).corePump c else s.specData c r d po)
      else if half then
        let l := s.cline c r.pkt.sec
        if r.backing then s.coreGrant c r g d po
        else (s.setCline c r.pkt.sec { l with data := d, poison := po, fwd := some g }).setReq st t (some { r with backing := true, retries := 0 })
      else s.coreGrant c r g d po

/-- DATA_FWD (R116, R117, R120). -/
def execDataFwd (p : Packet) (s : State) : Host.Outcome State Fault Refusal :=
  ok (s.receive p (fun s => match stopAx p.dstN with
    | some k => s.gateResponse k p
    | none =>
      match stopTile p.dstN, s.req p.dstN p.tagN with
      | some t, some r => if r.ep < 2 then s.coreData (2 * t + r.ep) r p.dataGrant true p.payload p.poison else s
      | _, _ => s))

/-! ### Completions -/

/-- The oldest retired store leaves the store queue when its request is complete (R60). -/
def State.storeDone (s : State) (h tag : Nat) : State :=
  match (s.hart h).sq with
  | e :: _ => if e.tag = some tag then s.storeGone h e.sec else s
  | [] => s

/-- The instruction in flight that waits for a tag completes without a value. -/
def State.tagDone (s : State) (h tag : Nat) : State :=
  match s.taggedInfl h tag with
  | some i => (s.clearTag h tag).finish h i.id 0
  | none => s

/-- Comp at a core (R117, R120, R124, R128, R129); for a dead core its interface acknowledges a grant and frees the tag (R150). -/
def State.coreComp (s : State) (c : Nat) (r : Req) (grant : Nat) : State :=
  let st := coreStop c
  let t := r.pkt.tagN
  let sec := r.pkt.sec
  let l := s.cline c sec
  let op := r.pkt.opcode
  if (s.core c).dead then
    (if op == Opc.cleanUnique && grant == 3 then s.ackGrant st r
     else if op == Opc.readUnique || op == Opc.cleanUnique then
       (if r.backing then s.ackGrant st r else s.setReq st t (some { r with backing := true, retries := 0 }))
     else s.setReq st t none)
  else if op == Opc.cleanUnique && l.st != .imD then s.coreGrant c r 3 l.data l.poison
  else if op == Opc.readUnique || op == Opc.cleanUnique then
    match l.fwd with
    | some g => s.coreGrant c r g l.data l.poison
    | none => s.setReq st t (some { r with backing := true, retries := 0 })
  else
    let s1 := s.setReq st t none
    let s2 := if r.purp = .writeback then (if l.st = .iP ∨ l.st = .miP ∨ l.st = .oiP then s1.setCline c sec {} else s1)
      else if op == Opc.writePartial || op == Opc.writeInvFull then s1.l1iDrop c sec else s1
    (s2.onCore c (fun s h => if r.purp = .cancel ∨ r.purp = .prefetch ∨ r.purp = .writeback then s else (s.storeDone h t).tagDone h t)).corePump c

/-! ### Data pulls (R121) -/

/-- The write data of a writer: whole, or under its mask with the atomic operation (R205, R215). -/
def pullData (st : Nat) (r : Req) (d : Sector) (po : Bool) : Packet :=
  let masked : Bool := r.pkt.opcode == Opc.writePartial
  let q : Packet := { opcode := if masked then Opc.writeDataMasked else Opc.writeData, tag := r.pkt.tag, wid := r.pkt.wid, src := BitVec.ofNat 8 st,
                      dst := r.pkt.dst, endpoint := 2, address := r.pkt.address }
  if masked then { q with payload := BitVec.ofNat 512 (r.mask.toNat + r.aop % 16 * 2 ^ 64), payload2 := d, poison2 := po }
  else { q with payload := d, poison := po }

/-- DataPull at a core: a write-back sends the sector and its tag is free; with KEEP the copy stays in E from MI_P and S from OI_P (R124, R128, R199). For a dead core its interface sends
poisoned zeros, or nothing under an empty mask (R150). -/
def State.corePull (s : State) (c : Nat) (r : Req) : State :=
  let st := coreStop c
  let sec := r.pkt.sec
  let l := s.cline c sec
  let wb : Bool := r.pkt.opcode == Opc.writeBackDirty || r.pkt.opcode == Opc.writeBackOwned
  if (s.core c).dead then
    (let s1 := s.send (deadData st r.pkt)
     if wb then s1.setReq st r.pkt.tagN none else s1)
  else if wb then
    let next : CLine := if l.keep then { l with st := if l.st = .miP then .e else .s, keep := false } else {}
    ((((s.setReq st r.pkt.tagN none).send (pullData st r l.data l.poison)).setCline c sec next).corePump c)
  else (s.setReq st r.pkt.tagN (some { r with retries := 0, backing := false })).send (pullData st r r.data r.poison)

/-- DATA_PULL (R117, R121). -/
def execDataPull (p : Packet) (s : State) : Host.Outcome State Fault Refusal :=
  ok (s.receive p (fun s => match s.req p.dstN p.tagN with
    | none => s
    | some r =>
      let write : State := (s.setReq p.dstN p.tagN (some { r with retries := 0 })).send (pullData p.dstN r r.data r.poison)
      if r.purp = .engine then write
      else match stopAx p.dstN, stopTile p.dstN with
        | some k, _ => s.gateResponse k p
        | none, some t => if r.ep < 2 then s.corePull (2 * t + r.ep) r else write
        | none, none => write))

/-! ### Retry (R122, R156) -/

/-- Retry at a core's speculative request: its instructions wait until they are bound. The table of R199 names no point at which its tag is freed; it is free when Retry arrives, since the request
that follows has a new one (R122, R218). (DESIGN CHOICE, assumption 124.) -/
def State.specRetried (s : State) (c : Nat) (r : Req) : State :=
  let t := r.pkt.tagN
  let s1 := s.setReq (coreStop c) t none
  (s1.onCore c (fun s h => s.modHart h (fun x =>
    { x with fetchRetry := if r.purp == .fetch then x.fetchRetry ++ [r.pkt.sec] else x.fetchRetry,
             infl := x.infl.map (fun i => { i with parts := i.parts.map (fun q => if q.tag = some t then { q with tag := none, specRetry := i.spec } else q) }) }))).corePump c

/-- Retry at a requester (R156): the request waits out its backoff and goes again with its tag, one at a time per home and slot. A request that its core has released meanwhile is an ordinary
one, whether the home had taken the release or not (R122, R218); one that its core has cancelled waits for the Comp of its SpecCancel. -/
def State.retried (s : State) (st : Nat) (r : Req) : State :=
  let c := 2 * (stopTile st).getD 0 + r.ep
  let core : Bool := (stopTile st).isSome && decide (r.ep < 2)
  let s1 := if core then s.onCore c (fun s h => s.hartEvent h 0x24) else s
  if r.purp = .cancel then s1
  else if core && (s1.core c).dead then s1.setReq st r.pkt.tagN none
  else if core && r.pkt.spec then s1.specRetried c r
  else s1.setReq st r.pkt.tagN (some { r with retries := r.retries + 1, retryNo := if r.retries = 0 then s1.nextRetry st else r.retryNo, waitBound := true })

/-- RETRY (R156). -/
def execRetry (p : Packet) (s : State) : Host.Outcome State Fault Refusal :=
  ok (s.receive p (fun s => match s.req p.dstN p.tagN with
    | none => s
    | some r => if r.purp = .annex then (match stopAx p.dstN with
        | some k => s.gateResponse k p
        | none => s) else s.retried p.dstN r))

/-- RETRY_BACKOFF_EXPIRY (R156): the same request with the same tag, where its slot holds no earlier retried request for that home. -/
def execRetryBackoffExpiry (stop : Fin 160) (tag : BitVec 12) (s : State) : Host.Outcome State Fault Refusal :=
  match s.req stop.val tag.toNat with
  | some r => if r.waitBound && r.purp != .annex && s.holdsRetry stop.val r then ok ((s.setReq stop.val tag.toNat (some { r with waitBound := false })).send r.pkt) else ok s
  | none => ok s

/-! ### Errors (R214) -/

/-- The annex port behind which a sector lies (R22, R25). -/
def State.axPortOf (s : State) (c sec : Nat) : Option Nat :=
  match region (sec * 64) with
  | .annexMmio k => some k
  | .depo n => stopAx (s.getF F.niDepoMap_portStop (coreStop c) n)
  | _ => none

/-- An access behind an annex port was answered by a timeout or a dead target: PX.FENCE.AX will report it (R58, R214). (DEDUCED, assumption 36.) -/
def State.noteAxErr (s : State) (h c sec code : Nat) : State :=
  match s.axPortOf c sec with
  | some k => if code = Err.targetDead ∨ code = Err.timeout then s.modHart h (fun x => { x with axErr := x.axErr ||| (1#6 <<< k) }) else s
  | none => s

/-- A retired store is lost: it leaves the store queue and is recorded in the issuing core's bank (R214, R484). -/
def State.storeLost (s : State) (h c sec code origin : Nat) : State :=
  (((s.modHart h (fun x => { x with sq := x.sq.drop 1 }.smcDone)).windowStore c sec).windowCheck c sec).errorEvent .core c
    { sev := .uec, code := Ev.storeLost, addr := some (sec * 64), errCode := code, origin := origin } (s.srcHart h) (w64 (sec * 64)) (w64 (code + origin * 256))

/-- The access fault of an instruction in flight for one of its parts (R75, R214). -/
def partError (i : Infl) (j : Nat) : Pend :=
  let load : Bool := i.kind == .load || i.kind == .lr || i.kind == .ioLoad
  let va := if j = 0 then i.va else i.va + w64 (64 - i.va.toNat % 64)
  { cause := if load then Exc.loadAccess else Exc.storeAccess, tval := va, tinst := i.tinst }

/-- An error answers what a hart waits for under a tag: a retired store is lost, and each instruction in flight that waits takes its access fault (R214). -/
def State.errorAtHart (s : State) (h c : Nat) (r : Req) (code origin : Nat) : State :=
  let t := r.pkt.tagN
  let sec := r.pkt.sec
  let sn := s.noteAxErr h c sec code
  let lost : Bool := match (sn.hart h).sq with
    | e :: _ => e.tag == some t || (e.tag.isNone && e.sec == sec && r.purp == Purp.store)
    | [] => false
  let s3 := if lost then sn.storeLost h c sec code origin else sn
  let hit (i : Infl) : Option Nat := i.parts.findIdx? (fun (q : Part) =>
    q.tag == some t || (q.sec == sec && q.tag.isNone && q.val.isNone && isCoherentReq r.pkt.opcode && !r.pkt.spec))
  let waits (i : Infl) : Bool := match i.kind with
    | .store | .other | .fence | .fenceAx | .bellSend | .prefetch _ => false
    | _ => !i.complete && i.fault.isNone
  let s4 := (s3.hart h).infl.foldl (fun (s : State) (i : Infl) =>
    if waits i then (match hit i with
      | some j => s.failInfl h i.id (partError i j)
      | none => s)
    else s) s3
  s4.clearTag h t

/-- An error answers a core's request (R214): a prefetch is dropped; a bound instruction fetch is an instruction access fault; what a hart waits for, as `errorAtHart` says. A cancelled request
keeps its tag until the Comp of its SpecCancel (R218). -/
def State.coreError (s : State) (c : Nat) (r : Req) (code origin : Nat) : State :=
  let st := coreStop c
  let t := r.pkt.tagN
  let sec := r.pkt.sec
  let l := s.cline c sec
  let s1 := if r.purp = .cancel then s else s.setReq st t none
  let s2 : State := match l.st with
    | .isD | .imD => if isCoherentReq r.pkt.opcode then s1.setCline c sec {} else s1
    | .smA => s1.setCline c sec { l with st := .s }
    | .omA => s1.setCline c sec { l with st := .o }
    | .miP | .oiP | .iP => if r.purp == Purp.writeback then s1.setCline c sec {} else s1
    | _ => s1
  if (s.core c).dead ∨ r.purp = .cancel then s1
  else
    (s2.onCore c (fun (s : State) (h : Nat) =>
      match r.purp with
      | .prefetch | .own => s.hartEvent h 0x21
      | .fetch =>
        if !r.pkt.spec && !r.unbound && (s.hart h).infl.isEmpty then s.except h { cause := Exc.instrAccess, tval := (s.hart h).pc } (s.hart h).pc else s
      | .probe =>
        (match (s.hart h).fence with
          | some f => (match f.tags.find? (fun (e : Nat × Nat) => e.2 == t) with
            | some e => s.probeAnswer h e.1 (code != Err.targetDead)
            | none => s)
          | none => s)
      | .writeback =>
        s.errorEvent .core c { sev := .uec, code := Ev.storeLost, addr := some (sec * 64), errCode := code, origin := origin } (s.srcHart h) (w64 (sec * 64))
          (w64 (code + origin * 256))
      | .install => s.modHart h (fun x => { x with shadowD := x.shadowD.filter (fun e => !(e.sec == sec && e.installing)) })
      | _ => s.errorAtHart h c r code origin)).corePump c

/-! ### Memory and I/O data -/

/-- MEM_DATA (R118, R139, R248): the granule arrives at its home. -/
def execMemData (p : Packet) (s : State) : Host.Outcome State Fault Refusal := ok (s.receive p (fun s => s.homeMemData p))

/-- The debug module's access in the fabric is answered (R321). -/
def State.dmAnswer (s : State) (st tag : Nat) (d : Option Word) (err : Nat) : State :=
  if st = dbgStop ∧ s.dm.busy = some tag then { s with dm := { data := d.getD s.dm.data, err := err, busy := none } } else s

/-- IO_DATA (R208, R217): the bytes read reach the load that waits; POISON is an error to a hart. -/
def execIoData (p : Packet) (s : State) : Host.Outcome State Fault Refusal :=
  ok (s.receive p (fun s => match stopTile p.dstN, s.req p.dstN p.tagN with
    | some t, some r =>
      let c := 2 * t + r.ep
      let s1 := s.setReq p.dstN p.tagN none
      if (s.core c).dead then s1
      else (s1.onCore c (fun s h =>
        if r.purp = .probe then
          (match (s.hart h).fence with
            | some f => (match f.tags.find? (fun e => e.2 == p.tagN) with
              | some e => s.probeAnswer h e.1 (sectorBytes p.payload r.pkt.ioOffset 8 % 2 == 1)
              | none => s)
            | none => s)
        else if p.poison then
          (match s.taggedInfl h p.tagN with
            | some i => (s.clearTag h p.tagN).failInfl h i.id (partError i ((i.parts.findIdx? (fun q => q.tag == some p.tagN)).getD 0))
            | none => s)
        else s.takeParts h p.tagN p.payload false)).corePump c
    | none, some r => (s.setReq p.dstN p.tagN none).dmAnswer p.dstN p.tagN
        (some (w64 (sectorBytes p.payload r.pkt.ioOffset (min 8 (2 ^ r.pkt.ioSize))))) (if p.poison then Err.abort else 0)
    | _, none => s))

end Sys2Proof.Machine
end

