-- ==== Sys2Proof/Machine/Codec.lean ====
section
/-! DEFINITION. The decoders of the formats that R338 names: DEFLATE (RFC 1951), the LZ4 block and frame, Zstandard (RFC 8878), and the checksums they carry. The spec names these formats and
does not restate them: their layouts here are the standards' own. Bytes are numbers below 256; a decoded prefix is held in reverse order. -/
namespace Sys2Proof.Machine

/-- How a decoding ended: its status in R335's codes, the bytes before that in reverse order, and the place in the input. (PRESUMED, assumption 150.) -/
structure Unpacked where
  status : Nat
  rev : List Nat
  pos : Nat
  deriving DecidableEq, Repr

/-! The statuses that a stream's contents give (R335). -/
namespace Codec
def ok : Nat := 0
def corrupt : Nat := 4
def truncated : Nat := 5
def unsupported : Nat := 6
end Codec

/-- Copy n bytes from d bytes back (a match); none when it would reach before the first byte. -/
def matchCopy (d n : Nat) (rev : List Nat) : Option (List Nat) :=
  if d = 0 ∨ rev.length < d then none else some ((List.range n).foldl (fun r _ => r.getD (d - 1) 0 :: r) rev)

/-! ### Bits -/

/-- A stretch of input as a little-endian number with its length in bits. -/
structure BitBuf where
  num : Nat
  len : Nat
  deriving DecidableEq, Repr

def BitBuf.of (l : List Nat) : BitBuf := { num := ofBytes l, len := 8 * l.length }

/-- n bits from a place upward, or TRUNCATED. -/
def BitBuf.get (b : BitBuf) (pos n : Nat) : Except Nat (Nat × Nat) :=
  if b.len < pos + n then .error Codec.truncated else .ok (b.num / 2 ^ pos % 2 ^ n, pos + n)

/-- n bits downward from `left` remaining bits (Zstandard's backward streams): zeros below the first bit. -/
def BitBuf.top (b : BitBuf) (left n : Nat) : Nat :=
  if n ≤ left then b.num / 2 ^ (left - n) % 2 ^ n else b.num % 2 ^ left * 2 ^ (n - left)

/-- A backward stream and the number of its bits: the last byte's highest set bit marks its end; none where that byte is 0. -/
def BitBuf.backward (l : List Nat) : Option (BitBuf × Nat) :=
  match l.getLast? with
  | none => none
  | some b => if b = 0 then none else some (BitBuf.of l, 8 * (l.length - 1) + Nat.log2 b)

/-! ### DEFLATE (RFC 1951) -/

/-- A prefix code: how many codes of each length 1 to 15, and the symbols in code order. -/
structure Huff where
  counts : List Nat
  syms : List Nat
  deriving DecidableEq, Repr

/-- The canonical code of some code lengths. -/
def Huff.of (lens : List Nat) : Huff :=
  { counts := (List.range 15).map (fun l => lens.count (l + 1)),
    syms := (List.range 15).flatMap (fun l => (List.range lens.length).filter (fun i => lens.getD i 0 == l + 1)) }

/-- The share of the code space that a code uses, in units of 2^-15. -/
def Huff.kraft (h : Huff) : Nat := (List.range 15).foldl (fun a l => a + h.counts.getD l 0 * 2 ^ (14 - l)) 0

/-- Whether a code may be used: exactly filled, or at most one symbol, of length 1. -/
def Huff.usable (h : Huff) : Bool := h.kraft == 2 ^ 15 || h.syms.isEmpty || (h.syms.length == 1 && h.counts.getD 0 0 == 1)

/-- The symbol at a place: codes of growing length until one is assigned. -/
def Huff.symbol (h : Huff) (b : BitBuf) : Nat → Nat → Nat → Nat → Nat → Except Nat (Nat × Nat)
  | 0, _, _, _, _ => .error Codec.corrupt
  | f + 1, code, first, index, pos =>
    match b.get pos 1 with
    | .error e => .error e
    | .ok (bit, p) =>
      let c := code + bit
      let n := h.counts.getD (14 - f) 0
      if c < first + n then .ok (h.syms.getD (index + (c - first)) 0, p)
      else Huff.symbol h b f (2 * c) (2 * (first + n)) (index + n) p

def Huff.next (h : Huff) (b : BitBuf) (pos : Nat) : Except Nat (Nat × Nat) := h.symbol b 15 0 0 0 pos

/-- The extra bits and base of length codes 257 to 285 and of distance codes 0 to 29. -/
def lenExtra (k : Nat) : Nat := if k < 8 ∨ k = 28 then 0 else k / 4 - 1
def lenBase (k : Nat) : Nat := if k < 8 then k + 3 else if k = 28 then 258 else 3 + (4 + k % 4) * 2 ^ (k / 4 - 1)
def distExtra (k : Nat) : Nat := if k < 4 then 0 else k / 2 - 1
def distBase (k : Nat) : Nat := if k < 4 then k + 1 else 1 + (2 + k % 2) * 2 ^ (k / 2 - 1)

/-- The symbols of a block to its end. -/
def inflateSyms (b : BitBuf) (lit dist : Huff) : Nat → List Nat → Nat → Unpacked
  | 0, rev, pos => ⟨Codec.corrupt, rev, pos⟩
  | f + 1, rev, pos =>
    match lit.next b pos with
    | .error e => ⟨e, rev, pos⟩
    | .ok (s, p) =>
      if s < 256 then inflateSyms b lit dist f (s :: rev) p
      else if s = 256 then ⟨Codec.ok, rev, p⟩
      else if 285 < s then ⟨Codec.corrupt, rev, p⟩
      else
        let pair : Except Nat (Nat × Nat × Nat) := do
          let (x, p1) ← b.get p (lenExtra (s - 257))
          let (d, p2) ← dist.next b p1
          let (y, p3) ← b.get p2 (if d < 30 then distExtra d else 0)
          if 29 < d then .error Codec.corrupt else .ok (lenBase (s - 257) + x, distBase d + y, p3)
        match pair with
        | .error e => ⟨e, rev, p⟩
        | .ok (n, d, p3) =>
          match matchCopy d n rev with
          | none => ⟨Codec.corrupt, rev, p⟩
          | some r => inflateSyms b lit dist f r p3

/-- The code lengths that a dynamic block lists, run by run, until there are `want`. -/
def inflateLens (b : BitBuf) (h : Huff) (want : Nat) : Nat → List Nat → Nat → Except Nat (List Nat × Nat)
  | 0, _, _ => .error Codec.corrupt
  | f + 1, lens, pos =>
    if lens.length = want then .ok (lens, pos)
    else if want < lens.length then .error Codec.corrupt
    else
      match h.next b pos with
      | .error e => .error e
      | .ok (s, p) =>
        if s < 16 then inflateLens b h want f (lens ++ [s]) p
        else
          match b.get p (if s = 16 then 2 else if s = 17 then 3 else 7) with
          | .error e => .error e
          | .ok (x, p1) =>
            match (if s = 16 then lens.getLast? else some 0) with
            | none => .error Codec.corrupt
            | some v => inflateLens b h want f (lens ++ List.replicate ((if s = 18 then 11 else 3) + x) v) p1

/-- The order in which a dynamic block lists the lengths of the code-length code. -/
def lensOrder : List Nat := [16, 17, 18, 0, 8, 7, 9, 6, 10, 5, 11, 4, 12, 3, 13, 2, 14, 1, 15]

/-- The codes of a dynamic block. -/
def inflateCodes (b : BitBuf) (pos : Nat) : Except Nat (Huff × Huff × Nat) := do
  let (a, p1) ← b.get pos 5
  let (d, p2) ← b.get p1 5
  let (c, p3) ← b.get p2 4
  let (bits, p4) ← b.get p3 (3 * (c + 4))
  let lens := (List.range 19).map (fun i =>
    let k := lensOrder.idxOf i
    if k < c + 4 then bits / 8 ^ k % 8 else 0)
  let h := Huff.of lens
  if 29 < a ∨ 29 < d ∨ h.kraft ≠ 2 ^ 15 then .error Codec.corrupt
  else
    let (all, p5) ← inflateLens b h (a + 257 + d + 1) 400 [] p4
    let lit := Huff.of (all.take (a + 257))
    let dist := Huff.of (all.drop (a + 257))
    if all.getD 256 0 = 0 ∨ !lit.usable ∨ !dist.usable then .error Codec.corrupt else .ok (lit, dist, p5)

/-- The fixed codes. -/
def fixedLit : Huff := Huff.of (List.replicate 144 8 ++ List.replicate 112 9 ++ List.replicate 24 7 ++ List.replicate 8 8)
def fixedDist : Huff := Huff.of (List.replicate 32 5)

/-- One block from its type on. -/
def inflateBlock (b : BitBuf) (type : Nat) (rev : List Nat) (pos : Nat) : Unpacked :=
  match type with
  | 0 =>
    let p := (pos + 7) / 8 * 8
    (match b.get p 32 with
    | .error e => ⟨e, rev, p⟩
    | .ok (v, p1) =>
      let n := v % 2 ^ 16
      if n + v / 2 ^ 16 ≠ 2 ^ 16 - 1 then ⟨Codec.corrupt, rev, p1⟩
      else
        let k := min n ((b.len - p1) / 8)
        let r := (List.range k).foldl (fun r i => b.num / 2 ^ (p1 + 8 * i) % 256 :: r) rev
        ⟨if k < n then Codec.truncated else Codec.ok, r, p1 + 8 * k⟩)
  | 1 => inflateSyms b fixedLit fixedDist (b.len + 1) rev pos
  | 2 =>
    (match inflateCodes b pos with
    | .error e => ⟨e, rev, pos⟩
    | .ok (l, d, p) => inflateSyms b l d (b.len + 1) rev p)
  | _ => ⟨Codec.corrupt, rev, pos⟩

/-- The blocks of a stream to the last; the place is in bits. -/
def inflateBlocks (b : BitBuf) : Nat → List Nat → Nat → Unpacked
  | 0, rev, pos => ⟨Codec.corrupt, rev, pos⟩
  | f + 1, rev, pos =>
    match b.get pos 3 with
    | .error e => ⟨e, rev, pos⟩
    | .ok (v, p) =>
      let d := inflateBlock b (v / 2) rev p
      if d.status ≠ 0 ∨ v % 2 = 1 then d else inflateBlocks b f d.rev d.pos

/-- A raw DEFLATE stream: the place is in bytes. -/
def inflate (l : List Nat) : Unpacked :=
  let b := BitBuf.of l
  let d := inflateBlocks b (b.len + 1) [] 0
  { d with pos := (d.pos + 7) / 8 }

/-! ### xxHash -/

def rotl (w v n : Nat) : Nat := (v * 2 ^ n + v / 2 ^ (w - n)) % 2 ^ w

namespace Xxh32
def p1 : Nat := 0x9E3779B1
def p2 : Nat := 0x85EBCA77
def p3 : Nat := 0xC2B2AE3D
def p4 : Nat := 0x27D4EB2F
def p5 : Nat := 0x165667B1
def m : Nat := 2 ^ 32
end Xxh32

def xxh32Round (acc v : Nat) : Nat := rotl 32 ((acc + v * Xxh32.p2) % Xxh32.m) 13 * Xxh32.p1 % Xxh32.m

/-- The stripes of 16 bytes. -/
def xxh32Stripes : Nat → List Nat → List Nat → List Nat × List Nat
  | 0, a, l => (a, l)
  | f + 1, a, l =>
    if l.length < 16 then (a, l)
    else xxh32Stripes f ((List.range 4).map (fun i => xxh32Round (a.getD i 0) (ofBytes ((l.drop (4 * i)).take 4)))) (l.drop 16)

/-- The rest below a stripe: words of four bytes, then bytes. -/
def xxh32Tail : Nat → Nat → List Nat → Nat
  | 0, h, _ => h
  | f + 1, h, l =>
    if 4 ≤ l.length then xxh32Tail f (rotl 32 ((h + ofBytes (l.take 4) * Xxh32.p3) % Xxh32.m) 17 * Xxh32.p4 % Xxh32.m) (l.drop 4)
    else match l with
      | [] => h
      | b :: r => xxh32Tail f (rotl 32 ((h + b * Xxh32.p5) % Xxh32.m) 11 * Xxh32.p1 % Xxh32.m) r

def xxhMix (h s m p : Nat) : Nat := xorNat h (h / 2 ^ s) * p % m

/-- XXH32 with seed 0. -/
def xxh32 (l : List Nat) : Nat :=
  let r := xxh32Stripes (l.length / 16) [(Xxh32.p1 + Xxh32.p2) % Xxh32.m, Xxh32.p2, 0, Xxh32.m - Xxh32.p1] l
  let h0 := if l.length < 16 then Xxh32.p5
    else (rotl 32 (r.1.getD 0 0) 1 + rotl 32 (r.1.getD 1 0) 7 + rotl 32 (r.1.getD 2 0) 12 + rotl 32 (r.1.getD 3 0) 18) % Xxh32.m
  let h1 := xxh32Tail 16 ((h0 + l.length) % Xxh32.m) r.2
  xxhMix (xxhMix (xxhMix h1 15 Xxh32.m Xxh32.p2) 13 Xxh32.m Xxh32.p3) 16 Xxh32.m 1

namespace Xxh64
def p1 : Nat := 0x9E3779B185EBCA87
def p2 : Nat := 0xC2B2AE3D27D4EB4F
def p3 : Nat := 0x165667B19E3779F9
def p4 : Nat := 0x85EBCA77C2B2AE63
def p5 : Nat := 0x27D4EB2F165667C5
def m : Nat := 2 ^ 64
end Xxh64

def xxh64Round (acc v : Nat) : Nat := rotl 64 ((acc + v * Xxh64.p2) % Xxh64.m) 31 * Xxh64.p1 % Xxh64.m
def xxh64Merge (h v : Nat) : Nat := (xorNat h (xxh64Round 0 v) * Xxh64.p1 + Xxh64.p4) % Xxh64.m

/-- The stripes of 32 bytes. -/
def xxh64Stripes : Nat → List Nat → List Nat → List Nat × List Nat
  | 0, a, l => (a, l)
  | f + 1, a, l =>
    if l.length < 32 then (a, l)
    else xxh64Stripes f ((List.range 4).map (fun i => xxh64Round (a.getD i 0) (ofBytes ((l.drop (8 * i)).take 8)))) (l.drop 32)

/-- The rest below a stripe: words of eight bytes, then of four, then bytes. -/
def xxh64Tail : Nat → Nat → List Nat → Nat
  | 0, h, _ => h
  | f + 1, h, l =>
    if 8 ≤ l.length then
      xxh64Tail f ((rotl 64 (xorNat h (xxh64Round 0 (ofBytes (l.take 8)))) 27 * Xxh64.p1 + Xxh64.p4) % Xxh64.m) (l.drop 8)
    else if 4 ≤ l.length then
      xxh64Tail f ((rotl 64 (xorNat h (ofBytes (l.take 4) * Xxh64.p1 % Xxh64.m)) 23 * Xxh64.p2 + Xxh64.p3) % Xxh64.m) (l.drop 4)
    else match l with
      | [] => h
      | b :: r => xxh64Tail f (rotl 64 (xorNat h (b * Xxh64.p5 % Xxh64.m)) 11 * Xxh64.p1 % Xxh64.m) r

/-- XXH64 with seed 0. -/
def xxh64 (l : List Nat) : Nat :=
  let r := xxh64Stripes (l.length / 32) [(Xxh64.p1 + Xxh64.p2) % Xxh64.m, Xxh64.p2, 0, Xxh64.m - Xxh64.p1] l
  let v (i : Nat) : Nat := r.1.getD i 0
  let h0 := if l.length < 32 then Xxh64.p5
    else (List.range 4).foldl (fun h i => xxh64Merge h (v i)) ((rotl 64 (v 0) 1 + rotl 64 (v 1) 7 + rotl 64 (v 2) 12 + rotl 64 (v 3) 18) % Xxh64.m)
  let h1 := xxh64Tail 32 ((h0 + l.length) % Xxh64.m) r.2
  xxhMix (xxhMix (xxhMix h1 33 Xxh64.m Xxh64.p2) 29 Xxh64.m Xxh64.p3) 32 Xxh64.m 1

/-! ### LZ4 -/

/-- A length that goes on in further bytes while they are 255; none where the input ends. -/
def lz4Len : Nat → List Nat → Option (Nat × List Nat)
  | _, [] => none
  | a, b :: r => if b = 255 then lz4Len (a + 255) r else some (a + b, r)

/-- The sequences of a block to the end of its input: literals, then a match, the last without one. -/
def lz4Seqs : Nat → List Nat → List Nat → Nat × List Nat
  | 0, _, rev => (Codec.corrupt, rev)
  | _ + 1, [], rev => (Codec.truncated, rev)
  | f + 1, t :: r, rev =>
    match (if t / 16 = 15 then lz4Len 15 r else some (t / 16, r)) with
    | none => (Codec.truncated, rev)
    | some (n, r1) =>
      let rev1 := (r1.take n).reverse ++ rev
      if r1.length < n then (Codec.truncated, rev1)
      else
        match r1.drop n with
        | [] => (Codec.ok, rev1)
        | [_] => (Codec.truncated, rev1)
        | lo :: hi :: r2 =>
          match (if t % 16 = 15 then lz4Len 15 r2 else some (t % 16, r2)) with
          | none => (Codec.truncated, rev1)
          | some (k, r3) =>
            match matchCopy (lo + 256 * hi) (k + 4) rev1 with
            | none => (Codec.corrupt, rev1)
            | some rev2 => lz4Seqs f r3 rev2

/-- An LZ4 block, which ends with its input. -/
def lz4Block (l : List Nat) : Unpacked :=
  let r := lz4Seqs (l.length + 1) l []
  ⟨r.1, r.2, l.length⟩

/-- What an LZ4 frame's descriptor says of its blocks. -/
structure Lz4Info where
  linked : Bool
  blockSum : Bool
  contentSum : Bool
  size : Option Nat
  max : Nat
  deriving DecidableEq, Repr

/-- The blocks of a frame, its end mark and its content checksum. -/
def lz4Blocks (i : Lz4Info) (all : List Nat) : Nat → List Nat → Nat → Unpacked
  | 0, rev, pos => ⟨Codec.corrupt, rev, pos⟩
  | f + 1, rev, pos =>
    let l := all.drop pos
    let hd := ofBytes (l.take 4)
    let n := hd % 2 ^ 31
    let raw : Bool := hd / 2 ^ 31 == 1
    let sum := if i.blockSum then 4 else 0
    if l.length < 4 then ⟨Codec.truncated, rev, pos⟩
    else if hd = 0 then
      if i.size.any (fun z => z != rev.length) then ⟨Codec.corrupt, rev, pos + 4⟩
      else if !i.contentSum then ⟨Codec.ok, rev, pos + 4⟩
      else if l.length < 8 then ⟨Codec.truncated, rev, pos + 4⟩
      else ⟨if ofBytes ((l.drop 4).take 4) = xxh32 rev.reverse then Codec.ok else Codec.corrupt, rev, pos + 8⟩
    else if i.max < n then ⟨Codec.corrupt, rev, pos + 4⟩
    else if l.length < 4 + n + sum then ⟨Codec.truncated, rev, pos⟩
    else
      let body := (l.drop 4).take n
      let r : Nat × List Nat := if raw then (Codec.ok, body.reverse ++ rev)
        else if i.linked then lz4Seqs (n + 1) body rev
        else
          let q := lz4Seqs (n + 1) body []
          (q.1, q.2 ++ rev)
      if (i.blockSum && ofBytes ((l.drop (4 + n)).take 4) != xxh32 body) then ⟨Codec.corrupt, rev, pos + 4⟩
      else if r.1 ≠ 0 ∨ rev.length + i.max < r.2.length then ⟨Codec.corrupt, r.2, pos + 4⟩
      else lz4Blocks i all f r.2 (pos + 4 + n + sum)

/-- A skippable frame of LZ4 and Zstandard at the head of the input: the place after it. -/
def skippable (l : List Nat) : Option Nat := if ofBytes (l.take 4) / 16 = 0x184D2A5 ∧ 4 ≤ l.length then some (8 + ofBytes ((l.drop 4).take 4)) else none

/-- An LZ4 frame, after its skippable frames. -/
def lz4Frame (all : List Nat) : Nat → Nat → Unpacked
  | 0, pos => ⟨Codec.corrupt, [], pos⟩
  | f + 1, pos =>
    let l := all.drop pos
    match skippable l with
    | some n => if l.length < n ∨ l.length < 8 then ⟨Codec.truncated, [], pos⟩ else lz4Frame all f (pos + n)
    | none =>
      let flg := l.getD 4 0
      let bd := l.getD 5 0
      let sz := if flg / 8 % 2 = 1 then 8 else 0
      let di := if flg % 2 = 1 then 4 else 0
      let hc := l.getD (6 + sz + di) 0
      if l.length < 4 then ⟨Codec.truncated, [], pos⟩
      else if ofBytes (l.take 4) ≠ 0x184D2204 then ⟨Codec.corrupt, [], pos⟩
      else if l.length < 7 + sz + di then ⟨Codec.truncated, [], pos⟩
      else if flg / 64 ≠ 1 ∨ flg / 2 % 2 = 1 ∨ bd / 128 = 1 ∨ bd % 16 ≠ 0 ∨ bd / 16 < 4 ∨ hc ≠ xxh32 ((l.drop 4).take (2 + sz + di)) / 256 % 256 then ⟨Codec.corrupt, [], pos⟩
      else if di ≠ 0 then ⟨Codec.unsupported, [], pos⟩
      else lz4Blocks { linked := flg / 32 % 2 == 0, blockSum := flg / 16 % 2 == 1, contentSum := flg / 4 % 2 == 1,
                       size := if sz = 8 then some (ofBytes ((l.drop 6).take 8)) else none, max := 2 ^ (8 + 2 * (bd / 16)) } all (all.length + 1) [] (pos + 7 + sz + di)

/-! ### Zstandard (RFC 8878) -/

/-- A row of an FSE table: the symbol, and the bits to read and add for the next state. -/
structure FseRow where
  sym : Nat
  bits : Nat
  base : Nat
  deriving DecidableEq, Repr

/-- An FSE table and its accuracy. -/
structure Fse where
  log : Nat
  rows : List FseRow
  deriving DecidableEq, Repr

/-- A table of one symbol. -/
def Fse.single (sym : Nat) : Fse := { log := 0, rows := [{ sym := sym, bits := 0, base := 0 }] }

/-- Place n copies of a symbol, stepping over the rows from `high` up. -/
def fseSpread (size high sym : Nat) : Nat → Nat → List Nat → Nat → Nat × List Nat
  | 0, _, t, pos => (pos, t)
  | _, 0, t, pos => (pos, t)
  | f + 1, n + 1, t, pos =>
    if high ≤ pos then fseSpread size high sym f (n + 1) t ((pos + size / 2 + size / 8 + 3) % size)
    else fseSpread size high sym f n (t.set pos sym) ((pos + size / 2 + size / 8 + 3) % size)

/-- The table of a distribution: probabilities, with -1 for less than 1. -/
def Fse.of (log : Nat) (probs : List Int) : Fse :=
  let size := 2 ^ log
  let ids := List.range probs.length
  let low := ids.filter (fun i => probs.getD i 0 == -1)
  let high := size - low.length
  let t0 := (List.range low.length).foldl (fun t i => t.set (size - 1 - i) (low.getD i 0)) (List.replicate size 0)
  let t1 := (ids.foldl (fun (a : Nat × List Nat) i => fseSpread size high i (4 * size) (probs.getD i 0).toNat a.2 a.1) (0, t0)).2
  let seen0 := probs.map (fun p => if p = -1 then 1 else p.toNat)
  { log := log,
    rows := ((t1.foldl (fun (a : List Nat × List FseRow) s =>
      let x := a.1.getD s 1
      let nb := log - Nat.log2 x
      (a.1.set s (x + 1), { sym := s, bits := nb, base := x * 2 ^ nb - size } :: a.2)) (seen0, [])).2).reverse }

/-- The zero probabilities that follow a zero: two bits at a time while they are 3. -/
def fseZeros (b : BitBuf) : Nat → List Int → Nat → Except Nat (List Int × Nat)
  | 0, _, _ => .error Codec.corrupt
  | f + 1, ps, pos =>
    match b.get pos 2 with
    | .error e => .error e
    | .ok (n, p) => if n = 3 then fseZeros b f (ps ++ [0, 0, 0]) p else .ok (ps ++ List.replicate n 0, p)

/-- The probabilities of a table description until none is left to give. -/
def fseProbs (b : BitBuf) : Nat → Nat → List Int → Nat → Except Nat (List Int × Nat)
  | 0, _, _, _ => .error Codec.corrupt
  | f + 1, left, ps, pos =>
    if left = 0 then .ok (ps, pos)
    else
      let n := Nat.log2 (left + 1) + 1
      let thr := 2 ^ n - 1 - (left + 1)
      let low := b.num / 2 ^ pos % 2 ^ (n - 1)
      let full := b.num / 2 ^ pos % 2 ^ n
      let small : Bool := decide (low < thr)
      let v := if small then low else if 2 ^ (n - 1) ≤ full then full - thr else full
      let p := pos + (if small then n - 1 else n)
      if b.len < p then .error Codec.corrupt
      else if v = 0 then (if left < 1 then .error Codec.corrupt else fseProbs b f (left - 1) (ps ++ [-1]) p)
      else if left < v - 1 then .error Codec.corrupt
      else if v = 1 then
        match fseZeros b 128 (ps ++ [0]) p with
        | .error _ => .error Codec.corrupt
        | .ok (q, p1) => fseProbs b f left q p1
      else fseProbs b f (left - (v - 1)) (ps ++ [(v : Int) - 1]) p

/-- An FSE table description at the head of some bytes: the table and the bytes it takes. -/
def fseRead (l : List Nat) (maxLog maxSym : Nat) : Except Nat (Fse × Nat) :=
  let b := BitBuf.of l
  let log := l.getD 0 0 % 16 + 5
  if maxLog < log ∨ l.isEmpty = true then .error Codec.corrupt
  else
    match fseProbs b 512 (2 ^ log) [] 4 with
    | .error e => .error e
    | .ok (ps, p) => if maxSym + 1 < ps.length then .error Codec.corrupt else .ok (Fse.of log ps, (p + 7) / 8)

def Fse.row (t : Fse) (st : Nat) : FseRow := t.rows.getD st { sym := 0, bits := 0, base := 0 }

/-- The Huffman weights of two interleaved FSE states, until the stream is used up. -/
def huffWeights (t : Fse) (b : BitBuf) : Nat → Nat → Nat → Nat → List Nat → Except Nat (List Nat)
  | 0, _, _, _, _ => .error Codec.corrupt
  | f + 1, s1, s2, left, ws =>
    let r := t.row s1
    if left < r.bits then .ok (ws ++ [r.sym, (t.row s2).sym])
    else huffWeights t b f s2 (r.base + b.top left r.bits) (left - r.bits) (ws ++ [r.sym])

/-- A Huffman tree as a full table: the symbol and code length of every value of its longest code. -/
structure HuffTab where
  log : Nat
  rows : List (Nat × Nat)
  deriving DecidableEq, Repr

/-- The table of some weights, whose last is implied. -/
def huffTab (ws : List Nat) : Except Nat HuffTab :=
  let sum := ws.foldl (fun a w => a + 2 ^ w / 2) 0
  let log := Nat.log2 sum + 1
  let left := 2 ^ log - sum
  if sum = 0 ∨ 11 < log ∨ 2 ^ Nat.log2 left ≠ left ∨ 255 < ws.length then .error Codec.corrupt
  else
    let all := ws ++ [Nat.log2 left + 1]
    .ok { log := log,
          rows := (List.range log).flatMap (fun k => (List.range all.length).flatMap (fun i =>
            if all.getD i 0 = k + 1 then List.replicate (2 ^ k) (i, log - k) else [])) }

/-- A Huffman tree description: the table and the bytes it takes. -/
def huffRead (l : List Nat) : Except Nat (HuffTab × Nat) :=
  match l with
  | [] => .error Codec.corrupt
  | h :: r =>
    if 128 ≤ h then
      let n := h - 127
      if r.length < (n + 1) / 2 then .error Codec.corrupt
      else do
        let t ← huffTab ((List.range n).map (fun i => if i % 2 = 0 then r.getD (i / 2) 0 / 16 else r.getD (i / 2) 0 % 16))
        .ok (t, 1 + (n + 1) / 2)
    else if r.length < h then .error Codec.corrupt
    else do
      let body := r.take h
      let (t, n) ← fseRead body 6 12
      match BitBuf.backward (body.drop n) with
      | none => .error Codec.corrupt
      | some (b, bits) =>
        if bits < 2 * t.log then .error Codec.corrupt
        else
          let ws ← huffWeights t b 256 (b.top bits t.log) (b.top (bits - t.log) t.log) (bits - 2 * t.log) []
          let tab ← huffTab ws
          .ok (tab, 1 + h)

/-- The symbols of one Huffman stream, to its last bit. -/
def huffSyms (t : HuffTab) (b : BitBuf) : Nat → Nat → List Nat → Except Nat (List Nat)
  | 0, _, _ => .error Codec.corrupt
  | f + 1, left, rev =>
    if left = 0 then .ok rev.reverse
    else
      let e := t.rows.getD (b.top left t.log) (0, 0)
      if left < e.2 ∨ e.2 = 0 then .error Codec.corrupt else huffSyms t b f (left - e.2) (e.1 :: rev)

/-- One Huffman stream of n symbols. -/
def huffStream (t : HuffTab) (l : List Nat) (n : Nat) : Except Nat (List Nat) :=
  match BitBuf.backward l with
  | none => .error Codec.corrupt
  | some (b, bits) =>
    match huffSyms t b (bits + 1) bits [] with
    | .error e => .error e
    | .ok s => if s.length = n then .ok s else .error Codec.corrupt

/-- What one block leaves for the next: the Huffman table, the tables of the three codes, and the last offsets. -/
structure ZstdCtx where
  huff : Option HuffTab := none
  ll : Option Fse := none
  of_ : Option Fse := none
  ml : Option Fse := none
  reps : List Nat := [1, 4, 8]
  deriving DecidableEq, Repr

/-- The literals section of a block: the literals, the bytes it takes, and the table. -/
def zstdLiterals (l : List Nat) (c : ZstdCtx) : Except Nat (List Nat × Nat × ZstdCtx) :=
  let h := l.getD 0 0
  let type := h % 4
  let sf := h / 4 % 4
  if l.isEmpty then .error Codec.corrupt
  else if type < 2 then
    let hs := if sf % 2 = 0 then 1 else if sf = 1 then 2 else 3
    let n := ofBytes (l.take hs) / (if hs = 1 then 8 else 16)
    if l.length < hs + (if type = 0 then n else 1) then .error Codec.corrupt
    else if type = 0 then .ok ((l.drop hs).take n, hs + n, c)
    else .ok (List.replicate n (l.getD hs 0), hs + 1, c)
  else
    let hs := if sf < 2 then 3 else sf + 2
    let w := if sf < 2 then 10 else if sf = 2 then 14 else 18
    let v := ofBytes (l.take hs) / 16
    let n := v % 2 ^ w
    let z := v / 2 ^ w
    if l.length < hs + z then .error Codec.corrupt
    else do
      let body := (l.drop hs).take z
      let (t, k) ← (if type = 2 then huffRead body else match c.huff with
        | some t => .ok (t, 0)
        | none => .error Codec.corrupt)
      let str := body.drop k
      let lits ← (if sf = 0 then huffStream t str n
        else
          let a := ofBytes (str.take 2)
          let b := ofBytes ((str.drop 2).take 2)
          let d := ofBytes ((str.drop 4).take 2)
          let q := (n + 3) / 4
          if str.length < 6 + a + b + d ∨ n < 3 * q then .error Codec.corrupt
          else do
            let s1 ← huffStream t ((str.drop 6).take a) q
            let s2 ← huffStream t ((str.drop (6 + a)).take b) q
            let s3 ← huffStream t ((str.drop (6 + a + b)).take d) q
            let s4 ← huffStream t (str.drop (6 + a + b + d)) (n - 3 * q)
            .ok (s1 ++ s2 ++ s3 ++ s4))
      .ok (lits, hs + z, { c with huff := some t })

/-- The predefined distributions. -/
def llDefault : Fse := Fse.of 6 [4, 3, 2, 2, 2, 2, 2, 2, 2, 2, 2, 2, 2, 1, 1, 1, 2, 2, 2, 2, 2, 2, 2, 2, 2, 3, 2, 1, 1, 1, 1, 1, -1, -1, -1, -1]
def mlDefault : Fse := Fse.of 6 ([1, 4, 3, 2, 2, 2, 2, 2, 2] ++ List.replicate 37 1 ++ List.replicate 7 (-1))
def ofDefault : Fse := Fse.of 5 ([1, 1, 1, 1, 1, 1, 2, 2, 2] ++ List.replicate 15 1 ++ List.replicate 5 (-1))

/-- The extra bits of the literal-length and match-length codes, and their bases as sums of what the lower codes cover. -/
def llBits (k : Nat) : Nat := if k < 16 then 0 else [1, 1, 1, 1, 2, 2, 3, 3, 4, 6, 7, 8, 9, 10, 11, 12, 13, 14, 15, 16].getD (k - 16) 0
def mlBits (k : Nat) : Nat := if k < 32 then 0 else [1, 1, 1, 1, 2, 2, 3, 3, 4, 4, 5, 7, 8, 9, 10, 11, 12, 13, 14, 15, 16].getD (k - 32) 0
def llBase (k : Nat) : Nat := (List.range k).foldl (fun a i => a + 2 ^ llBits i) 0
def mlBase (k : Nat) : Nat := (List.range k).foldl (fun a i => a + 2 ^ mlBits i) 3

/-- The table of a code under its mode: predefined, one symbol, described, repeated. -/
def zstdTable (mode : Nat) (l : List Nat) (dflt : Fse) (old : Option Fse) (maxLog maxSym : Nat) : Except Nat (Fse × Nat) :=
  match mode with
  | 0 => .ok (dflt, 0)
  | 1 => match l with
    | [] => .error Codec.corrupt
    | b :: _ => if maxSym < b then .error Codec.corrupt else .ok (Fse.single b, 1)
  | 2 => fseRead l maxLog maxSym
  | _ => match old with
    | some t => .ok (t, 0)
    | none => .error Codec.corrupt

/-- The offset that a value names, and the last offsets after it. -/
def zstdOffset (v ll : Nat) (reps : List Nat) : Option (Nat × List Nat) :=
  let r0 := reps.getD 0 0
  let r1 := reps.getD 1 0
  let r2 := reps.getD 2 0
  if 3 < v then some (v - 3, [v - 3, r0, r1])
  else match v - 1 + (if ll = 0 then 1 else 0) with
    | 0 => some (r0, reps)
    | 1 => some (r1, [r1, r0, r2])
    | 2 => some (r2, [r2, r0, r1])
    | _ => if r0 ≤ 1 then none else some (r0 - 1, [r0 - 1, r0, r1])

/-- Carry out the sequences of a block: each copies literals and then a match. -/
def zstdSeqs (tl to_ tm : Fse) (b : BitBuf) : Nat → Nat → Nat → Nat → Nat → List Nat → List Nat → List Nat → Except Nat (List Nat × List Nat)
  | 0, _, _, _, left, lits, rev, reps => if left = 0 then .ok (lits.reverse ++ rev, reps) else .error Codec.corrupt
  | n + 1, sl, so, sm, left, lits, rev, reps =>
    let rl := tl.row sl
    let ro := to_.row so
    let rm := tm.row sm
    let need := ro.sym + mlBits rm.sym + llBits rl.sym
    let more := if n = 0 then 0 else rl.bits + rm.bits + ro.bits
    if left < need + more ∨ 31 < ro.sym then .error Codec.corrupt
    else
      let v := 2 ^ ro.sym + b.top left ro.sym
      let l1 := left - ro.sym
      let m := mlBase rm.sym + b.top l1 (mlBits rm.sym)
      let l2 := l1 - mlBits rm.sym
      let k := llBase rl.sym + b.top l2 (llBits rl.sym)
      let l3 := l2 - llBits rl.sym
      let sl1 := rl.base + b.top l3 rl.bits
      let sm1 := rm.base + b.top (l3 - rl.bits) rm.bits
      let so1 := ro.base + b.top (l3 - rl.bits - rm.bits) ro.bits
      if lits.length < k then .error Codec.corrupt
      else
        match zstdOffset v k reps with
        | none => .error Codec.corrupt
        | some (d, reps1) =>
          match matchCopy d m ((lits.take k).reverse ++ rev) with
          | none => .error Codec.corrupt
          | some rev1 => zstdSeqs tl to_ tm b n sl1 so1 sm1 (l3 - (if n = 0 then 0 else rl.bits + rm.bits + ro.bits)) (lits.drop k) rev1 reps1

/-- A compressed block. -/
def zstdBlock (l : List Nat) (rev : List Nat) (c : ZstdCtx) : Except Nat (List Nat × ZstdCtx) := do
  let (lits, k, c1) ← zstdLiterals l c
  let s := l.drop k
  let h := s.getD 0 0
  let hs := if h < 128 then 1 else if h < 255 then 2 else 3
  let n := if h < 128 then h else if h < 255 then (h - 128) * 256 + s.getD 1 0 else s.getD 1 0 + s.getD 2 0 * 256 + 0x7F00
  if s.length < hs then .error Codec.corrupt
  else if n = 0 then (if s.length = hs then .ok (lits.reverse ++ rev, c1) else .error Codec.corrupt)
  else
    let m := s.getD hs 0
    let r0 := s.drop (hs + 1)
    if s.length < hs + 1 ∨ m % 4 ≠ 0 then .error Codec.corrupt
    else
      let (tl, k1) ← zstdTable (m / 64) r0 llDefault c1.ll 9 35
      let r1 := r0.drop k1
      let (to_, k2) ← zstdTable (m / 16 % 4) r1 ofDefault c1.of_ 8 31
      let r2 := r1.drop k2
      let (tm, k3) ← zstdTable (m / 4 % 4) r2 mlDefault c1.ml 9 52
      match BitBuf.backward (r2.drop k3) with
      | none => .error Codec.corrupt
      | some (b, bits) =>
        if bits < tl.log + to_.log + tm.log then .error Codec.corrupt
        else
          let sl := b.top bits tl.log
          let so := b.top (bits - tl.log) to_.log
          let sm := b.top (bits - tl.log - to_.log) tm.log
          let (rev1, reps) ← zstdSeqs tl to_ tm b n sl so sm (bits - tl.log - to_.log - tm.log) lits rev c1.reps
          .ok (rev1, { c1 with ll := some tl, of_ := some to_, ml := some tm, reps := reps })

/-- The blocks of a frame, and its checksum. -/
def zstdBlocks (all : List Nat) (max : Nat) (size : Option Nat) (sum : Bool) : Nat → List Nat → ZstdCtx → Nat → Unpacked
  | 0, rev, _, pos => ⟨Codec.corrupt, rev, pos⟩
  | f + 1, rev, c, pos =>
    let l := all.drop pos
    let hd := ofBytes (l.take 3)
    let type := hd / 2 % 4
    let n := hd / 8
    let body := if type = 1 then 1 else n
    if l.length < 3 ∨ l.length < 3 + body then ⟨Codec.truncated, rev, pos⟩
    else if type = 3 ∨ max < n then ⟨Codec.corrupt, rev, pos⟩
    else
      let data := (l.drop 3).take body
      let r : Except Nat (List Nat × ZstdCtx) := match type with
        | 0 => .ok (data.reverse ++ rev, c)
        | 1 => .ok (List.replicate n (data.getD 0 0) ++ rev, c)
        | _ => zstdBlock data rev c
      match r with
      | .error e => ⟨e, rev, pos⟩
      | .ok (rev1, c1) =>
        let p := pos + 3 + body
        if rev.length + max < rev1.length then ⟨Codec.corrupt, rev1, p⟩
        else if hd % 2 = 0 then zstdBlocks all max size sum f rev1 c1 p
        else if size.any (fun z => z != rev1.length) then ⟨Codec.corrupt, rev1, p⟩
        else if !sum then ⟨Codec.ok, rev1, p⟩
        else if (all.drop p).length < 4 then ⟨Codec.truncated, rev1, p⟩
        else ⟨if ofBytes ((all.drop p).take 4) = xxh64 rev1.reverse % 2 ^ 32 then Codec.ok else Codec.corrupt, rev1, p + 4⟩

/-- A Zstandard frame, after its skippable frames; a window above 128 MiB and a dictionary are not supported (R338). -/
def zstdFrame (all : List Nat) : Nat → Nat → Unpacked
  | 0, pos => ⟨Codec.corrupt, [], pos⟩
  | f + 1, pos =>
    let l := all.drop pos
    match skippable l with
    | some n => if l.length < n ∨ l.length < 8 then ⟨Codec.truncated, [], pos⟩ else zstdFrame all f (pos + n)
    | none =>
      let fhd := l.getD 4 0
      let single : Bool := fhd / 32 % 2 == 1
      let wd := if single then 0 else 1
      let dn := [0, 1, 2, 4].getD (fhd % 4) 0
      let fn := if fhd / 64 = 0 then (if single then 1 else 0) else 2 ^ (fhd / 64)
      let hs := 5 + wd + dn + fn
      let dict := ofBytes ((l.drop (5 + wd)).take dn)
      let fcs := ofBytes ((l.drop (5 + wd + dn)).take fn) + (if fn = 2 then 256 else 0)
      let w := l.getD 5 0
      let window := if single then fcs else 2 ^ (10 + w / 8) + 2 ^ (7 + w / 8) * (w % 8)
      if l.length < 4 then ⟨Codec.truncated, [], pos⟩
      else if ofBytes (l.take 4) ≠ 0xFD2FB528 then ⟨Codec.corrupt, [], pos⟩
      else if l.length < hs then ⟨Codec.truncated, [], pos⟩
      else if fhd / 8 % 2 = 1 then ⟨Codec.corrupt, [], pos⟩
      else if dict ≠ 0 ∨ 2 ^ 27 < window then ⟨Codec.unsupported, [], pos⟩
      else zstdBlocks all (min window (2 ^ 17)) (if fn = 0 then none else some fcs) (fhd / 4 % 2 == 1) (all.length + 1) [] {} (pos + hs)

end Sys2Proof.Machine
end

