-- ==== Sys2Proof/Machine/Collate.lean ====
section
/-! DEFINITION. What a Collator and a Compactor compute (R338 to R345): check values over bytes, and streams. Bytes are numbers below 256. -/
namespace Sys2Proof.Machine

/-! ### Check values (R342, R343) -/

/-- A Collator's parameter set: width, polynomial, starting value, input and output reflected, final XOR with all ones; Adler-32. -/
structure CrcSet where
  width : Nat
  poly : Nat
  init : Nat
  refIn : Bool
  refOut : Bool
  ones : Bool
  adler : Bool := false
  deriving DecidableEq, Repr

/-- The sets 0 to 6 of R342. -/
def crcSet (param : Nat) : CrcSet :=
  match param with
  | 0 => ⟨32, 0x1EDC6F41, 2 ^ 32 - 1, true, true, true, false⟩
  | 1 => ⟨32, 0x04C11DB7, 2 ^ 32 - 1, true, true, true, false⟩
  | 2 => ⟨64, 0x42F0E1EBA9EA3693, 2 ^ 64 - 1, true, true, true, false⟩
  | 3 => ⟨16, 0x1021, 0, true, true, false, false⟩
  | 4 => ⟨16, 0x1021, 2 ^ 16 - 1, false, false, false, false⟩
  | 5 => ⟨16, 0x1021, 0, false, false, false, false⟩
  | _ => ⟨32, 0, 1, false, false, false, true⟩

/-- The low w bits of a number in reverse order. -/
def reflect (w n : Nat) : Nat := (List.range w).foldl (fun a i => a + n / 2 ^ i % 2 * 2 ^ (w - 1 - i)) 0

/-- One bit of a CRC register: reflected registers shift right, others left. -/
def crcBit (c : CrcSet) (rpoly st : Nat) : Nat :=
  if c.refIn then (if st % 2 = 1 then xorNat (st / 2) rpoly else st / 2)
  else if st / 2 ^ (c.width - 1) % 2 = 1 then xorNat (st * 2 % 2 ^ c.width) c.poly else st * 2 % 2 ^ c.width

/-- One byte of a check: the STATE of R343. -/
def crcByte (c : CrcSet) (rpoly st b : Nat) : Nat :=
  if c.adler then
    let a := (st % 2 ^ 16 + b) % 65521
    (st / 2 ^ 16 + a) % 65521 * 2 ^ 16 + a
  else (List.range 8).foldl (fun x _ => crcBit c rpoly x) (xorNat st (if c.refIn then b else b * 2 ^ (c.width - 8)))

/-- The STATE after some bytes. -/
def crcRun (c : CrcSet) (st : Nat) (l : List Nat) : Nat :=
  let r := reflect c.width c.poly
  l.foldl (fun s b => crcByte c r s b) st

/-- VALUE from STATE: the final reflection where RefIn differs from RefOut, then XorOut (R343). -/
def crcValue (c : CrcSet) (st : Nat) : Nat :=
  let v := if c.refIn != c.refOut then reflect c.width st else st
  if c.ones then xorNat v (2 ^ c.width - 1) else v

/-- CRC-32C of some bytes. -/
def crc32c (l : List Nat) : Nat := crcValue (crcSet 0) (crcRun (crcSet 0) (crcSet 0).init l)

/-! ### Bytes -/

/-- A number as n bytes, little-endian. -/
def toBytes (n v : Nat) : List Nat := (List.range n).map (fun i => v / 256 ^ i % 256)

/-! ### Streams (R338) -/

/-- CRC-32 and Adler-32 of some bytes. -/
def crc32 (l : List Nat) : Nat := crcValue (crcSet 1) (crcRun (crcSet 1) (crcSet 1).init l)
def adler32 (l : List Nat) : Nat := crcRun (crcSet 6) (crcSet 6).init l

/-- A DEFLATE stream that begins at a place, and a trailer after it that must hold `want` of the data. -/
def inflateWith (l : List Nat) (start n : Nat) (want : List Nat → List Nat) : Unpacked :=
  let d := inflate (l.drop start)
  let p := start + d.pos
  if d.status ≠ 0 then { d with pos := p }
  else if l.length < p + n then ⟨Codec.truncated, d.rev, p⟩
  else if (l.drop p).take n ≠ want d.rev.reverse then ⟨Codec.corrupt, d.rev, p⟩
  else ⟨Codec.ok, d.rev, p + n⟩

/-- A zlib stream (RFC 1950): a preset dictionary is not supported, the Adler-32 is checked. -/
def zlibStream (l : List Nat) : Unpacked :=
  let cmf := l.getD 0 0
  let flg := l.getD 1 0
  if l.length < 2 then ⟨Codec.truncated, [], 0⟩
  else if cmf % 16 ≠ 8 ∨ 7 < cmf / 16 ∨ (cmf * 256 + flg) % 31 ≠ 0 then ⟨Codec.corrupt, [], 0⟩
  else if flg / 32 % 2 = 1 then ⟨Codec.unsupported, [], 2⟩
  else inflateWith l 2 4 (fun d => (toBytes 4 (adler32 d)).reverse)

/-- The place after a zero-terminated field. -/
def afterZero (l : List Nat) (pos : Nat) : Except Nat Nat :=
  let n := ((l.drop pos).takeWhile (· != 0)).length
  if l.length ≤ pos + n then .error Codec.truncated else .ok (pos + n + 1)

/-- The length of a gzip member's header (RFC 1952): FEXTRA, FNAME and FCOMMENT are skipped, FHCRC is checked. -/
def gzipHeader (l : List Nat) : Except Nat Nat :=
  let flg := l.getD 3 0
  let bad : Bool := [0x1F, 0x8B, 8].zipIdx.any (fun e => decide (e.2 < l.length) && l.getD e.2 0 != e.1)
  if bad ∨ (4 ≤ l.length ∧ 32 ≤ flg) then .error Codec.corrupt
  else if l.length < 10 then .error Codec.truncated
  else do
    let p1 ← (if flg / 4 % 2 = 1 then (if l.length < 12 then .error Codec.truncated else .ok (12 + ofBytes ((l.drop 10).take 2))) else .ok 10)
    let p2 ← (if flg / 8 % 2 = 1 then afterZero l p1 else .ok p1)
    let p3 ← (if flg / 16 % 2 = 1 then afterZero l p2 else .ok p2)
    if flg / 2 % 2 = 0 then (if l.length < p3 then .error Codec.truncated else .ok p3)
    else if l.length < p3 + 2 then .error Codec.truncated
    else if ofBytes ((l.drop p3).take 2) ≠ crc32 (l.take p3) % 65536 then .error Codec.corrupt
    else .ok (p3 + 2)

/-- A gzip stream of one member: CRC-32 and ISIZE are checked. Input that goes on with a further member's identification is not supported; other bytes after the member
are ignored (R338, R341). (DEDUCED, assumption 132.) -/
def gzipStream (l : List Nat) : Unpacked :=
  match gzipHeader l with
  | .error e => ⟨e, [], 0⟩
  | .ok h =>
    let d := inflateWith l h 8 (fun d => toBytes 4 (crc32 d) ++ toBytes 4 d.length)
    if d.status = 0 ∧ (l.drop d.pos).take 2 = [0x1F, 0x8B] then { d with status := Codec.unsupported } else d

/-- How a decoding ended: its status in R335's codes, the bytes before that, and the bytes consumed. -/
structure Decoded where
  status : Nat
  out : List Nat
  used : Nat
  deriving DecidableEq, Repr

/-- A stream of one of the formats 0 to 5. -/
def decodeStream (fmt : Nat) (l : List Nat) : Decoded :=
  let d := match fmt with
    | 0 => inflate l
    | 1 => zlibStream l
    | 2 => gzipStream l
    | 3 => lz4Block l
    | 4 => lz4Frame l (l.length + 1) 0
    | _ => zstdFrame l (l.length + 1) 0
  { status := d.status, out := d.rev.reverse, used := min d.pos l.length }

/-! ### Compression (R338 to R340, R345) -/

/-- What a COMPRESS job writes at most, where the input has n bytes (R339). -/
def compressBound (fmt b n : Nat) : Nat :=
  let deflate := max 2 (n + 5 * ((n + 65534) / 65535))
  match fmt with
  | 0 => deflate
  | 1 => deflate + 6
  | 2 => deflate + 18
  | 3 => n + n / 255 + 16
  | 4 => n + n / 255 + 16 + 15
  | 5 => n + 3 * ((n + 131071) / 131072) + 18
  | _ => 16 + (n + b - 1) / b * (8 + b)

/-- The stream of no data (R345). The LZ4 frame's header checksum byte is that of its format's standard. (PRESUMED, assumption 42.) -/
def emptyStream (fmt : Nat) : List Nat :=
  match fmt with
  | 0 => [0x03, 0x00]
  | 1 => [0x78, 0x01, 0x03, 0x00, 0x00, 0x00, 0x00, 0x01]
  | 2 => [0x1F, 0x8B, 0x08, 0, 0, 0, 0, 0, 0, 0xFF, 0x03, 0x00, 0, 0, 0, 0, 0, 0, 0, 0]
  | 3 => [0x00]
  | 4 => [0x04, 0x22, 0x4D, 0x18, 0x64, 0x70, 0xB9, 0, 0, 0, 0, 0x05, 0x5D, 0xCC, 0x02]
  | _ => [0x28, 0xB5, 0x2F, 0xFD, 0x24, 0x00, 0x01, 0x00, 0x00, 0x99, 0xE9, 0xD8, 0x51]

/-- Stored DEFLATE blocks. -/
def storedDeflate : Nat → List Nat → List Nat
  | 0, _ => []
  | f + 1, l =>
    let n := min l.length 65535
    let last : Bool := decide (l.length ≤ 65535)
    last.toNat :: (toBytes 2 n ++ toBytes 2 (65535 - n) ++ l.take n ++ (if last then [] else storedDeflate f (l.drop n)))

/-- An LZ4 block of literals alone. -/
def storedLz4 (l : List Nat) : List Nat :=
  let n := l.length
  if n < 15 then 16 * n :: l else 240 :: (List.replicate ((n - 15) / 255) 255 ++ [(n - 15) % 255] ++ l)

/-- Raw Zstandard blocks. -/
def rawZstd : Nat → List Nat → List Nat
  | 0, _ => []
  | f + 1, l =>
    let n := min l.length (2 ^ 17)
    let last : Bool := decide (l.length ≤ 2 ^ 17)
    toBytes 3 (last.toNat + 8 * n) ++ l.take n ++ (if last then [] else rawZstd f (l.drop n))

/-- A Zstandard frame of raw blocks, with or without its content checksum. -/
def storedZstd (sum : Bool) (l : List Nat) : List Nat :=
  let n := l.length
  let flag := if n < 256 then 0 else if n < 65792 then 1 else 2
  toBytes 4 0xFD2FB528 ++ [0x20 + flag * 64 + (if sum then 4 else 0)] ++ (match flag with
    | 0 => [n]
    | 1 => toBytes 2 (n - 256)
    | _ => toBytes 4 n) ++ rawZstd (n + 1) l ++ (if sum then toBytes 4 (xxh64 l) else [])

/-- The stored or raw form of a raw DEFLATE stream, an LZ4 block or a Zstandard frame (R339). -/
def storedStream (fmt : Nat) (sum : Bool) (l : List Nat) : List Nat :=
  match fmt with
  | 0 => storedDeflate (l.length + 1) l
  | 3 => storedLz4 l
  | _ => storedZstd sum l

/-- Whether some bytes are one stream of a format that decodes to the data, within R339's bound, and for Zstandard one frame that carries a content checksum or none. -/
def encodes (fmt : Nat) (sum : Bool) (l e : List Nat) : Bool :=
  let d := decodeStream fmt e
  d.status == 0 && d.out == l && d.used == e.length && decide (e.length ≤ compressBound fmt 0 l.length)
    && (fmt != 5 || (ofBytes (e.take 4) == 0xFD2FB528 && (e.getD 4 0 / 4 % 2 == 1) == sum))

/-- A raw DEFLATE stream, an LZ4 block or a Zstandard frame of the data at a level. Which of the valid encodings it is, the spec leaves open (R338): an open value that is taken where it encodes the
data, and the stored form where it does not. (DESIGN CHOICE, assumption 41.) -/
def encodeStream (fmt level : Nat) (sum : Bool) (l : List Nat) : List Nat :=
  let e := (Config.encode fmt level l).map (· % 256)
  if encodes fmt sum l e then e else storedStream fmt sum l

/-- The FORMAT that a container's INNER names: DEFLATE raw, LZ4 block, Zstandard (R331). -/
def innerFormat (inner : Nat) : Nat := if inner = 0 then 0 else if inner = 1 then 3 else 5

/-- The blocks of a container, of b bytes each (R340). -/
def containerBlocks (inner level b : Nat) (crc : Bool) : Nat → List Nat → List Nat
  | 0, _ => []
  | f + 1, l =>
    if l.isEmpty then []
    else
      let blk := l.take b
      let enc := encodeStream (innerFormat inner) level false blk
      let raw : Bool := decide (blk.length ≤ enc.length)
      let body := if raw then blk else enc
      toBytes 4 (body.length % 2 ^ 24 + (if raw then 2 ^ 24 else 0)) ++ body ++ (if crc then toBytes 4 (crc32c blk) else [])
        ++ containerBlocks inner level b crc f (l.drop b)

/-- The stream of a COMPRESS job for its FORMAT, LEVEL and container fields (R338 to R340, R345). LEVEL 0 is level 3. LZ4 has one setting; its frame holds one block, since a job's data is below 4 MiB. -/
def compressed (fmt level code inner : Nat) (crc : Bool) (l : List Nat) : List Nat :=
  let lv := if fmt = 3 ∨ fmt = 4 then 1 else if level = 0 then 3 else level
  let b := 4096 * 2 ^ code
  if fmt = 6 then
    toBytes 4 0x314B4C42 ++ [1, code % 8 + inner % 4 * 8 + crc.toNat * 32, 0, 0] ++ toBytes 8 l.length ++ containerBlocks inner (if level = 0 then 3 else level) b crc l.length l
  else if l.isEmpty then emptyStream fmt
  else match fmt with
    | 0 => encodeStream 0 lv false l
    | 1 => [0x78, 0x01] ++ encodeStream 0 lv false l ++ (toBytes 4 (adler32 l)).reverse
    | 2 => [0x1F, 0x8B, 8, 0, 0, 0, 0, 0, 0, 0xFF] ++ encodeStream 0 lv false l ++ toBytes 4 (crc32 l) ++ toBytes 4 l.length
    | 3 => encodeStream 3 lv false l
    | 4 =>
      let e := encodeStream 3 lv false l
      [0x04, 0x22, 0x4D, 0x18, 0x64, 0x70, 0xB9] ++ (if e.length < l.length then toBytes 4 e.length ++ e else toBytes 4 (2 ^ 31 + l.length) ++ l)
        ++ [0, 0, 0, 0] ++ toBytes 4 (xxh32 l)
    | _ => encodeStream 5 lv true l

/-! ### Decompression (R340, R341) -/

/-- The blocks of a container: `left` bytes of data still to come in blocks of b (R340). -/
def decodeBlocks (inner b : Nat) (crc : Bool) : Nat → Nat → List Nat → List Nat → Nat → Decoded
  | 0, _, _, out, used => { status := 4, out := out, used := used }
  | f + 1, left, l, out, used =>
    if left = 0 then { status := 0, out := out, used := used }
    else
      let n := min b left
      let hd := ofBytes (l.take 4)
      let len := hd % 2 ^ 24
      let raw : Bool := hd / 2 ^ 24 % 2 == 1
      let tail := if crc then 4 else 0
      if l.length < 4 ∨ l.length < 4 + len + tail then { status := 5, out := out, used := used + l.length }
      else
        let body := (l.drop 4).take len
        let d := if raw then { status := 0, out := body, used := len } else decodeStream (innerFormat inner) body
        let want := ofBytes ((l.drop (4 + len)).take 4)
        if hd / 2 ^ 25 ≠ 0 ∨ (raw = true ∧ len ≠ n) then { status := 4, out := out, used := used }
        else if d.status ≠ 0 then { status := d.status, out := out ++ d.out, used := used + 4 + d.used }
        else if d.out.length ≠ n ∨ (crc = true ∧ want ≠ crc32c d.out) then { status := 4, out := out, used := used }
        else decodeBlocks inner b crc f (left - n) (l.drop (4 + len + tail)) (out ++ d.out) (used + 4 + len + tail)

/-- A blocked container (R340). -/
def decodeContainer (l : List Nat) : Decoded :=
  let fl := l.getD 5 0
  if l.length < 16 then { status := 5, out := [], used := l.length }
  else if ofBytes (l.take 4) ≠ 0x314B4C42 ∨ l.getD 4 0 ≠ 1 ∨ 64 ≤ fl ∨ 4 < fl % 8 ∨ fl / 8 % 4 = 3 ∨ l.getD 6 0 ≠ 0 ∨ l.getD 7 0 ≠ 0 then
    { status := 4, out := [], used := 0 }
  else decodeBlocks (fl / 8 % 4) (4096 * 2 ^ (fl % 8)) (fl / 32 == 1) (l.length + 1) (ofBytes ((l.drop 8).take 8)) (l.drop 16) [] 16

/-- What a DECOMPRESS job's input decodes to, under its DST_LIMIT (R341): OUTPUT_LIMIT when the next byte would exceed it. -/
def decompressed (fmt limit : Nat) (l : List Nat) : Decoded :=
  let d := if fmt = 6 then decodeContainer l else decodeStream fmt l
  if limit < d.out.length then { d with status := 3 } else d

end Sys2Proof.Machine
end

