-- ==== Sys2Proof/Machine/Ring.lean ====
section
/-! DEFINITION. Descriptor rings and their completions (R328, R329, R334, R369), shared by copy channels and host transfer queues; range accesses of an I/O agent
(R325, R337); and the interrupts of a virtual instance (R372). -/
namespace Sys2Proof.Machine

/-! ### The registers of a ring page -/

/-- A ring: the unit and entry of its registers, and whether it is a copy channel's page or a queue's. -/
structure Ring where
  de : Bool
  u : Nat
  i : Nat
  deriving DecidableEq, Repr

def Ring.fld (q : Ring) (a b : Fld) : Fld := if q.de then a else b
def State.rget (s : State) (q : Ring) (a b : Fld) : Nat := s.getF (q.fld a b) q.u q.i
def State.rset (s : State) (q : Ring) (a b : Fld) (v : Nat) : State := s.setF (q.fld a b) q.u q.i v

def State.rLog (s : State) (q : Ring) : Nat := s.rget q F.deChRing_sizeLog F.hpTqRing_sizeLog
def State.rBase (s : State) (q : Ring) : Nat := s.rget q F.deChRing_base F.hpTqRing_base
def State.rCpl (s : State) (q : Ring) : Nat := s.rget q F.deChCpl_base F.hpTqCpl_base
def State.rTail (s : State) (q : Ring) : Nat := s.rget q F.deChTail_tail F.hpTqTail_tail
def State.rCplHead (s : State) (q : Ring) : Nat := s.rget q F.deChCplHead_cplHead F.hpTqCplHead_cplHead
def State.rHead (s : State) (q : Ring) : Nat := s.rget q F.deChStatus_head F.hpTqStatus_head
def State.rDone (s : State) (q : Ring) : Nat := s.rget q F.deChStatus_done F.hpTqStatus_done
def State.rState (s : State) (q : Ring) : Nat := s.rget q F.deChStatus_state F.hpTqStatus_state
def State.setRHead (s : State) (q : Ring) (v : Nat) : State := s.rset q F.deChStatus_head F.hpTqStatus_head v
def State.setRState (s : State) (q : Ring) (v : Nat) : State := s.rset q F.deChStatus_state F.hpTqStatus_state v
def State.rReject (s : State) (q : Ring) : State := s.rset q F.deChStatus_writeReject F.hpTqStatus_writeReject 1

/-- The registers of a ring's page. -/
def Ring.regs (q : Ring) : List RegName :=
  if q.de then [.deChRing, .deChCpl, .deChTail, .deChCplHead, .deChStatus, .deChCtrl, .deChMsi, .deChAlive]
  else [.hpTqRing, .hpTqCpl, .hpTqTail, .hpTqCplHead, .hpTqStatus, .hpTqCtrl]

/-- Every register of a page at its reset value. -/
def State.ringReset (s : State) (q : Ring) : State := q.regs.foldl (fun s r => s.setRegWord r q.u q.i r.resetConst) s

/-- STATE follows the indices unless the ring is stopped or resetting (R328); a channel that is not enabled and has nothing outstanding reads IDLE (R326). -/
def State.ringSync (s : State) (q : Ring) (enabled : Bool) : State :=
  if s.rState q = 2 ∨ s.rState q = 3 then s
  else
    let idle : Bool := s.rHead q == s.rDone q && (s.rDone q == s.rTail q || !enabled)
    s.setRState q (if idle then 0 else 1)

/-- A TAIL write (R328). -/
def State.tailWrite (s : State) (q : Ring) (v : Word) : State :=
  let t := v.toNat % 65536
  if (t + 65536 - s.rCplHead q) % 65536 ≤ 2 ^ s.rLog q then s.rset q F.deChTail_tail F.hpTqTail_tail t else s.rReject q

/-- A CPL_HEAD write (R328). -/
def State.cplHeadWrite (s : State) (q : Ring) (v : Word) : State :=
  let t := v.toNat % 65536
  let c := s.rCplHead q
  if (t + 65536 - c) % 65536 ≤ (s.rDone q + 65536 - c) % 65536 then s.rset q F.deChCplHead_cplHead F.hpTqCplHead_cplHead t else s.rReject q

/-- A write that moves a ring: the descriptor ring, or with `cpl` the completion ring (R328). -/
def State.ringWrite (s : State) (q : Ring) (cpl : Bool) (v : Word) : State :=
  if s.rState q = 0 ∧ s.rCplHead q = s.rDone q then
    s.writeReg (if q.de then (if cpl then .deChCpl else .deChRing) else (if cpl then .hpTqCpl else .hpTqRing)) q.u q.i v allBytes
  else s.rReject q

/-! ### Range accesses (R325, R335, R337) -/

/-- A job status for an error answer (R335). -/
def memStatus (code : Nat) : Nat := if code = Err.permission then 8 else 9

/-- Read n bytes, sector by sector in ascending order: the status of the first failure, whether any sector was poisoned, the bytes read, and the state. Poison ends
the read where `stop` is set. -/
def State.readRange (s : State) (wid : Nat) (stop : Bool) : Nat → Nat → Nat → List (List Nat) → Nat × Bool × List (List Nat) × State
  | 0, _, _, acc => (0, false, acc, s)
  | _ + 1, _, 0, acc => (0, false, acc, s)
  | f + 1, pa, n, acc =>
    let off := pa % 64
    let len := min n (64 - off)
    let r := s.cohRead wid (pa / 64)
    match r.1 with
    | .err c _ => (memStatus c, false, acc, r.2)
    | .done => (0, false, acc, r.2)
    | .data d p =>
      if p && stop then (0x0A, true, acc, r.2)
      else
        let q := State.readRange r.2 wid stop f (pa + len) (n - len) (toBytes len (sectorBytes d off len) :: acc)
        (q.1, p || q.2.1, q.2.2)

/-- Read n bytes for a job: status and bytes. -/
def State.jobRead (s : State) (wid pa n : Nat) : Nat × List Nat × State :=
  let r := s.readRange wid true (n / 64 + 2) pa n []
  (r.1, r.2.2.1.reverse.flatten, r.2.2.2)

/-- Write bytes for a job, sector by sector: the status of the first failure. -/
def State.writeRange (s : State) (wid : Nat) : Nat → Nat → List Nat → Nat × State
  | 0, _, _ => (0, s)
  | f + 1, pa, l =>
    if l.isEmpty then (0, s)
    else
      let off := pa % 64
      let len := min l.length (64 - off)
      let r := s.cohWrite wid (pa / 64) (sectorAt (ofBytes (l.take len)) off len) (spanMask off len) false
      match r.1 with
      | some (c, _) => (memStatus c, r.2)
      | none => State.writeRange r.2 wid f (pa + len) (l.drop len)

/-- Write bytes for a job. -/
def State.jobWrite (s : State) (wid pa : Nat) (l : List Nat) : Nat × State := s.writeRange wid (l.length / 64 + 2) pa l

/-- The bytes of a range become unspecified (R337): open values where the world may write. (DESIGN CHOICE, assumption 43.) -/
def State.unspecify (s : State) (wid : Nat) : Nat → Nat → Nat → State
  | 0, _, _ => s
  | _ + 1, _, 0 => s
  | f + 1, pa, n =>
    let off := pa % 64
    let len := min n (64 - off)
    let s1 := { s with fresh := s.fresh + 1 }
    State.unspecify (s1.cohWrite wid (pa / 64) (Config.freePlain s.fresh) (spanMask off len) false).2 wid f (pa + len) (n - len)

/-- Whether a range lies in one of segments 0x0 to 0xD (R333). -/
def rangeOk (pa n : Nat) : Bool := decide (pa / 2 ^ 48 ≤ 0xD) && (n == 0 || decide ((pa + n - 1) / 2 ^ 48 = pa / 2 ^ 48))

/-! ### Interrupts of an instance (R372) -/

def State.vf (s : State) (i : Nat) : Vf := s.vfs.get {} i
def State.setVf (s : State) (i : Nat) (v : Vf) : State := { s with vfs := s.vfs.set {} i v }
def State.hp (s : State) (k : Nat) : Hp := s.hps.get {} k
def State.setHp (s : State) (k : Nat) (v : Hp) : State := { s with hps := s.hps.set {} k v }
def State.modHp (s : State) (k : Nat) (f : Hp → Hp) : State := s.setHp k (f (s.hp k))

/-- Send a TLP from a port. -/
def State.tlp (s : State) (k : Nat) (t : Tlp) : State := s.modHp k (fun h => { h with out := h.out ++ [t] })

/-- Vector v of a VF: sent, or pending while masked or without Bus Master Enable (R372, R374). -/
def State.vfInt (s : State) (i v : Nat) : State :=
  let f := s.vf i
  if !s.isF F.hpViCfg_created 0 i then s
  else if f.msixEn && !f.msixMask && !f.vecMask.getLsbD v && f.bme then
    s.tlp 0 { kind := .msix, rid := i, addr := (f.vecAddr.get 0 v).toNat, data := (f.vecData.get 0 v).toNat, len := 4 }
  else s.setVf i { f with pend := f.pend ||| (1#8 <<< v) }

/-! ### Completion records (R334, R336, R370) -/

/-- Write the record of the ring's next completion, if its job has ended (R328, R336). The bytes of a record and its write are the world's. -/
def State.cplOne (s : State) (q : Ring) (wid : Nat) (jobs : List Job) (irq : State → Job → State) : Option (List Job × State) :=
  if s.rState q = 2 ∨ s.rState q = 3 then none
  else
    match jobs.find? (fun j => j.scan.isNone) with
    | none => none
    | some j =>
      match j.record with
      | none => none
      | some ws =>
        let n := if q.de then 32 else 16
        let pa := s.rCpl q * 4096 + n * (s.rDone q % 2 ^ s.rLog q)
        let r := s.jobWrite wid pa (ws.flatMap (fun w => toBytes 8 w.toNat))
        let left := jobs.erase j
        if r.1 ≠ 0 then some (left, (r.2.rset q F.deChStatus_cplErr F.hpTqStatus_cplErr 1).setRState q 2)
        else
          let s1 := r.2.rset q F.deChStatus_done F.hpTqStatus_done (r.2.rDone q + 1)
          some (left, if j.int then irq s1 j else s1)

/-- Write every record that may be written. -/
def State.cplPump (s : State) (q : Ring) (wid : Nat) (jobs : List Job) (irq : State → Job → State) : Nat → List Job × State
  | 0 => (jobs, s)
  | f + 1 =>
    match s.cplOne q wid jobs irq with
    | none => (jobs, s)
    | some (l, s1) => State.cplPump s1 q wid l irq f

/-- PHASE of an index (R334). -/
def phase (index log : Nat) : Nat := if index / 2 ^ log % 2 = 0 then 1 else 0

/-- Read the descriptor of index i: its words, or none on an error answer or poison (R328). (DEDUCED, assumption 46.) -/
def State.descriptor (s : State) (q : Ring) (wid i : Nat) : Option (List Word) × State :=
  let n := if q.de then 64 else 32
  let r := s.jobRead wid (s.rBase q * 4096 + n * (i % 2 ^ s.rLog q)) n
  if r.1 ≠ 0 then (none, r.2.2) else (some ((List.range (n / 8)).map (fun k => w64 (ofBytes ((r.2.1.drop (8 * k)).take 8)))), r.2.2)

end Sys2Proof.Machine
end

