-- ==== Sys2Proof/Machine/SysSteps.lean ====
section
/-! DEFINITION. Timers (R40, R41), interrupt files (R46, R47), the APLIC and its pins (R48, R318), CORE_SPEC_CTRL (R61, R62), and the broadcast registers: memory
attributes (R88, R89) and shelves (R97 to R101). -/
namespace Sys2Proof.Machine

/-! ### Timers -/

/-- CORE_MTIME_WRITE (R41): only WID 0. -/
def execCoreMtimeWrite (w : Issuer) (v : Word) (s : State) : Host.Outcome State Fault Refusal :=
  s.keeperOnly w svcStop (fun s => s.setRegWord .coreMtime 0 0 v)

/-- CORE_MTIMECMP_WRITE (R41): WID 0 or the WID of the hart's current seat. -/
def execCoreMtimecmpWrite (w : Issuer) (h : BitVec 8) (v : Word) (s : State) : Host.Outcome State Fault Refusal :=
  let wid := s.issuerWid w
  s.guarded w svcStop (wid == 0 || wid == s.seat h.toNat) (fun s => s.setRegWord .coreMtimecmp 0 h.toNat v)

/-- Whether a timer of a hart has reached its compare value: the machine timer (0), and where menvcfg and henvcfg enable them the supervisor's (1) and the virtual
supervisor's (2) (R31, R40). The pending bits follow the comparison at every moment. -/
def State.timerDue (s : State) (h level : Nat) : Bool :=
  match level with
  | 0 => decide (s.getF F.coreMtimecmp_compare 0 h ≤ s.mtime)
  | 1 => bitsOf (s.csr h 0x30A) 63 1 == 1 && decide ((s.csr h 0x14D).toNat ≤ s.mtime)
  | _ => bitsOf (s.csr h 0x60A) 63 1 == 1 && decide ((s.csr h 0x24D).toNat ≤ (s.mtime + (s.csr h 0x605).toNat) % 2 ^ 64)

/-- MTIME_COMPARE_MATCH (R40): a timer that is due and enabled in mie ends a WFI of its hart. -/
def execMtimeCompareMatch (hb : BitVec 8) (level : Fin 3) (s : State) : Host.Outcome State Fault Refusal :=
  let h := hb.toNat
  let bit := if level.val = 0 then 7 else if level.val = 1 then 5 else 6
  ok (if s.timerDue h level.val ∧ bitsOf (s.csr h 0x304) bit 1 = 1 ∧ (s.hart h).wait = .wfi then s.modHart h (fun x => { x with wait := .run }) else s)

/-! ### Interrupt files -/

/-- Whether a write to an interrupt file takes effect: WID 0, the WID of the hart's seat, or a source attributed to that WID (R47); during a lending only WID 0's (R298). -/
def State.fileWriteOk (s : State) (h wid : Nat) (behalf : Option Nat) : Bool :=
  wid == 0 || (!s.isF F.wldSeat_lending 0 h && (wid == s.seat h || behalf == some (s.seat h)))

/-- IMSIC_SETEIPNUM_WRITE (R46, R47): file 0 of a hart is its machine-level file, the others follow it. -/
def execImsicSeteipnumWrite (w : Issuer) (h : BitVec 8) (file : Fin 8) (machine : Bool) (id : BitVec 8) (behalf : Option (BitVec 6)) (s : State) :
    Host.Outcome State Fault Refusal :=
  if s.holds then ok (s.holdWrite w (.file (s.issuerWid w) h.toNat (if machine then 0 else 1 + file.val) id.toNat))
  else s.guardedAt w .core (s.physCore h.toNat) (s.fileWriteOk h.toNat (s.issuerWid w) (behalf.map (·.toNat)))
    (fun s => s.setIrq h.toNat (if machine then 0 else 1 + file.val) id.toNat)

/-! ### The APLIC -/

/-- The world a source is attributed to (R318). -/
def State.srcWid (s : State) (i : Nat) : Nat :=
  if 1 ≤ i ∧ i ≤ 32 then s.getF (F.wldGpioWid_wid ((i - 1) % 8)) 0 ((i - 1) / 8) else if i ≤ 41 ∧ 33 ≤ i then 2 else 0

/-- A source's rectified input changes: edges and levels by the source mode (R48). -/
def AplicSrc.input (a : AplicSrc) (old new : Bool) : AplicSrc :=
  match a.sm with
  | 4 => if !old && new then { a with pend := true } else a
  | 5 => if old && !new then { a with pend := true } else a
  | 6 => if !old && new then { a with pend := true } else if !new then { a with pend := false } else a
  | 7 => if old && !new then { a with pend := true } else if new then { a with pend := false } else a
  | _ => a

/-- GPIO_INPUT_CHANGE (R48): the pin's level drives its source; the source of a pin attributed to WID 0 is disabled (R317). -/
def execGpioInputChange (pin : Fin 32) (level : Bool) (s : State) : Host.Outcome State Fault Refusal :=
  let p := s.pins.get {} pin.val
  let i := pin.val + 1
  let s1 := { s with pins := s.pins.set {} pin.val { p with level := level } }
  if p.isOut ∨ s.srcWid i = 0 then ok s1 else ok (s1.setAplic i ((s1.aplicSrc i).input p.level level))

/-- Send a source's MSI (R48, R318): to the target hart's file, under R47 with the source's WID. -/
def State.sendMsi (s : State) (i : Nat) : State :=
  let a := s.aplicSrc i
  let child := a.cfg.getLsbD 10
  let h := a.target.toNat / 2 ^ 18 % 256
  let g := a.target.toNat / 2 ^ 12 % 64
  let file := if child then 1 + g % 8 else 0
  let s1 := s.setAplic i { a with pend := false }
  let wid := s.srcWid i
  if s.holds then
    (if s.pw.held.length < 64 then { s1 with pw := { s1.pw with held := s1.pw.held ++ [.file wid h file (a.target.toNat % 256)] } } else s)
  else if s.fileWriteOk h (s.srcWid i) (some (s.srcWid i)) then s1.setIrq h file (a.target.toNat % 256) else s1

/-- Whether a source's domain delivers interrupts (domaincfg.IE). -/
def State.aplicOn (s : State) (i : Nat) : Bool :=
  let a := s.aplicSrc i
  s.aplicDom.getLsbD (if a.cfg.getLsbD 10 then 1 else 0)

/-- APLIC_SOURCE_EVENT (R48): the source becomes pending, and where it and its domain are enabled its MSI is sent. Reserved sources do nothing. -/
def execAplicSourceEvent (src : Fin 64) (s : State) : Host.Outcome State Fault Refusal :=
  let i := src.val
  if i = 0 ∨ 42 ≤ i ∨ ((s.aplicSrc i).sm = 0) ∨ (i ≤ 32 ∧ s.srcWid i = 0) then ok s
  else
    let s1 := s.raiseSrc i
    if (s1.aplicSrc i).en && s1.aplicOn i then ok (s1.sendMsi i) else ok s1

/-! ### Speculation controls -/

/-- The effective bits of CORE_SPEC_CTRL: the fields, or 1 while the core's seat is a carrel (R61, R295). -/
def State.specEff (s : State) (c : Nat) : State :=
  let carrel : Bool := match s.hartOf c with
    | some h => decide (3 ≤ s.seat h)
    | none => false
  (s.setF F.coreSpecCtrl_predFlushEff c 0 (s.isF F.coreSpecCtrl_predFlush c 0 || carrel).toNat).setF F.coreSpecCtrl_fillDeferEff c 0
    (s.isF F.coreSpecCtrl_fillDefer c 0 || carrel).toNat

/-- Who may write the core's controls: WID 0, or WID 2 while the core is seated in the Open world (R62, R94). -/
def State.coreCtrlMay (s : State) (w : Issuer) (c : Nat) : Bool :=
  let wid := s.issuerWid w
  wid == 0 || (wid == 2 && (match s.hartOf c with
    | some h => s.seat h == 2
    | none => false))

/-- A write of CORE_SPEC_CTRL: it takes effect at the next instruction boundary of the core's hart, at once where nothing is in flight (R62). -/
def State.specWrite (s : State) (c : Nat) (v : Word) : State :=
  let s1 := s.modCore c (fun k => { k with specNext := some v })
  match s.hartOf c with
  | some h => if s.runs h && !(s.hart h).infl.isEmpty then s1 else s1.specBoundary c
  | none => s1.specBoundary c

/-- CORE_SPEC_CTRL_WRITE (R62). -/
def execCoreSpecCtrlWrite (w : Issuer) (core : Fin 272) (v : Word) (s : State) : Host.Outcome State Fault Refusal :=
  if s.holds then ok (s.holdWrite w (.reg (s.issuerWid w) (regAddr .coreSpecCtrl core.val 0) v allBytes))
  else s.guardedAt w .core core.val (s.coreCtrlMay w core.val) (fun s => s.specWrite core.val v)

/-! ### Broadcast registers -/

/-- The issuing hart stalls on its store. -/
def State.stall (s : State) (w : Issuer) (on : Bool) : State :=
  match w.hart with
  | some h => s.modHart h.toNat (fun x => { x with stopped := on })
  | none => s

/-- A broadcast write: performed, and complete only when every copy has acknowledged it (R89). -/
def State.broadcast (s : State) (w : Issuer) (f : State → State) : Host.Outcome State Fault Refusal :=
  if s.issuerWid w = 0 then
    let s1 := (f s).stall w true
    ok { s1 with broadcasts := s1.broadcasts ++ [w] }
  else ok (s.refuse w svcStop true Err.permission)

/-- CORE_MEMATTR_WRITE (R88, R89): CORE_MEMATTR_n, or with `lim` CORE_MEMATTR_LIM_n. -/
def execCoreMemattrWrite (w : Issuer) (n : Fin 16) (lim : Bool) (v : Word) (s : State) : Host.Outcome State Fault Refusal :=
  s.broadcast w (fun s => s.writeReg (if lim then .coreMemattrLim else .coreMemattr) 0 n.val v allBytes)

/-- BROADCAST_COMPLETE (R89): the writes complete. -/
def execBroadcastComplete (s : State) : Host.Outcome State Fault Refusal :=
  ok (s.broadcasts.foldl (fun s w => (s.stall w false).accept w svcStop) { s with broadcasts := [] })

/-! ### Shelves -/

/-- The WIDs of a class (R98). -/
def State.classWids (s : State) (c : Nat) : List Nat := (List.range 64).filter (fun w => s.classOf w == c)
def State.llcMask (s : State) (c : Nat) : Nat := s.getF F.llcShelf_llcWays 0 c
def State.dirMask (s : State) (c : Nat) : Nat := s.getF F.llcShelf_dirWays 0 c
/-- Whether a class is sealed (R99). -/
def State.sealedClass (s : State) (c : Nat) : Bool := s.getF F.llcShelfCtrl_sealed 0 0 / 2 ^ c % 2 == 1

/-- The rules of R100. -/
def State.shelfOk (s : State) : Bool :=
  let cs := List.range 16
  cs.all (fun c => (s.classWids c).isEmpty || s.dirMask c != 0)
    && cs.all (fun c => !s.sealedClass c || (s.classWids c).length == 1)
    && cs.all (fun c => !s.sealedClass c || cs.all (fun b => b == c || (s.classWids b).isEmpty
        || (Nat.land (s.llcMask c) (s.llcMask b) == 0 && Nat.land (s.dirMask c) (s.dirMask b) == 0)))
    && decide ((cs.map (fun c => s.getF F.llcShelf_hqReserve 0 c)).foldl (· + ·) 0 ≤ 32)

/-- The ways that a change flushes (R101), for masks read by `m`. -/
def flushMask (old new : State) (m : State → Nat → Nat) : Nat :=
  (List.range 16).foldl (fun a c =>
    let so := old.sealedClass c
    let sn := new.sealedClass c
    let enter := if so && sn then xorNat (m old c) (m new c) else 0
    let whole := if so != sn || (so && sn && old.classWids c != new.classWids c) then Nat.lor (m old c) (m new c) else 0
    Nat.lor a (Nat.lor enter whole)) 0

/-- A shelf write: refused whole under R100, or broadcast with the way flush of R101. (DEDUCED, assumption 104.) -/
def State.shelfWrite (s : State) (w : Issuer) (r : RegName) (i : Nat) (v : Word) : Host.Outcome State Fault Refusal :=
  if s.issuerWid w ≠ 0 then ok (s.refuse w svcStop true Err.permission)
  else
    let n := s.writeReg r 0 i v allBytes
    if !n.shelfOk then ok ((s.setF F.llcShelfCtrl_reject 0 0 1).accept w svcStop)
    else
      let fl := flushMask s n State.llcMask
      let fd := flushMask s n State.dirMask
      if fl = 0 ∧ fd = 0 then ok { (n.stall w true) with broadcasts := n.broadcasts ++ [w] }
      else
        let n1 := (n.setF F.llcShelfCtrl_flushing 0 0 1).stall w true
        ok { n1 with flushWays := n1.flushWays ||| BitVec.ofNat 12 fl, flushDirWays := n1.flushDirWays ||| BitVec.ofNat 16 fd,
                     flushIssuers := n1.flushIssuers ++ [w] }

/-- LLC_SHELF_WRITE (R97, R100, R101). -/
def execLlcShelfWrite (w : Issuer) (c : Fin 16) (v : Word) (s : State) : Host.Outcome State Fault Refusal := s.shelfWrite w .llcShelf c.val v

/-- LLC_WID_CLASS_WRITE (R98, R100, R101). -/
def execLlcWidClassWrite (w : Issuer) (k : Fin 4) (v : Word) (s : State) : Host.Outcome State Fault Refusal := s.shelfWrite w .llcWidClass k.val v

/-- LLC_SHELF_CTRL_WRITE (R99 to R101). -/
def execLlcShelfCtrlWrite (w : Issuer) (v : Word) (s : State) : Host.Outcome State Fault Refusal := s.shelfWrite w .llcShelfCtrl 0 v

/-- What the flush of R101 covers: the entries of the affected directory ways and the lines of the affected LLC ways, in every slice. -/
def State.shelfDirs (s : State) (k : Nat) (_ : DirEnt) : Bool := s.flushDirWays.getLsbD (k % 16)
def State.shelfLines (s : State) (k : Nat) : Bool := s.flushWays.getLsbD (k % 12)

/-- SHELF_FLUSH_COMPLETE (R99, R101): the flush runs in all slices; once dirty sectors are in memory and the ways are empty, FLUSHING clears and the stalled writes complete. -/
def execShelfFlushComplete (s : State) : Host.Outcome State Fault Refusal :=
  let s1 := s.flushRound s.shelfDirs s.shelfLines
  if s1.flushDone (fun _ => true) s.shelfDirs s.shelfLines then
    let s2 := { s1.setF F.llcShelfCtrl_flushing 0 0 0 with flushWays := 0, flushDirWays := 0, flushIssuers := [] }
    ok (s.flushIssuers.foldl (fun s w => (s.stall w false).accept w svcStop) s2)
  else ok s1

end Sys2Proof.Machine
end

