-- ==== Sys2Proof/Machine/EngineSteps.lean ====
section
/-! DEFINITION. The data engines (R324 to R352): channel configuration, descriptor fetch, the scheduler, the jobs of each operation, and scans. -/
namespace Sys2Proof.Machine

/-! ### Engines and channels -/

def State.engine (s : State) (e : Nat) : Engine := s.engines.get {} e
def State.setEngine (s : State) (e : Nat) (v : Engine) : State := { s with engines := s.engines.set {} e v }
def State.chan (s : State) (e c : Nat) : Chan := (s.engine e).chans.get {} c
def State.setChan (s : State) (e c : Nat) (v : Chan) : State := s.setEngine e { s.engine e with chans := (s.engine e).chans.set {} c v }
def State.modChan (s : State) (e c : Nat) (f : Chan → Chan) : State := s.setChan e c (f (s.chan e c))

/-- The ring of a channel. -/
def deRing (e c : Nat) : Ring := { de := true, u := e, i := c }
/-- The world of a channel (R325, R326). -/
def State.chanWid (s : State) (e c : Nat) : Nat := s.getF F.deChCfg_wid e c
def State.chanOn (s : State) (e c : Nat) : Bool := s.isF F.deChCfg_enable e c
def State.chanSync (s : State) (e c : Nat) : State := s.ringSync (deRing e c) (s.chanOn e c)
def deStop (e : Nat) : Nat := deStops.getD e 0

/-- The place of a unit type in a channel's accounts. -/
def UnitType.idx : UnitType → Nat
  | .compactor => 0
  | .collator => 1
  | .mover => 2
  | .none => 3

/-- Units of a type in an engine (R324). -/
def UnitType.units : UnitType → Nat
  | .compactor => 4
  | .collator => 8
  | .mover => 8
  | .none => 0

/-! ### Interrupts -/

/-- The completion interrupt of a channel (R336): an MSI under R47, or the instance's vector (R372). `global` is the channel's index among all 64. -/
def State.chanInt (s : State) (e c : Nat) : State :=
  let inst := s.getF F.deChCfg_instance e c
  if inst ≠ 0 then
    match (List.range 4).find? (fun k =>
        s.getF F.hpViCfg_chValid 0 inst / 2 ^ k % 2 == 1 && s.getF (F.hpViCfg_ch k) 0 inst == 32 * e + c) with
    | some k => s.vfInt inst k
    | none => s
  else
    let id := s.getF F.deChMsi_eiid e c
    let h := s.getF F.deChMsi_hart e c
    if s.isF F.deChMsi_en e c && id != 0 && s.fileWriteOk h (s.chanWid e c) none then s.setIrq h (s.getF F.deChMsi_file e c) id else s

/-- Write the completion records of a channel that may be written (R328, R336). -/
def State.chanPump (s : State) (e c : Nat) : State :=
  let r := s.cplPump (deRing e c) (s.chanWid e c) (s.chan e c).jobs (fun s _ => s.chanInt e c) 4096
  (r.2.modChan e c (fun k => { k with jobs := r.1 })).chanSync e c

/-! ### Configuration (R326 to R329) -/

/-- A refused write of the engine's configuration. -/
def State.deReject (s : State) (e c : Nat) : State := (s.setF F.deEngStatus_reject e 0 1).setF F.deEngStatus_rejectCh e 0 c

/-- Fetched jobs that are not dispatched stay in the ring (R352). -/
def State.chanStop (s : State) (e c : Nat) : State :=
  let keep := (s.chan e c).jobs.filter (fun j => j.ran.isSome || j.record.isSome)
  let s1 := s.modChan e c (fun k => { k with jobs := keep })
  (s1.setRHead (deRing e c) (s1.rDone (deRing e c) + (keep.filter (fun j => j.scan.isNone)).length)).chanSync e c

/-- DE_CH_CFG_WRITE (R326): only WID 0. -/
def execDeChCfgWrite (w : Issuer) (de : Fin 2) (ch : Fin 32) (v : Word) (s : State) : Host.Outcome State Fault Refusal :=
  let e := de.val
  let c := ch.val
  s.keeperAt w .de e (fun s =>
    let s1 := s.writeReg .deChCfg e c v allBytes
    let moved : Bool := s1.chanWid e c != s.chanWid e c || s1.getF F.deChCfg_instance e c != s.getF F.deChCfg_instance e c
    let share := (List.range 32).foldl (fun a i => a + if s1.chanOn e i then s1.getF F.deChCfg_minShare e i else 0) 0
    if (moved && s.rState (deRing e c) != 0) || decide (48 < share) then s.deReject e c
    else
      let s2 := if moved then (s1.ringReset (deRing e c)).modChan e c (fun k => { jobs := k.jobs.filter (fun j => j.scan.isSome) }) else s1
      if s.chanOn e c && !s1.chanOn e c then s2.chanStop e c else s2.chanSync e c)

/-- Who reaches a channel's page (R327). -/
def State.chanMay (s : State) (w : Issuer) (e c : Nat) : Bool := s.issuerWid w == 0 || s.issuerWid w == s.chanWid e c

/-- DE_CH_TAIL_WRITE (R328). -/
def execDeChTailWrite (w : Issuer) (de : Fin 2) (ch : Fin 32) (v : Word) (s : State) : Host.Outcome State Fault Refusal :=
  s.guardedAt w .de de.val (s.chanMay w de.val ch.val) (fun s => (s.tailWrite (deRing de.val ch.val) v).chanSync de.val ch.val)

/-- DE_CH_CPL_HEAD_WRITE (R328). -/
def execDeChCplHeadWrite (w : Issuer) (de : Fin 2) (ch : Fin 32) (v : Word) (s : State) : Host.Outcome State Fault Refusal :=
  s.guardedAt w .de de.val (s.chanMay w de.val ch.val) (fun s => s.cplHeadWrite (deRing de.val ch.val) v)

/-- DE_CH_RING_WRITE (R328): DE_CH_RING, or with `cpl` DE_CH_CPL. -/
def execDeChRingWrite (w : Issuer) (de : Fin 2) (ch : Fin 32) (cpl : Bool) (v : Word) (s : State) : Host.Outcome State Fault Refusal :=
  s.guardedAt w .de de.val (s.chanMay w de.val ch.val) (fun s => s.ringWrite (deRing de.val ch.val) cpl v)

/-! ### Descriptors (R330 to R333) -/

def Job.word (j : Job) (i : Nat) : Word := j.words.getD i 0
def Job.ctl (j : Job) (lo w : Nat) : Nat := bitsOf (j.word 0) lo w
def Job.op (j : Job) : Nat := j.ctl 0 8
def Job.src (j : Job) : Nat := (j.word 1).toNat
def Job.dst (j : Job) : Nat := (j.word 2).toNat
def Job.srcLen (j : Job) : Nat := bitsOf (j.word 3) 0 32
def Job.dstLimit (j : Job) : Nat := bitsOf (j.word 3) 32 32

/-- The unit an operation uses (R332). -/
def opUnit (op : Nat) : UnitType :=
  match op with
  | 1 | 2 => .mover
  | 3 | 4 => .compactor
  | 5 => .collator
  | _ => .none

/-- The cost of a job (R332). -/
def Job.cost (j : Job) : Nat := if j.op = 2 then j.dstLimit else if j.op = 0 then 0 else j.srcLen

/-- The bits of CONTROL that an operation may set: OP, FENCE and INT_DONE always; the codec's for COMPRESS (a container's fields only with FORMAT 6) and FORMAT for
DECOMPRESS; the Collator's for COLLATE, those of PARAM 7 only with it (R331, R333). -/
def ctlMask (op fmt param : Nat) : Nat :=
  let base := 0xFF + 2 ^ 22 + 2 ^ 30
  match op with
  | 3 => base + 0xFF00 + (if fmt = 6 then 0x3F0000 else 0)
  | 4 => base + 0xF00
  | 5 => base + 0xF000000 + 2 ^ 28 + 2 ^ 29 + 2 ^ 31 + 3 * 2 ^ 32 + 0xFFF * 2 ^ 52 + (if param = 7 then 0x1FF * 2 ^ 36 else 0)
  | _ => base

/-- Whether a descriptor passes R333. -/
def Job.valid (j : Job) : Bool :=
  let op := j.op
  let fmt := j.ctl 8 4
  let param := j.ctl 24 4
  let width := j.ctl 36 6 + 1
  let poly := (j.word 7).toNat
  let n := j.srcLen
  let m := j.dstLimit
  decide (op ≤ 5)
    && Nat.land (j.word 0).toNat (2 ^ 64 - 1 - ctlMask op fmt param) == 0
    && decide (j.src < 2 ^ 52) && decide (j.dst < 2 ^ 52)
    && (op == 1 || op == 3 || op == 4 || op == 5 || j.src == 0)
    && (op == 1 || op == 2 || op == 3 || op == 4 || j.dst == 0)
    && (op == 2 || op == 5 || j.word 5 == 0)
    && ((op == 5 && (j.ctl 31 1 == 1 || param == 7)) || j.word 6 == 0)
    && ((op == 5 && param == 7) || poly == 0)
    && (op != 3 || (decide (fmt ≤ 6) && decide (j.ctl 12 4 ≤ 6) && decide (j.ctl 16 3 ≤ 4) && j.ctl 20 2 != 3))
    && (op != 4 || decide (fmt ≤ 6))
    && (op != 5 || decide (param ≤ 7))
    && (op != 1 || (decide (n ≤ 2 ^ 22) && rangeOk j.src n && rangeOk j.dst n
        && (n == 0 || decide (j.src + n ≤ j.dst) || decide (j.dst + n ≤ j.src))))
    && (op != 2 || (decide (m ≤ 2 ^ 22) && rangeOk j.dst m))
    && (!(op == 3 || op == 4) || (decide (n ≤ 2 ^ 20) && decide (m ≤ 2 ^ 21) && rangeOk j.src n && rangeOk j.dst m))
    && (op != 5 || (decide (n ≤ 2 ^ 22) && rangeOk j.src n && (j.ctl 32 2 == 0 || decide (4 * j.ctl 52 12 + 4 ≤ n))
        && (param != 7 || (decide (8 ≤ width) && poly % 2 == 1 && decide (poly < 2 ^ width)))))

/-- The descriptor at HEAD is read once; an error stops the channel (R328). -/
def State.fetchDesc (s : State) (e c : Nat) : State :=
  let q := deRing e c
  if !s.chanOn e c || s.rState q == 2 || s.rState q == 3 || s.rHead q == s.rTail q then s
  else
    let i := s.rHead q
    let r := s.descriptor q (s.chanWid e c) i
    match r.1 with
    | none => (r.2.setF F.deChStatus_fetchErr e c 1).setRState q 2
    | some ws =>
      let j : Job := { index := i, words := ws, fetched := s.mtime }
      let j1 := { j with unit := if j.valid then opUnit j.op else .none }
      ((r.2.modChan e c (fun k => { k with jobs := k.jobs ++ [j1] })).setRHead q (i + 1)).chanSync e c

/-- DESCRIPTOR_FETCH (R328). -/
def execDescriptorFetch (de : Fin 2) (ch : Fin 32) (s : State) : Host.Outcome State Fault Refusal :=
  ok (s.served (deStop de.val) 0 (.descriptorFetch de ch) (fun s => s.fetchDesc de.val ch.val))

/-! ### The scheduler (R348 to R351) -/

/-- Whether a job carries FENCE, or holds the channel for its alive counter (R331, R344). -/
def Job.fenced (j : Job) : Bool := j.ctl 22 1 == 1 || (j.op == 5 && j.ctl 32 2 != 0)

/-- The head job of a channel: the first not yet dispatched. -/
def Chan.head (k : Chan) : Option Job := k.jobs.find? (fun j => j.ran.isNone && j.record.isNone)

/-- The head job of a channel where the channel is eligible for a unit type: its FENCE is met and no alive check holds it (R344, R348). In a Survey nothing is
dispatched (R469). -/
def State.eligible (s : State) (e c : Nat) (t : UnitType) : Option Job :=
  let k := s.chan e c
  let st := s.rState (deRing e c)
  if st = 2 ∨ st = 3 ∨ s.mode = 6 then none
  else
    match k.head with
    | none => none
    | some j =>
      let earlier := k.jobs.takeWhile (fun i => i != j)
      if (!s.chanOn e c && j.scan.isNone) || j.unit != t || (j.fenced && !earlier.isEmpty) || earlier.any (fun i => i.op == 5 && i.ctl 32 2 != 0) then none
      else some j

/-- A running job. -/
def Job.running (j : Job) : Bool := j.ran.isSome && j.record.isNone

/-- Unit-time of a type that a channel has used in the window, in mtime ticks (R348). (DESIGN CHOICE, assumption 45.) -/
def State.unitUse (s : State) (e c : Nat) (t : UnitType) : Nat :=
  let k := s.chan e c
  let w := (s.engine e).window
  k.spent.getD t.idx 0 + k.jobs.foldl (fun a j => a + if j.running && j.unit == t then s.mtime - max w (j.ran.getD 0) else 0) 0

/-- A channel's shortfall below its guaranteed share, in 64ths of a tick (R348). -/
def State.shortfall (s : State) (e c : Nat) (t : UnitType) : Nat :=
  s.getF F.deChCfg_minShare e c * ((s.mtime - (s.engine e).window) * t.units) - 64 * s.unitUse e c t

/-- Deficit round robin among the eligible channels with weight: from the channel at the pointer, one whose deficit covers its job is served; the others gain a
quantum of WEIGHT * 64 KiB in turn (R348). (DESIGN CHOICE, assumption 44.) -/
def drr (cost quantum : Nat → Option Nat) : Nat → Nat → List Nat → Option (Nat × Nat × List Nat)
  | 0, _, _ => none
  | f + 1, c, d =>
    match cost c, quantum c with
    | some n, some q =>
      if n ≤ d.getD c 0 then some (c, c, d.set c (d.getD c 0 - n))
      else drr cost quantum f ((c + 1) % 32) (d.set c (d.getD c 0 + q))
    | _, _ => drr cost quantum f ((c + 1) % 32) (d.set c 0)

/-- The deficits of an engine's channels for a type. -/
def State.deficits (s : State) (e : Nat) (t : UnitType) : List Nat := (List.range 32).map (fun c => (s.chan e c).deficit.getD t.idx 0)

/-- The channel that the scheduler chooses for a freed unit, and the state with its pointers moved (R348). -/
def State.chooseChan (s : State) (e : Nat) (t : UnitType) : Option (Nat × State) :=
  let el := (List.range 32).filter (fun c => (s.eligible e c t).isSome)
  let short := el.filter (fun c => decide (0 < s.shortfall e c t))
  let weight (c : Nat) : Nat := s.getF F.deChCfg_weight e c
  match short with
  | c0 :: rest => some (rest.foldl (fun b c => if s.shortfall e b t < s.shortfall e c t then c else b) c0, s)
  | [] =>
    if el.any (fun c => decide (1 ≤ weight c)) then
      match drr (fun c => if 1 ≤ weight c then (s.eligible e c t).map (·.cost) else none) (fun c => if 1 ≤ weight c then some (weight c * 65536) else none)
          4096 ((s.engine e).ptrW.getD t.idx 0) (s.deficits e t) with
      | some (c, p, d) =>
        let s1 := (List.range 32).foldl (fun (s : State) (i : Nat) => s.modChan e i (fun k => { k with deficit := k.deficit.set t.idx (d.getD i 0) })) s
        some (c, s1.setEngine e { s1.engine e with ptrW := (s1.engine e).ptrW.set t.idx p })
      | none => none
    else
      let p := (s.engine e).ptrZ.getD t.idx 0
      match ((List.range 32).map (fun i => (p + i) % 32)).find? (fun c => el.contains c) with
      | some c => some (c, s.setEngine e { s.engine e with ptrZ := (s.engine e).ptrZ.set t.idx ((c + 1) % 32) })
      | none => none

/-- A job of a channel replaced. -/
def State.modJob (s : State) (e c : Nat) (j : Job) (f : Job → Job) : State :=
  s.modChan e c (fun k => { k with jobs := k.jobs.map (fun i => if i = j then f i else i) })

/-- SERVICE of R334 and R351. -/
def Job.service (j : Job) (st : Nat) : Nat := if st = 0x0C then 2 else if j.delayed && j.unit != .none then 1 else 0

/-- The completion record of a job (R334). -/
def State.jobRecord (s : State) (e c : Nat) (j : Job) (st w1 value : Nat) : List Word :=
  let log := s.rLog (deRing e c)
  let wait := min (2 ^ 32 - 1) ((j.ran.getD s.mtime) - j.fetched)
  [w64 (j.index + st * 2 ^ 16 + j.service st * 2 ^ 24 + phase j.index log * 2 ^ 26 + wait * 2 ^ 32), w64 w1, w64 value, j.word 4]

/-! ### Scan runs (R347) -/

def State.scan (s : State) (e i : Nat) : Scan := (s.engine e).scans.get {} i
def State.setScan (s : State) (e i : Nat) (v : Scan) : State := s.setEngine e { s.engine e with scans := (s.engine e).scans.set {} i v }

/-- The next COLLATE of a scan's run, at most 4 MiB (R347). -/
def State.scanChunk (s : State) (e i : Nat) : State :=
  let r := s.scan e i
  let c := s.getF F.deScanCfg_channel e i
  let n := min (2 ^ 22) (s.getF F.deScanLen_length e i - r.pos)
  let ctl := 5 + s.getF F.deScanCfg_param e i * 2 ^ 24 + (if r.pos = 0 then 0 else 2 ^ 31)
  let j : Job := { index := 0, scan := some i, words := [w64 ctl, w64 (s.getF F.deScanStart_start e i + r.pos), 0, w64 n, 0, 0, if r.pos = 0 then 0 else r.st, 0],
                   fetched := s.mtime }
  s.modChan e c (fun k => { k with jobs := k.jobs ++ [{ j with unit := if j.valid then .collator else .none }] })

/-- A run ends (R346, R347): its counters and status, its interrupt, and with PERIOD 0 the next run of a periodic slot. -/
def State.scanEnd (s : State) (e i st value : Nat) : State :=
  let c := s.getF F.deScanCfg_channel e i
  let s1 := ((s.setRegWord .deScanResult e i (w64 value)).incSat F.deScanStatus_runs e i).setF F.deScanStatus_lastStatus e i st
  let s2 := (if st = 1 then s1.incSat F.deScanStatus_mismatches e i else s1).setF F.deScanStatus_busy e i 0
  let s3 := if s2.isF F.deScanCfg_intMismatch e i && (st == 1 || st == 0x0C || st == 8 || st == 9) then s2.chanInt e c else s2
  if !s3.isF F.deScanCfg_periodic e i then s3.setF F.deScanCfg_enable e i 0 else s3

/-- A slot's run begins. A LENGTH of 0 ends at once with the set's starting value (R345). -/
def State.scanBegin (s : State) (e i : Nat) : State :=
  let s1 := (s.setScan e i {}).setF F.deScanStatus_busy e i 1
  if s1.getF F.deScanLen_length e i = 0 then
    let p := crcSet (s1.getF F.deScanCfg_param e i)
    let v := crcValue p p.init
    s1.scanEnd e i (if v = (s1.regWord .deScanExpect e i).toNat then 0 else 1) v
  else s1.scanChunk e i

/-- A chunk of a run has ended with a status, its STATE and VALUE. -/
def State.scanStep (s : State) (e i n st : Nat) (state : Word) (value : Nat) : State :=
  let r := s.scan e i
  if st ≠ 0 then s.scanEnd e i st 0
  else
    let s1 := s.setScan e i { pos := r.pos + n, st := state }
    if r.pos + n < s.getF F.deScanLen_length e i then s1.scanChunk e i
    else
      let s2 := s1.scanEnd e i (if value = (s.regWord .deScanExpect e i).toNat then 0 else 1) value
      if s2.isF F.deScanCfg_enable e i && !s2.isF F.deScanCfg_watch e i && s2.getF F.deScanPeriod_period e i == 0 then s2.scanBegin e i else s2

/-! ### The end of a job -/

/-- A job ends: its unit is free, its record waits its turn to be written, a scan's run goes on (R336, R337, R347). -/
def State.jobEnd (s : State) (e c : Nat) (j : Job) (st w1 value : Nat) : State :=
  let t := j.unit
  let use := s.mtime - max (s.engine e).window (j.ran.getD s.mtime)
  let s1 := s.modChan e c (fun k => { k with spent := k.spent.set t.idx (k.spent.getD t.idx 0 + use) })
  match j.scan with
  | some i =>
    (s1.modChan e c (fun k => { k with jobs := k.jobs.erase j })).scanStep e i j.srcLen st (w64 w1) value
  | none =>
    let int : Bool := j.ctl 30 1 == 1 || (j.ctl 29 1 == 1 && (st == 1 || st == 2))
    s1.modJob e c j (fun i => { i with record := some (s1.jobRecord e c j st w1 value), int := int })

/-- A job that fails: OUT_LEN and VALUE 0, IN_LEN open (R337). -/
def State.jobFail (s : State) (e c : Nat) (j : Job) (st : Nat) : State :=
  State.jobEnd { s with fresh := s.fresh + 1 } e c j st ((Config.freeWord s.fresh).toNat % 2 ^ 32 * 2 ^ 32) 0

/-- A freed unit goes to the chosen channel's head job (R333, R348 to R351). A job that R333 refuses, and one whose channel has no quota left, ends here. -/
def State.dispatch (s : State) (e : Nat) (t : UnitType) : State :=
  let busy := (List.range 32).foldl (fun a c => a + ((s.chan e c).jobs.filter (fun j => j.running && j.unit == t)).length) 0
  if t ≠ .none ∧ t.units ≤ busy then s
  else
    match (if t = .none then ((List.range 32).find? (fun c => (s.eligible e c .none).isSome)).map (fun c => (c, s)) else s.chooseChan e t) with
    | none => s
    | some (c, s1) =>
      match s.eligible e c t with
      | none => s
      | some j =>
        let s2 := (List.range 32).foldl (fun (s' : State) (i : Nat) =>
          if i = c ∨ t = .none then s'
          else match s.eligible e i t with
            | some o => s'.modJob e i o (fun o => { o with delayed := true })
            | none => s') s1
        let q := s.getF F.deChCfg_quota e c
        let j1 := { j with ran := some s.mtime }
        let s3 := s2.modJob e c j (fun _ => j1)
        if !j.valid then (if j.scan.isSome then s3.jobEnd e c j1 7 0 0 else s3.jobFail e c j1 7)
        else if q ≠ 0 ∧ q * 2 ^ 20 ≤ (s.chan e c).used then s3.jobFail e c j1 0x0C
        else s3.modChan e c (fun k => { k with used := k.used + j.cost })

/-- Write the completion records of an engine that may be written (R336). -/
def State.enginePump (s : State) (e : Nat) : State := (List.range 32).foldl (fun s c => s.chanPump e c) s

/-- The records that a dispatch leaves to be written. -/
def State.dispatchRecords (s : State) (de : Fin 2) (t : UnitType) : State := s.served (deStop de.val) 0 (.jobDispatch de t) (fun s => s.enginePump de.val)

/-- JOB_DISPATCH (R348). -/
def execJobDispatch (de : Fin 2) (t : UnitType) (s : State) : Host.Outcome State Fault Refusal := ok ((s.dispatch de.val t).dispatchRecords de t)

/-- The running job of a channel with an index, or of a scan slot, and with an operation. -/
def State.findJob (s : State) (e c index : Nat) (sc : Option Nat) (op : Nat) : Option Job :=
  (s.chan e c).jobs.find? (fun j => j.running && j.op == op && (match sc with
    | some i => j.scan == some i
    | none => j.scan.isNone && j.index == index))

/-! ### The operations (R332) -/

/-- Carry out a job's command at its engine, with the completion records that its end lets be written (R325, R336). -/
def State.jobStep (s : State) (de : Fin 2) (ch : Fin 32) (cmd : Instr) (f : State → State) : State :=
  s.served (deStop de.val) 0 cmd (fun s => (f s).chanPump de.val ch.val)

/-- NOP (R332). -/
def execNop (de : Fin 2) (ch : Fin 32) (index : BitVec 16) (s : State) : Host.Outcome State Fault Refusal :=
  ok (s.jobStep de ch (.nop de ch index) (fun s => match s.findJob de.val ch.val index.toNat none 0 with
    | some j => s.jobEnd de.val ch.val j 0 0 0
    | none => s))

/-- Copy bytes, one destination sector at a time, with their poison (R337): the status of the first failure, whether poison was met. -/
def State.copyRange (s : State) (wid : Nat) : Nat → Nat → Nat → Nat → Nat × Bool × State
  | 0, _, _, _ => (0, false, s)
  | _ + 1, _, _, 0 => (0, false, s)
  | f + 1, src, dst, n =>
    let off := dst % 64
    let len := min n (64 - off)
    let r := s.readRange wid false 3 src len []
    if r.1 ≠ 0 then (r.1, r.2.1, r.2.2.2)
    else
      let l := r.2.2.1.reverse.flatten
      let w := r.2.2.2.cohWrite wid (dst / 64) (sectorAt (ofBytes l) off len) (spanMask off len) r.2.1
      match w.1 with
      | some (c, _) => (memStatus c, r.2.1, w.2)
      | none =>
        let q := State.copyRange w.2 wid f (src + len) (dst + len) (n - len)
        (q.1, r.2.1 || q.2.1, q.2.2)

/-- A COPY job (R332, R337, R345). -/
def State.copyJob (s : State) (e c index : Nat) : State :=
  match s.findJob e c index none 1 with
  | none => s
  | some j =>
    let n := j.srcLen
    let wid := s.chanWid e c
    let r := s.copyRange wid (n / 64 + 2) j.src j.dst n
    if r.1 ≠ 0 then ((r.2.2.unspecify wid (n / 64 + 2) j.dst n).jobFail e c j r.1)
    else (r.2.2.jobEnd e c j (if r.2.1 then 0x0A else 0) (n + n * 2 ^ 32) 0)

/-- COPY (R332). -/
def execCopy (de : Fin 2) (ch : Fin 32) (index : BitVec 16) (s : State) : Host.Outcome State Fault Refusal :=
  ok (s.jobStep de ch (.copy de ch index) (fun s => s.copyJob de.val ch.val index.toNat))

/-- A FILL job (R332, R345). -/
def State.fillJob (s : State) (e c index : Nat) : State :=
  match s.findJob e c index none 2 with
  | none => s
  | some j =>
    let n := j.dstLimit
    let wid := s.chanWid e c
    let pat := (j.word 5).toNat
    let r := s.jobWrite wid j.dst ((List.range n).map (fun i => pat / 256 ^ (i % 8) % 256))
    if r.1 ≠ 0 then ((r.2.unspecify wid (n / 64 + 2) j.dst n).jobFail e c j r.1) else (r.2.jobEnd e c j 0 n 0)

/-- FILL (R332). -/
def execFill (de : Fin 2) (ch : Fin 32) (index : BitVec 16) (s : State) : Host.Outcome State Fault Refusal :=
  ok (s.jobStep de ch (.fill de ch index) (fun s => s.fillJob de.val ch.val index.toNat))

/-- A Compactor job fails: its destination range is unspecified (R337). -/
def State.compactFail (s : State) (e c : Nat) (j : Job) (st : Nat) : State :=
  (s.unspecify (s.chanWid e c) (j.dstLimit / 64 + 2) j.dst j.dstLimit).jobFail e c j st

/-- A COMPRESS job (R338, R339, R345). -/
def State.compressJob (s : State) (e c index : Nat) : State :=
  match s.findJob e c index none 3 with
  | none => s
  | some j =>
    let wid := s.chanWid e c
    if j.dstLimit = 0 then (s.jobFail e c j 3)
    else
      let r := s.jobRead wid j.src j.srcLen
      if r.1 ≠ 0 then (r.2.2.compactFail e c j r.1)
      else
        let out := compressed (j.ctl 8 4) (j.ctl 12 4) (j.ctl 16 3) (j.ctl 20 2) (j.ctl 19 1 == 1) r.2.1
        if j.dstLimit < out.length then (r.2.2.compactFail e c j 3)
        else
          let q := r.2.2.jobWrite wid j.dst out
          if q.1 ≠ 0 then (q.2.compactFail e c j q.1)
          else (q.2.jobEnd e c j 0 (out.length + j.srcLen * 2 ^ 32) (crc32c r.2.1))

/-- COMPRESS (R332). -/
def execCompress (de : Fin 2) (ch : Fin 32) (index : BitVec 16) (s : State) : Host.Outcome State Fault Refusal :=
  ok (s.jobStep de ch (.compress de ch index) (fun s => s.compressJob de.val ch.val index.toNat))

/-- A DECOMPRESS job (R338, R341, R345). Failures are met in processing order (R335): what the input decodes to is written as it comes; the input is read on only while the stream has not ended, so
that an error of a read counts only where the bytes before it do not end the stream or break it. (DEDUCED, assumption 133.) -/
def State.decompressJob (s : State) (e c index : Nat) : State :=
  match s.findJob e c index none 4 with
  | none => s
  | some j =>
    let wid := s.chanWid e c
    if j.srcLen = 0 then (s.jobFail e c j 5)
    else
      let r := s.jobRead wid j.src j.srcLen
      let d := decompressed (j.ctl 8 4) j.dstLimit r.2.1
      let more : Bool := d.status == 5 || (d.status == 0 && j.ctl 8 4 == 3)
      let st := if r.1 ≠ 0 ∧ more = true then r.1 else d.status
      let q := r.2.2.jobWrite wid j.dst (d.out.take j.dstLimit)
      if q.1 ≠ 0 then (q.2.compactFail e c j q.1)
      else if st ≠ 0 then (q.2.compactFail e c j st)
      else (q.2.jobEnd e c j 0 (d.out.length + d.used * 2 ^ 32) (crc32c d.out))

/-- DECOMPRESS (R332). -/
def execDecompress (de : Fin 2) (ch : Fin 32) (index : BitVec 16) (s : State) : Host.Outcome State Fault Refusal :=
  ok (s.jobStep de ch (.decompress de ch index) (fun s => s.decompressJob de.val ch.val index.toNat))

/-- The set of a COLLATE job: PARAM 7 takes it from the descriptor (R342). -/
def Job.crcSet (j : Job) : CrcSet :=
  if j.ctl 24 4 = 7 then
    { width := j.ctl 36 6 + 1, poly := (j.word 7).toNat, init := (j.word 6).toNat, refIn := j.ctl 42 1 == 1, refOut := j.ctl 43 1 == 1, ones := j.ctl 44 1 == 1 }
  else Machine.crcSet (j.ctl 24 4)

/-- A COLLATE job (R342 to R345): the alive counter is stamped or read, the check is run, and only a job that ends OK sets COUNT. -/
def State.collate (s : State) (e c index : Nat) (slot : Option Nat) : State :=
  match s.findJob e c index slot 5 with
  | none => s
  | some j =>
    let wid := s.chanWid e c
    let p := j.crcSet
    let st0 := (if j.ctl 31 1 = 1 then (j.word 6).toNat else p.init) % 2 ^ p.width
    let mode := j.ctl 32 2
    let off := 4 * j.ctl 52 12
    let cnt := s.getF F.deChAlive_count e c
    let w := if mode = 1 then s.jobWrite wid (j.src + off) (toBytes 4 (cnt + 1)) else (0, s)
    if w.1 ≠ 0 then (w.2.jobFail e c j w.1)
    else
      let r := w.2.jobRead wid j.src j.srcLen
      if r.1 ≠ 0 then (r.2.2.jobFail e c j r.1)
      else
        let v := ofBytes ((r.2.1.drop off).take 4)
        let gap := (v + 2 ^ 32 - cnt) % 2 ^ 32
        let alive : Bool := match mode with
          | 2 => gap == 1
          | 3 => decide (1 ≤ gap) && decide (gap ≤ 16)
          | _ => true
        let st := crcRun p st0 r.2.1
        let value := crcValue p st
        let code := if !alive then 2 else if j.ctl 28 1 = 1 ∧ value ≠ (j.word 5).toNat then 1 else 0
        let s1 := if code = 0 ∧ mode ≠ 0 then r.2.2.setF F.deChAlive_count e c v else r.2.2
        (s1.jobEnd e c j code st value)

/-! ### Resets and windows -/

/-- COLLATE (R342 to R345). -/
def execCollate (de : Fin 2) (ch : Fin 32) (index : BitVec 16) (slot : Option (Fin 16)) (s : State) : Host.Outcome State Fault Refusal :=
  ok (s.jobStep de ch (.collate de ch index slot) (fun s => s.collate de.val ch.val index.toNat (slot.map (·.val))))

/-- A channel's reset begins (R329): nothing more is fetched or dispatched, running jobs send nothing more and their destinations are unspecified, scan runs of the channel end
with MEM_ERROR (R352). -/
def State.chanReset (s : State) (e c : Nat) : State :=
  let k := s.chan e c
  let dests := (k.jobs.filter (fun j => j.running && j.scan.isNone)).filterMap (fun j =>
    let n := if j.op = 1 then j.srcLen else if j.op = 2 ∨ j.op = 3 ∨ j.op = 4 then j.dstLimit else 0
    if n = 0 then none else some (j.dst, n))
  let s2 := (k.jobs.filterMap (·.scan)).foldl (fun (s : State) (i : Nat) => s.scanEnd e i 9 0) s
  (s2.modChan e c (fun k => { k with jobs := [], blur := k.blur ++ dests })).setRState (deRing e c) 3

/-- CHANNEL_RESET (R329): a write of DE_CH_CTRL.RESET. -/
def execChannelReset (w : Issuer) (de : Fin 2) (ch : Fin 32) (s : State) : Host.Outcome State Fault Refusal :=
  s.guardedAt w .de de.val (s.chanMay w de.val ch.val) (fun s => s.chanReset de.val ch.val)

/-- The channel that a command of an engine serves. -/
def cmdChan : Instr → Option (Nat × Nat)
  | .descriptorFetch d c | .copy d c _ | .fill d c _ | .compress d c _ | .decompress d c _ | .collate d c _ _ | .nop d c _ => some (d.val, c.val)
  | _ => none

/-- Whether the engine waits for an answer to a request of a channel (R329). -/
def State.chanWaits (s : State) (e c : Nat) : Bool := s.works.any (fun r => r.stop == deStop e && r.tag.isSome && cmdChan r.cmd == some (e, c))

/-- The end of a channel's reset (R329, R337): with the last answer its squashed jobs' destinations hold open values, the page takes its reset values and STATE is IDLE. -/
def State.chanFresh (s : State) (e c : Nat) : State :=
  let s1 := (s.chan e c).blur.foldl (fun (s : State) (d : Nat × Nat) => s.unspecify (s.chanWid e c) (d.2 / 64 + 2) d.1 d.2) s
  (s1.ringReset (deRing e c)).modChan e c (fun k => { k with blur := [] })

/-- CHANNEL_RESET_COMPLETE (R329). -/
def execChannelResetComplete (de : Fin 2) (ch : Fin 32) (s : State) : Host.Outcome State Fault Refusal :=
  if s.rState (deRing de.val ch.val) ≠ 3 ∨ s.chanWaits de.val ch.val = true then ok s
  else ok (s.served (deStop de.val) 0 (.channelResetComplete de ch) (fun s => s.chanFresh de.val ch.val))

/-- DE_WINDOW_RESET (R348, R350): at every 1 ms of mtime the used costs and the shares of both engines return to 0. -/
def execDeWindowReset (s : State) : Host.Outcome State Fault Refusal :=
  ok ((List.range 2).foldl (fun (s : State) (e : Nat) =>
    let g := s.engine e
    s.setEngine e { g with window := s.mtime, chans := g.chans.foldl (fun (m : Map Chan) (k : Nat × Chan) => m.set {} k.1 { k.2 with used := 0, spent := [0, 0, 0] }) [] }) s)

/-! ### Scan slots -/

/-- The registers of a scan slot that software writes (R346). -/
def scanReg (r : Fin 5) : RegName :=
  match r.val with
  | 0 => .deScanCfg
  | 1 => .deScanStart
  | 2 => .deScanLen
  | 3 => .deScanPeriod
  | _ => .deScanExpect

/-- DE_SCAN_CFG_WRITE (R346, R347): register r of a slot; enabling a slot starts its first run. Only WID 0 writes CHANNEL and WATCH. -/
def execDeScanCfgWrite (w : Issuer) (de : Fin 2) (slot : Fin 16) (r : Fin 5) (v : Word) (s : State) : Host.Outcome State Fault Refusal :=
  let e := de.val
  let i := slot.val
  let wid := s.issuerWid w
  s.guardedAt w .de e (wid == 0 || wid == s.chanWid e (s.getF F.deScanCfg_channel e i)) (fun s =>
    let old := s.regWord .deScanCfg e i
    let v1 := if r.val = 0 ∧ wid ≠ 0 then putBits (putBits v 2 1 (bitsOf old 2 1)) 8 5 (bitsOf old 8 5) else v
    let s1 := s.writeReg (scanReg r) e i v1 allBytes
    if s.isF F.deScanCfg_enable e i then
      if r.val = 0 ∧ putBits (s1.regWord .deScanCfg e i) 0 1 1 = old then s1 else s.setF F.deEngStatus_reject e 0 1
    else if r.val = 0 ∧ s1.isF F.deScanCfg_enable e i = true ∧ s1.isF F.deScanCfg_watch e i = false then s1.scanBegin e i
    else s1)

/-- SCAN_RUN_START (R347): a start time of a periodic slot; one that finds the slot busy is skipped and counted. -/
def execScanRunStart (de : Fin 2) (slot : Fin 16) (s : State) : Host.Outcome State Fault Refusal :=
  let e := de.val
  let i := slot.val
  if !s.isF F.deScanCfg_enable e i || s.isF F.deScanCfg_watch e i || !s.isF F.deScanCfg_periodic e i then ok s
  else if s.isF F.deScanStatus_busy e i then ok (s.incSat F.deScanStatus_overruns e i)
  else ok (s.scanBegin e i)

end Sys2Proof.Machine
end

