-- ==== Sys2Proof/Machine/HpSteps.lean ====
section
/-! DEFINITION. The host ports (R353 to R376): links, outbound accesses, containment, virtual instances, host transfer queues, translation, resets of functions. -/
namespace Sys2Proof.Machine

/-! ### Ports and root ports -/

def hpStop (k : Nat) : Nat := hpStops.getD k 70
def State.endpoint (s : State) (k : Nat) : Bool := k == 0 && s.isF F.hpPortCfg_endpoint 0 0
/-- A host port as a source of events. -/
def srcHp (k wid : Nat) : Source := { stop := hpStop k, unit := 4, wid := wid }
/-- Whether BIFUR enables a root port (R355). -/
def State.rpEnabled (s : State) (k j : Nat) : Bool :=
  match s.getF F.hpPortCfg_bifur k 0 with
  | 0 => j == 0
  | 1 => decide (j < 2)
  | 2 => decide (j < 3)
  | _ => decide (j < 4)
def State.frozenRp (s : State) (k j : Nat) : Bool := s.isF F.hpRcStatus_frozen k j

/-- A dword of a root port's configuration space. (PRESUMED, assumption 47.) -/
def State.rpCfg (s : State) (k j dw : Nat) : Nat := ((s.hp k).cfg.get 0 (j * 1024 + dw)).toNat
/-- The root port whose secondary to subordinate bus numbers hold a bus. -/
def State.rpOfBus (s : State) (k bus : Nat) : Option Nat :=
  (List.range 4).find? (fun j => let w := s.rpCfg k j 6
    s.rpEnabled k j && decide (w / 2 ^ 8 % 256 ≤ bus) && decide (bus ≤ w / 2 ^ 16 % 256) && bus != 0)
/-- The root port whose bridge windows hold an address: memory, or prefetchable memory with its upper halves. -/
def State.rpOfMem (s : State) (k pa : Nat) : Option Nat :=
  (List.range 4).find? (fun j =>
    let w (lo hi up0 up1 : Nat) : Bool := decide (up0 * 2 ^ 32 + lo / 16 % 4096 * 2 ^ 20 ≤ pa) && decide (pa ≤ up1 * 2 ^ 32 + hi / 16 % 4096 * 2 ^ 20 + (2 ^ 20 - 1))
    let m := s.rpCfg k j 8
    let p := s.rpCfg k j 9
    s.rpEnabled k j && (w (m % 2 ^ 16) (m / 2 ^ 16) 0 0 || w (p % 2 ^ 16) (p / 2 ^ 16) (s.rpCfg k j 10) (s.rpCfg k j 11)))

/-- Where an outbound access leads (R355): a root port's own configuration space, configuration below a root port, memory behind a root port, or nothing. -/
inductive OutTarget where
  | own (j : Nat)
  | cfg (j : Nat)
  | mem (j : Nat)
  | noFunction
  | nothing
  deriving DecidableEq, Repr

def State.outTarget (s : State) (k pa : Nat) : OutTarget :=
  let o := pa % 2 ^ 47
  if o < 2 ^ 28 then
    let bus := o / 2 ^ 20
    if bus = 0 then (if o / 2 ^ 12 % 8 = 0 ∧ s.rpEnabled k (o / 2 ^ 15 % 32) = true ∧ o / 2 ^ 15 % 32 < 4 then .own (o / 2 ^ 15 % 32) else .noFunction)
    else match s.rpOfBus k bus with
      | some j => .cfg j
      | none => .noFunction
  else match s.rpOfMem k pa with
    | some j => .mem j
    | none => .nothing

/-- The bytes 0xFF of an access, at its offset (R363). -/
def allOnes (p : Packet) : Sector := sectorAt (2 ^ (8 * 2 ^ p.ioSize) - 1) p.ioOffset (2 ^ p.ioSize)

def hpAnswer (k : Nat) (p : Packet) (d : Sector) (po : Bool) : Packet := { answer p (hpStop k) Opc.ioData 0 with payload := d, poison := po }
def State.hpErr (s : State) (k : Nat) (p : Packet) (code : Nat) : State := s.send (errAnswer p (hpStop k) code Origin.hostPort)

/-- A frozen port answers a read with all ones, counts and records it (R363). -/
def State.frozenRead (s : State) (k j : Nat) (p : Packet) : State :=
  ((s.incSat F.hpRcStatus_allOnesReads k j).rasError .hp k 0 { sev := .uec, code := Ev.hpFreeze, addr := some (p.sec * 64 + p.ioOffset), wid := p.widN, unit := 4 }).send
    (hpAnswer k p (allOnes p) false)

/-- A frozen port accepts a write and discards it (R363). -/
def State.frozenWrite (s : State) (k j : Nat) (p : Packet) : State :=
  (s.incSat F.hpRcStatus_discardedWrites k j).send (answer p (hpStop k) Opc.comp 0)

/-- A free tag of a port (R353). -/
def Hp.freeTag (h : Hp) : Nat := ((List.range 256).find? (fun t => !h.outst.any (fun o => o.tag == t))).getD 0

/-- Send a non-posted request and keep it open. -/
def State.hpRequest (s : State) (k : Nat) (t : Tlp) (o : OutReq) : State :=
  let tag := (s.hp k).freeTag
  s.modHp k (fun h => { h with out := h.out ++ [{ t with tag := tag }], outst := h.outst ++ [{ o with tag := tag }] })

/-- An outbound read (R357, R363): the caller has checked its size and alignment. -/
def State.hpRead (s : State) (k : Nat) (p : Packet) : State :=
  let pa := p.sec * 64 + p.ioOffset
  let n := 2 ^ p.ioSize
  if s.endpoint k then s.hpErr k p Err.address
  else match s.outTarget k pa with
    | .noFunction => s.send (hpAnswer k p (allOnes p) false)
    | .nothing => s.hpErr k p Err.abort
    | .own j =>
      let v := (List.range 2).foldl (fun a i => a + s.rpCfg k j (pa % 4096 / 4 + i) * 2 ^ (32 * i)) 0
      s.send (hpAnswer k p (sectorAt (v / 2 ^ (8 * (pa % 4))) p.ioOffset n) false)
    | .cfg j =>
      if s.frozenRp k j then s.frozenRead k j p
      else if !s.isF F.hpRcStatus_dlActive k j then s.hpErr k p Err.targetDead
      else s.hpRequest k { kind := .cfgRead, rid := j * 8, addr := pa, len := n } { tag := 0, rp := j, kind := .fabric p, len := n }
    | .mem j =>
      if s.frozenRp k j then s.frozenRead k j p
      else if !s.isF F.hpRcStatus_dlActive k j then s.hpErr k p Err.targetDead
      else s.hpRequest k { kind := .memRead, rid := j * 8, addr := pa, len := n } { tag := 0, rp := j, kind := .fabric p, len := n }

/-- An outbound write whose data has come (R357, R363). -/
def State.hpWrite (s : State) (k : Nat) (p : Packet) (d : Sector) (po : Bool) : State :=
  let pa := p.sec * 64 + p.ioOffset
  let n := 2 ^ p.ioSize
  let v := sectorBytes d p.ioOffset n
  let comp (s : State) : State := s.send (answer p (hpStop k) Opc.comp 0)
  if s.endpoint k then s.hpErr k p Err.address
  else match s.outTarget k pa with
    | .noFunction => comp s
    | .nothing => s.hpErr k p Err.abort
    | .own j =>
      comp (s.modHp k (fun h =>
        let put (m : Map (BitVec 32)) (i b : Nat) : Map (BitVec 32) :=
          let key := j * 1024 + (pa % 4096 + i) / 4
          let sh := 8 * ((pa + i) % 4)
          m.set 0 key (BitVec.ofNat 32 ((m.get 0 key).toNat / 2 ^ (sh + 8) * 2 ^ (sh + 8) + b * 2 ^ sh + (m.get 0 key).toNat % 2 ^ sh))
        { h with cfg := (List.range n).foldl (fun m i => put m i (v / 256 ^ i % 256)) h.cfg }))
    | .cfg j =>
      if s.frozenRp k j then s.frozenWrite k j p
      else if !s.isF F.hpRcStatus_dlActive k j then s.hpErr k p Err.targetDead
      else s.hpRequest k { kind := .cfgWrite, rid := j * 8, addr := pa, len := n, data := v } { tag := 0, rp := j, kind := .fabric p, len := n }
    | .mem j =>
      if s.frozenRp k j then s.frozenWrite k j p
      else if !s.isF F.hpRcStatus_dlActive k j then s.hpErr k p Err.targetDead
      else comp (s.tlp k { kind := .memWrite, rid := j * 8, addr := pa, len := n, data := v, poison := po })

/-! ### Containment (R362 to R364) -/

/-- Freeze a root port: the first cause is recorded, what is outstanding is answered (R362, R363). -/
def State.freezeRp (s : State) (k j cause : Nat) : State :=
  if s.frozenRp k j || !s.rpEnabled k j then s
  else
    let s1 := ((s.setF F.hpRcStatus_frozen k j 1).setF F.hpRcStatus_dlActive k j 0).setF F.hpRcStatus_cause k j cause
    let mine := (s1.hp k).outst.filter (fun o => o.rp == j)
    let s2 := s1.modHp k (fun h => { h with outst := h.outst.filter (fun o => o.rp != j), training := h.training &&& ~~~(1#4 <<< j) })
    let s3 := mine.foldl (fun (s : State) (o : OutReq) => match o.kind with
      | .fabric p => if p.opcode == Opc.ioRead then s.frozenRead k j p else s.frozenWrite k j p
      | _ => s) s2
    s3.errorEvent .hp k { sev := .uec, code := Ev.hpFreeze } (srcHp k 255) (w64 j) (w64 cause)

/-- FREEZE (R362, R365): a write of HP_RC_CTRL_k with FREEZE. -/
def execFreeze (w : Issuer) (hp : Fin 2) (rp : Fin 4) (v : Word) (s : State) : Host.Outcome State Fault Refusal :=
  s.keeperAt w .hp hp.val (fun s =>
    if !s.rpEnabled hp.val rp.val then s
    else
      let s1 := s.writeReg .hpRcCtrl hp.val rp.val v allBytes
      if v.getLsbD 9 then s1.freezeRp hp.val rp.val 6 else s1)

/-- RELEASE_FREEZE (R364): ignored unless frozen; a FREEZE in the same write wins. -/
def execReleaseFreeze (w : Issuer) (hp : Fin 2) (rp : Fin 4) (v : Word) (s : State) : Host.Outcome State Fault Refusal :=
  let k := hp.val
  let j := rp.val
  s.keeperAt w .hp k (fun s =>
    if !s.rpEnabled k j then s
    else
      let s1 := s.writeReg .hpRcCtrl k j v allBytes
      if !v.getLsbD 8 || !s1.frozenRp k j then s1
      else
        let s2 := ((s1.setF F.hpRcStatus_frozen k j 0).setF F.hpRcStatus_discardedWrites k j 0).setF F.hpRcStatus_allOnesReads k j 0
        let s3 := s2.modHp k (fun h => { h with training := h.training ||| (1#4 <<< j) })
        if v.getLsbD 9 then s3.freezeRp k j 6 else s3)

/-! ### Instances (R366 to R375) -/

def State.created (s : State) (i : Nat) : Bool := decide (1 ≤ i) && decide (i ≤ 61) && s.isF F.hpViCfg_created 0 i
def State.resetting (s : State) (i : Nat) : Bool := s.isF F.hpViCfg_resetting 0 i
/-- The instance and slot of a host transfer queue. -/
def State.queueOwner (s : State) (q : Nat) : Option (Nat × Nat) :=
  (List.range 62).findSome? (fun i =>
    if s.created i then ((List.range 4).find? (fun k => s.getF F.hpViCfg_tqValid 0 i / 2 ^ k % 2 == 1 && s.getF (F.hpViCfg_tq k) 0 i == q)).map (fun k => (i, k))
    else none)
/-- The copy channels of an instance: engine and local index. -/
def State.viChans (s : State) (i : Nat) : List (Nat × Nat) :=
  ((List.range 4).filter (fun k => s.getF F.hpViCfg_chValid 0 i / 2 ^ k % 2 == 1)).map (fun k =>
    let g := s.getF (F.hpViCfg_ch k) 0 i
    (g / 32, g % 32))
/-- The queues of an instance. -/
def State.viQueues (s : State) (i : Nat) : List Nat :=
  ((List.range 4).filter (fun k => s.getF F.hpViCfg_tqValid 0 i / 2 ^ k % 2 == 1)).map (fun k => s.getF (F.hpViCfg_tq k) 0 i)

def tqRing (q : Nat) : Ring := { de := false, u := 0, i := q }
def State.queue (s : State) (q : Nat) : Chan := s.queues.get {} q
def State.setQueue (s : State) (q : Nat) (v : Chan) : State := { s with queues := s.queues.set {} q v }
def State.modQueue (s : State) (q : Nat) (f : Chan → Chan) : State := s.setQueue q (f (s.queue q))

/-- Send an Invalidation Completion for each request of a function that waits for nothing more (R373, R375). -/
def State.invalPump (s : State) (i : Nat) : State :=
  let f := s.vf i
  if s.resetting i then s
  else
    (f.inval.filter (fun e => e.2.isEmpty)).foldl (fun (s : State) (e : Nat × List Nat) => s.tlp 0 { kind := .invalComplete, rid := i, tag := e.1 })
      (s.setVf i { f with inval := f.inval.filter (fun e => !e.2.isEmpty) })

/-- The jobs of a queue are squashed (R329, R375); the destinations of those that write local memory are remembered, for their bytes are unspecified (R337, R370). -/
def State.squashQueue (s : State) (q : Nat) : State :=
  let k := s.queue q
  s.setQueue q { blur := k.blur ++ (k.jobs.filter (fun j => bitsOf (j.word 0) 0 8 == 2 && j.record.isNone)).map (fun j => ((j.word 2).toNat, bitsOf (j.word 3) 0 32)) }

/-- INITIATE_FLR (R375, steps 1 and 2): the channels and queues stop and are squashed; posted writes already queued have been sent. -/
def State.flr (s : State) (i : Nat) (removing : Bool) : State :=
  if !s.created i then s
  else
    let s1 := s.setF F.hpViCfg_resetting 0 i 1
    let s2 := (s.viChans i).foldl (fun (s : State) (c : Nat × Nat) => s.chanReset c.1 c.2) s1
    let s3 := (s.viQueues i).foldl (fun (s : State) (q : Nat) => (s.squashQueue q).setRState (tqRing q) 3) s2
    let s4 := s3.modHp 0 (fun h => { h with outst := h.outst.map (fun o => match o.kind with
      | .fabric _ => o
      | _ => if o.fn = i then { o with discard := true } else o) })
    s4.setVf i { s4.vf i with removing := (s4.vf i).removing || removing }

/-- INITIATE_FLR (R375). -/
def execInitiateFlr (i : Fin 62) (s : State) : Host.Outcome State Fault Refusal := ok (s.flr i.val false)

/-- Return a removed instance's resources (R375). -/
def State.viRemoved (s : State) (i : Nat) : State :=
  let s1 := (s.viChans i).foldl (fun (s : State) (c : Nat × Nat) => s.setF F.deChCfg_instance c.1 c.2 0) s
  ((s1.setRegWord .hpViAper 0 i 0).setRegWord .hpViCfg 0 i 0).setVf i {}

/-- Whether an FLR still waits: for an outstanding read of the function, or for the reset of one of its channels (R375 steps 2 and 3). -/
def State.flrWaits (s : State) (i : Nat) : Bool :=
  (s.hp 0).outst.any (fun o => o.fn == i && (match o.kind with
    | .fabric _ => false
    | _ => true)) || (s.viChans i).any (fun c => s.rState (deRing c.1 c.2) == 3)

/-- FLR_COMPLETE (R375, steps 3 to 6): once every outstanding read of the function is accounted for and its channels are reset. -/
def State.flrEnd (s : State) (i : Nat) : State :=
  if !s.resetting i || s.flrWaits i then s
  else
    let f := s.vf i
    let wid := s.getF F.hpViCfg_wid 0 i
    let s1 := s.modHp 0 (fun h => { h with atc := h.atc.filter (fun e => e.fn != i) })
    let s2 := f.inval.foldl (fun (s : State) (e : Nat × List Nat) => s.tlp 0 { kind := .invalComplete, rid := i, tag := e.1 }) s1
    let s3 := (s.viQueues i).foldl (fun (s : State) (q : Nat) =>
      let t := (s.queue q).blur.foldl (fun (s : State) (d : Nat × Nat) => s.unspecify wid (d.2 / 64 + 2) d.1 d.2) s
      (t.setQueue q {}).ringReset (tqRing q)) s2
    let s5 := ((s3.setVf i {}).setF F.hpViCfg_resetting 0 i 0).record Ev.viReset (srcHp 0 wid) (w64 i) (w64 wid)
    if f.removing then s5.viRemoved i else s5

/-- FLR_COMPLETE (R375). -/
def execFlrComplete (i : Fin 62) (s : State) : Host.Outcome State Fault Refusal :=
  ok (s.served (hpStop 0) 0 (.flrComplete i) (fun s => s.flrEnd i.val))

/-- Every instance is removed: VF Enable is cleared, or the endpoint link goes down (R375). -/
def State.removeAll (s : State) : State :=
  (List.range 62).foldl (fun s i => s.flr i true) { s with pf := { s.pf with vfEnable := false } }

/-- VF_ENABLE_CLEAR (R375). -/
def execVfEnableClear (s : State) : Host.Outcome State Fault Refusal := ok s.removeAll

/-- A link-down reset in the endpoint role: the link is down and every instance is removed (R375, R540). -/
def State.epDown (s : State) : State :=
  ((s.setF F.hpPortStatus_epLinkUp 0 0 0).modHp 0 (fun h => { h with training := 0 })).removeAll

/-- BUS_MASTER_ENABLE_CLEAR (R374): reads outstanding will be discarded; no new upstream request. 0 is the physical function. -/
def execBusMasterEnableClear (i : Fin 62) (s : State) : Host.Outcome State Fault Refusal :=
  if i.val = 0 then ok { s with pf := { s.pf with bme := false } }
  else ok ((s.setVf i.val { s.vf i.val with bme := false }).modHp 0 (fun h => { h with outst := h.outst.map (fun o => match o.kind with
      | .fabric _ => o
      | _ => if o.fn = i.val then { o with discard := true } else o) }))

/-- The PF's interrupt (R372): its vector, or INTA where MSI-X is disabled. -/
def State.pfInt (s : State) : State :=
  let f := s.pf
  if f.msixEn then
    if f.bme && !f.msixMask && !f.vecMask then s.tlp 0 { kind := .msix, rid := 0, addr := f.vecAddr.toNat, data := f.vecData.toNat, len := 4 }
    else { s with pf := { f with pend := true } }
  else
    let s1 := { s with pf := { f with pend := true } }
    if !f.intDis && !f.intA then State.tlp { s1 with pf := { s1.pf with intA := true } } 0 { kind := .intA true } else s1

/-- Messages that a mask or Bus Master Enable held back are sent when nothing holds them (R372, R374). -/
def State.vfPump (s : State) (i : Nat) : State :=
  let f := s.vf i
  (List.range 8).foldl (fun (s : State) (v : Nat) =>
    let g := s.vf i
    if g.pend.getLsbD v && g.msixEn && !g.msixMask && !g.vecMask.getLsbD v && g.bme then
      (s.setVf i { g with pend := g.pend &&& ~~~(1#8 <<< v) }).vfInt i v
    else s) (s.setVf i f)

/-- The same for the PF; INTA falls when nothing is pending or Interrupt Disable is set (R372). -/
def State.pfPump (s : State) : State :=
  let f := s.pf
  let s1 := if f.pend && f.msixEn && f.bme && !f.msixMask && !f.vecMask then State.pfInt { s with pf := { f with pend := false } } else s
  let g := s1.pf
  if g.intA && (g.intDis || !g.pend || g.msixEn) then State.tlp { s1 with pf := { g with intA := false } } 0 { kind := .intA false } else s1

/-- BUS_MASTER_ENABLE_SET (R374, R376): ignored during an FLR; pending messages go. -/
def execBusMasterEnableSet (i : Fin 62) (s : State) : Host.Outcome State Fault Refusal :=
  if i.val = 0 then ok (State.pfPump { s with pf := { s.pf with bme := true } })
  else if s.resetting i.val then ok s
  else ok ((s.setVf i.val { s.vf i.val with bme := true }).vfPump i.val)

/-- HP_VI_APER_WRITE (R368): by WID 0 or the instance's WID; a misaligned BASE or an aperture outside one of segments 0x0 to 0xD is refused. -/
def execHpViAperWrite (w : Issuer) (i : Fin 62) (v : Word) (s : State) : Host.Outcome State Fault Refusal :=
  let wid := s.issuerWid w
  s.guardedAt w .hp 0 (decide (1 ≤ i.val) && (wid == 0 || (s.created i.val && wid == s.getF F.hpViCfg_wid 0 i.val))) (fun s =>
    let size := 2 ^ (24 + s.getF F.hpEpCfg_vfBar2Log 0 0)
    let base := bitsOf v 16 36 * 65536
    if base % size ≠ 0 ∨ rangeOk base size = false then s.setF F.hpPortStatus_reject 0 0 1 else s.writeReg .hpViAper 0 i.val v allBytes)

/-! ### Links -/

/-- Whether a port may train in the mode (R29, R356, R446). -/
def State.mayTrain (s : State) (k : Nat) : Bool :=
  if k = 0 then s.mode == 3 || s.mode == 4 || s.mode == 5 else s.mode == 4

/-- Start training: the port's PLL locks and its links train (R355, R356). -/
def State.hpTrain (s : State) (k : Nat) : State :=
  if !s.isF F.hpPortCfg_enable k 0 || !s.mayTrain k then s
  else
    let links : BitVec 4 := if s.endpoint k then 1 else (List.range 4).foldl (fun (a : BitVec 4) j => if s.rpEnabled k j && !s.frozenRp k j then a ||| (1#4 <<< j) else a) 0
    if s.endpoint k && (s.hp k).perst then s.setF F.hpPortStatus_pllLocked k 0 1
    else (s.setF F.hpPortStatus_pllLocked k 0 1).modHp k (fun h => { h with training := links })

/-- HP_PORT_ENABLE (R356): a write of HP_PORT_CFG; ENABLE 1 trains the links and 0 takes them down by software request. -/
def execHpPortEnable (w : Issuer) (hp : Fin 2) (v : Word) (s : State) : Host.Outcome State Fault Refusal :=
  let k := hp.val
  s.keeperAt w .hp k (fun s =>
    let was := s.isF F.hpPortCfg_enable k 0
    let s1 := s.writeReg .hpPortCfg k 0 (if k = 1 then putBits v 2 1 0 else v) allBytes
    let now := s1.isF F.hpPortCfg_enable k 0
    if now && !was then s1.hpTrain k
    else if was && !now then
      (let s2 := (List.range 4).foldl (fun (s : State) (j : Nat) => s.setF F.hpRcStatus_dlActive k j 0) (s1.modHp k (fun h => { h with training := 0 }))
       if s1.endpoint k then s2.epDown else s2)
    else s1)

/-- PCIE_LINK_UP (R365): a training link reaches DL_Active. -/
def execPcieLinkUp (hp : Fin 2) (rp : Fin 4) (width : Fin 5) (rate : Fin 7) (flit : Bool) (s : State) : Host.Outcome State Fault Refusal :=
  let k := hp.val
  let j := rp.val
  if !(s.hp k).training.getLsbD j then ok s
  else
    let s1 := s.modHp k (fun h => { h with training := h.training &&& ~~~(1#4 <<< j) })
    if s.endpoint k then ok (s1.setF F.hpPortStatus_epLinkUp k 0 1)
    else ok ((((s1.setF F.hpRcStatus_dlActive k j 1).setF F.hpRcStatus_width k j width.val).setF F.hpRcStatus_rate k j
      (min rate.val (s.getF F.hpPortCfg_maxRate k 0))).setF F.hpRcStatus_flit k j flit.toNat)

/-- PCIE_LINK_DOWN (R362, R375): a surprise removal, or a link-down reset of the endpoint. -/
def execPcieLinkDown (hp : Fin 2) (rp : Fin 4) (s : State) : Host.Outcome State Fault Refusal :=
  let k := hp.val
  let j := rp.val
  if s.endpoint k then ok s.epDown
  else if s.isF F.hpRcStatus_dlActive k j then ok (s.freezeRp k j 3)
  else ok s

/-- PCIE_ERROR_RECEIVED (R362, R484). -/
def execPcieErrorReceived (hp : Fin 2) (rp : Fin 4) (e : PcieErr) (s : State) : Host.Outcome State Fault Refusal :=
  let k := hp.val
  let j := rp.val
  let c (f : Fld) : Bool := s.isF f k j
  let uec (s : State) : State := s.rasError .hp k 0 { sev := .uec, code := Ev.hpFreeze, unit := 4 }
  match e with
  | .correctable => ok (s.rasError .hp k 0 { sev := .ce, code := Ev.hpFreeze, unit := 4 })
  | .fatal => if s.endpoint k then ok (uec s) else ok (s.freezeRp k j 1)
  | .nonFatal => if c F.hpRcCtrl_containNonfatal && !s.endpoint k then ok (s.freezeRp k j 2) else ok (uec s)
  | .poisoned => if c F.hpRcCtrl_containPoison && !s.endpoint k then ok (s.freezeRp k j 5) else ok s

/-- PCIE_PLL_LOSS (R21, R362): every root port of the port freezes; the endpoint link is lost. -/
def execPciePllLoss (hp : Fin 2) (s : State) : Host.Outcome State Fault Refusal :=
  let k := hp.val
  let s1 := s.setF F.hpPortStatus_pllLocked k 0 0
  if s.endpoint k then ok s1.epDown else ok ((List.range 4).foldl (fun s j => s.freezeRp k j 7) s1)

/-- PERST_ASSERT (R540): HP0_PERST0_N in the endpoint role is a link-down reset of HP0. -/
def execPerstAssert (s : State) : Host.Outcome State Fault Refusal :=
  let s1 := s.modHp 0 (fun h => { h with perst := true })
  if s.endpoint 0 then ok s1.epDown else ok s1

/-- PERST_RELEASE (R540): HP0 trains its link where it is enabled. -/
def execPerstRelease (s : State) : Host.Outcome State Fault Refusal :=
  let s1 := s.modHp 0 (fun h => { h with perst := false })
  if s.endpoint 0 then ok (s1.hpTrain 0) else ok s1

/-! ### Host transfer queues (R369 to R371, R373) -/

/-- HP_TQ_TAIL_WRITE (R369). -/
def execHpTqTailWrite (w : Issuer) (q : Fin 64) (v : Word) (s : State) : Host.Outcome State Fault Refusal :=
  let wid := s.issuerWid w
  let may : Bool := wid == 0 || (match s.queueOwner q.val with
    | some (i, _) => wid == s.getF F.hpViCfg_wid 0 i
    | none => false)
  s.guardedAt w .hp 0 may (fun s => (s.tailWrite (tqRing q.val) v).ringSync (tqRing q.val) true)

/-- The fields of a queue descriptor (R370). -/
def Job.tqOp (j : Job) : Nat := bitsOf (j.word 0) 0 8
def Job.tqHost (j : Job) : Nat := (j.word 1).toNat
def Job.tqLocal (j : Job) : Nat := (j.word 2).toNat
def Job.tqLen (j : Job) : Nat := bitsOf (j.word 3) 0 32

/-- Whether a queue descriptor is well formed (R370). -/
def Job.tqValid (j : Job) : Bool :=
  decide (j.tqOp ≤ 2) && decide ((j.word 0).toNat < 2048) && (j.tqOp == 1 || !(j.word 0).getLsbD 10) && decide (j.tqLocal < 2 ^ 52)
    && decide (j.tqLen ≤ 2 ^ 22) && rangeOk j.tqLocal j.tqLen && decide (j.tqHost + j.tqLen ≤ 2 ^ 64)

/-- A queue job ends with a status: its record waits its turn (R370). -/
def State.tqEnd (s : State) (q i slot : Nat) (j : Job) (st : Nat) : State :=
  let log := s.rLog (tqRing q)
  let n := if st = 0 then j.tqLen else 0
  let rec_ := [w64 (j.index + st * 2 ^ 16 + phase j.index log * 2 ^ 26 + bitsOf (j.word 3) 32 32 * 2 ^ 32), w64 n]
  let jobs := (s.queue q).jobs.map (fun o => if o.index = j.index then { o with record := some rec_, int := bitsOf (j.word 0) 8 1 == 1 } else o)
  let r := s.cplPump (tqRing q) (s.getF F.hpViCfg_wid 0 i) jobs (fun s _ => s.vfInt i (4 + slot)) 4096
  (r.2.modQueue q (fun k => { k with jobs := r.1 })).ringSync (tqRing q) true

/-- A failed job's destination is unspecified (R337, R370). -/
def State.tqFail (s : State) (q i slot : Nat) (j : Job) (st : Nat) : State :=
  let wid := s.getF F.hpViCfg_wid 0 i
  (if j.tqOp = 2 then s.unspecify wid (j.tqLen / 64 + 2) j.tqLocal j.tqLen else s).tqEnd q i slot j st

/-- The translated host address of a byte, from the translation cache (R373). -/
def State.atcLook (s : State) (i va : Nat) : Option Nat :=
  ((s.hp 0).atc.find? (fun e => e.fn == i && e.va / 2 ^ e.log == va / 2 ^ e.log)).map (fun e => e.pa / 2 ^ e.log * 2 ^ e.log + va % 2 ^ e.log)

/-- Pieces of at most 512 bytes that do not cross a 512-byte boundary: offset and length. (DESIGN CHOICE, assumption 52.) -/
def pieces (host : Nat) : Nat → Nat → Nat → List (Nat × Nat)
  | 0, _, _ => []
  | f + 1, off, n =>
    if n = 0 then []
    else
      let len := min n (512 - (host + off) % 512)
      (off, len) :: pieces host f (off + len) (n - len)

/-- Run a queue job: translate what must be translated, then move its data (R370, R373). -/
def State.tqRun (s : State) (q i slot : Nat) (j : Job) : State :=
  let n := j.tqLen
  let wid := s.getF F.hpViCfg_wid 0 i
  let ats := (s.vf i).ats
  let ps := pieces j.tqHost (n / 512 + 2) 0 n
  let miss := if ats then ps.find? (fun p => (s.atcLook i (j.tqHost + p.1)).isNone) else none
  let addr (o : Nat) : Nat := if ats then (s.atcLook i (j.tqHost + o)).getD 0 else j.tqHost + o
  match miss with
  | some p =>
    (s.modQueue q (fun k => { k with jobs := k.jobs.map (fun o => if o.index = j.index then { o with transl := true } else o) })).hpRequest 0
      { kind := .translation, rid := i, addr := (j.tqHost + p.1) / 4096 * 4096 } { tag := 0, kind := .transl q j.index, fn := i, addr := (j.tqHost + p.1) / 4096 * 4096 }
  | none =>
    if n = 0 then s.tqEnd q i slot j 0
    else if j.tqOp = 1 then
      let r := s.jobRead wid j.tqLocal n
      if r.1 ≠ 0 then r.2.2.tqFail q i slot j r.1
      else
        let s1 := ps.foldl (fun (s : State) (p : Nat × Nat) =>
          s.tlp 0 { kind := .memWrite, rid := i, addr := addr p.1, len := p.2, data := ofBytes ((r.2.1.drop p.1).take p.2), ro := (j.word 0).getLsbD 10,
                    translated := ats }) r.2.2
        s1.tqEnd q i slot j 0
    else
      let s1 := s.modQueue q (fun k => { k with jobs := k.jobs.map (fun o => if o.index = j.index then { o with reads := ps.map (·.1), transl := false } else o) })
      ps.foldl (fun (s : State) (p : Nat × Nat) =>
        s.hpRequest 0 { kind := .memRead, rid := i, addr := addr p.1, len := p.2, translated := ats }
          { tag := 0, kind := .queue q j.index p.1, len := p.2, fn := i, addr := j.tqHost + p.1 }) s1

/-- Serve the next descriptor of a queue where its operation is `op`, or where it is not well formed (R328, R369, R370). -/
def State.tqServe (s : State) (q op : Nat) : State :=
  match s.queueOwner q with
  | none => s
  | some (i, slot) =>
    let g := tqRing q
    if s.rState g == 2 || s.rState g == 3 || s.rHead g == s.rTail g || s.resetting i || !(s.vf i).bme then s
    else
      let h := s.rHead g
      let r := s.descriptor g (s.getF F.hpViCfg_wid 0 i) h
      match r.1 with
      | none => (r.2.setF F.hpTqStatus_fetchErr 0 q 1).setRState g 2
      | some ws =>
        let j : Job := { index := h, words := ws, fetched := s.mtime, ran := some s.mtime }
        if (j.tqValid && j.tqOp != op) || (j.tqValid && (j.word 0).getLsbD 9 && !(s.queue q).jobs.isEmpty) then s
        else
          let s1 := ((r.2.modQueue q (fun k => { k with jobs := k.jobs ++ [j] })).setRHead g (h + 1)).ringSync g true
          if !j.tqValid then s1.tqEnd q i slot j 7
          else if op = 0 then s1.tqEnd q i slot { j with words := [j.word 0, j.word 1, j.word 2, j.word 3 - w64 j.tqLen] } 0
          else s1.tqRun q i slot j

/-- TQ_NOP (R370). -/
def execTqNop (q : Fin 64) (s : State) : Host.Outcome State Fault Refusal := ok (s.served (hpStop 0) 0 (.tqNop q) (fun s => s.tqServe q.val 0))
/-- TO_HOST (R370): local memory to host memory by Memory Writes, all sent before the completion record. -/
def execToHost (q : Fin 64) (s : State) : Host.Outcome State Fault Refusal :=
  ok (s.served (hpStop 0) 0 (.toHost q) (fun s => s.tqServe q.val 1))
/-- FROM_HOST (R370): the job's Memory Reads are sent; their completions bring the data. -/
def execFromHost (q : Fin 64) (s : State) : Host.Outcome State Fault Refusal :=
  ok (s.served (hpStop 0) 0 (.fromHost q) (fun s => s.tqServe q.val 2))

/-- A read of a queue job is accounted for; with the last one the job ends (R370, R374). -/
def State.tqRead (s : State) (q index off len st : Nat) (d : BitVec 4096) : State :=
  match s.queueOwner q, (s.queue q).jobs.find? (fun j => j.index == index && j.record.isNone) with
  | some (i, slot), some j =>
    let j1 := { j with reads := j.reads.erase off, status := if j.status = 0 then st else j.status, got := if st = 0 then j.got ++ [(off, len, d)] else j.got }
    let s1 := s.modQueue q (fun k => { k with jobs := k.jobs.map (fun o => if o.index = index then j1 else o) })
    if !j1.reads.isEmpty then s1
    else if j1.status ≠ 0 then s1.tqFail q i slot j1 j1.status
    else
      let r := j1.got.foldl (fun (a : Nat × State) (g : Nat × Nat × BitVec 4096) =>
        if a.1 ≠ 0 then a else a.2.jobWrite (s.getF F.hpViCfg_wid 0 i) (j1.tqLocal + g.1) (toBytes g.2.1 g.2.2.toNat)) (0, s1)
      if r.1 ≠ 0 then r.2.tqFail q i slot j1 r.1 else r.2.tqEnd q i slot j1 0
  | _, _ => s

/-- A read that an invalidation or a reset waits for is accounted for (R373, R375). -/
def State.readGone (s : State) (fn tag : Nat) : State :=
  let f := s.vf fn
  (s.setVf fn { f with inval := f.inval.map (fun e => (e.1, e.2.erase tag)) }).invalPump fn

/-! ### Completions (R357, R374) -/

/-- A fabric request is answered with a PCIe completion's outcome (R357). -/
def State.hpReply (s : State) (k : Nat) (p : Packet) (st : CplStatus) (po : Bool) (d : Nat) : State :=
  let cfg : Bool := decide ((p.sec * 64 + p.ioOffset) % 2 ^ 47 < 2 ^ 28)
  match st with
  | .ok => if p.opcode == Opc.ioRead then s.send (hpAnswer k p (sectorAt d p.ioOffset (2 ^ p.ioSize)) po) else s.send (answer p (hpStop k) Opc.comp 0)
  | .ur => if cfg && p.opcode == Opc.ioRead then s.send (hpAnswer k p (allOnes p) false) else s.hpErr k p Err.abort
  | .ca => s.hpErr k p Err.abort

/-- A queue that its HP_TQ_CTRL resets is IDLE again once nothing of it is outstanding (R329, R369): the destinations of its squashed jobs hold open values. -/
def State.tqQuiet (s : State) (q : Nat) : State :=
  let waits : Bool := (s.hp 0).outst.any (fun o => match o.kind with
    | .queue x _ _ | .transl x _ => x == q
    | .fabric _ => false)
  match s.queueOwner q with
  | none => s
  | some (i, _) =>
    if s.rState (tqRing q) != 3 || s.resetting i || waits then s
    else
      let t := (s.queue q).blur.foldl (fun (s : State) (d : Nat × Nat) => s.unspecify (s.getF F.hpViCfg_wid 0 i) (d.2 / 64 + 2) d.1 d.2) s
      (t.setQueue q {}).ringReset (tqRing q)

/-- Whether a command that has taken the outcome of a non-posted request still waits for accesses of its own: nothing else then accounts for the request. -/
def State.takenBy (s : State) (k tag : Nat) (cmd : Instr) : Bool :=
  s.works.any (fun r => r.stop == hpStop k && r.cmd != cmd && (match r.cmd with
    | .pcieCompletion _ t _ _ _ | .pcieCompletionTimeout _ t | .translationCompletion t _ _ _ => t.toNat == tag
    | _ => false))

/-- A completion arrives (R357, R362, R370, R374). -/
def State.completed (s : State) (k tag : Nat) (st : CplStatus) (po : Bool) (d : BitVec 4096) : State :=
  match (s.hp k).outst.find? (fun o => o.tag == tag) with
  | none => s.incSat F.hpPortStatus_unexpCpl k 0
  | some o =>
    let s1 := s.modHp k (fun h => { h with outst := h.outst.erase o })
    match o.kind with
    | .fabric p =>
      let s2 := s1.hpReply k p st po d.toNat
      if po && s2.isF F.hpRcCtrl_containPoison k o.rp then s2.freezeRp k o.rp 5 else s2
    | .queue q index off =>
      let code := if o.discard then 0x13 else match st with
        | .ok => if po then 0x15 else 0
        | .ur => 0x10
        | .ca => 0x11
      ((s1.tqRead q index off o.len code d).readGone o.fn tag).tqQuiet q
    | .transl _ _ => s

/-- PCIE_COMPLETION (R357, R362, R370, R374). -/
def execPcieCompletion (hp : Fin 2) (tag : BitVec 14) (st : CplStatus) (po : Bool) (d : BitVec 4096) (s : State) : Host.Outcome State Fault Refusal :=
  let cmd := Instr.pcieCompletion hp tag st po d
  if s.takenBy hp.val tag.toNat cmd then ok (s.incSat F.hpPortStatus_unexpCpl hp.val 0)
  else ok (s.served (hpStop hp.val) 0 cmd (fun s => s.completed hp.val tag.toNat st po d))

/-- CPL_TO expires (R357, R362, R370, R374): CONTAIN_CTO freezes the root port first, so the request is answered as frozen. -/
def State.timedOut (s : State) (k tag : Nat) : State :=
  match (s.hp k).outst.find? (fun o => o.tag == tag) with
  | none => s
  | some o =>
    let s1 := s.modHp k (fun h => { h with outst := h.outst.erase o })
    match o.kind with
    | .fabric p =>
      if s.isF F.hpRcCtrl_containCto k o.rp && !s.endpoint k then s.freezeRp k o.rp 4 else s1.hpErr k p Err.timeout
    | .queue q index off => ((s1.tqRead q index off o.len (if o.discard then 0x13 else 0x12) 0).readGone o.fn tag).tqQuiet q
    | .transl q index =>
      match s1.queueOwner q, (s1.queue q).jobs.find? (fun j => j.index == index && j.transl) with
      | some (i, slot), some j => s1.tqFail q i slot j (if o.discard then 0x13 else 0x12)
      | _, _ => s1.tqQuiet q

/-- PCIE_COMPLETION_TIMEOUT (R357, R362, R370, R374). (DEDUCED, assumption 50.) -/
def execPcieCompletionTimeout (hp : Fin 2) (tag : BitVec 14) (s : State) : Host.Outcome State Fault Refusal :=
  let cmd := Instr.pcieCompletionTimeout hp tag
  if s.takenBy hp.val tag.toNat cmd then ok s else ok (s.served (hpStop hp.val) 0 cmd (fun s => s.timedOut hp.val tag.toNat))

/-- A Translation Completion arrives (R373): the cache takes the entry and the job goes on; a translation that denies the access ends it. -/
def State.translationIn (s : State) (tag : Nat) (granted : Bool) (pa : Word) (log : Nat) : State :=
  match (s.hp 0).outst.find? (fun o => o.tag == tag) with
  | none => s.incSat F.hpPortStatus_unexpCpl 0 0
  | some o =>
    match o.kind with
    | .transl q index =>
      let s1 := s.modHp 0 (fun h => { h with outst := h.outst.erase o })
      match s1.queueOwner q, (s1.queue q).jobs.find? (fun j => j.index == index && j.transl) with
      | some (i, slot), some j =>
        if o.discard then s1.tqFail q i slot j 0x13
        else if !granted then s1.tqFail q i slot j 0x14
        else
          let e : AtcEnt := { fn := i, va := o.addr, pa := pa.toNat, log := max 12 log }
          let s2 := s1.modHp 0 (fun h => { h with atc := (if h.atc.length < 512 then h.atc else h.atc.drop 1) ++ [e] })
          s2.tqRun q i slot j
      | _, _ => s1.tqQuiet q
    | _ => s

/-- TRANSLATION_COMPLETION (R373). -/
def execTranslationCompletion (tag : BitVec 14) (granted : Bool) (pa : Word) (log : Fin 64) (s : State) : Host.Outcome State Fault Refusal :=
  let cmd := Instr.translationCompletion tag granted pa log
  if s.takenBy 0 tag.toNat cmd then ok (s.incSat F.hpPortStatus_unexpCpl 0 0)
  else ok (s.served (hpStop 0) 0 cmd (fun s => s.translationIn tag.toNat granted pa log.val))

/-- INVALIDATION_REQUEST (R373, R375): matching entries go at once; the completion waits for the reads that used them, and for the end of an FLR. -/
def execInvalidationRequest (i : Fin 62) (addr : Word) (log : Fin 65) (itag : BitVec 5) (s : State) : Host.Outcome State Fault Refusal :=
  let n := i.val
  let hit (a l : Nat) : Bool := a / 2 ^ max l log.val == addr.toNat / 2 ^ max l log.val
  let f := s.vf n
  if 32 ≤ f.inval.length then ok s
  else
    let s1 := s.modHp 0 (fun h => { h with atc := h.atc.filter (fun e => !(e.fn == n && hit e.va e.log)) })
    let waits := (s.hp 0).outst.filterMap (fun o => match o.kind with
      | .queue _ _ _ => if o.fn = n ∧ hit o.addr 0 = true then some o.tag else none
      | _ => none)
    ok ((s1.setVf n { f with inval := f.inval ++ [(itag.toNat, waits)] }).invalPump n)

end Sys2Proof.Machine
end

