-- ==== Sys2Proof/Machine/Fatal.lean ====
section
/-! DEFINITION. Fatal errors and Quarantine (R455, R492, R493), registers of a domain that goes OFF (R13), and hits of the limits of R402. -/
namespace Sys2Proof.Machine

/-- A register's word after a reset: the reset value, with the fields that `keep` names as they were. -/
def keptWord (fz : Fuses) (k : Nat) (old : Word) (keep : Fld → Bool) : Word :=
  (RegName.ofNat (k / 2 ^ 21)).fields.foldl (fun w f => if keep f then putBits w f.lsb f.width (bitsOf old f.lsb f.width) else w) (keyReset fz k)

/-- Replace every listed register's word. -/
def State.mapRegs (s : State) (f : Nat → Word → Word) : State :=
  { s with regs := s.regs.filterMap (fun (e : Nat × Word) => let v := f e.1 e.2; if v = keyReset s.fuses e.1 then none else some (e.1, v)) }

/-- The counters and latches that the spec clears only at cold reset, or keeps beyond it (R257, R289, R386, R395, R402, R404, R436, R444, R458, R506). -/
def coldOnly (f : Fld) : Bool :=
  f.reg == .axgLinkCount || f.reg == .mpErrCount || f.reg == .pwrDomCount || f.reg == .kprLimitCount
    || [F.mpScrubStatus_passes, F.curStatus_restarts, F.kprStatus_restarts, F.kprStatus_diceLocked, F.pwrModeStatus_changes, F.pwrLimitStatus_throttleEvents,
        F.anlStatus_dropped, F.anlStatus_fatalCause, F.anlStatus_fatalCount, F.anlStatus_timeUnset].contains f

/-- Return registers to their reset values at a power-up from OFF (R13): those of a unit and entry that `pick` names, but for the retained fields (RWS, LOCK, and RWL
under LOCK) and what only cold reset clears. -/
def State.resetRegs (s : State) (pick : RegName → Nat → Nat → Bool) : State :=
  s.mapRegs (fun k old =>
    let r := RegName.ofNat (k / 2 ^ 21)
    let u := k / 2 ^ 12 % 512
    if pick r u (k % 4096) then keptWord s.fuses k old (fun f => f.ty == .rws || f.ty == .lock || (f.ty == .rwl && s.locked r u) || coldOnly f) else old)

/-- Whether a register is retained in the tile's slice domain while its core is off (R461, R474). -/
def mlgReg (r : RegName) : Bool := r == .mlgVf || r == .mlgCoreStatus || r == .mlgCoreLife || r == .mlgWayRetire

/-- The registers that a domain's power-off loses (R13, R27, R435, R461). -/
def domainRegs (d : Nat) (r : RegName) (u _i : Nat) : Bool :=
  let at_ (p : Place) (k : Nat) : Bool := r.place == p && u == k
  if d < 272 then at_ .core d && !mlgReg r
  else if d < 408 then at_ .tile (d - 272)
  else if d < 420 then at_ .mp (d - 408)
  else if d < 426 then at_ .ax (d - 420)
  else if d < 428 then at_ .hp (d - 426) || (d == 426 && r.place == .hp0)
  else if d < 430 then at_ .de (d - 428)
  else if 431 ≤ d then r.place == .stop && stopX u == d - 431
  else false

/-- The state of a domain written (R434, R436). (DEDUCED, assumption 135.) -/
def State.setDomain (s : State) (d st : Nat) : State := s.setF F.pwrDomStatus_state 0 d st

/-- What the agents of a stop have open is lost with its power. -/
def State.stopOff (s : State) (st : Nat) : State := { s.dropRuns st with reqs := s.reqs.filter (fun e => e.1 / 4096 != st) }

/-- What a block holds outside its registers is lost with its power (R434): a slice's arrays come back invalid, and a port, an engine, the debug module and the interfaces of a mesh segment as
after reset. -/
def State.blockOff (s : State) (d : Nat) : State :=
  if d < 272 then s
  else if d < 408 then
    let t := d - 272
    State.deedForget { s with llc := s.llc.filter (fun e => e.1 / 12 / 1024 != t), dir := s.dir.filter (fun e => e.1 / 16 / 2048 != t), slices := s.slices.set {} t {} } (fun k _ => k == dcSlice t)
  else if d < 420 then State.deedForget { s with mps := s.mps.set {} (d - 408) {} } (fun k _ => k == dcPort (d - 408))
  else if d < 426 then (State.stopOff { s with links := s.links.set {} (d - 420) {}, gates := s.gates.set {} (d - 420) {} } (axStop (d - 420))).deedForget
    (fun k _ => k == dcGate (d - 420))
  else if d = 426 then State.stopOff { s with hps := s.hps.set {} 0 { ({} : Hp) with perst := (s.hp 0).perst }, pf := {}, vfs := [], queues := [] } (hpStop 0)
  else if d = 427 then State.stopOff { s with hps := s.hps.set {} 1 {} } (hpStop 1)
  else if d < 430 then State.stopOff { s with engines := s.engines.set {} (d - 428) {} } (deStop (d - 428))
  else if d = 430 then State.stopOff { s with dm := {} } dbgStop
  else { s with nis := s.nis.filter (fun e => stopX e.1 != d - 431) }

/-- A domain goes OFF: its registers return to reset values (R13), and what else it holds is lost (R434). -/
def State.domainOff (s : State) (d : Nat) : State := ((s.resetRegs (domainRegs d)).blockOff d).setDomain d 0

/-- A change of mode: MODE, CHANGES and the Annals record (R444, R496). -/
def State.setMode (s : State) (m : Nat) : State :=
  if s.mode = m then s
  else ((s.setF F.pwrModeStatus_mode 0 0 m).incF F.pwrModeStatus_changes 0 0).record Ev.modeChange srcSvc (w64 s.mode) (w64 m)

/-- Stop every hart where it stands (R455); a core that is cut off with something in its caches is a dead holder (R150). -/
def State.stopHarts (s : State) : State :=
  (List.range 272).foldl (fun (s : State) (c : Nat) => if s.domain c = 0 then s else s.modCore c (fun k => { k with dead := !k.flushed }))
    ((List.range 256).foldl (fun (s : State) (h : Nat) => s.modHart h (fun x => { x with stopped := true })) s)

/-- Enter Quarantine (R455, R493): clocks stop, gates send HOLD, root ports freeze, memory ports enter self-refresh, ALERT_N asserts (R537). A running sequence stops
where it stands (R459). (DEDUCED, assumption 56.) -/
def State.enterQuarantine (s : State) : State :=
  if s.mode = 7 ∨ s.mode = 0 then s
  else
    let s1 := ((s.setMode 7).setF F.pwrModeStatus_transition 0 0 0).stopHarts
    let s2 : State := { s1 with pw := { s1.pw with target := none, alert := true } }
    let s3 := (List.range 6).foldl (fun (s : State) (k : Nat) => if s.linkUp k && !s.quarantined k then s.linkControl k 6 0 0 else s) s2
    let s4 := (List.range 2).foldl (fun (s : State) (k : Nat) =>
      if s.domain (426 + k) = 2 ∧ ¬ s.endpoint k = true then (List.range 4).foldl (fun (s : State) (j : Nat) => s.freezeRp k j 0) s else s) s3
    (List.range 12).foldl (fun (s : State) (k : Nat) => (s.selfRefresh k).setDomain (408 + k) 1) s4

/-- A fatal event (R492, R493): the cause is latched, the first one stays, FATAL_COUNT advances; the FATAL record passes every limit and freeze; Quarantine follows. -/
def State.fatal (s : State) (cause : Nat) : State :=
  let s1 := (if s.getF F.anlStatus_fatalCause 0 0 = 0 then s.setF F.anlStatus_fatalCause 0 0 cause else s).incSat F.anlStatus_fatalCount 0 0
  (s1.writeRec Ev.fatal 7 srcSvc (w64 cause) (w64 s.mtime) true).enterQuarantine

/-- A hit of a limit of R402: row and value refused. (DEDUCED, assumption 61.) -/
def State.limitHit (s : State) (row : Nat) (v : Word) : State := s.record Ev.limitHit srcKeeper (w64 row) v

/-- FATAL_ERROR (R492, R493): one of the seven events of the table. -/
def execFatalError (cause : Fin 7) (s : State) : Host.Outcome State Fault Refusal := ok (s.fatal (cause.val + 1))

/-- ROOT_PLL_LOSS (R21). -/
def execRootPllLoss (s : State) : Host.Outcome State Fault Refusal := ok (s.fatal Fatal.rootPllLoss)

/-- LINK_PARITY_ERROR (R191, R216, R484): the router at a stop finds a mismatch. In a payload group it poisons the sector that the group carries, the first or the second of the
packet; in a header group it is fatal. Either way the stop's bank records it. -/
def execLinkParityError (stop : Fin 160) (p : Packet) (headerGroup second : Bool) (s : State) : Host.Outcome State Fault Refusal :=
  if headerGroup then ok ((s.rasError .stop stop.val s.annals.nextSeq { sev := .uec, code := Ev.fatal, unit := 3 }).fatal Fatal.meshHeader)
  else if s.net.any (fun f => f.pkt == p) then
    let q : Packet := if second then { p with poison2 := true } else { p with poison := true }
    let s1 : State := { s with net := s.net.map (fun f => if f.pkt == p then { f with pkt := q } else f) }
    ok (s1.errorEvent .stop stop.val { sev := .ued, code := Ev.sectorPoisoned, addr := some ((p.sec + second.toNat) * 64) } (srcStop stop.val 3 p.widN)
      (w64 ((p.sec + second.toNat) * 64)) 4)
  else ok s

end Sys2Proof.Machine
end

