-- ==== Sys2Proof/Machine/WorldSteps.lean ====
section
/-! DEFINITION. The deed unit (R305 to R307), the deed table (R311), keys (R315), the world attributes of pins (R317) and debug by world (R320, R321). -/
namespace Sys2Proof.Machine

/-! ### The deed unit -/

/-! The results of R305. -/
namespace Deed
def done : Nat := 0
def refusedState : Nat := 1
def refusedRequester : Nat := 2
def refusedSlot : Nat := 3
def refusedBusy : Nat := 4
def noDeed : Nat := 5
def notReady : Nat := 6
def refusedTarget : Nat := 7
def memoryFailed : Nat := 8
end Deed

/-- REFS of a slot moved up or down (R314). -/
def State.addRefs (s : State) (slot : Nat) (d : Int) : State :=
  s.setF F.wldKeySlot_refs 0 slot (((s.getF F.wldKeySlot_refs 0 slot : Nat) : Int) + d).toNat

/-- Flush a page: cbo.flush of each of its 64 sectors (R306). -/
def State.flushPage (s : State) (page : Nat) : State := (List.range 64).foldl (fun s i => s.cohFlush (64 * page + i) 0) s

/-- Whether the page's memory target can take the writes of a transition, or the error it answers (R306). -/
def State.pageTarget (s : State) (page : Nat) : Option Nat :=
  let gran := 32 * page
  if isDepo gran then
    match s.depoGate svcStop gran with
    | none => some Err.address
    | some (k, j) => if s.agentDead k j then some Err.targetDead else none
  else
    let bad := (List.range 32).any (fun i => !s.mpServes (interleave ((gran + i) % 2 ^ 33)).1)
    if bad then some Err.targetDead else none

/-- Rewrite the 32 granules of a page. -/
def State.eachGranule (s : State) (page : Nat) (f : State → Nat → State) : State := (List.range 32).foldl (fun s i => f s (32 * page + i)) s

/-- Whether a slot is valid and owned by a world. -/
def State.slotOf (s : State) (slot wid : Nat) : Bool := s.isF F.wldKeySlot_valid 0 slot && s.getF F.wldKeySlot_owner 0 slot == wid

/-- The check of one page (R305, R306): the result that stops the command there. (DESIGN CHOICE, assumption 29.) (DEDUCED, assumption 30.) -/
def State.deedCheck (s : State) (w op target slot page : Nat) : Option Nat :=
  let d := s.tableDeed page
  let st := dState d
  let own := dOwner d
  let free := st == 0
  if (s.regionOf page).isSome || !s.hasDeed page then some Deed.noDeed
  else if st = 4 ∨ st = 5 then some Deed.refusedState
  else if s.deedBad.contains page && op != 7 then some Deed.memoryFailed
  else match op with
    | 1 => if w ≠ 0 then some Deed.refusedRequester else if !free then some Deed.refusedState else if !s.slotOf slot target then some Deed.refusedSlot else none
    | 2 | 3 =>
      if free then some Deed.refusedState else if w ≠ own then some Deed.refusedRequester else if st ≠ 1 ∧ ¬(op = 2 ∧ st = 3) then some Deed.refusedState
      else none
    | 4 => if st ≠ 2 ∧ st ≠ 3 then some Deed.refusedState else if w ≠ own ∧ w ≠ dSharer d ∧ w ≠ 0 then some Deed.refusedRequester else none
    | 5 =>
      if w ≠ 2 then some Deed.refusedRequester else if st ≠ 1 ∨ own ≠ 2 then some Deed.refusedState else if !s.slotOf slot target then some Deed.refusedSlot
      else none
    | 6 => if free then some Deed.refusedState else if w ≠ own then some Deed.refusedRequester else none
    | _ => if w ≠ 0 then some Deed.refusedRequester else if free then some Deed.refusedState else none

/-- The deed that a transition writes first (R306): the final one, or DONATING and SCRUBBING, which admit no world. -/
def deedFirst (op target slot : Nat) (d : Word) : Word :=
  match op with
  | 1 => mkDeed target 1 slot 0 (dScrub d)
  | 2 | 3 => mkDeed (dOwner d) op (dSlot d) target (dScrub d)
  | 4 => mkDeed (dOwner d) 1 (dSlot d) 0 (dScrub d)
  | 5 => mkDeed (dOwner d) 4 (dSlot d) target (dScrub d)
  | _ => mkDeed (dOwner d) 5 (dSlot d) 0 (dScrub d)

/-- Whether a transition flushes the page once its first deed is written (R306). -/
def deedFlushes (op : Nat) (d : Word) : Bool := decide (4 ≤ op) || ((op == 2 || op == 3) && dState d == 3)

/-- A granule re-encrypted by DONATE (R306, R307): from the old key to the new slot with the new owner echo; one that proves uncorrectable is written poisoned and recorded. -/
def State.donateGranule (s : State) (d nd : Word) (g : Nat) (lost : Bool) : State :=
  let gr := s.granule g
  if lost then
    let s1 := s.setGranule g (s.sealed nd 0 0 true true)
    if isDepo g then s1
    else
      let k := (interleave (g % 2 ^ 33)).1
      (s1.incSat F.mpErrCount_uncorrectable k 0).errorEvent .mp k { sev := .ued, code := Ev.mpUncorrectable, addr := some (g * 128) } (srcMp k 0) (w64 (g * 128)) 0
  else if gr.blank then s
  else
    let o := s.openGranule g gr d
    s.setGranule g (s.sealed nd o.1 o.2 gr.p0 gr.p1)

/-- A granule that a transition rewrites (R306): zero plaintext under the new deed for ASSIGN, re-encryption for DONATE, and for RELEASE and RECLAIM a blank granule, or in a depository zero
plaintext under the old key. -/
def State.deedGranule (s : State) (op : Nat) (d nd : Word) (lost : BitVec 32) (g : Nat) : State :=
  match op with
  | 1 => s.setGranule g (s.sealed nd 0 0 false false)
  | 5 => s.donateGranule d nd g (lost.getLsbD (g % 32))
  | _ => s.setGranule g (if isDepo g then { s.sealed d 0 0 false false with scrubEpoch := (dScrub d + 1) % 64 } else {})

/-- A granule that was rewritten before the command met an error holds unspecified contents (R306). -/
def State.spoil (s : State) (g : Nat) : State :=
  { s.setGranule g { s.granule g with d0 := Config.freePlain s.fresh, d1 := Config.freePlain (s.fresh + 1) } with fresh := s.fresh + 2 }

/-- The rest of a transition, after the flush (R306): the result that stops the command, or none. `d` is the deed that the page had, `err` the granule whose write is answered with an error, `lost`
the granules that prove uncorrectable. A failure puts the page's deed back. The deed unit's reads are compared with the deed being replaced; an echo that differs fails the command (R309). (DEDUCED, assumption 125.) -/
def State.deedFinish (s : State) (op target slot page : Nat) (d : Word) (err : Option Nat) (lost : BitVec 32) : Option Nat × State :=
  let nd := if op = 1 ∨ op = 5 then mkDeed target 1 slot 0 (dScrub d) else mkDeed 0 0 0 0 ((dScrub d + 1) % 64)
  let echo := op != 5 || (List.range 32).all (fun i => lost.getLsbD i || s.echoOk (s.granule (32 * page + i)) d)
  if op = 2 ∨ op = 3 ∨ op = 4 then (none, s)
  else if op = 1 ∧ ¬ isDepo (32 * page) = true then (none, s.addRefs slot 1)
  else if (s.pageTarget page).isSome || !echo then (some Deed.memoryFailed, s.setDeed page d)
  else match err with
    | some k =>
      (some Deed.memoryFailed, ((List.range k).foldl (fun s i => (s.deedGranule op d nd lost (32 * page + i)).spoil (32 * page + i)) s).setDeed page d)
    | none =>
      let s1 := (s.eachGranule page (fun s g => s.deedGranule op d nd lost g)).setDeed page nd
      (none, match op with
        | 1 => s1.addRefs slot 1
        | 5 => (s1.addRefs (dSlot d) (-1)).addRefs slot 1
        | _ => { s1 with deedBad := s1.deedBad.filter (· != page) }.addRefs (dSlot d) (-1))

/-- End a command with a result and the pages it transitioned. -/
def State.deedEnd (s : State) (x result done : Nat) : State :=
  ((({ s with deedCmds := s.deedCmds.set none x none }).setF F.wldDeedStatus_busy 0 x 0).setF F.wldDeedStatus_result 0 x result).setF
    F.wldDeedStatus_donePages 0 x done

/-- A command written to page x (R305): a busy page refuses it, and the checks that come before any page are made. -/
def State.deedStart (s : State) (x op target slot : Nat) : State :=
  if s.isF F.wldDeedStatus_busy 0 x then s.setF F.wldDeedStatus_result 0 x Deed.refusedBusy
  else
    let count := s.getF F.wldDeedArg_count 0 x
    let badTarget : Bool := match op with
      | 1 => target == 0
      | 2 | 3 => target == x
      | 5 => decide (target < 3)
      | _ => false
    if !s.isF F.wldDeedTable_ready 0 0 || !s.isF F.wldDeedTable_lock 0 0 then s.deedEnd x Deed.notReady 0
    else if op = 0 ∨ 7 < op then s.deedEnd x Deed.refusedState 0
    else if count = 0 then s.deedEnd x Deed.done 0
    else if badTarget then s.deedEnd x Deed.refusedTarget 0
    else
      let c : DeedCmd := { op := op, target := target, slot := slot, page := s.getF F.wldDeedArg_page 0 x, left := count, done := 0 }
      let s1 : State := { s with deedCmds := s.deedCmds.set none x (some c) }
      (s1.setF F.wldDeedStatus_busy 0 x 1).setF F.wldDeedStatus_donePages 0 x 0

/-- A write of WLD_DEED_CMD_x (R305): only world x reaches its page. -/
def State.deedCommand (s : State) (w : Issuer) (x op target slot : Nat) : Host.Outcome State Fault Refusal :=
  s.guarded w svcStop (s.issuerWid w == x) (fun s => s.deedStart x op target slot)

/-- ASSIGN (R306). -/
def execAssign (w : Issuer) (page : BitVec 6) (target : BitVec 6) (slot : BitVec 8) (s : State) : Host.Outcome State Fault Refusal :=
  s.deedCommand w page.toNat 1 target.toNat slot.toNat
/-- SHARE_RO (R306). -/
def execShareRo (w : Issuer) (page : BitVec 6) (target : BitVec 6) (s : State) : Host.Outcome State Fault Refusal :=
  s.deedCommand w page.toNat 2 target.toNat 0
/-- SHARE_RW (R306). -/
def execShareRw (w : Issuer) (page : BitVec 6) (target : BitVec 6) (s : State) : Host.Outcome State Fault Refusal :=
  s.deedCommand w page.toNat 3 target.toNat 0
/-- UNSHARE (R306). -/
def execUnshare (w : Issuer) (page : BitVec 6) (s : State) : Host.Outcome State Fault Refusal := s.deedCommand w page.toNat 4 0 0
/-- DONATE (R306). -/
def execDonate (w : Issuer) (page : BitVec 6) (target : BitVec 6) (slot : BitVec 8) (s : State) : Host.Outcome State Fault Refusal :=
  s.deedCommand w page.toNat 5 target.toNat slot.toNat
/-- RELEASE (R306). -/
def execRelease (w : Issuer) (page : BitVec 6) (s : State) : Host.Outcome State Fault Refusal := s.deedCommand w page.toNat 6 0 0
/-- RECLAIM (R306). -/
def execReclaim (w : Issuer) (page : BitVec 6) (s : State) : Host.Outcome State Fault Refusal := s.deedCommand w page.toNat 7 0 0

/-- A page of a command page is served: the command ends there, or goes on with the next page (R305). -/
def State.deedServed (s : State) (x : Nat) (c : DeedCmd) (r : Option Nat) : State :=
  match r with
  | some res => s.deedEnd x res c.done
  | none =>
    if c.left ≤ 1 then s.deedEnd x Deed.done (c.done + 1)
    else
      { (s.setF F.wldDeedStatus_donePages 0 x (c.done + 1)) with
        deedCmds := s.deedCmds.set none x (some { c with page := c.page + 1, left := c.left - 1, done := c.done + 1, old := none }) }

/-- The page whose transition is under way: the deed unit's turn stays with it. -/
def State.deedNow (s : State) : Option (Nat × DeedCmd × Word) :=
  (List.range 64).findSome? (fun x => (s.deedCmds.get none x).bind (fun c => c.old.map (fun d => (x, c, d))))

/-- The next command page in turn with a running command (R305). -/
def State.deedNext (s : State) : Option (Nat × DeedCmd) :=
  (List.range 64).findSome? (fun i =>
    let x := (s.deedTurn + i) % 64
    (s.deedCmds.get none x).map (fun c => (x, c)))

/-- Take the next page in turn: it is refused, or its first deed is written, which every deed cache takes (R305, R306). -/
def State.deedTake (s : State) : State :=
  match s.deedNow, s.deedNext with
  | none, some (x, c) =>
    let page := c.page % 2 ^ 40
    let d := s.tableDeed page
    let s1 : State := { s with deedTurn := (x + 1) % 64 }
    match s.deedCheck x c.op c.target c.slot page with
    | some res => s1.deedEnd x res c.done
    | none => { s1.setDeed page (deedFirst c.op c.target c.slot d) with deedCmds := s1.deedCmds.set none x (some { c with old := some d }) }
  | _, _ => s

/-- Flush and finish the page whose transition is under way (R306). -/
def State.deedGo (s : State) (err : Option Nat) (lost : BitVec 32) : State :=
  match s.deedNow with
  | none => s
  | some (x, c, d) =>
    let page := c.page % 2 ^ 40
    let s1 := if deedFlushes c.op d then s.flushPage page else s
    let r := s1.deedFinish c.op c.target c.slot page d err lost
    r.2.deedServed x c r.1

/-- DEED_UNIT_TURN (R305, R306): one page of the next command page. Its flush asks the home of each sector of the page in turn, and the page is done with the last answer. -/
def execDeedUnitTurn (memErr : PageErr) (s : State) : Host.Outcome State Fault Refusal :=
  let cmd : Instr := .deedUnitTurn memErr
  if s.works.any (fun r => r.stop == svcStop && r.ep == 2 && r.cmd != cmd) then ok s
  else ok (s.deedTake.served svcStop 2 cmd (fun s => s.deedGo (memErr.code.map (fun e => e.toNat)) memErr.lost))

/-- DEED_TABLE_ENABLE (R311): a write of WLD_DEED_TABLE; ENABLE is ignored outside Full and Attached service. -/
def execDeedTableEnable (w : Issuer) (v : Word) (s : State) : Host.Outcome State Fault Refusal :=
  s.keeperOnly w svcStop (fun s =>
    let v1 := if s.mode = 4 ∨ s.mode = 5 then v else putBits v 0 1 (s.getF F.wldDeedTable_enable 0 0)
    s.writeReg .wldDeedTable 0 0 v1 allBytes)

/-- The deeds that initialisation writes (R311). -/
def State.deedCount (s : State) : Nat :=
  s.localTop / 4096 + ((List.range 14).map (fun n => if 1 ≤ n ∧ s.isF F.wldDepoDeed_valid 0 n = true then s.getF F.wldDepoDeed_span 0 n * 65536 else 0)).foldl (· + ·) 0

/-- DEED_TABLE_READY (R311): every deed is ASSIGNED to WID 2 with key slot 2 and SCRUB_EPOCH 0, and counted in REFS. -/
def State.deedReady (s : State) : State :=
  if s.isF F.wldDeedTable_enable 0 0 ∧ ¬(s.isF F.wldDeedTable_ready 0 0 = true) then
    (({ s with deeds := [], deedBad := [], deedCaches := [] }).setF F.wldDeedTable_ready 0 0 1).addRefs 2 s.deedCount
  else s

def execDeedTableReady (s : State) : Host.Outcome State Fault Refusal := ok s.deedReady

/-! ### Keys -/

/-- A write of WLD_KEY_CMD (R315): refused for slots 0 to 2, for a slot in use, and while a command runs. -/
def State.keyCommand (s : State) (op slot owner : Nat) : State :=
  if slot < 3 ∨ s.getF F.wldKeySlot_refs 0 slot ≠ 0 ∨ s.isF F.wldKeyCmd_busy 0 0 = true ∨ (op = 1 ∧ owner = 0) then s.setF F.wldKeyCmd_reject 0 0 1
  else { s.setF F.wldKeyCmd_busy 0 0 1 with keyCmd := some (op, slot, owner) }

/-- GENERATE (R315). -/
def execGenerate (w : Issuer) (slot : BitVec 8) (owner : BitVec 6) (s : State) : Host.Outcome State Fault Refusal :=
  s.keeperOnly w svcStop (fun s => s.keyCommand 1 slot.toNat owner.toNat)
/-- DESTROY (R315). -/
def execDestroy (w : Issuer) (slot : BitVec 8) (s : State) : Host.Outcome State Fault Refusal :=
  s.keeperOnly w svcStop (fun s => s.keyCommand 2 slot.toNat 0)

/-- Generate a key in a slot: a new key of the hardware RNG, known only by its serial number (R314). -/
def State.generateKey (s : State) (slot owner : Nat) : State :=
  let e := s.getF F.wldKeySlot_epoch 0 slot
  let s1 := ({ s with keySerial := s.keySerial + 1 }).setKeyGen slot s.keySerial
  ((s1.setF F.wldKeySlot_owner 0 slot owner).setF F.wldKeySlot_valid 0 slot 1).setF F.wldKeySlot_epoch 0 slot (if e = 255 then 1 else e + 1)

/-- Zeroise the key of a slot (R315). -/
def State.destroyKey (s : State) (slot : Nat) : State :=
  (({ s with keySerial := s.keySerial + 1 }).setKeyGen slot s.keySerial).setF F.wldKeySlot_valid 0 slot 0

/-- KEY_COMMAND_COMPLETE (R314, R315). -/
def execKeyCommandComplete (s : State) : Host.Outcome State Fault Refusal :=
  match s.keyCmd with
  | none => ok s
  | some (op, slot, owner) =>
    let s1 := ({ s with keyCmd := none }).setF F.wldKeyCmd_busy 0 0 0
    let s2 := if op = 1 then s1.generateKey slot owner else s1.destroyKey slot
    ok (s2.record Ev.keyCommand srcSvc (w64 slot) (w64 op))

/-! ### Pins and debug -/

/-- A pin that changes world returns to input, and the sourcecfg of its APLIC source is cleared (R317). -/
def State.pinInput (s : State) (pin : Nat) : State :=
  let p := s.pins.get {} pin
  ({ s with pins := s.pins.set {} pin { p with isOut := false, held := none, recent := false } }).setAplic (pin + 1)
    { s.aplicSrc (pin + 1) with cfg := 0, child := 0, pend := false, en := false }

/-- WLD_GPIO_WID_WRITE (R317). -/
def execWldGpioWidWrite (w : Issuer) (k : Fin 4) (v : Word) (s : State) : Host.Outcome State Fault Refusal :=
  s.keeperOnly w svcStop (fun s =>
    let s1 := s.writeReg .wldGpioWid 0 k.val v allBytes
    (List.range 8).foldl (fun (s' : State) (i : Nat) =>
      if s.getF (F.wldGpioWid_wid i) 0 k.val = s1.getF (F.wldGpioWid_wid i) 0 k.val then s' else s'.pinInput (8 * k.val + i)) s1)

/-- Whether invasive debug of a world is enabled (R320). -/
def State.invasive (s : State) (wid : Nat) : Bool := decide (2 ≤ wid) && (s.regWord .wldDebugInv 0 0).getLsbD wid

/-- Resume a halted hart (R321): to the pc and mode that the debug control registers hold; the predictors are emptied (R64). -/
def State.resumeHart (s : State) (h : Nat) : State :=
  if (s.hart h).debug then
    let d := s.csr h 0x7B0
    (s.modHart h (fun x => { x with debug := false, haltReq := false, pc := s.csr h 0x7B1, priv := Priv.ofCode (bitsOf d 0 2), virt := bitsOf d 5 1 == 1 })).predFlush h
  else s

/-- The value that a write of WID 0 leaves in a debug-enable register (R401): a bit of world 2 to 63 is set only while the world consents. -/
def State.consented (s : State) (v : Word) : Word := v &&& (s.regWord .kprDebugConsent 0 0 ||| 3)

/-- An ignored attempt to enable debug of a world that has not consented is a hit of a limit (R402). -/
def State.debugHit (s : State) (v : Word) : State := if s.consented v = v then s else s.record Ev.limitHit srcKeeper 11 v

/-- WLD_DEBUG_INV_WRITE (R320, R321, R401): clearing a world's bit resumes its halted harts. -/
def execWldDebugInvWrite (w : Issuer) (v : Word) (s : State) : Host.Outcome State Fault Refusal :=
  s.keeperOnly w svcStop (fun s =>
    let s1 := (s.debugHit v).writeReg .wldDebugInv 0 0 (s.consented v) allBytes
    (List.range 256).foldl (fun s h => if (s.hart h).debug && !s.invasive (s.seat h) then s.resumeHart h else s) s1)

/-- WLD_DEBUG_NONINV_WRITE (R320, R322, R401). -/
def execWldDebugNoninvWrite (w : Issuer) (v : Word) (s : State) : Host.Outcome State Fault Refusal :=
  s.keeperOnly w svcStop (fun s => (s.debugHit v).writeReg .wldDebugNoninv 0 0 (s.consented v) allBytes)

/-- DEBUG_HALT_REQUEST (R321): ignored unless invasive debug is enabled for the hart's world; a hart that runs halts, any other keeps the request. -/
def execDebugHaltRequest (hb : BitVec 8) (s : State) : Host.Outcome State Fault Refusal :=
  let h := hb.toNat
  if !s.invasive (s.seat h) then ok s
  else if s.runs h then ok (s.haltSoon h)
  else ok (s.modHart h (fun x => { x with haltReq := true }))

/-- DEBUG_RESUME_REQUEST (R321). -/
def execDebugResumeRequest (hb : BitVec 8) (s : State) : Host.Outcome State Fault Refusal :=
  let h := hb.toNat
  if s.invasive (s.seat h) then ok (s.resumeHart h) else ok s

end Sys2Proof.Machine
end

