-- ==== Sys2Proof/Machine/Remap.lean ====
section
/-! DEFINITION. What moves or reseats a hart: the quiesce of a core (R44, R148), remap (R42 to R45), seat lending (R294 to R298), a core's n (R463) and refusals of power
requests (R439, R440). -/
namespace Sys2Proof.Machine

/-! ### A core's n -/

/-- The usable ceiling of a core: the highest n, not above the fused ceiling, for which that point and every lower one are valid (R19, R462); 5 when point 0 is not. -/
def State.usableCeil (s : State) (c : Nat) : Nat :=
  min (s.getF F.mlgCoreStatus_nCeil c 0) (5 + ((List.range 13).takeWhile (fun p => s.isF (F.mlgVf_valid (p % 4)) c (p / 4))).length)

/-- The world that owns a domain (R323, R433). -/
def State.domOwner (s : State) (d : Nat) : Nat :=
  if d < 272 then (match s.hartOf d with
    | some h => s.seat h
    | none => 0) else 0

/-- The effective n of a core (R463). The swallower accepts n from 6 to 18 (R19): a core whose point 0 is not valid
keeps n = 6 (DESIGN CHOICE, assumption 126). In Reduced service every hart runs at n = 6 (R29, R453). -/
def State.nEff (s : State) (c : Nat) : Nat :=
  match s.hartOf c with
  | none => 0
  | some h =>
    if s.mode = 3 then 6 else
    let fixed := s.isF F.wldSeat_fixed 0 h
    let req := if fixed then s.getF F.wldSeat_fixedN 0 h else s.pw.reqN.get 6 h
    let plan := if fixed then 31 else s.getF F.mlgCoreStatus_nPlan c 0
    let thr := if s.pw.throttled.contains (c / 2) then 6 else 31
    max 6 (min 18 (min (min (min req plan) (min (s.usableCeil c) (s.pw.limN.get 31 c))) (min thr (s.pw.droopN.get 31 c))))

/-- N_EFF and OWNER of a core brought up to date (R436). -/
def State.syncCore (s : State) (c : Nat) : State :=
  let on : Bool := s.domain c == 2 || s.domain c == 3
  (s.setF F.pwrDomStatus_nEff 0 c (if on then s.nEff c else 0)).setF F.pwrDomStatus_owner 0 c (s.domOwner c)

/-! ### Refusals -/

/-! The refusers of R439. -/
namespace Refuser
def wakePending : Nat := 1
def ownerWorld : Nat := 2
def debugActive : Nat := 3
def folioActive : Nat := 4
def survey : Nat := 5
def thermalHold : Nat := 6
def inFlight : Nat := 7
def policy : Nat := 8
end Refuser

/-- A refusal or an abort of a request on a domain (R440): the domain's counter, the refuser's counter, LAST_REFUSER and the Annals record. -/
def State.powerRefuse (s : State) (d wid code : Nat) (abort : Bool) : State :=
  let s1 := s.incSat (if abort then F.pwrDomCount_aborted else F.pwrDomCount_refused) 0 d
  let s2 := s1.incSat (if abort then F.pwrRefuserCount_aborts else F.pwrRefuserCount_refusals) 0 code
  (s2.setF F.pwrDomStatus_lastRefuser 0 d code).record Ev.powerRefused { srcSvc with wid := wid } (w64 code) (w64 (d + wid * 2 ^ 16))

/-- Whether debug holds the hart of a core: halted, or a halt request pending (R439). -/
def State.debugHeld (s : State) (h : Nat) : Bool := (s.hart h).debug || (s.hart h).haltReq

/-! ### Remap -/

/-- Whether a core is in the pool of usable reserves (R16, R470). -/
def State.usableReserve (s : State) (c : Nat) : Bool :=
  decide (c < 272) && (s.hartOf c).isNone && !s.isF F.mlgCoreStatus_retired c 0 && !s.isF F.mlgCoreStatus_candidate c 0

/-- What directories list for a dead holder is resolved before its core or its hart serves again (R150): each home back-invalidates its entries, and every transaction that names the core ends.
The boolean says that nothing is left. -/
def State.bury (s : State) (c : Nat) : Bool × State :=
  if !(s.core c).dead then (true, s)
  else
    let lists (s : State) (d : DirEnt) : Bool := s.listed d c
    let t := s.flushRound (fun _ d => lists s d) (fun _ => false)
    ((t.flushDirs (fun _ d => lists t d)).isEmpty && t.coreIdle c && !t.slices.any (fun e => e.2.txs.any (fun x => x.pkt.srcN == coreStop c && x.pkt.epN == c % 2 && !x.back)), t)

/-- Complete a remap (R43, R44 steps 5 and 6): the hart's state stays with the hart; caches, predictors and TLBs do not move. -/
def State.moveHart (s : State) (h new : Nat) : State :=
  let old := s.physCore h
  let ctl := s.regWord .coreSpecCtrl old 0
  let pf := s.regWord .corePfCtrl old 0
  let was := s.domain old
  let s1 := s.modHart h (fun x => { x with tlb := [], shadowD := [], shadowT := [] })
  let s2 := ((s1.setCore old {}).setCore new {}).modNi (coreStop old) (fun n => { n with detect := n.detect.filter (fun e => e.key != old % 2) })
  let s3 := ((s2.setF F.coreHartMap_physCore 0 h new).incSat F.coreHartMap_remaps 0 h).setF F.coreHartMap_state 0 h 1
  let s4 := ((s3.domainOff old).setDomain new (if was = 3 then 3 else 2)).setRegWord .coreSpecCtrl new 0 ctl
  let s5 := (s4.setRegWord .corePfCtrl new 0 pf).modHart h (fun x => { x with stopped := false })
  ((s5.syncCore old).syncCore new).record Ev.hartRemap srcKeeper (w64 old) (w64 new)

/-- HART_REMAP (R44, R45): refused for a hart held by debug; one remap at a time, and never beside a lending of the hart. The hart stops at its boundary, its outstanding accesses and retired stores
are performed, its caches are written back and invalidated by the messages that this takes, and then it moves. A repeated command continues the quiesce. -/
def State.remap (s : State) (h new : Nat) : State :=
  let st := s.getF F.coreHartMap_state 0 h
  let other : Bool := (List.range 256).any (fun g => g != h && s.getF F.coreHartMap_state 0 g == 2)
  if st = 0 ∨ other = true ∨ s.isF F.wldSeat_lending 0 h = true ∨ ¬ s.usableReserve new = true then s
  else if st = 1 ∧ s.debugHeld h = true then s.powerRefuse (s.physCore h) 0 Refuser.debugActive false
  else
    let s1 := if st = 1 then (s.stopHart h).setF F.coreHartMap_state 0 h 2 else s
    let r := s1.quiesce h
    let b := if r.1 then r.2.bury (s.physCore h) else r
    if b.1 then b.2.moveHart h new else b.2

/-- HART_REMAP (R44). -/
def execHartRemap (h : BitVec 8) (core : Fin 272) (s : State) : Host.Outcome State Fault Refusal := ok (s.remap h.toNat core.val)

/-! ### Lending -/

/-- Clear a world's consent, and with it its debug enables (R401, R405). -/
def State.dropConsent (s : State) (w : Nat) : State :=
  let clr (s : State) (r : RegName) : State := s.setRegWord r 0 0 (s.regWord r 0 0 &&& ~~~(1#64 <<< w))
  let s1 := clr (clr (clr s .kprDebugConsent) .wldDebugInv) .wldDebugNoninv
  (List.range 256).foldl (fun (s : State) (h : Nat) => if (s.hart h).debug && !s.invasive (s.seat h) then s.resumeHart h else s) s1

/-- The lending sequence once the hart has stopped and its caches are empty (R297 steps 4 to 7). -/
def State.reseat (s : State) (h wid : Nat) (fixed : Bool) (fixedN : Nat) (start : Word) : State :=
  let c := s.physCore h
  let old := s.seat h
  let s2 := (s.setCore c {}).modNi (coreStop c) (fun n => { n with detect := n.detect.filter (fun e => e.key != c % 2) })
  let s3 := s2.setHart h { ({} : Hart) with pc := start }
  let s4 := ((s3.setRegWord .coreSpecCtrl c 0 (resetWord s3.fuses .coreSpecCtrl c 0)).setRegWord .corePfCtrl c 0 (resetWord s3.fuses .corePfCtrl c 0)).setRegWord
    .coreMtimecmp 0 h 0xFFFFFFFFFFFFFFFF
  let s5 := ((((s4.setF F.wldSeat_wid 0 h wid).setF F.wldSeat_fixed 0 h fixed.toNat).setF F.wldSeat_fixedN 0 h (if fixed then fixedN else 0)).incSat
    F.wldSeat_lends 0 h).setF F.wldSeat_lending 0 h 0
  let s6 := ((s5.setF F.pwrDomStatus_idleUs 0 c 1000).setF F.pwrDomStatus_pinned 0 c 0).setF F.coreHartMap_state 0 h 1
  let s7 : State := { s6 with pw := { s6.pw with offNext := s6.pw.offNext.filter (· != c) },
                              kpr := { s6.kpr with seated := if 3 ≤ wid ∧ ¬ s6.kpr.seated.contains wid = true then s6.kpr.seated ++ [wid] else s6.kpr.seated } }
  let s8 := if 3 ≤ old ∧ (List.range 256).all (fun g => s7.seat g != old) = true then s7.dropConsent old else s7
  ((s8.specEff c).syncCore c).record Ev.seatLent srcKeeper (w64 h) (w64 wid)

/-- A lending (R297): the hart stops with LENDING set; its accesses are performed and its caches emptied, and then it is reseated. False while that goes on. -/
def State.lend (s : State) (h wid : Nat) (fixed : Bool) (fixedN : Nat) (start : Word) : Bool × State :=
  let s1 := if s.isF F.wldSeat_lending 0 h then s else (s.stopHart h).setF F.wldSeat_lending 0 h 1
  let r := s1.quiesce h
  let b := if r.1 then r.2.bury (s.physCore h) else r
  if b.1 then (true, b.2.reseat h wid fixed fixedN start) else (false, b.2)

end Sys2Proof.Machine
end

