-- ==== Sys2Proof/Machine/Power.lean ====
section
/-! DEFINITION. Power domains (R433 to R443): requests, refusers, drains, wakes and core idle. -/
namespace Sys2Proof.Machine

/-! ### What refuses -/

/-- Whether the OWNER of folios may read a hart's counts (R522). -/
def State.folioMayRead (s : State) (h : Nat) : Bool :=
  let o := s.getF F.pmuFolioCtrl_owner 0 0
  let w := s.seat h
  decide (w < 3) || w == o || o == 0 || (s.regWord .wldDebugNoninv 0 0).getLsbD w

/-- Whether an enabled folio period latches counters of a domain that it would not redact (R523). -/
def State.folioHolds (s : State) (d : Nat) : Bool :=
  let g (i : Nat) : Bool := s.getF F.pmuFolioCtrl_groups 0 0 / 2 ^ i % 2 == 1
  s.isF F.pmuFolioCtrl_enable 0 0 &&
    (if d < 272 then (match s.hartOf d with
        | some h => g 0 && s.folioMayRead h
        | none => false)
     else if d < 408 then g 1
     else if d < 420 then g 3
     else if d < 426 then g 4
     else decide (431 ≤ d) && g 2)

/-- Whether an event that ends the hart's wait is there (R443): an interrupt pending and enabled, or the reservation lost for WRS.NTO. -/
def State.wakeEvent (s : State) (h : Nat) : Bool :=
  let irq : Bool := (List.range 13).any (fun c => s.irqPending h c && bitsOf (s.csr h 0x304) c 1 == 1)
  match (s.hart h).wait with
  | .run => true
  | .wfi => irq
  | .wrsNto _ => irq || (s.hart h).resv.isNone
  | .wrsSto _ => true

/-- Whether a block reports work (R352, R376, R438). -/
def State.blockBusy (s : State) (d : Nat) : Bool :=
  if d = 428 ∨ d = 429 then
    let e := d - 428
    (List.range 32).any (fun c => s.rState (deRing e c) != 0) || (List.range 16).any (fun i => s.isF F.deScanCfg_enable e i)
  else if d = 426 then !(s.hp 0).outst.isEmpty || (List.range 62).any (fun i => s.created i)
  else if d = 427 then !(s.hp 1).outst.isEmpty
  else decide (d = 430) && s.dm.busy.isSome

/-- Whether any valid depository map entry names a port (R258 step 1). -/
def State.depoNames (s : State) (k : Nat) : Bool :=
  (List.range 160).any (fun st => (List.range 14).any (fun n => decide (1 ≤ n) && s.isF F.niDepoMap_valid st n && s.getF F.niDepoMap_portStop st n == axStop k))

/-- Whether the table of R437, or the mode (R446, R447, R453), marks a request refused. -/
def State.domPolicy (s : State) (d action : Nat) : Bool :=
  let m := s.mode
  let svc : Bool := m == 4 || m == 5
  if d < 272 then
    (s.hartOf d).isNone || !(svc || (m == 3 && action != 0)) || (action == 1 && s.domain d == 0 && !(s.core d).cut)
  else if d < 420 ∨ 431 ≤ d then true
  else if action = 2 then true
  else if d = 430 then m == 7 || m == 0 || m == 1
  else !svc || (decide (d < 426) && action == 0 && s.depoNames (d - 420))

/-- The first refuser of R439 that applies to a request at step 1 of R438. A debug session selects a core whose hart it holds, and through any hart it selects DBG. -/
def State.refuserOf (s : State) (d action wid : Nat) : Option Nat :=
  let h := if d < 272 then s.hartOf d else none
  let held : Bool := match h with
    | some h => s.debugHeld h
    | none => decide (d = 430) && (List.range 256).any (fun h => s.debugHeld h)
  let wake : Bool := match h with
    | some h => action == 0 && s.domain d != 2 && s.wakeEvent h
    | none => false
  if wake then some Refuser.wakePending
  else if wid ≠ s.domOwner d then some Refuser.ownerWorld
  else if held && action != 2 then some Refuser.debugActive
  else if action == 0 && s.folioHolds d then some Refuser.folioActive
  else if s.mode == 6 then some Refuser.survey
  else if action == 1 && decide (d < 272) && (s.core d).cut then some Refuser.thermalHold
  else if action == 0 && s.blockBusy d then some Refuser.inFlight
  else if s.domPolicy d action then some Refuser.policy
  else none

/-! ### Dead stops (R182) -/

/-- Declare a stop dead (R182): SELF_DEAD and DEAD at its neighbours, with FLUSHED; or revive it. The rule's revival names DEAD and SELF_DEAD only; the FLUSHED bits, which
mean nothing without them, are cleared too. (DESIGN CHOICE, assumption 128.) -/
def State.declareDead (s : State) (st : Nat) (dead : Bool) : State :=
  let s1 := if dead then (s.setF F.rtDeadCtrl_selfDead st 0 1).setF F.rtDeadCtrl_selfFlushed st 0 1
            else (s.setF F.rtDeadCtrl_selfDead st 0 0).setF F.rtDeadCtrl_selfFlushed st 0 0
  (List.range 4).foldl (fun (s : State) (p : Nat) =>
    match neighbour st p with
    | none => s
    | some n =>
      let q := Nat.xor p 1
      let put (s : State) (f : Fld) : State :=
        let v := s.getF f n 0
        s.setF f n 0 (if dead then Nat.lor v (2 ^ q) else v - Nat.land v (2 ^ q))
      put (put s F.rtDeadCtrl_dead) F.rtDeadCtrl_flushed) s1

/-- The stop of an I/O block's domain. -/
def domStop (d : Nat) : Option Nat :=
  if 420 ≤ d ∧ d < 426 then some (axStop (d - 420))
  else if d = 426 ∨ d = 427 then some (hpStop (d - 426))
  else if d = 428 ∨ d = 429 then some (deStop (d - 428))
  else if d = 430 then some dbgStop
  else none

/-! ### Drains and wakes -/

/-- A domain leaves ON: DRAINING and BUSY; a core issues no new request, an annex port is flushed and closes (R148, R258, R438). -/
def State.startDrain (s : State) (d : Nat) : State :=
  let s1 := (s.setDomain d 4).setF F.pwrDomStatus_busy 0 d 1
  if d < 272 then ((s1.closeWindows d).modCore d (fun k => { k with quiet := true })).corePump d
  else if 420 ≤ d ∧ d < 426 then
    let k := d - 420
    let s2 := if s1.quarantined k then s1 else s1.flushAgents k
    s2.modGate k (fun g => { g with closing := true })
  else s1

/-- Wake a domain: WAKING and BUSY. -/
def State.startWake (s : State) (d : Nat) : State := (s.setDomain d 5).setF F.pwrDomStatus_busy 0 d 1

/-- Give a domain the transition that a request accepted at step 1 starts (R437). -/
def State.domStart (s : State) (d : Nat) (r : DomReq) : State :=
  let st := s.domain d
  let done (s : State) : State := s.setF F.pwrDomStatus_lastRefuser 0 d 0
  if d < 272 then
    match r.action with
    | 0 => if s.isF F.pwrDomStatus_pinned 0 d then done s
           else if st = 3 then s.startDrain d
           else if s.pw.offNext.contains d then s else { s with pw := { s.pw with offNext := s.pw.offNext ++ [d] } }
    | 1 =>
      let s1 := s.setF F.pwrDomStatus_pinned 0 d 1
      if st = 1 then s1.startWake d else done s1
    | _ => done ((s.setF F.pwrDomStatus_idleUs 0 d r.timerUs).setF F.pwrDomStatus_pinned 0 d 0)
  else match r.action with
    | 0 => if st = 2 then s.startDrain d else done s
    | _ => if st = 0 then s.startWake d else done s

/-- A request on a domain (R437 to R441, R459): held during a mode sequence, pending behind a transition, otherwise checked, refused or started. -/
def State.domRequest (s : State) (d : Nat) (r : DomReq) : State :=
  if s.mode = 7 then s
  else if s.isF F.pwrModeStatus_transition 0 0 || s.isF F.pwrDomStatus_busy 0 d then
    let s1 := if (s.pw.pend.get none d).isSome then s.incSat F.pwrDomCount_superseded 0 d else s
    let s2 := (s1.setF F.pwrDomStatus_pending 0 d 1).setF F.pwrDomStatus_pendingAction 0 d r.action
    { s2 with pw := { s2.pw with pend := s2.pw.pend.set none d (some r) } }
  else match s.refuserOf d r.action r.wid with
    | some code => s.powerRefuse d r.wid code false
    | none => s.domStart d r

/-- A transition ends: BUSY clears, and a pending request then applies (R441). -/
def State.domSettled (s : State) (d : Nat) : State :=
  let s1 := s.setF F.pwrDomStatus_busy 0 d 0
  match s1.pw.pend.get none d with
  | none => s1
  | some r =>
    let s2 : State := { s1 with pw := { s1.pw with pend := s1.pw.pend.set none d none } }
    (s2.setF F.pwrDomStatus_pending 0 d 0).domRequest d r

/-- A transition in DRAINING is abandoned: the domain returns to ON, what has drained stays drained (R149, R438, R441). -/
def State.abortDrain (s : State) (d wid code : Nat) : State :=
  let s1 := s.setDomain d 2
  let s2 := if d < 272 then (s1.modCore d (fun k => { k with quiet := false, emptying := false, flushed := false })).syncCore d
            else if 420 ≤ d ∧ d < 426 then s1.modGate (d - 420) (fun g => { g with closing := false, empty := 0 }) else s1
  (s2.powerRefuse d wid code true).domSettled d

/-- Whether a drain has nothing left to wait for (R148, R258, R438). -/
def State.drained (s : State) (d : Nat) : Bool :=
  if d < 272 then (s.core d).flushed && (match s.hartOf d with
    | some h => (s.hart h).sq.isEmpty
    | none => true)
  else if 420 ≤ d ∧ d < 426 then (s.gate (d - 420)).txs.isEmpty
  else !s.blockBusy d && (match domStop d with
    | some st => !s.works.any (fun r => r.stop == st)
    | none => true)

/-- The steps that take a drained I/O block out of the fabric (R182): its stop is declared dead, then a global fence runs, and then nothing may be in its ejection path. The boolean says that the block
may be isolated; until then DOMAIN_DRAIN_COMPLETE is repeated. -/
def State.isolate (s : State) (d st : Nat) : Bool × State :=
  let fence (s : State) : State :=
    if s.fabricBusy then s
    else
      let t := s.startFence false
      { t with pw := { t.pw with iso := t.pw.iso.filter (fun e => e.1 != d) ++ [(d, some t.fenceSeq)] } }
  match s.pw.iso.find? (fun e => e.1 == d) with
  | none =>
    let t := s.declareDead st true
    (false, fence { t with pw := { t.pw with iso := t.pw.iso ++ [(d, none)] } })
  | some (_, none) => (false, fence s)
  | some (_, some q) =>
    if (s.fence.map (·.seq)) == some q || !s.ejectIdle st then (false, s)
    else (true, { s with pw := { s.pw with iso := s.pw.iso.filter (fun e => e.1 != d) } })

/-- A core is power-gated: what is neither in the save area nor in the slices is lost (R434, R435): its predictors, instruction cache, streams and translations come back empty. (DEDUCED, assumption 136.) -/
def State.gateCore (s : State) (c : Nat) : State :=
  let t := s.modCore c (fun k => { ({} : Core) with specNext := k.specNext, flushed := k.flushed, dead := k.dead, cut := k.cut })
  match t.hartOf c with
  | some h => t.modHart h (fun x => { x with tlb := [], shadowD := [], shadowT := [] })
  | none => t

/-- A drain completes: dead where needed, isolated, and off or retained (R148, R182, R258, R438). A wake that has arisen aborts a core's (R441). -/
def State.drainDone (s : State) (d : Nat) : State :=
  let wakes : Bool := match (if d < 272 then s.hartOf d else none) with
    | some h => s.wakeEvent h
    | none => false
  if s.domain d ≠ 4 ∨ ¬ s.drained d = true then s
  else if wakes then s.abortDrain d (s.domOwner d) Refuser.wakePending
  else
    let r := match domStop d with
      | some st => s.isolate d st
      | none => (true, s)
    if !r.1 then r.2
    else
      let s0 := (r.2.incSat F.pwrDomCount_entries 0 d).setF F.pwrDomStatus_lastRefuser 0 d 0
      if d < 272 then (((s0.gateCore d).setDomain d 1).syncCore d).domSettled d
      else (s0.domainOff d).domSettled d

/-- A wake completes: a pinned core reaches CLOCK_GATED with its hart still in its wait, any other domain ON (R434, R437). -/
def State.wakeDone (s : State) (d : Nat) : State :=
  if s.domain d ≠ 5 then s
  else
    let s0 := s.setF F.pwrDomStatus_lastRefuser 0 d 0
    if d < 272 then
      let waits : Bool := match s.hartOf d with
        | some h => !s.wakeEvent h
        | none => false
      let s1 := (s0.setDomain d (if waits then 3 else 2)).modCore d (fun k => { k with flushed := false, quiet := false, emptying := false, cut := false, dead := false })
      ((s1.syncCore d).domSettled d)
    else
      let s1 := s0.setDomain d 2
      let s2 := match domStop d with
        | some st => s1.declareDead st false
        | none => s1
      let s3 := if d = 426 ∨ d = 427 then s2.hpTrain (d - 426) else s2
      s3.domSettled d

/-! ### The commands -/

/-- The request of a write of PWR_DOM_REQ: only WID 0 writes it; a reserved DOMAIN or TIMER_US changes nothing (R12, R437). -/
def State.domWrite (s : State) (w : Issuer) (d : BitVec 9) (r : DomReq) : Host.Outcome State Fault Refusal :=
  s.keeperOnly w svcStop (fun s => if 440 < d.toNat ∨ (r.action = 2 ∧ (r.timerUs < 50 ∨ 100000 < r.timerUs)) then s else s.domRequest d.toNat r)

/-- DOMAIN_OFF_REQUEST (R437, R438). -/
def execDomainOffRequest (w : Issuer) (d : BitVec 9) (reqWid : BitVec 6) (s : State) : Host.Outcome State Fault Refusal :=
  s.domWrite w d { action := 0, wid := reqWid.toNat }
/-- DOMAIN_ON_REQUEST (R437). -/
def execDomainOnRequest (w : Issuer) (d : BitVec 9) (reqWid : BitVec 6) (s : State) : Host.Outcome State Fault Refusal :=
  s.domWrite w d { action := 1, wid := reqWid.toNat }
/-- DOMAIN_TIMER_REQUEST (R437). -/
def execDomainTimerRequest (w : Issuer) (d : BitVec 9) (reqWid : BitVec 6) (us : BitVec 17) (s : State) : Host.Outcome State Fault Refusal :=
  s.domWrite w d { action := 2, wid := reqWid.toNat, timerUs := us.toNat }

/-- DOMAIN_DRAIN_COMPLETE (R438). -/
def execDomainDrainComplete (d : Fin 441) (s : State) : Host.Outcome State Fault Refusal := ok (s.drainDone d.val)

/-- DRAIN_TIMEOUT (R438, R439): the drain of a core, data engine, host port or DBG has exceeded 50 µs. -/
def execDrainTimeout (d : Fin 441) (s : State) : Host.Outcome State Fault Refusal :=
  let n := d.val
  if s.domain n = 4 ∧ (n < 272 ∨ (426 ≤ n ∧ n ≤ 430)) ∧ ¬ s.pw.iso.any (fun e => e.1 == n) = true then ok (s.abortDrain n (s.domOwner n) Refuser.inFlight) else ok s

/-- DOMAIN_WAKE_COMPLETE (R434). -/
def execDomainWakeComplete (d : Fin 441) (s : State) : Host.Outcome State Fault Refusal := ok (s.wakeDone d.val)

/-- CORE_CLOCK_GATE (R442): the hart has waited 1 µs in WFI or WRS.NTO; a one-shot OFF request then power-gates at once. A core with a retired store still to write does not stop its clock. (DEDUCED, assumption 127.) -/
def execCoreClockGate (hb : BitVec 8) (s : State) : Host.Outcome State Fault Refusal :=
  let h := hb.toNat
  let c := s.physCore h
  if s.domain c ≠ 2 ∨ ¬ s.runs h = true ∨ s.wakeEvent h = true ∨ ¬ (s.hart h).sq.isEmpty = true then ok s
  else
    let s1 := s.setDomain c 3
    if s1.pw.offNext.contains c then
      let s2 : State := { s1 with pw := { s1.pw with offNext := s1.pw.offNext.filter (· != c) } }
      if s2.mode = 3 ∨ s2.isF F.pwrDomStatus_pinned 0 c = true then ok s2 else ok (s2.startDrain c)
    else ok s1

/-- CORE_IDLE_TIMER_EXPIRY (R441, R442): IDLE_US has elapsed in CLOCK_GATED; a wake in the same cycle wins. -/
def execCoreIdleTimerExpiry (hb : BitVec 8) (s : State) : Host.Outcome State Fault Refusal :=
  let h := hb.toNat
  let c := s.physCore h
  if s.domain c ≠ 3 ∨ s.isF F.pwrDomStatus_pinned 0 c = true ∨ s.mode = 3 ∨ s.isF F.pwrModeStatus_transition 0 0 = true then ok s
  else if s.wakeEvent h then ok ((s.setDomain c 2).powerRefuse c (s.seat h) Refuser.wakePending true)
  else match s.refuserOf c 0 (s.seat h) with
    | some code => ok (s.powerRefuse c (s.seat h) code false)
    | none => ok (s.startDrain c)

/-- CORE_WAKE (R441, R443): the core goes ON from CLOCK_GATED, starts waking from RETAINED, and abandons a drain. -/
def execCoreWake (hb : BitVec 8) (s : State) : Host.Outcome State Fault Refusal :=
  let h := hb.toNat
  let c := s.physCore h
  if !s.wakeEvent h || (s.core c).cut || s.isF F.pwrModeStatus_transition 0 0 || !(s.mode == 3 || s.mode == 4 || s.mode == 5) then ok s
  else match s.domain c with
    | 3 => ok ((s.setDomain c 2).syncCore c)
    | 4 => ok (s.abortDrain c (s.seat h) Refuser.wakePending)
    | 1 => ok (s.startWake c)
    | _ => ok s

end Sys2Proof.Machine
end

