-- ==== Sys2Proof/Machine/Flash.lean ====
section
/-! DEFINITION. The flash array (R380, R387), the Annals' archive (R494, R501) and the Margin Ledger's partition (R478, R480). -/
namespace Sys2Proof.Machine

/-! ### The array -/

/-- A byte of flash: an erased byte holds ones. (DESIGN CHOICE, assumption 8.) -/
def State.flashByte (s : State) (a : Nat) : Nat := (s.flash.get 0xFF a).toNat
/-- Bytes of flash. -/
def State.flashBytes (s : State) (a n : Nat) : List Nat := (List.range n).map (fun i => s.flashByte (a + i))
/-- A little-endian field of flash. -/
def State.flashLe (s : State) (a n : Nat) : Nat := ofBytes (s.flashBytes a n)
/-- Program bytes: a program only clears bits. -/
def State.flashProgram (s : State) (a : Nat) (d : List Nat) : State :=
  (d.zip (List.range d.length)).foldl (fun (s : State) (e : Nat × Nat) =>
    { s with flash := s.flash.set 0xFF (a + e.2) (s.flash.get 0xFF (a + e.2) &&& BitVec.ofNat 8 e.1) }) s
/-- Erase a range. -/
def State.flashErase (s : State) (a n : Nat) : State := { s with flash := s.flash.filter (fun e => decide (e.1 < a) || decide (a + n ≤ e.1)) }

/-- A copy of the boot directory at an address, if its magic and CRC pass (R387). -/
def State.dirAt (s : State) (a : Nat) : Option (List DirEntry) :=
  let n := s.flashLe (a + 6) 2
  if s.flashLe a 4 = 0x44424B53 ∧ s.flashLe (a + 4) 2 = 1 ∧ 1 ≤ n ∧ n ≤ 64 ∧ crc32c (s.flashBytes (a + 16) (16 * n)) = s.flashLe (a + 8) 4 then
    some ((List.range n).map (fun i =>
      let e := a + 16 + 16 * i
      { type := s.flashByte e, slot := s.flashByte (e + 1), offset := s.flashLe (e + 4) 4, length := s.flashLe (e + 8) 4 }))
  else none

/-- The boot directory: the first copy whose magic and CRC pass (R387). -/
def State.readDir (s : State) : Option (List DirEntry) :=
  match s.dirAt 0 with
  | some d => some d
  | none => s.dirAt 0x10000

/-- The first partition of a type in the directory that was read at boot. -/
def State.partition (s : State) (type : Nat) : Option DirEntry := if s.kpr.flashUp then s.kpr.dir.find? (fun e => e.type == type) else none

/-! ### The Annals' archive -/

/-- The records that the archive keeps when it holds n at most: the oldest block of 256 goes before it is reused (R501). -/
def archiveKeep (n : Nat) : Nat → List AnnRec → List AnnRec
  | 0, l => l
  | k + 1, l => if n < l.length then archiveKeep n k (l.drop 256) else l

/-- A commit of what is uncommitted, in SEQUENCE order (R494, R501); `works` is false when the flash write fails. -/
def State.annCommit (s : State) (works : Bool) : State :=
  let new := s.annals.staging.filter (fun r => !r.committed)
  if !s.isF F.anlCtrl_archiveEn 0 0 || new.isEmpty then s
  else match s.partition 0x11 with
    | some e =>
      if works && decide (65536 ≤ e.length) then
        let l := s.annals.archive ++ new.map (fun r => { r with committed := true })
        let arch := archiveKeep (e.length / 256) l.length l
        let a := { s.annals with archive := arch, staging := s.annals.staging.map (fun r => { r with committed := true }) }
        (State.setF { s with annals := a } F.anlStatus_archiveOk 0 0 1).annSync
      else s.setF F.anlStatus_archiveOk 0 0 0
    | none => s.setF F.anlStatus_archiveOk 0 0 0

/-! ### The Ledger's partition -/

/-- The registers that a checkpoint holds (R478). -/
def ledgerReg (r : RegName) : Bool :=
  r == .mlgVf || r == .mlgCoreStatus || r == .mlgCoreLife || r == .mlgStatus || r == .mlgWayRetire || r == .rtSpare || r == .coreHartMap || r == .mpLaneRetire

/-- Write the checkpoint: it replaces the older of the two (R478). (DESIGN CHOICE, assumption 63.) -/
def State.checkpoint (s : State) : State :=
  let n := (s.ledger.ckpts.map (·.seq)).foldl max 0
  let c : Checkpoint := { seq := n + 1, regs := s.regs.filter (fun e => ledgerReg (RegName.ofNat (e.1 / 2 ^ 21))), mirror := s.ledger.mirror, survey := s.ledger.survey }
  { s with ledger := { s.ledger with ckpts := c :: s.ledger.ckpts.take 1 } }

/-- Whether the Ledger's partition takes writes. -/
def State.ledgerUp (s : State) : Bool :=
  match s.partition 0x10 with
  | some e => decide (0x100000 ≤ e.length)
  | none => false

/-- The mask bit of NOTIFY_MASK that selects a kind (R480). -/
def kindBit (k : Nat) : Nat :=
  match k with
  | 1 => 0
  | 2 | 11 => 1
  | 3 => 2
  | 4 | 5 => 3
  | 6 => 4
  | 7 => 5
  | 8 | 13 => 6
  | _ => 7

/-- A change entered in the Ledger (R478, R480): its record, the checkpoint, the Annals record, and source 38 for the kinds selected. -/
def State.ledgerChange (s : State) (kind object : Nat) (old new : Word) (measure life flags : Nat) : State :=
  let r : LedgerRec := { seq := s.ledger.nextSeq, time := s.annals.calendar, kind := kind, flags := flags, object := object, old := old, new := new, measure := measure, life := life }
  let s1 : State := { s with ledger := { s.ledger with nextSeq := s.ledger.nextSeq + 1 } }
  let s2 : State := if s1.ledgerUp then State.checkpoint { s1 with ledger := { s1.ledger with recs := s1.ledger.recs ++ [r] } }
            else { s1 with ledger := { s1.ledger with held := s1.ledger.held ++ [r] } }
  let s3 := s2.record Ev.ledgerChange srcKeeper (w64 kind) (w64 object)
  if s3.getF F.mlgCtrl_notifyMask 0 0 / 2 ^ kindBit kind % 2 = 1 then s3.raiseSrc Src.ledger else s3

/-- Commit the change records that always-on SRAM holds (R478). -/
def State.ledgerCommit (s : State) : State :=
  if s.ledgerUp then State.checkpoint { s with ledger := { s.ledger with recs := s.ledger.recs ++ s.ledger.held, held := [] } } else s

/-- A change record's bytes (R480). -/
def LedgerRec.bytes (r : LedgerRec) : List Nat :=
  let b := toBytes 8 r.seq ++ toBytes 8 r.time ++ [r.kind % 256, r.flags % 256] ++ toBytes 2 r.object ++ toBytes 4 0 ++ toBytes 8 r.old.toNat ++ toBytes 8 r.new.toNat
    ++ toBytes 8 r.measure ++ toBytes 8 r.life
  b ++ toBytes 4 (crc32c b) ++ toBytes 4 0

end Sys2Proof.Machine
end

