-- ==== Sys2Proof/Machine/AnnalSteps.lean ====
section
/-! DEFINITION. The recorder's commands (R495 to R505) and errors found in arrays (R80, R82, R484). -/
namespace Sys2Proof.Machine

/-- ANNALS_EVENT (R495 to R500): the recorder accepts an event from a block. -/
def execAnnalsEvent (code : Fin 1024) (src : Source) (d0 d1 : Word) (s : State) : Host.Outcome State Fault Refusal := ok (s.record code.val src d0 d1)

/-- RATE_BUCKET_REFILL (R498). -/
def execRateBucketRefill (code : Fin 1024) (s : State) : Host.Outcome State Fault Refusal :=
  ok { s with annals := { s.annals with spent := s.annals.spent.set 0 code.val (s.annals.spent.get 0 code.val - 1) } }

/-- ANNALS_COMMIT (R501). -/
def execAnnalsCommit (works : Bool) (s : State) : Host.Outcome State Fault Refusal := ok (s.annCommit works)

/-- ANNALS_COMMIT_RETRY (R501): after a failed write. -/
def execAnnalsCommitRetry (works : Bool) (s : State) : Host.Outcome State Fault Refusal :=
  ok (if s.isF F.anlStatus_archiveOk 0 0 then s else s.annCommit works)

/-- A transport's freeze ends (R502). -/
def State.endFreeze (s : State) (t : Nat) : State :=
  if s.annals.freezers.contains t then
    let l := s.annals.freezers.filter (· != t)
    State.annSync { s with annals := { s.annals with freezers := l, thaw := s.annals.thaw || l.isEmpty } }
  else s

/-- ANNALS_FREEZE_TIMEOUT (R426): 10 s after a transport's freeze or its last read. -/
def execAnnalsFreezeTimeout (t : Fin 67) (s : State) : Host.Outcome State Fault Refusal := ok (s.endFreeze t.val)

/-- ANNALS_THAW (R500, R502): the hold queue drains into the staging SRAM in SEQUENCE order, and the thaw is recorded. -/
def execAnnalsThaw (s : State) : Host.Outcome State Fault Refusal :=
  if !s.annals.thaw || !s.annals.freezers.isEmpty then ok s
  else
    let s0 : State := { s with annals := { s.annals with thaw := false, held := [] } }
    let s1 := s.annals.held.foldl (fun (s : State) (r : AnnRec) =>
      match placeRec s.annals.staging 1024 r with
      | some l => { s with annals := { s.annals with staging := l } }
      | none => State.annDrop { s with annals := { s.annals with droppedFrozen := s.annals.droppedFrozen + 1 } }) s0
    let a := s1.annals
    ok (State.record (State.annSync { s1 with annals := { a with heldTotal := 0, droppedFrozen := 0 } }) Ev.annalsThaw srcSvc (w64 a.heldTotal) (w64 a.droppedFrozen))

/-- CALENDAR_SET (R497): a write of ANL_CAL_SET by WID 0 or WID 2. -/
def execCalendarSet (w : Issuer) (v : Word) (s : State) : Host.Outcome State Fault Refusal :=
  s.guarded w svcStop (s.issuerWid w == 0 || s.issuerWid w == 2) (fun s =>
    let old := s.annals.calendar
    let s1 := State.setF { s with annals := { s.annals with calendar := v.toNat } } F.anlStatus_timeUnset 0 0 0
    (s1.setRegWord .anlCalendar 0 0 v).record Ev.calendarSet { srcSvc with wid := s.issuerWid w } (w64 old) v)

/-- Clear the Annals (R504). -/
def State.annClear (s : State) (issuer pair : Nat) : State :=
  let last := s.annals.nextSeq - 1
  let s1 := State.annSync { s with annals := { s.annals with staging := [], held := [], cleared := s.annals.nextSeq } }
  s1.record Ev.annalsCleared { srcKeeper with wid := issuer } (w64 last) (w64 (issuer + pair * 256))

/-! ### Errors in arrays -/

/-- The source of an event found at a core. -/
def State.srcCore (s : State) (c : Nat) : Source :=
  match s.hartOf c with
  | some h => s.srcHart h
  | none => { stop := coreStop c, unit := c % 2, wid := 255 }

/-- A correctable error of a core (R80, R484). -/
def State.coreCorrected (s : State) (c sec level : Nat) : State :=
  s.errorEvent .core c { sev := .ce, code := Ev.coreCorrected, addr := some (sec * 64) } (s.srcCore c) (w64 (sec * 64)) (w64 level)

/-- ARRAY_ERROR_DETECTED (R484). -/
def execArrayErrorDetected (e : ArrayErr) (s : State) : Host.Outcome State Fault Refusal :=
  match e with
  | .l1i c sec => ok ((s.modCore c.val (fun k => { k with l1i := k.l1i.filter (· != sec.toNat) })).coreCorrected c.val sec.toNat 1)
  | .core cc secb l2 unc =>
    let c := cc.val
    let sec := secb.toNat
    let level := if l2 then 3 else 2
    if !unc then ok (s.coreCorrected c sec level)
    else match (s.cline c sec).st with
      | .s | .e => ok (((s.closeWindow c sec).evictLine c sec false).coreCorrected c sec level)
      | .m | .o =>
        ok ((s.setCline c sec { s.cline c sec with poison := true }).errorEvent .core c { sev := .ued, code := Ev.sectorPoisoned, addr := some (sec * 64) } (s.srcCore c)
          (w64 (sec * 64)) 1)
      | _ => ok s
  | .llc tt secb unc =>
    let t := tt.val
    let sec := secb.toNat
    match s.llcFind t (sec / 2) with
    | none => ok s
    | some (k, way, l) =>
      let i := sec % 2
      let corrected (s : State) : State :=
        (s.errorEvent .tile t { sev := .ce, code := Ev.llcCorrected, addr := some (sec * 64) } (srcSlice t 255) (w64 (sec * 64)) (w64 way)).countErr (t * 16 + way)
      if !l.valid i then ok s
      else if !unc then ok (corrected s)
      else if l.dirty i || l.pinned then
        ok ((s.setLlc k (some (l.put i true (l.dirty i) (l.data i) true))).errorEvent .tile t { sev := .ued, code := Ev.sectorPoisoned, addr := some (sec * 64) }
          (srcSlice t 255) (w64 (sec * 64)) 2)
      else
        let l1 := l.put i false false 0 false
        ok (corrected (s.setLlc k (if l1.v0 || l1.v1 then some l1 else none)))
  | .llcTag t => ok ((s.rasError .tile t.val s.annals.nextSeq { sev := .uec, code := Ev.fatal, unit := 2 }).fatal Fatal.llcTag)
  | .directory t => ok ((s.rasError .tile t.val s.annals.nextSeq { sev := .uec, code := Ev.fatal, unit := 2 }).fatal Fatal.directory)
  | .deeds g =>
    let pages := (List.range 16).map (fun i => 16 * g.toNat + i)
    let s1 : State := { s with deedBad := s.deedBad.filter (fun p => p / 16 != g.toNat) ++ pages }
    ok (s1.errorEvent .svc 0 { sev := .ued, code := Ev.deedLost, addr := some (g.toNat * 65536) } { srcSvc with unit := 8 } (w64 (16 * g.toNat)) 0)

end Sys2Proof.Machine
end

