-- ==== Sys2Proof/Machine/Modes.lean ====
section
/-! DEFINITION. Modes (R444 to R455): requests and their conditions, Conservation, Watch, Off, Reduced service and its exit (R104). -/
namespace Sys2Proof.Machine

/-! ### Requests -/

/-- Whether every memory port is TRAINED (R280). -/
def State.allTrained (s : State) : Bool := (List.range 12).all (fun k => s.mpServes k)

/-- Whether a remap, lending, deed command or key command is in progress (R448, R468). -/
def State.sequencesBusy (s : State) : Bool :=
  s.keyCmd.isSome || s.deedCmds.any (fun e => e.2.isSome) || (List.range 256).any (fun h => s.getF F.coreHartMap_state 0 h == 2 || s.isF F.wldSeat_lending 0 h)

/-- Whether the conditions of R445, R453 and R468 let the device leave its mode for another. Reduced service is left for the mode that the boot configuration names (R29). -/
def State.modeAllowed (s : State) (m : Nat) : Bool :=
  let now := s.mode
  let svc : Bool := now == 4 || now == 5
  match m with
  | 0 => now != 7
  | 2 => svc && (List.range 2).all (fun e => (List.range 32).all (fun c => s.rState (deRing e c) == 0)
      && (List.range 16).all (fun i => !s.isF F.deScanCfg_enable e i || s.isF F.deScanCfg_watch e i))
  | 1 => (now == 4 || (now == 2 && s.getF F.pwrModeStatus_origin 0 0 == 4)) && (List.range 6).all (fun k => s.linkState k != LinkState.open_)
      && (now == 2 || (List.range 2).all (fun e => (List.range 32).all (fun c => s.rState (deRing e c) == 0)
        && (List.range 16).all (fun i => !s.isF F.deScanCfg_enable e i || s.isF F.deScanCfg_watch e i)))
  | 4 | 5 => (now == 2 && s.getF F.pwrModeStatus_origin 0 0 == m) || (now == 3 && s.allTrained && (s.kpr.cfg.map (·.target)) == some m)
  | 6 => svc && !s.sequencesBusy && (List.range 256).all (fun h => !(s.hart h).debug)
  | _ => false

/-- A write of PWR_MODE_CTRL.MODE (R444, R445, R459): reserved encodings are ignored; a request during a sequence, or against a condition, sets REJECT; otherwise the
sequence begins. The boolean says whether it began. -/
def State.modeRequest (s : State) (m : Nat) : Bool × State :=
  if m = 3 ∨ 7 ≤ m ∨ s.mode = 7 ∨ s.mode = 0 ∨ s.mode = 1 then (false, s)
  else if s.isF F.pwrModeStatus_transition 0 0 then (false, s.setF F.pwrModeStatus_reject 0 0 1)
  else if !s.modeAllowed m then (false, (s.setF F.pwrModeStatus_reject 0 0 1).incSat F.pwrRefuserCount_refusals 0 Refuser.policy)
  else
    let s1 := s.setF F.pwrModeStatus_transition 0 0 1
    let s2 := if s.mode = 4 ∨ s.mode = 5 then s1.setF F.pwrModeStatus_origin 0 0 s.mode else s1
    (true, { s2 with pw := { s2.pw with target := some m } })

/-! ### Stopping and resuming harts -/

/-- The harts that are released. -/
def State.released (s : State) : List Nat := (List.range 256).filter (fun h => s.getF F.coreHartMap_state 0 h == 1)

/-- Stop every released hart at its next instruction boundary (R104 step 2, R448 step 2), remembering which the sequence has stopped. -/
def State.pauseHarts (s : State) : State :=
  let l := s.released.filter (fun h => !(s.hart h).stopped && !s.pw.stopped.contains h)
  l.foldl (fun (s : State) (h : Nat) => s.stopHart h) { s with pw := { s.pw with stopped := s.pw.stopped ++ l } }

/-- Resume the harts that a sequence stopped. -/
def State.unpauseHarts (s : State) : State :=
  s.pw.stopped.foldl (fun (s : State) (h : Nat) => s.modHart h (fun x => { x with stopped := false, stopping := false })) { s with pw := { s.pw with stopped := [] } }

/-- Remember the state of domains and put them into another. -/
def State.takeDomains (s : State) (ds : List Nat) (st : Nat) : State :=
  ds.foldl (fun (s : State) (d : Nat) => if s.domain d = st then s else State.setDomain { s with pw := { s.pw with before := s.pw.before ++ [(d, s.domain d)] } } d st) s

/-- The requests that a sequence held, checked against the new mode; one for a core that the sequence retained is superseded (R459). -/
def State.applyPending (s : State) : State :=
  s.pw.pend.foldl (fun (s : State) (e : Nat × Option DomReq) =>
    match e.2 with
    | none => s
    | some r =>
      if s.isF F.pwrDomStatus_busy 0 e.1 then s
      else
        let s1 := State.setF { s with pw := { s.pw with pend := s.pw.pend.set none e.1 none } } F.pwrDomStatus_pending 0 e.1 0
        if e.1 < 272 ∧ s.domain e.1 = 1 then s1.incSat F.pwrDomCount_superseded 0 e.1 else s1.domRequest e.1 r) s

/-- A sequence ends in a mode. -/
def State.sequenceDone (s : State) (m : Nat) : State :=
  (State.setF { s.setMode m with pw := { s.pw with target := none } } F.pwrModeStatus_transition 0 0 0).applyPending

/-- A mode entry that stops folios clears their ENABLE (R523). -/
def State.stopFolios (s : State) : State := s.setF F.pmuFolioCtrl_enable 0 0 0

/-! ### Conservation and Watch -/

/-- Whether a core's hart has stopped, and everything that it issued is performed (R448 step 2). -/
def State.coreRests (s : State) (c h : Nat) : Bool :=
  !s.runs h && (s.hart h).infl.isEmpty && (s.hart h).sq.isEmpty && s.coreIdle c && s.allSent c

/-- The cores that a mode entry retains: every one with a hart that is ON or CLOCK_GATED (R446). -/
def State.coresToRetain (s : State) : List Nat := (List.range 272).filter (fun c => (s.hartOf c).isSome && (s.domain c == 2 || s.domain c == 3))

/-- Each core that has come to rest runs R148 (R448 step 3): it closes its windows, evicts its sectors by the messages of R120 and is then FLUSHED. -/
def State.drainCores (s : State) : State :=
  s.coresToRetain.foldl (fun (s : State) (c : Nat) =>
    let s1 := s.corePump c
    match s1.hartOf c with
    | some h => if s1.coreRests c h && !(s1.core c).quiet then ((s1.closeWindows c).modCore c (fun k => { k with quiet := true })).corePump c else s1
    | none => s1) s

/-- The cores that have saved their state become RETAINED; what is neither in the save area nor in the slices is lost (R434, R435). -/
def State.retainCores (s : State) : State :=
  let cores := s.coresToRetain
  let s1 := cores.foldl (fun (s : State) (c : Nat) => s.gateCore c) s
  cores.foldl (fun (s : State) (c : Nat) => s.syncCore c) (s1.takeDomains cores 1)

/-- Each gate sends AgentFlush, once, and withholds REQ and MGT credits from its annex (R448 step 4). -/
def State.withhold (s : State) : State :=
  (List.range 6).foldl (fun (s : State) (k : Nat) => if (s.link k).withheld.isSome then s else
    (if s.linkState k = LinkState.open_ then s.flushAgents k else s).modLink k (fun l => { l with withheld := some (l.shown.getD 0 0, l.shown.getD 3 0) })) s

/-- Whether every AgentFlush has been answered, and no slice has a request, a transaction or a memory message left. -/
def State.fabricRests (s : State) : Bool :=
  (List.range 6).all (fun k => !(s.gate k).txs.any (fun x => x.kind == .flush)) && s.slices.all (fun e => e.2.hq.isEmpty && e.2.txs.isEmpty && e.2.mem.isEmpty)

/-- The registers that a data engine's WATCH slots need in Watch, where they run with the values set before it (R347, R452): the slot's, and the configuration and interrupt of its channel. (DEDUCED, assumption 55.) -/
def State.watchReg (s : State) (r : RegName) (u i : Nat) : Bool :=
  let slot (j : Nat) : Bool := s.isF F.deScanCfg_enable u j && s.isF F.deScanCfg_watch u j
  if [RegName.deScanCfg, .deScanStart, .deScanLen, .deScanPeriod, .deScanExpect, .deScanResult, .deScanStatus].contains r then slot i
  else if r == .deChCfg || r == .deChMsi then (List.range 16).any (fun j => slot j && s.getF F.deScanCfg_channel u j == i)
  else false

/-- A mode sequence turns a domain OFF, remembering its state: what it holds is lost (R13, R434), and an I/O block's stop is dead (R438). (DESIGN CHOICE, assumption 147.) -/
def State.takeOff (s : State) (d : Nat) : State :=
  if s.domain d = 0 then s
  else
    let s1 : State := { s with pw := { s.pw with before := s.pw.before ++ [(d, s.domain d)] } }
    let s2 := match domStop d with
      | some st => s1.declareDead st true
      | none => s1
    ((s2.resetRegs (fun r u i => domainRegs d r u i && !(r.place == .de && s.watchReg r u i))).blockOff d).setDomain d 0

/-- A domain that a mode sequence has taken returns to the state that it had (R449); an I/O block's stop revives, and a host port trains. -/
def State.giveBack (s : State) (d st : Nat) : State :=
  let was := s.domain d
  let s1 := s.setDomain d (if st = 4 ∨ st = 5 then 2 else st)
  if was ≠ 0 then s1
  else
    let s2 := match domStop d with
      | some st => s1.declareDead st false
      | none => s1
    if d = 426 ∨ d = 427 then s2.hpTrain (d - 426) else s2

/-- Conservation (R448), in its order; what is not done yet is done when ENTER_CONSERVATION is repeated. Sequences in progress complete first; harts stop; cores drain and are retained; gates
flush and withhold; engines go OFF; memory ports enter self-refresh, and the slices are retained. -/
def State.conserve (s : State) : State :=
  if s.sequencesBusy || s.folio.record.isSome || (List.range 441).any (fun d => s.domain d == 4 || s.domain d == 5) then s
  else
    let s1 := s.stopFolios.pauseHarts.drainCores
    if !s1.coresToRetain.all (fun c => (s1.core c).flushed) then s1
    else
      let s2 := s1.retainCores.withhold
      if !s2.fabricRests then s2
      else
        let s3 := (s2.takeOff 428).takeOff 429
        let s4 := (List.range 12).foldl (fun (s : State) (k : Nat) => s.selfRefresh k) s3
        s4.takeDomains ((List.range 12).map (· + 408) ++ (List.range 136).map (· + 272)) 1

/-- ENTER_CONSERVATION (R448): mode request 2, or the first part of mode request 1 from Full service. -/
def execEnterConservation (s : State) : Host.Outcome State Fault Refusal :=
  if !s.isF F.pwrModeStatus_transition 0 0 || !(s.mode == 4 || s.mode == 5) then ok s
  else match s.pw.target with
    | some 2 =>
      let s1 := s.conserve
      ok (if s1.domain 408 = 1 then s1.sequenceDone 2 else s1)
    | some 1 =>
      let s1 := s.conserve
      ok (if s1.domain 408 = 1 then s1.setMode 2 else s1)
    | _ => ok s

/-- ENTER_WATCH (R446, R451): from Conservation; host ports, annex ports and DBG off, the mesh retained. -/
def execEnterWatch (s : State) : Host.Outcome State Fault Refusal :=
  if s.mode = 2 ∧ s.isF F.pwrModeStatus_transition 0 0 = true ∧ s.pw.target = some 1 then
    let s1 := ((List.range 8).map (· + 420) ++ [430]).foldl (fun (s : State) (d : Nat) => s.takeOff d) s
    ok ((s1.takeDomains ((List.range 10).map (· + 431)) 1).sequenceDone 1)
  else ok s

/-- A held write of a core register (R450): as WID 0 writes it. -/
def State.applyHeldAt (s : State) (o : Option (RegName × Nat × Nat)) (wid : Nat) (v en : Word) : State :=
  match o with
  | some (r, u, i) =>
    if r.place == .core && wid == 0 then
      let s1 := s.writeReg r u i v en
      if r == .coreSpecCtrl then s.specWrite u (s1.regWord r u i) else s1
    else s
  | none => s

/-- Apply a held write (R450): a core's register as WID 0 writes it, an interrupt file under R47. -/
def State.applyHeld (s : State) : HeldWrite → State
  | .file wid h f id => if s.fileWriteOk h wid (some wid) then s.setIrq h f id else s
  | .reg wid pa v en => s.applyHeldAt (locate ((pa - controlBase) / 0x400000) ((pa - controlBase) % 0x400000)) wid v en

/-- Return to ORIGIN (R449): memory, slices, mesh and cores come back, the held writes are applied, engines and ports return, and the harts resume. A scan that a wake interrupts ends. -/
def State.leave (s : State) : State :=
  let origin := s.getF F.pwrModeStatus_origin 0 0
  let s0 : State := if s.pw.scan.isSome then (s.dropRuns (deStop 0)).dropRuns (deStop 1) else s
  let s1 := ((List.range 12).foldl (fun (s : State) (k : Nat) => s.selfRefreshExit k) s0).deedForget (fun k _ => decide (k < 512))
  let s2 := s1.pw.before.foldl (fun (s : State) (e : Nat × Nat) => s.giveBack e.1 e.2) s1
  let s3 := (List.range 272).foldl (fun (s : State) (c : Nat) => if s.domain c = 2 ∨ s.domain c = 3 then
    (s.modCore c (fun k => { k with flushed := false, quiet := false, emptying := false })).syncCore c else s) s2
  let held := s3.pw.held
  let s4 := held.foldl (fun (s : State) (x : HeldWrite) => s.applyHeld x) { s3 with pw := { s3.pw with before := [], held := [], aside := false, scan := none } }
  let s5 := (List.range 6).foldl (fun (s : State) (k : Nat) => (s.modLink k (fun l => { l with withheld := none })).modGate k (fun g => { g with empty := 0 })) s4
  s5.unpauseHarts.sequenceDone (if origin = 5 then 5 else 4)

/-- LEAVE_TO_ORIGIN (R445, R449): mode request 4 or 5 in Conservation. -/
def execLeaveToOrigin (s : State) : Host.Outcome State Fault Refusal :=
  if s.mode = 2 ∧ (s.pw.target = some 4 ∨ s.pw.target = some 5) then ok s.leave else ok s

/-- Undo the entry to Conservation or Watch in reverse (R459): what the sequence has stopped, drained, withheld or taken returns. -/
def State.abortEntry (s : State) : State := (s.incSat F.pwrModeStatus_aborts 0 0).leave

/-- WAKE_SOURCE (R444, R445, R459): bit i of PWR_WAKE_EN. HP0_EP acts in the endpoint role in Conservation only. -/
def execWakeSource (bit : Fin 50) (s : State) : Host.Outcome State Fault Refusal :=
  let i := bit.val
  let listed : Bool := decide (i ≤ 41) || (i == 48 && s.endpoint 0 && s.mode != 1) || i == 49
  if !listed || !(s.regWord .pwrWakeEn 0 0).getLsbD i then ok s
  else if s.isF F.pwrModeStatus_transition 0 0 then
    (if s.pw.target = some 2 ∨ s.pw.target = some 1 then ok (s.abortEntry.setF F.pwrModeStatus_lastWake 0 0 i) else ok s)
  else if s.mode = 1 ∨ s.mode = 2 then
    let s1 := if s.mode = 1 then s.setF F.pwrWatchStatus_lastCause 0 0 16 else s
    ok (s1.leave.setF F.pwrModeStatus_lastWake 0 0 i)
  else ok s

/-- HELD_WRITE_QUEUE (R450): in M1 and M2 the SVC holds a write to a core's range or an interrupt file and answers Comp; when its queue is full the issuer stalls. -/
def execHeldWriteQueue (w : Issuer) (x : HeldWrite) (s : State) : Host.Outcome State Fault Refusal :=
  if !s.holds then ok s
  else
    let wid := s.issuerWid w
    ok (s.holdWrite w (match x with
      | .reg _ pa v en => .reg wid pa v en
      | .file _ h f i => .file wid h f i))

/-! ### Watch wakes -/

/-- Run the collations of a scan's run to its end: at most `n` of them (R347, R452). -/
def State.scanRun (e i : Nat) : Nat → State → State
  | 0, s => s
  | n + 1, s =>
    if s.isF F.deScanStatus_busy e i then
      let c := s.getF F.deScanCfg_channel e i
      let s1 := s.modChan e c (fun k => { k with jobs := k.jobs.map (fun j => if j.scan = some i then { j with ran := some s.mtime } else j) })
      State.scanRun e i n (s1.collate e c 0 (some i))
    else s

/-- A due scan slot in a Watch wake: its run, and whether it failed. -/
def State.watchScan (s : State) (e i : Nat) : Bool × State :=
  if s.isF F.deScanCfg_enable e i && s.isF F.deScanCfg_watch e i && !s.isF F.deScanStatus_busy e i then
    let n := s.getF F.deScanLen_length e i / 2 ^ 22 + 2
    let r := State.scanRun e i n (s.scanBegin e i)
    (r.getF F.deScanStatus_lastStatus e i != 0, r)
  else (false, s)

/-- Whether a sample departs from PWR_WATCH_CFG: bits 0 to 2 of LAST_CAUSE (R451, R452). -/
def State.watchCause (s : State) (x : WatchSample) : Nat :=
  (decide (s.getF F.pwrWatchCfg_tempMax 0 0 ≤ x.temp)).toNat + 2 * (decide (s.getF F.pwrWatchCfg_vDevMv 0 0 < x.mv)).toNat
    + 4 * (decide (s.getF F.pwrWatchCfg_agePpm 0 0 < x.ppm)).toNat

/-- A period wake begins: it is counted, and the rotation of tiles moves on. -/
def State.watchWake (s : State) : State :=
  { s.incSat F.pwrWatchStatus_wakes 0 0 with pw := { s.pw with watchTile := (s.pw.watchTile + 8) % 136 } }

/-- For scans (step 5 of R452), segments and slices go ON, the memory ports leave self-refresh and the slots' engines go ON. -/
def State.watchPower (s : State) (due : List (Fin 2 × Fin 16)) : State :=
  let s1 := ((List.range 10).map (· + 431) ++ (List.range 12).map (· + 408) ++ (List.range 136).map (· + 272)).foldl (fun (s : State) (d : Nat) => s.setDomain d 2) s
  let s2 := (List.range 12).foldl (fun (s : State) (k : Nat) => s.selfRefreshExit k) s1
  due.foldl (fun (s : State) (x : Fin 2 × Fin 16) => (s.setDomain (428 + x.1.val) 2).declareDead (deStop x.1.val) false) { s2 with pw := { s2.pw with scan := some (false, due) } }

/-- After the scans the domains return to their Watch states. -/
def State.watchUnpower (s : State) : State :=
  let s1 := [428, 429].foldl (fun (s : State) (d : Nat) => if s.domain d = 2 then (s.setDomain d 0).declareDead (deStop (d - 428)) true else s) s
  let s2 := (List.range 12).foldl (fun (s : State) (k : Nat) => s.selfRefresh k) { s1 with pw := { s1.pw with scan := none } }
  ((List.range 10).map (· + 431) ++ (List.range 12).map (· + 408) ++ (List.range 136).map (· + 272)).foldl (fun (s : State) (d : Nat) => s.setDomain d 1) s2

/-- The end of a wake: a mismatch or a failed scan takes the device to Conservation (R452). -/
def State.watchEnd (s : State) (x : WatchSample) (cause : Nat) : State :=
  if cause = 0 then s
  else
    let s1 := s.setF F.pwrWatchStatus_lastCause 0 0 cause
    let s2 := if cause / 4 % 2 = 1 then s1.setF F.mlgStatus_nextTile 0 0 x.tile else s1
    let sample := if cause % 2 = 1 then x.temp else if cause / 2 % 2 = 1 then x.mv else if cause / 4 % 2 = 1 then x.ppm else 0
    let s3 := s2.record Ev.watchMismatch srcSvc (w64 cause) (w64 sample)
    let s4 := (List.range 10).foldl (fun (s : State) (i : Nat) => s.setDomain (431 + i) 2) s3
    { s4.setMode 2 with pw := { s4.pw with aside := true } }

/-- Run the due slots that are left, one after another, each as an access of its engine; at most `n` of them. A slot waits for the answers to its reads. -/
def State.watchScans (x : WatchSample) (cmd : Instr) : Nat → State → State
  | 0, s => s
  | n + 1, s =>
    match s.pw.scan with
    | none => s
    | some (bad, []) => s.watchUnpower.watchEnd x (8 * bad.toNat)
    | some (bad, d :: l) =>
      let t := s.served (deStop d.1.val) 0 cmd (fun s =>
        let r := s.watchScan d.1.val d.2.val
        { r.2 with pw := { r.2.pw with scan := some (bad || r.1, l) } })
      if t.pw.scan = some (bad, d :: l) then t else State.watchScans x cmd n t

/-- WATCH_PERIOD_WAKE (R452): samples are compared with PWR_WATCH_CFG, due scans run with memory out of self-refresh, and a mismatch takes the device to Conservation.
A start that falls inside a wake is skipped. -/
def execWatchPeriodWake (x : WatchSample) (late : Bool) (due : List (Fin 2 × Fin 16)) (s : State) : Host.Outcome State Fault Refusal :=
  let cmd := Instr.watchPeriodWake x late due
  if s.mode ≠ 1 then ok s
  else if late then ok (s.incSat F.pwrWatchStatus_skipped 0 0)
  else if s.pw.scan.isSome then
    ok (if s.works.any (fun r => r.cmd == cmd) then s.watchScans x cmd (due.length + 1) else s.incSat F.pwrWatchStatus_skipped 0 0)
  else
    let cause := s.watchCause x
    if s.isF F.pwrWatchCfg_scanEn 0 0 && cause == 0 && !due.isEmpty then ok ((s.watchWake.watchPower due).watchScans x cmd (due.length + 1))
    else ok (s.watchWake.watchEnd x cause)

/-! ### Off -/

/-- What power-off loses outside the always-on island: caches, directories, memory, the fabric and every block (R454, R459). -/
def State.dark (s : State) : State :=
  let s1 : State := { s with caches := [], dir := [], llc := [], slices := [], nis := [], outq := [], net := [], reqs := [], fence := none, broadcasts := [], flushIssuers := [],
                             mem := [], mps := [], links := [], gates := [], engines := [], hps := [], bells := [], bellRet := [], harts := [], cores := [],
                             works := [], ioWrites := [], deedCaches := [] }
  (List.range 441).foldl (fun (s : State) (d : Nat) => s.domainOff d) s1

/-- Every key slot is zeroised (R314, R454). -/
def State.zeroise (s : State) : State := (List.range 256).foldl (fun (s : State) (k : Nat) => if s.isF F.wldKeySlot_valid 0 k then s.destroyKey k else s) s

/-- ENTER_OFF (R454, R523): once a folio record in progress is complete, harts stop, the staging SRAM and the Ledger are committed, keys zeroised, every domain OFF, ALERT_N asserted. -/
def execEnterOff (works : Bool) (s : State) : Host.Outcome State Fault Refusal :=
  if s.isF F.pwrModeStatus_transition 0 0 = true ∧ s.pw.target = some 0 ∧ s.folio.record.isNone = true then
    let s1 := s.stopFolios.pauseHarts
    let s2 := ((s1.setMode 0).annCommit works)
    let s3 := if works then s2.ledgerCommit else s2
    let s4 := s3.zeroise.dark
    let s5 := s4.setF F.pwrModeStatus_transition 0 0 0
    ok { s5 with pw := { s5.pw with target := none, stopped := [], alert := true } }
  else ok s

/-- Loss of rails (R454, R534): M0 without the commit, noted in the staging SRAM. -/
def State.railsLost (s : State) (rail : Nat) : State :=
  if s.mode = 0 then s
  else
    let s1 := ((s.setMode 0).setF F.pwrModeStatus_transition 0 0 0).dark
    { s1 with pw := { s1.pw with target := none, stopped := [], before := [], held := [], notes := s1.pw.notes ++ [(2, rail)], warm := none } }

/-! ### Leaving Reduced service (R104) -/

/-- The staging slices write their valid sectors to local memory at the same address (R104 step 4): every dirty pinned line is sent and is clean. -/
def State.unstagePush (s : State) : State :=
  s.llc.foldl (fun (s : State) (e : Nat × Option LlcLine) => match e.2 with
    | some l =>
      if l.pinned && (l.k0 || l.k1) then
        (s.setLlc e.1 (some { l with k0 := false, k1 := false })).memPush (e.1 / 12 / 1024)
          { gran := l.gran, write := true, s0 := l.k0, s1 := l.k1, d0 := l.d0, d1 := l.d1, m0 := fullMask, m1 := fullMask, p0 := l.p0, p1 := l.p1, victim := true }
      else s
    | none => s) s

/-- Step 4 of R104: on its start every valid sector counts as not yet in memory. -/
def State.unstage (s : State) : State :=
  State.unstagePush (if s.pw.unstaging then s
    else { s with pw := { s.pw with unstaging := true },
                  llc := s.llc.map (fun e => (e.1, e.2.map (fun l => if l.pinned then { l with k0 := l.v0, k1 := l.v1 } else l))) })

/-- Release a hart (R39, R394): machine mode, at an address, with a0 and a1; its core is ON. A core out of service keeps its hart held. -/
def State.releaseHart (s : State) (h : Nat) (entry a1 : Word) : State :=
  let c := s.physCore h
  if s.isF F.mlgCoreStatus_retired c 0 then s
  else
    let s1 := s.setHart h ((({ ({} : Hart) with pc := entry }).setX 10 (w64 h)).setX 11 a1)
    let s2 := ((s1.setF F.coreHartMap_state 0 h 1).setDomain c 2).modCore c (fun k => { k with flushed := false, dead := false, cut := false, quiet := false, emptying := false })
    s2.syncCore c

/-- The address of the boot information block (R394). -/
def bootBlock : Nat := 0x17FFFC0

/-- The boot configuration may have the SVN counters raised to those of the images that run (R390). -/
def State.raiseSvns (s : State) : State :=
  (List.range 4).foldl (fun (s : State) (i : Nat) => match s.kpr.images.get none (i + 1) with
    | some l => { s with fuses := { s.fuses with svn := s.fuses.svn.set 0 (i + 1) (max (s.fuses.svn.get 0 (i + 1)) l.hdr.svn) } }
    | none => s) s

/-- The switch of R104 (steps 5 and 6): the device enters the mode, the staging lines are invalid and unpinned, the harts resume and the others are released. -/
def State.leaveReduced (s : State) (cfg : BootCfg) (m : Nat) : State :=
  let s1 := State.setMode { s with llc := [], pw := { s.pw with unstaging := false } } m
  let s2 := (State.setF { s1 with pw := { s1.pw with target := none } } F.pwrModeStatus_transition 0 0 0).unpauseHarts
  let entry := match s2.kpr.images.get none 4 with
    | some l => l.hdr.entry
    | none => 0
  let s3 := ((List.range 256).filter (fun h => decide (cfg.bootHarts ≤ h))).foldl (fun (s : State) (h : Nat) => s.releaseHart h (w64 entry) (w64 bootBlock)) s2
  let s4 := (List.range 272).foldl (fun (s : State) (c : Nat) => s.syncCore c) s3
  let s5 := (s4.setF F.kprStatus_bootStage 0 0 11).applyPending
  if cfg.flags / 8 % 2 = 1 then s5.raiseSvns else s5

/-- The mode that Reduced service is left for, if it may be left now: the boot configuration's, under HOLD_M3 once a slip has asked for it (R29, R392 step 10). -/
def State.reducedGoal (s : State) : Option (BootCfg × Nat) :=
  match s.kpr.cfg with
  | none => none
  | some cfg =>
    let m := cfg.target
    let asked : Bool := if cfg.flags / 4 % 2 = 1 then s.isF F.pwrModeStatus_transition 0 0 && s.pw.target == some m else true
    if s.mode = 3 ∧ s.allTrained = true ∧ asked = true ∧ (m = 4 ∨ m = 5) ∧ s.kpr.recovery = false then some (cfg, m) else none

/-- REDUCED_SERVICE_EXIT (R104, R392 steps 10 and 11, R453), in its order; what is not done yet is done when it is repeated: slices are powered, harts pause and their caches are written
back, the staging shelf goes to local memory, and the device switches to Full or Attached service. COMMIT_SVN raises the SVN counters. -/
def execReducedServiceExit (s : State) : Host.Outcome State Fault Refusal :=
  match s.reducedGoal with
  | none => ok s
  | some (cfg, m) =>
    let s1 := (List.range 136).foldl (fun (s : State) (t : Nat) => s.setDomain (272 + t) 2) s
    let s2 := s1.pauseHarts
    let r := s2.released.foldl (fun (a : Bool × State) (h : Nat) => let q := a.2.quiesce h; (a.1 && q.1, q.2)) (true, s2)
    if !r.1 then ok r.2
    else
      let s3 := r.2.unstage
      if s3.slices.all (fun e => e.2.hq.isEmpty && e.2.txs.isEmpty && e.2.mem.isEmpty) then ok (s3.leaveReduced cfg m) else ok s3

end Sys2Proof.Machine
end

