-- ==== Sys2Proof/Machine/Limits.lean ====
section
/-! DEFINITION. The package limiter (R456), the thermal controls (R457) and GPIO outputs (R402). -/
namespace Sys2Proof.Machine

/-! ### The limiter -/

/-- The cores that run: those of harts, ON or CLOCK_GATED, with their harts. -/
def State.liveCores (s : State) : List (Nat × Nat) :=
  (List.range 256).filterMap (fun h => let c := s.physCore h; if s.domain c = 2 ∨ s.domain c = 3 then some (c, h) else none)

/-- The limiter's setting of a core. -/
def State.setLimN (s : State) (c n : Nat) : State := State.syncCore { s with pw := { s.pw with limN := s.pw.limN.set 31 c n } } c

/-- The n that a core would have without the limiter. -/
def State.freeN (s : State) (c : Nat) : Nat := State.nEff { s with pw := { s.pw with limN := s.pw.limN.set 31 c 31 } } c

/-- Lower every core of a list that stands at its highest N_EFF by one step; none when all are at 6 (R456). -/
def State.lowerStep (s : State) (l : List (Nat × Nat)) (fixed : Bool) : Option State :=
  let top := (l.map (fun e => s.nEff e.1)).foldl max 0
  if top ≤ 6 then none
  else some ((l.filter (fun e => s.nEff e.1 == top)).foldl (fun (s : State) (e : Nat × Nat) =>
    let s1 := s.setLimN e.1 (top - 1)
    if fixed then (s1.setF F.pwrLimitStatus_fixedLowered 0 0 1).record Ev.fixedSeatBreach (s1.srcHart e.2) (w64 e.2) (w64 (top - 1)) else s1) s)

/-- The limiter lowers (R456): unfixed cores, then fixed cores, then the memory ports' issue rate. -/
def State.limiterLower (s : State) : State :=
  let l := s.liveCores
  let isFixed (e : Nat × Nat) : Bool := s.isF F.wldSeat_fixed 0 e.2
  match s.lowerStep (l.filter (fun e => !isFixed e)) false with
  | some t => t
  | none => match s.lowerStep (l.filter isFixed) true with
    | some t => t
    | none => { s with pw := { s.pw with memCap := s.pw.memCap - 1 } }

/-- The limiter raises (R456): the memory cap first, then one core by one step each 10 µs, fixed cores first. (DESIGN CHOICE, assumption 57.) -/
def State.limiterRaise (s : State) : State :=
  if s.pw.memCap < 10 then { s with pw := { s.pw with memCap := s.pw.memCap + 1 } }
  else if s.pw.calmUs % 10 ≠ 0 then s
  else
    let low := s.liveCores.filter (fun e => decide (s.pw.limN.get 31 e.1 < s.freeN e.1))
    match (low.filter (fun e => s.isF F.wldSeat_fixed 0 e.2)) ++ (low.filter (fun e => !s.isF F.wldSeat_fixed 0 e.2)) with
    | [] => s
    | e :: _ =>
      let n := s.pw.limN.get 31 e.1 + 1
      s.setLimN e.1 (if s.freeN e.1 ≤ n then 31 else n)

/-- LIMITER_ESTIMATE (R456, R458): one estimate of package power in W. -/
def execLimiterEstimate (watts : BitVec 10) (s : State) : Host.Outcome State Fault Refusal :=
  let p := watts.toNat
  let lim := s.getF F.pwrLimitCtrl_limitW 0 0
  let s0 := s.setF F.pwrLimitStatus_powerW 0 0 p
  let s1 : State :=
    if lim < p then State.limiterLower { s0 with pw := { s0.pw with calmUs := 0 } }
    else if p * 100 ≤ lim * 97 then
      let s2 : State := { s0 with pw := { s0.pw with calmUs := s0.pw.calmUs + 1 } }
      if 50 ≤ s2.pw.calmUs then s2.limiterRaise else s2
    else { s0 with pw := { s0.pw with calmUs := 0 } }
  let limiting : Bool := decide (s1.pw.memCap < 10) || s1.liveCores.any (fun e => decide (s1.pw.limN.get 31 e.1 < s1.freeN e.1))
  ok (s1.setF F.pwrLimitStatus_limiting 0 0 limiting.toNat)

/-! ### Temperature -/

/-- The throttled tiles changed: THROTTLED and the n of the tile's cores. -/
def State.setThrottled (s : State) (t : Nat) (l : List Nat) : State :=
  let s1 : State := State.setF { s with pw := { s.pw with throttled := l } } F.pwrLimitStatus_throttled 0 0 (!l.isEmpty).toNat
  (s1.syncCore (2 * t)).syncCore (2 * t + 1)

/-- THERMAL_THROTTLE (R457, R538): a tile reads 100 °C or more. (DESIGN CHOICE, assumption 59.) -/
def execThermalThrottle (tile : Fin 136) (temp : Nat) (s : State) : Host.Outcome State Fault Refusal :=
  let t := tile.val
  if temp < 100 ∨ s.pw.throttled.contains t = true then ok s
  else ok ((((s.setThrottled t (s.pw.throttled ++ [t])).incSat F.pwrLimitStatus_throttleEvents 0 0).raiseSrc Src.thermal).record Ev.throttle (srcSlice t 255) (w64 t) (w64 temp))

/-- THROTTLE_RELEASE (R457): the sensor has read 95 °C or less for 1 ms. -/
def execThrottleRelease (tile : Fin 136) (temp : Nat) (s : State) : Host.Outcome State Fault Refusal :=
  if 95 < temp then ok s else ok (s.setThrottled tile.val (s.pw.throttled.filter (· != tile.val)))

/-- A core loses power with its hart's registers saved and its caches lost: a dead holder, whose interface answers for it (R150, R457). What is in flight is squashed; retired stores that still
wait in its store buffer are lost with it; its open requests are answered in its place. (DESIGN CHOICE, assumption 129.) -/
def State.cutCore (s : State) (c : Nat) : State :=
  let s1 := match s.hartOf c with
    | some h => (s.squash h (fun _ => true)).modHart h (fun x => { x with sq := [], shadowD := [], shadowT := [], tlb := [], smc := [], fence := none, resv := none, wait := .run })
    | none => s
  let held := (s1.core c).windows.flatMap (fun w => w.held)
  let s2 : State := { s1 with caches := s1.caches.filter (fun e => e.1 / 2 ^ 46 != c) }
  held.foldl (fun (s : State) (p : Packet) => s.send (snpEmpty p true)) (((s2.setCore c { ({} : Core) with cut := true, dead := true }).domainOff c).syncCore c)

/-- THERMAL_CUT (R457): 110 °C or more for 10 µs while throttled. -/
def execThermalCut (core : Fin 272) (temp : Nat) (s : State) : Host.Outcome State Fault Refusal :=
  let c := core.val
  if temp < 110 ∨ ¬ s.pw.throttled.contains (c / 2) = true ∨ (s.core c).cut = true ∨ s.domain c = 0 then ok s
  else
    let h := (s.hartOf c).getD 0
    ok ((s.cutCore c).record Ev.thermalCut (s.srcCore c) (w64 h) (w64 temp))

/-- THERMAL_CUT_RECOVER (R457): the tile reads 95 °C or less; once no directory lists what the core lost, the hart resumes with empty caches. -/
def execThermalCutRecover (core : Fin 272) (temp : Nat) (s : State) : Host.Outcome State Fault Refusal :=
  let c := core.val
  if 95 < temp ∨ ¬ (s.core c).cut = true ∨ s.usableCeil c < 6 then ok s
  else
    let b := s.bury c
    ok (if b.1 then (((b.2.setCore c {}).setDomain c 2).specEff c).syncCore c else b.2)

/-- THERMTRIP (R457, R537): 115 °C. -/
def execThermtrip (temp : Nat) (s : State) : Host.Outcome State Fault Refusal :=
  if temp < 115 then ok s else ok (State.fatal { s with pw := { s.pw with thermtrip := true } } Fatal.thermtrip)

/-! ### GPIO outputs -/

/-- Drive a pin's output: a change within 1 µs of the last one is held and counted (R402). (DESIGN CHOICE, assumption 105.) -/
def State.driveGpio (s : State) (pin : Nat) (v : Bool) : State :=
  let p := s.pins.get {} pin
  if p.out = v ∧ p.held.isNone = true then s
  else if p.recent then
    (State.incSat { s with pins := s.pins.set {} pin { p with held := some v } } F.kprLimitCount_gpioDelays 0 0).limitHit 6 (w64 (pin + 256 * v.toNat))
  else { s with pins := s.pins.set {} pin { p with out := v, recent := true } }

/-- GPIO_HELD_CHANGE (R402): 1 µs has passed since a pin's last change. -/
def execGpioHeldChange (pin : Fin 32) (s : State) : Host.Outcome State Fault Refusal :=
  let p := s.pins.get {} pin.val
  match p.held with
  | some v => ok { s with pins := s.pins.set {} pin.val { p with out := v, held := none, recent := p.out != v } }
  | none => ok { s with pins := s.pins.set {} pin.val { p with recent := false } }

end Sys2Proof.Machine
end

