-- ==== Sys2Proof/Machine/LedgerSteps.lean ====
section
/-! DEFINITION. The Margin Ledger's actions (R460 to R482): the droop guard, re-planning, the rolling check, retirement, the Survey, the life model and way retirement. -/
namespace Sys2Proof.Machine

/-! ### Points -/

/-- VOLT and VALID of a core's point (R461). -/
def State.volt (s : State) (c p : Nat) : Nat := s.getF (F.mlgVf_volt (p % 4)) c (p / 4)
def State.pointOk (s : State) (c p : Nat) : Bool := s.isF (F.mlgVf_valid (p % 4)) c (p / 4)
def State.setVolt (s : State) (c p v : Nat) : State := s.setF (F.mlgVf_volt (p % 4)) c (p / 4) v
def State.setPoint (s : State) (c p : Nat) (b : Bool) : State := s.setF (F.mlgVf_valid (p % 4)) c (p / 4) b.toNat
def State.vCeil (s : State) (c : Nat) : Nat := s.getF F.mlgCoreStatus_vCeilMv c 0
def State.eqHours (s : State) (c : Nat) : Nat := s.getF F.mlgCoreLife_eqHours c 0

/-- What a core requires of VIN_CORE (R532): its LDO output at its usable ceiling with its adders, held at V_CEIL. (DESIGN CHOICE, assumption 58.) -/
def State.coreRequirement (s : State) (c : Nat) : Nat :=
  let n := s.usableCeil c
  if n < 6 then 0
  else
    let add := ([13, 14, 15].map (fun p => if s.pointOk c p then s.volt c p else 0)).foldl (· + ·) 0
    min (s.volt c (n - 6) + add) (s.vCeil c)

/-- Set a rail (R402, R531): outside VR_WINDOW the command is not sent and VR_REFUSALS advances. -/
def State.setRail (s : State) (rail mv : Nat) : State :=
  if s.pw.rails.getD rail 0 = mv then s
  else
    let okWin : Bool := match s.kpr.cfg with
      | some c => (match c.window[rail]? with
        | some (lo, hi) => decide (lo ≤ mv) && decide (mv ≤ hi)
        | none => false)
      | none => false
    if okWin then { s with pw := { s.pw with rails := s.pw.rails.set rail mv } }
    else (s.incSat F.kprLimitCount_vrRefusals 0 0).limitHit 5 (w64 mv)

/-- Hold VIN_CORE at the highest requirement of any core plus 50 mV, rounded up to 5 mV (R532). -/
def State.trackVin (s : State) : State :=
  let top := ((List.range 272).map (fun c => s.coreRequirement c)).foldl max 0
  s.setRail 0 ((top + 50 + 4) / 5 * 5)

/-- Whether a core's hart has a fixed seat. -/
def State.fixedCore (s : State) (c : Nat) : Bool :=
  match s.hartOf c with
  | some h => s.isF F.wldSeat_fixed 0 h
  | none => false

/-- Re-plan a core for a measured point and its slack (R467). -/
def State.replan (s : State) (c p slack : Nat) : State :=
  let target := s.getF F.mlgCtrl_targetPs 0 0
  if target ≤ slack then s
  else
    let d := 5 * ((target - slack + 1) / 2)
    let old := s.regWord .mlgVf c (p / 4)
    let s1 := ((List.range 13).filter (fun q => decide (p ≤ q) && s.pointOk c q)).foldl (fun (s : State) (q : Nat) =>
      let v := s.volt c q + d
      if s.vCeil c < v then s.setPoint c q false else s.setVolt c q v) s
    let s2 := if s1.pointOk c 9 then s1 else s1.setF F.mlgCoreStatus_candidate c 0 1
    ((s2.ledgerChange 1 c old (s2.regWord .mlgVf c (p / 4)) slack (s2.eqHours c) (2 * (s2.fixedCore c).toNat)).syncCore c).trackVin

/-! ### Retirement -/

/-- The usable reserve with the largest SLACK_PS at point 9, the lower core on a tie (R470). -/
def State.bestReserve (s : State) : Option Nat :=
  ((List.range 272).filter (fun c => s.usableReserve c)).foldl (fun (b : Option Nat) (c : Nat) =>
    match b with
    | none => some c
    | some d => if s.ledger.slack9.get 0 d < s.ledger.slack9.get 0 c then some c else b) none

/-- A retired core leaves service for the life of the part (R470). -/
def State.markRetired (s : State) (c : Nat) : State :=
  let s1 := ((s.setF F.mlgCoreStatus_retired c 0 1).setF F.mlgCoreStatus_candidate c 0 0).incSat F.mlgStatus_coresRetired 0 0
  (s1.setDomain c 0).syncCore c

/-- In a Survey the saved state of a hart is restored onto the reserve core, which takes the retired core's place when the modes' sequence ends (R470). -/
def State.surveyMove (s : State) (h r : Nat) : State :=
  let c := s.physCore h
  let t := s.moveHart h r
  State.setDomain { t.modHart h (fun x => { x with stopped := true }) with pw := { t.pw with before := t.pw.before.map (fun e => if e.1 = c then (r, e.2) else e) } } r (s.domain c)

/-- Retire a candidate (R470, R471, R482): by remap to the best reserve; refused while debug holds its hart; with no reserve left the hart stays and is slowed, or stops. -/
def State.retire (s : State) (c : Nat) : State :=
  let wait (s : State) : State := if s.ledger.waiting.contains c then s else { s with ledger := { s.ledger with waiting := s.ledger.waiting ++ [c] } }
  let unwait (s : State) : State := { s with ledger := { s.ledger with waiting := s.ledger.waiting.filter (· != c) } }
  if s.isF F.mlgCoreStatus_retired c 0 then unwait s
  else match s.hartOf c with
    | none => s.markRetired c
    | some h =>
      if s.debugHeld h then wait (s.powerRefuse c 0 Refuser.debugActive false)
      else match s.bestReserve with
        | none =>
          let n := s.usableCeil c
          let s1 := (s.setF F.mlgCoreStatus_nPlan c 0 (max n 6)).setF F.mlgStatus_reservesExhausted 0 0 1
          let s2 := (unwait s1).ledgerChange 0x0B c 0 (w64 n) 0 (s1.eqHours c) 0
          if n < 6 then (s2.cutCore c).record Ev.coreUnusable (s2.srcCore c) (w64 c) (w64 h) else s2.syncCore c
        | some r =>
          let s1 := if s.mode = 6 then s.surveyMove h r else s.remap h r
          if s1.physCore h = c then wait s1
          else
            let left := s1.getF F.mlgStatus_reservesLeft 0 0
            ((unwait s1).setF F.mlgStatus_reservesLeft 0 0 (left - 1)).markRetired c |>.ledgerChange 2 c (w64 c) (w64 r) (s.ledger.slack9.get 0 c) (s1.eqHours c) (2 * (s.fixedCore c).toNat)

/-- RETIREMENT_RETRY (R482): each minute. -/
def execRetirementRetry (core : Fin 272) (s : State) : Host.Outcome State Fault Refusal :=
  ok (if s.ledger.waiting.contains core.val then s.retire core.val else s)

/-! ### The droop guard -/

/-- Lower a core's n by one step under the guard (R464); a fixed seat's lowering is a breach (R296). (DEDUCED, assumption 64.) -/
def State.droopLower (s : State) (c : Nat) : State :=
  let n := s.nEff c
  if n ≤ 6 then s
  else
    let s1 := State.syncCore { s with pw := { s.pw with droopN := s.pw.droopN.set 31 c (n - 1) } } c
    match s1.hartOf c with
    | some h => if s1.isF F.wldSeat_fixed 0 h then s1.record Ev.fixedSeatBreach (s1.srcHart h) (w64 h) (w64 (n - 1)) else s1
    | none => s1

/-- Whether a slack is below the floor on a core that runs. -/
def State.droops (s : State) (c slack : Nat) : Bool := decide (slack < s.getF F.mlgCtrl_floorPs 0 0) && s.domain c == 2

/-- DROOP_GUARD (R464): a sentinel reads below FLOOR_PS. -/
def execDroopGuard (core : Fin 272) (slack : Nat) (s : State) : Host.Outcome State Fault Refusal :=
  let c := core.val
  if !s.droops c slack then ok s
  else
    let n := s.nEff c
    let s1 := (s.droopLower c).setF F.mlgCoreStatus_droop c 0 1
    ok (s1.ledgerChange 0x0D c (w64 n) (w64 (s1.nEff c)) slack (s1.eqHours c) (2 * (s.fixedCore c).toNat))

/-- DROOP_STEP (R464): 1 µs later the slack is still below the floor. -/
def execDroopStep (core : Fin 272) (slack : Nat) (s : State) : Host.Outcome State Fault Refusal :=
  let c := core.val
  ok (if s.droops c slack && decide (s.pw.droopN.get 31 c < 31) then s.droopLower c else s)

/-- DROOP_REPLAN (R464, R467, R470): the re-plan after a droop event; a core whose point 9 is lost is retired at once. -/
def execDroopReplan (core : Fin 272) (point : Fin 13) (slack : Nat) (s : State) : Host.Outcome State Fault Refusal :=
  let c := core.val
  if s.pw.droopN.get 31 c = 31 then ok s
  else
    let s1 := s.replan c point.val slack
    let s2 := State.syncCore { s1 with pw := { s1.pw with droopN := s1.pw.droopN.set 31 c 31 } } c
    ok (if s2.pointOk c 9 then s2 else s2.retire c)

/-! ### The rolling check -/

/-- PROFILE_EXCEEDED: any core with N_PLAN below 15 (R473). -/
def State.syncProfile (s : State) : State :=
  s.setF F.mlgStatus_profileExceeded 0 0 ((List.range 272).any (fun c => decide (s.getF F.mlgCoreStatus_nPlan c 0 < 15))).toNat

/-- Set N_PLAN, recorded and notified under kind PLAN (R476). -/
def State.setPlan (s : State) (c n : Nat) : State :=
  let old := s.getF F.mlgCoreStatus_nPlan c 0
  if old = n then s
  else (((s.setF F.mlgCoreStatus_nPlan c 0 n).syncCore c).syncProfile).ledgerChange 8 c (w64 old) (w64 n) 0 (s.eqHours c) (2 * (s.fixedCore c).toNat)

/-- Whether no Survey has completed for 455 days (R468). -/
def State.surveyOverdue (s : State) : Bool := decide (455 * 24 ≤ s.getF F.mlgStatus_serviceHours 0 0 - s.ledger.surveyHours)

/-- The plan of a core at its daily check (R468, R476). EQ_HOURS counts sixteenths of an hour. -/
def State.plan (s : State) (c : Nat) : State :=
  let h := s.getF F.mlgStatus_serviceHours 0 0
  let eq := s.eqHours c
  let day := eq - s.ledger.dayLife.get 0 c
  let n := s.getF F.mlgCoreStatus_nPlan c 0
  let s1 : State := { s with ledger := { s.ledger with dayLife := s.ledger.dayLife.set 0 c eq } }
  let cap := if s.surveyOverdue then min (s.usableCeil c) 15 else s.usableCeil c
  if 720 ≤ h ∧ 115 * h * 16 < 100 * eq ∧ (15 < n ∨ 24 * 16 < day) then s1.setPlan c (if 15 < n then 15 else max 6 (n - 1))
  else if eq ≤ 16 * h ∧ n < cap then s1.setPlan c (n + 1)
  else s1

/-- The check of one core (R466, R467, R476): what was measured, the re-plan, the plan; a candidate found earlier is retired at this turn. -/
def State.check (s : State) (c : Nat) (m : Sweep) : State :=
  let was := s.isF F.mlgCoreStatus_candidate c 0
  let n := s.nEff c
  let s0 := s.closeWindows c
  let s1 := (((s0.setF F.mlgCoreStatus_slackPs c 0 (min (min m.slack m.slack9) 255)).incSat F.mlgCoreStatus_checks c 0).setF F.mlgCoreLife_driftPpm c 0 m.drift)
  let s2 : State := { s1 with ledger := { s1.ledger with slack9 := s1.ledger.slack9.set 0 c m.slack9, retry := s1.ledger.retry.filter (· != c) } }
  let s3 := if 6 ≤ n ∧ n ≠ 15 then s2.replan c (n - 6) m.slack else s2
  let s4 := (s3.replan c 9 (if n = 15 then m.slack else m.slack9)).plan c
  let s5 := if c % 2 = 1 then s4.setF F.mlgStatus_nextTile 0 0 ((c / 2 + 1) % 136) else s4
  if was then s5.retire c
  else if s5.isF F.mlgCoreStatus_candidate c 0 ∧ (s5.hartOf c).isNone = true then
    s5.setF F.mlgStatus_reservesLeft 0 0 (s5.getF F.mlgStatus_reservesLeft 0 0 - 1)
  else s5

/-- Whether a core's check is deferred: a remap, lending or mode sequence of the core (R482), or no power (R465). -/
def State.checkDeferred (s : State) (c : Nat) : Bool :=
  s.isF F.pwrModeStatus_transition 0 0 || !(s.mode == 4 || s.mode == 5 || s.mode == 3) || s.isF F.mlgCoreStatus_retired c 0
    || (match s.hartOf c with
      | some h => s.getF F.coreHartMap_state 0 h == 2 || s.isF F.wldSeat_lending 0 h || s.domain c == 0
      | none => false)

/-- Whether debug holds the hart of a core. -/
def State.coreHalted (s : State) (c : Nat) : Bool :=
  match s.hartOf c with
  | some h => (s.hart h).debug
  | none => false

/-- The check's stall (R466 steps 1 and 4): a running hart stops at its next boundary, with its loads complete; then the core is checked, and the hart resumes. Until the boundary is reached the
command is repeated. -/
def State.checkCore (s : State) (c : Nat) (m : Sweep) : State :=
  match s.hartOf c with
  | none => s.check c m
  | some h =>
    if !s.runs h && !(s.hart h).stopped then s.check c m
    else
      let s1 := s.stopHart h
      if (s1.hart h).stopped && (s1.hart h).infl.isEmpty then (s1.modHart h (fun x => { x with stopped := false })).check c m else s1

/-- ROLLING_CHECK (R465, R466, R482). -/
def execRollingCheck (core : Fin 272) (m : Sweep) (s : State) : Host.Outcome State Fault Refusal :=
  let c := core.val
  if !s.isF F.mlgCtrl_rollEn 0 0 || s.checkDeferred c then ok s
  else if s.coreHalted c then
    ok (if s.ledger.retry.contains c then s else { s with ledger := { s.ledger with retry := s.ledger.retry ++ [c] } })
  else ok (s.checkCore c m)

/-- ROLLING_CHECK_RETRY (R482): each hour, of a check that was skipped for a halted hart. -/
def execRollingCheckRetry (core : Fin 272) (m : Sweep) (s : State) : Host.Outcome State Fault Refusal :=
  let c := core.val
  if s.ledger.retry.contains c && s.isF F.mlgCtrl_rollEn 0 0 && !s.checkDeferred c && !s.coreHalted c then ok (s.checkCore c m) else ok s

/-! ### The Survey -/

/-- SURVEY_DUE_NOTICE (R468). -/
def execSurveyDueNotice (s : State) : Host.Outcome State Fault Refusal :=
  if s.isF F.mlgStatus_surveyDue 0 0 then ok s else ok ((s.setF F.mlgStatus_surveyDue 0 0 1).ledgerChange 0x0A 0 0 0 0 0 0)

/-- SURVEY_OVERDUE (R468): every N_PLAN is at most 15. -/
def execSurveyOverdue (s : State) : Host.Outcome State Fault Refusal :=
  ok ((List.range 272).foldl (fun (s : State) (c : Nat) => if 15 < s.getF F.mlgCoreStatus_nPlan c 0 then s.setPlan c 15 else s) s)

/-- The tables of one core after a Survey (R469 step 6). -/
def State.surveyCore (s : State) (x : SurveyCore) : State :=
  let c := x.core.val
  let old := s.regWord .mlgVf c 2
  let s1 := (List.range 13).foldl (fun (s : State) (p : Nat) =>
    match x.vmin.getD p none with
    | some v => (s.setVolt c p v).setPoint c p true
    | none => s.setPoint c p false) s
  let s2 : State := { s1 with ledger := { s1.ledger with slack9 := s1.ledger.slack9.set 0 c x.slack9 } }
  let s3 := s2.ledgerChange 1 c old (s2.regWord .mlgVf c 2) x.slack9 (s2.eqHours c) (2 * (s2.fixedCore c).toNat)
  if s3.isF F.mlgCoreStatus_retired c 0 ∨ s3.pointOk c 9 = true then s3 else (s3.setF F.mlgCoreStatus_candidate c 0 1).retire c

/-! ### Ways, lanes and wires (R472) -/

/-- Retire LLC ways of a slice: entered in the Ledger, and then the slice flushes them, after which they take no lookup (R474, R478). -/
def State.retireWays (s : State) (t new : Nat) : State :=
  let old := s.getF F.mlgWayRetire_ways t 0
  let s1 := s.ledgerChange 7 t (w64 old) (w64 new) 0 0 0
  ((s1.setF F.mlgWayRetire_ways t 0 new).modSlice t (fun c => { c with retiring := c.retiring ||| BitVec.ofNat 12 (new - Nat.land old new) })).retirePump t

/-- How many ways of a slice a mask names. -/
def wayCount (m : Nat) : Nat := ((List.range 12).filter (fun i => m / 2 ^ i % 2 == 1)).length

/-- The Ledger retires a way with too many errors, while its slice has lost fewer than two (R472). -/
def State.loseWay (s : State) (t w : Nat) : State :=
  let old := s.getF F.mlgWayRetire_ways t 0
  if old / 2 ^ w % 2 = 1 then s
  else if wayCount old < 2 then s.retireWays t (old + 2 ^ w)
  else s.record Ev.ledgerChange srcKeeper (w64 7) (w64 t)

/-- New retirement entries of a port: entered in the Ledger before they take effect (R275, R276, R478). -/
def State.enterRetire (s : State) (k : Nat) (new : Word) (measure : Nat) : State :=
  let old := s.regWord .mpLaneRetire k 0
  if new = old then s else (s.ledgerChange 3 k old new measure 0 0).setRetire k new

/-- MP_LANE_RETIRE_WRITE (R275, R276, R287): the Margin Ledger is notified of a new entry. (DEDUCED, assumption 75.) -/
def execMpLaneRetireWrite (w : Issuer) (mp : Fin 12) (v : Word) (s : State) : Host.Outcome State Fault Refusal :=
  let k := mp.val
  s.keeperAt w .mp k (fun s =>
    if retireOk (s.regWord .mpLaneRetire k 0) v then s.enterRetire k v 0 else s.setF F.mpStatus_reject k 0 1)

/-- MP_TRAINING_DONE (R280, R281, R393, R460): `failStep` 0 is success, with the pins that steps 5 to 7 failed and every pin's eye, in width and height; a failure repeats the sequence once
and then fails the port. -/
def execMpTrainingDone (mp : Fin 12) (failStep : Fin 9) (pins : PinTest) (s : State) : Host.Outcome State Fault Refusal :=
  let k := mp.val
  let st := s.getF F.mpStatus_trainState k 0
  if st = 0 ∨ 9 ≤ st then ok s
  else
    let m := s.mps.get {} k
    let fail (step : Nat) : State :=
      if m.retried then
        (((s.setF F.mpStatus_trainState k 0 10).setF F.mpStatus_failStep k 0 step).record Ev.mpTrainFail (srcMp k 0) (w64 k) (w64 step)).record Ev.bootEvent srcKeeper 8 0
      else { (s.setF F.mpStatus_failStep k 0 step).setF F.mpStatus_trainState k 0 1 with mps := s.mps.set {} k { m with retried := true, started := s.mtime } }
    if failStep.val ≠ 0 then ok (fail failStep.val)
    else match addRetire (s.regWord .mpLaneRetire k 0) (pins.failed.map (·.toNat)) with
      | some w => ok ((((if w = s.regWord .mpLaneRetire k 0 then s else s.ledgerChange 3 k (s.regWord .mpLaneRetire k 0) w 0 0 0).noteEyes (1024 + 64 * k) (pins.widths.take 64)).noteEyes (2048 + 64 * k) (pins.heights.take 64)).trained k w)
      | none => ok (fail 8)

/-- The Ledger retires a DQ lane (R276, R472): in the first free entry; a fifth is refused. -/
def State.losePin (s : State) (k p measure : Nat) : State :=
  if (s.retiredLanes k).contains p then s
  else match (List.range 4).find? (fun i => !s.isF (F.mpLaneRetire_valid i) k 0) with
    | none => s.setF F.mpStatus_reject k 0 1
    | some i =>
      let old := s.regWord .mpLaneRetire k 0
      let new := putBits (putBits old (8 * i) 6 p) (8 * i + 7) 1 1
      s.enterRetire k new measure

/-- The Ledger spares a mesh wire (R193, R472); with four spared, the link is to be retired after an epoch switch. -/
def State.loseWire (s : State) (st np w margin : Nat) : State :=
  let old := s.regWord .rtSpare st np
  let obj := 8 * st + np % 4
  let on (i : Nat) : Bool := old.getLsbD (16 * i + 15)
  if (List.range 4).any (fun i => on i && bitsOf old (16 * i) 10 == w) then s
  else match (List.range 4).find? (fun i => !on i) with
    | none => s.ledgerChange 5 obj old old margin 0 0
    | some i =>
      let new := putBits (putBits old (16 * i) 10 w) (16 * i + 15) 1 1
      if spareOk (np / 4) new then (s.ledgerChange 4 obj old new margin 0 0).setRegWord .rtSpare st np new else s

/-- What a Survey found on a part that is no core (R469, R472): the margin is kept, and a part below its floor is retired or repaired. -/
def State.surveyPart (s : State) (x : SurveyPart) : State :=
  match x with
  | .way t w => s.loseWay t.val w.val
  | .pin k p width height =>
    let s1 := (s.noteEyes (1024 + 64 * k.val + p.val) [width]).noteEyes (2048 + 64 * k.val + p.val) [height]
    if width < 200 ∨ height < 25 then s1.losePin k.val p.val width else s1
  | .lane k l width =>
    let s1 := s.noteEyes (128 * k.val + l.val) [width]
    if width < 250 then (s1.ledgerChange 6 k.val 0 0 width 0 0).recalPort k.val else s1
  | .wire st np w margin =>
    let s1 := s.noteEyes (4096 + 1024 * (8 * st.val + np.val) + w.val) [margin]
    if margin < 150 then s1.loseWire st.val np.val w.val margin else s1

/-- Whether a part's errors within 24 h have reached the trigger of R472, and its retirement: 64 of an LLC way, 1 000 of a DQ pin. The Ledger looks once a second. (DESIGN CHOICE, assumption 130.) -/
def State.ageParts (s : State) : State :=
  s.ledger.errs.foldl (fun (s : State) (e : Nat × Nat) =>
    if e.1 < 2176 then (if 64 ≤ e.2 then s.loseWay (e.1 / 16) (e.1 % 16) else s)
    else if 4096 ≤ e.1 ∧ e.1 < 4864 ∧ 1000 ≤ e.2 then s.losePin ((e.1 - 4096) / 64) (e.1 % 64) e.2
    else s) s

/-! ### The Survey's sequence -/

/-- Steps 6 and 7 of R469: tables, retirements and the checkpoint, then exit as from Conservation. -/
def State.surveyEnd (s : State) (part : Bool) : State :=
  let s1 := s.ledger.found.foldl (fun (s : State) (x : SurveyCore) => s.surveyCore x) s
  let s2 := s1.ledger.foundParts.foldl (fun (s : State) (x : SurveyPart) => s.surveyPart x) s1
  let s3 : State := { s2 with ledger := { s2.ledger with found := [], foundParts := [] } }
  let s4 : State := if part then s3 else
    { s3.setF F.mlgStatus_surveyDue 0 0 0 with ledger := { s3.ledger with survey := s3.mtime, surveyHours := s3.getF F.mlgStatus_serviceHours 0 0 } }
  ((s4.trackVin).ledgerChange 9 0 0 0 0 0 part.toNat).leave

/-- Steps 1 to 3 of R469: harts stop, cores drain and save their state, gates flush and withhold, and every slice writes back and invalidates its lines. The boolean says that all is done. (DESIGN CHOICE, assumption 148.) -/
def State.surveyStart (s : State) : Bool × State :=
  if s.sequencesBusy || s.folio.record.isSome || (List.range 441).any (fun d => s.domain d == 4 || s.domain d == 5) then (false, s)
  else
    let s1 := s.stopFolios.pauseHarts.drainCores
    if !s1.coresToRetain.all (fun c => (s1.core c).flushed) then (false, s1)
    else
      let s2 := s1.retainCores.withhold
      if !s2.fabricRests then (false, s2)
      else
        let s3 := s2.flushRound (fun _ _ => false) (fun _ => true)
        (s3.flushDone (fun _ => true) (fun _ _ => false) (fun _ => true), s3)

/-- ENTER_SURVEY (R469): mode request 6, repeated until steps 1 to 3 are done; then groups are tested, and the last result ends the Survey. -/
def execEnterSurvey (found : SurveyFound) (last : Bool) (s : State) : Host.Outcome State Fault Refusal :=
  let more (s : State) : State :=
    let s1 : State := { s with ledger := { s.ledger with found := s.ledger.found ++ found.cores, foundParts := s.ledger.foundParts ++ found.parts } }
    if last then s1.surveyEnd false else s1
  if s.mode = 6 then ok (more s)
  else if s.isF F.pwrModeStatus_transition 0 0 = true ∧ s.pw.target = some 6 then
    let r := s.surveyStart
    ok (if r.1 then more (r.2.setMode 6) else r.2)
  else ok s

/-- SURVEY_DEADLINE (R469): at t0 + 290 s the untested groups are skipped and the Survey is partial. -/
def execSurveyDeadline (s : State) : Host.Outcome State Fault Refusal := ok (if s.mode = 6 then s.surveyEnd true else s)

/-! ### Life, ways and commits -/

/-- LIFE_MODEL_TICK (R472, R475): one second; each core's stress S of the formula of R475, in millionths. S ÷ 3 600 hours is S ÷ 225 sixteenths. -/
def execLifeModelTick (stress : List (Fin 272 × Nat)) (s : State) : Host.Outcome State Fault Refusal :=
  let s1 := stress.foldl (fun (s : State) (e : Fin 272 × Nat) =>
    let c := e.1.val
    let f := s.ledger.frac.get 0 c + e.2
    let n := s.eqHours c + f / 225000000
    State.setF { s with ledger := { s.ledger with frac := s.ledger.frac.set 0 c (f % 225000000) } } F.mlgCoreLife_eqHours c 0 (min n (2 ^ 32 - 1))) s
  let s2 := s1.ageParts
  if s2.ledger.seconds + 1 < 3600 then ok { s2 with ledger := { s2.ledger with seconds := s2.ledger.seconds + 1 } }
  else ok ({ s2 with ledger := { s2.ledger with seconds := 0 } }.incSat F.mlgStatus_serviceHours 0 0)

/-- MLG_WAY_RETIRE_WRITE (R12, R101, R474, R478): a write that clears a bit or leaves more than two set is a reserved encoding; a newly retired way is flushed first. -/
def execMlgWayRetireWrite (w : Issuer) (tile : Fin 136) (v : Word) (s : State) : Host.Outcome State Fault Refusal :=
  let t := tile.val
  s.keeperAt w .tile t (fun s =>
    let old := s.getF F.mlgWayRetire_ways t 0
    let new := v.toNat % 4096
    if Nat.land old new ≠ old ∨ 2 < wayCount new ∨ new = old then s else s.retireWays t new)

/-- LEDGER_COMMIT_RETRY (R478). -/
def execLedgerCommitRetry (works : Bool) (s : State) : Host.Outcome State Fault Refusal := ok (if works && !s.ledger.held.isEmpty then s.ledgerCommit else s)

end Sys2Proof.Machine
end

