-- ==== Sys2Proof/Machine/Aplic.lean ====
section
/-! DEFINITION. The APLIC's memory-mapped domains (R48, R292, R318), at the offsets of the interrupt architecture that R318 names: 32-bit registers of a machine-level domain and
its supervisor-level child. A world reaches the state of the sources attributed to it, WID 0 everything. -/
namespace Sys2Proof.Machine

/-- Whether a world reaches a source's state (R318): reserved sources belong to WID 0. -/
def State.srcMay (s : State) (wid i : Nat) : Bool := wid == 0 || s.srcWid i == wid

/-- Whether a domain holds a source: delegated sources are the child's, the others the root's; sources from 42 are reserved. -/
def State.srcIn (s : State) (child : Bool) (i : Nat) : Bool :=
  decide (1 ≤ i) && decide (i ≤ 41) && (s.aplicSrc i).cfg.getLsbD 10 == child

/-- The rectified input of a source: a pin's level under its source mode; the other sources raise edges. -/
def State.srcInput (s : State) (i : Nat) : Bool :=
  let lv := decide (i ≤ 32) && (s.pins.get {} (i - 1)).level
  match (s.aplicSrc i).sm with
  | 5 | 7 => decide (i ≤ 32) && !lv
  | 4 | 6 => lv
  | _ => false

/-- Set a source pending by software: not in an inactive source, and in a level mode only while its input is active. -/
def State.srcSetPend (s : State) (i : Nat) : State :=
  let a := s.aplicSrc i
  if a.sm = 0 ∨ ((a.sm = 6 ∨ a.sm = 7) ∧ s.srcInput i = false) then s else s.setAplic i { a with pend := true }
def State.srcClrPend (s : State) (i : Nat) : State := s.setAplic i { s.aplicSrc i with pend := false }
def State.srcSetEn (s : State) (i : Nat) (b : Bool) : State :=
  if (s.aplicSrc i).sm = 0 then s else s.setAplic i { s.aplicSrc i with en := b }

/-- A legal source mode: 2 and 3 are reserved. -/
def legalSm (n : Nat) : Nat := if n = 2 ∨ n = 3 then 0 else n

/-- A source after its mode was written: an inactive source is neither pending nor enabled; a level mode follows the input. -/
def State.srcMode (s : State) (i : Nat) : State :=
  let a := s.aplicSrc i
  match a.sm with
  | 0 => s.setAplic i { a with pend := false, en := false }
  | 6 | 7 => s.setAplic i { a with pend := s.srcInput i }
  | _ => s

/-- A write of sourcecfg. The source of a pin attributed to WID 0 is disabled (R317). -/
def State.srcCfgWrite (s : State) (child : Bool) (i v : Nat) : State :=
  let a := s.aplicSrc i
  if decide (42 ≤ i) || (decide (i ≤ 32) && s.srcWid i == 0) then s
  else if child then
    (if a.cfg.getLsbD 10 then (s.setAplic i { a with child := BitVec.ofNat 32 (legalSm (v % 8)) }).srcMode i else s)
  else
    let cfg := if v / 1024 % 2 = 1 then 1024 else legalSm (v % 8)
    (s.setAplic i { a with cfg := BitVec.ofNat 32 cfg, child := 0 }).srcMode i

/-- Send the MSI of every source that is pending and enabled in a domain that delivers. -/
def State.aplicPump (s : State) : State :=
  (List.range 42).foldl (fun (s : State) (i : Nat) =>
    if (s.aplicSrc i).pend && (s.aplicSrc i).en && s.aplicOn i then s.sendMsi i else s) s

/-- The sources of a 32-bit word of bits that an access may touch. -/
def State.srcWord (s : State) (wid : Nat) (child : Bool) (k : Nat) : List Nat :=
  ((List.range 32).map (· + 32 * k)).filter (fun i => s.srcIn child i && s.srcMay wid i)

/-- Bits of sources as a word. -/
def srcBits (l : List Nat) (f : Nat → Bool) : Nat := l.foldl (fun a i => if f i then a + 2 ^ (i % 32) else a) 0

/-- Whether an offset is a domain-wide register: domaincfg, the MSI address registers, genmsi. -/
def aplicWide (off : Nat) : Bool := off == 0 || (decide (0x1BC0 ≤ off) && decide (off < 0x1BD0)) || off == 0x3000

/-- A read of a domain's 32-bit register; none where the world may not. Set-by-number registers read 0. -/
def State.aplicRead (s : State) (wid : Nat) (child : Bool) (off : Nat) : Option Nat :=
  let bits (base : Nat) (f : Nat → Bool) : Option Nat := some (srcBits (s.srcWord wid child ((off - base) / 4)) f)
  if aplicWide off then
    (if wid = 0 ∨ wid = 2 then
      some (if off = 0 then 0x80000004 + (s.aplicDom.getLsbD (if child then 1 else 0)).toNat * 256 else if off = 0x1BC4 then 2 ^ 31 else 0)
     else none)
  else if 4 ≤ off ∧ off < 0x1000 then
    let i := off / 4
    (if s.srcMay wid i then some (if child then (if (s.aplicSrc i).cfg.getLsbD 10 then (s.aplicSrc i).child.toNat else 0) else (s.aplicSrc i).cfg.toNat) else none)
  else if 0x3004 ≤ off ∧ off < 0x4000 then
    let i := (off - 0x3000) / 4
    (if s.srcMay wid i then some (if s.srcIn child i then (s.aplicSrc i).target.toNat else 0) else none)
  else if 0x1C00 ≤ off ∧ off < 0x1C80 then bits 0x1C00 (fun i => (s.aplicSrc i).pend)
  else if 0x1D00 ≤ off ∧ off < 0x1D80 then bits 0x1D00 (fun i => s.srcInput i)
  else if 0x1E00 ≤ off ∧ off < 0x1E80 then bits 0x1E00 (fun i => (s.aplicSrc i).en)
  else some 0

/-- A write of a domain's 32-bit register; none where the world may not. (PRESUMED, assumption 40.) -/
def State.aplicWrite (s : State) (wid : Nat) (child : Bool) (off v : Nat) : Option State :=
  let each (base : Nat) (f : State → Nat → State) : Option State :=
    some (((s.srcWord wid child ((off - base) / 4)).foldl (fun (s : State) (i : Nat) => if v / 2 ^ (i % 32) % 2 = 1 then f s i else s) s).aplicPump)
  let one (f : State → Nat → State) : Option State :=
    some (if s.srcIn child v && s.srcMay wid v then (f s v).aplicPump else s)
  if aplicWide off then
    (if wid = 0 then
      some (if off = 0 then { s with aplicDom := putBits s.aplicDom (if child then 1 else 0) 1 (v / 256) }.aplicPump
            else if off = 0x3000 then s.setIrq (v / 2 ^ 18 % 256) (if child then 1 else 0) (v % 256)
            else s)
     else none)
  else if 4 ≤ off ∧ off < 0x1000 then (if s.srcMay wid (off / 4) then some (s.srcCfgWrite child (off / 4) v).aplicPump else none)
  else if 0x3004 ≤ off ∧ off < 0x4000 then
    let i := (off - 0x3000) / 4
    (if s.srcMay wid i then
      some (if s.srcIn child i then s.setAplic i { s.aplicSrc i with target := BitVec.ofNat 32 (v / 2 ^ 18 % 2 ^ 14 * 2 ^ 18 + (if child then v / 2 ^ 12 % 64 * 2 ^ 12 else 0) + v % 2048) } else s)
     else none)
  else if 0x1C00 ≤ off ∧ off < 0x1C80 then each 0x1C00 State.srcSetPend
  else if off = 0x1CDC ∨ off = 0x2000 then one State.srcSetPend
  else if 0x1D00 ≤ off ∧ off < 0x1D80 then each 0x1D00 State.srcClrPend
  else if off = 0x1DDC then one State.srcClrPend
  else if 0x1E00 ≤ off ∧ off < 0x1E80 then each 0x1E00 (fun s i => s.srcSetEn i true)
  else if off = 0x1EDC then one (fun s i => s.srcSetEn i true)
  else if 0x1F00 ≤ off ∧ off < 0x1F80 then each 0x1F00 (fun s i => s.srcSetEn i false)
  else if off = 0x1FDC then one (fun s i => s.srcSetEn i false)
  else some s

end Sys2Proof.Machine
end

