-- ==== Sys2Proof/Machine/Folio.lean ====
section
/-! DEFINITION. Performance folios (R518 to R524) and the clearing of a block's counters (R515). -/
namespace Sys2Proof.Machine

/-! ### Counters of a block -/

/-- The place and unit of a block with counters. -/
def PmuBlock.at (b : PmuBlock) : Place × Nat :=
  match b with
  | .slice t => (.tile, t.val)
  | .stop st => (.stop, st.val)
  | .mp k => (.mp, k.val)
  | .ax k => (.ax, k.val)

/-- A write of PMU_BLOCK_CTRL: FREEZE takes its value, and CLEAR zeroes every count and overflow bit of the block (R515). -/
def State.pmuBlockWrite (s : State) (p : Place) (u : Nat) (v : Word) : State :=
  let s1 := s.writeReg (pmuBlockCtrlAt p) u 0 v allBytes
  if v.getLsbD 1 then (List.range (pmuCount p)).foldl (fun (s : State) (i : Nat) => (s.setF (F.pmuCnt_count p) u i 0).setF (F.pmuCtl_ovf p) u i 0) s1
  else s1

/-- PMU_BLOCK_CLEAR (R515): WID 0 and WID 2 write it. -/
def execPmuBlockClear (w : Issuer) (b : PmuBlock) (v : Word) (s : State) : Host.Outcome State Fault Refusal :=
  let wid := s.issuerWid w
  s.guardedAt w b.at.1 b.at.2 (wid == 0 || wid == 2) (fun s => s.pmuBlockWrite b.at.1 b.at.2 v)

/-! ### Folio control -/

/-- The groups of a folio, in the order of GROUPS: blocks and bytes of each block (R520). -/
def folioGroups : List (Nat × Nat × Nat) := [(0, 256, 128), (1, 136, 64), (2, 160, 64), (3, 12, 128), (4, 6, 128)]

/-- The bytes of a record (R520). -/
def recordSize (groups : Nat) : Nat := folioGroups.foldl (fun a g => if groups / 2 ^ g.1 % 2 = 1 then a + g.2.1 * g.2.2 else a) 64

/-- Whether the ring of a setting lies in one of the segments 0x0 to 0xD (R518). -/
def State.folioRingOk (s : State) : Bool :=
  let base := s.getF F.pmuFolioBuf_base 0 0 * 4096
  let len := s.getF F.pmuFolioRing_entries 0 0 * recordSize (s.getF F.pmuFolioCtrl_groups 0 0)
  decide ((base + len - 1) / 2 ^ 48 = base / 2 ^ 48) && decide (base / 2 ^ 48 ≤ 0xD)

/-- A write of PMU_FOLIO_CTRL, PMU_FOLIO_BUF or PMU_FOLIO_RING: refused whole, with REJECT, in the cases of R518; enabling sets OWNER and starts the sequence. -/
def State.folioWrite (s : State) (r : RegName) (wid : Nat) (v en : Word) : State :=
  let n := s.writeReg r 0 0 v en
  let on := s.isF F.pmuFolioCtrl_enable 0 0
  let off := fun (x : State) => x.setF F.pmuFolioCtrl_enable 0 0 0
  let changes : Bool := (off n).regWord r 0 0 != (off s).regWord r 0 0
  let starts : Bool := !on && n.isF F.pmuFolioCtrl_enable 0 0
  let bad : Bool := (on && changes)
    || (starts && (n.getF F.pmuFolioCtrl_groups 0 0 == 0 || n.getF F.pmuFolioRing_entries 0 0 == 0 || !n.folioRingOk))
  if bad then s.setF F.pmuFolioStatus_reject 0 0 1
  else
    let n1 := if r == .pmuFolioCtrl && n.isF F.pmuFolioCtrl_enable 0 0 && en.getLsbD 0 then n.setF F.pmuFolioCtrl_owner 0 0 wid else n
    if starts then State.setF { n1 with folio := { n1.folio with skipped := 0 } } F.pmuFolioStatus_seq 0 0 0 else n1

/-- FOLIO_CTRL_WRITE (R518): WID 0 and WID 2 write PMU_FOLIO_CTRL. -/
def execFolioCtrlWrite (w : Issuer) (v : Word) (s : State) : Host.Outcome State Fault Refusal :=
  let wid := s.issuerWid w
  s.guarded w svcStop (wid == 0 || wid == 2) (fun s => s.folioWrite .pmuFolioCtrl wid v allBytes)

/-! ### Edges and records -/

/-- The domain that supplies a block of a group (R433, R522). -/
def State.folioDomain (s : State) (g i : Nat) : Nat :=
  match g with
  | 0 => s.physCore i
  | 1 => 272 + i
  | 2 => 431 + stopX i
  | 3 => 408 + i
  | _ => 420 + i

/-- The counter words of a block: a hart's mcycle, minstret and mhpmcounter3 to 10 with OF in bit 48, or an uncore block's counters with OVF in bit 48 and EN in bit 49 (R520). -/
def State.folioCounts (s : State) (g i : Nat) : List Word :=
  let low (v : Word) : Nat := v.toNat % 2 ^ 48
  match g with
  | 0 => [w64 (low (s.csr i 0xB00)), w64 (low (s.csr i 0xB02))]
      ++ (List.range 8).map (fun k => w64 (low (s.csr i (0xB03 + k)) + bitsOf (s.csr i (0x323 + k)) 63 1 * 2 ^ 48))
  | _ =>
    let p : Place := match g with
      | 1 => .tile
      | 2 => .stop
      | 3 => .mp
      | _ => .ax
    (List.range (pmuCount p)).map (fun k =>
      w64 (s.getF (F.pmuCnt_count p) i k + s.getF (F.pmuCtl_ovf p) i k * 2 ^ 48 + s.getF (F.pmuCtl_en p) i k * 2 ^ 49))

/-- Whether a block is written from what it latched before: its domain is not ON, or its hart moves or is lent (R522, R524). -/
def State.folioStale (s : State) (g i : Nat) : Bool :=
  s.domain (s.folioDomain g i) != 2 || (g == 0 && (s.getF F.coreHartMap_state 0 i == 2 || s.isF F.wldSeat_lending 0 i))

/-- Latch the selected counters of every block that is ON (R519). A hart that moves or is lent holds the counts of its quiesce. -/
def State.folioLatch (s : State) (groups : Nat) : State :=
  folioGroups.foldl (fun (s : State) (g : Nat × Nat × Nat) =>
    if groups / 2 ^ g.1 % 2 = 0 then s
    else (List.range g.2.1).foldl (fun (s : State) (i : Nat) =>
      if s.domain (s.folioDomain g.1 i) = 2 then
        { s with folio := { s.folio with latched := s.folio.latched.set [] (g.1 * 1024 + i) (s.folioCounts g.1 i) } }
      else s) s) s

/-- The words of a block (R520, R522). -/
def State.folioBlock (s : State) (g i : Nat) : List Word :=
  let redact : Bool := g == 0 && !s.folioMayRead i
  let w0 := i + (if g = 0 then s.physCore i * 2 ^ 16 + s.seat i * 2 ^ 34 else 0) + (s.folioStale g i).toNat * 2 ^ 32 + redact.toNat * 2 ^ 33
  w64 w0 :: (if redact then [] else s.folio.latched.get [] (g * 1024 + i))

/-- Words as the bytes of a sector, from word `j` of the list. -/
def wordsSector (l : List Word) (j : Nat) : Sector :=
  BitVec.ofNat 512 ((List.range 8).foldl (fun a k => a + (l.getD (j + k) 0).toNat * 2 ^ (64 * k)) 0)

/-- The stop of a block of a group: its core's, its tile's, itself, its port's or its gate's (R520, R521). -/
def State.folioStop (s : State) (g i : Nat) : Nat :=
  match g with
  | 0 => coreStop (s.physCore i)
  | 1 => tileStop i
  | 2 => i
  | 3 => mpStops.getD i 0
  | _ => axStop i

/-- The blocks of the selected groups, one after another (R520). -/
def State.folioBlocks (s : State) (groups pa : Nat) : List FolioBlk :=
  (folioGroups.foldl (fun (a : Nat × List FolioBlk) (g : Nat × Nat × Nat) =>
    if groups / 2 ^ g.1 % 2 = 0 then a
    else (a.1 + g.2.1 * g.2.2, a.2 ++ (List.range g.2.1).map (fun i =>
      { stop := s.folioStop g.1 i, pa := a.1 + i * g.2.2, bytes := g.2.2, words := s.folioBlock g.1 i }))) (pa + 64, [])).2

/-- Change the record in progress. -/
def State.folioMod (s : State) (f : FolioRec → FolioRec) : State := { s with folio := { s.folio with record := s.folio.record.map f } }

/-- A write of a record that is answered with an error sets WRITE_ERR and clears ENABLE (R521). -/
def State.folioError (s : State) : State :=
  ((s.folioMod (fun r => { r with failed := true })).setF F.pmuFolioStatus_writeErr 0 0 1).setF F.pmuFolioCtrl_enable 0 0 0

/-- Write a list of words from an address on, sector by sector with WriteInvalidateFull (R521). -/
def State.folioPut (s : State) (wid pa bytes : Nat) (l : List Word) : State :=
  (List.range (bytes / 64)).foldl (fun (s : State) (k : Nat) =>
    let r := s.cohWrite wid (pa / 64 + k) (wordsSector l (8 * k)) fullMask false
    if r.1.isSome then r.2.folioError else r.2) s

/-- The writes of one stop: its blocks, in their order. -/
def State.folioAt (s : State) (st : Nat) : State :=
  match s.folio.record with
  | none => s
  | some r =>
    let s1 := (r.blocks.filter (fun b => b.stop == st)).foldl (fun (s : State) (b : FolioBlk) => s.folioPut r.wid b.pa b.bytes b.words) s
    s1.folioMod (fun x => { x with blocks := x.blocks.filter (fun b => b.stop != st) })

/-- The header, once every block has had its Comp; SEQ is set with the answer to it (R521). A record that failed stays incomplete. -/
def State.folioClose (s : State) : State :=
  match s.folio.record with
  | none => s
  | some r =>
    if r.failed then { s with folio := { s.folio with record := none } }
    else
      let s1 := s.folioPut r.wid r.pa 64 r.header
      let bad : Bool := match s1.folio.record with
        | some x => x.failed
        | none => true
      let s2 : State := { s1 with folio := { s1.folio with record := none } }
      if bad then s2 else s2.setF F.pmuFolioStatus_seq 0 0 r.seq

/-- Carry the record in progress on as far as its answers let it (R521): all ones into word 0 of the header, then every stop its blocks, then the header. -/
def State.folioGo (s : State) : State :=
  let cmd : Instr := .folioEdge false
  let header (s : State) : State := match s.folio.record with
    | some r => if r.opened && r.blocks.isEmpty then s.served svcStop 3 cmd State.folioClose else s
    | none => s
  let stops (s : State) : State := match s.folio.record with
    | some r => if r.opened then ((r.blocks.map (·.stop)).eraseDups.foldl (fun (s : State) (st : Nat) => s.served st (niEndpoint st) cmd (fun s => s.folioAt st)) s) else s
    | none => s
  match s.folio.record with
  | none => s
  | some r =>
    if r.opened then header (stops s)
    else
      let s1 := s.served svcStop 3 cmd (fun s =>
        let w := s.writeBytes r.wid 4 r.pa 8 (2 ^ 64 - 1)
        let s2 := w.2.folioMod (fun x => { x with opened := true })
        if w.1.isSome then { s2.folioError with folio := { s2.folioError.folio with record := none } } else s2)
      header (stops s1)

/-- FOLIO_EDGE (R519 to R522): the edge latches the selected counters and its record is begun; an edge that finds the previous record incomplete, or comes too late for its own (`late`), is skipped
and counted. (DESIGN CHOICE, assumption 102.) -/
def execFolioEdge (late : Bool) (s : State) : Host.Outcome State Fault Refusal :=
  if s.works.any (fun r => r.cmd == .folioEdge false && r.next.isNone) then ok s.folioGo
  else if !s.isF F.pmuFolioCtrl_enable 0 0 then ok s
  else if late || s.folio.record.isSome then ok (State.incSat { s with folio := { s.folio with skipped := s.folio.skipped + 1 } } F.pmuFolioStatus_skipped 0 0)
  else
    let groups := s.getF F.pmuFolioCtrl_groups 0 0
    let size := recordSize groups
    let k := s.getF F.pmuFolioStatus_seq 0 0 + 1
    let pa := s.getF F.pmuFolioBuf_base 0 0 * 4096 + (k - 1) % s.getF F.pmuFolioRing_entries 0 0 * size
    let s1 := s.folioLatch groups
    let r : FolioRec := { seq := k, wid := s.getF F.pmuFolioCtrl_owner 0 0, pa := pa, blocks := s1.folioBlocks groups pa,
                          header := [w64 (k % 2 ^ 32), w64 s.mtime, w64 (groups + s.folio.skipped % 2 ^ 32 * 2 ^ 16), w64 size] }
    ok (State.folioGo { s1 with folio := { s1.folio with record := some r, skipped := 0 } })

end Sys2Proof.Machine
end

