-- ==== Sys2Proof/Machine/SvcRegs.lean ====
section
/-! DEFINITION. Registers of the service complex that have rows of their own: the Curator's run control (R386), the Keeper's watchdog (R403, R404), debug
consent (R401, R405) and the slip bells (R411, R413). -/
namespace Sys2Proof.Machine

/-! ### The Curator's run control -/

/-- The Curator held in reset (R382, R386): its registers and local control registers at their reset values, its line buffer and BTB empty, and what it waits for dropped. TCM keeps its bytes,
and a flash command that runs is the controller's and goes on (R385). -/
def State.curatorReset (s : State) : State :=
  let s1 : State := State.dropAgent { s with cur := { tcm := s.cur.tcm, flash := s.cur.flash, flashDone := s.cur.flashDone } } svcStop 1
  [RegName.curMtimecmpLo, .curMtimecmpHi, .curIntEn, .curFlashAddr].foldl (fun (s : State) (r : RegName) => s.setRegWord r 0 0 r.resetConst) s1

/-- The Curator's image entry (R388): zero where no image is loaded. -/
def State.curatorEntry (s : State) : Option (BitVec 32) := (s.kpr.images.get none 3).map (fun l => BitVec.ofNat 32 l.hdr.entry)

/-- RUN becomes 1: the Curator starts at its image's ENTRY, where it has an image and has not failed (R386, R393, R403). -/
def State.curatorStart (s : State) : State :=
  match s.curatorEntry with
  | some e => if s.getF F.curStatus_state 0 0 = 3 then s
    else State.setF { s.curatorReset with cur := { s.curatorReset.cur with pc := e } } F.curStatus_state 0 0 1
  | none => s

/-- What RUN's value does to STATE: running at 1, held at 0 (R386); a failed Curator stays failed until a warm reset (R403). -/
def State.curatorRun (s : State) (old : Bool) : State :=
  let new := s.isF F.curCtrl_run 0 0
  if new && !old then s.curatorStart
  else if old && !new then
    if s.getF F.curStatus_state 0 0 = 3 then s else s.curatorReset.setF F.curStatus_state 0 0 0
  else s

/-- A write of CUR_CTRL by WID 0. -/
def State.curCtrlWrite (s : State) (v en : Word) : State :=
  (s.writeReg .curCtrl 0 0 v en).curatorRun (s.isF F.curCtrl_run 0 0)

/-- CURATOR_RUN_WRITE (R386). -/
def execCuratorRunWrite (w : Issuer) (v : Word) (s : State) : Host.Outcome State Fault Refusal :=
  s.keeperOnly w svcStop (fun s => s.curCtrlWrite v allBytes)

/-- A write of CUR_XIP empties the line buffer (R382). -/
def State.curXipWrite (s : State) (v en : Word) : State :=
  let s1 := s.writeReg .curXip 0 0 v en
  { s1 with cur := { s1.cur with lines := [] } }

/-! ### The Keeper's watchdog -/

/-- A write of KPR_WDT: TIMEOUT_MS under LOCK, and KICK clears WARNED and restarts the count (R403, R404). -/
def State.kprWdtWrite (s : State) (v en : Word) : State :=
  let s1 := s.writeReg .kprWdt 0 0 v en
  if (v &&& en).getLsbD 0 then s1.setF F.kprWdt_warned 0 0 0 else s1

/-- KEEPER_WDT_KICK (R403). -/
def execKeeperWdtKick (w : Issuer) (v : Word) (s : State) : Host.Outcome State Fault Refusal :=
  s.keeperOnly w svcStop (fun s => s.kprWdtWrite v allBytes)

/-! ### Debug consent -/

/-- A write of KPR_DEBUG_CONSENT (R405): a world from 2 up changes its own bit alone; WID 0 only clears bits. Clearing a bit clears the world's debug enables
and a halted hart of it resumes (R401). -/
def State.consentWrite (s : State) (wid : Nat) (v en : Word) : State :=
  let old := s.regWord .kprDebugConsent 0 0
  let m : Word := if wid = 0 then allBytes else 1#64 <<< wid
  let new : Word := if wid = 0 then old &&& (v ||| ~~~en) else (old &&& ~~~(m &&& en)) ||| (v &&& m &&& en)
  let s1 := s.setRegWord .kprDebugConsent 0 0 new
  (List.range 64).foldl (fun (s : State) (w : Nat) => if decide (2 ≤ w) && old.getLsbD w && !new.getLsbD w then s.dropConsent w else s) s1

/-- DEBUG_CONSENT_WRITE (R401, R405): refused for WID 1. -/
def execDebugConsentWrite (w : Issuer) (v : Word) (s : State) : Host.Outcome State Fault Refusal :=
  s.guarded w svcStop (s.issuerWid w != 1) (fun s => s.consentWrite (s.issuerWid w) v allBytes)

/-! ### Slip bells -/

/-- A write of WLD_SLIP_BELL_x (R411, R413): RING_PAGE, and BELL tells the Keeper that the ring has new entries. -/
def State.bellWrite (s : State) (x : Nat) (v en : Word) : State :=
  let s1 := s.writeReg .wldSlipBell 0 x v en
  if (v &&& en).getLsbD 0 && !s1.slips.belled.contains x then { s1 with slips := { s1.slips with belled := s1.slips.belled ++ [x] } } else s1

/-- SLIP_BELL (R411): the register of world x is written by WID x alone. -/
def execSlipBell (w : Issuer) (x : BitVec 6) (v : Word) (s : State) : Host.Outcome State Fault Refusal :=
  s.guarded w svcStop (decide (2 ≤ x.toNat) && s.issuerWid w == x.toNat) (fun s => s.bellWrite x.toNat v allBytes)

end Sys2Proof.Machine
end

