-- ==== Sys2Proof/Machine/Control.lean ====
section
/-! DEFINITION. Control space as an address reaches it: where an address leads (R7, R27, R46, R48), who may read and write it (R8, R28, R292 and the blocks'
own rules), and what a write of each register does. -/
namespace Sys2Proof.Machine

/-! ### Where an address leads -/

/-- What a control-space address reaches. -/
inductive CtlTarget where
  | aplic (child : Bool) (off : Nat)
  | file (hart file off : Nat)
  | reg (r : RegName) (u i : Nat)
  /-- An offset of a channel's or a queue's page that lists no register; the page's ring register names the page (R327, R369). -/
  | blank (r : RegName) (u i : Nat)
  | none
  deriving DecidableEq, Repr

/-- The hart whose interrupt files lie in a core's range (R46). -/
def State.fileHart (s : State) (c : Nat) : Option Nat := (List.range 256).find? (fun h => s.homeCoreOf h == c)

/-- The interrupt-file page at an offset of a core's range (R46): file 0 is the machine level's, 1 the supervisor level's, 1 + g guest file g's. -/
def filePage (o : Nat) : Option Nat :=
  if o / 0x1000 = 0x80 then some 0 else if 0x90 ≤ o / 0x1000 ∧ o / 0x1000 < 0x98 then some (1 + (o / 0x1000 - 0x90)) else none

/-- The channel or queue page that an offset of a stop's window lies in (R327, R369). -/
def pageAt (st off : Nat) : CtlTarget :=
  let i := (off - 0x200000) / 0x1000
  if off < 0x200000 then .none
  else match (List.range 2).find? (fun e => deStop e == st) with
    | some e => if i < 32 then .blank .deChRing e i else .none
    | none => if st = hpStop 0 ∧ i < 64 then .blank .hpTqRing 0 i else .none

/-- The target of an address: offsets of 8 bytes name a register (R7, R27). -/
def State.ctlTarget (s : State) (pa : Nat) : CtlTarget :=
  if pa < controlBase then .none
  else
    let st := (pa - controlBase) / 0x400000
    let off := (pa - controlBase) % 0x400000
    let o := off % 0x100000
    let page : Option (Nat × Nat) := if off < 0x200000 then none else
      match stopTile st, filePage o with
      | some t, some f => (s.fileHart (2 * t + (off - 0x200000) / 0x100000)).map (fun h => (h, f))
      | _, _ => none
    if st = svcStop ∧ 0x310000 ≤ off ∧ off < 0x318000 then .aplic (decide (0x314000 ≤ off)) (off % 0x4000)
    else match page with
      | some (h, f) => if off % 0x1000 < 8 then .file h f (off % 8) else .none
      | none => match locate st (off / 8 * 8) with
        | some (r, u, i) => .reg r u i
        | none => pageAt st off

/-! ### Reads -/

/-- Whether a world seats the hart that a core holds (R292). -/
def State.coreSeats (s : State) (c wid : Nat) : Bool :=
  match s.hartOf c with
  | some h => s.seat h == wid
  | none => false

/-- Whether a queue's page is a world's (R369). -/
def State.queueMay (s : State) (q wid : Nat) : Bool :=
  wid == 0 || (match s.queueOwner q with
    | some (i, _) => wid == s.getF F.hpViCfg_wid 0 i
    | none => false)

/-- Whether a world may read a register (R292, and R41, R299, R305, R326, R327, R346, R367, R369, R386, R404, R405, R411, R515, R518, R541). -/
def State.mayRead (s : State) (wid : Nat) (r : RegName) (u i : Nat) : Bool :=
  let z2 : Bool := wid == 0 || wid == 2
  match r with
  | .axgFence => false
  | .coreMtime | .coreMtimecmp | .kprDebugConsent => true
  | .coreHartMap | .wldSeat => decide (wid ≤ 2) || s.seat i == wid
  | .wldDeedArg | .wldDeedCmd | .wldDeedStatus => wid == i
  | .wldSlipBell => wid == 0 || (decide (2 ≤ wid) && wid == i)
  | .wldBellPairs => z2 || wid == i
  | .wldKeySlot => z2 || (decide (3 ≤ wid) && s.getF F.wldKeySlot_owner 0 i == wid)
  | .kprWdt => wid == 0
  | .curCtrl | .curXip | .curStatus => decide (wid ≤ 2)
  | .hpViCfg | .hpViAper => z2 || (s.created i && wid == s.getF F.hpViCfg_wid 0 i)
  | .hpTqRing | .hpTqCpl | .hpTqTail | .hpTqCplHead | .hpTqStatus | .hpTqCtrl => s.queueMay i wid
  | .deChRing | .deChCpl | .deChTail | .deChCplHead | .deChStatus | .deChCtrl | .deChMsi | .deChAlive => wid == 0 || wid == s.chanWid u i
  | .deScanCfg | .deScanStart | .deScanLen | .deScanPeriod | .deScanExpect | .deScanResult | .deScanStatus =>
    wid == 0 || wid == s.chanWid u (s.getF F.deScanCfg_channel u i)
  | _ => if r.place = .core then z2 || s.coreSeats u wid else z2

/-- The word that a read returns: live values where the register shows the machine's (R171, R180, R506), zero for a root port that is not enabled (R365). -/
def State.ctlWord (s : State) (r : RegName) (u i : Nat) : Word :=
  match r with
  | .niRouteStatus => putBits (s.readReg r u i) 16 16 (min (s.oldFlits u) 65535)
  | .anlCalendar => w64 s.annals.calendar
  | .hpRcCtrl | .hpRcStatus => if s.rpEnabled u i then s.readReg r u i else 0
  | .rtDeadCtrl => putBits (s.readReg r u i) 10 1 (s.ejectIdle u).toNat
  | _ => s.readReg r u i

/-- What an access to control space gives: a value, or an error code. -/
inductive CtlAns where
  | val (v : Nat)
  | err (code : Nat)
  deriving DecidableEq, Repr

/-- Whether an access has a width and alignment that R8 allows. -/
def ctlForm (pa size : Nat) : Bool := (size == 4 || size == 8) && pa % size == 0

/-- A read of control space by a world: 4 or 8 bytes. (DEDUCED, assumption 17.) -/
def State.ctlRead (s : State) (wid pa size : Nat) : CtlAns :=
  if !ctlForm pa size then .err Err.format
  else match s.ctlTarget pa with
    | .none => .err Err.address
    | .file h _ _ => if s.reachable .core (s.physCore h) then .val 0 else .err Err.targetDead
    | .aplic child off =>
      (match s.aplicRead wid child off, (if size = 8 then s.aplicRead wid child (off + 4) else some 0) with
      | some a, some b => .val (a + b * 2 ^ 32)
      | _, _ => .err Err.permission)
    | .reg r u i =>
      if !s.regReach r u then .err Err.targetDead
      else if !s.mayRead wid r u i then .err Err.permission
      else if size = 8 then .val (s.ctlWord r u i).toNat
      else .val (bitsOf (s.ctlWord r u i) (8 * (pa % 8)) 32)
    | .blank r u i =>
      if !s.regReach r u then .err Err.targetDead
      else if !s.mayRead wid r u i then .err Err.permission
      else .val 0

/-! ### Writes -/

/-- A write of part of a register as a write of the whole: the other bits of a field keep their value, and trigger or clear nothing. (DEDUCED, assumption 16.) -/
def State.fill (s : State) (r : RegName) (u i : Nat) (data en : Word) : Word :=
  let old := s.regWord r u i
  r.fields.foldl (fun w f =>
    let d := bitsOf data f.lsb f.width
    let e := bitsOf en f.lsb f.width
    let o := bitsOf old f.lsb f.width
    putBits w f.lsb f.width (match f.ty with
      | .rw | .rws | .rwl => xorNat o (Nat.land (xorNat o d) e)
      | _ => Nat.land d e)) 0

/-- The slot that a valid region names (R310, R314). -/
def State.regionSlot (s : State) (n : Nat) : Option Nat :=
  if s.isF F.wldRegion_valid 0 n then some (if s.getF F.wldRegion_kind 0 n = 0 then s.getF F.wldRegion_keySlot 0 n else 0) else none

/-- A write of WLD_REGION_n or its limit (R310): a region whose slot is not owned by its world is ignored, and REFS follows the valid regions (R314). -/
def State.regionWrite (s : State) (lim : Bool) (n : Nat) (v : Word) : State :=
  let s := s.deedForget (fun _ _ => true)
  if lim then s.writeReg .wldRegionLim 0 n v allBytes
  else
    let s1 := s.writeReg .wldRegion 0 n v allBytes
    let bad : Bool := s1.isF F.wldRegion_valid 0 n && s1.getF F.wldRegion_kind 0 n == 0
      && !s1.slotOf (s1.getF F.wldRegion_keySlot 0 n) (s1.getF F.wldRegion_wid 0 n)
    if bad then s
    else
      let s2 := match s.regionSlot n with
        | some k => s1.addRefs k (-1)
        | none => s1
      match s1.regionSlot n with
      | some k => s2.addRefs k 1
      | none => s2

/-- A write of AXG_PORT_CTRL (R255): its plain fields, then ENABLE (R233, R253), ATTESTED (R241), OPEN (R234), QUARANTINE (R250) and RECAL (R231). One that clears ATTESTED while
carrel grants stand is refused whole (R241). OPEN written 0 stops admission and no more. (DESIGN CHOICE, assumption 116.) -/
def State.axgCtrlWrite (s : State) (k : Nat) (v : Word) : State :=
  let old := s.regWord .axgPortCtrl k 0
  let keep (w : Word) (b : Nat) : Word := putBits w b 1 (bitsOf old b 1)
  if old.getLsbD 3 && !v.getLsbD 3 && s.carrelGrants k then s.axReject k
  else
    let s1 := s.writeReg .axgPortCtrl k 0 (keep (keep (keep v 0) 2) 3) allBytes
    let s2 := if !v.getLsbD 0 then s1.disablePort k else if old.getLsbD 0 then s1 else (s1.setF F.axgPortCtrl_enable k 0 1).startBringup k
    let s3 := if v.getLsbD 3 == old.getLsbD 3 then s2 else s2.setAttested k (v.getLsbD 3)
    let s4 := if !v.getLsbD 2 then s3.setF F.axgPortCtrl_open k 0 0 else if old.getLsbD 2 then s3 else s3.openPort k
    let s5 := if v.getLsbD 4 then s4.quarantine k 7 0 else s4
    if v.getLsbD 5 then s5.recalPort k else s5

/-- A write of NI_FABRIC_CTRL (R176): its bits start the fence, the epoch switch and the meter commit. -/
def State.fabricWrite (s : State) (v : Word) : State :=
  let s1 := if v.getLsbD 0 then s.fenceWrite false else s
  let s2 := if v.getLsbD 1 then s1.fenceWrite true else s1
  if v.getLsbD 2 then s2.meterCommitWrite else s2

/-- A reset of a host transfer queue through HP_TQ_CTRL (R329, R369): its jobs are squashed and STATE is RESETTING until what they have outstanding is accounted for. (DEDUCED, assumption 53.) -/
def State.tqReset (s : State) (q : Nat) : State :=
  let mine (o : OutReq) : Bool := match o.kind with
    | .queue k _ _ | .transl k _ => k == q
    | .fabric _ => false
  let s1 := (s.squashQueue q).modHp 0 (fun h => { h with outst := h.outst.map (fun o => if mine o then { o with discard := true } else o) })
  if (s1.hp 0).outst.any mine then s1.setRState (tqRing q) 3 else (s1.setQueue q {}).ringReset (tqRing q)

/-- A write of the package limit (R402, R458): a value outside 300 W to the ceiling is ignored. -/
def State.limitWrite (s : State) (v : Word) : State :=
  let l := bitsOf v 0 10
  if l < 300 ∨ s.getF F.pwrLimitStatus_ceilingW 0 0 < l then s.limitHit 3 v else s.writeReg .pwrLimitCtrl 0 0 v allBytes

/-- A write of MLG_VF_k (R402, R461): each LDO holds its ceiling, VF_CLAMPS counts the voltages held, and the core's n and VIN_CORE follow. -/
def State.vfWrite (s : State) (c k : Nat) (v : Word) : State :=
  let top := s.vCeil c
  let overTop := (List.range 4).filter (fun j => decide (top < bitsOf v (16 * j) 11))
  let v1 := overTop.foldl (fun w j => putBits w (16 * j) 11 top) v
  let s1 := overTop.foldl (fun (s : State) (_ : Nat) => (s.incSat F.kprLimitCount_vfClamps 0 0).limitHit 2 v) (s.writeReg .mlgVf c k v1 allBytes)
  (s1.syncCore c).trackVin

/-- A write of MLG_CORE_STATUS (R474): an N_PLAN outside 6 to N_CEIL is a reserved encoding (R12); the core's n follows a new one. -/
def State.coreStatusWrite (s : State) (c : Nat) (v : Word) : State :=
  let n := bitsOf v 8 5
  let old := s.getF F.mlgCoreStatus_nPlan c 0
  (s.writeReg .mlgCoreStatus c 0 (if 6 ≤ n ∧ n ≤ s.getF F.mlgCoreStatus_nCeil c 0 then v else putBits v 8 5 old) allBytes).syncCore c

/-- Whether a register takes its write through the broadcast of R89. -/
def broadcastReg (r : RegName) : Bool := r == .coreHoldCtrl || r == .dirRetryCtrl || r == .wldRegion || r == .wldRegionLim

/-- What a register of the Keeper's and the blocks' own does when WID 0 writes the whole of it: a register with an action takes it, any other its fields by type (R9). -/
def State.zeroWrite (s : State) (r : RegName) (u i : Nat) (v : Word) : State :=
  match r with
  | .niFabricCtrl => s.fabricWrite v
  | .axgPortCtrl => s.axgCtrlWrite u v
  | .axgWinCtrl => let s1 := s.writeReg r u i v allBytes; if v.getLsbD 0 then s1.windowCommit u else s1
  | .mpCfg => let s1 := s.writeReg r u i v allBytes; if v.getLsbD 20 then s1.trainStart u else s1
  | .wldKeyCmd =>
    let s1 := s.writeReg r u i v allBytes
    let op := bitsOf v 0 2
    if op = 1 ∨ op = 2 then s1.keyCommand op (bitsOf v 8 8) (if op = 1 then bitsOf v 16 6 else 0) else s1
  | .anlRate => if (evInfo i).isSome then s.writeReg r u i v allBytes else s
  | .pwrModeCtrl => (s.modeRequest (bitsOf v 0 3)).2
  | .pwrLimitCtrl => s.limitWrite v
  | .mlgVf => s.vfWrite u i v
  | .kprWdt => s.kprWdtWrite v allBytes
  | .curCtrl => s.curCtrlWrite v allBytes
  | .curXip => s.curXipWrite v allBytes
  | .hpRcCtrl => if s.rpEnabled u i then s.writeReg r u i v allBytes else s
  | .rasStatusCore | .rasStatusSlice | .rasStatusStop | .rasStatusMp | .rasStatusAx | .rasStatusHp | .rasStatusDe | .rasStatusSvc =>
    let s1 := s.writeReg r u i v allBytes
    let p := r.place
    let m := s1.getF (F.rasValid_valid p) u 0
    s1.setF (F.rasValid_valid p) u 0 (if s1.isF (F.rasStatus_v p) u i then Nat.lor m (2 ^ i) else Nat.land m (2 ^ 63 - 1 - 2 ^ i))
  | _ => s.writeReg r u i v allBytes

/-- A write of a register by an issuer, carrying the bits of `en`: the rows that have their own commands, then the registers that worlds other than WID 0 may
write, then those of WID 0 alone. -/
def State.regWrite (s : State) (w : Issuer) (r : RegName) (u i : Nat) (data en : Word) : Host.Outcome State Fault Refusal :=
  let v := s.fill r u i data en
  let wid := s.issuerWid w
  let z2 : Bool := wid == 0 || wid == 2
  let may (b : Bool) (f : State → State) : Host.Outcome State Fault Refusal := s.guardedAt w r.place u b f
  match r with
  | .coreMtime => execCoreMtimeWrite w v s
  | .coreMtimecmp => execCoreMtimecmpWrite w (BitVec.ofNat 8 i) v s
  | .coreSpecCtrl => execCoreSpecCtrlWrite w (Fin.ofNat 272 u) v s
  | .corePfCtrl => may (s.coreCtrlMay w u) (fun s => s.writeReg r u i v allBytes)
  | .coreMemattr => execCoreMemattrWrite w (Fin.ofNat 16 i) false v s
  | .coreMemattrLim => execCoreMemattrWrite w (Fin.ofNat 16 i) true v s
  | .llcShelf => execLlcShelfWrite w (Fin.ofNat 16 i) v s
  | .llcWidClass => execLlcWidClassWrite w (Fin.ofNat 4 i) v s
  | .llcShelfCtrl => execLlcShelfCtrlWrite w v s
  | .coreHoldCtrl | .dirRetryCtrl => s.broadcast w (fun s => s.writeReg r u i v allBytes)
  | .wldRegion => s.broadcast w (fun s => s.regionWrite false i v)
  | .wldRegionLim => s.broadcast w (fun s => s.regionWrite true i v)
  | .niRouteA => execNiRouteWrite w (Fin.ofNat 160 u) false (BitVec.ofNat 8 i) v s
  | .niRouteB => execNiRouteWrite w (Fin.ofNat 160 u) true (BitVec.ofNat 8 i) v s
  | .rtMeterLane | .rtMeterWheel | .niMeterWids => execMeterStagingWrite w (BitVec.ofNat 52 (regAddr r u i)) v s
  | .rtSpare => execRtSpareWrite w (Fin.ofNat 160 u) (Fin.ofNat 8 i) v s
  | .axgGrant => execAxgGrantWrite w (Fin.ofNat 6 u) (Fin.ofNat 16 i) v s
  | .axgWin | .axgWinLim | .axgMmio | .axgMmioLim => execAxgWindowStagingWrite w (BitVec.ofNat 52 (regAddr r u i)) v s
  | .axgFence => may false id
  | .mpLaneRetire => execMpLaneRetireWrite w (Fin.ofNat 12 u) v s
  | .mlgWayRetire => execMlgWayRetireWrite w (Fin.ofNat 136 u) v s
  | .wldDeedTable => execDeedTableEnable w v s
  | .wldGpioWid => execWldGpioWidWrite w (Fin.ofNat 4 i) v s
  | .wldDebugInv => execWldDebugInvWrite w v s
  | .wldDebugNoninv => execWldDebugNoninvWrite w v s
  | .wldDeedArg => may (wid == i) (fun s => s.writeReg r u i v allBytes)
  | .wldDeedCmd => s.deedCommand w i (bitsOf v 0 4) (bitsOf v 4 6) (bitsOf v 10 8)
  | .wldDeedStatus => may (wid == i) id
  | .wldSlipBell => execSlipBell w (BitVec.ofNat 6 i) v s
  | .kprDebugConsent => may (wid != 1) (fun s => s.consentWrite wid v en)
  | .hpPortCfg => execHpPortEnable w (Fin.ofNat 2 u) v s
  | .hpRcCtrl =>
    if v.getLsbD 9 then execFreeze w (Fin.ofNat 2 u) (Fin.ofNat 4 i) v s
    else if v.getLsbD 8 then execReleaseFreeze w (Fin.ofNat 2 u) (Fin.ofNat 4 i) v s
    else may (wid == 0) (fun s => s.zeroWrite r u i v)
  | .hpViAper => execHpViAperWrite w (Fin.ofNat 62 i) v s
  | .hpTqTail => execHpTqTailWrite w (Fin.ofNat 64 i) v s
  | .hpTqCplHead => may (s.queueMay i wid) (fun s => s.cplHeadWrite (tqRing i) v)
  | .hpTqRing => may (s.queueMay i wid) (fun s => s.ringWrite (tqRing i) false v)
  | .hpTqCpl => may (s.queueMay i wid) (fun s => s.ringWrite (tqRing i) true v)
  | .hpTqCtrl => may (s.queueMay i wid) (fun s => if v.getLsbD 0 then s.tqReset i else s)
  | .hpTqStatus => may (s.queueMay i wid) (fun s => s.writeReg r u i v allBytes)
  | .deChCfg => execDeChCfgWrite w (Fin.ofNat 2 u) (Fin.ofNat 32 i) v s
  | .deChTail => execDeChTailWrite w (Fin.ofNat 2 u) (Fin.ofNat 32 i) v s
  | .deChCplHead => execDeChCplHeadWrite w (Fin.ofNat 2 u) (Fin.ofNat 32 i) v s
  | .deChRing => execDeChRingWrite w (Fin.ofNat 2 u) (Fin.ofNat 32 i) false v s
  | .deChCpl => execDeChRingWrite w (Fin.ofNat 2 u) (Fin.ofNat 32 i) true v s
  | .deChCtrl => if v.getLsbD 0 then execChannelReset w (Fin.ofNat 2 u) (Fin.ofNat 32 i) s else may (s.chanMay w u i) id
  | .deChStatus | .deChMsi | .deChAlive => may (s.chanMay w u i) (fun s => s.writeReg r u i v allBytes)
  | .deScanCfg => execDeScanCfgWrite w (Fin.ofNat 2 u) (Fin.ofNat 16 i) 0 v s
  | .deScanStart => execDeScanCfgWrite w (Fin.ofNat 2 u) (Fin.ofNat 16 i) 1 v s
  | .deScanLen => execDeScanCfgWrite w (Fin.ofNat 2 u) (Fin.ofNat 16 i) 2 v s
  | .deScanPeriod => execDeScanCfgWrite w (Fin.ofNat 2 u) (Fin.ofNat 16 i) 3 v s
  | .deScanExpect => execDeScanCfgWrite w (Fin.ofNat 2 u) (Fin.ofNat 16 i) 4 v s
  | .pwrDomReq =>
    if bitsOf v 9 2 = 3 then may (wid == 0) id
    else s.domWrite w (BitVec.ofNat 9 (bitsOf v 0 9)) { action := bitsOf v 9 2, wid := bitsOf v 16 6, timerUs := bitsOf v 32 17 }
  | .anlCalSet => execCalendarSet w v s
  | .pmuCtlStop | .pmuCtlSlice | .pmuCtlMp | .pmuCtlAx =>
    may z2 (fun s => (s.writeReg r u i v allBytes).setF (F.pmuCtl_programmer r.place) u i wid)
  | .pmuCntStop | .pmuCntSlice | .pmuCntMp | .pmuCntAx | .pmuAddrBaseStop | .pmuAddrBaseSlice | .pmuAddrBaseMp | .pmuAddrBaseAx
  | .pmuAddrLimStop | .pmuAddrLimSlice | .pmuAddrLimMp | .pmuAddrLimAx => may z2 (fun s => s.writeReg r u i v allBytes)
  | .pmuBlockCtrlStop | .pmuBlockCtrlSlice | .pmuBlockCtrlMp | .pmuBlockCtrlAx => may z2 (fun s => s.pmuBlockWrite r.place u v)
  | .pmuFolioCtrl | .pmuFolioBuf | .pmuFolioRing => may z2 (fun s => s.folioWrite r wid v allBytes)
  | .pmuFolioStatus => may z2 (fun s => s.writeReg r u i v allBytes)
  | .mlgVf => if s.regReach r u then s.guarded w (r.place.stopOf u) (wid == 0) (fun s => s.zeroWrite r u i v)
    else ok (s.refuse w (r.place.stopOf u) true Err.targetDead)
  | .mlgCoreStatus | .mlgCoreLife => if s.regReach r u then s.guarded w (r.place.stopOf u) (wid == 0) (fun s =>
      if r == .mlgCoreStatus then s.coreStatusWrite u v else s.writeReg r u i v allBytes)
    else ok (s.refuse w (r.place.stopOf u) true Err.targetDead)
  | _ => may (wid == 0) (fun s => s.zeroWrite r u i v)

/-- The byte order of seteipnum_be. -/
def swap32 (v : Nat) : Nat := v % 256 * 2 ^ 24 + v / 2 ^ 8 % 256 * 2 ^ 16 + v / 2 ^ 16 % 256 * 2 ^ 8 + v / 2 ^ 24 % 256

/-- A write of an interrupt file's seteipnum_le or _be: an identity above 255 is not implemented and is ignored (R34, R46). -/
def State.fileWrite (s : State) (w : Issuer) (h file v : Nat) : Host.Outcome State Fault Refusal :=
  execImsicSeteipnumWrite w (BitVec.ofNat 8 h) (Fin.ofNat 8 (file - 1)) (file == 0) (BitVec.ofNat 8 (if v < 256 then v else 0)) none s

/-- A write of control space by an issuer: 4 or 8 bytes (R8, R28, R292). In M1 and M2 a write to a core's range or an interrupt file is held (R450). (DESIGN CHOICE, assumption 137.) -/
def State.ctlWrite (s : State) (w0 : Issuer) (pa size : Nat) (data : Word) : Host.Outcome State Fault Refusal :=
  let w : Issuer := { w0 with pa := BitVec.ofNat 52 pa }
  let st := if pa < controlBase then 0 else (pa - controlBase) / 0x400000 % 256
  if !ctlForm pa size then ok (s.refuse w st true Err.format)
  else
    let sh := 8 * (pa % 8)
    let en : Word := if size = 8 then allBytes else 0xFFFFFFFF#64 <<< sh
    let d : Word := if size = 8 then data else (data &&& 0xFFFFFFFF) <<< sh
    match s.ctlTarget pa with
    | .none => ok (s.refuse w st true Err.address)
    | .file h f off =>
      if off = 4 then s.fileWrite w h f (swap32 (data.toNat % 2 ^ 32)) else s.fileWrite w h f (data.toNat % 2 ^ 32)
    | .aplic child off =>
      let wid := s.issuerWid w
      let r := (s.aplicWrite wid child off (data.toNat % 2 ^ 32)).bind (fun (s : State) =>
        if size = 8 then s.aplicWrite wid child (off + 4) (data.toNat / 2 ^ 32) else some s)
      (match r with
      | some s1 => ok (s1.accept w svcStop)
      | none => ok (s.refuse w svcStop true Err.permission))
    | .reg r u i =>
      if s.holds ∧ r.place = .core then ok (s.holdWrite w (.reg (s.issuerWid w) pa d en))
      else s.regWrite w r u i d en
    | .blank r u i =>
      if !s.regReach r u then ok (s.refuse w st true Err.targetDead)
      else s.guarded w st (if r == .deChRing then s.chanMay w u i else s.queueMay i (s.issuerWid w)) id

/-- REGISTER_WRITE (R7 to R12). -/
def execRegisterWrite (w : Issuer) (pa : BitVec 52) (size : Nat) (data : Word) (s : State) : Host.Outcome State Fault Refusal :=
  s.ctlWrite w pa.toNat size data

/-- The state that an outcome leaves. -/
def State.after (s : State) (o : Host.Outcome State Fault Refusal) : State :=
  match o with
  | .next s' => s'
  | _ => s

/-- A write that the service complex's own engines and the debug module make and wait for: the error code, or none when it is performed. The answer's packet, which
never leaves the stop, carries the tag 0xFFF. -/
def State.ctlWriteNow (s : State) (wid pa size : Nat) (data : Word) : Option Nat × State :=
  let w : Issuer := { wid := BitVec.ofNat 6 wid, stop := 79, ep := 3, tag := 0xFFF }
  let n := s.outq.length
  let s1 := s.after (s.ctlWrite w pa size data)
  let mine (p : Packet) : Bool := p.dst == 79 && p.tag == 0xFFF
  let e := ((s1.outq.drop n).find? (fun p => mine p && p.opcode == Opc.errResp)).map (·.errCode)
  (e, { s1 with outq := s1.outq.take n ++ (s1.outq.drop n).filter (fun p => !mine p) })

/-! ### Reads and writes that arrive as packets -/

/-- The issuer of a packet's access. -/
def Packet.issuer (p : Packet) : Issuer := { wid := p.wid, stop := p.src, ep := p.endpoint, tag := p.tag }

/-- An IORead of a register (R8, R208, R292): a fence probe reaches AXG_FENCE by its own command. -/
def State.regRead (s : State) (p : Packet) : State :=
  let pa := p.sec * 64 + p.ioOffset
  let n := 2 ^ p.ioSize
  match s.ctlRead p.widN pa n with
  | .val v => s.send { answer p p.dstN Opc.ioData 0 with payload := sectorAt v p.ioOffset n }
  | .err c => (if c = Err.permission then s.refusedReg p.dstN p.widN pa else s).send (errAnswer p p.dstN c Origin.register)

/-- Whether a packet's access is inside control space, or inside PCIe space of a port. -/
def Packet.ioRegion (p : Packet) : Region := region (p.sec * 64 + p.ioOffset)

/-- What an IORead does at its target (R208). -/
def State.ioRead (s : State) (p : Packet) : State :=
  if p.ioSize = 7 ∨ p.ioOffset % 2 ^ p.ioSize ≠ 0 then
    s.send (errAnswer p p.dstN Err.format (if p.ioRegion = .control then Origin.register else if (stopHp p.dstN).isSome then Origin.hostPort else Origin.gate))
  else match p.ioRegion, stopHp p.dstN, stopAx p.dstN with
    | .pcie _, some k, _ => if s.domain (426 + k) = 2 then s.hpRead k p else s.hpErr k p Err.targetDead
    | .annexMmio _, _, some k => s.gateMmio k p
    | _, _, _ => s.regRead p

/-- IO_READ (R208): a register block, a host port or a gate receives an IORead. -/
def execIoRead (p : Packet) (s : State) : Host.Outcome State Fault Refusal := ok (s.receive p (fun s => s.ioRead p))

/-- What an IOWrite does at its target: the target pulls the data; a request that breaks the form of R208 is answered at once. -/
def State.ioWrite (s : State) (p : Packet) : State :=
  if p.ioSize = 7 ∨ p.ioOffset % 2 ^ p.ioSize ≠ 0 then
    s.send (errAnswer p p.dstN Err.format (if p.ioRegion = .control then Origin.register else if (stopHp p.dstN).isSome then Origin.hostPort else Origin.gate))
  else match p.ioRegion, stopAx p.dstN with
    | .annexMmio _, some k => s.gateMmio k p
    | _, _ => { s.send (answer p p.dstN Opc.dataPull 0) with ioWrites := s.ioWrites ++ [p] }

/-- IO_WRITE (R208). (DEDUCED, assumption 15.) -/
def execIoWrite (p : Packet) (s : State) : Host.Outcome State Fault Refusal := ok (s.receive p (fun s => s.ioWrite p))

/-- The data of an IOWrite that a register block or a host port has pulled: the write is performed and answered (R208, R357). -/
def State.ioWriteData (s : State) (x : Packet) (d : Sector) (po : Bool) : State :=
  let s1 : State := { s with ioWrites := s.ioWrites.erase x }
  match x.ioRegion, stopHp x.dstN with
  | .pcie _, some k => if s1.domain (426 + k) = 2 then s1.hpWrite k x d po else s1.hpErr k x Err.targetDead
  | _, _ => s1.after (s1.ctlWrite x.issuer (x.sec * 64 + x.ioOffset) (2 ^ x.ioSize) (w64 (sectorBytes d x.ioOffset (2 ^ x.ioSize))))

/-- Write data at whatever pulled it: an IOWrite's target, a home (R127, R128, R131) or a gate (R235). -/
def State.writeDataArrive (s : State) (p : Packet) (d : Sector) (m : BitVec 64) (po : Bool) (aop : Nat) : State :=
  match s.ioWrites.find? (fun x => x.src == p.src && x.tag == p.tag && x.dst == p.dst) with
  | some x => s.ioWriteData x d po
  | none =>
    match s.homeWriteData p d m po aop with
    | some s1 => s1
    | none =>
      match stopAx p.dstN with
      | some k => s.gateWriteData k p
      | none => s

/-- WRITE_DATA (R127): a full sector. -/
def execWriteData (p : Packet) (s : State) : Host.Outcome State Fault Refusal :=
  ok (s.receive p (fun s => s.writeDataArrive p p.payload fullMask p.poison 0))

/-- WRITE_DATA_MASKED (R215): a sector under a mask, or an atomic operation. -/
def execWriteDataMasked (p : Packet) (s : State) : Host.Outcome State Fault Refusal :=
  ok (s.receive p (fun s => s.writeDataArrive p p.payload2 p.mask p.poison2 p.aop))

/-! ### The debug module's system bus (R321) -/

/-- An access of 1 to 8 bytes by a world to any address: control space, or memory coherently. -/
def State.busRead (s : State) (wid pa size : Nat) : CtlAns × State :=
  match region pa with
  | .control => (s.ctlRead wid pa size, s)
  | .local | .depo _ =>
    if 8 < size ∨ size = 0 ∨ pa % size ≠ 0 then (.err Err.format, s)
    else
      let r := s.cohRead wid (pa / 64)
      (match r.1 with
      | .err c _ => (.err c, r.2)
      | .data _ true => (.err Err.targetDead, r.2)
      | .done => (.val 0, r.2)
      | .data d false => (.val (sectorBytes d (pa % 64) size), r.2))
  | _ => (.err Err.address, s)

/-- A write of the same kind: the error code, or none. -/
def State.busWrite (s : State) (wid pa size v : Nat) : Option Nat × State :=
  match region pa with
  | .control => s.ctlWriteNow wid pa size (w64 v)
  | .local | .depo _ =>
    if 8 < size ∨ size = 0 ∨ pa % size ≠ 0 then (some Err.format, s)
    else
      let r := s.cohWrite wid (pa / 64) (sectorAt v (pa % 64) size) (spanMask (pa % 64) size) false
      (r.1.map (·.1), r.2)
  | _ => (some Err.address, s)

/-- An access of the debug module to PCIe space or annex MMIO, in the fabric. -/
def State.dmRequest (s : State) (wid pa size : Nat) (write : Bool) (v : Nat) : State :=
  let r := s.request dbgStop
    { pkt := { opcode := if write then Opc.ioWrite else Opc.ioRead, wid := BitVec.ofNat 6 wid, dst := BitVec.ofNat 8 (ioStop pa), address := BitVec.ofNat 46 (pa / 64),
               attr := ioAttr (pa % 64) (sizeLog size) false },
      ep := 0, purp := .io, data := sectorAt v (pa % 64) size, mask := spanMask (pa % 64) size }
  { r.2 with dm := { r.2.dm with busy := some r.1 } }

/-- What a system bus access does: 1, 2, 4 or 8 bytes with a world, refused unless invasive debug is enabled for it. -/
def State.busAccess (s : State) (wid a : Nat) (write : Bool) (size v : Nat) : State :=
  if !s.invasive wid then { s with dm := { s.dm with err := Err.permission } }
  else if (size ≠ 1 ∧ size ≠ 2 ∧ size ≠ 4 ∧ size ≠ 8) ∨ a % size ≠ 0 then { s with dm := { s.dm with err := Err.format } }
  else match region a with
    | .pcie _ | .annexMmio _ => s.dmRequest wid a size write (v % 2 ^ (8 * size))
    | _ =>
      if write then
        (let r := s.busWrite wid a size (v % 2 ^ (8 * size))
         { r.2 with dm := { r.2.dm with err := r.1.getD 0 } })
      else
        (let r := s.busRead wid a size
         match r.1 with
         | .val d => { r.2 with dm := { r.2.dm with data := w64 d, err := 0 } }
         | .err c => { r.2 with dm := { r.2.dm with err := c } })

/-- DEBUG_SYSTEM_BUS_ACCESS (R321): with the seat WID of the selected hart; one access at a time. (DEDUCED, assumption 37.) (PRESUMED, assumption 38.) -/
def execDebugSystemBusAccess (h : BitVec 8) (pa : BitVec 52) (write : Bool) (size : Nat) (v : Word) (s : State) : Host.Outcome State Fault Refusal :=
  let cmd := Instr.debugSystemBusAccess h pa write size v
  if s.dm.busy.isSome || s.works.any (fun r => r.stop == dbgStop && r.cmd != cmd) then ok s
  else ok (s.served dbgStop 0 cmd (fun s => s.busAccess (s.seat h.toNat) pa.toNat write size v.toNat))

end Sys2Proof.Machine
end

