-- ==== Sys2Proof/Machine/Inbound.lean ====
section
/-! DEFINITION. Requests that arrive over a PCIe link: the root role (R358 to R361), the endpoint role's BARs (R366, R368), and the PF's slip mailbox (R415). -/
namespace Sys2Proof.Machine

/-! ### The mailbox window (R415, R416) -/

/-- A byte of the window: call slip, return slip, the control word, the token area; any other offset reads zero. -/
def Mailbox.byte (m : Mailbox) (o : Nat) : Nat :=
  if o < 0x2000 ∨ (0x4000 ≤ o ∧ o < 0xA000) then (m.bytes.get 0 o).toNat
  else if o = 0x2000 then m.busy.toNat * 2 + m.done.toNat * 4 + m.reject.toNat * 8
  else 0

/-- GO: the slip is submitted, or the write is rejected while a slip is in hand. -/
def Mailbox.go (m : Mailbox) : Mailbox := if m.busy then { m with reject := true } else { m with busy := true }

/-- Write a byte of the window: the return slip is read-only, and the call slip and the tokens are held while BUSY. -/
def Mailbox.setByte (m : Mailbox) (o b : Nat) : Mailbox :=
  if o < 0x1000 ∨ (0x4000 ≤ o ∧ o < 0xA000) then (if m.busy then m else { m with bytes := m.bytes.set 0 o (BitVec.ofNat 8 b) })
  else if o = 0x2000 then
    let m1 := { m with done := m.done && b / 4 % 2 == 0, reject := m.reject && b / 8 % 2 == 0 }
    if b % 2 = 1 then m1.go else m1
  else m

/-- Write bytes of the window, lowest first. -/
def Mailbox.write (m : Mailbox) (o n v : Nat) : Mailbox := (List.range n).foldl (fun m i => m.setByte (o + i) (v / 256 ^ i % 256)) m

/-- PF_SLIP_GO (R415). -/
def execPfSlipGo (s : State) : Host.Outcome State Fault Refusal := ok { s with slips := { s.slips with pf := s.slips.pf.go } }

/-- PF_FLR (R415): a slip in hand completes and its return slip is discarded; DONE is cleared. The function returns to its reset configuration, and with it VF Enable. (PRESUMED, assumption 51.) -/
def execPfFlr (s : State) : Host.Outcome State Fault Refusal :=
  let m := s.slips.pf
  let s1 : State := { s with slips := { s.slips with pf := { m with done := false, discard := m.busy } } }
  ok { s1.removeAll with pf := {} }

/-! ### Common parts -/

/-- The 64-byte-aligned pieces of a range: address and length (R360). -/
def split64 : Nat → Nat → Nat → List (Nat × Nat)
  | 0, _, _ => []
  | f + 1, a, n => if n = 0 then [] else
    let k := min n (64 - a % 64)
    (a, k) :: split64 f (a + k) (n - k)

/-- A fabric error as a completion status (R359). -/
def cplOf (code : Nat) : CplStatus := if code = Err.address ∨ code = Err.targetDead then .ur else .ca

/-- The completion of an inbound request. -/
def inCpl (t : InTlp) (a n d : Nat) (st : CplStatus) (po : Bool) : Tlp :=
  { kind := .completion, rid := t.rid.toNat, tag := t.tag.toNat, addr := a, len := n, data := d, status := st, poison := po }

/-- An inbound request is refused and recorded (R359, R496). -/
def State.inRefused (s : State) (k wid : Nat) (t : InTlp) : State :=
  s.record Ev.hpInboundRefused (srcHp k wid) (w64 t.addr.toNat) (w64 t.rid.toNat)

/-- A read of memory by a world: completions of 64-byte pieces in address order; an error ends the request (R359, R360). -/
def State.inMemRead (s : State) (k wid pa : Nat) (t : InTlp) : State :=
  ((split64 130 pa t.len.toNat).foldl (fun (e : Bool × State) (q : Nat × Nat) =>
    if e.1 then e
    else if 0xD < q.1 / 2 ^ 48 then (true, (e.2.tlp k (inCpl t q.1 0 0 .ur false)).inRefused k wid t)
    else
      let r := e.2.cohRead wid (q.1 / 64)
      match r.1 with
      | .err c _ => (true, (r.2.tlp k (inCpl t q.1 0 0 (cplOf c) false)).inRefused k wid t)
      | .data d p => (false, r.2.tlp k (inCpl t q.1 q.2 (sectorBytes d (q.1 % 64) q.2) .ok p))
      | .done => (true, r.2)) (false, s)).2

/-- A write of memory by a world: each sector is checked, and a refused one is dropped and recorded (R358, R359). -/
def State.inMemWrite (s : State) (k wid pa : Nat) (t : InTlp) (d : Nat) : State :=
  (split64 130 pa t.len.toNat).foldl (fun (s : State) (q : Nat × Nat) =>
    if 0xD < q.1 / 2 ^ 48 then s.inRefused k wid t
    else
      let r := s.cohWrite wid (q.1 / 64) (sectorAt (d / 2 ^ (8 * (q.1 - pa))) (q.1 % 64) q.2) (spanMask (q.1 % 64) q.2) t.poison
      match r.1 with
      | some _ => r.2.inRefused k wid t
      | none => r.2) s

/-! ### The root role -/

/-- The world of an inbound request (R358). -/
def State.inWid (s : State) (k rid : Nat) : Nat :=
  match (List.range 32).find? (fun n => s.isF F.hpRidWid_valid k n && decide (s.getF F.hpRidWid_ridBase k n ≤ rid) && decide (rid ≤ s.getF F.hpRidWid_ridLimit k n)) with
  | some n => s.getF F.hpRidWid_wid k n
  | none => s.getF F.hpPortCfg_defaultWid k 0

/-- Whether a link carries inbound traffic: it is up and its root port is not frozen (R363). Conservation holds a root link's inbound packets and a Survey those of every
link, by withholding credits (R448, R469). (DEDUCED, assumption 111.) -/
def State.inLive (s : State) (k j : Nat) : Bool :=
  s.domain (426 + k) == 2 && s.mode != 6 && (s.endpoint k || s.mode != 2) && (if s.endpoint k then s.isF F.hpPortStatus_epLinkUp 0 0 else s.isF F.hpRcStatus_dlActive k j && !s.frozenRp k j)

/-- Whether an address is in segments 0x0 to 0xD. -/
def inMemory (a : Nat) : Bool := decide (a < 0xE * 2 ^ 48)

/-- A write to an interrupt-file page: 4 bytes, under R47 (R358). Poisoned data is dropped. -/
def State.inMsi (s : State) (k wid : Nat) (t : InTlp) (d : Nat) : State :=
  match s.ctlTarget t.addr.toNat with
  | .file _ _ _ =>
    if t.len ≠ 4 ∨ t.addr.toNat % 4 ≠ 0 ∨ t.poison = true then s.inRefused k wid t
    else
      let r := s.ctlWriteNow wid t.addr.toNat 4 (w64 (d % 2 ^ 32))
      (match r.1 with
      | some _ => r.2.inRefused k wid t
      | none => r.2)
  | _ => s.inRefused k wid t

/-! ### The endpoint role -/

/-- The page of control space that an offset of VF BAR0 shows: a channel slot's or a queue slot's (R368). -/
def State.bar0Page (s : State) (i o : Nat) : Option Nat :=
  let k := o / 0x1000
  if 1 ≤ k ∧ k ≤ 4 then
    (if s.getF F.hpViCfg_chValid 0 i / 2 ^ (k - 1) % 2 = 1 then
      (let g := s.getF (F.hpViCfg_ch (k - 1)) 0 i
       some (regAddr .deChRing (g / 32) (g % 32) + o % 0x1000)) else none)
  else if 5 ≤ k ∧ k ≤ 8 then
    (if s.getF F.hpViCfg_tqValid 0 i / 2 ^ (k - 5) % 2 = 1 then some (regAddr .hpTqRing 0 (s.getF (F.hpViCfg_tq (k - 5)) 0 i) + o % 0x1000) else none)
  else none

/-- The MSI-X table as bytes: address, data and mask of each vector; and the pending bits (R368, R372). -/
def Vf.table (f : Vf) (o : Nat) : Nat :=
  let v := o / 16
  if 8 ≤ v then 0
  else
    let w := (f.vecAddr.get 0 v).toNat + (f.vecData.get 0 v).toNat % 2 ^ 32 * 2 ^ 64 + (f.vecMask.getLsbD v).toNat * 2 ^ 96
    w / 2 ^ (8 * (o % 16))

/-- A dword of the MSI-X table written. -/
def Vf.setTable (f : Vf) (o d : Nat) : Vf :=
  let v := o / 16
  if 8 ≤ v then f
  else match o / 4 % 4 with
    | 0 => { f with vecAddr := f.vecAddr.set 0 v (putBits (f.vecAddr.get 0 v) 0 32 d) }
    | 1 => { f with vecAddr := f.vecAddr.set 0 v (putBits (f.vecAddr.get 0 v) 32 32 d) }
    | 2 => { f with vecData := f.vecData.set 0 v (w64 (d % 2 ^ 32)) }
    | _ => { f with vecMask := if d % 2 = 1 then f.vecMask ||| (1#8 <<< v) else f.vecMask &&& ~~~(1#8 <<< v) }

/-- A read of VF BAR0, 4 or 8 bytes: a value, or a refusal (R368). -/
def State.bar0Read (s : State) (i o n : Nat) : CtlAns :=
  let wid := s.getF F.hpViCfg_wid 0 i
  if o < 0x1000 then .val ((if o < 8 then (s.readReg .hpViCfg 0 i).toNat / 2 ^ (8 * o) else 0) % 2 ^ (8 * n))
  else if o < 0x9000 then
    (match s.bar0Page i o with
    | some pa => s.ctlRead wid pa n
    | none => .val 0)
  else if 0xE000 ≤ o ∧ o < 0xF000 then .val ((s.vf i).table (o - 0xE000) % 2 ^ (8 * n))
  else if 0xF000 ≤ o ∧ o < 0xF008 then .val ((s.vf i).pend.toNat / 2 ^ (8 * (o - 0xF000)) % 2 ^ (8 * n))
  else .val 0

/-- A write of VF BAR0 (R368, R372): an error code where the page refuses it. -/
def State.bar0Write (s : State) (i o n d : Nat) : Option Nat × State :=
  if o < 0x1000 then (none, s)
  else if o < 0x9000 then
    (match s.bar0Page i o with
    | some pa => s.ctlWriteNow (s.getF F.hpViCfg_wid 0 i) pa n (w64 d)
    | none => (none, s))
  else if 0xE000 ≤ o ∧ o < 0xF000 ∧ o % 4 = 0 then
    (let f := (List.range (n / 4)).foldl (fun (f : Vf) j => f.setTable (o - 0xE000 + 4 * j) (d / 2 ^ (32 * j) % 2 ^ 32)) (s.vf i)
     (none, (s.setVf i f).vfPump i))
  else (none, s)

/-- A configuration write of a function's control (R372 to R375): 0 MSI-X enable and function mask, 1 ATS enable, 2 Interrupt Disable, 3 VF Enable, 4 to 6 the PF's vector. -/
def State.cfgWrite (s : State) (i o d : Nat) : State :=
  if i = 0 then
    match o with
    | 0 => State.pfPump { s with pf := { s.pf with msixEn := d % 2 == 1, msixMask := d / 2 % 2 == 1 } }
    | 2 => State.pfPump { s with pf := { s.pf with intDis := d % 2 == 1 } }
    | 3 => if d % 2 = 1 then { s with pf := { s.pf with vfEnable := true } } else s.removeAll
    | 4 => { s with pf := { s.pf with vecAddr := w64 d } }
    | 5 => { s with pf := { s.pf with vecData := w64 (d % 2 ^ 32) } }
    | 6 => State.pfPump { s with pf := { s.pf with vecMask := d % 2 == 1 } }
    | _ => s
  else if s.resetting i then s
  else
    match o with
    | 0 => (s.setVf i { s.vf i with msixEn := d % 2 == 1, msixMask := d / 2 % 2 == 1 }).vfPump i
    | 1 => s.setVf i { s.vf i with ats := d % 2 == 1 }
    | _ => s

/-- Whether a VF's BARs answer: VF Enable is set, its instance exists and is not in reset (R367, R375). -/
def State.vfLive (s : State) (i : Nat) : Bool := s.pf.vfEnable && s.created i && !s.resetting i && decide (i ≤ s.getF F.hpEpCfg_totalVfs 0 0)

/-- The physical address of an aperture offset, where the aperture is valid and the offset lies in the BAR (R368). -/
def State.aperture (s : State) (i o : Nat) : Option Nat :=
  if s.isF F.hpViAper_valid 0 i ∧ o < 2 ^ (24 + s.getF F.hpEpCfg_vfBar2Log 0 0) then some (s.getF F.hpViAper_base 0 i * 65536 + o) else none

/-- An unsupported request: a completion for a read, nothing for a write; recorded. -/
def State.inUr (s : State) (k wid : Nat) (t : InTlp) (read : Bool) : State :=
  (if read then s.tlp k (inCpl t t.addr.toNat 0 0 .ur false) else s).inRefused k wid t

/-- A read in the endpoint role. -/
def State.epRead (s : State) (t : InTlp) : State :=
  let o := t.addr.toNat
  let n := t.len.toNat
  match t.target with
  | some .pfBar0 =>
    let v := ofBytes ((List.range n).map (fun j => s.slips.pf.byte (o + j)))
    s.tlp 0 (inCpl t o n v .ok false)
  | some (.vfBar0 i) =>
    if !s.vfLive i.val then s.inUr 0 255 t true
    else (match s.bar0Read i.val o n with
      | .val v => s.tlp 0 (inCpl t o n v .ok false)
      | .err c => (s.tlp 0 (inCpl t o 0 0 (cplOf c) false)).inRefused 0 (s.getF F.hpViCfg_wid 0 i.val) t)
  | some (.vfBar2 i) =>
    if !s.vfLive i.val then s.inUr 0 255 t true
    else (match s.aperture i.val o with
      | some pa => s.inMemRead 0 (s.getF F.hpViCfg_wid 0 i.val) pa t
      | none => s.inUr 0 (s.getF F.hpViCfg_wid 0 i.val) t true)
  | _ => s.inUr 0 255 t true

/-- A write in the endpoint role. -/
def State.epWrite (s : State) (t : InTlp) (d : Nat) : State :=
  let o := t.addr.toNat
  let n := t.len.toNat
  match t.target with
  | some .pfBar0 => if t.poison then s.inRefused 0 255 t else { s with slips := { s.slips with pf := s.slips.pf.write o n d } }
  | some (.vfBar0 i) =>
    if !s.vfLive i.val || t.poison then s.inUr 0 255 t false
    else
      let r := s.bar0Write i.val o n (d % 2 ^ (8 * n))
      (match r.1 with
      | some _ => r.2.inRefused 0 (s.getF F.hpViCfg_wid 0 i.val) t
      | none => r.2)
  | some (.vfBar2 i) =>
    if !s.vfLive i.val && s.cursor.left.isEmpty then s.inUr 0 255 t false
    else (match s.aperture i.val o with
      | some pa => s.inMemWrite 0 (s.getF F.hpViCfg_wid 0 i.val) pa t d
      | none => s.inUr 0 (s.getF F.hpViCfg_wid 0 i.val) t false)
  | some (.cfg i) => s.cfgWrite i.val o d
  | none => s.inUr 0 255 t false

/-! ### Ordering (R361) -/

/-- Whether an inbound write before it, still under way, makes an inbound request wait: of its root port, or with IDO of its requester ID (R361). -/
def turnAfter (hp : Fin 2) (rp : Fin 4) (t : InTlp) : Instr → Bool
  | .pcieInboundWrite hp' rp' t' _ => hp' == hp && (if t.ido then t'.rid == t.rid else rp' == rp)
  | _ => false

/-- Whether an inbound command's turn has not come: an earlier posted write that it must follow has not received its Comp. A write with Relaxed Ordering waits for none. -/
def State.turnHeld (s : State) (cmd : Instr) : Bool :=
  let before := s.works.takeWhile (fun r => r.cmd != cmd)
  match cmd with
  | .pcieInboundWrite hp rp t _ => !t.ro && before.any (fun r => turnAfter hp rp t r.cmd)
  | .pcieInboundRead hp rp t | .pcieInboundAtomic hp rp t _ _ _ => before.any (fun r => turnAfter hp rp t r.cmd)
  | _ => false

/-- An inbound command at its host port: it waits for its turn, and then its accesses are performed. -/
def State.inbound (s : State) (k : Nat) (cmd : Instr) (f : State → State) : State :=
  s.served (hpStop k) 0 cmd (fun s => if s.turnHeld cmd then (s.coh .turn).2 else f s)

/-! ### The commands -/

/-- What an inbound read does (R354, R358 to R361, R366 to R368). -/
def State.inRead (s : State) (k j : Nat) (t : InTlp) : State :=
  if !s.inLive k j then s
  else if t.unsupported then s.inUr k 255 t true
  else if s.endpoint k then s.epRead t
  else
    let wid := s.inWid k t.rid.toNat
    if inMemory t.addr.toNat then s.inMemRead k wid t.addr.toNat t else s.inUr k wid t true

/-- PCIE_INBOUND_READ (R354, R358 to R361, R366 to R368). -/
def execPcieInboundRead (hp : Fin 2) (rp : Fin 4) (t : InTlp) (s : State) : Host.Outcome State Fault Refusal :=
  ok (s.inbound hp.val (.pcieInboundRead hp rp t) (fun s => s.inRead hp.val rp.val t))

/-- What an inbound write does (R354, R358 to R361, R366 to R368): posted, so a refusal answers nothing. A write already passed to the fabric
completes at its homes (R363, R375). -/
def State.inWrite (s : State) (k j : Nat) (t : InTlp) (d : BitVec 4096) : State :=
  let v := d.toNat % 2 ^ (8 * t.len.toNat)
  if !s.inLive k j && s.cursor.left.isEmpty then s
  else if t.unsupported then s.inUr k 255 t true
  else if s.endpoint k then s.epWrite t v
  else
    let wid := s.inWid k t.rid.toNat
    if inMemory t.addr.toNat then s.inMemWrite k wid t.addr.toNat t v else s.inMsi k wid t v

/-- PCIE_INBOUND_WRITE (R354, R358 to R361, R366 to R368). -/
def execPcieInboundWrite (hp : Fin 2) (rp : Fin 4) (t : InTlp) (d : BitVec 4096) (s : State) : Host.Outcome State Fault Refusal :=
  ok (s.inbound hp.val (.pcieInboundWrite hp rp t d) (fun s => s.inWrite hp.val rp.val t d))

/-- What an inbound atomic does (R131, R353, R354): FetchAdd and Swap of 4 or 8 bytes in the root role; the endpoint role completes none. -/
def State.inAtomic (s : State) (k j : Nat) (t : InTlp) (swap size8 : Bool) (v : Word) : State :=
  let a := t.addr.toNat
  let n := if size8 then 8 else 4
  if !s.inLive k j then s
  else if s.endpoint k || t.unsupported then s.inUr k 255 t true
  else
    let wid := s.inWid k t.rid.toNat
    if !inMemory a || a % n != 0 then s.inUr k wid t true
    else
      let r := s.cohAtomic wid (a / 64) (if swap then 1 else 2) (a % 64) n (v.toNat % 2 ^ (8 * n))
      match r.1 with
      | .err c _ => (r.2.tlp k (inCpl t a 0 0 (cplOf c) false)).inRefused k wid t
      | .data d p => r.2.tlp k (inCpl t a n (sectorBytes d (a % 64) n) .ok p)
      | .done => r.2

/-- PCIE_INBOUND_ATOMIC (R131, R353, R354). -/
def execPcieInboundAtomic (hp : Fin 2) (rp : Fin 4) (t : InTlp) (swap size8 : Bool) (v : Word) (s : State) : Host.Outcome State Fault Refusal :=
  ok (s.inbound hp.val (.pcieInboundAtomic hp rp t swap size8 v) (fun s => s.inAtomic hp.val rp.val t swap size8 v))

end Sys2Proof.Machine
end

