-- ==== Sys2Proof/Machine/Crypto.lean ====
section
/-! DEFINITION. The algorithms that images and identity rest on (R388, R389, R395), which the spec names and does not restate: SHA-256, SHA-384 and SHA-512 (FIPS 180-4), HMAC (RFC 2104), RSASSA-PSS
verification (RFC 8017) and SLH-DSA-SHA2-192s verification (FIPS 205). They are the standards' own. Messages are lists of bytes. -/
namespace Sys2Proof.Machine

/-- A number as n bytes, most significant first, and back. -/
def beBytes (n v : Nat) : List Nat := (toBytes n v).reverse
def beNat (l : List Nat) : Nat := ofBytes l.reverse

/-! ### SHA-2 -/

/-- What tells the functions of the family apart: the word's width, the rotations of its four mixing functions, its rounds, its starting value and the words of its output. -/
structure Sha2 where
  w : Nat
  big0 : List Nat
  big1 : List Nat
  small0 : List Nat
  small1 : List Nat
  rounds : Nat
  init : List Nat
  out : Nat
  deriving DecidableEq, Repr

/-- The round constants of SHA-512; SHA-256 takes the upper halves of the first 64. -/
def sha512K : List Nat :=
  [0x428A2F98D728AE22, 0x7137449123EF65CD, 0xB5C0FBCFEC4D3B2F, 0xE9B5DBA58189DBBC, 0x3956C25BF348B538,
   0x59F111F1B605D019, 0x923F82A4AF194F9B, 0xAB1C5ED5DA6D8118, 0xD807AA98A3030242, 0x12835B0145706FBE,
   0x243185BE4EE4B28C, 0x550C7DC3D5FFB4E2, 0x72BE5D74F27B896F, 0x80DEB1FE3B1696B1, 0x9BDC06A725C71235,
   0xC19BF174CF692694, 0xE49B69C19EF14AD2, 0xEFBE4786384F25E3, 0x0FC19DC68B8CD5B5, 0x240CA1CC77AC9C65] ++
  [0x2DE92C6F592B0275, 0x4A7484AA6EA6E483, 0x5CB0A9DCBD41FBD4, 0x76F988DA831153B5, 0x983E5152EE66DFAB,
   0xA831C66D2DB43210, 0xB00327C898FB213F, 0xBF597FC7BEEF0EE4, 0xC6E00BF33DA88FC2, 0xD5A79147930AA725,
   0x06CA6351E003826F, 0x142929670A0E6E70, 0x27B70A8546D22FFC, 0x2E1B21385C26C926, 0x4D2C6DFC5AC42AED,
   0x53380D139D95B3DF, 0x650A73548BAF63DE, 0x766A0ABB3C77B2A8, 0x81C2C92E47EDAEE6, 0x92722C851482353B] ++
  [0xA2BFE8A14CF10364, 0xA81A664BBC423001, 0xC24B8B70D0F89791, 0xC76C51A30654BE30, 0xD192E819D6EF5218,
   0xD69906245565A910, 0xF40E35855771202A, 0x106AA07032BBD1B8, 0x19A4C116B8D2D0C8, 0x1E376C085141AB53,
   0x2748774CDF8EEB99, 0x34B0BCB5E19B48A8, 0x391C0CB3C5C95A63, 0x4ED8AA4AE3418ACB, 0x5B9CCA4F7763E373,
   0x682E6FF3D6B2B8A3, 0x748F82EE5DEFB2FC, 0x78A5636F43172F60, 0x84C87814A1F0AB72, 0x8CC702081A6439EC] ++
  [0x90BEFFFA23631E28, 0xA4506CEBDE82BDE9, 0xBEF9A3F7B2C67915, 0xC67178F2E372532B, 0xCA273ECEEA26619C,
   0xD186B8C721C0C207, 0xEADA7DD6CDE0EB1E, 0xF57D4F7FEE6ED178, 0x06F067AA72176FBA, 0x0A637DC5A2C898A6,
   0x113F9804BEF90DAE, 0x1B710B35131C471B, 0x28DB77F523047D84, 0x32CAAB7B40C72493, 0x3C9EBE0A15C9BEBC,
   0x431D67C49C100D4C, 0x4CC5D4BECB3E42B6, 0x597F299CFC657E2A, 0x5FCB6FAB3AD6FAEC, 0x6C44198C4A475817]

def sha512Init : List Nat :=
  [0x6A09E667F3BCC908, 0xBB67AE8584CAA73B, 0x3C6EF372FE94F82B, 0xA54FF53A5F1D36F1,
   0x510E527FADE682D1, 0x9B05688C2B3E6C1F, 0x1F83D9ABFB41BD6B, 0x5BE0CD19137E2179]
def sha384Init : List Nat :=
  [0xCBBB9D5DC1059ED8, 0x629A292A367CD507, 0x9159015A3070DD17, 0x152FECD8F70E5939,
   0x67332667FFC00B31, 0x8EB44A8768581511, 0xDB0C2E0D64F98FA7, 0x47B5481DBEFA4FA4]

def sha512Of (init : List Nat) (out : Nat) : Sha2 :=
  { w := 64, big0 := [28, 34, 39], big1 := [14, 18, 41], small0 := [1, 8, 7], small1 := [19, 61, 6], rounds := 80, init := init, out := out }
def sha256Of : Sha2 :=
  { w := 32, big0 := [2, 13, 22], big1 := [6, 11, 25], small0 := [7, 18, 3], small1 := [17, 19, 10], rounds := 64, init := sha512Init.map (· / 2 ^ 32), out := 8 }

def rotr (w v n : Nat) : Nat := (v / 2 ^ n + v * 2 ^ (w - n)) % 2 ^ w

/-- A mixing function: three rotations, or with `shift` two rotations and a shift. -/
def Sha2.mix (h : Sha2) (r : List Nat) (shift : Bool) (v : Nat) : Nat :=
  let z := if shift then v / 2 ^ r.getD 2 0 else rotr h.w v (r.getD 2 0)
  xorNat (xorNat (rotr h.w v (r.getD 0 0)) (rotr h.w v (r.getD 1 0))) z

/-- The message schedule of a block, word by word, newest first. -/
def Sha2.schedule (h : Sha2) : Nat → List Nat → List Nat
  | 0, ws => ws
  | f + 1, ws =>
    Sha2.schedule h f ((h.mix h.small1 true (ws.getD 1 0) + ws.getD 6 0 + h.mix h.small0 true (ws.getD 14 0) + ws.getD 15 0) % 2 ^ h.w :: ws)

/-- One round: the working words a to h. -/
def Sha2.round (h : Sha2) (x : List Nat) (kw : Nat) : List Nat :=
  let v (i : Nat) : Nat := x.getD i 0
  let ch := xorNat (Nat.land (v 4) (v 5)) (Nat.land (2 ^ h.w - 1 - v 4) (v 6))
  let maj := xorNat (xorNat (Nat.land (v 0) (v 1)) (Nat.land (v 0) (v 2))) (Nat.land (v 1) (v 2))
  let t1 := v 7 + h.mix h.big1 false (v 4) + ch + kw
  let t2 := h.mix h.big0 false (v 0) + maj
  [(t1 + t2) % 2 ^ h.w, v 0, v 1, v 2, (v 3 + t1) % 2 ^ h.w, v 4, v 5, v 6]

/-- One block of sixteen words. -/
def Sha2.block (h : Sha2) (st : List Nat) (b : List Nat) : List Nat :=
  let n := h.w / 8
  let w0 := ((List.range 16).map (fun i => beNat ((b.drop (n * i)).take n))).reverse
  let ws := (h.schedule (h.rounds - 16) w0).reverse
  let x := (List.zipWith (fun w k => w + k / 2 ^ (64 - h.w)) ws sha512K).foldl (fun x kw => h.round x kw) st
  List.zipWith (fun a b => (a + b) % 2 ^ h.w) st x

/-- The blocks of a padded message. -/
def Sha2.blocks (h : Sha2) : Nat → List Nat → List Nat → List Nat
  | 0, st, _ => st
  | f + 1, st, l => if l.isEmpty then st else Sha2.blocks h f (h.block st (l.take (2 * h.w))) (l.drop (2 * h.w))

/-- The digest of a message. (PRESUMED, assumption 134.) -/
def Sha2.hash (h : Sha2) (m : List Nat) : List Nat :=
  let n := 2 * h.w
  let pad := m ++ 128 :: List.replicate ((2 * n - 1 - h.w / 4 - m.length % n) % n) 0 ++ beBytes (h.w / 4) (8 * m.length)
  ((h.blocks (pad.length / n) h.init pad).take h.out).flatMap (beBytes (h.w / 8))

def sha256Bytes (m : List Nat) : List Nat := sha256Of.hash m
def sha384Bytes (m : List Nat) : List Nat := (sha512Of sha384Init 6).hash m
def sha512Bytes (m : List Nat) : List Nat := (sha512Of sha512Init 8).hash m

/-- SHA-384 as the number whose little-endian bytes are the digest. -/
def sha384 (m : List Nat) : Nat := ofBytes (sha384Bytes m)

/-- HMAC-SHA-384 under a key of 48 bytes (R395). -/
def hmac384 (key : Nat) (m : List Nat) : Nat :=
  let k := toBytes 48 key ++ List.replicate 80 0
  sha384 (k.map (xorNat 0x5C) ++ sha384Bytes (k.map (xorNat 0x36) ++ m))

/-! ### RSASSA-PSS (RFC 8017) -/

/-- MGF1 over a hash of bytes: n bytes from a seed. -/
def mgf1 (hash : List Nat → List Nat) (seed : List Nat) (n : Nat) : List Nat :=
  ((List.range n).flatMap (fun i => if 32 * i < n then hash (seed ++ beBytes 4 i) else [])).take n

/-- Whether a signature over a message verifies: a 3 072-bit modulus, exponent 65 537, SHA-384, MGF1 with SHA-384, a salt of 48 bytes (R388). -/
def rsaOk (modulus sig msg : List Nat) : Bool :=
  let n := beNat modulus
  let s := beNat sig
  let em := beBytes 384 ((List.range 16).foldl (fun x _ => x * x % n) s * s % n)
  let h := (em.drop 335).take 48
  let db := List.zipWith xorNat (em.take 335) (mgf1 sha384Bytes h 335)
  let low := db.getD 0 0 % 128 :: db.drop 1
  decide (2 ^ 3071 ≤ n) && decide (s < n) && em.getD 383 0 == 0xBC && decide (em.getD 0 0 < 128)
    && (low.take 287 == List.replicate 286 0 ++ [1])
    && sha384Bytes (List.replicate 8 0 ++ sha384Bytes msg ++ low.drop 287) == h

/-! ### SLH-DSA-SHA2-192s (FIPS 205) -/

/-- A compressed address: layer, tree, type and its three words. -/
structure SlhAdrs where
  layer : Nat := 0
  tree : Nat := 0
  type : Nat
  w0 : Nat := 0
  w1 : Nat := 0
  w2 : Nat := 0
  deriving DecidableEq, Repr

def SlhAdrs.bytes (a : SlhAdrs) : List Nat := beBytes 1 a.layer ++ beBytes 8 a.tree ++ beBytes 1 a.type ++ beBytes 4 a.w0 ++ beBytes 4 a.w1 ++ beBytes 4 a.w2

/-- The hash of one string of n = 24 bytes, and of several. -/
def slhF (seed : List Nat) (a : SlhAdrs) (m : List Nat) : List Nat := (sha256Bytes (seed ++ List.replicate 40 0 ++ a.bytes ++ m)).take 24
def slhT (seed : List Nat) (a : SlhAdrs) (m : List Nat) : List Nat := (sha512Bytes (seed ++ List.replicate 104 0 ++ a.bytes ++ m)).take 24

/-- A chain of steps from place i (its address's third word counts them). -/
def slhChain (seed : List Nat) (a : SlhAdrs) (i n : Nat) (x : List Nat) : List Nat :=
  (List.range n).foldl (fun x j => slhF seed { a with w2 := i + j } x) x

/-- Climb a tree from a leaf under an authentication path: `index` is the leaf's number at the address's third word. -/
def slhClimb (seed : List Nat) (a : SlhAdrs) (index : Nat) (path : List Nat) (levels : Nat) (leaf : List Nat) : List Nat :=
  (List.range levels).foldl (fun x j =>
    let sib := (path.drop (24 * j)).take 24
    slhT seed { a with w1 := j + 1, w2 := index / 2 ^ (j + 1) } (if index / 2 ^ j % 2 = 0 then x ++ sib else sib ++ x)) leaf

/-- The digits of a message for the one-time signature: 48 of four bits, and three of their checksum. -/
def wotsDigits (m : List Nat) : List Nat :=
  let d := m.flatMap (fun b => [b / 16 % 16, b % 16])
  let c := d.foldl (fun a x => a + (15 - x)) 0
  d ++ [c / 256 % 16, c / 16 % 16, c % 16]

/-- The root that one layer's signature of a message gives: a one-time signature of 51 chains, then nine levels of the tree. -/
def xmssRoot (seed : List Nat) (layer tree index : Nat) (sig m : List Nat) : List Nat :=
  let a : SlhAdrs := { layer := layer, tree := tree, type := 0, w0 := index }
  let ends := ((wotsDigits m).zipIdx).flatMap (fun e => slhChain seed { a with w1 := e.2 } e.1 (15 - e.1) ((sig.drop (24 * e.2)).take 24))
  let leaf := slhT seed { a with type := 1, w1 := 0 } ends
  slhClimb seed { a with type := 2, w0 := 0 } index (sig.drop 1224) 9 leaf

/-- The FORS public key that a signature gives: seventeen trees of fourteen levels. -/
def forsRoot (seed : List Nat) (tree leaf : Nat) (sig : List Nat) (md : Nat) : List Nat :=
  let a : SlhAdrs := { tree := tree, type := 3, w0 := leaf }
  let roots := (List.range 17).flatMap (fun i =>
    let x := md / 2 ^ (240 - 14 * (i + 1)) % 2 ^ 14
    let part := sig.drop (360 * i)
    let index := i * 2 ^ 14 + x
    slhClimb seed a index (part.drop 24) 14 (slhF seed { a with w2 := index } (part.take 24)))
  slhT seed { a with type := 4 } roots

/-- Whether a signature over a message verifies: the pure form with an empty context string (R388). -/
def slhOk (pk sig msg : List Nat) : Bool :=
  let seed := pk.take 24
  let root := pk.drop 24
  let r := sig.take 24
  let digest := mgf1 sha512Bytes (r ++ seed ++ sha512Bytes (r ++ seed ++ root ++ [0, 0] ++ msg)) 39
  let md := beNat (digest.take 30)
  let tree := beNat ((digest.drop 30).take 7) % 2 ^ 54
  let leaf := beNat ((digest.drop 37).take 2) % 2 ^ 9
  let ht := sig.drop 6144
  let top := (List.range 7).foldl (fun m j =>
    xmssRoot seed j (tree / 2 ^ (9 * j)) (if j = 0 then leaf else tree / 2 ^ (9 * (j - 1)) % 2 ^ 9) (ht.drop (1440 * j)) m) (forsRoot seed tree leaf (sig.drop 24) md)
  sig.length == 16224 && top == root

end Sys2Proof.Machine
end

