-- ==== Sys2Proof/Machine/Curator.lean ====
section
/-! DEFINITION. The Curator (R377 to R386): its memory map, its fetch structures, its registers and flash commands, its interrupts, and the watchdogs of R403. -/
namespace Sys2Proof.Machine

/-- Whether the Curator runs (R386). -/
def State.curRuns (s : State) : Bool := s.getF F.curStatus_state 0 0 == 1

/-! ### Flash commands (R380, R381, R385) -/

/-- Whether a range lies in one partition that the boot configuration grants to the Curator (R381, R391). -/
def State.flashGranted (s : State) (a n : Nat) : Bool :=
  match s.kpr.cfg with
  | none => false
  | some c => (List.range s.kpr.dir.length).any (fun i =>
      match s.kpr.dir[i]? with
      | some e => c.flashGrant.getLsbD i && decide (e.offset ≤ a) && decide (a + n ≤ e.offset + e.length)
      | none => false)

/-- Whether a range touches an image slot that is loaded (R381). -/
def State.flashInUse (s : State) (a n : Nat) : Bool :=
  s.kpr.images.any (fun (e : Nat × Option Loaded) => match e.2 with
    | some l => decide (a < l.offset + l.length) && decide (l.offset < a + n)
    | none => false)

/-- The result of a command that ends at once. -/
def State.flashResult (s : State) (r : Nat) : State := s.setF F.curFlashStatus_result 0 0 r

/-- A write of CUR_FLASH_CMD (R381, R385): 1 programs 256 bytes from TCM, 2 erases 4 KiB, 3 erases 64 KiB. An address that is not aligned to the size is refused
as outside the grant. -/
def State.flashCmd (s : State) (op src : Nat) : State :=
  let n := if op = 1 then 256 else if op = 2 then 4096 else 65536
  let a := s.getF F.curFlashAddr_addr 0 0
  if op = 0 ∨ 3 < op then s
  else if s.isF F.curFlashStatus_busy 0 0 then s.flashResult 3
  else
    let s0 : State := { s with cur := { s.cur with flashDone := false } }
    if a % n ≠ 0 ∨ s.flashGranted a n = false then s0.flashResult 1
    else if s.flashInUse a n then s0.flashResult 2
    else
      let data := if op = 1 then (List.range 256).map (fun i => s.cur.tcm.get 0 (src * 256 % 0x20000 + i)) else []
      State.flashResult { s0.setF F.curFlashStatus_busy 0 0 1 with cur := { s0.cur with flash := some { program := op == 1, addr := a, size := n, data := data } } } 0

/-- FLASH_PROGRAM (R381). -/
def execFlashProgram (src : BitVec 9) (s : State) : Host.Outcome State Fault Refusal := ok (if s.curRuns then s.flashCmd 1 src.toNat else s)
/-- FLASH_ERASE_SECTOR (R381). -/
def execFlashEraseSector (s : State) : Host.Outcome State Fault Refusal := ok (if s.curRuns then s.flashCmd 2 0 else s)
/-- FLASH_ERASE_BLOCK (R381). -/
def execFlashEraseBlock (s : State) : Host.Outcome State Fault Refusal := ok (if s.curRuns then s.flashCmd 3 0 else s)

/-- The line buffer loses the lines that overlap a programmed or erased range (R381). -/
def State.dropLines (s : State) (a n : Nat) : State :=
  { s with cur := { s.cur with lines := s.cur.lines.filter (fun l => decide (32 * l + 32 ≤ a) || decide (a + n ≤ 32 * l)) } }

/-- FLASH_COMMAND_DONE (R380, R385): the array changes, the line buffer loses what overlaps, and the command's result is shown; `works` is false when the device
reports an error, and the range is then left as it was. -/
def execFlashCommandDone (works : Bool) (s : State) : Host.Outcome State Fault Refusal :=
  match s.cur.flash with
  | none => ok s
  | some f =>
    let s1 : State := if !works then s
      else if f.program then s.flashProgram f.addr (f.data.map (·.toNat)) else s.flashErase f.addr f.size
    let s2 := s1.dropLines f.addr f.size
    ok ((State.setF { s2 with cur := { s2.cur with flash := none, flashDone := true } } F.curFlashStatus_busy 0 0 0).flashResult (if works then 0 else 4))

/-! ### Watchdog kick and slips -/

/-- The Curator writes CUR_WDT_KICK (R385, R403). -/
def State.curKick (s : State) (key : Nat) : State := if key = 0x4B49434B then s.setF F.curStatus_warned 0 0 0 else s

/-- CUR_WDT_KICK (R385). -/
def execCurWdtKick (key : BitVec 32) (s : State) : Host.Outcome State Fault Refusal := ok (if s.curRuns then s.curKick key.toNat else s)

/-- GO of the Curator's mailbox (R414). -/
def State.curGo (s : State) : State :=
  if s.isF F.curSlipStatus_busy 0 0 then s.setF F.curSlipStatus_reject 0 0 1 else s.setF F.curSlipStatus_busy 0 0 1

/-- CURATOR_SLIP_GO (R414). -/
def execCuratorSlipGo (s : State) : Host.Outcome State Fault Refusal := ok (if s.curRuns then s.curGo else s)

/-! ### Local registers (R385, R414) -/

/-- The live levels of CUR_INT_PEND. Nothing in the spec raises source 3. (DEDUCED, assumption 67.) -/
def State.curPend (s : State) : Nat :=
  (s.isF F.curSlipStatus_done 0 0).toNat + 2 * (s.isF F.curStatus_warned 0 0).toNat + 4 * s.cur.flashDone.toNat
    + 16 * ((List.range 32).any (fun i => s.srcWid (i + 1) == 1 && (s.aplicSrc (i + 1)).pend)).toNat

/-- CUR_MTIMECMP. -/
def State.curCmp (s : State) : Nat := s.getF F.curMtimecmpLo_cmp 0 0 + s.getF F.curMtimecmpHi_cmp 0 0 * 2 ^ 32

/-- The Curator's mip: MEIP from the enabled sources, MTIP while mtime is at or above CMP (R384, R385). -/
def State.curMip (s : State) : BitVec 32 :=
  BitVec.ofNat 32 ((if Nat.land s.curPend (s.getF F.curIntEn_en 0 0) ≠ 0 then 2 ^ 11 else 0) + (if s.curCmp ≤ s.mtime then 2 ^ 7 else 0))

/-- The local register at an offset. -/
def curReg (off : Nat) : Option RegName := RegName.all.find? (fun r => r.place == .cur && (r.entryAt off).isSome)

/-- A read of a local register; reading CUR_MTIME_LO latches the high half. -/
def State.curRegRead (s : State) (r : RegName) : Nat × State :=
  match r with
  | .curMtimeLo => (s.mtime % 2 ^ 32, { s with cur := { s.cur with hi := BitVec.ofNat 32 (s.mtime / 2 ^ 32) } })
  | .curMtimeHi => (s.cur.hi.toNat, s)
  | .curIntPend => (s.curPend, s)
  | _ => ((s.readReg r 0 0).toNat, s)

/-- A write of a local register. -/
def State.curRegWrite (s : State) (r : RegName) (v : Nat) : State :=
  match r with
  | .curWdtKick => s.curKick v
  | .curFlashCmd => s.flashCmd (v % 4) (v / 2 ^ 8 % 512)
  | .curSlipCtrl => if v % 2 = 1 then s.curGo else s
  | _ => s.writeReg r 0 0 (w64 v) allBytes

/-! ### Fetch (R379, R382) -/

/-- A line becomes the most recently used; a line that was not held evicts the least recently used of eight. -/
def touchLine (l : List Nat) (k : Nat) : List Nat := (k :: l.erase k).take 8

/-- A read of a flash line: a hit, or a miss that reads the line and the next one. (DESIGN CHOICE, assumption 65.) -/
def State.lineRead (s : State) (k : Nat) : State :=
  let l := s.cur.lines
  { s with cur := { s.cur with lines := if l.contains k then touchLine l k else touchLine (touchLine l (k + 1)) k } }

/-- The flash byte that a Curator address of the flash window reads, where the window reaches it. -/
def State.xip (s : State) (a : Nat) : Option Nat :=
  let o := a - 0x20000000
  if 0x20000000 ≤ a ∧ a < 0x30000000 ∧ o < 4096 * s.getF F.curXip_pages 0 0 then some (4096 * s.getF F.curXip_base 0 0 + o) else none

/-- Fetch an instruction's parcels: whether the fetch is allowed, and the line buffer after it. -/
def State.curFetch (s : State) (pc n : Nat) : Bool × State :=
  if pc + n ≤ 0x20000 then (true, s)
  else match s.xip pc, s.xip (pc + n - 1) with
    | some a, some b =>
      let s1 := s.lineRead (a / 32)
      (true, if b / 32 = a / 32 then s1 else s1.lineRead (b / 32))
    | _, _ => (false, s)

/-- The index and tag of the BTB (R382). -/
def btbIndex (pc : Nat) : Nat := pc / 2 % 64
def btbTag (pc : Nat) : Nat := pc / 128

/-- Train the BTB: taken branches and jumps allocate; a 2-bit counter follows a conditional branch. -/
def State.curTrain (s : State) (pc : Nat) (taken : Bool) (target : BitVec 32) : State :=
  let i := btbIndex pc
  let put (e : CurBtb) : State := { s with cur := { s.cur with btb := s.cur.btb.set none i (some e) } }
  match s.cur.btb.get none i with
  | some e =>
    if e.tag = btbTag pc then put { e with target := if taken then target else e.target, count := if taken then min 3 (e.count + 1) else e.count - 1 }
    else if taken then put { tag := btbTag pc, target := target, count := 2 } else s
  | none => if taken then put { tag := btbTag pc, target := target, count := 2 } else s

/-! ### Data accesses (R377, R379) -/

/-- What a data access gives: a value, or an exception cause. -/
inductive CurAns where
  | val (v : Nat)
  | trap (cause : Nat)
  deriving DecidableEq, Repr

/-- Bytes of TCM. -/
def State.tcmRead (s : State) (a n : Nat) : Nat := ofBytes ((List.range n).map (fun i => (s.cur.tcm.get 0 (a + i)).toNat))
/-- Write bytes of TCM. A reservation on the word written is lost. -/
def State.tcmWrite (s : State) (a n v : Nat) : State :=
  { s with cur := { s.cur with tcm := (List.range n).foldl (fun m i => m.set 0 (a + i) (BitVec.ofNat 8 (v / 256 ^ i))) s.cur.tcm } }

/-- The physical address of the memory window. -/
def State.curPa (s : State) (a : Nat) : Nat := s.getF F.curCtrl_memBase 0 0 * 2 ^ 31 + (a - 0x80000000)

/-- A load from the Curator's local registers (R381). (DEDUCED, assumption 66.) -/
def State.curLoadReg (s : State) (o : Option RegName) (n : Nat) : CurAns × State :=
  match o with
  | some r => if n = 4 then (let q := s.curRegRead r; (.val q.1, q.2)) else (.trap 5, s)
  | none => (.trap 5, s)

/-- A store to the Curator's local registers (R381). -/
def State.curStoreReg (s : State) (o : Option RegName) (n v : Nat) : Option Nat × State :=
  match o with
  | some r => if n = 4 then (none, s.curRegWrite r v) else (some 7, s)
  | none => (some 7, s)

/-- What a load through control space answers (R381): a refused one is recorded. -/
def State.curLoadCtl (s : State) (o : CtlAns) (off : Nat) : CurAns × State :=
  match o with
  | .val v => (.val v, s)
  | .err c => (.trap 5, if c = Err.permission then s.refusedReg (off / 0x400000) 1 (controlBase + off) else s)

/-- What a load from memory answers (R381). -/
def curLoadBus (r : CtlAns × State) : CurAns × State :=
  match r.1 with
  | .val v => (.val v, r.2)
  | .err _ => (.trap 5, r.2)

/-- A load from the execute-in-place window (R380). -/
def State.curLoadXip (s : State) (o : Option Nat) (n : Nat) : CurAns × State :=
  match o with
  | some b => (.val (s.flashLe b n), s.lineRead (b / 32))
  | none => (.trap 5, s)

/-- A load of n bytes. -/
def State.curLoad (s : State) (a n : Nat) : CurAns × State :=
  if a + n ≤ 0x20000 then (.val (s.tcmRead a n), s)
  else if a % n ≠ 0 then (.trap 4, s)
  else if 0x10000000 ≤ a ∧ a < 0x10001000 then
    s.curLoadReg (curReg (a - 0x10000000)) n
  else if 0x40000000 ≤ a ∧ a < 0x68000000 then
    s.curLoadCtl (s.ctlRead 1 (controlBase + (a - 0x40000000)) n) (a - 0x40000000)
  else if 0x80000000 ≤ a then
    curLoadBus (s.busRead 1 (s.curPa a) n)
  else s.curLoadXip (s.xip a) n

/-- A failed store is a store access fault (R381). -/
def curStoreAns (r : Option Nat × State) : Option Nat × State := (r.1.map (fun _ => 7), r.2)

/-- A store of n bytes: none, or an exception cause. -/
def State.curStore (s : State) (a n v : Nat) : Option Nat × State :=
  if a + n ≤ 0x20000 then (none, s.tcmWrite a n v)
  else if a % n ≠ 0 then (some 6, s)
  else if 0x10000000 ≤ a ∧ a < 0x10001000 then
    s.curStoreReg (curReg (a - 0x10000000)) n v
  else if 0x40000000 ≤ a ∧ a < 0x68000000 then
    curStoreAns (s.ctlWriteNow 1 (controlBase + (a - 0x40000000)) n (w64 v))
  else if 0x80000000 ≤ a then
    curStoreAns (s.busWrite 1 (s.curPa a) n v)
  else (some 7, s)

/-! ### Traps (R384) -/

def State.curCsr (s : State) (n : Nat) : BitVec 32 := if n = 0x344 then s.curMip else s.cur.csr.get 0 n
def State.setCurCsr (s : State) (n : Nat) (v : BitVec 32) : State := { s with cur := { s.cur with csr := s.cur.csr.set 0 n v } }
def State.setCurX (s : State) (rd : Nat) (v : BitVec 32) : State := if rd = 0 then s else { s with cur := { s.cur with x := s.cur.x.set 0 rd v } }
def State.setCurPc (s : State) (pc : BitVec 32) : State := { s with cur := { s.cur with pc := pc &&& ~~~1#32 } }

/-- Take a trap on the Curator, in M mode alone (R377): mepc, mcause, mtval, the interrupt-enable stack and the vector. -/
def State.curTrap (s : State) (cause : Nat) (irq : Bool) (tval epc : BitVec 32) : State :=
  let st := s.curCsr 0x300
  let st1 := (st &&& ~~~0x88#32) ||| (if st.getLsbD 3 then 0x80#32 else 0) ||| 0x1800#32
  let tv := s.curCsr 0x305
  let base := tv &&& ~~~3#32
  let s1 := (((s.setCurCsr 0x341 epc).setCurCsr 0x342 (BitVec.ofNat 32 (cause + (if irq then 2 ^ 31 else 0)))).setCurCsr 0x343 tval).setCurCsr 0x300 st1
  State.setCurPc { s1 with cur := { s1.cur with waiting := false } } (if irq && tv.getLsbD 0 then base + BitVec.ofNat 32 (4 * cause) else base)

/-- CURATOR_INTERRUPT (R384): at an instruction boundary, which an access that waits for its answer has not reached, the external interrupt before the timer's. -/
def execCuratorInterrupt (s : State) : Host.Outcome State Fault Refusal :=
  let p := s.curMip &&& s.curCsr 0x304
  if !s.curRuns || s.agentWaits svcStop 1 || !(s.curCsr 0x300).getLsbD 3 then ok s
  else if p.getLsbD 11 then ok (s.curTrap 11 true 0 s.cur.pc)
  else if p.getLsbD 7 then ok (s.curTrap 7 true 0 s.cur.pc)
  else ok s

/-- CURATOR_TIMER_MATCH (R385): mtime has reached CMP; MTIP reads 1 from then on, and an enabled timer ends a WFI. -/
def execCuratorTimerMatch (s : State) : Host.Outcome State Fault Refusal :=
  ok (if s.curRuns && decide (s.curCmp ≤ s.mtime) && (s.curCsr 0x304).getLsbD 7 then { s with cur := { s.cur with waiting := false } } else s)

/-! ### Instructions (R379, R382) -/

/-- The sign extension of the low n bytes to 32 bits. -/
def sext32 (n v : Nat) : BitVec 32 := BitVec.ofNat 32 (if v / 2 ^ (8 * n - 1) % 2 = 1 then v % 2 ^ (8 * n) + (2 ^ 32 - 2 ^ (8 * n)) else v % 2 ^ (8 * n))

/-- What an instruction does at its pc, once it is fetched. -/
def State.curExec (s : State) (pc : BitVec 32) (next : BitVec 32) (k : CurKind) : State :=
  let go (s : State) : State := s.setCurPc next
  match k with
  | .alu rd v => go (s.setCurX rd.toNat v)
  | .load rd a log signed =>
    let n := 2 ^ log.val
    let r := s.curLoad a.toNat n
    (match r.1 with
    | .val v => go (r.2.setCurX rd.toNat (if signed then sext32 n v else BitVec.ofNat 32 (v % 2 ^ (8 * n))))
    | .trap c => r.2.curTrap c false a pc)
  | .store a log v =>
    let n := 2 ^ log.val
    let r := s.curStore a.toNat n (v.toNat % 2 ^ (8 * n))
    (match r.1 with
    | none => go { r.2 with cur := { r.2.cur with resv := if r.2.cur.resv = some (a.toNat / 4) then none else r.2.cur.resv } }
    | some c => r.2.curTrap c false a pc)
  | .amo rd op a v =>
    if a.toNat + 4 ≤ 0x20000 then
      let old := s.tcmRead a.toNat 4
      go ((s.tcmWrite a.toNat 4 (aopResult op.code 4 old v.toNat)).setCurX rd.toNat (BitVec.ofNat 32 old))
    else s.curTrap 7 false a pc
  | .lr rd a =>
    if a.toNat + 4 ≤ 0x20000 then
      go (State.setCurX { s with cur := { s.cur with resv := some (a.toNat / 4) } } rd.toNat (BitVec.ofNat 32 (s.tcmRead a.toNat 4)))
    else s.curTrap 5 false a pc
  | .sc rd a v =>
    if a.toNat + 4 ≤ 0x20000 then
      let hit : Bool := s.cur.resv == some (a.toNat / 4)
      let s1 := if hit then s.tcmWrite a.toNat 4 v.toNat else s
      go (State.setCurX { s1 with cur := { s1.cur with resv := none } } rd.toNat (if hit then 0 else 1))
    else s.curTrap 7 false a pc
  | .branch taken target => (s.curTrain pc.toNat taken target).setCurPc (if taken then target else next)
  | .jump rd target => ((s.curTrain pc.toNat true target).setCurX rd.toNat next).setCurPc target
  | .csr rd n v => go ((s.setCurX rd.toNat (s.curCsr n.toNat)).setCurCsr n.toNat v)
  | .fenceI => go { s with cur := { s.cur with lines := [], btb := [] } }
  | .wfi => go { s with cur := { s.cur with waiting := true } }
  | .mret =>
    let st := s.curCsr 0x300
    (s.setCurCsr 0x300 ((st &&& ~~~0x88#32) ||| 0x80#32 ||| (if st.getLsbD 7 then 8#32 else 0))).setCurPc (s.curCsr 0x341)
  | .ecall => s.curTrap 11 false 0 pc
  | .ebreak => s.curTrap 3 false pc pc
  | .illegal => s.curTrap 2 false 0 pc

/-- The instruction at the pc, where the Curator runs and does not wait. A fetch outside TCM and the flash window faults (R379, R382). -/
def State.curStep (s : State) (x : CurInstr) : State :=
  let awake : Bool := s.curRuns && (!s.cur.waiting || (s.curMip &&& s.curCsr 0x304) != 0)
  if !awake then s
  else
    let pc := s.cur.pc
    let n := if x.short then 2 else 4
    let f := State.curFetch { s with cur := { s.cur with waiting := false } } pc.toNat n
    if f.1 then f.2.curExec pc (pc + BitVec.ofNat 32 n) x.kind else f.2.curTrap 1 false pc pc

/-- CURATOR_INSTRUCTION (R379, R382, R383): an access of memory is answered before the next instruction begins. -/
def execCuratorInstruction (x : CurInstr) (s : State) : Host.Outcome State Fault Refusal :=
  let cmd := Instr.curatorInstruction x
  if s.works.any (fun r => r.stop == svcStop && r.ep == 1 && r.cmd != cmd) then ok s
  else ok (s.served svcStop 1 cmd (fun s => s.curStep x))

/-! ### Watchdogs (R403) -/

/-- The restarts of the last 10 s, this one included. -/
def recentRestarts (l : List Nat) (now : Nat) : List Nat := now :: l.filter (fun t => decide (now < t + 1000000000))

/-- Load the Curator's image: TCM from the first TCM_LEN bytes of its payload (R388, R392). -/
def State.loadTcm (s : State) (l : Loaded) : State :=
  { s with cur := { s.cur with tcm := (List.range l.hdr.tcmLen).foldl (fun m i => m.set 0 i (BitVec.ofNat 8 (s.flashByte (l.offset + 4096 + i)))) [] } }

/-- CURATOR_WATCHDOG_EXPIRY (R403): a warning first; then a reset and a reload, and after three in 10 s the Curator has failed. -/
def execCuratorWatchdogExpiry (s : State) : Host.Outcome State Fault Refusal :=
  if !s.curRuns then ok s
  else if !s.isF F.curStatus_warned 0 0 then
    ok ((s.setF F.curStatus_warned 0 0 1).record Ev.watchdog { stop := svcStop, unit := 6, wid := 1 } 1 0)
  else
    let times := recentRestarts s.kpr.curRestarts s.mtime
    let s1 : State := { s with kpr := { s.kpr with curRestarts := times } }
    let s2 := (((s1.curatorReset.setF F.curStatus_warned 0 0 0).incSat F.curStatus_restarts 0 0).record Ev.watchdog { stop := svcStop, unit := 6, wid := 1 } 1 1)
    if 3 ≤ times.length then ok (s2.setF F.curStatus_state 0 0 3)
    else match s2.kpr.images.get none 3 with
      | some l => ok (s2.loadTcm l).curatorStart
      | none => ok (s2.setF F.curStatus_state 0 0 0)

end Sys2Proof.Machine
end

