-- ==== Sys2Proof/Machine/Images.lean ====
section
/-! DEFINITION. Images and their verification (R388, R389), the boot configuration (R391, R531), tokens (R419) and the fuse unit (R390). -/
namespace Sys2Proof.Machine

/-! ### Images -/

/-- Bytes of an image, which is given by its byte at each offset. -/
def imgBytes (b : Nat → Nat) (o n : Nat) : List Nat := (List.range n).map (fun i => b (o + i))
/-- A little-endian field of an image. -/
def imgLe (b : Nat → Nat) (o n : Nat) : Nat := ofBytes (imgBytes b o n)

/-- The header of an image (R388). -/
def imgHdr (b : Nat → Nat) : ImgHdr :=
  { type := b 4, keyIndex := b 6, svn := b 7, version := w64 (imgLe b 8 8), payloadLen := imgLe b 16 4, tcmLen := imgLe b 20 4, loadAddr := imgLe b 24 8,
    entry := imgLe b 32 8, dieBind := imgLe b 40 8, digest := imgLe b 48 48, hash := sha384 (imgBytes b 0 256) }

/-- The offset of the signature block, and the length of the whole image (R388). -/
def ImgHdr.sigAt (h : ImgHdr) : Nat := 4096 + (h.payloadLen + 63) / 64 * 64
def ImgHdr.size (h : ImgHdr) : Nat := h.sigAt + 17040

/-- The limits of R388 on PAYLOAD_LEN, TCM_LEN, LOAD_ADDR and ENTRY; TYPE 0x30 is a token (R419). A patch lies within the Keeper's 256 KiB of SRAM. -/
def ImgHdr.limits (h : ImgHdr) : Bool :=
  match h.type with
  | 1 => decide (h.payloadLen ≤ 0x20000) && h.tcmLen == 0 && decide (h.loadAddr + h.payloadLen ≤ 0x40000) && decide (h.entry < 0x40000)
  | 2 => h.payloadLen == 112 && h.tcmLen == 0 && h.loadAddr == 0
  | 3 => decide (h.payloadLen ≤ 0x1000000) && decide (h.tcmLen ≤ min 0x20000 h.payloadLen) && h.loadAddr == 0
      && (decide (h.entry < 0x20000) || (decide (0x20000000 ≤ h.entry) && decide (h.entry < 0x30000000)))
  | 4 => decide (h.payloadLen ≤ 0x1000000) && h.tcmLen == 0 && decide (h.loadAddr + h.payloadLen ≤ stagingTop) && decide (h.loadAddr ≤ h.entry)
      && decide (h.entry < h.loadAddr + h.payloadLen)
  | 0x30 => h.payloadLen == 64 && h.tcmLen == 0 && h.loadAddr == 0
  | _ => false

/-- Check 1 of R389: MAGIC, TYPE, HDR_VERSION, reserved bytes, the limits, and that the image fits its partition. -/
def imgForm (type part : Nat) (b : Nat → Nat) : Bool :=
  let h := imgHdr b
  let zero (o n : Nat) : Bool := (List.range n).all (fun i => b (o + i) == 0)
  imgLe b 0 4 == 0x474D4B53 && h.type == type && b 5 == 1 && h.limits && decide (h.size ≤ part) && zero 96 160 && zero 256 3840
    && zero (4096 + h.payloadLen) (h.sigAt - (4096 + h.payloadLen))

/-- The fused hash of an owner's pair (R390), and whether the pair is VALID and not revoked. -/
def Fuses.pairHash (f : Fuses) (owner pair : Nat) : Nat := f.keyHash.get 0 (owner * 4 + pair)
def Fuses.pairLive (f : Fuses) (owner pair : Nat) : Bool := decide (pair < 4) && f.valid.contains (owner * 4 + pair) && !f.revoked.contains (owner * 4 + pair)

/-- The checks of R389 in order: the number of the first that fails. `svn` is none for a token, which has no counter, and which must be bound to the die (R419);
`pair` says which pairs may sign. -/
def imgCheck (f : Fuses) (owner : Nat) (pair : Nat → Bool) (svn : Option Nat) (type part : Nat) (b : Nat → Nat) : Option Nat :=
  let h := imgHdr b
  let g := h.sigAt
  if !imgForm type part b then some 1
  else if !f.pairLive owner h.keyIndex || !pair h.keyIndex || sha384 (imgBytes b g 432) != f.pairHash owner h.keyIndex then some 2
  else if (match svn with
    | some n => decide (h.svn < n) || decide (63 < h.svn)
    | none => false) then some 3
  else if h.dieBind ≠ f.serial.toNat ∧ (h.dieBind ≠ 0 ∨ svn = none) then some 4
  else if svn = none ∧ h.dieBind = 0 then some 4
  else if sha384 (imgBytes b 4096 h.payloadLen) ≠ h.digest then some 5
  else if !rsaOk (imgBytes b g 384) (imgBytes b (g + 432) 384) (imgBytes b 0 256) then some 6
  else if !slhOk (imgBytes b (g + 384) 48) (imgBytes b (g + 816) 16224) (imgBytes b 0 256) then some 7
  else none

/-- The owner of an image TYPE: Skelcel signs the Keeper patch, the integrator every other (R390). -/
def typeOwner (type : Nat) : Nat := if type = 1 then 0 else 1

/-- The bytes of a partition. -/
def State.partBytes (s : State) (e : DirEntry) : Nat → Nat := fun i => s.flashByte (e.offset + i)

/-- Whether the image in a directory entry is valid (R389). -/
def State.imgValid (s : State) (e : DirEntry) : Bool :=
  imgCheck s.fuses (typeOwner e.type) (fun _ => true) (some (s.fuses.svn.get 0 e.type)) e.type e.length (s.partBytes e) == none

/-! ### The boot configuration -/

/-- The set-point ranges of the rails in mV, in the order of R391 (R531). -/
def railRange : List (Nat × Nat) := [(800, 1100), (700, 850), (800, 950), (1250, 1350), (700, 800), (800, 900), (760, 840), (1710, 1890)]

/-- The boot configuration of a payload; none where a field is out of range or a reserved byte is set (R391, R531). -/
def State.bootCfg (s : State) (dir : List DirEntry) (b : Nat → Nat) : Option BootCfg :=
  let c : BootCfg := { target := b 0, bootHarts := b 1, flags := b 2, powerLimit := imgLe b 4 2, keeperWdt := imgLe b 6 2, curatorWdt := imgLe b 8 2,
                       curatorMem := imgLe b 16 8, flashGrant := w64 (imgLe b 24 8), anchors := imgLe b 32 48,
                       window := (List.range 8).map (fun i => (imgLe b (80 + 4 * i) 2, imgLe b (82 + 4 * i) 2)) }
  let good : Bool := (c.target == 4 || c.target == 5) && decide (1 ≤ c.bootHarts) && decide (c.bootHarts ≤ 16) && decide (c.flags < 16) && b 3 == 0
    && decide (300 ≤ c.powerLimit) && decide (c.powerLimit ≤ min 600 s.fuses.ceilingW) && decide (100 ≤ c.keeperWdt) && decide (c.keeperWdt ≤ 10000)
    && decide (10 ≤ c.curatorWdt) && decide (c.curatorWdt ≤ 10000) && (List.range 6).all (fun i => b (10 + i) == 0)
    && c.curatorMem % 2 ^ 31 == 0 && decide (c.curatorMem < 2 ^ 52)
    && (List.range 64).all (fun i => !c.flashGrant.getLsbD i || (match dir[i]? with
        | some e => !(decide (1 ≤ e.type) && decide (e.type ≤ 4))
        | none => true))
    && (c.window.zip railRange).all (fun (e : (Nat × Nat) × (Nat × Nat)) => decide (e.2.1 ≤ e.1.1) && decide (e.1.1 ≤ e.1.2) && decide (e.1.2 ≤ e.2.2))
  if good then some c else none

/-- The image of a TYPE that loads: slot A is tried first, then slot B (R392). A boot configuration must also be in range (R391). -/
def State.findImage (s : State) (type : Nat) : Option Loaded :=
  (List.range 2).findSome? (fun slot =>
    match s.kpr.dir.find? (fun e => e.type == type && e.slot == slot) with
    | some e =>
      let h := imgHdr (s.partBytes e)
      if s.imgValid e && (type != 2 || (s.bootCfg s.kpr.dir (fun i => s.partBytes e (4096 + i))).isSome) then
        some { slot := slot, offset := e.offset, length := h.size, hdr := h }
      else none
    | none => none)

/-! ### Where the Keeper fetches from (R378) -/

/-- A place that the Keeper's fetch may be pointed at: its mask ROM, its SRAM, or anything else of its address space. -/
inductive KprPlace where
  | rom (offset : Nat) | sram (offset : Nat) | other
  deriving DecidableEq, Repr

/-- Whether the Keeper may fetch from a place: the 512 KiB ROM, and the range of the verified patch in SRAM (R377, R378). -/
def Keeper.mayFetch (k : Keeper) (p : KprPlace) : Bool :=
  match p with
  | .rom o => decide (o < 0x80000)
  | .sram o => match k.patch with
    | some (b, n) => decide (b ≤ o) && decide (o < b + n)
    | none => false
  | .other => false

/-- A fetch of the Keeper: from anywhere else it is an instruction access fault, which stops the Keeper until its watchdog restarts it (R378, R402, R403). -/
def State.keeperFetch (s : State) (p : KprPlace) : State := if s.kpr.mayFetch p then s else { s with kpr := { s.kpr with faulted := true } }

/-- The ROM fixes the range of the patch that it has loaded and enters it at ENTRY; without one it runs unpatched (R378, R388, R392 step 4, R393). -/
def State.enterPatch (s : State) : State :=
  match s.kpr.images.get none 1 with
  | some l => State.keeperFetch { s with kpr := { s.kpr with patch := some (l.hdr.loadAddr, l.hdr.payloadLen) } } (.sram l.hdr.entry)
  | none => { s with kpr := { s.kpr with patch := none } }

/-! ### The fuse unit (R390) -/

/-- A fuse program that R390 does not allow is refused and counted; it is a hit of a limit (R402). -/
def State.fuseRefused (s : State) (v : Word) : State := (s.incSat F.kprLimitCount_fuseRefusals 0 0).limitHit 13 v

/-- PROVISIONED: at least one integrator pair is VALID and not revoked (R404). -/
def State.syncProvisioned (s : State) : State := s.setF F.kprStatus_provisioned 0 0 ((List.range 4).any (fun p => s.fuses.pairLive 1 p)).toNat

/-- Program an integrator pair's hash (R390): refused where a bit that is already 1 differs, or the pair is VALID; VALID is programmed last. (DEDUCED, assumption 87.) -/
def State.fuseHash (s : State) (pair hash : Nat) : Bool × State :=
  let old := s.fuses.pairHash 1 pair
  if s.fuses.valid.contains (4 + pair) ∨ Nat.land old hash ≠ old then (false, s.fuseRefused (w64 pair))
  else
    let f := s.fuses
    (true, State.syncProvisioned { s with fuses := { f with keyHash := f.keyHash.set 0 (4 + pair) (Nat.lor old hash), valid := f.valid ++ [4 + pair] } })

/-- Revoke an owner's pair (R390): refused where no pair of the owner would stay VALID and unrevoked. -/
def State.fuseRevoke (s : State) (owner pair : Nat) : Bool × State :=
  let f := s.fuses
  let g : Fuses := if f.revoked.contains (owner * 4 + pair) then f else { f with revoked := f.revoked ++ [owner * 4 + pair] }
  if (List.range 4).any (fun p => g.pairLive owner p) then (true, State.syncProvisioned { s with fuses := g }) else (false, s.fuseRefused (w64 (owner * 4 + pair)))

end Sys2Proof.Machine
end

