-- ==== Sys2Proof/Machine/Slips.lean ====
section
/-! DEFINITION. The Keeper's slip service (R407 to R419, R431, R432): taking a slip, its checks, tokens, and the return slip. -/
namespace Sys2Proof.Machine

/-! The status codes of R431. -/
namespace St
def ok : Nat := 0x00
def started : Nat := 0x01
def badCrc : Nat := 0x10
def badHeader : Nat := 0x11
def badOpcode : Nat := 0x12
def badParam : Nat := 0x13
def deniedIssuer : Nat := 0x20
def deniedTransport : Nat := 0x21
def deniedToken : Nat := 0x22
def deniedState : Nat := 0x23
def notReady : Nat := 0x30
def busy : Nat := 0x31
def restarted : Nat := 0x32
def recovery : Nat := 0x33
def noResource : Nat := 0x40
def refusedHw : Nat := 0x41
def deviceError : Nat := 0x42
def timeout : Nat := 0x43
end St

/-! ### Transports -/

/-- The number of a transport: the rings by their worlds, 64 the Curator, 65 the PF, 66 I3C. -/
def Transport.num : Transport → Nat
  | .ring w => w.toNat
  | .curator => 64
  | .pf => 65
  | .i3c => 66

/-- The transport of a number. -/
def transportOf (n : Nat) : Transport := if n = 64 then .curator else if n = 65 then .pf else if n = 66 then .i3c else .ring (BitVec.ofNat 6 n)

/-- TRANSPORT as R407 encodes it. -/
def Transport.code : Transport → Nat
  | .ring _ => 0
  | .curator => 1
  | .pf => 2
  | .i3c => 3

/-- The WID that a transport's slips carry (R411, R414 to R416). -/
def State.transportWid (s : State) : Transport → Nat
  | .ring w => w.toNat
  | .curator => 1
  | .pf => s.getF F.hpEpCfg_pfWid 0 0
  | .i3c => 2

/-- Whether the Keeper may touch a page of ring w (R413): OWNER is w and WID 0 is admitted. (DEDUCED, assumption 72.) -/
def State.ringOk (s : State) (w pa : Nat) : Bool :=
  match s.effDeed (pa / 4096) with
  | some d => dOwner d == w && deedAllows d 0 false && deedAllows d 0 true
  | none => false

/-- Read and write a field of memory with WID 0; none on an error or poison. -/
def State.kRead (s : State) (pa n : Nat) : Option Nat × State :=
  let r := s.readBytes 0 (n / 64 + 2) pa n
  (if r.1.isSome || r.2.1 then none else some r.2.2.1, r.2.2.2)
def State.kWrite (s : State) (pa n v : Nat) : Bool × State :=
  let r := s.writeBytes 0 (n / 64 + 2) pa n v
  (r.1.isNone, r.2)

/-- BAD of a ring page advances, saturating (R412). -/
def State.ringBad (s : State) (w page : Nat) : State :=
  if s.ringOk w page then
    let r := s.kRead (page + 16) 4
    match r.1 with
    | some b => (r.2.kWrite (page + 16) 4 (min (b + 1) 0xFFFFFFFF)).2
    | none => r.2
  else s

/-- A call slip as its bytes stand, with where it lies; the bytes are none where they carry poison. -/
structure RawSlip where
  slip : Slip
  bytes : Option (List Nat)

/-- The bytes of a slip: its header and the parameters that LENGTH counts, no more than the buffer holds. -/
def slipBytes (b : Nat → Nat) : List Nat := imgBytes b 0 (32 + min (imgLe b 8 2) 4064)

/-- The slip of a ring at HEAD (R413): entries that cannot be read are passed. Up to `n` entries. -/
def State.takeEntry (s : State) (w page : Nat) : Nat → Option RawSlip × State
  | 0 => (none, s)
  | n + 1 =>
    let none_ (s : State) : Option RawSlip × State := (none, { s with slips := { s.slips with belled := s.slips.belled.filter (· != w) } })
    let i := s.kRead page 12
    match i.1 with
    | none => none_ i.2
    | some v =>
      let tail := v % 2 ^ 32
      let head := v / 2 ^ 32 % 2 ^ 32
      let done := v / 2 ^ 64 % 2 ^ 32
      if 64 < (tail + 2 ^ 32 - done) % 2 ^ 32 then none_ (i.2.ringBad w page)
      else if head = tail then none_ i.2
      else
        let e := i.2.kRead (page + 64 + 8 * (head % 64)) 8
        let s1 := (e.2.kWrite (page + 4) 4 ((head + 1) % 2 ^ 32)).2
        let skip (s : State) : Option RawSlip × State := State.takeEntry ((s.kWrite (page + 8) 4 ((head + 1) % 2 ^ 32)).2.ringBad w page) w page n
        match e.1 with
        | none => skip s1
        | some buf =>
          if buf % 4096 ≠ 0 ∨ 2 ^ 52 ≤ buf ∨ ¬ s1.ringOk w buf = true then skip s1
          else
            let r := s1.readBytes 0 66 buf 4096
            if r.1.isSome then skip r.2.2.2
            else
              let c : Slip := { t := .ring (BitVec.ofNat 6 w), wid := w, opcode := 0, flags := 0, seq := 0, page := page, buf := buf, index := head, taken := s.slips.since }
              let l := toBytes 4096 r.2.2.1
              (some { slip := c, bytes := if r.2.1 then none else some (slipBytes (fun i => l.getD i 0)) }, r.2.2.2)

/-- Take a slip from ring w (R413): a new RING_PAGE takes effect first, its HEAD and DONE written 0. -/
def State.takeRing (s : State) (w : Nat) : Option RawSlip × State :=
  let page := s.getF F.wldSlipBell_ringPage 0 w * 4096
  if page = 0 ∨ ¬ s.ringOk w page = true ∨ ¬ s.slips.belled.contains w = true then (none, s)
  else
    let s1 : State := if s.slips.page.get 0 w = page then s else
      let t := (s.kWrite (page + 4) 8 0).2
      { t with slips := { t.slips with page := t.slips.page.set 0 w page } }
    s1.takeEntry w page 65

/-- Take the slip that waits at a transport. -/
def State.takeSlip (s : State) (t : Nat) : Option RawSlip × State :=
  let c (t : Transport) : Slip := { t := t, wid := s.transportWid t, opcode := 0, flags := 0, seq := 0, taken := s.slips.since }
  if t < 2 ∨ 66 < t then (none, s)
  else match transportOf t with
    | .ring w => s.takeRing w.toNat
    | .curator =>
      if s.isF F.curSlipStatus_busy 0 0 then
        let a := s.getF F.curSlipAddr_addr 0 0
        (some { slip := c .curator, bytes := some (slipBytes (fun i => (s.cur.tcm.get 0 ((a + i) % 0x20000)).toNat)) }, s)
      else (none, s)
    | .pf => if s.slips.pf.busy then (some { slip := c .pf, bytes := some (slipBytes (fun i => s.slips.pf.byte i)) }, s) else (none, s)
    | .i3c => if s.slips.i3c.busy then (some { slip := c .i3c, bytes := some (slipBytes (fun i => s.slips.i3c.byte i)) }, s) else (none, s)

/-! ### The return slip -/

/-- CRC-32C over a slip with bytes 12 to 15 taken as zero (R407, R409). -/
def slipCrc (l : List Nat) : Nat := crc32c (l.take 12 ++ [0, 0, 0, 0] ++ l.drop 16)

/-- The bytes of a return slip (R409). -/
def retBytes (c : Slip) (h : RetHdr) (data : List Nat) : List Nat :=
  let l := toBytes 2 h.opcode ++ toBytes 2 h.status ++ toBytes 4 h.seq ++ toBytes 2 data.length ++ [c.wid % 256, c.t.code * 16, 0, 0, 0, 0] ++ toBytes 8 h.detail
    ++ toBytes 4 h.us ++ [0, 0, 0, 0] ++ data
  l.take 12 ++ toBytes 4 (slipCrc l) ++ l.drop 16

/-- A ring's answer (R413): over the call slip, then DONE, then the notification. -/
def State.answerRing (s : State) (c : Slip) (b : List Nat) : State :=
  let w := c.wid
  let a := if s.ringOk w c.buf then s.kWrite c.buf b.length (ofBytes b) else (false, s)
  let s1 := if a.1 then a.2 else a.2.ringBad w c.page
  if s1.ringOk w c.page then
    let s2 := (s1.kWrite (c.page + 8) 4 ((c.index + 1) % 2 ^ 32)).2
    let n := s2.kRead (c.page + 12) 4
    match n.1 with
    | some v =>
      let h := v % 256
      if c.flags % 2 = 1 ∧ s2.seat h = w ∧ v / 256 % 256 < 2 ∧ v / 65536 < 256 then n.2.setIrq h (v / 256 % 256) (v / 65536) else n.2
    | none => n.2
  else s1

/-- The window of a mailbox after its answer (R415): a discarded return slip leaves DONE clear. -/
def Mailbox.answer (m : Mailbox) (b : List Nat) : Mailbox :=
  if m.discard then { m with busy := false, discard := false }
  else { m with busy := false, done := true, bytes := (b.zip (List.range b.length)).foldl (fun (k : Map (BitVec 8)) (e : Nat × Nat) => k.set 0 (0x1000 + e.2) (BitVec.ofNat 8 e.1)) m.bytes }

/-- Write a return slip to the place that its transport names (R409, R413 to R416). -/
def State.answerSlip (s : State) (c : Slip) (b : List Nat) : State :=
  match c.t with
  | .ring _ => s.answerRing c b
  | .curator =>
    let a := s.getF F.curSlipAddr_addr 0 0
    let t := (b.zip (List.range b.length)).foldl (fun (m : Map (BitVec 8)) (e : Nat × Nat) => m.set 0 ((a + e.2) % 0x20000) (BitVec.ofNat 8 e.1)) s.cur.tcm
    (State.setF { s with cur := { s.cur with tcm := t } } F.curSlipStatus_busy 0 0 0).setF F.curSlipStatus_done 0 0 1
  | .pf =>
    let m := s.slips.pf.answer b
    let s1 : State := { s with slips := { s.slips with pf := m } }
    if s.slips.pf.discard then s1 else s1.pfInt
  | .i3c =>
    let s1 : State := { s with slips := { s.slips with i3c := s.slips.i3c.answer b } }
    if c.flags % 2 = 1 then { s1 with slips := { s1.slips with ibi := s1.slips.ibi ++ [0xA5] } } else s1

/-- Store the final header of an answered slip: the last 8 of its transport (R410). -/
def State.keepHdr (s : State) (t : Nat) (h : RetHdr) : State :=
  { s with slips := { s.slips with final := s.slips.final.set [] t ((h :: s.slips.final.get [] t).take 8) } }

/-- Answer the slip in hand. One that was in hand at a Keeper restart is answered RESTARTED, and its final header is kept (R417). -/
def State.closeSlip (s : State) (c : Slip) (restarted : Bool) (r : Ret) : State :=
  let h : RetHdr := { seq := c.seq, opcode := c.opcode, status := r.status, detail := r.detail, us := min ((s.mtime - c.taken) / 100) 0xFFFFFFFF }
  let s1 := State.keepHdr { s with slips := { s.slips with inHand := none } } c.t.num h
  if restarted || s.slips.restarting then s1.answerSlip c (retBytes c { h with status := St.restarted, detail := 0 } []) else s1.answerSlip c (retBytes c h r.data)

/-! ### Checks -/

/-- Check 1 of R408: the offset of the first header byte at fault. (DEDUCED, assumption 71.) -/
def headerFault (t : Transport) (l : List Nat) : Option Nat :=
  let b := fun i => l.getD i 0
  if 4064 < imgLe b 8 2 then some 8
  else if b 2 / 4 ≠ 0 then some 2
  else if b 3 ≠ 0 then some 3
  else if 1 < b 11 % 16 then some 11
  else if imgLe b 16 8 ≠ 0 ∧ (b 11 % 16 = 0 ∨ t.code = 2 ∨ t.code = 3) then some 16
  else ((List.range 8).find? (fun i => b (24 + i) != 0)).map (· + 24)

/-- The header's fields, with the CRC check of R408 made over ISSUER_WID and TRANSPORT as 0. -/
def slipOf (c : Slip) (l : List Nat) : Slip :=
  let b := fun i => l.getD i 0
  { c with opcode := imgLe b 0 2, flags := imgLe b 2 2, seq := imgLe b 4 4, params := l.drop 32, token := imgLe b 16 8, auth := b 11 % 16 == 1 }
def slipCrcOk (l : List Nat) : Bool := slipCrc (l.take 10 ++ [0, l.getD 11 0 % 16] ++ l.drop 12) == ofBytes ((l.drop 12).take 4)

/-- A parameter: its offset, its size, and the values that it admits. -/
structure PField where
  off : Nat
  size : Nat
  ok : Nat → Bool

/-- A row of the tables of R420 to R430: whom it serves (R418), the parameter bytes it requires, its parameters, the WIDs that it names (R432), the token it requires
(R419: signer's owner, whether a pair may sign, target WID, and what else the payload must hold), and what it does: none while it waits for the hardware. -/
structure OpRow where
  serves : State → List Nat → Nat → Transport → Bool
  need : List Nat → Nat
  fields : State → List Nat → List PField := fun _ _ => []
  names : List Nat → List Nat := fun _ => []
  token : State → List Nat → Option (Nat × (Nat → Bool) × Nat × ((Nat → Nat) → Bool)) := fun _ _ => none
  act : State → Slip → SlipEnv → Option Ret × State

/-- A little-endian parameter. -/
def par (p : List Nat) (o n : Nat) : Nat := ofBytes ((p.drop o).take n)

/-- Check 7 of R408: the offset of the first parameter byte at fault (R431). -/
def paramFault (need : Nat) (fs : List PField) (p : List Nat) : Option Nat :=
  if p.length ≠ need then some (min p.length need)
  else (List.range need).find? (fun i =>
    match fs.find? (fun f => decide (f.off ≤ i) && decide (i < f.off + f.size)) with
    | some f => i == f.off && !f.ok (par p f.off f.size)
    | none => p.getD i 0 != 0)

/-- The transports on which a WID might send a slip (R418). -/
def anyTransport : List Transport := [.ring 0, .curator, .pf, .i3c]

/-- The token of a slip, by its byte at each offset; none where it cannot be read. The boolean says that it carries poison. -/
def State.tokenOf (s : State) (c : Slip) : Option (Nat → Nat) × Bool × State :=
  match c.t with
  | .ring _ =>
    let r := s.readBytes 0 340 c.token 21200
    let l := toBytes 21200 r.2.2.1
    (if r.1.isSome then none else some (fun i => l.getD i 0), r.2.1, r.2.2.2)
  | .curator => (some (fun i => (s.cur.tcm.get 0 ((c.token + i) % 0x20000)).toNat), false, s)
  | .pf => (some (fun i => s.slips.pf.byte (0x4000 + i)), false, s)
  | .i3c => (some (fun i => s.slips.i3c.byte (0x4000 + i)), false, s)

/-- The checks of a token (R419): none when it is accepted, otherwise the number of the failing check. -/
def State.tokenFault (s : State) (c : Slip) (need : Nat × (Nat → Bool) × Nat × ((Nat → Nat) → Bool)) (b : Nat → Nat) : Option Nat :=
  match imgCheck s.fuses need.1 need.2.1 none 0x30 21200 b with
  | some n => some n
  | none =>
    let p := fun i => b (4096 + i)
    if imgLe p 0 2 ≠ c.opcode ∨ p 2 ≠ need.2.2.1 ∨ (List.range 5).any (fun i => p (3 + i) != 0) = true ∨ ¬ need.2.2.2 p = true then some 8
    else if s.slips.nonce.get none c.t.num ≠ some (w64 (imgLe p 8 8)) then some 9
    else none

/-- Check 6 of R408: a token slip spends the nonce of its transport, whether it succeeds or not. -/
def State.checkToken (s : State) (c : Slip) (need : Option (Nat × (Nat → Bool) × Nat × ((Nat → Nat) → Bool))) : Option Ret × State :=
  match need with
  | none => (none, s)
  | some n =>
    if !c.auth then (some { status := St.deniedToken, detail := 1 }, s)
    else
      let k := s.tokenOf c
      let spent (s : State) : State := { s with slips := { s.slips with nonce := s.slips.nonce.set none c.t.num none } }
      if k.2.1 then (some { status := St.deviceError }, spent k.2.2)
      else match k.1 with
        | none => (some { status := St.deniedToken, detail := 1 }, spent k.2.2)
        | some b => match k.2.2.tokenFault c n b with
          | some d => (some { status := St.deniedToken, detail := d }, spent k.2.2)
          | none => (none, spent k.2.2)

/-- The groups served in recovery and in Quarantine: information, images and boot, and the Annals (R393, R455). -/
def recoveryGroup (op : Nat) : Bool := op / 256 == 0 || op / 256 == 1 || op / 256 == 6

/-- Checks 3 to 8 of R408 that come before a row acts: the answer of the first that fails. (DEDUCED, assumption 70.) -/
def State.slipChecks (s : State) (row : Option OpRow) (c : Slip) : Option Ret × State :=
  match row with
  | none => (some { status := St.badOpcode }, s)
  | some r =>
    if (s.kpr.recovery = true ∨ s.mode = 7) ∧ ¬(recoveryGroup c.opcode = true ∧ c.t = .i3c) then (some { status := St.recovery }, s)
    else if !r.serves s c.params c.wid c.t then
      (some { status := if anyTransport.any (fun t => r.serves s c.params c.wid t) then St.deniedTransport else St.deniedIssuer }, s)
    else
      let k := s.checkToken c (r.token s c.params)
      match k.1 with
      | some a => (some a, k.2)
      | none =>
        match paramFault (r.need c.params) (r.fields k.2 c.params) c.params with
        | some d => (some { status := St.badParam, detail := d }, k.2)
        | none => match (r.names c.params).find? (fun w => s.slips.destroying.contains w) with
          | some w => (some { status := St.deniedState, detail := w }, k.2)
          | none => (none, k.2)

/-- Run the row of the slip in hand: it is answered, or the Keeper waits for the hardware. (DEDUCED, assumption 69.) -/
def State.runSlip (s : State) (row : Option OpRow) (w : Work) (e : SlipEnv) : State :=
  match row with
  | none => s.closeSlip w.slip w.restarted { status := St.badOpcode }
  | some r =>
    let a := r.act s w.slip e
    match a.1 with
    | some ret => a.2.closeSlip w.slip w.restarted ret
    | none => a.2

/-- A slip taken (R408, R410): the checks in order, the stored header of a SEQUENCE that has been answered, then the row. -/
def State.beginSlip (s : State) (rows : Nat → Option OpRow) (x : RawSlip) (e : SlipEnv) : State :=
  match x.bytes with
  | none => s.answerSlip x.slip (retBytes x.slip { seq := 0, opcode := 0, status := St.deviceError, detail := 0 } [])
  | some l =>
    let c := slipOf x.slip l
    let now (st d : Nat) : State := s.answerSlip c (retBytes c { seq := c.seq, opcode := c.opcode, status := st, detail := d } [])
    match headerFault c.t l with
    | some o => now St.badHeader o
    | none =>
      if !slipCrcOk l then now St.badCrc 0
      else match (s.slips.final.get [] c.t.num).find? (fun h => h.seq == c.seq) with
        | some h => s.answerSlip c (retBytes c h [])
        | none =>
          let k := s.slipChecks (rows c.opcode) c
          match k.1 with
          | some r => k.2.closeSlip c false r
          | none => State.runSlip { k.2 with slips := { k.2.slips with inHand := some { slip := c } } } (rows c.opcode) { slip := c } e

/-- Whether the Keeper serves a transport (R393, R417, R432, R455): it has left reset; in M2 the rings wait, in Watch it is halted, and in Quarantine it serves I3C alone. -/
def State.keeperServes (s : State) (t : Nat) : Bool :=
  let m := s.mode
  !s.pw.inReset && !s.kpr.faulted && s.getF F.kprStatus_bootStage 0 0 != 0 && m != 0 && m != 1 && (m != 7 || t == 66) && (m != 2 || decide (64 ≤ t))

/-- One visit of the Keeper to a transport (R417): the slip in hand goes on, or the transport's next slip is taken. -/
def State.visit (s : State) (rows : Nat → Option OpRow) (t : Nat) (e : SlipEnv) : State :=
  match s.slips.inHand with
  | some w => s.runSlip (rows w.slip.opcode) w e
  | none =>
    if !s.keeperServes t then s
    else
      let x := s.takeSlip t
      match x.1 with
      | some r => x.2.beginSlip rows r e
      | none => x.2

/-- The opcode of the next slip of a ring that can be read, from entry `head` on; nothing is taken yet. Up to `n` entries. -/
def State.peekRing (s : State) (w page tail : Nat) : Nat → Nat → Option Nat × State
  | 0, _ => (none, s)
  | n + 1, head =>
    if head = tail then (none, s)
    else
      let e := s.kRead (page + 64 + 8 * (head % 64)) 8
      let next (s : State) : Option Nat × State := State.peekRing s w page tail n ((head + 1) % 2 ^ 32)
      match e.1 with
      | none => if e.2.waiting then (none, e.2) else next e.2
      | some buf =>
        if buf % 4096 ≠ 0 ∨ 2 ^ 52 ≤ buf ∨ ¬ s.ringOk w buf = true then next e.2
        else
          let r := e.2.readBytes 0 3 buf 2
          if r.1.isSome && !r.2.2.2.waiting then next r.2.2.2 else (some (r.2.2.1 % 2 ^ 16), r.2.2.2)

/-- The opcode of the slip that waits at a transport, or is in hand from it. -/
def State.waitingOp (s : State) (t : Nat) : Option Nat × State :=
  match s.slips.inHand with
  | some w => (if w.slip.t.num = t then some w.slip.opcode else none, s)
  | none =>
    if t < 64 then
      let page := s.getF F.wldSlipBell_ringPage 0 t * 4096
      if t < 2 ∨ page = 0 ∨ ¬ s.ringOk t page = true ∨ ¬ s.slips.belled.contains t = true then (none, s)
      else
        let i := s.kRead page 12
        match i.1 with
        | some v => i.2.peekRing t page (v % 2 ^ 32) 65 (if s.slips.page.get 0 t = page then v / 2 ^ 32 % 2 ^ 32 else 0)
        | none => (none, i.2)
    else match (s.takeSlip t).1 with
      | some r => (r.bytes.map (fun l => (slipOf r.slip l).opcode), s)
      | none => (none, s)

/-- The transport whose turn is next: round robin over those with something to take (R417). -/
def State.nextTurn (s : State) : Option Nat :=
  (List.range 65).findSome? (fun i =>
    let t := 2 + (s.slips.turn - 2 + i) % 65
    let some_ : Bool := if t < 64 then s.slips.belled.contains t else (s.takeSlip t).1.isSome
    if s.keeperServes t && some_ then some t else none)

/-! ### What rows use -/

/-- The step that the slip in hand has reached, and the number it keeps. -/
def State.phase (s : State) : Nat := match s.slips.inHand with
  | some w => w.phase
  | none => 0
def State.kept (s : State) : Nat := match s.slips.inHand with
  | some w => w.value
  | none => 0
def State.setPhase (s : State) (n v : Nat) : State := { s with slips := { s.slips with inHand := s.slips.inHand.map (fun w => { w with phase := n, value := v }) } }

/-- Answers. -/
def State.done (s : State) (data : List Nat := []) (detail : Nat := 0) : Option Ret × State := (some { status := St.ok, detail := detail, data := data }, s)
def State.deny (s : State) (status : Nat) (detail : Nat := 0) : Option Ret × State := (some { status := status, detail := detail }, s)
/-- A hardware check refuses (R431): the refuser's code, and the SVC offset of the refusing register. -/
def State.hwRefuse (s : State) (code reg : Nat) : Option Ret × State := s.deny St.refusedHw (code + reg * 2 ^ 32)
/-- The slip stays in hand. -/
def State.hold (s : State) (phase value : Nat) : Option Ret × State := (none, s.setPhase phase value)

/-- Start an operation (R417): at most 8 exist, and a ninth waits or is answered BUSY under NO_QUEUE. Ids run from 1 to 255. -/
def State.start (s : State) (c : Slip) (wid : Nat) (f : State → Nat → State) : Option Ret × State :=
  if 8 ≤ s.slips.started.length then
    (if c.flags / 2 % 2 = 1 then s.deny St.busy (s.slips.started.headD { id := 0, opcode := 0, wid := 0 }).opcode else s.hold 0 0)
  else
    let id := s.slips.nextId
    let s1 : State := { s with slips := { s.slips with nextId := id % 255 + 1, started := s.slips.started ++ [{ id := id, opcode := c.opcode, wid := wid }] } }
    (some { status := St.started, detail := id }, f s1 id)

end Sys2Proof.Machine
end

