-- ==== Sys2Proof/Machine/SlipOps.lean ====
section
/-! DEFINITION. What the slips of groups 0x00, 0x01, 0x04, 0x05 and 0x06 do (R420, R424 to R426). -/
namespace Sys2Proof.Machine

/-! ### Information, images and boot (R420) -/

/-- GET_INFO. -/
def State.opGetInfo (s : State) (_c : Slip) (_e : SlipEnv) : Option Ret × State :=
  let v := match s.kpr.images.get none 1 with
    | some l => l.hdr.version
    | none => 0
  s.done (toBytes 8 s.fuses.serial.toNat ++ toBytes 8 (s.regWord .kprStatus 0 0).toNat ++ toBytes 8 v.toNat ++ toBytes 8 (csrReset 0 0xF13).toNat ++ [s.mode])

/-- GET_NONCE (R419): a fresh value of the RNG, kept for the next token slip of the transport. -/
def State.opGetNonce (s : State) (c : Slip) (_e : SlipEnv) : Option Ret × State :=
  let v := w64 (Config.freeRandom s.fresh).toNat
  let s1 : State := { s with fresh := s.fresh + 1, slips := { s.slips with nonce := s.slips.nonce.set none c.t.num (some v) } }
  s1.done (toBytes 8 v.toNat)

/-- NONCE_EXPIRY (R419): 60 s after it was issued. -/
def State.nonceExpire (s : State) (t : Nat) : State := { s with slips := { s.slips with nonce := s.slips.nonce.set none t none } }

/-- GET_RANDOM. -/
def State.opGetRandom (s : State) (c : Slip) (_e : SlipEnv) : Option Ret × State :=
  let n := par c.params 0 2
  let k := (n + 63) / 64
  let l := (List.range k).flatMap (fun i => toBytes 64 (Config.freeRandom (s.fresh + i)).toNat)
  State.done { s with fresh := s.fresh + k } (l.take n)

/-- IMAGE_STATUS: 16 bytes for each TYPE and slot, then the four fused counts. -/
def State.opImageStatus (s : State) (_c : Slip) (_e : SlipEnv) : Option Ret × State :=
  let one (type slot : Nat) : List Nat := match s.kpr.dir.find? (fun d => d.type == type && d.slot == slot) with
    | some d => let h := imgHdr (s.partBytes d)
      [(s.imgValid d).toNat, h.svn, 0, 0, 0, 0, 0, 0] ++ toBytes 8 h.version.toNat
    | none => List.replicate 16 0
  s.done ((List.range 4).flatMap (fun i => one (i + 1) 0 ++ one (i + 1) 1) ++ (List.range 4).map (fun i => s.fuses.svn.get 0 (i + 1) % 256))

/-- WARM_RESET (R420, R536): the reset follows after DELAY_MS. -/
def State.opWarmReset (s : State) (c : Slip) (_e : SlipEnv) : Option Ret × State := State.done { s with pw := { s.pw with warm := some (par c.params 0 1) } }

/-- Whether the Keeper's flash port refuses a range (R381, R420): a partition of TYPE 0x10 or 0x11, or an image slot that is loaded. -/
def State.flashDenied (s : State) (a n : Nat) : Bool :=
  s.flashInUse a n || s.kpr.dir.any (fun d => (d.type == 0x10 || d.type == 0x11) && decide (a < d.offset + d.length) && decide (d.offset < a + n))

/-- FLASH_ERASE: in recovery only. -/
def State.opFlashErase (s : State) (c : Slip) (e : SlipEnv) : Option Ret × State :=
  let a := par c.params 0 4
  let n := par c.params 4 2 * 65536
  if !s.kpr.recovery then s.deny St.notReady
  else if s.flashDenied a n then s.hwRefuse 0 0
  else if !e.works then s.deny St.deviceError
  else ((s.flashErase a n).dropLines a n).done

/-- FLASH_WRITE: in recovery only. -/
def State.opFlashWrite (s : State) (c : Slip) (e : SlipEnv) : Option Ret × State :=
  let a := par c.params 0 4
  let n := par c.params 4 2
  if !s.kpr.recovery then s.deny St.notReady
  else if s.flashDenied a n then s.hwRefuse 0 0
  else if !e.works then s.deny St.deviceError
  else ((s.flashProgram a (c.params.drop 16)).dropLines a n).done

/-- PROVISION_KEY (R390): in recovery only. -/
def State.opProvisionKey (s : State) (c : Slip) (e : SlipEnv) : Option Ret × State :=
  if !s.kpr.recovery then s.deny St.notReady
  else if !e.works then s.deny St.deviceError
  else
    let r := s.fuseHash (par c.params 0 1 % 4) (par c.params 8 48)
    if r.1 then r.2.done else r.2.hwRefuse 1 0

/-- REVOKE_KEY (R390). -/
def State.opRevokeKey (s : State) (c : Slip) (e : SlipEnv) : Option Ret × State :=
  if !e.works then s.deny St.deviceError
  else
    let r := s.fuseRevoke (par c.params 0 1) (par c.params 1 1 % 4)
    if r.1 then r.2.done else r.2.hwRefuse 1 0

/-! ### Power (R424) -/

/-- MODE_SET (R424, R445, R459): for modes 0, 1 and 2 the answer comes before entry; for 4 and 5 once the mode is entered. -/
def State.opModeSet (s : State) (c : Slip) (_e : SlipEnv) : Option Ret × State :=
  let m := par c.params 0 1
  if s.phase = 1 then
    (if s.isF F.pwrModeStatus_transition 0 0 then s.hold 1 0 else if s.mode = m then s.done else s.hwRefuse Refuser.policy 0x343010)
  else if s.isF F.pwrModeStatus_transition 0 0 then s.deny St.busy (if s.pw.target = some 6 then 0x0502 else 0x0400)
  else if s.mode = 3 ∧ (m = 4 ∨ m = 5) ∧ ¬ s.kpr.holdM3 = true then s.deny St.notReady
  else
    let r := s.modeRequest m
    if r.1 then (if m < 3 then r.2.done else r.2.hold 1 0) else r.2.hwRefuse Refuser.policy 0x343010

/-- POWER_LIMIT (R424, R458). -/
def State.opPowerLimit (s : State) (c : Slip) (_e : SlipEnv) : Option Ret × State := (s.limitWrite (w64 (par c.params 0 2))).done

/-- DOMAIN_SET (R424, R437): REQ_WID is the issuer's, or 0 for the Open world on a domain that WID 0 owns. -/
def State.opDomainSet (s : State) (c : Slip) (_e : SlipEnv) : Option Ret × State :=
  let d := par c.params 0 2
  let a := par c.params 2 1
  let r : DomReq := { action := a, wid := if c.wid = 2 ∧ s.domOwner d = 0 then 0 else c.wid, timerUs := par c.params 4 4 }
  let held : Bool := s.isF F.pwrModeStatus_transition 0 0 || s.isF F.pwrDomStatus_busy 0 d
  let s1 := s.domRequest d r
  match (if held then none else s.refuserOf d a r.wid) with
  | some code => s1.hwRefuse code 0x343000
  | none => s1.done

/-- CORE_N (R296, R402, R424, R453). (DEDUCED, assumption 60.) -/
def State.opCoreN (s : State) (c : Slip) (_e : SlipEnv) : Option Ret × State :=
  let h := par c.params 0 1
  let n := par c.params 1 1
  let k := s.physCore h
  let overTop := decide (s.getF F.mlgCoreStatus_nCeil k 0 < n)
  if s.isF F.wldSeat_fixed 0 h || overTop || s.mode == 3 then
    let s1 := if overTop then (s.incSat F.kprLimitCount_vfClamps 0 0).limitHit 1 (w64 n) else s
    (s1.powerRefuse k c.wid Refuser.policy false).hwRefuse Refuser.policy 0
  else State.done (State.syncCore { s with pw := { s.pw with reqN := s.pw.reqN.set 6 h n } } k)

/-- POWER_STATUS. -/
def State.opPowerStatus (s : State) (_c : Slip) (_e : SlipEnv) : Option Ret × State :=
  s.done ([s.mode, 0] ++ toBytes 2 (s.getF F.pwrLimitCtrl_limitW 0 0) ++ toBytes 2 (s.getF F.pwrLimitStatus_powerW 0 0) ++ [0, 0]
    ++ toBytes 8 (s.getF F.pwrLimitStatus_throttleEvents 0 0))

/-! ### The Margin Ledger (R425) -/

/-- LEDGER_READ. -/
def State.opLedgerRead (s : State) (c : Slip) (_e : SlipEnv) : Option Ret × State :=
  let l := (s.ledger.recs.filter (fun r => decide (par c.params 0 4 ≤ r.seq))).take (min 63 (par c.params 4 2))
  s.done (toBytes 2 l.length ++ l.flatMap LedgerRec.bytes)

/-- LEDGER_STATUS. -/
def State.opLedgerStatus (s : State) (_c : Slip) (_e : SlipEnv) : Option Ret × State :=
  let sum (l : List Nat) : Nat := l.foldl (· + ·) 0
  let dq := sum ((List.range 12).map (fun k => (s.retiredLanes k).length))
  let wires := sum ((List.range 160).map (fun st => sum ((List.range 8).map (fun i => sum ((List.range 4).map (fun j => s.getF (F.rtSpare_valid j) st i))))))
  let lanes := sum ((List.range 6).map (fun k => s.getF F.axgPortStatus_repairedM0 k 0 + s.getF F.axgPortStatus_repairedM1 k 0))
  s.done ([s.getF F.mlgStatus_reservesLeft 0 0, s.getF F.mlgStatus_coresRetired 0 0, min dq 255, min wires 255, min lanes 255, 0, 0, 0] ++ toBytes 8 s.ledger.survey)

/-- SURVEY_START (R425, R468). (DEDUCED, assumption 85.) -/
def State.opSurveyStart (s : State) (c : Slip) (_e : SlipEnv) : Option Ret × State :=
  if (List.range 256).any (fun h => (s.hart h).debug) then s.hwRefuse Refuser.debugActive 0x343010
  else if !(s.mode == 4 || s.mode == 5) || s.isF F.pwrModeStatus_transition 0 0 || s.sequencesBusy then s.hwRefuse Refuser.policy 0x343010
  else s.start c 0 (fun s _ => (s.modeRequest 6).2)

/-- LEDGER_NOTIFY. -/
def State.opLedgerNotify (s : State) (c : Slip) (_e : SlipEnv) : Option Ret × State := (s.setF F.mlgCtrl_notifyMask 0 0 (par c.params 0 1)).done

/-! ### The Annals (R426) -/

/-- A record's 256 bytes (R495). -/
def AnnRec.bytes (r : AnnRec) : List Nat :=
  let sev := r.sev % 8 + 8 * r.redacted.toNat + 16 * r.partialSnap.toNat + 32 * r.timeUnset.toNat
  let head := toBytes 8 r.seq ++ toBytes 8 r.time ++ toBytes 2 r.code ++ [sev, r.snapSet % 256, r.snapshot.length % 256, r.stop % 256, r.unit % 256, r.wid % 256]
    ++ toBytes 4 r.suppressed ++ toBytes 4 r.dropped ++ toBytes 8 r.detail0.toNat ++ toBytes 8 r.detail1.toNat ++ toBytes 4 r.boot ++ List.replicate 8 0
  let snap := (List.range 24).flatMap (fun i => toBytes 8 (r.snapshot.getD i 0).toNat)
  head ++ toBytes 4 (crc32c (head ++ snap)) ++ snap

/-- The records that ANNALS_READ returns, ascending: from the staging SRAM, or from the archive once no longer staged; none below the last clear (R503). -/
def State.annalsFrom (s : State) (first n : Nat) : List AnnRec :=
  let a := s.annals
  let old := a.archive.filter (fun r => !a.staging.any (fun q => q.seq == r.seq))
  let l := (old ++ a.staging).filter (fun r => decide (first ≤ r.seq) && decide (a.cleared ≤ r.seq))
  ((l.mergeSort (fun x y => decide (x.seq ≤ y.seq))).take n)

/-- ANNALS_READ. -/
def State.opAnnalsRead (s : State) (c : Slip) (_e : SlipEnv) : Option Ret × State :=
  let l := s.annalsFrom (par c.params 0 8) (par c.params 8 1)
  s.done ([l.length] ++ l.flatMap AnnRec.bytes)

/-- ANNALS_FREEZE (R502): a freeze ends on ON = 0 from the transport that set it. -/
def State.opAnnalsFreeze (s : State) (c : Slip) (_e : SlipEnv) : Option Ret × State :=
  let t := c.t.num
  if par c.params 0 1 = 0 then (s.endFreeze t).done
  else if s.annals.freezers.contains t then s.done
  else (State.annSync { s with annals := { s.annals with freezers := s.annals.freezers ++ [t] } }).done

/-- ANNALS_CLEAR (R504): the record of the clear names the issuer and the token's pair. -/
def State.opAnnalsClear (s : State) (c : Slip) (_e : SlipEnv) : Option Ret × State :=
  let b := (s.tokenOf c).1
  (s.annClear c.wid (match b with
    | some f => f 6
    | none => 0)).done

/-- ANNALS_NOTIFY (R505). -/
def State.opAnnalsNotify (s : State) (c : Slip) (_e : SlipEnv) : Option Ret × State :=
  State.done { s with annals := { s.annals with notifySev := par c.params 0 1, notifyCount := par c.params 2 2, notifySeen := 0 } }

end Sys2Proof.Machine
end

