-- ==== Sys2Proof/Machine/SlipWorld.lean ====
section
/-! DEFINITION. What the slips of groups 0x02 and 0x03 do: worlds, seats, shelves, meters, keys and the deed table (R421 to R423). -/
namespace Sys2Proof.Machine

/-! ### Keys (R315) -/

/-- Run a key command: the slip waits while another runs, and until its own is complete; a refused one answers REFUSED_HW. Then `f`. -/
def State.keySlip (s : State) (op slot owner : Nat) (f : State → Nat → Option Ret × State) : Option Ret × State :=
  if s.phase = 1 then (if s.keyCmd.isSome then (none, s) else f s s.kept)
  else if s.isF F.wldKeyCmd_busy 0 0 then s.hold 0 0
  else
    let s1 := s.keyCommand op slot owner
    if s1.keyCmd.isNone then s1.hwRefuse 0 0x323800 else s1.hold 1 slot

/-- The slots that a world owns. -/
def State.slotsOf (s : State) (w : Nat) : List Nat := (List.range 256).filter (fun k => s.slotOf k w)

/-- The lowest free key slot above 2. -/
def State.freeSlot (s : State) : Option Nat :=
  ((List.range 253).map (· + 3)).find? (fun k => !s.isF F.wldKeySlot_valid 0 k && s.getF F.wldKeySlot_refs 0 k == 0)

/-- KEY_NEW. -/
def State.opKeyNew (s : State) (c : Slip) (_e : SlipEnv) : Option Ret × State :=
  let w := par c.params 0 1
  let f (s : State) (k : Nat) : Option Ret × State := s.done [k]
  if s.phase = 1 then s.keySlip 1 0 w f
  else if (s.slotsOf w).isEmpty then s.deny St.deniedState w
  else if 4 ≤ (s.slotsOf w).length then s.deny St.noResource
  else match s.freeSlot with
    | none => s.deny St.noResource
    | some k => s.keySlip 1 k w f

/-- KEY_DROP. -/
def State.opKeyDrop (s : State) (c : Slip) (_e : SlipEnv) : Option Ret × State := s.keySlip 2 (par c.params 0 1) 0 (fun s _ => s.done)

/-! ### Worlds (R421, R422) -/

/-- Whether a deed binds a world: not FREE and owned by it, or shared with it. -/
def deedBinds (d : Word) (w : Nat) : Bool := dState d != 0 && (dOwner d == w || ((dState d == 2 || dState d == 3) && dSharer d == w))

/-- Whether a virtual instance, a copy channel, a requester-ID mapping, an annex grant, a pin or a ring still names a world (R422, steps 1 to 6). -/
def State.bindings (s : State) (w : Nat) : Bool :=
  (List.range 62).any (fun i => s.created i && s.getF F.hpViCfg_wid 0 i == w)
    || (List.range 2).any (fun e => (List.range 32).any (fun c => s.chanWid e c == w))
    || (List.range 2).any (fun k => s.getF F.hpPortCfg_defaultWid k 0 == w || (List.range 32).any (fun n => s.isF F.hpRidWid_valid k n && s.getF F.hpRidWid_wid k n == w))
    || (List.range 6).any (fun k => (List.range 16).any (fun j => (s.regWord .axgGrant k j).getLsbD w))
    || (List.range 4).any (fun k => (List.range 8).any (fun i => s.getF (F.wldGpioWid_wid i) 0 k == w))
    || s.getF F.wldSlipBell_ringPage 0 w != 0

/-- Whether a world holds a seat. -/
def State.seats (s : State) (w : Nat) : Bool := (List.range 256).any (fun h => s.seat h == w)

/-- Forget what BELL_ALLOW has said about a world. -/
def State.clearBells (s : State) (w : Nat) : State :=
  let keep (l : List (Nat × Nat)) : List (Nat × Nat) := l.filter (fun e => e.1 != w && e.2 != w)
  { s with slips := { s.slips with sends := keep s.slips.sends, receives := keep s.slips.receives } }

/-- A world's measurement at zero, its log empty, and no record of its seats (R397, R422). -/
def State.clearMeasure (s : State) (w : Nat) : State :=
  { s with kpr := { s.kpr with meas := s.kpr.meas.set 0 w 0, logs := s.kpr.logs.set [] w [], seated := s.kpr.seated.filter (· != w) } }

/-- WORLD_CREATE. -/
def State.opWorldCreate (s : State) (c : Slip) (_e : SlipEnv) : Option Ret × State :=
  let w := par c.params 0 1
  let f (s : State) (k : Nat) : Option Ret × State := (((s.clearBells w).clearMeasure w).setRegWord .wldBellPairs 0 w (1#64 <<< w)).done [k]
  if s.phase = 1 then s.keySlip 1 0 w f
  else if !(s.slotsOf w).isEmpty || s.seats w || s.deeds.any (fun e => deedBinds e.2 w) || s.bindings w then s.deny St.deniedState w
  else match s.freeSlot with
    | none => s.deny St.noResource
    | some k => s.keySlip 1 k w f

/-- WORLD_DESTROY: the operation that it starts is `destroyWorld`. (DEDUCED, assumption 78.) -/
def State.opWorldDestroy (s : State) (c : Slip) (_e : SlipEnv) : Option Ret × State :=
  let w := par c.params 0 1
  if s.seats w then s.deny St.deniedState w
  else s.start c w (fun s _ => { s with slips := { s.slips with destroying := s.slips.destroying ++ [w] } })

/-! ### Seats -/

/-- SEAT_LEND (R294, R297): the checks are made when the slip is taken; a remap of the hart that is in progress ends first (R45). (PRESUMED, assumption 77.) -/
def State.opSeatLend (s : State) (c : Slip) (_e : SlipEnv) : Option Ret × State :=
  let h := par c.params 0 1
  let w := par c.params 1 1
  let fixed := par c.params 2 1 == 1
  let n := par c.params 3 1
  let start := par c.params 8 8
  let page := start / 4096 % 2 ^ 40
  let readable : Bool := decide (start < 2 ^ 52) && (match s.effDeed page with
    | some d => deedAllows d w false
    | none => false)
  let go (s : State) : Option Ret × State :=
    let r := s.lend h w fixed n (w64 start)
    if r.1 then r.2.done else r.2.hold 1 0
  if s.phase = 1 then go s
  else if !readable then s.deny St.deniedState page
  else if fixed ∧ s.getF F.mlgCoreStatus_nCeil (s.physCore h) 0 < n then s.hwRefuse Refuser.policy (0x320000 + 8 * h)
  else if s.debugHeld h then s.hwRefuse Refuser.debugActive (0x320000 + 8 * h)
  else if s.getF F.coreHartMap_state 0 h = 2 then s.hold 0 0
  else go s

/-! ### Doorbell pairs -/

/-- Whether a allows a doorbell to, or from, b: until BELL_ALLOW says otherwise a world allows itself alone (R299). (DESIGN CHOICE, assumption 79.) -/
def bellSays (l : List (Nat × Nat)) (a b : Nat) : Bool := (a == b && decide (2 ≤ a)) != l.contains (a, b)
/-- Record what a says about b. -/
def bellSay (l : List (Nat × Nat)) (a b : Nat) (yes : Bool) : List (Nat × Nat) :=
  if bellSays l a b = yes then l else if l.contains (a, b) then l.filter (· != (a, b)) else l ++ [(a, b)]

/-- The pair's bit as both sides say. -/
def State.bellPair (s : State) (a b : Nat) : State :=
  let on := bellSays s.slips.sends a b && bellSays s.slips.receives b a
  s.setRegWord .wldBellPairs 0 a (putBits (s.regWord .wldBellPairs 0 a) b 1 on.toNat)

/-- BELL_ALLOW. -/
def State.opBellAllow (s : State) (c : Slip) (_e : SlipEnv) : Option Ret × State :=
  let p := par c.params 0 1
  let yes := par c.params 2 1 == 1
  if par c.params 1 1 = 0 then (State.bellPair { s with slips := { s.slips with sends := bellSay s.slips.sends c.wid p yes } } c.wid p).done
  else (State.bellPair { s with slips := { s.slips with receives := bellSay s.slips.receives c.wid p yes } } p c.wid).done

/-! ### Shelves -/

/-- Whether a flush of R101 runs. -/
def State.flushing (s : State) : Bool := s.isF F.llcShelfCtrl_flushing 0 0

/-- A shelf register written by the Keeper: the flush that R101 calls for begins with the write. -/
def State.shelfPut (s : State) (r : RegName) (i : Nat) (v : Word) : State :=
  let n := s.writeReg r 0 i v allBytes
  let fl := flushMask s n State.llcMask
  let fd := flushMask s n State.dirMask
  if fl = 0 ∧ fd = 0 then n
  else { n.setF F.llcShelfCtrl_flushing 0 0 1 with flushWays := n.flushWays ||| BitVec.ofNat 12 fl, flushDirWays := n.flushDirWays ||| BitVec.ofNat 16 fd }

/-- An order of shelf register writes in which every write satisfies R100; none if there is none. Up to `n` writes. -/
def State.shelfOrder (s : State) : Nat → List (RegName × Nat × Word) → Option (List (RegName × Nat × Word))
  | _, [] => some []
  | 0, _ => none
  | n + 1, l => l.findSome? (fun (e : RegName × Nat × Word) =>
      let t := s.writeReg e.1 0 e.2.1 e.2.2 allBytes
      if t.shelfOk then (t.shelfOrder n (l.erase e)).map (fun o => e :: o) else none)

/-- Shelf register writes in order, as far as the first that flushes: the next waits for the end of its flush (R101). -/
def State.shelfWrites (s : State) (l : List (RegName × Nat × Word)) : State :=
  l.foldl (fun s e => if s.flushing then s else s.shelfPut e.1 e.2.1 e.2.2) s

/-- SHELF_SET: a member comes into the class, and a former member returns to class 0; the slip stays in hand while a flush runs. (DEDUCED, assumption 76.) -/
def State.opShelfSet (s : State) (c : Slip) (_e : SlipEnv) : Option Ret × State :=
  let k := par c.params 0 1
  let members := par c.params 8 8
  let word := w64 (par c.params 2 2 + par c.params 4 2 * 2 ^ 16 + par c.params 6 1 * 2 ^ 32)
  let cls (w : Nat) : Nat := if members / 2 ^ w % 2 = 1 then k else if s.classOf w = k then 0 else s.classOf w
  let wids := (List.range 4).map (fun j => ((.llcWidClass, j, w64 (ofBytes ((List.range 8).map (fun i => cls (16 * j + 2 * i) + 16 * cls (16 * j + 2 * i + 1))))) : RegName × Nat × Word))
  let ctl := putBits (s.regWord .llcShelfCtrl 0 0 &&& 0xFFFF) k 1 (par c.params 7 1)
  let all : List (RegName × Nat × Word) := (.llcShelf, k, word) :: (.llcShelfCtrl, 0, ctl) :: wids
  let l := all.filter (fun e => (s.writeReg e.1 0 e.2.1 e.2.2 allBytes).regWord e.1 0 e.2.1 != s.regWord e.1 0 e.2.1)
  if s.flushing then (none, s)
  else match s.shelfOrder l.length l with
    | some o =>
      let t := s.shelfWrites o
      if t.flushing then t.hold 1 0 else t.done
    | none => s.hwRefuse 0 0x3040A0

/-! ### Metered lanes -/

/-- One port's lanes and wheels without a world (R185, R186). -/
def State.portUnmeter (s : State) (w st p : Nat) : State :=
  let v := s.regWord .rtMeterLane st p
  (List.range 4).foldl (fun (s : State) (k : Nat) =>
    if v.getLsbD (8 * k + 7) && bitsOf v (8 * k) 6 == w then
      let s1 := s.setRegWord .rtMeterLane st p (putBits (s.regWord .rtMeterLane st p) (8 * k) 8 0)
      (List.range 16).foldl (fun (s : State) (j : Nat) =>
        let i := (6 * (j / 8) + p) * 8 + j % 8
        (List.range 8).foldl (fun (s : State) (b : Nat) =>
          let x := s.regWord .rtMeterWheel st i
          if x.getLsbD (8 * b + 2) && bitsOf x (8 * b) 2 == k then s.setRegWord .rtMeterWheel st i (putBits x (8 * b) 3 0) else s) s) s1
    else s) s

/-- One port's lane and slots given to a world; false where another world has the lane or a slot. -/
def State.portMeter (s : State) (w lane slots st p : Nat) : Bool × State :=
  let v := s.regWord .rtMeterLane st p
  let i (j : Nat) : Nat := (6 * (j / 8) + p) * 8 + j % 8
  let want (j b : Nat) : Bool := slots / 2 ^ (8 * (j % 8) + b) % 2 == 1
  let clash := v.getLsbD (8 * lane + 7)
    || (List.range 16).any (fun j => (List.range 8).any (fun b => want j b && (s.regWord .rtMeterWheel st (i j)).getLsbD (8 * b + 2)))
  let s1 := s.setRegWord .rtMeterLane st p (putBits v (8 * lane) 8 (w + 128))
  (!clash, (List.range 16).foldl (fun (s : State) (j : Nat) => (List.range 8).foldl (fun (s : State) (b : Nat) =>
    if want j b then s.setRegWord .rtMeterWheel st (i j) (putBits (s.regWord .rtMeterWheel st (i j)) (8 * b) 3 (lane + 4)) else s) s) s1)

/-- Every port of the mesh. -/
def meterPorts : List (Nat × Nat) := (List.range 960).map (fun i => (i / 6, i % 6))

/-- The staging copies without a world. -/
def State.unmeter (s : State) (w : Nat) : State :=
  (meterPorts.foldl (fun (s : State) (e : Nat × Nat) => s.portUnmeter w e.1 e.2) s).setRegWord .niMeterWids 0 0 (s.regWord .niMeterWids 0 0 &&& ~~~(1#64 <<< w))

/-- METER_SET (R184 to R187): the lane and slots on every port of both networks, then the commit. -/
def State.opMeterSet (s : State) (c : Slip) (_e : SlipEnv) : Option Ret × State :=
  let w := par c.params 0 1
  let lane := par c.params 1 1
  if s.isF F.niFabricStatus_meterPending 0 0 then (none, s)
  else if s.phase = 1 then s.done
  else if lane = 0xFF then (if s.seats w then s.deny St.deniedState w else ((s.unmeter w).meterCommitWrite).hold 1 0)
  else
    let r := meterPorts.foldl (fun (a : Bool × State) (e : Nat × Nat) =>
      let b := a.2.portMeter w lane (par c.params 8 8) e.1 e.2
      (a.1 && b.1, b.2)) (true, s.unmeter w)
    if !r.1 then s.deny St.noResource
    else ((r.2.setRegWord .niMeterWids 0 0 (r.2.regWord .niMeterWids 0 0 ||| (1#64 <<< w))).meterCommitWrite).hold 1 0

/-! ### World status and deeds -/

/-- The deeds not FREE that a world owns: those of the table once it is READY, where a page not listed is the Open world's. -/
def State.deedsOf (s : State) (w : Nat) : Nat :=
  let mine := (s.deeds.filter (fun e => dState e.2 != 0 && dOwner e.2 == w)).length
  if !s.isF F.wldDeedTable_ready 0 0 then 0 else if w = 2 then s.deedCount - s.deeds.length + mine else mine

/-- WORLD_STATUS. -/
def State.opWorldStatus (s : State) (c : Slip) (_e : SlipEnv) : Option Ret × State :=
  let w := par c.params 0 1
  let st := if s.slips.destroying.contains w then 2 else if (s.slotsOf w).isEmpty then 0 else 1
  let lane := ((s.ni 0).lane 5 w).getD 0xFF
  let bit (i : Nat) : Nat := (List.range 8).foldl (fun (a j : Nat) => if s.seat (8 * i + j) = w then a + 2 ^ j else a) 0
  s.done ([st, s.classOf w, lane, (s.slotsOf w).length % 256, 0, 0, 0, 0] ++ (List.range 32).map bit ++ toBytes 8 (s.deedsOf w))

/-- DEED_RECLAIM: RECLAIM through command page 0. -/
def State.opDeedReclaim (s : State) (c : Slip) (_e : SlipEnv) : Option Ret × State :=
  if s.isF F.wldDeedStatus_busy 0 0 then (none, s)
  else
    let finish (s : State) : Option Ret × State :=
      let r := s.getF F.wldDeedStatus_result 0 0
      let n := s.getF F.wldDeedStatus_donePages 0 0
      if r = Deed.done then s.done [] n else if r = Deed.notReady then s.deny St.notReady 3 else s.deny St.deniedState (n + r * 2 ^ 32)
    if s.phase = 1 then finish s
    else
      let s1 := (s.setRegWord .wldDeedArg 0 0 (w64 (par c.params 0 5 + par c.params 8 4 * 2 ^ 40))).deedStart 0 7 0 0
      if s1.isF F.wldDeedStatus_busy 0 0 then s1.hold 1 0 else finish s1

/-- Whether the deed table and the regions are locked (R311). -/
def State.deedsLocked (s : State) : Bool := s.isF F.wldDeedTable_lock 0 0

/-- DEPO_DEEDS (R312). (DEDUCED, assumption 80.) -/
def State.opDepoDeeds (s : State) (c : Slip) (_e : SlipEnv) : Option Ret × State :=
  if s.deedsLocked then s.deny St.deniedState
  else (s.setRegWord .wldDepoDeed 0 (par c.params 0 1) (w64 (1 + par c.params 2 2 * 16 + par c.params 8 8))).done

/-- The deed tables to be covered by regions: the first and the last 64 KiB block of each (R311 to R313). -/
def State.deedTables (s : State) (base : Nat) : List (Nat × Nat) :=
  (base / 65536, (base + s.localTop / 512 - 1) / 65536) :: ((List.range 14).filter (fun n => decide (1 ≤ n) && s.isF F.wldDepoDeed_valid 0 n)).map (fun n =>
    let b := s.getF F.wldDepoDeed_base 0 n
    (b, b + 8 * s.getF F.wldDepoDeed_span 0 n - 1))

/-- DEED_TABLE_SETUP (R313): the regions, ENABLE, and LOCK once READY reads 1. -/
def State.opDeedTableSetup (s : State) (c : Slip) (_e : SlipEnv) : Option Ret × State :=
  if s.phase = 1 then (if s.isF F.wldDeedTable_ready 0 0 then (s.setF F.wldDeedTable_lock 0 0 1).done else (none, s))
  else if !(s.mode == 4 || s.mode == 5) then s.deny St.notReady
  else if s.deedsLocked then s.deny St.deniedState
  else
    let base := par c.params 8 8
    let need := s.deedTables base
    let free := (List.range 32).filter (fun n => !s.isF F.wldRegion_valid 0 n)
    if free.length < need.length then s.deny St.noResource
    else
      let s1 := (need.zip free).foldl (fun (s : State) (e : (Nat × Nat) × Nat) =>
        (s.regionWrite true e.2 (w64 (e.1.2 * 65536))).regionWrite false e.2 (w64 (e.1.1 * 65536 + 3))) s
      (s1.writeReg .wldDeedTable 0 0 (w64 (base + 1)) allBytes).hold 1 0

/-! ### The teardown of WORLD_DESTROY (R422) -/

/-- Whether a copy channel of a world is as R329's reset leaves it: disabled, without a job, and its page at its reset values. -/
def State.chanClean (s : State) (e c : Nat) : Bool :=
  !s.isF F.deChCfg_enable e c && s.rState (deRing e c) != 3 && (s.chan e c).jobs.isEmpty && (s.chan e c).blur.isEmpty
    && (deRing e c).regs.all (fun r => s.regWord r (deRing e c).u (deRing e c).i == r.resetConst)

/-- Steps 1 and 2: instances removed under R375, then channels reset under R329 and unbound; false while an instance or a reset remains. -/
def State.dropChannels (s : State) (w : Nat) : Bool × State :=
  let s1 := (List.range 62).foldl (fun (s : State) (i : Nat) =>
    if s.created i && s.getF F.hpViCfg_wid 0 i == w then (if s.resetting i then s.setVf i { s.vf i with removing := true } else s.flr i true) else s) s
  if (List.range 62).any (fun i => s1.created i && s1.getF F.hpViCfg_wid 0 i == w) then (false, s1)
  else
    let s2 := (List.range 64).foldl (fun (s : State) (g : Nat) =>
      let e := g / 32
      let c := g % 32
      if s.chanWid e c ≠ w then s
      else if s.chanClean e c then
        let s3 := (List.range 16).foldl (fun (s : State) (i : Nat) => if s.getF F.deScanCfg_channel e i = c then s.setF F.deScanCfg_enable e i 0 else s) s
        (((s3.setF F.deChCfg_wid e c 0).setF F.deChCfg_instance e c 0).setF F.deChCfg_minShare e c 0).setF F.deChCfg_quota e c 0
      else if s.rState (deRing e c) = 3 then s.setF F.deChCfg_enable e c 0
      else (s.setF F.deChCfg_enable e c 0).chanReset e c) s1
    (!(List.range 64).any (fun g => s2.chanWid (g / 32) (g % 32) == w), s2)

/-- Steps 3 to 6: requester-ID mappings, annex grants, pins and the ring. -/
def State.dropBindings (s : State) (w : Nat) : State :=
  let s1 := (List.range 2).foldl (fun (s : State) (k : Nat) =>
    let a := (List.range 32).foldl (fun (s : State) (n : Nat) => if s.isF F.hpRidWid_valid k n && s.getF F.hpRidWid_wid k n == w then s.setF F.hpRidWid_valid k n 0 else s) s
    if a.getF F.hpPortCfg_defaultWid k 0 = w then a.setF F.hpPortCfg_defaultWid k 0 2 else a) s
  let s2 := (List.range 96).foldl (fun (s : State) (i : Nat) => s.setRegWord .axgGrant (i / 16) (i % 16) (s.regWord .axgGrant (i / 16) (i % 16) &&& ~~~(1#64 <<< w))) s1
  let s3 := (List.range 32).foldl (fun (s : State) (pin : Nat) =>
    if s.getF (F.wldGpioWid_wid (pin % 8)) 0 (pin / 8) = w then (s.setF (F.wldGpioWid_wid (pin % 8)) 0 (pin / 8) 0).pinInput pin else s) s2
  { s3.setF F.wldSlipBell_ringPage 0 w 0 with slips := { s3.slips with belled := s3.slips.belled.filter (· != w), page := s3.slips.page.set 0 w 0 } }

/-- Step 7, the deeds: each is reclaimed or unshared by a command of page 0 (R305); false while one is left. -/
def State.dropDeeds (s : State) (w : Nat) : Bool × State :=
  let inUse : Bool := s.isF F.wldDeedStatus_busy 0 0 || (match s.slips.inHand with
    | some x => x.slip.opcode == 0x0302 && x.phase == 1
    | none => false)
  match s.deeds.find? (fun e => deedBinds e.2 w) with
  | none => (true, s)
  | some e =>
    if inUse then (false, s)
    else (false, (s.setRegWord .wldDeedArg 0 0 (w64 (e.1 + 2 ^ 40))).deedStart 0 (if dOwner e.2 = w then 7 else 4) 0 0)

/-- Step 7, the shelf class (R421): a sealed class is unsealed, then the world returns to class 0; false while a write or its flush is under way. -/
def State.dropClass (s : State) (w : Nat) : Bool × State :=
  let c := s.classOf w
  let v := putBits (s.regWord .llcWidClass 0 (w / 16)) (4 * (w % 16)) 4 0
  if s.flushing then (false, s)
  else if c = 0 then (true, s)
  else if s.sealedClass c then (false, s.shelfPut .llcShelfCtrl 0 (putBits (s.regWord .llcShelfCtrl 0 0 &&& 0xFFFF) c 1 0))
  else if (s.writeReg .llcWidClass 0 (w / 16) v allBytes).shelfOk then (false, s.shelfPut .llcWidClass (w / 16) v)
  else (true, s)

/-- Step 7, the key slots: DESTROY of each (R315); false while one is left. -/
def State.dropKeys (s : State) (w : Nat) : Bool × State :=
  match s.slotsOf w with
  | [] => (true, s)
  | k :: _ => (false, if s.isF F.wldKeyCmd_busy 0 0 ∨ s.getF F.wldKeySlot_refs 0 k ≠ 0 then s else s.keyCommand 2 k 0)

/-- Step 7, debug and consent bits, doorbells and the measurement. -/
def State.dropWorld (s : State) (w : Nat) : State :=
  let s1 := ((s.dropConsent w).clearBells w).setRegWord .wldBellPairs 0 w 0
  let s2 := (List.range 64).foldl (fun (s : State) (x : Nat) => s.setRegWord .wldBellPairs 0 x (s.regWord .wldBellPairs 0 x &&& ~~~(1#64 <<< w))) s1
  s2.clearMeasure w

/-- Whether a world has a lane or a metered bit in the staging copies. -/
def State.metered (s : State) (w : Nat) : Bool :=
  (s.regWord .niMeterWids 0 0).getLsbD w
    || meterPorts.any (fun e => (List.range 4).any (fun k => (s.regWord .rtMeterLane e.1 e.2).getLsbD (8 * k + 7) && bitsOf (s.regWord .rtMeterLane e.1 e.2) (8 * k) 6 == w))

/-- The operation of WORLD_DESTROY goes on as far as the hardware lets it: it ends, true, once nothing of R422 is left. -/
def State.destroyWorld (s : State) (w : Nat) : Bool × State :=
  let inHand : Bool := match s.slips.inHand with
    | some x => x.slip.t == .ring (BitVec.ofNat 6 w)
    | none => false
  let a := s.dropChannels w
  if !a.1 || inHand || a.2.isF F.niFabricStatus_meterPending 0 0 then (false, a.2)
  else
    let b := a.2.dropBindings w
    if b.metered w then (false, (b.unmeter w).meterCommitWrite)
    else
      let d := b.dropDeeds w
      if !d.1 then d
      else
        let c := (d.2.dropWorld w).dropClass w
        if !c.1 then c else c.2.dropKeys w

end Sys2Proof.Machine
end

