-- ==== Sys2Proof/Machine/SlipFabric.lean ====
section
/-! DEFINITION. What the slips of groups 0x07 and 0x08 do: routes, annex ports, depository mappings and memory ports (R427, R428). -/
namespace Sys2Proof.Machine

/-! ### Routes -/

/-- ROUTE_STAGE: the entries are written in order into the inactive banks, up to the first that is refused (R177 step 1). -/
def State.opRouteStage (s : State) (c : Slip) (_e : SlipEnv) : Option Ret × State :=
  if s.isF F.niFabricStatus_drainBusy 0 0 then s.deny St.busy 0x0701
  else
    let r := (List.range (par c.params 0 2)).foldl (fun (a : Option Nat × State) (k : Nat) =>
      if a.1.isSome then a
      else
        let o := 8 + 8 * k
        let st := par c.params o 1
        let w := a.2.routeWrite st (!a.2.bank st) (par c.params (o + 1) 1) (w64 (par c.params (o + 2) 5 + 2 ^ 40))
        (if w.1 then none else some k, w.2)) (none, s)
    match r.1 with
    | some k => r.2.deny St.refusedHw k
    | none => r.2.done

/-- ROUTE_SWITCH (R177, steps 3 to 7): OK once DRAIN_BUSY has cleared. A fence or switch already in progress ends first (R179). (DEDUCED, assumption 74.) -/
def State.opRouteSwitch (s : State) (_c : Slip) (_e : SlipEnv) : Option Ret × State :=
  if s.fabricBusy then (none, s) else if s.phase = 1 then s.done else (s.fenceWrite true).hold 1 0

/-! ### Annex ports -/

/-- Whether an annex port's registers can be reached. -/
def State.axUp (s : State) (k : Nat) : Bool := s.reachable .ax k

/-- ANNEX_CONFIG: agents, grants, windows and MMIO windows, then the commit (R237, R240 to R247). (DEDUCED, assumption 81.) -/
def State.opAnnexConfig (s : State) (c : Slip) (_e : SlipEnv) : Option Ret × State :=
  let k := par c.params 0 1
  let word (o : Nat) : Word := w64 (par c.params o 8)
  if !s.axUp k then s.deny St.deniedState k
  else if s.isF F.axgWinCtrl_pending k 0 then (none, s)
  else if s.phase = 1 then s.done
  else
    let s1 := (List.range 16).foldl (fun (s : State) (j : Nat) => s.writeReg .axgAgentCfg k j (word (16 + 8 * j)) allBytes) s
    let refused (s : State) (v : Word) : Bool := !s.isF F.axgPortCtrl_attested k 0 && decide (8 ≤ v.toNat)
    match (List.range 16).find? (fun j => refused s1 (word (144 + 8 * j))) with
    | some j =>
      let s2 := (List.range j).foldl (fun (s : State) (i : Nat) => s.writeReg .axgGrant k i (word (144 + 8 * i)) allBytes) s1
      (s2.axReject k).hwRefuse 0 (0x100180 + 8 * j)
    | none =>
      let s2 := (List.range 16).foldl (fun (s : State) (i : Nat) => s.writeReg .axgGrant k i (word (144 + 8 * i)) allBytes) s1
      let s3 := (List.range 32).foldl (fun (s : State) (n : Nat) =>
        (s.stageWindow .axgWin k n (word (272 + 16 * n)) allBytes).stageWindow .axgWinLim k n (word (280 + 16 * n)) allBytes) s2
      let s4 := (List.range 8).foldl (fun (s : State) (n : Nat) =>
        (s.stageWindow .axgMmio k n (word (784 + 16 * n)) allBytes).stageWindow .axgMmioLim k n (word (792 + 16 * n)) allBytes) s3
      (s4.windowCommit k).hold 1 0

/-- Bring-up waits for READY and opens the port (R233): OK at OPEN. -/
def State.bringUp (s : State) (k : Nat) : Option Ret × State :=
  let st := s.linkState k
  if st = LinkState.training ∨ st = LinkState.init ∨ st = LinkState.declare_ then s.hold 2 0
  else if st = LinkState.open_ then s.done
  else if st = LinkState.ready then
    let s1 := s.openPort k
    if s1.linkState k = LinkState.open_ then s1.done else s1.hwRefuse 0 0x100000
  else s.deny St.deviceError st

/-- ENABLE = 1 on a port whose link is down, or has FAILED. -/
def State.enablePort (s : State) (k : Nat) : State :=
  let s1 := if s.linkState k = LinkState.failed then s.disablePort k else s
  (s1.setF F.axgPortCtrl_enable k 0 1).startBringup k

/-- ANNEX_UP (R233): the domain is powered, the link is brought up and the port opened. -/
def State.opAnnexUp (s : State) (c : Slip) (_e : SlipEnv) : Option Ret × State :=
  let k := par c.params 0 1
  let d := 420 + k
  if s.phase = 2 then s.bringUp k
  else if s.domain d = 2 then
    (if s.quarantined k then s.deny St.deniedState k
     else if s.linkState k = LinkState.down ∨ s.linkState k = LinkState.failed then (s.enablePort k).hold 2 0 else s.bringUp k)
  else if s.isF F.pwrDomStatus_busy 0 d then (none, s)
  else match s.refuserOf d 1 0 with
    | some code => (s.domRequest d { action := 1, wid := 0 }).hwRefuse code 0x343000
    | none => (s.domRequest d { action := 1, wid := 0 }).hold 1 0

/-- The annex reference list: the integrator data whose hash is ANNEX_ANCHORS (R387, R391, R400). -/
def State.annexList (s : State) : Option (List Nat) :=
  match s.partition 0x20, s.kpr.cfg with
  | some e, some c =>
    let l := s.flashBytes e.offset e.length
    if sha384 l = c.anchors then some l else none
  | _, _ => none

/-- ANNEX_ATTEST (R400): a nonce to the management agent, and its evidence. -/
def State.opAnnexAttest (s : State) (c : Slip) (e : SlipEnv) : Option Ret × State :=
  let k := par c.params 0 1
  let nonce := (Config.freeRandom s.fresh).toNat % 2 ^ 256
  let s1 : State := { s with fresh := s.fresh + 1 }
  let good : Bool := (s.linkState k == LinkState.ready || s.linkState k == LinkState.open_) && (match s.annexList with
    | some l => Config.evidenceOk l nonce (e.evidence.map (·.toNat)) (s.regWord .axgAnnexId k 0).toNat
    | none => false)
  if good then (s1.setAttested k true).done else s1.deny St.deniedState k

/-- ANNEX_DOWN: power down (R258), quarantine (R250), end of quarantine (R253). -/
def State.opAnnexDown (s : State) (c : Slip) (_e : SlipEnv) : Option Ret × State :=
  let k := par c.params 0 1
  let d := 420 + k
  match par c.params 1 1 with
  | 0 =>
    let held : Bool := s.isF F.pwrModeStatus_transition 0 0 || s.isF F.pwrDomStatus_busy 0 d
    let s1 := s.domRequest d { action := 0, wid := 0 }
    (match (if held then none else s.refuserOf d 0 0) with
    | some code => s1.hwRefuse code 0x343000
    | none => s1.done)
  | 1 => if s.axUp k then (s.quarantine k 7 0).done else s.deny St.deniedState k
  | _ =>
    if s.phase = 2 then s.bringUp k
    else if !s.axUp k || !s.quarantined k then s.deny St.deniedState k
    else if s.isF F.axgPortStatus_reclaimed k 0 then ((s.disablePort k).enablePort k).hold 2 0
    else s.hold 1 0

/-! ### Depository mappings -/

/-- Write NI_DEPO_MAP of a segment in all 160 interfaces. -/
def State.depoAll (s : State) (n : Nat) (v : Word) : State := (List.range 160).foldl (fun (s : State) (st : Nat) => s.writeReg .niDepoMap st n v allBytes) s

/-- DEPO_MAP (R26): a valid mapping is cleared and a global fence run before the new one is written. (DEDUCED, assumption 82.) -/
def State.opDepoMap (s : State) (c : Slip) (_e : SlipEnv) : Option Ret × State :=
  let n := par c.params 0 1
  let v : Word := w64 (par c.params 1 1 * 2 ^ 8 + par c.params 2 1 * 2 ^ 16)
  let finish (s : State) : Option Ret × State :=
    let s1 := s.depoAll n v
    (if par c.params 3 1 = 1 then s1.depoAll n (v ||| 1) else s1).done
  match s.phase with
  | 0 =>
    if (List.range 160).any (fun st => s.isF F.niDepoMap_valid st n) then
      let s1 := (List.range 160).foldl (fun (s : State) (st : Nat) => s.setF F.niDepoMap_valid st n 0) s
      if s1.fabricBusy then s1.hold 1 0 else (s1.fenceWrite false).hold 2 0
    else finish s
  | 1 => if s.fabricBusy then s.hold 1 0 else (s.fenceWrite false).hold 2 0
  | _ => if s.isF F.niFabricStatus_fenceBusy 0 0 then (none, s) else finish s

/-! ### Memory ports -/

/-- MP_STATUS. -/
def State.opMpStatus (s : State) (_c : Slip) (_e : SlipEnv) : Option Ret × State :=
  s.done ((List.range 12).flatMap (fun k => [RegName.mpStatus, .mpErrCount, .mpScrubStatus, .mpLaneRetire].flatMap (fun r => toBytes 8 (s.readReg r k 0).toNat)))

/-- MP_SCRUB (R288). -/
def State.opMpScrub (s : State) (c : Slip) (_e : SlipEnv) : Option Ret × State :=
  let p := par c.params 0 1
  let v : Word := w64 (par c.params 2 1 + par c.params 1 1 * 2 ^ 8)
  let l := if p = 0xFF then List.range 12 else [p]
  (l.foldl (fun (s : State) (k : Nat) => s.writeReg .mpScrubCtrl k 0 v allBytes) s).done

/-- MP_LANE_RETIRE (R275, R276, R287): a new entry, entered in the Margin Ledger. -/
def State.opMpLaneRetire (s : State) (c : Slip) (_e : SlipEnv) : Option Ret × State :=
  let k := par c.params 0 1
  let old := s.regWord .mpLaneRetire k 0
  let new := ((List.range 4).find? (fun i => !old.getLsbD (8 * i + 7))).map (fun i => putBits old (8 * i) 8 (par c.params 1 1 + 128))
  match new with
  | some v =>
    if retireOk old v then (s.enterRetire k v 0).done else (s.setF F.mpStatus_reject k 0 1).hwRefuse 0 0x100018
  | none => (s.setF F.mpStatus_reject k 0 1).hwRefuse 0 0x100018

/-- MP_MIRROR: kept in the Margin Ledger for the next cold reset. -/
def State.opMpMirror (s : State) (c : Slip) (_e : SlipEnv) : Option Ret × State :=
  let s1 : State := { s with ledger := { s.ledger with mirror := par c.params 0 2 } }
  (if s1.ledgerUp then s1.checkpoint else s1).done

/-- The largest MIRROR_GROUPS that R277 allows the devices fitted. -/
def State.mirrorMax (s : State) : Nat := (mpGroups (s.getF F.mpCfg_density 0 0) (s.isF F.mpCfg_clamshell 0 0)).getD 0 / 2

end Sys2Proof.Machine
end

