-- ==== Sys2Proof/Machine/SlipAttest.lean ====
section
/-! DEFINITION. What the slips of groups 0x09, 0x0A and 0x0B do: debug by world, certificates, measurements, quotes and virtual instances (R429, R430). -/
namespace Sys2Proof.Machine

/-! ### Debug (R401) -/

/-- Set or clear a world's debug bits; a halted hart of a world whose invasive bit is cleared resumes (R320, R321). -/
def State.debugBits (s : State) (w kind : Nat) (on : Bool) : State :=
  let put (s : State) (r : RegName) (b : Nat) : State := if kind / b % 2 = 1 then s.setRegWord r 0 0 (putBits (s.regWord r 0 0) w 1 on.toNat) else s
  let s1 := put (put s .wldDebugInv 1) .wldDebugNoninv 2
  (List.range 256).foldl (fun (s : State) (h : Nat) => if (s.hart h).debug && !s.invasive (s.seat h) then s.resumeHart h else s) s1

/-- DEBUG_GRANT (R401): a world that has not consented is refused. -/
def State.opDebugGrant (s : State) (c : Slip) (_e : SlipEnv) : Option Ret × State :=
  let w := par c.params 0 1
  if (s.regWord .kprDebugConsent 0 0).getLsbD w then (s.debugBits w (par c.params 1 1) true).done else s.deny St.deniedState w

/-- DEBUG_DROP. -/
def State.opDebugDrop (s : State) (c : Slip) (_e : SlipEnv) : Option Ret × State := (s.debugBits (par c.params 0 1) (par c.params 1 1) false).done

/-! ### Certificates, measurements and quotes (R396 to R398) -/

def State.attestReady (s : State) : Bool := s.isF F.kprStatus_attestReady 0 0

/-- A document from OFFSET: its length, and up to 4 000 bytes. -/
def readDoc (l : List Nat) (off : Nat) : List Nat := toBytes 8 l.length ++ (l.drop off).take 4000

/-- The certificate of a layer: its key is derived from CDI_0, which the unique device secret fixes, CDI_1 or CDI_2 (R395, R396). -/
def State.cert (s : State) (layer scheme : Nat) : List Nat :=
  (Config.certificate layer scheme (if layer = 0 then s.fuses.uds else if layer = 1 then s.kpr.cdi1 else s.kpr.cdi2)).map (· % 256)

/-- CERT_READ. -/
def State.opCertRead (s : State) (c : Slip) (_e : SlipEnv) : Option Ret × State :=
  let layer := par c.params 0 1
  if layer ≠ 0 ∧ ¬ s.attestReady = true then s.deny St.notReady 1 else s.done (readDoc (s.cert layer (par c.params 1 1)) (par c.params 4 4))

/-- Whether MEASURE serves an issuer of WID w for a world (R397): the carrel itself, and the Open world until the carrel's first seat. -/
def State.mayMeasure (s : State) (w x : Nat) : Bool := w == x || (w == 2 && !s.kpr.seated.contains x)

/-- MEASURE (R397): m becomes SHA-384 of m and VALUE. -/
def State.opMeasure (s : State) (c : Slip) (_e : SlipEnv) : Option Ret × State :=
  let w := par c.params 0 1
  let m := sha384 (toBytes 48 (s.kpr.meas.get 0 w) ++ (c.params.drop 8).take 48)
  let l := s.kpr.logs.get [] w ++ [(par c.params 8 48, par c.params 56 16)]
  State.done { s with kpr := { s.kpr with meas := s.kpr.meas.set 0 w m, logs := s.kpr.logs.set [] w l } }

/-- The 64-byte entries of a world's log. -/
def State.logBytes (s : State) (w : Nat) : List Nat := (s.kpr.logs.get [] w).flatMap (fun e => toBytes 48 e.1 ++ toBytes 16 e.2)

/-- QUOTE (R398): one is being signed and up to 8 wait. -/
def State.opQuote (s : State) (c : Slip) (_e : SlipEnv) : Option Ret × State :=
  if !s.attestReady then s.deny St.notReady 1
  else if 9 ≤ (s.slips.quotes.filter (fun q => !q.signed)).length then s.deny St.busy 0x0A02
  else
    let id := s.slips.nextId
    let q : Quote := { id := id, wid := par c.params 0 1, issuer := c.wid, t := c.t, nonce := par c.params 8 32 }
    (some { status := St.started, detail := id }, { s with slips := { s.slips with nextId := id % 255 + 1, quotes := s.slips.quotes.filter (fun x => x.id != id) ++ [q] } })

/-- QUOTE_SIGNED (R398): the quote in production is signed over the nonce, the measurement and its log's hash, KPR_STATUS, the serial and the three chains. -/
def State.quoteSign (s : State) : State :=
  match s.slips.quotes.find? (fun q => !q.signed) with
  | none => s
  | some q =>
    let text := toBytes 32 q.nonce ++ toBytes 48 (s.kpr.meas.get 0 q.wid) ++ toBytes 48 (sha384 (s.logBytes q.wid)) ++ toBytes 8 (s.regWord .kprStatus 0 0).toNat
      ++ toBytes 8 s.fuses.serial.toNat ++ (List.range 6).flatMap (fun i => s.cert (i / 2) (i % 2))
    let body := (Config.quote text s.kpr.cdi2).map (· % 256)
    { s with slips := { s.slips with quotes := s.slips.quotes.map (fun x => if x.id = q.id then { x with signed := true, body := body } else x) } }

/-- A quote is dropped: read to its end, or 60 s old (R429). -/
def State.quoteDrop (s : State) (id : Nat) : State := { s with slips := { s.slips with quotes := s.slips.quotes.filter (fun q => q.id != id) } }

def State.quoteOf (s : State) (id : Nat) : Option Quote := s.slips.quotes.find? (fun q => q.id == id)

/-- QUOTE_READ. -/
def State.opQuoteRead (s : State) (c : Slip) (_e : SlipEnv) : Option Ret × State :=
  let id := par c.params 0 1
  let off := par c.params 4 4
  match s.quoteOf id with
  | none => s.deny St.badParam
  | some q =>
    if !q.signed then s.deny St.notReady 2
    else (if q.body.length ≤ off + 4000 then s.quoteDrop id else s).done (readDoc q.body off)

/-- LOG_READ. (DESIGN CHOICE, assumption 84.) -/
def State.opLogRead (s : State) (c : Slip) (_e : SlipEnv) : Option Ret × State :=
  let w := par c.params 0 1
  s.done (toBytes 4 (s.kpr.logs.get [] w).length ++ ((s.logBytes w).drop (par c.params 4 4)).take 4032)

/-! ### Virtual instances (R367, R375, R376) -/

/-- Whether a copy channel can be taken: IDLE, bound to no instance, its engine powered. -/
def State.chanFree (s : State) (g : Nat) : Bool :=
  decide (g < 64) && s.domain (428 + g / 32) == 2 && s.rState (deRing (g / 32) (g % 32)) == 0 && s.getF F.deChCfg_instance (g / 32) (g % 32) == 0

/-- VI_CREATE. (DESIGN CHOICE, assumption 86.) -/
def State.opViCreate (s : State) (c : Slip) (_e : SlipEnv) : Option Ret × State :=
  let i := par c.params 0 1
  let w := par c.params 1 1
  let slots (o : Nat) : List (Nat × Nat) := (List.range 4).filterMap (fun k => if par c.params (o + k) 1 = 0xFF then none else some (k, par c.params (o + k) 1))
  let ch := slots 2
  let tq := slots 6
  let distinct (l : List (Nat × Nat)) : Bool := decide ((l.map (·.2)).Nodup)
  let free : Bool := decide (i ≤ s.getF F.hpEpCfg_totalVfs 0 0) && !s.created i && distinct ch && distinct tq && ch.all (fun e => s.chanFree e.2)
    && tq.all (fun e => decide (e.2 < 64) && (s.queueOwner e.2).isNone)
  if s.mode ≠ 5 then s.deny St.notReady
  else if !free then s.deny St.noResource
  else
    let s1 := ch.foldl (fun (s : State) (e : Nat × Nat) =>
      (((s.setF F.deChCfg_wid (e.2 / 32) (e.2 % 32) w).setF F.deChCfg_instance (e.2 / 32) (e.2 % 32) i).ringReset (deRing (e.2 / 32) (e.2 % 32)))) s
    let bits (l : List (Nat × Nat)) : Nat := l.foldl (fun a e => a + 2 ^ e.1) 0
    let word (l : List (Nat × Nat)) (o : Nat) : Nat := l.foldl (fun a e => a + e.2 * 2 ^ (o + 6 * e.1)) 0
    let v := 1 + w * 2 + word ch 8 + bits ch * 2 ^ 32 + word tq 36 + bits tq * 2 ^ 60
    ((s1.setRegWord .hpViCfg 0 i (w64 v)).setVf i {}).done

/-- VI_REMOVE (R375, R376): OK after the resources return to the pools; an FLR in progress ends first. -/
def State.opViRemove (s : State) (c : Slip) (_e : SlipEnv) : Option Ret × State :=
  let i := par c.params 0 1
  if s.phase = 1 then (if s.created i then (none, s) else s.done)
  else if s.mode ≠ 5 then s.deny St.notReady
  else if !s.created i then s.deny St.deniedState i
  else if s.resetting i then (none, s)
  else (s.flr i true).hold 1 0

/-- VI_STATUS. -/
def State.opViStatus (s : State) (c : Slip) (_e : SlipEnv) : Option Ret × State :=
  let i := par c.params 0 1
  if s.mode ≠ 5 then s.deny St.notReady
  else s.done (toBytes 8 (s.readReg .hpViCfg 0 i).toNat ++ toBytes 8 (s.readReg .hpViAper 0 i).toNat)

end Sys2Proof.Machine
end

