-- ==== Sys2Proof/Machine/SlipRows.lean ====
section
/-! DEFINITION. The opcode rows of R420 to R430: whom each serves, its parameters, its token and its effect; and the commands of the slip service. -/
namespace Sys2Proof.Machine

/-! ### Issuers (R418) -/

/-- O: WID 2 on its ring or through the PF mailbox. -/
def isO (w : Nat) (t : Transport) : Bool := w == 2 && (t.code == 0 || t.code == 2)
/-- C: a carrel on its ring or through the PF mailbox. -/
def isC (w : Nat) (t : Transport) : Bool := decide (3 ≤ w) && (t.code == 0 || t.code == 2)
/-- U: the Curator. -/
def isU (w : Nat) (t : Transport) : Bool := w == 1 && t.code == 1
/-- B: the board management controller on I3C. -/
def isB (w : Nat) (t : Transport) : Bool := w == 2 && t.code == 3
/-- The PF's issuer. -/
def State.isPf (s : State) (w : Nat) (t : Transport) : Bool := t.code == 2 && w == s.getF F.hpEpCfg_pfWid 0 0

/-! ### Parameters -/

/-- A parameter of a range of values, and one of any value. -/
def rng (off size lo hi : Nat) : PField := { off := off, size := size, ok := fun v => decide (lo ≤ v) && decide (v ≤ hi) }
def anyOf (off size : Nat) : PField := { off := off, size := size, ok := fun _ => true }

/-- The entries of ROUTE_STAGE: STOP and DEST name stops, and the last byte is 0. -/
def routeFields (p : List Nat) : List PField :=
  rng 0 2 1 507 :: (List.range (par p 0 2)).flatMap (fun k => [rng (8 + 8 * k) 1 0 159, rng (9 + 8 * k) 1 0 159, anyOf (10 + 8 * k) 5])

/-- Whether QUOTE_READ serves an issuer: a quote's own, on its transport; an unknown identity fails check 7 (R429). -/
def State.mayReadQuote (s : State) (id w : Nat) (t : Transport) : Bool :=
  match s.quoteOf id with
  | some q => q.issuer == w && q.t.code == t.code
  | none => isO w t || isC w t

/-! ### The rows -/

/-- GET_INFO (0x0000). -/
def rowGetInfo : OpRow :=
  { serves := fun _ _ w t => isO w t || isC w t || isU w t || isB w t,
    need := fun _ => 0,
    act := State.opGetInfo }

/-- GET_NONCE (0x0001). -/
def rowGetNonce : OpRow :=
  { serves := fun _ _ w t => isO w t || isC w t || isU w t || isB w t,
    need := fun _ => 0,
    act := State.opGetNonce }

/-- GET_RANDOM (0x0002). -/
def rowGetRandom : OpRow :=
  { serves := fun _ _ w t => isO w t || isC w t || isU w t || isB w t,
    need := fun _ => 2,
    fields := fun _ _ => [rng 0 2 1 4064],
    act := State.opGetRandom }

/-- IMAGE_STATUS (0x0100). -/
def rowImageStatus : OpRow :=
  { serves := fun _ _ w t => isO w t || isC w t || isU w t || isB w t,
    need := fun _ => 0,
    act := State.opImageStatus }

/-- WARM_RESET (0x0101). -/
def rowWarmReset : OpRow :=
  { serves := fun _ _ w t => isO w t || isB w t,
    need := fun _ => 1,
    fields := fun _ _ => [rng 0 1 1 255],
    act := State.opWarmReset }

/-- FLASH_ERASE (0x0102). -/
def rowFlashErase : OpRow :=
  { serves := fun _ _ w t => isB w t,
    need := fun _ => 6,
    fields := fun _ p => [{ off := 0, size := 4, ok := fun v => v % 65536 == 0 && decide (v + par p 4 2 * 65536 ≤ 2 ^ 28) }, anyOf 4 2],
    act := State.opFlashErase }

/-- FLASH_WRITE (0x0103). -/
def rowFlashWrite : OpRow :=
  { serves := fun _ _ w t => isB w t,
    need := fun p => if 1 ≤ par p 4 2 ∧ par p 4 2 ≤ 4048 then 16 + par p 4 2 else max p.length 16,
    fields := fun _ p => [{ off := 0, size := 4, ok := fun v => v % 256 == 0 && decide (v + par p 4 2 ≤ 2 ^ 28) }, rng 4 2 1 4048, anyOf 16 (par p 4 2)],
    act := State.opFlashWrite }

/-- PROVISION_KEY (0x0104). -/
def rowProvisionKey : OpRow :=
  { serves := fun _ _ w t => isB w t,
    need := fun _ => 56,
    fields := fun _ _ => [rng 0 1 0 3, anyOf 8 48],
    token := fun s _ => if s.isF F.kprStatus_provisioned 0 0 then some (1, fun _ => true, 0xFF, fun _ => true) else none,
    act := State.opProvisionKey }

/-- REVOKE_KEY (0x0105). -/
def rowRevokeKey : OpRow :=
  { serves := fun _ _ w t => isO w t || isB w t,
    need := fun _ => 2,
    fields := fun _ _ => [rng 0 1 0 1, rng 1 1 0 3],
    token := fun _ p => some (par p 0 1, fun k => k != par p 1 1, 0xFF, fun _ => true),
    act := State.opRevokeKey }

/-- WORLD_CREATE (0x0200). -/
def rowWorldCreate : OpRow :=
  { serves := fun _ _ w t => isO w t,
    need := fun _ => 1,
    fields := fun _ _ => [rng 0 1 3 63],
    names := fun p => [par p 0 1],
    act := State.opWorldCreate }

/-- WORLD_DESTROY (0x0201). -/
def rowWorldDestroy : OpRow :=
  { serves := fun _ p w t => isO w t || (isC w t && par p 0 1 == w),
    need := fun _ => 1,
    fields := fun _ _ => [rng 0 1 3 63],
    names := fun p => [par p 0 1],
    act := State.opWorldDestroy }

/-- SEAT_LEND (0x0202). -/
def rowSeatLend : OpRow :=
  { serves := fun s p w t => isO w t || (isC w t && s.seat (par p 0 1) == w),
    need := fun _ => 16,
    fields := fun _ p => [anyOf 0 1, rng 1 1 2 63, rng 2 1 0 1, if par p 2 1 = 1 then rng 3 1 6 15 else anyOf 3 1, anyOf 8 8],
    names := fun p => [par p 1 1],
    act := State.opSeatLend }

/-- BELL_ALLOW (0x0203). -/
def rowBellAllow : OpRow :=
  { serves := fun _ _ w t => isO w t || isC w t,
    need := fun _ => 3,
    fields := fun _ _ => [rng 0 1 0 63, rng 1 1 0 1, rng 2 1 0 1],
    names := fun p => [par p 0 1],
    act := State.opBellAllow }

/-- SHELF_SET (0x0204). -/
def rowShelfSet : OpRow :=
  { serves := fun _ _ w t => isO w t,
    need := fun _ => 16,
    fields := fun _ _ => [rng 0 1 0 15, rng 2 2 0 0xFFF, anyOf 4 2, rng 6 1 0 8, rng 7 1 0 1, anyOf 8 8],
    names := fun p => (List.range 64).filter (fun w => par p 8 8 / 2 ^ w % 2 == 1),
    act := State.opShelfSet }

/-- METER_SET (0x0205). -/
def rowMeterSet : OpRow :=
  { serves := fun _ _ w t => isO w t,
    need := fun _ => 16,
    fields := fun _ _ => [rng 0 1 3 63, { off := 1, size := 1, ok := fun v => decide (v ≤ 3) || v == 0xFF }, anyOf 8 8],
    names := fun p => [par p 0 1],
    act := State.opMeterSet }

/-- WORLD_STATUS (0x0206). -/
def rowWorldStatus : OpRow :=
  { serves := fun _ p w t => isO w t || (isC w t && par p 0 1 == w),
    need := fun _ => 1,
    fields := fun _ _ => [rng 0 1 0 63],
    act := State.opWorldStatus }

/-- KEY_NEW (0x0300). -/
def rowKeyNew : OpRow :=
  { serves := fun _ p w t => isO w t || (isC w t && par p 0 1 == w),
    need := fun _ => 1,
    fields := fun _ _ => [rng 0 1 1 63],
    names := fun p => [par p 0 1],
    act := State.opKeyNew }

/-- KEY_DROP (0x0301). -/
def rowKeyDrop : OpRow :=
  { serves := fun s p w t => isO w t || (isC w t && s.slotOf (par p 0 1) w),
    need := fun _ => 1,
    fields := fun _ _ => [anyOf 0 1],
    act := State.opKeyDrop }

/-- DEED_RECLAIM (0x0302). -/
def rowDeedReclaim : OpRow :=
  { serves := fun _ _ w t => isO w t,
    need := fun _ => 12,
    fields := fun _ _ => [anyOf 0 5, rng 8 4 1 65536],
    act := State.opDeedReclaim }

/-- DEPO_DEEDS (0x0303). -/
def rowDepoDeeds : OpRow :=
  { serves := fun _ _ w t => isO w t,
    need := fun _ => 16,
    fields := fun _ _ => [rng 0 1 1 13, rng 2 2 0 4095, { off := 8, size := 8, ok := fun v => v % 65536 == 0 && decide (v < 2 ^ 52) }],
    act := State.opDepoDeeds }

/-- DEED_TABLE_SETUP (0x0304). -/
def rowDeedTableSetup : OpRow :=
  { serves := fun _ _ w t => isO w t,
    need := fun _ => 16,
    fields := fun _ _ => [{ off := 8, size := 8, ok := fun v => v % 65536 == 0 && decide (v < 2 ^ 52) }],
    act := State.opDeedTableSetup }

/-- MODE_SET (0x0400). -/
def rowModeSet : OpRow :=
  { serves := fun _ _ w t => isO w t || isU w t || isB w t,
    need := fun _ => 1,
    fields := fun _ _ => [{ off := 0, size := 1, ok := fun v => decide (v ≤ 2) || v == 4 || v == 5 }],
    act := State.opModeSet }

/-- POWER_LIMIT (0x0401). -/
def rowPowerLimit : OpRow :=
  { serves := fun _ _ w t => isO w t || isU w t || isB w t,
    need := fun _ => 2,
    fields := fun s _ => [rng 0 2 300 (s.getF F.pwrLimitStatus_ceilingW 0 0)],
    act := State.opPowerLimit }

/-- DOMAIN_SET (0x0402). (DEDUCED, assumption 83.) -/
def rowDomainSet : OpRow :=
  { serves := fun _ _ w t => isO w t || isC w t,
    need := fun _ => 8,
    fields := fun _ p => [rng 0 2 0 440, rng 2 1 0 2, if par p 2 1 = 2 then rng 4 4 50 100000 else anyOf 4 4],
    act := State.opDomainSet }

/-- CORE_N (0x0403). -/
def rowCoreN : OpRow :=
  { serves := fun s p w t => (isO w t || isC w t) && s.seat (par p 0 1) == w,
    need := fun _ => 2,
    fields := fun _ _ => [anyOf 0 1, rng 1 1 6 18],
    act := State.opCoreN }

/-- POWER_STATUS (0x0404). -/
def rowPowerStatus : OpRow :=
  { serves := fun _ _ w t => isO w t || isC w t || isU w t || isB w t,
    need := fun _ => 0,
    act := State.opPowerStatus }

/-- LEDGER_READ (0x0500). -/
def rowLedgerRead : OpRow :=
  { serves := fun _ _ w t => isO w t || isU w t || isB w t,
    need := fun _ => 6,
    fields := fun _ _ => [anyOf 0 4, anyOf 4 2],
    act := State.opLedgerRead }

/-- LEDGER_STATUS (0x0501). -/
def rowLedgerStatus : OpRow :=
  { serves := fun _ _ w t => isO w t || isC w t || isU w t || isB w t,
    need := fun _ => 0,
    act := State.opLedgerStatus }

/-- SURVEY_START (0x0502). -/
def rowSurveyStart : OpRow :=
  { serves := fun _ _ w t => isO w t,
    need := fun _ => 0,
    act := State.opSurveyStart }

/-- LEDGER_NOTIFY (0x0503). -/
def rowLedgerNotify : OpRow :=
  { serves := fun _ _ w t => isO w t,
    need := fun _ => 1,
    fields := fun _ _ => [anyOf 0 1],
    act := State.opLedgerNotify }

/-- ANNALS_READ (0x0600). -/
def rowAnnalsRead : OpRow :=
  { serves := fun _ _ w t => isO w t || isU w t || isB w t,
    need := fun _ => 9,
    fields := fun _ _ => [anyOf 0 8, rng 8 1 1 15],
    act := State.opAnnalsRead }

/-- ANNALS_FREEZE (0x0601). -/
def rowAnnalsFreeze : OpRow :=
  { serves := fun _ _ w t => isO w t || isU w t || isB w t,
    need := fun _ => 1,
    fields := fun _ _ => [rng 0 1 0 1],
    act := State.opAnnalsFreeze }

/-- ANNALS_CLEAR (0x0602). -/
def rowAnnalsClear : OpRow :=
  { serves := fun _ _ w t => isO w t || isB w t,
    need := fun _ => 0,
    token := fun _ _ => some (1, fun _ => true, 0xFF, fun _ => true),
    act := State.opAnnalsClear }

/-- ANNALS_NOTIFY (0x0603). -/
def rowAnnalsNotify : OpRow :=
  { serves := fun _ _ w t => isO w t,
    need := fun _ => 4,
    fields := fun _ _ => [rng 0 1 0 7, anyOf 2 2],
    act := State.opAnnalsNotify }

/-- ROUTE_STAGE (0x0700). -/
def rowRouteStage : OpRow :=
  { serves := fun _ _ w t => isO w t,
    need := fun p => if 1 ≤ par p 0 2 ∧ par p 0 2 ≤ 507 then 8 + 8 * par p 0 2 else max p.length 8,
    fields := fun _ p => routeFields p,
    act := State.opRouteStage }

/-- ROUTE_SWITCH (0x0701). -/
def rowRouteSwitch : OpRow :=
  { serves := fun _ _ w t => isO w t,
    need := fun _ => 0,
    act := State.opRouteSwitch }

/-- ANNEX_CONFIG (0x0702). -/
def rowAnnexConfig : OpRow :=
  { serves := fun _ _ w t => isO w t,
    need := fun _ => 912,
    fields := fun _ _ => [rng 0 1 0 5, anyOf 16 896],
    act := State.opAnnexConfig }

/-- ANNEX_UP (0x0703). -/
def rowAnnexUp : OpRow :=
  { serves := fun _ _ w t => isO w t,
    need := fun _ => 1,
    fields := fun _ _ => [rng 0 1 0 5],
    act := State.opAnnexUp }

/-- ANNEX_ATTEST (0x0704). -/
def rowAnnexAttest : OpRow :=
  { serves := fun _ _ w t => isO w t,
    need := fun _ => 1,
    fields := fun _ _ => [rng 0 1 0 5],
    act := State.opAnnexAttest }

/-- ANNEX_DOWN (0x0705). -/
def rowAnnexDown : OpRow :=
  { serves := fun _ _ w t => isO w t,
    need := fun _ => 2,
    fields := fun _ _ => [rng 0 1 0 5, rng 1 1 0 2],
    act := State.opAnnexDown }

/-- DEPO_MAP (0x0706). -/
def rowDepoMap : OpRow :=
  { serves := fun _ _ w t => isO w t,
    need := fun _ => 4,
    fields := fun _ p => [rng 0 1 1 13, { off := 1, size := 1, ok := fun v => axStops.contains v || (v == 0 && par p 3 1 == 0) }, anyOf 2 1, rng 3 1 0 1],
    act := State.opDepoMap }

/-- MP_STATUS (0x0800). -/
def rowMpStatus : OpRow :=
  { serves := fun _ _ w t => isO w t || isC w t || isU w t || isB w t,
    need := fun _ => 0,
    act := State.opMpStatus }

/-- MP_SCRUB (0x0801). -/
def rowMpScrub : OpRow :=
  { serves := fun _ _ w t => isO w t,
    need := fun _ => 3,
    fields := fun _ _ => [{ off := 0, size := 1, ok := fun v => decide (v ≤ 11) || v == 0xFF }, rng 1 1 1 255, rng 2 1 0 3],
    act := State.opMpScrub }

/-- MP_LANE_RETIRE (0x0802). -/
def rowMpLaneRetire : OpRow :=
  { serves := fun _ _ w t => isO w t,
    need := fun _ => 2,
    fields := fun _ _ => [rng 0 1 0 11, rng 1 1 0 63],
    act := State.opMpLaneRetire }

/-- MP_MIRROR (0x0803). -/
def rowMpMirror : OpRow :=
  { serves := fun _ _ w t => isO w t || isB w t,
    need := fun _ => 2,
    fields := fun s _ => [rng 0 2 0 s.mirrorMax],
    act := State.opMpMirror }

/-- DEBUG_GRANT (0x0900). -/
def rowDebugGrant : OpRow :=
  { serves := fun _ _ w t => isO w t || isB w t,
    need := fun _ => 2,
    fields := fun _ _ => [rng 0 1 2 63, rng 1 1 1 3],
    names := fun p => [par p 0 1],
    token := fun _ p => some (1, fun _ => true, par p 0 1, fun b => b 16 == par p 1 1),
    act := State.opDebugGrant }

/-- DEBUG_DROP (0x0901). -/
def rowDebugDrop : OpRow :=
  { serves := fun _ p w t => isO w t || (isC w t && par p 0 1 == w),
    need := fun _ => 2,
    fields := fun _ _ => [rng 0 1 2 63, rng 1 1 1 3],
    names := fun p => [par p 0 1],
    act := State.opDebugDrop }

/-- CERT_READ (0x0A00). -/
def rowCertRead : OpRow :=
  { serves := fun _ _ w t => isO w t || isC w t || isU w t || isB w t,
    need := fun _ => 8,
    fields := fun _ _ => [rng 0 1 0 2, rng 1 1 0 1, anyOf 4 4],
    act := State.opCertRead }

/-- MEASURE (0x0A01). -/
def rowMeasure : OpRow :=
  { serves := fun s p w t => (isO w t || isC w t) && s.mayMeasure w (par p 0 1),
    need := fun _ => 72,
    fields := fun _ _ => [rng 0 1 2 63, anyOf 8 48, anyOf 56 16],
    names := fun p => [par p 0 1],
    act := State.opMeasure }

/-- QUOTE (0x0A02). -/
def rowQuote : OpRow :=
  { serves := fun _ p w t => isO w t || (isC w t && par p 0 1 == w),
    need := fun _ => 40,
    fields := fun _ _ => [rng 0 1 2 63, anyOf 8 32],
    names := fun p => [par p 0 1],
    act := State.opQuote }

/-- QUOTE_READ (0x0A03). -/
def rowQuoteRead : OpRow :=
  { serves := fun s p w t => s.mayReadQuote (par p 0 1) w t,
    need := fun _ => 8,
    fields := fun s _ => [{ off := 0, size := 1, ok := fun v => (s.quoteOf v).isSome }, anyOf 4 4],
    act := State.opQuoteRead }

/-- LOG_READ (0x0A04). -/
def rowLogRead : OpRow :=
  { serves := fun _ p w t => isO w t || (isC w t && par p 0 1 == w),
    need := fun _ => 8,
    fields := fun _ _ => [rng 0 1 2 63, anyOf 4 4],
    names := fun p => [par p 0 1],
    act := State.opLogRead }

/-- VI_CREATE (0x0B00). -/
def rowViCreate : OpRow :=
  { serves := fun s _ w t => isO w t || s.isPf w t,
    need := fun _ => 10,
    fields := fun _ _ => [rng 0 1 1 61, rng 1 1 3 63, { off := 2, size := 1, ok := fun v => decide (v ≤ 63) || v == 0xFF }, { off := 3, size := 1, ok := fun v => decide (v ≤ 63) || v == 0xFF }, { off := 4, size := 1, ok := fun v => decide (v ≤ 63) || v == 0xFF }, { off := 5, size := 1, ok := fun v => decide (v ≤ 63) || v == 0xFF }, { off := 6, size := 1, ok := fun v => decide (v ≤ 63) || v == 0xFF }, { off := 7, size := 1, ok := fun v => decide (v ≤ 63) || v == 0xFF }, { off := 8, size := 1, ok := fun v => decide (v ≤ 63) || v == 0xFF }, { off := 9, size := 1, ok := fun v => decide (v ≤ 63) || v == 0xFF }],
    names := fun p => [par p 1 1],
    act := State.opViCreate }

/-- VI_REMOVE (0x0B01). -/
def rowViRemove : OpRow :=
  { serves := fun s _ w t => isO w t || s.isPf w t,
    need := fun _ => 1,
    fields := fun _ _ => [rng 0 1 1 61],
    act := State.opViRemove }

/-- VI_STATUS (0x0B02). -/
def rowViStatus : OpRow :=
  { serves := fun s p w t => isO w t || s.isPf w t || (isC w t && s.created (par p 0 1) && s.getF F.hpViCfg_wid 0 (par p 0 1) == w),
    need := fun _ => 1,
    fields := fun _ _ => [rng 0 1 1 61],
    act := State.opViStatus }

/-- The row of an opcode (R420 to R430). -/
def opRow (op : Nat) : Option OpRow :=
  match op with
  | 0x0000 => some rowGetInfo
  | 0x0001 => some rowGetNonce
  | 0x0002 => some rowGetRandom
  | 0x0100 => some rowImageStatus
  | 0x0101 => some rowWarmReset
  | 0x0102 => some rowFlashErase
  | 0x0103 => some rowFlashWrite
  | 0x0104 => some rowProvisionKey
  | 0x0105 => some rowRevokeKey
  | 0x0200 => some rowWorldCreate
  | 0x0201 => some rowWorldDestroy
  | 0x0202 => some rowSeatLend
  | 0x0203 => some rowBellAllow
  | 0x0204 => some rowShelfSet
  | 0x0205 => some rowMeterSet
  | 0x0206 => some rowWorldStatus
  | 0x0300 => some rowKeyNew
  | 0x0301 => some rowKeyDrop
  | 0x0302 => some rowDeedReclaim
  | 0x0303 => some rowDepoDeeds
  | 0x0304 => some rowDeedTableSetup
  | 0x0400 => some rowModeSet
  | 0x0401 => some rowPowerLimit
  | 0x0402 => some rowDomainSet
  | 0x0403 => some rowCoreN
  | 0x0404 => some rowPowerStatus
  | 0x0500 => some rowLedgerRead
  | 0x0501 => some rowLedgerStatus
  | 0x0502 => some rowSurveyStart
  | 0x0503 => some rowLedgerNotify
  | 0x0600 => some rowAnnalsRead
  | 0x0601 => some rowAnnalsFreeze
  | 0x0602 => some rowAnnalsClear
  | 0x0603 => some rowAnnalsNotify
  | 0x0700 => some rowRouteStage
  | 0x0701 => some rowRouteSwitch
  | 0x0702 => some rowAnnexConfig
  | 0x0703 => some rowAnnexUp
  | 0x0704 => some rowAnnexAttest
  | 0x0705 => some rowAnnexDown
  | 0x0706 => some rowDepoMap
  | 0x0800 => some rowMpStatus
  | 0x0801 => some rowMpScrub
  | 0x0802 => some rowMpLaneRetire
  | 0x0803 => some rowMpMirror
  | 0x0900 => some rowDebugGrant
  | 0x0901 => some rowDebugDrop
  | 0x0A00 => some rowCertRead
  | 0x0A01 => some rowMeasure
  | 0x0A02 => some rowQuote
  | 0x0A03 => some rowQuoteRead
  | 0x0A04 => some rowLogRead
  | 0x0B00 => some rowViCreate
  | 0x0B01 => some rowViRemove
  | 0x0B02 => some rowViStatus
  | _ => none

/-! ### Serving -/

/-- The Keeper serves the slip of an opcode that waits at a transport, or that is in hand from it. -/
def State.serveAs (s : State) (op : Nat) (t : Transport) (e : SlipEnv) : State :=
  let p := s.waitingOp t.num
  if p.1 = some op then p.2.visit opRow t.num e else p.2

/-- Whether the Keeper has no other command under way: it does one thing at a time (R417). -/
def State.keeperFree (s : State) (cmd : Instr) : Bool := !s.works.any (fun r => r.stop == svcStop && r.ep == 0 && r.cmd != cmd)

/-- The state in which the Keeper carries a command out: one that it begins now is counted from now (R406). -/
def State.keeperStart (s : State) (cmd : Instr) : State :=
  if s.works.any (fun r => r.stop == svcStop && r.ep == 0 && r.cmd == cmd) then s
  else { s with slips := { s.slips with since := s.mtime, restarting := false } }

/-- What the Keeper does for a slip: its accesses of memory are answered before it goes on (R417). -/
def State.keeper (s : State) (cmd : Instr) (f : State → State) : State :=
  if s.keeperFree cmd then (s.keeperStart cmd).served svcStop 0 cmd f else s

/-- GET_INFO. -/
def execGetInfo (t : Transport) (s : State) : Host.Outcome State Fault Refusal := ok (s.keeper (.getInfo t) (fun s => s.serveAs 0x0000 t {}))
/-- GET_NONCE. -/
def execGetNonce (t : Transport) (s : State) : Host.Outcome State Fault Refusal := ok (s.keeper (.getNonce t) (fun s => s.serveAs 0x0001 t {}))
/-- GET_RANDOM. -/
def execGetRandom (t : Transport) (s : State) : Host.Outcome State Fault Refusal := ok (s.keeper (.getRandom t) (fun s => s.serveAs 0x0002 t {}))
/-- IMAGE_STATUS. -/
def execImageStatus (t : Transport) (s : State) : Host.Outcome State Fault Refusal := ok (s.keeper (.imageStatus t) (fun s => s.serveAs 0x0100 t {}))
/-- WARM_RESET. -/
def execWarmReset (t : Transport) (s : State) : Host.Outcome State Fault Refusal := ok (s.keeper (.warmReset t) (fun s => s.serveAs 0x0101 t {}))
/-- FLASH_ERASE. -/
def execFlashErase (t : Transport) (e : SlipEnv) (s : State) : Host.Outcome State Fault Refusal := ok (s.keeper (.flashErase t e) (fun s => s.serveAs 0x0102 t e))
/-- FLASH_WRITE. -/
def execFlashWrite (t : Transport) (e : SlipEnv) (s : State) : Host.Outcome State Fault Refusal := ok (s.keeper (.flashWrite t e) (fun s => s.serveAs 0x0103 t e))
/-- PROVISION_KEY. -/
def execProvisionKey (t : Transport) (e : SlipEnv) (s : State) : Host.Outcome State Fault Refusal := ok (s.keeper (.provisionKey t e) (fun s => s.serveAs 0x0104 t e))
/-- REVOKE_KEY. -/
def execRevokeKey (t : Transport) (e : SlipEnv) (s : State) : Host.Outcome State Fault Refusal := ok (s.keeper (.revokeKey t e) (fun s => s.serveAs 0x0105 t e))
/-- WORLD_CREATE. -/
def execWorldCreate (t : Transport) (s : State) : Host.Outcome State Fault Refusal := ok (s.keeper (.worldCreate t) (fun s => s.serveAs 0x0200 t {}))
/-- WORLD_DESTROY. -/
def execWorldDestroy (t : Transport) (s : State) : Host.Outcome State Fault Refusal := ok (s.keeper (.worldDestroy t) (fun s => s.serveAs 0x0201 t {}))
/-- SEAT_LEND. -/
def execSeatLend (t : Transport) (s : State) : Host.Outcome State Fault Refusal := ok (s.keeper (.seatLend t) (fun s => s.serveAs 0x0202 t {}))
/-- BELL_ALLOW. -/
def execBellAllow (t : Transport) (s : State) : Host.Outcome State Fault Refusal := ok (s.keeper (.bellAllow t) (fun s => s.serveAs 0x0203 t {}))
/-- SHELF_SET. -/
def execShelfSet (t : Transport) (s : State) : Host.Outcome State Fault Refusal := ok (s.keeper (.shelfSet t) (fun s => s.serveAs 0x0204 t {}))
/-- METER_SET. -/
def execMeterSet (t : Transport) (s : State) : Host.Outcome State Fault Refusal := ok (s.keeper (.meterSet t) (fun s => s.serveAs 0x0205 t {}))
/-- WORLD_STATUS. -/
def execWorldStatus (t : Transport) (s : State) : Host.Outcome State Fault Refusal := ok (s.keeper (.worldStatus t) (fun s => s.serveAs 0x0206 t {}))
/-- KEY_NEW. -/
def execKeyNew (t : Transport) (s : State) : Host.Outcome State Fault Refusal := ok (s.keeper (.keyNew t) (fun s => s.serveAs 0x0300 t {}))
/-- KEY_DROP. -/
def execKeyDrop (t : Transport) (s : State) : Host.Outcome State Fault Refusal := ok (s.keeper (.keyDrop t) (fun s => s.serveAs 0x0301 t {}))
/-- DEED_RECLAIM. -/
def execDeedReclaim (t : Transport) (s : State) : Host.Outcome State Fault Refusal := ok (s.keeper (.deedReclaim t) (fun s => s.serveAs 0x0302 t {}))
/-- DEPO_DEEDS. -/
def execDepoDeeds (t : Transport) (s : State) : Host.Outcome State Fault Refusal := ok (s.keeper (.depoDeeds t) (fun s => s.serveAs 0x0303 t {}))
/-- DEED_TABLE_SETUP. -/
def execDeedTableSetup (t : Transport) (s : State) : Host.Outcome State Fault Refusal := ok (s.keeper (.deedTableSetup t) (fun s => s.serveAs 0x0304 t {}))
/-- MODE_SET. -/
def execModeSet (t : Transport) (s : State) : Host.Outcome State Fault Refusal := ok (s.keeper (.modeSet t) (fun s => s.serveAs 0x0400 t {}))
/-- POWER_LIMIT. -/
def execPowerLimit (t : Transport) (s : State) : Host.Outcome State Fault Refusal := ok (s.keeper (.powerLimit t) (fun s => s.serveAs 0x0401 t {}))
/-- DOMAIN_SET. -/
def execDomainSet (t : Transport) (s : State) : Host.Outcome State Fault Refusal := ok (s.keeper (.domainSet t) (fun s => s.serveAs 0x0402 t {}))
/-- CORE_N. -/
def execCoreN (t : Transport) (s : State) : Host.Outcome State Fault Refusal := ok (s.keeper (.coreN t) (fun s => s.serveAs 0x0403 t {}))
/-- POWER_STATUS. -/
def execPowerStatus (t : Transport) (s : State) : Host.Outcome State Fault Refusal := ok (s.keeper (.powerStatus t) (fun s => s.serveAs 0x0404 t {}))
/-- LEDGER_READ. -/
def execLedgerRead (t : Transport) (s : State) : Host.Outcome State Fault Refusal := ok (s.keeper (.ledgerRead t) (fun s => s.serveAs 0x0500 t {}))
/-- LEDGER_STATUS. -/
def execLedgerStatus (t : Transport) (s : State) : Host.Outcome State Fault Refusal := ok (s.keeper (.ledgerStatus t) (fun s => s.serveAs 0x0501 t {}))
/-- SURVEY_START. -/
def execSurveyStart (t : Transport) (s : State) : Host.Outcome State Fault Refusal := ok (s.keeper (.surveyStart t) (fun s => s.serveAs 0x0502 t {}))
/-- LEDGER_NOTIFY. -/
def execLedgerNotify (t : Transport) (s : State) : Host.Outcome State Fault Refusal := ok (s.keeper (.ledgerNotify t) (fun s => s.serveAs 0x0503 t {}))
/-- ANNALS_READ. -/
def execAnnalsRead (t : Transport) (s : State) : Host.Outcome State Fault Refusal := ok (s.keeper (.annalsRead t) (fun s => s.serveAs 0x0600 t {}))
/-- ANNALS_FREEZE. -/
def execAnnalsFreeze (t : Transport) (s : State) : Host.Outcome State Fault Refusal := ok (s.keeper (.annalsFreeze t) (fun s => s.serveAs 0x0601 t {}))
/-- ANNALS_CLEAR. -/
def execAnnalsClear (t : Transport) (s : State) : Host.Outcome State Fault Refusal := ok (s.keeper (.annalsClear t) (fun s => s.serveAs 0x0602 t {}))
/-- ANNALS_NOTIFY. -/
def execAnnalsNotify (t : Transport) (s : State) : Host.Outcome State Fault Refusal := ok (s.keeper (.annalsNotify t) (fun s => s.serveAs 0x0603 t {}))
/-- ROUTE_STAGE. -/
def execRouteStage (t : Transport) (s : State) : Host.Outcome State Fault Refusal := ok (s.keeper (.routeStage t) (fun s => s.serveAs 0x0700 t {}))
/-- ROUTE_SWITCH. -/
def execRouteSwitch (t : Transport) (s : State) : Host.Outcome State Fault Refusal := ok (s.keeper (.routeSwitch t) (fun s => s.serveAs 0x0701 t {}))
/-- ANNEX_CONFIG. -/
def execAnnexConfig (t : Transport) (s : State) : Host.Outcome State Fault Refusal := ok (s.keeper (.annexConfig t) (fun s => s.serveAs 0x0702 t {}))
/-- ANNEX_UP. -/
def execAnnexUp (t : Transport) (s : State) : Host.Outcome State Fault Refusal := ok (s.keeper (.annexUp t) (fun s => s.serveAs 0x0703 t {}))
/-- ANNEX_ATTEST. -/
def execAnnexAttest (t : Transport) (e : SlipEnv) (s : State) : Host.Outcome State Fault Refusal := ok (s.keeper (.annexAttest t e) (fun s => s.serveAs 0x0704 t e))
/-- ANNEX_DOWN. -/
def execAnnexDown (t : Transport) (s : State) : Host.Outcome State Fault Refusal := ok (s.keeper (.annexDown t) (fun s => s.serveAs 0x0705 t {}))
/-- DEPO_MAP. -/
def execDepoMap (t : Transport) (s : State) : Host.Outcome State Fault Refusal := ok (s.keeper (.depoMap t) (fun s => s.serveAs 0x0706 t {}))
/-- MP_STATUS. -/
def execMpStatus (t : Transport) (s : State) : Host.Outcome State Fault Refusal := ok (s.keeper (.mpStatus t) (fun s => s.serveAs 0x0800 t {}))
/-- MP_SCRUB. -/
def execMpScrub (t : Transport) (s : State) : Host.Outcome State Fault Refusal := ok (s.keeper (.mpScrub t) (fun s => s.serveAs 0x0801 t {}))
/-- MP_LANE_RETIRE. -/
def execMpLaneRetire (t : Transport) (s : State) : Host.Outcome State Fault Refusal := ok (s.keeper (.mpLaneRetire t) (fun s => s.serveAs 0x0802 t {}))
/-- MP_MIRROR. -/
def execMpMirror (t : Transport) (s : State) : Host.Outcome State Fault Refusal := ok (s.keeper (.mpMirror t) (fun s => s.serveAs 0x0803 t {}))
/-- DEBUG_GRANT. -/
def execDebugGrant (t : Transport) (s : State) : Host.Outcome State Fault Refusal := ok (s.keeper (.debugGrant t) (fun s => s.serveAs 0x0900 t {}))
/-- DEBUG_DROP. -/
def execDebugDrop (t : Transport) (s : State) : Host.Outcome State Fault Refusal := ok (s.keeper (.debugDrop t) (fun s => s.serveAs 0x0901 t {}))
/-- CERT_READ. -/
def execCertRead (t : Transport) (s : State) : Host.Outcome State Fault Refusal := ok (s.keeper (.certRead t) (fun s => s.serveAs 0x0A00 t {}))
/-- MEASURE. -/
def execMeasure (t : Transport) (s : State) : Host.Outcome State Fault Refusal := ok (s.keeper (.measure t) (fun s => s.serveAs 0x0A01 t {}))
/-- QUOTE. -/
def execQuote (t : Transport) (s : State) : Host.Outcome State Fault Refusal := ok (s.keeper (.quote t) (fun s => s.serveAs 0x0A02 t {}))
/-- QUOTE_READ. -/
def execQuoteRead (t : Transport) (s : State) : Host.Outcome State Fault Refusal := ok (s.keeper (.quoteRead t) (fun s => s.serveAs 0x0A03 t {}))
/-- LOG_READ. -/
def execLogRead (t : Transport) (s : State) : Host.Outcome State Fault Refusal := ok (s.keeper (.logRead t) (fun s => s.serveAs 0x0A04 t {}))
/-- VI_CREATE. -/
def execViCreate (t : Transport) (s : State) : Host.Outcome State Fault Refusal := ok (s.keeper (.viCreate t) (fun s => s.serveAs 0x0B00 t {}))
/-- VI_REMOVE. -/
def execViRemove (t : Transport) (s : State) : Host.Outcome State Fault Refusal := ok (s.keeper (.viRemove t) (fun s => s.serveAs 0x0B01 t {}))
/-- VI_STATUS. -/
def execViStatus (t : Transport) (s : State) : Host.Outcome State Fault Refusal := ok (s.keeper (.viStatus t) (fun s => s.serveAs 0x0B02 t {}))

/-- The transport after one in the Keeper's round. -/
def afterTurn (t : Nat) : Nat := if 66 ≤ t then 2 else t + 1

/-- KEEPER_SLIP_TURN (R417): the slip in hand goes on, or the next transport with a slip waiting has its turn. -/
def execKeeperSlipTurn (e : SlipEnv) (s : State) : Host.Outcome State Fault Refusal :=
  ok (s.keeper (.keeperSlipTurn e) (fun s =>
    match s.slips.inHand with
    | some w => s.visit opRow w.slip.t.num e
    | none => match s.nextTurn with
      | none => s
      | some t => State.visit { s with slips := { s.slips with turn := afterTurn t } } opRow t e))

/-- STARTED_OPERATION_DONE (R417): a teardown ends once nothing binds its world; a Survey ends when its mode does. -/
def State.startedDone (s : State) (id : Nat) : State :=
  match (if s.kpr.faulted then none else s.slips.started.find? (fun x => x.id == id)) with
  | none => s
  | some x =>
    let drop (s : State) : State := { s with slips := { s.slips with started := s.slips.started.filter (fun y => y.id != id) } }
    if x.opcode = 0x0201 then
      let r := s.destroyWorld x.wid
      if r.1 then drop { r.2 with slips := { r.2.slips with destroying := r.2.slips.destroying.filter (· != x.wid) } } else r.2
    else if s.mode = 6 ∨ s.pw.target = some 6 then s else drop s

/-- STARTED_OPERATION_DONE. -/
def execStartedOperationDone (id : BitVec 8) (s : State) : Host.Outcome State Fault Refusal := ok (s.startedDone id.toNat)

/-- NONCE_EXPIRY. -/
def execNonceExpiry (t : Transport) (s : State) : Host.Outcome State Fault Refusal := ok (s.nonceExpire t.num)

/-- QUOTE_SIGNED. -/
def execQuoteSigned (s : State) : Host.Outcome State Fault Refusal := ok s.quoteSign

/-- QUOTE_EXPIRY. -/
def execQuoteExpiry (id : BitVec 8) (s : State) : Host.Outcome State Fault Refusal := ok (s.quoteDrop id.toNat)

/-- ALIAS_KEYS_READY (R396): alias generation and certificate signing complete, in a booted device. -/
def execAliasKeysReady (s : State) : Host.Outcome State Fault Refusal :=
  let b := s.getF F.kprStatus_bootStage 0 0
  ok (if s.pw.inReset ∨ s.mode = 0 ∨ b < 9 ∨ 11 < b then s else s.setF F.kprStatus_attestReady 0 0 1)

/-- I3C_PRIVATE_WRITE (R416): a 2-byte offset, then data into the window. -/
def execI3cPrivateWrite (data : List (BitVec 8)) (s : State) : Host.Outcome State Fault Refusal :=
  if s.slips.i3cAddr.isNone ∨ data.length < 2 then ok s
  else
    let l := data.map (·.toNat)
    let off := ofBytes (l.take 2)
    let m := s.slips.i3c.write off (l.length - 2) (ofBytes (l.drop 2))
    ok { s with slips := { s.slips with i3c := m, i3cOff := off } }

/-- I3C_DYNAMIC_ADDRESS (R416): ENTDAA or SETDASA gives the target its address. -/
def execI3cDynamicAddress (a : BitVec 7) (s : State) : Host.Outcome State Fault Refusal := ok { s with slips := { s.slips with i3cAddr := some a } }

end Sys2Proof.Machine
end

