-- ==== Sys2Proof/Machine/Boot.lean ====
section
/-! DEFINITION. Power-up, resets and loss of rails (R529 to R540), and the boot chain (R392 to R395, R478, R479, R491). -/
namespace Sys2Proof.Machine

/-! ### What a reset leaves -/

/-- What a warm reset keeps of a register (R9, R10, R314, R316, R535): RWS fields, LOCK bits, key slots but for REFS, the Margin Ledger's account, and what only
cold reset clears. (DEDUCED, assumption 88.) -/
def warmKeeps (f : Fld) : Bool :=
  f.ty == .rws || f.ty == .lock || coldOnly f || (ledgerReg f.reg && f != F.coreHartMap_state)
    || f == F.wldKeySlot_owner || f == F.wldKeySlot_valid || f == F.wldKeySlot_epoch

/-- What a cold reset keeps of a register: what the always-on island holds with the staging SRAM and the calendar (R492, R493, R497, R506). (DEDUCED, assumption 89.) -/
def coldKeeps (f : Fld) : Bool := f == F.anlStatus_fatalCause || f == F.anlStatus_fatalCount || f == F.anlStatus_timeUnset || f.reg == .anlCalendar

/-- The recorder through a reset: every record stays, freezes end, and what the hold queue holds drains at the thaw (R502, R535, R536). (DEDUCED, assumption 90.) -/
def Annals.afterReset (a : Annals) : Annals :=
  { a with spent := [], freezers := [], thaw := a.thaw || !a.freezers.isEmpty || !a.held.isEmpty, notifySev := 0, notifyCount := 0, notifySeen := 0 }

/-- The input levels of the pins stay; outputs return to inputs (R317). -/
def State.pinLevels (s : State) : Map Pin :=
  s.pins.foldl (fun (m : Map Pin) (e : Nat × Pin) => m.set {} e.1 { level := e.2.level }) []

/-- HP0_PERST0_N is an input: its level stays. -/
def State.perstPin (s : State) : Map Hp := Map.set ([] : Map Hp) {} 0 { perst := (s.hp 0).perst }

/-- The final return headers lie in always-on SRAM (R410). -/
def Slips.afterReset (x : Slips) : Slips := { final := x.final }

/-- An interrupted flash program or erase leaves its range at open values (R536). (DEDUCED, assumption 91.) -/
def State.flashTorn (s : State) : State :=
  match s.cur.flash with
  | some f =>
    let s1 : State := { s with flash := (List.range f.size).foldl (fun (m : Map (BitVec 8)) (i : Nat) => m.set 0xFF (f.addr + i) ((Config.freeWord (s.fresh + i)).setWidth 8)) s.flash }
    { s1 with fresh := s.fresh + f.size }
  | none => s

/-- The state right after a cold reset, before the boot chain (R9, R10, R314, R316, R397, R535): everything is cleared but the always-on island, the calendar, the
staging SRAM and what is fused or in flash; slots 0, 1 and 2 take new keys, and what annexes store stays. -/
def State.afterCold (s0 : State) : State :=
  let s := s0.flashTorn
  let base : State :=
    { pending := s.pending, fresh := s.fresh, fuses := s.fuses, flash := s.flash, annals := s.annals.afterReset, bootCount := s.bootCount + 1,
      keySerial := s.keySerial + 3, mem := s.mem.filter (fun e => isDepo e.1), pins := s.pinLevels, hps := s.perstPin, slips := s.slips.afterReset,
      ledger := { recs := s.ledger.recs, held := s.ledger.held, nextSeq := s.ledger.nextSeq, ckpts := s.ledger.ckpts, mirror := s.ledger.mirror,
                  survey := s.ledger.survey, surveyHours := s.ledger.surveyHours },
      pw := { pwrgood := s.pw.pwrgood, testMode := s.pw.testMode, notes := s.pw.notes } }
  let s1 : State := { base with regs := s.regs }
  let s2 := s1.mapRegs (fun k old => keptWord s.fuses k old coldKeeps)
  (((s2.setKeyGen 0 s.keySerial).setKeyGen 1 (s.keySerial + 1)).setKeyGen 2 (s.keySerial + 2)).annSync

/-- The state right after a warm reset, before boot restarts (R9, R10, R314, R316, R397, R535, R536). -/
def State.afterWarm (s0 : State) : State :=
  let s := s0.flashTorn
  let base : State :=
    { pending := s.pending, fresh := s.fresh, fuses := s.fuses, flash := s.flash, annals := s.annals.afterReset, bootCount := s.bootCount,
      keySerial := s.keySerial, keyGens := s.keyGens, mem := s.mem, pins := s.pinLevels, hps := s.perstPin, slips := s.slips.afterReset,
      ledger := { s.ledger with found := [], foundParts := [] },
      kpr := { meas := s.kpr.meas, logs := s.kpr.logs, seated := s.kpr.seated, cdi1 := s.kpr.cdi1 },
      pw := { pwrgood := s.pw.pwrgood, testMode := s.pw.testMode, notes := s.pw.notes, vrmStatus := s.pw.vrmStatus, rails := s.pw.rails,
              alert := s.pw.alert, thermtrip := s.pw.thermtrip } }
  let s1 : State := { base with regs := s.regs }
  (s1.mapRegs (fun k old => keptWord s.fuses k old warmKeeps)).annSync

/-! ### Steps of the boot chain -/

/-- BOOT_STAGE (R404). -/
def State.bootStage (s : State) (n : Nat) : State := s.setF F.kprStatus_bootStage 0 0 n

/-- A boot event (R393, R496): its row, and the TYPE of the image. (PRESUMED, assumption 93.) -/
def State.bootNote (s : State) (row type : Nat) : State := s.record Ev.bootEvent srcKeeper (w64 row) (w64 type)

/-- ABSENT: no valid image of the TYPE is loaded (R404). -/
def State.syncAbsent (s : State) : State :=
  s.setF F.kprStatus_absent 0 0 (((List.range 4).map (fun t => if (s.kpr.images.get none (t + 1)).isNone then 2 ^ t else 0)).foldl (· + ·) 0)

/-- Recovery (R393). -/
def State.recover (s : State) : State := (State.bootStage { s with kpr := { s.kpr with recovery := true } } 12).syncAbsent

/-- Verify and load the image of a TYPE (R389, R392): none where no slot is valid. The use of slot B is recorded and shown; `row` is the row of R393 for its absence. -/
def State.takeImage (s : State) (type row : Nat) : Option Loaded × State :=
  match s.findImage type with
  | none => (none, s.bootNote row type)
  | some l =>
    let s1 : State := { s with kpr := { s.kpr with images := s.kpr.images.set none type (some l) } }
    (some l, if l.slot = 1 then (s1.setF F.kprStatus_slotB 0 0 (Nat.lor (s1.getF F.kprStatus_slotB 0 0) (2 ^ (type - 1)))).bootNote 9 type else s1)

/-- The header digest of a loaded image, 48 zero bytes for one not loaded (R395). -/
def State.headerDigest (s : State) (type : Nat) : List Nat :=
  match s.kpr.images.get none type with
  | some l => toBytes 48 l.hdr.hash
  | none => List.replicate 48 0

/-- The fuse digest: SHA-384 of the key hashes, the revocation bits and the SVN counters (R395). -/
def Fuses.digest (f : Fuses) : Nat :=
  sha384 ((List.range 8).flatMap (fun i => toBytes 48 (f.keyHash.get 0 i)) ++ [((f.revoked.filter (· < 8)).map (fun i => 2 ^ i)).foldl Nat.lor 0]
    ++ (List.range 4).flatMap (fun t => toBytes 8 (2 ^ f.svn.get 0 (t + 1) - 1)))

/-- Step 4 (R392, R395): CDI_0 and CDI_1 are derived and the derivation unit is locked. (DEDUCED, assumption 92.) -/
def State.deriveCdi1 (s : State) : State :=
  let cdi0 := hmac384 s.fuses.uds (toBytes 48 s.fuses.romHash)
  let cdi1 := hmac384 cdi0 (s.headerDigest 1 ++ toBytes 48 s.fuses.digest)
  State.setF { s with kpr := { s.kpr with cdi1 := cdi1 } } F.kprStatus_diceLocked 0 0 1

/-- CDI_2 (R395). -/
def State.deriveCdi2 (s : State) : State :=
  { s with kpr := { s.kpr with cdi2 := hmac384 s.kpr.cdi1 (s.headerDigest 2 ++ s.headerDigest 3 ++ s.headerDigest 4) } }

/-- Write a field by its type: an RWL field takes no write while its block's LOCK is 1 (R9). -/
def State.putLocked (s : State) (f : Fld) (u v : Nat) : State := if s.locked f.reg u then s else s.setF f u 0 v

/-- Every error record is enabled, and its corrected-error counter overflows after 16 (R491). -/
def State.armRas (s : State) : State :=
  [Place.core, .tile, .stop, .mp, .ax, .hp, .de, .svc].foldl (fun (s : State) (p : Place) =>
    (List.range (p.units * bankRecords p)).foldl (fun (s : State) (j : Nat) =>
      let u := j / bankRecords p
      let i := j % bankRecords p
      (s.setRegWord (rasControlAt p) u i (s.regWord (rasControlAt p) u i ||| 3)).setF (F.rasStatus_cec p) u i 0xFFF0) s) s

/-- Step 5 (R392): the boot configuration is applied. -/
def State.applyCfg (s : State) (c : BootCfg) : State :=
  let s1 := State.putLocked { s with kpr := { s.kpr with cfg := some c } } F.kprWdt_timeoutMs 0 c.keeperWdt
  let s2 := (s1.setF F.kprWdt_lock 0 0 1).setF F.pwrLimitCtrl_limitW 0 0 c.powerLimit
  (s2.putLocked F.curCtrl_memBase 0 (c.curatorMem / 2 ^ 31)).armRas

/-! ### The Ledger at cold reset -/

/-- The checkpoint with the higher valid sequence (R478). -/
def State.lastCheckpoint (s : State) : Option Checkpoint :=
  if s.ledgerUp then
    s.ledger.ckpts.foldl (fun (b : Option Checkpoint) (c : Checkpoint) =>
      if !c.valid then b
      else match b with
        | none => some c
        | some d => if d.seq < c.seq then some c else b) none
  else none

/-- Restore from a checkpoint (R478); every hart is held. -/
def State.restore (s : State) (c : Checkpoint) : State :=
  let s1 := c.regs.foldl (fun (s : State) (e : Nat × Word) => { s with regs := s.regs.set (keyReset s.fuses e.1) e.1 e.2 }) s
  let s2 := (List.range 256).foldl (fun (s : State) (h : Nat) => if s.getF F.coreHartMap_state 0 h = 0 then s else s.setF F.coreHartMap_state 0 h 0) s1
  { s2 with ledger := { s2.ledger with mirror := c.mirror, survey := c.survey } }

/-- A core that fails point 9 is retired while every hart is held (R470, R479): its hart goes to the best reserve. -/
def State.retireHeld (s : State) (c : Nat) : State :=
  match s.hartOf c with
  | none => ((s.markRetired c).setF F.mlgStatus_reservesLeft 0 0 (s.getF F.mlgStatus_reservesLeft 0 0 - 1)).ledgerChange 2 c (w64 c) (w64 c) 0 0 0
  | some h =>
    match s.bestReserve with
    | none => (s.setF F.mlgStatus_reservesExhausted 0 0 1).ledgerChange 0x0B c 0 0 0 0 0
    | some r =>
      let s1 := ((s.setF F.coreHartMap_physCore 0 h r).incSat F.coreHartMap_remaps 0 h).setF F.mlgStatus_reservesLeft 0 0 (s.getF F.mlgStatus_reservesLeft 0 0 - 1)
      (s1.markRetired c).ledgerChange 2 c (w64 c) (w64 r) 0 0 0

/-- With no valid checkpoint (R479): the fused tables and remap stay, the cores are characterised, those that fail point 9 are retired, and life starts at zero. (DEDUCED, assumption 95.) -/
def State.rebuild (s : State) (cores : List SurveyCore) : State :=
  let s1 := cores.foldl (fun (s : State) (x : SurveyCore) => { s with ledger := { s.ledger with slack9 := s.ledger.slack9.set 0 x.core.val x.slack9 } }) s
  let bad := cores.filter (fun (x : SurveyCore) => (x.vmin.getD 9 none).isNone)
  let s2 := bad.foldl (fun (s : State) (x : SurveyCore) => s.setF F.mlgCoreStatus_candidate x.core.val 0 1) s1
  let s3 := bad.foldl (fun (s : State) (x : SurveyCore) => s.retireHeld x.core.val) s2
  let s4 := (List.range 272).foldl (fun (s : State) (c : Nat) => s.setF F.mlgCoreLife_eqHours c 0 0) (s3.setF F.mlgStatus_serviceHours 0 0 0)
  (s4.setF F.mlgStatus_ledgerRebuilt 0 0 1).ledgerChange 0x0C 0 0 0 0 0 0

/-- The Ledger at cold reset (R478, R479). -/
def State.ledgerBoot (s : State) (cores : List SurveyCore) : State :=
  match s.lastCheckpoint with
  | some c => s.restore c
  | none => s.rebuild cores

/-! ### Steps 6 to 9 -/

/-- Step 6: HP0 takes its role and starts training. (DEDUCED, assumption 96.) -/
def State.bootHp (s : State) (c : BootCfg) : State :=
  ((s.putLocked F.hpPortCfg_endpoint 0 (if c.target = 5 then 1 else 0)).setF F.hpPortCfg_enable 0 0 1).hpTrain 0

/-- Step 7: the Curator's image, CUR_XIP, CUR_CTRL.LOCK and RUN; false leads to recovery. CUR_XIP spans the image's payload. (DESIGN CHOICE, assumption 94.) -/
def State.bootCurator (s : State) (c : BootCfg) : Bool × State :=
  let r : Option Loaded × State := if c.flags % 2 = 1 then s.takeImage 3 6 else (none, s)
  match r.1 with
  | some l =>
    let s1 := ((r.2.loadTcm l).putLocked F.curXip_base 0 ((l.offset + 4096) / 4096)).putLocked F.curXip_pages 0 ((l.hdr.payloadLen + 4095) / 4096)
    let s2 := s1.setF F.curCtrl_lock 0 0 1
    (true, s2.curCtrlWrite (s2.regWord .curCtrl 0 0 ||| 1) allBytes)
  | none => (decide (c.flags % 4 ≠ 3), r.2.setF F.curCtrl_lock 0 0 1)

/-- The boot information block (R394). -/
def State.bootInfo (s : State) (c : BootCfg) : List Nat :=
  toBytes 4 0x49424B53 ++ [c.target, c.bootHarts, s.getF F.kprStatus_slotB 0 0 + 16 * s.getF F.kprStatus_absent 0 0, 0] ++ toBytes 8 s.fuses.serial.toNat ++ s.headerDigest 4

/-- Step 8: the hart loader at LOAD_ADDR, the boot information block, and the boot harts; false leads to recovery. -/
def State.bootLoader (s : State) (c : BootCfg) : Bool × State :=
  let r := s.takeImage 4 7
  match r.1 with
  | none => (false, r.2)
  | some l =>
    let s1 := r.2.syncAbsent.deriveCdi2
    let n := l.hdr.payloadLen
    let s2 := (s1.writeBytes 0 (n + 1) l.hdr.loadAddr n (ofBytes (s1.flashBytes (l.offset + 4096) n))).2
    let s3 := (s2.writeBytes 0 65 bootBlock 64 (ofBytes (s2.bootInfo c))).2
    (true, (List.range c.bootHarts).foldl (fun (s : State) (h : Nat) => s.releaseHart h (w64 l.hdr.entry) (w64 bootBlock)) s3)

/-- Step 9: START in all 12 ports, with the mirroring that the Ledger keeps (R428), and HOLD_M3. -/
def State.bootMemory (s : State) (c : BootCfg) (mirror : Nat) : State :=
  let s1 := (List.range 12).foldl (fun (s : State) (k : Nat) => (s.putLocked F.mpCfg_mirrorGroups k mirror).trainStart k) s
  State.bootStage { s1 with kpr := { s1.kpr with holdM3 := decide (c.flags / 4 % 2 = 1) } } 9

/-- The boot chain from step 2 to step 7 (R392, R393). A patch whose ENTRY lies outside its range faults at step 4, and the Keeper waits for its watchdog (R378, R403). -/
def State.boot (s : State) (x : BootEnv) (cold : Bool) (mirror : Nat) : State :=
  if !x.selfTest then ((s.bootStage 1).bootNote 1 0).fatal Fatal.romSelftest
  else match s.readDir with
  | none => ((State.bootStage { s with kpr := { s.kpr with flashUp := true } } 2).bootNote 2 0).recover
  | some d =>
    let s3 := (State.bootStage { s with kpr := { s.kpr with flashUp := true, dir := d } } 3).annCommit x.works
    let s4 := (s3.takeImage 1 3).2.deriveCdi1.syncProvisioned.enterPatch.bootStage 4
    if s4.kpr.faulted then s4.bootStage 3
    else if !(List.range 4).any (fun p => s4.fuses.pairLive 1 p) then (s4.bootNote 4 0).recover
    else
      let r5 := s4.takeImage 2 5
      match r5.1.bind (fun l => r5.2.bootCfg d (fun i => r5.2.flashByte (l.offset + 4096 + i))) with
      | none => r5.2.recover
      | some c =>
        let s5 := (r5.2.applyCfg c).bootStage 5
        let s6 := ((if cold then s5.ledgerBoot x.cores else s5).bootHp c).bootStage 6
        let r7 := s6.bootCurator c
        if !r7.1 then r7.2.recover
        else State.bootStage { r7.2 with kpr := { r7.2.kpr with booting := some (if cold then r7.2.ledger.mirror else mirror) } } 7

/-- Steps 8 and 9: the staging range is written, and every sector of it answered, before the harts are released (R392). -/
def State.bootRest (s : State) (mirror : Nat) : State :=
  let s1 : State := { s with kpr := { s.kpr with booting := none } }
  match s1.kpr.cfg with
  | none => s1
  | some c =>
    let r8 := s1.bootLoader c
    if !r8.1 then r8.2.recover else (r8.2.bootStage 8).bootMemory c mirror

/-- The boot chain goes on with step 8 for the command that started it. -/
def State.bootOn (s : State) (cmd : Instr) : State :=
  match s.kpr.booting with
  | none => s
  | some m => s.served svcStop 0 cmd (fun s => s.bootRest m)

/-- Whether a command of the boot chain goes on from the answers that it waited for. -/
def State.bootResumes (s : State) (cmd : Instr) : Bool := s.works.any (fun r => r.stop == svcStop && r.ep == 0 && r.cmd == cmd && r.next.isNone)

/-! ### Resets -/

/-- Cold reset (R392, R529, R533, R537): TEST_MODE high or a rail outside its tolerance holds the device in reset with ALERT_N asserted, and a sensor at 115 °C with
THERMTRIP_N asserted. (DESIGN CHOICE, assumption 62.) (DEDUCED, assumption 98.) -/
def State.coldReset (s : State) (x : BootEnv) : State :=
  let s1 := s.afterCold
  if s.pw.testMode ∨ x.badRail.isSome = true then
    let notes := s1.pw.notes ++ (match x.badRail with
      | some r => [(1, r.val)]
      | none => [])
    { s1 with pw := { s1.pw with inReset := true, alert := true, notes := notes } }
  else if x.hot then { s1 with pw := { s1.pw with inReset := true, thermtrip := true } }
  else s1.boot x true 0

/-- COLD_RESET (R392, R533, R535): RESET_N rises after PWRGOOD, out of power-up or M0. In service its rise ends no cold reset. -/
def execColdReset (x : BootEnv) (s : State) : Host.Outcome State Fault Refusal :=
  if s.bootResumes (.coldReset x) then ok (s.bootOn (.coldReset x))
  else if s.pw.pwrgood ∧ (s.mode = 0 ∨ s.pw.inReset = true ∨ s.getF F.kprStatus_bootStage 0 0 = 0) then ok ((s.coldReset x).bootOn (.coldReset x)) else ok s

/-- Whether a warm reset is ignored (R402, R535, R540): in M7, while THERMTRIP_N is asserted, and where only a cold reset leads out. (DEDUCED, assumption 97.) -/
def State.warmIgnored (s : State) : Bool := s.mode == 7 || s.mode == 0 || s.pw.thermtrip || s.pw.inReset || !s.pw.pwrgood

/-- A warm reset (R535, R536), to the restart of boot. (DEDUCED, assumption 99.) -/
def State.warmReset (s : State) (x : BootEnv) : State :=
  if s.warmIgnored then { s with pw := { s.pw with warm := none } } else s.afterWarm.boot x false (s.getF F.mpCfg_mirrorGroups 0 0)

/-- RESET_N_FALL (R535, R540): low for at least 10 µs is a warm reset; a shorter pulse is ignored and noted in the staging SRAM. -/
def execResetNFall (long : Bool) (x : BootEnv) (s : State) : Host.Outcome State Fault Refusal :=
  let cmd : Instr := .resetNFall long x
  if s.bootResumes cmd then ok (s.bootOn cmd)
  else if s.warmIgnored then ok s
  else if long then ok ((s.warmReset x).bootOn cmd)
  else ok { s with pw := { s.pw with notes := s.pw.notes ++ [(3, 0)] } }

/-- WARM_RESET_DELAY_EXPIRY (R420, R536). -/
def execWarmResetDelayExpiry (x : BootEnv) (s : State) : Host.Outcome State Fault Refusal :=
  let cmd : Instr := .warmResetDelayExpiry x
  if s.bootResumes cmd then ok (s.bootOn cmd)
  else if s.pw.warm.isSome then ok ((s.warmReset x).bootOn cmd) else ok s

/-! ### The Keeper's watchdog (R403) -/

/-- The ROM reloads and verifies the same patch slot, fixes its range and enters it (R378, R403). BOOT_STAGE reads 13 while the Keeper has not come back (R404). -/
def State.keeperRestart (s : State) : State :=
  let again : Option Loaded := (s.kpr.images.get none 1).filter (fun l => s.kpr.dir.any (fun e => e.type == 1 && e.slot == l.slot && s.imgValid e))
  let s1 := State.enterPatch { s with kpr := { s.kpr with images := s.kpr.images.set none 1 again, faulted := false } }
  if s1.kpr.faulted then s1.bootStage 13 else s1

/-- KEEPER_WATCHDOG_EXPIRY (R403): a warning first; then the Keeper restarts from its ROM with the same patch and derives its alias keys again, and three restarts in
10 s enter Quarantine. A slip that it has taken is answered RESTARTED once its operation is settled (R406, R417). (DEDUCED, assumption 68.) -/
def execKeeperWatchdogExpiry (s : State) : Host.Outcome State Fault Refusal :=
  if s.mode = 0 ∨ s.pw.inReset = true then ok s
  else if !s.isF F.kprWdt_warned 0 0 then ok ((s.setF F.kprWdt_warned 0 0 1).record Ev.watchdog srcKeeper 0 0)
  else
    let times := recentRestarts s.kpr.restarts s.mtime
    let s1 : State := { s with kpr := { s.kpr with restarts := times } }
    let s2 := (((s1.setF F.kprWdt_warned 0 0 0).incSat F.kprStatus_restarts 0 0).setF F.kprStatus_attestReady 0 0 0).record Ev.watchdog srcKeeper 0 1
    let s3 : State := { s2 with slips := { s2.slips with inHand := s2.slips.inHand.map (fun w => { w with restarted := true }), restarting := true } }
    ok (if 3 ≤ times.length then s3.fatal Fatal.keeperRestarts else s3.keeperRestart)

/-! ### Rails -/

/-- VAON_APPLIED (R497, R533): the always-on island starts. On the first application the calendar counts from 0 and the staging SRAM is empty. -/
def execVaonApplied (first : Bool) (s : State) : Host.Outcome State Fault Refusal :=
  let s0 : State := { s with pw := { s.pw with vaon := true } }
  if first then
    let s1 : State := { s0 with annals := { archive := s.annals.archive }, bootCount := 0, pw := { s0.pw with notes := [] } }
    ok ((s1.setF F.anlStatus_timeUnset 0 0 1).setRegWord .anlCalendar 0 0 0).annSync
  else ok s0

/-- VAON_LOSS (R493, R497): the staging SRAM, FATAL_CAUSE, the calendar and the rest of the always-on island are lost; the device is off. -/
def execVaonLoss (s : State) : Host.Outcome State Fault Refusal :=
  let s1 := s.railsLost 6
  let s2 : State := { s1 with annals := { archive := s1.annals.archive }, bootCount := 0, slips := {}, kpr := {}, ledger := { s1.ledger with held := [] },
                              pw := { vaon := false, pwrgood := false, resetN := false, testMode := s.pw.testMode } }
  let s3 := ((s2.setF F.anlStatus_fatalCause 0 0 0).setF F.anlStatus_fatalCount 0 0 0).setF F.anlStatus_timeUnset 0 0 1
  ok (s3.setRegWord .anlCalendar 0 0 0).annSync

/-- LOSS_OF_RAILS (R534, R535): PWRGOOD falls. Outside M0 that is a loss of rails; the next reset is cold. -/
def execLossOfRails (s : State) : Host.Outcome State Fault Refusal :=
  let s1 := s.railsLost 0
  ok { s1 with pw := { s1.pw with pwrgood := false } }

/-- RAIL_OUT_OF_TOLERANCE (R534): a rail, in the order of R391, stays outside its tolerance for 10 µs. -/
def execRailOutOfTolerance (rail : Fin 8) (s : State) : Host.Outcome State Fault Refusal := ok (if s.pw.pwrgood then s.railsLost rail.val else s)

/-- PWRGOOD_RISE (R533, R535, R537): with RESET_N low; a calendar alarm's ALERT_N is released, and cold reset is held until RESET_N rises. -/
def execPwrgoodRise (s : State) : Host.Outcome State Fault Refusal :=
  if s.pw.pwrgood then ok s else ok { s with pw := { s.pw with pwrgood := true, resetN := false, alarm := false, inReset := true } }

/-- PMB_ALERT (R540): the Keeper reads the VRM status and records it. (DESIGN CHOICE, assumption 101.) -/
def execPmbAlert (status : List (Fin 8 × Word)) (s : State) : Host.Outcome State Fault Refusal :=
  if s.mode = 0 ∨ s.pw.inReset = true then ok s else ok { s with pw := { s.pw with vrmStatus := status.map (fun e => (e.1.val, e.2)) } }

/-- CALENDAR_ALARM (R48, R454, R537): alarm i raises source 33 + i; in M0, where PWR_WAKE_EN enables it, it asserts ALERT_N. (DEDUCED, assumption 100.) -/
def execCalendarAlarm (alarm : Fin 4) (s : State) : Host.Outcome State Fault Refusal :=
  let i := Src.calendar + alarm.val
  if s.mode = 0 then
    ok (if (s.regWord .pwrWakeEn 0 0).getLsbD i then { s with pw := { s.pw with alarm := true } } else s)
  else if (s.aplicSrc i).sm = 0 then ok s
  else
    let s1 := s.raiseSrc i
    if (s1.aplicSrc i).en && s1.aplicOn i then ok (s1.sendMsi i) else ok s1

end Sys2Proof.Machine
end

