-- ==== Sys2Proof/Machine/Answers.lean ====
section
/-! DEFINITION. Answers of the fabric at a requester: CompData, Comp and ErrResp (R117, R199, R210, R214), and the commands of I/O agents that go on with
the answers to their accesses (R107, R130). -/
namespace Sys2Proof.Machine

/-! ### Commands that wait for answers -/

/-- A command of an I/O agent goes on from the answers that its accesses have had. -/
def State.again (s : State) (cmd : Instr) : Host.Outcome State Fault Refusal :=
  match cmd with
  | .keeperSlipTurn e => execKeeperSlipTurn e s
  | .coldReset x => execColdReset x s
  | .resetNFall long x => execResetNFall long x s
  | .warmResetDelayExpiry x => execWarmResetDelayExpiry x s
  | .descriptorFetch de ch => execDescriptorFetch de ch s
  | .jobDispatch de t => ok (s.dispatchRecords de t)
  | .channelResetComplete de ch => execChannelResetComplete de ch s
  | .nop de ch i => execNop de ch i s
  | .copy de ch i => execCopy de ch i s
  | .fill de ch i => execFill de ch i s
  | .compress de ch i => execCompress de ch i s
  | .decompress de ch i => execDecompress de ch i s
  | .collate de ch i slot => execCollate de ch i slot s
  | .flrComplete i => execFlrComplete i s
  | .tqNop q => execTqNop q s
  | .toHost q => execToHost q s
  | .fromHost q => execFromHost q s
  | .pcieCompletion hp tag st po d => execPcieCompletion hp tag st po d s
  | .pcieCompletionTimeout hp tag => execPcieCompletionTimeout hp tag s
  | .translationCompletion tag granted pa log => execTranslationCompletion tag granted pa log s
  | .pcieInboundRead hp rp t => execPcieInboundRead hp rp t s
  | .pcieInboundWrite hp rp t d => execPcieInboundWrite hp rp t d s
  | .pcieInboundAtomic hp rp t swap size8 v => execPcieInboundAtomic hp rp t swap size8 v s
  | .debugSystemBusAccess h pa write size v => execDebugSystemBusAccess h pa write size v s
  | .curatorInstruction x => execCuratorInstruction x s
  | .deedUnitTurn e => execDeedUnitTurn e s
  | .folioEdge late => execFolioEdge late s
  | .watchPeriodWake x late due => execWatchPeriodWake x late due s
  | .getInfo t => execGetInfo t s
  | .getNonce t => execGetNonce t s
  | .getRandom t => execGetRandom t s
  | .imageStatus t => execImageStatus t s
  | .warmReset t => execWarmReset t s
  | .flashErase t e => execFlashErase t e s
  | .flashWrite t e => execFlashWrite t e s
  | .provisionKey t e => execProvisionKey t e s
  | .revokeKey t e => execRevokeKey t e s
  | .worldCreate t => execWorldCreate t s
  | .worldDestroy t => execWorldDestroy t s
  | .seatLend t => execSeatLend t s
  | .bellAllow t => execBellAllow t s
  | .shelfSet t => execShelfSet t s
  | .meterSet t => execMeterSet t s
  | .worldStatus t => execWorldStatus t s
  | .keyNew t => execKeyNew t s
  | .keyDrop t => execKeyDrop t s
  | .deedReclaim t => execDeedReclaim t s
  | .depoDeeds t => execDepoDeeds t s
  | .deedTableSetup t => execDeedTableSetup t s
  | .modeSet t => execModeSet t s
  | .powerLimit t => execPowerLimit t s
  | .domainSet t => execDomainSet t s
  | .coreN t => execCoreN t s
  | .powerStatus t => execPowerStatus t s
  | .ledgerRead t => execLedgerRead t s
  | .ledgerStatus t => execLedgerStatus t s
  | .surveyStart t => execSurveyStart t s
  | .ledgerNotify t => execLedgerNotify t s
  | .annalsRead t => execAnnalsRead t s
  | .annalsFreeze t => execAnnalsFreeze t s
  | .annalsClear t => execAnnalsClear t s
  | .annalsNotify t => execAnnalsNotify t s
  | .routeStage t => execRouteStage t s
  | .routeSwitch t => execRouteSwitch t s
  | .annexConfig t => execAnnexConfig t s
  | .annexUp t => execAnnexUp t s
  | .annexAttest t e => execAnnexAttest t e s
  | .annexDown t => execAnnexDown t s
  | .depoMap t => execDepoMap t s
  | .mpStatus t => execMpStatus t s
  | .mpScrub t => execMpScrub t s
  | .mpLaneRetire t => execMpLaneRetire t s
  | .mpMirror t => execMpMirror t s
  | .debugGrant t => execDebugGrant t s
  | .debugDrop t => execDebugDrop t s
  | .certRead t => execCertRead t s
  | .measure t => execMeasure t s
  | .quote t => execQuote t s
  | .quoteRead t => execQuoteRead t s
  | .logRead t => execLogRead t s
  | .viCreate t => execViCreate t s
  | .viRemove t => execViRemove t s
  | .viStatus t => execViStatus t s
  | _ => ok s

/-- The state that an outcome leaves. -/
def State.ended (s : State) (o : Host.Outcome State Fault Refusal) : State :=
  match o with
  | .next t => t
  | _ => s

/-- Inbound requests whose turn has come go on (R361): up to `n` of them. -/
def State.turns : Nat → State → State
  | 0, s => s
  | n + 1, s =>
    match s.works.find? (fun r => r.next == some .turn && !s.turnHeld r.cmd) with
    | none => s
    | some r =>
      let s1 : State := { s with works := s.works.map (fun x => if x == r then { r with log := r.log ++ [(.turn, .done)], next := none } else x) }
      State.turns n (s1.ended (s1.again r.cmd))

/-- The answer to an access of an I/O agent: the command goes on, and so do those that waited for it. -/
def State.agentAnswer (s : State) (st tag : Nat) (a : CohAns) : State :=
  let r := s.runAnswer st tag a
  let s1 := match r.1 with
    | some cmd => r.2.ended (r.2.again cmd)
    | none => r.2
  State.turns (s1.works.length + 1) s1

/-! ### The answers -/

/-- What the interface of a stop does with the end of a request of its own: a prefetch frees its tag, and counts an error as dropped (R93, R199, R207). -/
def State.prefetchEnd (s : State) (st tag : Nat) (r : Req) (err : Bool) : State :=
  let s1 := s.setReq st tag none
  if err then s1.pmu .stop st 0x209 1 { wid := some r.pkt.widN } else s1

/-- COMP_DATA (R117, R120, R131). -/
def execCompData (p : Packet) (s : State) : Host.Outcome State Fault Refusal :=
  ok (s.receive p (fun s => match s.req p.dstN p.tagN with
    | none => s
    | some r =>
      if r.purp = .engine then s.agentAnswer p.dstN p.tagN (.data p.payload p.poison)
      else match stopAx p.dstN, stopTile p.dstN with
        | some k, _ => if r.purp = .prefetch then s.prefetchEnd p.dstN p.tagN r false else s.gateResponse k p
        | none, some t => if r.ep < 2 then s.coreData (2 * t + r.ep) r p.dataGrant false p.payload p.poison else s.prefetchEnd p.dstN p.tagN r false
        | none, none => s.setReq p.dstN p.tagN none))

/-- COMP (R117, R199, R210). -/
def execComp (p : Packet) (s : State) : Host.Outcome State Fault Refusal :=
  ok (s.receive p (fun s => match s.req p.dstN p.tagN with
    | none => s
    | some r =>
      if r.purp = .engine then s.agentAnswer p.dstN p.tagN .done
      else match stopAx p.dstN, stopTile p.dstN with
        | some k, _ => if r.purp = .prefetch then s.prefetchEnd p.dstN p.tagN r false else s.gateResponse k p
        | none, some t =>
          if r.ep < 2 then s.coreComp (2 * t + r.ep) r (p.attr.toNat % 4)
          else if r.purp = .mem then s.gateComp t p.tagN
          else s.prefetchEnd p.dstN p.tagN r false
        | none, none => (s.setReq p.dstN p.tagN none).dmAnswer p.dstN p.tagN none 0))

/-- ERR_RESP (R212 to R214). -/
def execErrResp (p : Packet) (s : State) : Host.Outcome State Fault Refusal :=
  ok (s.receive p (fun s => match s.req p.dstN p.tagN with
    | none => s
    | some r =>
      if r.purp = .engine then s.agentAnswer p.dstN p.tagN (.err p.errCode p.errOrigin)
      else if r.purp = .prefetch ∧ ((stopTile p.dstN).isNone ∨ 2 ≤ r.ep) then s.prefetchEnd p.dstN p.tagN r true
      else match stopAx p.dstN, stopTile p.dstN with
        | some k, _ => s.gateResponse k p
        | none, some t =>
          if r.ep < 2 then s.coreError (2 * t + r.ep) r p.errCode p.errOrigin
          else if r.purp = .mem then s.homeMemError t p
          else s.setReq p.dstN p.tagN none
        | none, none => (s.setReq p.dstN p.tagN none).dmAnswer p.dstN p.tagN none p.errCode))

end Sys2Proof.Machine
end

