-- ==== Sys2Proof/Machine/Csr.lean ====
section
/-! DEFINITION. Writes of CSRs (R31 to R35, R53, R64, R68, R321, R511, R512): which CSRs exist, who may write them, what a write leaves, and the counters
of a block cleared (R515). Where R31 names the privileged architecture and its extensions, the rules are theirs. -/
namespace Sys2Proof.Machine

/-! ### Which CSRs exist -/

/-- The CSR number that a supervisor CSR names while V = 1. -/
def vsAlias (n : Nat) : Nat :=
  if [0x100, 0x104, 0x105, 0x140, 0x141, 0x142, 0x143, 0x144, 0x14D, 0x150, 0x151, 0x15C, 0x180].contains n then n + 0x100 else n

/-- The privilege that a CSR number asks for, against a mode's: U 0, S 1, HS 2, M 3. -/
def Hart.csrLevel (x : Hart) : Nat :=
  match x.priv with
  | .u => 0
  | .s => 2
  | .m => 3

/-- A field of the status that gates the floating-point or the vector CSRs is Off. -/
def State.unitOff (s : State) (h lsb : Nat) : Bool :=
  bitsOf (s.csr h 0x300) lsb 2 == 0 || ((s.hart h).virt && bitsOf (s.csr h 0x200) lsb 2 == 0)

/-- Who may write stimecmp: below M mode mcounteren.TM and menvcfg.STCE, and while V = 1 the hypervisor's two. -/
def State.stimecmpTrap (s : State) (h : Nat) : Option Bool :=
  let x := s.hart h
  if x.priv = .m then none
  else if bitsOf (s.csr h 0x306) 1 1 = 0 ∨ bitsOf (s.csr h 0x30A) 63 1 = 0 then some false
  else if x.virt ∧ (bitsOf (s.csr h 0x606) 1 1 = 0 ∨ bitsOf (s.csr h 0x60A) 63 1 = 0) then some true
  else none

/-- The exception of a CSR write: none, illegal-instruction, or (true) virtual-instruction. -/
def State.csrTrap (s : State) (h n : Nat) : Option Bool :=
  let x := s.hart h
  let need := n / 2 ^ 8 % 4
  if n / 2 ^ 10 = 3 ∨ csrExists n = false then some false
  else if x.virt ∧ (need = 2 ∨ (need = 1 ∧ x.priv = .u)) then some true
  else if x.csrLevel < need then some false
  else if (n = 1 ∨ n = 2 ∨ n = 3) ∧ s.unitOff h 13 = true then some false
  else if (n = 8 ∨ n = 9 ∨ n = 0xA ∨ n = 0xF) ∧ s.unitOff h 9 = true then some false
  else if n = 0x180 ∧ x.priv = .s ∧ x.virt = false ∧ bitsOf (s.csr h 0x300) 20 1 = 1 then some false
  else if n = 0x680 ∧ x.priv = .s ∧ bitsOf (s.csr h 0x300) 20 1 = 1 then some false
  else if n = 0x180 ∧ x.virt ∧ bitsOf (s.csr h 0x600) 20 1 = 1 then some true
  else if n = 0x14D ∨ n = 0x24D then s.stimecmpTrap h
  else none

/-! ### What a write leaves -/

/-- The writable bits of a CSR whose legal values are any value of those bits. (DEDUCED, assumption 22.) -/
def csrMask (n : Nat) : Option Word :=
  match n with
  | 0x302 => some 0xF8B7FF
  | 0x602 => some 0x08B1FF
  | 0x303 => some 0x3666
  | 0x603 => some 0x444
  | 0x304 => some 0x3EEE
  | 0x306 | 0x106 | 0x606 => some 0x7FF
  | 0x320 => some 0x7FD
  | 0x340 | 0x342 | 0x343 | 0x34A | 0x34B | 0x140 | 0x142 | 0x143 | 0x240 | 0x242 | 0x243 | 0x643 | 0x64A | 0x605 | 0x14D | 0x24D => some 0xFFFFFFFFFFFFFFFF
  | 0x341 | 0x141 | 0x241 => some 0xFFFFFFFFFFFFFFFE
  | 0x607 => some 0xFE
  | 0x645 => some 0x444
  | 0x308 => some 0x2202
  | 0x309 => some 0x2222
  | 0x608 => some 0x2000
  | 0x609 => some 0x4FFF03FF
  | 0x646 | 0x647 => some 0
  | 0x350 | 0x150 | 0x250 => some 0xFF
  | 0x7C0 => some 0xFF07
  | 0xB00 | 0xB02 => some 0xFFFFFFFFFFFFFFFF
  | 0x7A4 | 0x301 => some 0
  | 0x008 => some 0xFF
  | _ => none

/-- Replace the bits of a mask. -/
def maskWrite (old new m : Word) : Word := (old &&& ~~~m) ||| (new &&& m)

/-- A status word with SD recomputed. -/
def withSd (w : Word) : Word := putBits w 63 1 (if bitsOf w 13 2 = 3 ∨ bitsOf w 9 2 = 3 then 1 else 0)

/-- Mark the floating-point (13) or vector (9) state dirty. -/
def State.dirty (s : State) (h lsb : Nat) : State :=
  let s1 := s.setCsr h 0x300 (withSd (putBits (s.csr h 0x300) lsb 2 3))
  if (s.hart h).virt then s1.setCsr h 0x200 (withSd (putBits (s.csr h 0x200) lsb 2 3)) else s1

/-- The fields of sstatus, and of vsstatus. -/
def sstatusMask : Word := 0xC6722
/-- The fields of mstatus. -/
def mstatusMask : Word := 0xC0007E7FAA

/-- A trap-vector base: 4-byte aligned; modes 0 and 1 (R34). -/
def tvecWrite (old new : Word) : Word := if new.toNat % 4 < 2 then new else putBits new 0 2 (old.toNat % 4)

/-- The envcfg fields that exist: FIOM, CBIE, CBCFE, CBZE, and with `top` PBMTE and STCE; CBIE = 2 is a reserved encoding and reads 0 (R105). -/
def envWrite (old new : Word) (top : Nat) : Word :=
  let m : Word := 0xC1 ||| w64 (top * 2 ^ 62)
  putBits (maskWrite old new m) 4 2 (if bitsOf new 4 2 = 2 then 0 else bitsOf new 4 2)

/-- Whether a paging mode exists (R31). -/
def atpMode (w : Word) : Bool := [0, 8, 9, 10].contains (bitsOf w 60 4)

/-- Write an address-translation register: translations of the shadow buffer are discarded, whatever is written (R68), and a change of MODE or of the ASID or VMID flushes the
predictors (R64). -/
def State.atpWrite (s : State) (h n : Nat) (v : Word) : State :=
  let s0 := s.modHart h (fun x => { x with shadowT := [] })
  if !atpMode v then s0
  else
    let v' : Word := if n = 0x680 then v &&& 0xF3FFFFFFFFFFFFFC else v
    let old := s.csr h n
    let change : Bool := bitsOf old 60 4 != bitsOf v' 60 4 || bitsOf old 44 16 != bitsOf v' 44 16
    let s1 := s0.setCsr h n v'
    if change then s1.predFlush h else s1

/-- The events of R513, and those marked S. -/
def coreEvents : List Nat := (List.range 0x14).map (· + 1) ++ [0x20, 0x21, 0x22, 0x23, 0x24]
def specEvents : List Nat := [6, 7, 8, 9, 0xA, 0xB]

/-- A write of mhpmeventN (R511, R512). -/
def mhpmeventWrite (old new : Word) : Word :=
  let w := maskWrite old new 0xFC00000000001FFF
  let e := bitsOf w 0 12
  let bad : Bool := (e != 0 && !coreEvents.contains e) || (bitsOf w 12 1 == 1 && !specEvents.contains e)
  if bad then putBits w 0 13 0 else w

/-- Whether a PMP entry is locked against writes (R34: Smepmp). -/
def State.pmpLocked (s : State) (h i : Nat) : Bool := s.pmpCfg h i / 128 == 1 && bitsOf (s.csr h 0x747) 2 1 == 0

/-- A write of one PMP entry's byte: NA4 is not selectable, W without R is reserved unless MML is set (R34). -/
def State.pmpByte (s : State) (h i new : Nat) : Nat :=
  let old := s.pmpCfg h i
  let mml := bitsOf (s.csr h 0x747) 0 1 = 1
  let v := Nat.land new 0x9F
  let v1 := if v / 8 % 4 = 2 then v - v / 8 % 4 * 8 + old / 8 % 4 * 8 else v
  if s.pmpLocked h i ∨ (v1 % 4 = 2 ∧ ¬mml) then old
  else if mml ∧ bitsOf (s.csr h 0x747) 2 1 = 0 ∧ v1 / 128 = 1 ∧ (v1 / 4 % 2 = 1 ∨ v1 % 4 = 2) ∧ v1 % 8 ≠ 7 then old
  else v1

/-- A write of a pmpcfg register: eight entries. -/
def State.pmpCfgWrite (s : State) (h n : Nat) (v : Word) : State :=
  let i0 := (n - 0x3A0) / 2 * 8
  s.setCsr h n (w64 ((List.range 8).foldl (fun a j => a + s.pmpByte h (i0 + j) (bitsOf v (8 * j) 8) * 2 ^ (8 * j)) 0))

/-- A write of a pmpaddr register: ignored when its entry is locked, or the next is and is TOR. -/
def State.pmpAddrWrite (s : State) (h i : Nat) (v : Word) : State :=
  if s.pmpLocked h i || (decide (i < 63) && s.pmpLocked h (i + 1) && s.pmpCfg h (i + 1) / 8 % 4 == 1) then s
  else s.setCsr h (0x3B0 + i) (v &&& 0x3FFFFFFFFFFFFF)

/-- A write of mseccfg: MML and MMWP stay set; RLB sets only while no entry is locked. -/
def State.mseccfgWrite (s : State) (h : Nat) (v : Word) : State :=
  let old := s.csr h 0x747
  let anyL : Bool := (List.range 64).any (fun i => s.pmpCfg h i / 128 == 1)
  let rlb := if bitsOf old 2 1 = 0 ∧ anyL = true then 0 else bitsOf v 2 1
  s.setCsr h 0x747 (w64 (Nat.lor (bitsOf old 0 2) (bitsOf v 0 2) + rlb * 4))

/-- The place of register k of the selected trigger. -/
def State.triggerKey (s : State) (h k : Nat) : Nat := trigKey (s.csr h 0x7A0).toNat k

/-- A write of tdata1: type 3 icount, 4 itrigger, 5 etrigger, 6 mcontrol6, 0 and 15 none; a hart outside debug mode leaves dmode, and action 1 reads back 0 while invasive
debug of the world is off (R34, R321). -/
def State.tdata1Write (s : State) (h : Nat) (v : Word) : State :=
  let k := s.triggerKey h 1
  let old := s.csr h k
  let ty := bitsOf v 60 4
  if !([0, 3, 4, 5, 6, 15].contains ty) || bitsOf old 59 1 == 1 then s
  else
    let lsb := if ty = 6 then 12 else 0
    let width := if ty = 6 then 4 else 6
    let v1 := putBits v 59 1 0
    let act := bitsOf v1 lsb width
    let v2 := if act = 1 ∧ s.invasive (s.seat h) = false then putBits v1 lsb width 0 else if 1 < act then putBits v1 lsb width 0 else v1
    s.setCsr h k (if ty = 0 ∨ ty = 15 then w64 (ty * 2 ^ 60) else v2)

/-! ### Interrupt files through CSRs -/

/-- The interrupt file that an indirect CSR of a level reaches: M, S, and while V = 1 the guest file of VGEIN; none where VGEIN names none (R34, R46). -/
def State.imsicOf (s : State) (h n : Nat) : Option Nat :=
  if n / 2 ^ 8 = 3 then some 0
  else if n / 2 ^ 8 = 1 then some 1
  else
    let g := bitsOf (s.csr h 0x600) 12 6
    if 1 ≤ g ∧ g ≤ 7 then some (1 + g) else none

/-- Change an interrupt file. -/
def State.modFile (s : State) (h file : Nat) (f : ImsicFile → ImsicFile) : State :=
  s.modHart h (fun x => { x with imsic := x.imsic.set {} file (f (x.imsic.get {} file)) })

/-- The identity that a file presents: the lowest pending and enabled one below the threshold. -/
def ImsicFile.top (f : ImsicFile) : Option Nat :=
  let thr := f.threshold.toNat
  (List.range 256).find? (fun i => decide (i ≠ 0) && f.pend.getLsbD i && f.en.getLsbD i && (thr == 0 || decide (i < thr)))

/-- Replace 64 bits of a file's row. -/
def rowPut (w : BitVec 256) (j : Nat) (v : Word) : BitVec 256 :=
  let m : BitVec 256 := BitVec.ofNat 256 ((2 ^ 64 - 1) * 2 ^ (64 * j))
  ((w &&& ~~~m) ||| (BitVec.ofNat 256 (v.toNat * 2 ^ (64 * j)) &&& m)) &&& ~~~1#256

/-- A write of mireg, sireg or vsireg: the register its select names, or none where there is none (Smaia, Ssaia). -/
def State.iregWrite (s : State) (h n : Nat) (v : Word) : Option State :=
  let sel := (s.csr h (n - 1)).toNat
  if 0x30 ≤ sel ∧ sel ≤ 0x3F then (if sel % 2 = 0 ∧ n ≠ 0x251 then some s else none)
  else
    match s.imsicOf h n with
    | none => none
    | some file =>
      if sel = 0x70 then some (s.modFile h file (fun f => { f with delivery := v &&& 1 }))
      else if sel = 0x72 then some (s.modFile h file (fun f => { f with threshold := v &&& 0xFF }))
      else if 0x80 ≤ sel ∧ sel ≤ 0xBF ∧ sel % 2 = 0 then
        some (if sel < 0x88 then s.modFile h file (fun f => { f with pend := rowPut f.pend ((sel - 0x80) / 2) v }) else s)
      else if 0xC0 ≤ sel ∧ sel ≤ 0xFF ∧ sel % 2 = 0 then
        some (if sel < 0xC8 then s.modFile h file (fun f => { f with en := rowPut f.en ((sel - 0xC0) / 2) v }) else s)
      else none

/-- A write of mtopei, stopei or vstopei: the top identity is claimed. -/
def State.topeiWrite (s : State) (h n : Nat) : Option State :=
  (s.imsicOf h n).map (fun file => match (s.file h file).top with
    | some i => s.modFile h file (fun f => { f with pend := f.pend &&& ~~~(1#256 <<< i) })
    | none => s)

/-! ### The write -/

/-- The effect of a CSR write that is allowed, by the CSR that it names; `none` where an indirect CSR reaches no register. -/
def State.csrEffect (s : State) (h n : Nat) (v : Word) : Option State :=
  let old := s.csr h n
  let set (w : Word) : Option State := some (s.setCsr h n w)
  match csrMask n with
  | some m => if n = 8 then some ((s.setCsr h n (maskWrite old v m)).dirty h 9) else set (maskWrite old v m)
  | none =>
    if n = 1 then some ((s.setCsrBits h 3 0 5 v.toNat).dirty h 13)
    else if n = 2 then some ((s.setCsrBits h 3 5 3 v.toNat).dirty h 13)
    else if n = 3 then some ((s.setCsr h 3 (v &&& 0xFF)).dirty h 13)
    else if n = 9 then some ((s.setCsrBits h 0xF 0 1 v.toNat).dirty h 9)
    else if n = 0xA then some ((s.setCsrBits h 0xF 1 2 v.toNat).dirty h 9)
    else if n = 0xF then some ((s.setCsr h 0xF (v &&& 7)).dirty h 9)
    else if n = 0x100 then some (s.setCsr h 0x300 (withSd (maskWrite (s.csr h 0x300) v sstatusMask)))
    else if n = 0x200 then set (withSd (maskWrite old v sstatusMask))
    else if n = 0x300 then
      let w := maskWrite old v mstatusMask
      set (withSd (if bitsOf v 11 2 = 2 then putBits w 11 2 (bitsOf old 11 2) else w))
    else if n = 0x305 ∨ n = 0x105 ∨ n = 0x205 then set (tvecWrite old v)
    else if n = 0x104 then some (s.setCsr h 0x304 (maskWrite (s.csr h 0x304) v (s.csr h 0x303 &&& 0x2222)))
    else if n = 0x604 then some (s.setCsr h 0x304 (maskWrite (s.csr h 0x304) v 0x1444))
    else if n = 0x204 then some (s.setCsr h 0x304 (maskWrite (s.csr h 0x304) (v <<< 1) (s.csr h 0x603 &&& 0x444)))
    else if n = 0x344 then
      let s1 := s.setCsr h 0x344 (maskWrite old v (if bitsOf (s.csr h 0x30A) 63 1 = 1 then 0x2202 else 0x2222))
      some (s1.setCsr h 0x645 (maskWrite (s.csr h 0x645) v 4))
    else if n = 0x144 then some (s.setCsr h 0x344 (maskWrite (s.csr h 0x344) v (s.csr h 0x303 &&& 0x2002)))
    else if n = 0x644 then some (s.setCsr h 0x645 (maskWrite (s.csr h 0x645) v 4))
    else if n = 0x244 then some (s.setCsr h 0x645 (maskWrite (s.csr h 0x645) (v <<< 1) (s.csr h 0x603 &&& 4)))
    else if n = 0x30A then set (envWrite old v 3)
    else if n = 0x10A then set (envWrite old v 0)
    else if n = 0x60A then set (envWrite old v (bitsOf (s.csr h 0x30A) 62 2))
    else if n = 0x600 then
      let w := maskWrite old v 0x7003C0
      set (if bitsOf v 12 6 ≤ 7 then putBits w 12 6 (bitsOf v 12 6) else w)
    else if n = 0x180 ∨ n = 0x280 ∨ n = 0x680 then some (s.atpWrite h n v)
    else if 0x323 ≤ n ∧ n ≤ 0x33F then (if n ≤ 0x32A then set (mhpmeventWrite old v) else some s)
    else if 0xB03 ≤ n ∧ n ≤ 0xB1F then (if n ≤ 0xB0A then set (v &&& 0xFFFFFFFFFFFF) else some s)
    else if 0x3A0 ≤ n ∧ n ≤ 0x3AF then some (s.pmpCfgWrite h n v)
    else if 0x3B0 ≤ n ∧ n ≤ 0x3EF then some (s.pmpAddrWrite h (n - 0x3B0) v)
    else if n = 0x747 then some (s.mseccfgWrite h v)
    else if n = 0x7A0 then (if v.toNat < 8 then set v else some s)
    else if n = 0x7A1 then some (s.tdata1Write h v)
    else if n = 0x7A2 ∨ n = 0x7A3 then some (s.setCsr h (s.triggerKey h (n - 0x7A0)) v)
    else if n = 0x351 ∨ n = 0x151 ∨ n = 0x251 then s.iregWrite h n v
    else if n = 0x35C ∨ n = 0x15C ∨ n = 0x25C then s.topeiWrite h n
    else some s

/-- A CSR write by a hart, performed once it is the hart's oldest instruction: the exception it raises, or its effect (R31 to R35, R64, R66, R68). -/
def State.csrWrite (s : State) (h n : Nat) (v : Word) (enc : Nat) : State :=
  if !s.alone h then s
  else match s.csrTrap h n with
    | some virt => s.illegal h virt enc
    | none =>
      let virt := (s.hart h).virt
      match s.csrEffect h (if virt then vsAlias n else n) v with
      | some s1 => s1.hartPump h
      | none => s.illegal h virt enc

/-- CSR_WRITE (R31 to R35, R64, R68). -/
def execCsrWrite (h : BitVec 8) (csr : BitVec 12) (v : Word) (enc : BitVec 32) (s : State) : Host.Outcome State Fault Refusal :=
  ok (s.csrWrite h.toNat csr.toNat v enc.toNat)

/-- MHPMEVENT_WRITE (R511, R512): mhpmevent3 to mhpmevent10. -/
def execMhpmeventWrite (h : BitVec 8) (k : Fin 8) (v : Word) (enc : BitVec 32) (s : State) : Host.Outcome State Fault Refusal :=
  ok (s.csrWrite h.toNat (0x323 + k.val) v enc.toNat)

end Sys2Proof.Machine
end

