-- ==== Sys2Proof/Machine/Dispatch.lean ====
section
/-! DEFINITION. The effect of each command: one arm for each constructor, each a direct call of the command's meaning. -/
namespace Sys2Proof.Machine

/-- The effect of a command on everything but the queue. -/
def exec (i : Instr) (s : State) : Host.Outcome State Fault Refusal :=
  match i with
  | .registerWrite w pa size data => Sys2Proof.Machine.execRegisterWrite w pa size data s
  | .rootPllLoss => Sys2Proof.Machine.execRootPllLoss s
  | .hartLoad h a => Sys2Proof.Machine.execHartLoad h a s
  | .hartStore h a => Sys2Proof.Machine.execHartStore h a s
  | .storeCommitL1d h => Sys2Proof.Machine.execStoreCommitL1d h s
  | .amo h op a => Sys2Proof.Machine.execAmo h op a s
  | .lr h a => Sys2Proof.Machine.execLr h a s
  | .sc h a => Sys2Proof.Machine.execSc h a s
  | .fence h id => Sys2Proof.Machine.execFence h id s
  | .fenceI h => Sys2Proof.Machine.execFenceI h s
  | .sfenceVma h hyp enc => Sys2Proof.Machine.execSfenceVma h hyp enc s
  | .csrWrite h csr v enc => Sys2Proof.Machine.execCsrWrite h csr v enc s
  | .trapReturn h m => Sys2Proof.Machine.execTrapReturn h m s
  | .wfi h => Sys2Proof.Machine.execWfi h s
  | .wrsNto h => Sys2Proof.Machine.execWrsNto h s
  | .wrsNtoTimeout h => Sys2Proof.Machine.execWrsNtoTimeout h s
  | .wrsSto h => Sys2Proof.Machine.execWrsSto h s
  | .wrsStoExpiry h => Sys2Proof.Machine.execWrsStoExpiry h s
  | .cboClean h a => Sys2Proof.Machine.execCboClean h a s
  | .cboFlush h a => Sys2Proof.Machine.execCboFlush h a s
  | .cboInval h a => Sys2Proof.Machine.execCboInval h a s
  | .cboZero h a => Sys2Proof.Machine.execCboZero h a s
  | .prefetchR h a => Sys2Proof.Machine.execPrefetchR h a s
  | .prefetchW h a => Sys2Proof.Machine.execPrefetchW h a s
  | .prefetchI h a => Sys2Proof.Machine.execPrefetchI h a s
  | .pxBellSend h id rd rs1 rs2 enc => Sys2Proof.Machine.execPxBellSend h id rd rs1 rs2 enc s
  | .doorbellArrival b => Sys2Proof.Machine.execDoorbellArrival b s
  | .pxBellSendStatus h status => Sys2Proof.Machine.execPxBellSendStatus h status s
  | .pxBellRecv h rd enc => Sys2Proof.Machine.execPxBellRecv h rd enc s
  | .pxBellPeek h rd enc => Sys2Proof.Machine.execPxBellPeek h rd enc s
  | .pxFenceAx h id enc rs1 => Sys2Proof.Machine.execPxFenceAx h id enc rs1 s
  | .pxFenceAxComplete h port ans => Sys2Proof.Machine.execPxFenceAxComplete h port ans s
  | .branchResolve h b => Sys2Proof.Machine.execBranchResolve h b s
  | .instructionBound h id => Sys2Proof.Machine.execInstructionBound h id s
  | .instructionSquash h id events => Sys2Proof.Machine.execInstructionSquash h id events s
  | .instructionRetire h r => Sys2Proof.Machine.execInstructionRetire h r s
  | .interruptTaken h cause o => Sys2Proof.Machine.execInterruptTaken h cause o s
  | .coreMtimeWrite w v => Sys2Proof.Machine.execCoreMtimeWrite w v s
  | .coreMtimecmpWrite w h v => Sys2Proof.Machine.execCoreMtimecmpWrite w h v s
  | .mtimeCompareMatch h level => Sys2Proof.Machine.execMtimeCompareMatch h level s
  | .imsicSeteipnumWrite w h file machine id behalf => Sys2Proof.Machine.execImsicSeteipnumWrite w h file machine id behalf s
  | .hartRemap h core => Sys2Proof.Machine.execHartRemap h core s
  | .gpioInputChange pin level => Sys2Proof.Machine.execGpioInputChange pin level s
  | .aplicSourceEvent src => Sys2Proof.Machine.execAplicSourceEvent src s
  | .coreSpecCtrlWrite w core v => Sys2Proof.Machine.execCoreSpecCtrlWrite w core v s
  | .coreMemattrWrite w n lim v => Sys2Proof.Machine.execCoreMemattrWrite w n lim v s
  | .broadcastComplete => Sys2Proof.Machine.execBroadcastComplete s
  | .llcShelfWrite w c v => Sys2Proof.Machine.execLlcShelfWrite w c v s
  | .llcWidClassWrite w k v => Sys2Proof.Machine.execLlcWidClassWrite w k v s
  | .llcShelfCtrlWrite w v => Sys2Proof.Machine.execLlcShelfCtrlWrite w v s
  | .shelfFlushComplete => Sys2Proof.Machine.execShelfFlushComplete s
  | .reducedServiceExit => Sys2Proof.Machine.execReducedServiceExit s
  | .readShared p => Sys2Proof.Machine.execReadShared p s
  | .readUnique p => Sys2Proof.Machine.execReadUnique p s
  | .readOnce p => Sys2Proof.Machine.execReadOnce p s
  | .cleanUnique p => Sys2Proof.Machine.execCleanUnique p s
  | .writeInvalidateFull p => Sys2Proof.Machine.execWriteInvalidateFull p s
  | .writePartial p => Sys2Proof.Machine.execWritePartial p s
  | .evictClean p => Sys2Proof.Machine.execEvictClean p s
  | .writeBackDirty p => Sys2Proof.Machine.execWriteBackDirty p s
  | .writeBackOwned p => Sys2Proof.Machine.execWriteBackOwned p s
  | .specRelease p => Sys2Proof.Machine.execSpecRelease p s
  | .specCancel p => Sys2Proof.Machine.execSpecCancel p s
  | .snpShared p => Sys2Proof.Machine.execSnpShared p s
  | .snpUnique p => Sys2Proof.Machine.execSnpUnique p s
  | .snpUniqueToHome p => Sys2Proof.Machine.execSnpUniqueToHome p s
  | .snpInvalidate p => Sys2Proof.Machine.execSnpInvalidate p s
  | .snpClean p => Sys2Proof.Machine.execSnpClean p s
  | .holdWindowClose core sec => Sys2Proof.Machine.execHoldWindowClose core sec s
  | .snpResp p => Sys2Proof.Machine.execSnpResp p s
  | .snpRespData p => Sys2Proof.Machine.execSnpRespData p s
  | .compData p => Sys2Proof.Machine.execCompData p s
  | .dataFwd p => Sys2Proof.Machine.execDataFwd p s
  | .comp p => Sys2Proof.Machine.execComp p s
  | .dataPull p => Sys2Proof.Machine.execDataPull p s
  | .writeData p => Sys2Proof.Machine.execWriteData p s
  | .writeDataMasked p => Sys2Proof.Machine.execWriteDataMasked p s
  | .compAck p => Sys2Proof.Machine.execCompAck p s
  | .retry p => Sys2Proof.Machine.execRetry p s
  | .retryBackoffExpiry stop tag => Sys2Proof.Machine.execRetryBackoffExpiry stop tag s
  | .reserveLimitExpiry tile slot => Sys2Proof.Machine.execReserveLimitExpiry tile slot s
  | .errResp p => Sys2Proof.Machine.execErrResp p s
  | .memRead p re => Sys2Proof.Machine.execMemRead p re s
  | .memWrite p q0 q1 re => Sys2Proof.Machine.execMemWrite p q0 q1 re s
  | .gateMemWrite p q0 q1 => Sys2Proof.Machine.execGateMemWrite p q0 q1 s
  | .gateMemRead p => Sys2Proof.Machine.execGateMemRead p s
  | .memData p => Sys2Proof.Machine.execMemData p s
  | .memAck p => Sys2Proof.Machine.execMemAck p s
  | .ioRead p => Sys2Proof.Machine.execIoRead p s
  | .ioWrite p => Sys2Proof.Machine.execIoWrite p s
  | .ioData p => Sys2Proof.Machine.execIoData p s
  | .packetInject p => Sys2Proof.Machine.execPacketInject p s
  | .packetAbsorb stop port p => Sys2Proof.Machine.execPacketAbsorb stop port p s
  | .linkParityError stop p headerGroup second => Sys2Proof.Machine.execLinkParityError stop p headerGroup second s
  | .niRouteWrite w stop bank d v => Sys2Proof.Machine.execNiRouteWrite w stop bank d v s
  | .globalFence w => Sys2Proof.Machine.execGlobalFence w s
  | .fenceReq stop => Sys2Proof.Machine.execFenceReq stop s
  | .fenceAck stop => Sys2Proof.Machine.execFenceAck stop s
  | .fenceTimeout => Sys2Proof.Machine.execFenceTimeout s
  | .epochSwitch w => Sys2Proof.Machine.execEpochSwitch w s
  | .flip stop => Sys2Proof.Machine.execFlip stop s
  | .epochDrainComplete => Sys2Proof.Machine.execEpochDrainComplete s
  | .meterStagingWrite w pa v => Sys2Proof.Machine.execMeterStagingWrite w pa v s
  | .meterCommitRequest w => Sys2Proof.Machine.execMeterCommitRequest w s
  | .meterCommit => Sys2Proof.Machine.execMeterCommit s
  | .rtSpareWrite w stop np v => Sys2Proof.Machine.execRtSpareWrite w stop np v s
  | .linkFlitReceive port f => Sys2Proof.Machine.execLinkFlitReceive port f s
  | .nak port seq => Sys2Proof.Machine.execNak port seq s
  | .replay port seq => Sys2Proof.Machine.execReplay port seq s
  | .replayTimeout port => Sys2Proof.Machine.execReplayTimeout port s
  | .nakResendTimeout port => Sys2Proof.Machine.execNakResendTimeout port s
  | .ackIdleInsert port => Sys2Proof.Machine.execAckIdleInsert port s
  | .linkNarrow port => Sys2Proof.Machine.execLinkNarrow port s
  | .linkWiden port found => Sys2Proof.Machine.execLinkWiden port found s
  | .moduleRecal w port => Sys2Proof.Machine.execModuleRecal w port s
  | .portBringup w port => Sys2Proof.Machine.execPortBringup w port s
  | .ucieTrainingComplete port modules found0 found1 => Sys2Proof.Machine.execUcieTrainingComplete port modules found0 found1 s
  | .bringupAttemptTimeout port => Sys2Proof.Machine.execBringupAttemptTimeout port s
  | .initMsg port rev req fwd rsp mgt dat => Sys2Proof.Machine.execInit port rev req fwd rsp mgt dat s
  | .declareMsg port classes vendor device rev => Sys2Proof.Machine.execDeclare port classes vendor device rev s
  | .declareTimeout port => Sys2Proof.Machine.execDeclareTimeout port s
  | .axgOpenWrite w port => Sys2Proof.Machine.execAxgOpenWrite w port s
  | .openMsg port => Sys2Proof.Machine.execOpen port s
  | .hold port => Sys2Proof.Machine.execHold port s
  | .axgAttestedWrite w port v => Sys2Proof.Machine.execAxgAttestedWrite w port v s
  | .axgGrantWrite w port j v => Sys2Proof.Machine.execAxgGrantWrite w port j v s
  | .axgWindowStagingWrite w pa v => Sys2Proof.Machine.execAxgWindowStagingWrite w pa v s
  | .windowCommit w port => Sys2Proof.Machine.execWindowCommit w port s
  | .windowCommitEdge port => Sys2Proof.Machine.execWindowCommitEdge port s
  | .annexPacketArrival port framed p => Sys2Proof.Machine.execAnnexPacketArrival port framed p s
  | .strikeIntervalReset => Sys2Proof.Machine.execStrikeIntervalReset s
  | .snoopToExpiry port idx => Sys2Proof.Machine.execSnoopToExpiry port idx s
  | .ackToExpiry port idx => Sys2Proof.Machine.execAckToExpiry port idx s
  | .respToExpiry port idx => Sys2Proof.Machine.execRespToExpiry port idx s
  | .mmioToExpiry port idx => Sys2Proof.Machine.execMmioToExpiry port idx s
  | .flushTimeout port idx => Sys2Proof.Machine.execFlushTimeout port idx s
  | .portQuarantineWrite w port => Sys2Proof.Machine.execPortQuarantineWrite w port s
  | .reclaimComplete port => Sys2Proof.Machine.execReclaimComplete port s
  | .portDisable w port => Sys2Proof.Machine.execPortDisable w port s
  | .axgFenceProbe p => Sys2Proof.Machine.execAxgFenceProbe p s
  | .agentFlush port j => Sys2Proof.Machine.execAgentFlush port j s
  | .agentFlushDone port j => Sys2Proof.Machine.execAgentFlushDone port j s
  | .mgtNotify p => Sys2Proof.Machine.execMgtNotify p s
  | .mgtErr p => Sys2Proof.Machine.execMgtErr p s
  | .patrolScrubRead mp re => Sys2Proof.Machine.execPatrolScrubRead mp re s
  | .mpLaneRetireWrite w mp v => Sys2Proof.Machine.execMpLaneRetireWrite w mp v s
  | .mpTrainStart w mp => Sys2Proof.Machine.execMpTrainStart w mp s
  | .mpTrainingDone mp failStep pins => Sys2Proof.Machine.execMpTrainingDone mp failStep pins s
  | .refreshDue mp bank => Sys2Proof.Machine.execRefreshDue mp bank s
  | .mpTemperaturePoll mp temp => Sys2Proof.Machine.execMpTemperaturePoll mp temp s
  | .selfRefreshEnter mp => Sys2Proof.Machine.execSelfRefreshEnter mp s
  | .selfRefreshExit mp => Sys2Proof.Machine.execSelfRefreshExit mp s
  | .mirrorLinkDown mp => Sys2Proof.Machine.execMirrorLinkDown mp s
  | .mirrorLinkReturn mp => Sys2Proof.Machine.execMirrorLinkReturn mp s
  | .mirrorResyncDone mp => Sys2Proof.Machine.execMirrorResyncDone mp s
  | .assign w page target slot => Sys2Proof.Machine.execAssign w page target slot s
  | .shareRo w page target => Sys2Proof.Machine.execShareRo w page target s
  | .shareRw w page target => Sys2Proof.Machine.execShareRw w page target s
  | .unshare w page => Sys2Proof.Machine.execUnshare w page s
  | .donate w page target slot => Sys2Proof.Machine.execDonate w page target slot s
  | .release w page => Sys2Proof.Machine.execRelease w page s
  | .reclaim w page => Sys2Proof.Machine.execReclaim w page s
  | .deedUnitTurn memErr => Sys2Proof.Machine.execDeedUnitTurn memErr s
  | .deedTableEnable w v => Sys2Proof.Machine.execDeedTableEnable w v s
  | .deedTableReady => Sys2Proof.Machine.execDeedTableReady s
  | .generate w slot owner => Sys2Proof.Machine.execGenerate w slot owner s
  | .destroy w slot => Sys2Proof.Machine.execDestroy w slot s
  | .keyCommandComplete => Sys2Proof.Machine.execKeyCommandComplete s
  | .wldGpioWidWrite w k v => Sys2Proof.Machine.execWldGpioWidWrite w k v s
  | .wldDebugInvWrite w v => Sys2Proof.Machine.execWldDebugInvWrite w v s
  | .wldDebugNoninvWrite w v => Sys2Proof.Machine.execWldDebugNoninvWrite w v s
  | .debugHaltRequest h => Sys2Proof.Machine.execDebugHaltRequest h s
  | .debugSystemBusAccess h pa write size v => Sys2Proof.Machine.execDebugSystemBusAccess h pa write size v s
  | .deChCfgWrite w de ch v => Sys2Proof.Machine.execDeChCfgWrite w de ch v s
  | .deChTailWrite w de ch v => Sys2Proof.Machine.execDeChTailWrite w de ch v s
  | .deChCplHeadWrite w de ch v => Sys2Proof.Machine.execDeChCplHeadWrite w de ch v s
  | .deChRingWrite w de ch cpl v => Sys2Proof.Machine.execDeChRingWrite w de ch cpl v s
  | .channelReset w de ch => Sys2Proof.Machine.execChannelReset w de ch s
  | .channelResetComplete de ch => Sys2Proof.Machine.execChannelResetComplete de ch s
  | .descriptorFetch de ch => Sys2Proof.Machine.execDescriptorFetch de ch s
  | .jobDispatch de t => Sys2Proof.Machine.execJobDispatch de t s
  | .nop de ch index => Sys2Proof.Machine.execNop de ch index s
  | .copy de ch index => Sys2Proof.Machine.execCopy de ch index s
  | .fill de ch index => Sys2Proof.Machine.execFill de ch index s
  | .compress de ch index => Sys2Proof.Machine.execCompress de ch index s
  | .decompress de ch index => Sys2Proof.Machine.execDecompress de ch index s
  | .collate de ch index slot => Sys2Proof.Machine.execCollate de ch index slot s
  | .deWindowReset => Sys2Proof.Machine.execDeWindowReset s
  | .deScanCfgWrite w de slot r v => Sys2Proof.Machine.execDeScanCfgWrite w de slot r v s
  | .scanRunStart de slot => Sys2Proof.Machine.execScanRunStart de slot s
  | .hpPortEnable w hp v => Sys2Proof.Machine.execHpPortEnable w hp v s
  | .pcieLinkUp hp rp width rate flit => Sys2Proof.Machine.execPcieLinkUp hp rp width rate flit s
  | .pcieLinkDown hp rp => Sys2Proof.Machine.execPcieLinkDown hp rp s
  | .pcieErrorReceived hp rp e => Sys2Proof.Machine.execPcieErrorReceived hp rp e s
  | .pciePllLoss hp => Sys2Proof.Machine.execPciePllLoss hp s
  | .freeze w hp rp v => Sys2Proof.Machine.execFreeze w hp rp v s
  | .releaseFreeze w hp rp v => Sys2Proof.Machine.execReleaseFreeze w hp rp v s
  | .pcieCompletion hp tag st po d => Sys2Proof.Machine.execPcieCompletion hp tag st po d s
  | .pcieCompletionTimeout hp tag => Sys2Proof.Machine.execPcieCompletionTimeout hp tag s
  | .pcieInboundRead hp rp t => Sys2Proof.Machine.execPcieInboundRead hp rp t s
  | .pcieInboundWrite hp rp t d => Sys2Proof.Machine.execPcieInboundWrite hp rp t d s
  | .pcieInboundAtomic hp rp t swap size8 v => Sys2Proof.Machine.execPcieInboundAtomic hp rp t swap size8 v s
  | .hpViAperWrite w vi v => Sys2Proof.Machine.execHpViAperWrite w vi v s
  | .hpTqTailWrite w q v => Sys2Proof.Machine.execHpTqTailWrite w q v s
  | .tqNop q => Sys2Proof.Machine.execTqNop q s
  | .toHost q => Sys2Proof.Machine.execToHost q s
  | .fromHost q => Sys2Proof.Machine.execFromHost q s
  | .translationCompletion tag granted pa log => Sys2Proof.Machine.execTranslationCompletion tag granted pa log s
  | .invalidationRequest vi addr log itag => Sys2Proof.Machine.execInvalidationRequest vi addr log itag s
  | .busMasterEnableClear vi => Sys2Proof.Machine.execBusMasterEnableClear vi s
  | .busMasterEnableSet vi => Sys2Proof.Machine.execBusMasterEnableSet vi s
  | .initiateFlr vi => Sys2Proof.Machine.execInitiateFlr vi s
  | .flrComplete vi => Sys2Proof.Machine.execFlrComplete vi s
  | .vfEnableClear => Sys2Proof.Machine.execVfEnableClear s
  | .perstAssert => Sys2Proof.Machine.execPerstAssert s
  | .coldReset x => Sys2Proof.Machine.execColdReset x s
  | .resetNFall long x => Sys2Proof.Machine.execResetNFall long x s
  | .vaonApplied first => Sys2Proof.Machine.execVaonApplied first s
  | .lossOfRails => Sys2Proof.Machine.execLossOfRails s
  | .railOutOfTolerance rail => Sys2Proof.Machine.execRailOutOfTolerance rail s
  | .pmbAlert status => Sys2Proof.Machine.execPmbAlert status s
  | .calendarAlarm alarm => Sys2Proof.Machine.execCalendarAlarm alarm s
  | .curatorRunWrite w v => Sys2Proof.Machine.execCuratorRunWrite w v s
  | .curWdtKick key => Sys2Proof.Machine.execCurWdtKick key s
  | .keeperWdtKick w v => Sys2Proof.Machine.execKeeperWdtKick w v s
  | .keeperWatchdogExpiry => Sys2Proof.Machine.execKeeperWatchdogExpiry s
  | .curatorWatchdogExpiry => Sys2Proof.Machine.execCuratorWatchdogExpiry s
  | .flashProgram src => Sys2Proof.Machine.execFlashProgram src s
  | .flashEraseSector => Sys2Proof.Machine.execFlashEraseSector s
  | .flashEraseBlock => Sys2Proof.Machine.execFlashEraseBlock s
  | .flashCommandDone works => Sys2Proof.Machine.execFlashCommandDone works s
  | .curatorTimerMatch => Sys2Proof.Machine.execCuratorTimerMatch s
  | .curatorInterrupt => Sys2Proof.Machine.execCuratorInterrupt s
  | .debugConsentWrite w v => Sys2Proof.Machine.execDebugConsentWrite w v s
  | .slipBell w x v => Sys2Proof.Machine.execSlipBell w x v s
  | .curatorSlipGo => Sys2Proof.Machine.execCuratorSlipGo s
  | .pfSlipGo => Sys2Proof.Machine.execPfSlipGo s
  | .i3cPrivateWrite data => Sys2Proof.Machine.execI3cPrivateWrite data s
  | .i3cDynamicAddress a => Sys2Proof.Machine.execI3cDynamicAddress a s
  | .keeperSlipTurn e => Sys2Proof.Machine.execKeeperSlipTurn e s
  | .startedOperationDone id => Sys2Proof.Machine.execStartedOperationDone id s
  | .nonceExpiry t => Sys2Proof.Machine.execNonceExpiry t s
  | .getInfo t => Sys2Proof.Machine.execGetInfo t s
  | .getNonce t => Sys2Proof.Machine.execGetNonce t s
  | .getRandom t => Sys2Proof.Machine.execGetRandom t s
  | .imageStatus t => Sys2Proof.Machine.execImageStatus t s
  | .warmReset t => Sys2Proof.Machine.execWarmReset t s
  | .flashErase t e => Sys2Proof.Machine.execFlashErase t e s
  | .flashWrite t e => Sys2Proof.Machine.execFlashWrite t e s
  | .provisionKey t e => Sys2Proof.Machine.execProvisionKey t e s
  | .revokeKey t e => Sys2Proof.Machine.execRevokeKey t e s
  | .worldCreate t => Sys2Proof.Machine.execWorldCreate t s
  | .worldDestroy t => Sys2Proof.Machine.execWorldDestroy t s
  | .seatLend t => Sys2Proof.Machine.execSeatLend t s
  | .bellAllow t => Sys2Proof.Machine.execBellAllow t s
  | .shelfSet t => Sys2Proof.Machine.execShelfSet t s
  | .meterSet t => Sys2Proof.Machine.execMeterSet t s
  | .worldStatus t => Sys2Proof.Machine.execWorldStatus t s
  | .keyNew t => Sys2Proof.Machine.execKeyNew t s
  | .keyDrop t => Sys2Proof.Machine.execKeyDrop t s
  | .deedReclaim t => Sys2Proof.Machine.execDeedReclaim t s
  | .depoDeeds t => Sys2Proof.Machine.execDepoDeeds t s
  | .deedTableSetup t => Sys2Proof.Machine.execDeedTableSetup t s
  | .modeSet t => Sys2Proof.Machine.execModeSet t s
  | .powerLimit t => Sys2Proof.Machine.execPowerLimit t s
  | .domainSet t => Sys2Proof.Machine.execDomainSet t s
  | .coreN t => Sys2Proof.Machine.execCoreN t s
  | .powerStatus t => Sys2Proof.Machine.execPowerStatus t s
  | .ledgerRead t => Sys2Proof.Machine.execLedgerRead t s
  | .ledgerStatus t => Sys2Proof.Machine.execLedgerStatus t s
  | .surveyStart t => Sys2Proof.Machine.execSurveyStart t s
  | .ledgerNotify t => Sys2Proof.Machine.execLedgerNotify t s
  | .annalsRead t => Sys2Proof.Machine.execAnnalsRead t s
  | .annalsFreeze t => Sys2Proof.Machine.execAnnalsFreeze t s
  | .annalsFreezeTimeout t => Sys2Proof.Machine.execAnnalsFreezeTimeout t s
  | .annalsClear t => Sys2Proof.Machine.execAnnalsClear t s
  | .annalsNotify t => Sys2Proof.Machine.execAnnalsNotify t s
  | .routeStage t => Sys2Proof.Machine.execRouteStage t s
  | .routeSwitch t => Sys2Proof.Machine.execRouteSwitch t s
  | .annexConfig t => Sys2Proof.Machine.execAnnexConfig t s
  | .annexUp t => Sys2Proof.Machine.execAnnexUp t s
  | .annexAttest t e => Sys2Proof.Machine.execAnnexAttest t e s
  | .annexDown t => Sys2Proof.Machine.execAnnexDown t s
  | .depoMap t => Sys2Proof.Machine.execDepoMap t s
  | .mpStatus t => Sys2Proof.Machine.execMpStatus t s
  | .mpScrub t => Sys2Proof.Machine.execMpScrub t s
  | .mpLaneRetire t => Sys2Proof.Machine.execMpLaneRetire t s
  | .mpMirror t => Sys2Proof.Machine.execMpMirror t s
  | .debugGrant t => Sys2Proof.Machine.execDebugGrant t s
  | .debugDrop t => Sys2Proof.Machine.execDebugDrop t s
  | .certRead t => Sys2Proof.Machine.execCertRead t s
  | .measure t => Sys2Proof.Machine.execMeasure t s
  | .quote t => Sys2Proof.Machine.execQuote t s
  | .quoteSigned => Sys2Proof.Machine.execQuoteSigned s
  | .quoteExpiry id => Sys2Proof.Machine.execQuoteExpiry id s
  | .quoteRead t => Sys2Proof.Machine.execQuoteRead t s
  | .logRead t => Sys2Proof.Machine.execLogRead t s
  | .viCreate t => Sys2Proof.Machine.execViCreate t s
  | .viRemove t => Sys2Proof.Machine.execViRemove t s
  | .viStatus t => Sys2Proof.Machine.execViStatus t s
  | .aliasKeysReady => Sys2Proof.Machine.execAliasKeysReady s
  | .domainOffRequest w d reqWid => Sys2Proof.Machine.execDomainOffRequest w d reqWid s
  | .domainOnRequest w d reqWid => Sys2Proof.Machine.execDomainOnRequest w d reqWid s
  | .domainTimerRequest w d reqWid us => Sys2Proof.Machine.execDomainTimerRequest w d reqWid us s
  | .domainDrainComplete d => Sys2Proof.Machine.execDomainDrainComplete d s
  | .drainTimeout d => Sys2Proof.Machine.execDrainTimeout d s
  | .domainWakeComplete d => Sys2Proof.Machine.execDomainWakeComplete d s
  | .coreClockGate h => Sys2Proof.Machine.execCoreClockGate h s
  | .coreIdleTimerExpiry h => Sys2Proof.Machine.execCoreIdleTimerExpiry h s
  | .coreWake h => Sys2Proof.Machine.execCoreWake h s
  | .enterOff works => Sys2Proof.Machine.execEnterOff works s
  | .enterConservation => Sys2Proof.Machine.execEnterConservation s
  | .enterWatch => Sys2Proof.Machine.execEnterWatch s
  | .leaveToOrigin => Sys2Proof.Machine.execLeaveToOrigin s
  | .enterSurvey found last => Sys2Proof.Machine.execEnterSurvey found last s
  | .wakeSource bit => Sys2Proof.Machine.execWakeSource bit s
  | .heldWriteQueue w x => Sys2Proof.Machine.execHeldWriteQueue w x s
  | .watchPeriodWake x late due => Sys2Proof.Machine.execWatchPeriodWake x late due s
  | .fatalError cause => Sys2Proof.Machine.execFatalError cause s
  | .limiterEstimate watts => Sys2Proof.Machine.execLimiterEstimate watts s
  | .thermalThrottle tile temp => Sys2Proof.Machine.execThermalThrottle tile temp s
  | .throttleRelease tile temp => Sys2Proof.Machine.execThrottleRelease tile temp s
  | .thermalCut core temp => Sys2Proof.Machine.execThermalCut core temp s
  | .thermalCutRecover core temp => Sys2Proof.Machine.execThermalCutRecover core temp s
  | .thermtrip temp => Sys2Proof.Machine.execThermtrip temp s
  | .droopGuard core slack => Sys2Proof.Machine.execDroopGuard core slack s
  | .droopStep core slack => Sys2Proof.Machine.execDroopStep core slack s
  | .droopReplan core point slack => Sys2Proof.Machine.execDroopReplan core point slack s
  | .rollingCheck core m => Sys2Proof.Machine.execRollingCheck core m s
  | .rollingCheckRetry core m => Sys2Proof.Machine.execRollingCheckRetry core m s
  | .retirementRetry core => Sys2Proof.Machine.execRetirementRetry core s
  | .surveyDeadline => Sys2Proof.Machine.execSurveyDeadline s
  | .surveyDueNotice => Sys2Proof.Machine.execSurveyDueNotice s
  | .surveyOverdue => Sys2Proof.Machine.execSurveyOverdue s
  | .lifeModelTick stress => Sys2Proof.Machine.execLifeModelTick stress s
  | .mlgWayRetireWrite w tile v => Sys2Proof.Machine.execMlgWayRetireWrite w tile v s
  | .ledgerCommitRetry works => Sys2Proof.Machine.execLedgerCommitRetry works s
  | .arrayErrorDetected e => Sys2Proof.Machine.execArrayErrorDetected e s
  | .annalsEvent code src d0 d1 => Sys2Proof.Machine.execAnnalsEvent code src d0 d1 s
  | .rateBucketRefill code => Sys2Proof.Machine.execRateBucketRefill code s
  | .annalsCommit works => Sys2Proof.Machine.execAnnalsCommit works s
  | .annalsCommitRetry works => Sys2Proof.Machine.execAnnalsCommitRetry works s
  | .annalsThaw => Sys2Proof.Machine.execAnnalsThaw s
  | .calendarSet w v => Sys2Proof.Machine.execCalendarSet w v s
  | .mhpmeventWrite h k v enc => Sys2Proof.Machine.execMhpmeventWrite h k v enc s
  | .pmuBlockClear w b v => Sys2Proof.Machine.execPmuBlockClear w b v s
  | .folioCtrlWrite w v => Sys2Proof.Machine.execFolioCtrlWrite w v s
  | .folioEdge late => Sys2Proof.Machine.execFolioEdge late s
  | .curatorInstruction x => Sys2Proof.Machine.execCuratorInstruction x s
  | .debugResumeRequest h => Sys2Proof.Machine.execDebugResumeRequest h s
  | .pfFlr => Sys2Proof.Machine.execPfFlr s
  | .warmResetDelayExpiry x => Sys2Proof.Machine.execWarmResetDelayExpiry x s
  | .perstRelease => Sys2Proof.Machine.execPerstRelease s
  | .pwrgoodRise => Sys2Proof.Machine.execPwrgoodRise s
  | .vaonLoss => Sys2Proof.Machine.execVaonLoss s
  | .gpioHeldChange pin => Sys2Proof.Machine.execGpioHeldChange pin s

end Sys2Proof.Machine
end

