-- ==== Sys2Proof/Machine/Tick.lean ====
section
/-! DEFINITION. One microsecond of time: what the clocks count while no command waits (R20, R40, R497, R511). -/
namespace Sys2Proof.Machine

/-- mcycle of a hart that runs, and its SLOTS, four each cycle: CORECLK is n times 200 MHz (R19, R511, R514). -/
def State.cycleHart (s : State) (h : Nat) : State :=
  if s.runs h then (s.countCsr h 0xB00 (200 * s.nEff (s.physCore h))).hartEvents h 0x10 (800 * s.nEff (s.physCore h)) else s

/-- What a slice's counters add for 3 200 MESHCLK cycles: its home-queue entries, and its requests that wait for a directory way (R144, R517). -/
def State.cycleSlice (s : State) (t : Nat) : State :=
  let q := (s.slice t).hq
  let s1 := q.foldl (fun (s : State) (e : HqEnt) => s.pmu .tile t 0x105 3200 { wid := some e.pkt.widN }) s
  (s.hqReady t).foldl (fun (s : State) (i : Nat) => match q[i]? with
    | some e => s.pmu .tile t 0x109 3200 { wid := some e.pkt.widN }
    | none => s) s1

/-- What a gate's counters add for 3 200 MESHCLK cycles: its open transactions, of both directions, and those of them that are snoops (R517). -/
def State.cycleGate (s : State) (k : Nat) : State :=
  let own := (s.reqs.filter (fun e => decide (e.1 / 4096 = axStop k))).filterMap (fun e => e.2.map (fun r => r.pkt.widN))
  let s1 := (own ++ (s.gate k).txs.map (fun x => x.pkt.widN)).foldl (fun (s : State) (w : Nat) => s.pmu .ax k 0x406 3200 { wid := some w }) s
  ((s.gate k).txs.filter (fun x => x.kind == .snoop)).foldl (fun (s : State) (x : GateTx) => s.pmu .ax k 0x408 3200 { addr := some (x.pkt.sec * 64) }) s1

/-- What the uncore counters add for a microsecond of MESHCLK (R517). -/
def State.cycleUncore (s : State) : State :=
  (List.range 6).foldl (fun (s : State) (k : Nat) => s.cycleGate k) ((List.range 136).foldl (fun (s : State) (t : Nat) => s.cycleSlice t) s)

/-- The calendar counts microseconds while VAON is present (R497). -/
def State.tickCalendar (s : State) : State :=
  if s.pw.vaon then { s with annals := { s.annals with calendar := (s.annals.calendar + 1) % 2 ^ 64 } } else s

/-- mtime counts at 100 MHz out of reset and in every mode but M0 (R40, R530). -/
def State.tickTime (s : State) : State :=
  if s.mode = 0 ∨ s.pw.inReset = true then s else s.setF F.coreMtime_count 0 0 (s.mtime + 100)

/-- What a microsecond of MESHCLK lets happen: packets go as far as they can, packets held at an epoch flip leave once the drain has ended, slices go on with ways under
retirement, and requests that waited behind a Retry are sent (R156, R169, R177, R474). -/
def State.tickFabric (s : State) : State :=
  let s1 := s.meshTick
  let s2 := if s1.isF F.niFabricStatus_drainBusy 0 0 then s1 else s1.releaseHolds
  ((List.range 136).foldl (fun (s : State) (t : Nat) => s.retirePump t) s2).pumpRuns

/-- The Keeper arms again each corrected-error counter that has overflowed, to overflow after 16 more errors (R491). -/
def State.rearmRas (s : State) : State :=
  if s.keeperServes 66 then
    s.kpr.rearm.foldl (fun (s : State) (e : RegName × Nat × Nat) => s.setRegWord e.1 e.2.1 e.2.2 (putBits (s.regWord e.1 e.2.1 e.2.2) 48 16 0xFFF0))
      { s with kpr := { s.kpr with rearm := [] } }
  else s

/-- A microsecond passes: DESIGN CHOICE, the tick of the block's clocks is what a step on an empty queue does. (DESIGN CHOICE, assumption 109.) -/
def State.tick (s : State) : State := ((List.range 256).foldl (fun (s : State) (h : Nat) => s.cycleHart h) s).cycleUncore.tickFabric.tickTime.trainTick.rearmRas.tickCalendar

end Sys2Proof.Machine
end

