-- ==== Sys2Proof/Machine/Operands.lean ====
section
/-! DEFINITION. The operand forms that several families share: who issues a register access, and which register a form names. The block has no operand forms of a
processor's kind; what its commands carry is in the types of `Types.lean` to `Types4.lean`. -/
namespace Sys2Proof.Machine

/-- A register access by a hart. -/
def Issuer.ofHart (h : BitVec 8) : Issuer := { hart := some h }

/-- A register access by the Keeper, which acts with WID 0 from the service complex's stop (R377). -/
def Issuer.keeper : Issuer := {}

/-- A register access by the Curator, which acts with WID 1 (R377). -/
def Issuer.curator : Issuer := { wid := 1 }

end Sys2Proof.Machine
end

