-- ==== Sys2Proof/Machine/Flags.lean ====
section
/-! DEFINITION. The status flags that more than one statement names, read from the registers that hold them. The block has no arithmetic flags: the flags of the harts' and the
Curator's CSRs stand in `Ops.lean`, `Csr.lean` and `Curator.lean`. -/
namespace Sys2Proof.Machine

/-- A mode sequence runs (R444). -/
def State.inTransition (s : State) : Bool := s.isF F.pwrModeStatus_transition 0 0

/-- ALERT_N is asserted (R537). -/
def State.alertAsserted (s : State) : Bool := s.pw.alert || s.pw.alarm

end Sys2Proof.Machine
end

