-- ==== Sys2Proof/Safety.lean ====
section
/-! DEFINITION. What counts as a safe step and a safe state, in the terms that statements use. -/
namespace Sys2Proof.Machine

/-- A step is safe when it answers a next state. -/
def StepSafe (s : State) : Prop := ∃ t, step s = .next t

/-- Some pair of an owner is VALID and not revoked (R390). -/
def Fuses.live (f : Fuses) (owner : Nat) : Prop := ∃ p, p < 4 ∧ f.pairLive owner p = true

/-- How the fuse array may change (R390, R542): what wafer test fuses never changes, VALID and revocation bits are only set, SVN counters and hash bits only grow, and an
owner with a live pair keeps one. -/
structure FuseStep (f g : Fuses) : Prop where
  uds : g.uds = f.uds
  rom : g.romHash = f.romHash
  serial : g.serial = f.serial
  ceiling : g.ceilingW = f.ceilingW
  cores : g.hartCore = f.hartCore ∧ g.nCeil = f.nCeil ∧ g.vCeil = f.vCeil ∧ g.vf = f.vf
  valid : ∀ i, f.valid.contains i = true → g.valid.contains i = true
  revoked : ∀ i, f.revoked.contains i = true → g.revoked.contains i = true
  svn : ∀ t, f.svn.get 0 t ≤ g.svn.get 0 t
  hash : ∀ i b, (f.keyHash.get 0 i).testBit b = true → (g.keyHash.get 0 i).testBit b = true
  live : ∀ owner, f.live owner → g.live owner
  heirs : ∀ i, g.revoked.contains i = true → f.revoked.contains i = true ∨ g.live (i / 4)

/-- An owner with a revoked pair still has a live one: no revocation leaves an owner without (R390). -/
def Fuses.Sound (f : Fuses) : Prop := ∀ i, f.revoked.contains i = true → f.live (i / 4)

/-! ### Commands that need answers from memory (R107, R130) -/

/-- The record of a command that an I/O agent carries out at a stop and endpoint: what its accesses have been answered so far; with nothing yet where it has not begun. -/
def RunOf (s : State) (stop ep : Nat) (c : Instr) : Run :=
  (s.works.find? (fun r => r.stop == stop && r.ep == ep && r.cmd == c)).getD { stop := stop, ep := ep, cmd := c }

/-- The state in which a command is carried on from its record: its accesses of memory read the answers in order, and one that has no answer is asked for. -/
def AtWork (s : State) (r : Run) : State := { s with cursor := { left := r.log } }

/-- The state that a command leaves once every access of it has been answered: its record is gone. -/
def EndWork (u : State) (r : Run) : State :=
  { u with cursor := {}, works := u.works.erase r }

/-- No access of a command is unanswered: all that it needs has come. -/
def AllAnswered (r : Run) (u : State) : Prop := r.next = none ∧ u.cursor.block = none

/-- A command of an I/O agent is carried out at a stop and endpoint (R107, R130): once every access that it makes has been answered, it does what `f` says; an access that has no
answer yet is asked for, and the command has done nothing else; and while it waits for one, nothing happens. `v` is the state from which it is carried on. -/
def Served (c : Instr) (s v : State) (stop ep : Nat) (f : State → State) : Prop :=
  ∀ (r : Run) (u : State), r = RunOf v stop ep c → u = f (AtWork v r) →
    (AllAnswered r u → exec c s = .next (EndWork u r)) ∧
    (∀ (a : Acc) (r1 : Run), r.next = none → u.cursor.block = some a → r1 = { r with log := u.cursor.used, next := some a, tag := none } →
      exec c s = .next (State.pumpRuns
        { v with works := if v.works.contains r then v.works.map (fun x => if x == r then r1 else x) else v.works ++ [r1] })) ∧
    (r.next ≠ none → exec c s = .next v)

end Sys2Proof.Machine
end

