-- ==== Sys2Proof/Certificates/Slice0/Obligations.lean ====
section
/-! DEFINITION. The statements for the provers: what each command completes with, what it leaves, and what every step keeps. -/

/-- A command answers a next state that has a property. -/
def Sys2Proof.Machine.Gives (c : Sys2Proof.Instr) (s : Sys2Proof.Machine.State) (P : Sys2Proof.Machine.State → Prop) : Prop :=
  ∃ t, Sys2Proof.Machine.exec c s = .next t ∧ P t

/-- A command completes with what it has made of the state, if that needs no further answer. -/
def Sys2Proof.Machine.Ends (c : Sys2Proof.Instr) (s : Sys2Proof.Machine.State) (r : Sys2Proof.Machine.Run) (u : Sys2Proof.Machine.State) : Prop :=
  Sys2Proof.Machine.AllAnswered r u → Sys2Proof.Machine.exec c s = .next (Sys2Proof.Machine.EndWork u r)

/-- A slip command is served (R408, R410, R417), once the Keeper has every answer that it needs from memory: where its slip is in hand from its transport, what its row does is
done and the return slip that the row answers closes the slip, or the Keeper waits for the hardware; where nothing is in hand and its slip is the next of a transport, that slip
is taken and begun; and where another slip waits there, nothing else happens. While another command of the Keeper's is under way, nothing happens (R417). -/
def Sys2Proof.Machine.SlipServed (c : Sys2Proof.Instr) (op : Nat)
    (act : Sys2Proof.Machine.State → Sys2Proof.Machine.Slip → Sys2Proof.Machine.SlipEnv → Option Sys2Proof.Machine.Ret × Sys2Proof.Machine.State)
    (t : Sys2Proof.Machine.Transport) (e : Sys2Proof.Machine.SlipEnv) : Prop :=
  (∀ (s v : Sys2Proof.Machine.State) (r : Sys2Proof.Machine.Run), s.keeperFree c = true → v = s.keeperStart c → r = Sys2Proof.Machine.RunOf v Sys2Proof.Machine.svcStop 0 c →
    (∀ (u : Sys2Proof.Machine.State) (w : Sys2Proof.Machine.Work) (ret : Sys2Proof.Machine.Ret), s.slips.inHand = some w → w.slip.t.num = t.num → w.slip.opcode = op →
      act (Sys2Proof.Machine.AtWork v r) w.slip e = (some ret, u) → Sys2Proof.Machine.AllAnswered r (u.closeSlip w.slip w.restarted ret) →
      Sys2Proof.Machine.exec c s = .next (Sys2Proof.Machine.EndWork (u.closeSlip w.slip w.restarted ret) r)) ∧
    (∀ (u : Sys2Proof.Machine.State) (w : Sys2Proof.Machine.Work), s.slips.inHand = some w → w.slip.t.num = t.num → w.slip.opcode = op →
      act (Sys2Proof.Machine.AtWork v r) w.slip e = (none, u) → Sys2Proof.Machine.AllAnswered r u →
      Sys2Proof.Machine.exec c s = .next (Sys2Proof.Machine.EndWork u r)) ∧
    (∀ (u u2 : Sys2Proof.Machine.State) (x : Sys2Proof.Machine.RawSlip), s.slips.inHand = none → (Sys2Proof.Machine.AtWork v r).waitingOp t.num = (some op, u) →
      u.slips.inHand = none → u.keeperServes t.num = true → u.takeSlip t.num = (some x, u2) → Sys2Proof.Machine.AllAnswered r (u2.beginSlip Sys2Proof.Machine.opRow x e) →
      Sys2Proof.Machine.exec c s = .next (Sys2Proof.Machine.EndWork (u2.beginSlip Sys2Proof.Machine.opRow x e) r)) ∧
    (∀ (u : Sys2Proof.Machine.State) (o : Option Nat), (Sys2Proof.Machine.AtWork v r).waitingOp t.num = (o, u) → o ≠ some op → Sys2Proof.Machine.AllAnswered r u →
      Sys2Proof.Machine.exec c s = .next (Sys2Proof.Machine.EndWork u r))) ∧
  (∀ s : Sys2Proof.Machine.State, s.keeperFree c = false → Sys2Proof.Machine.exec c s = .next s)

open Sys2Proof Sys2Proof.Machine

/-- An access of a hart executes: the hart runs, has room for it, and its instruction's block has been fetched and is not poisoned (R59, R67); fetching it leaves `u`. -/
def Sys2Proof.Machine.Executes (s : State) (h : Nat) (a : Access) (k : OpKind) (u : State) : Prop :=
  s.runs h = true ∧ (s.hart h).room k = true ∧ s.fetch h a.isec.toNat a.id a.spec = (true, u) ∧ u.fetchPoison h a = none

/-- HART_LOAD, HART_STORE, AMO, LR, SC (R36, R38, R60): where the hart runs, has room and has fetched the instruction, the access is put in flight, with its translation
and with the exception its checks find, and what the hart has in flight is advanced. LR, SC and AMO are checked for alignment and for the type of their target as
well. -/
def Obligations.HartAccessesLaunch : Prop :=
  (∀ (h : BitVec 8) (a0 a : Access) (s u : State), a = s.translated h.toNat a0 false → Executes s h.toNat a .load u →
    exec (.hartLoad h a0) s = .next (u.enter h.toNat a (u.newInfl h.toNat .load a false (u.accessFault h.toNat a Exc.loadAccess)))) ∧
  (∀ (h : BitVec 8) (a0 a : Access) (s u : State) (k : OpKind), a = s.translated h.toNat a0 true →
    k = (if region a.x0.pa.toNat = .control then .ioStore else .store) → Executes s h.toNat a k u →
    exec (.hartStore h a0) s = .next (u.enter h.toNat a (u.newInfl h.toNat k a true (u.accessFault h.toNat a Exc.storeAccess)))) ∧
  (∀ (h : BitVec 8) (op : AmoOp) (a0 a : Access) (s u : State) (k : OpKind), a = s.translated h.toNat a0 true →
    k = (if (s.accType a).near then .amo op else .farAmo op) → Executes s h.toNat a k u → zabha a = none → misaligned a = false →
    s.accessFault h.toNat a Exc.storeAccess = none → s.accType a ≠ .io →
    exec (.amo h op a0) s = .next (u.enter h.toNat a (u.newInfl h.toNat k a false (u.accessFault h.toNat a Exc.storeAccess)))) ∧
  (∀ (h : BitVec 8) (a0 a : Access) (s u : State), a = s.translated h.toNat a0 false → Executes s h.toNat a .lr u → zabha a = none → misaligned a = false →
    s.accessFault h.toNat a Exc.loadAccess = none → (s.accType a).near = true →
    exec (.lr h a0) s = .next (u.enter h.toNat a (u.newInfl h.toNat .lr a false (u.accessFault h.toNat a Exc.loadAccess)))) ∧
  (∀ (h : BitVec 8) (a0 a : Access) (s u : State), a = s.translated h.toNat a0 true → Executes s h.toNat a .sc u → zabha a = none → misaligned a = false →
    s.accessFault h.toNat a Exc.storeAccess = none → (s.accType a).near = true →
    exec (.sc h a0) s = .next (u.enter h.toNat a (u.newInfl h.toNat .sc a false (u.accessFault h.toNat a Exc.storeAccess))))

/-- LR, SC and AMO (R32, R38): one of 1 or 2 bytes is put in flight with the illegal-instruction exception, a misaligned one with the address-misaligned exception, and one whose
target has the wrong type with the access fault. -/
def Obligations.HartAtomicExceptions : Prop :=
  (∀ (h : BitVec 8) (a0 a : Access) (s u : State), a = s.translated h.toNat a0 false → Executes s h.toNat a .lr u → zabha a = none → misaligned a = true →
    exec (.lr h a0) s = .next (u.enter h.toNat a (u.newInfl h.toNat .lr a false (some { cause := Exc.loadMisaligned, tval := a.va, tinst := a.tinst })))) ∧
  (∀ (h : BitVec 8) (a0 a : Access) (s u : State), a = s.translated h.toNat a0 true → Executes s h.toNat a .sc u → zabha a = none → misaligned a = true →
    exec (.sc h a0) s = .next (u.enter h.toNat a (u.newInfl h.toNat .sc a false (some { cause := Exc.storeMisaligned, tval := a.va, tinst := a.tinst })))) ∧
  (∀ (h : BitVec 8) (op : AmoOp) (a0 a : Access) (s u : State), a = s.translated h.toNat a0 true → Executes s h.toNat a (.farAmo op) u → zabha a = none →
    misaligned a = false → s.accessFault h.toNat a Exc.storeAccess = none → s.accType a = .io →
    exec (.amo h op a0) s = .next (u.enter h.toNat a (u.newInfl h.toNat (.farAmo op) a false
      (some { cause := Exc.storeAccess, tval := a.va, tinst := a.tinst })))) ∧
  (∀ (h : BitVec 8) (a0 a : Access) (s u : State), a = s.translated h.toNat a0 false → Executes s h.toNat a .lr u → zabha a = none → misaligned a = false →
    s.accessFault h.toNat a Exc.loadAccess = none → (s.accType a).near = false →
    exec (.lr h a0) s = .next (u.enter h.toNat a (u.newInfl h.toNat .lr a false (some { cause := Exc.loadAccess, tval := a.va, tinst := a.tinst })))) ∧
  (∀ (h : BitVec 8) (a0 a : Access) (s u : State), a = s.translated h.toNat a0 true → Executes s h.toNat a .sc u → a.size.val = 1 ∨ a.size.val = 2 →
    exec (.sc h a0) s = .next (u.enter h.toNat a (u.newInfl h.toNat .sc a false (some { cause := Exc.illegal, tval := w64 a.enc.toNat }))))

/-- STORE_COMMIT_L1D, FENCE, FENCE_I, SFENCE_VMA (R60, R68, R73, R134): the oldest retired store to a writable line of the L1D is written under its byte mask
and leaves the store queue; a fence is put in flight; FENCE.I, the oldest instruction, leaves the core's L1I empty and no fetched block in the shadow buffer; SFENCE.VMA empties
the hart's TLB and the translation entries of its shadow buffer. -/
def Obligations.HartFences : Prop :=
  (∀ (h : BitVec 8) (s : State) (e : StoreEnt) (l : List StoreEnt), (s.hart h.toNat).sq = e :: l → (e.etype = .wb ∨ e.etype = .wa) → e.tag = none →
    (s.cline (s.physCore h.toNat) e.sec).st.writable = true →
    exec (.storeCommitL1d h) s = .next (((s.writeLine (s.physCore h.toNat) e.sec e.data e.mask).storeGone h.toNat e.sec).hartPump h.toNat)) ∧
  (∀ (h : BitVec 8) (id : Nat) (s : State), s.runs h.toNat = true →
    exec (.fence h id) s = .next ((s.launch h.toNat (plainInfl id .fence (s.hart h.toNat).pc .none 0 0)).hartPump h.toNat)) ∧
  (∀ (h : BitVec 8) (s : State), s.alone h.toNat = true →
    Gives (.fenceI h) s (fun t => (t.core (s.physCore h.toNat)).l1i = [] ∧ (∀ e ∈ (t.hart h.toNat).shadowD, e.code = false) ∧
      (∀ c, c ≠ s.physCore h.toNat → t.core c = s.core c) ∧ (∀ n, n ≠ h.toNat → t.hart n = s.hart n) ∧ t.regs = s.regs ∧ t.mem = s.mem)) ∧
  (∀ (h : BitVec 8) (hyp : Bool) (enc : BitVec 32) (s : State), s.alone h.toNat = true → (s.hart h.toNat).priv = .m → (s.hart h.toNat).virt = false →
    Gives (.sfenceVma h hyp enc) s (fun t => t.hart h.toNat = { s.hart h.toNat with tlb := [], shadowT := [] } ∧ (∀ n, n ≠ h.toNat → t.hart n = s.hart n) ∧
      t.regs = s.regs ∧ t.mem = s.mem))

/-- WFI, WRS_NTO, WRS_NTO_TIMEOUT, WRS_STO, WRS_STO_EXPIRY (R34): the waits, the oldest instruction, begin and end as R34 says; WFI under mstatus.TW in a lower mode is an illegal
instruction. -/
def Obligations.HartWaits : Prop :=
  (∀ (h : BitVec 8) (s : State), s.alone h.toNat = true → s.wfiTrap h.toNat = none →
    Gives (.wfi h) s (fun t => t.hart h.toNat = { s.hart h.toNat with wait := .wfi } ∧ (∀ n, n ≠ h.toNat → t.hart n = s.hart n) ∧ t.regs = s.regs ∧ t.mem = s.mem)) ∧
  (∀ (h : BitVec 8) (s : State), s.alone h.toNat = true → (s.hart h.toNat).priv ≠ .m → bitsOf (s.csr h.toNat 0x300) 21 1 = 1 →
    exec (.wfi h) s = .next (s.except h.toNat { cause := Exc.illegal, tval := 0x10500073 } (s.hart h.toNat).pc)) ∧
  (∀ (h : BitVec 8) (s : State) (sec : Nat), s.alone h.toNat = true → (s.hart h.toNat).resv = some sec →
    Gives (.wrsNto h) s (fun t => t.hart h.toNat = { s.hart h.toNat with wait := .wrsNto sec } ∧ (∀ n, n ≠ h.toNat → t.hart n = s.hart n) ∧ t.regs = s.regs)) ∧
  (∀ (h : BitVec 8) (s : State), s.alone h.toNat = true → (s.hart h.toNat).resv = none → exec (.wrsNto h) s = .next s) ∧
  (∀ (h : BitVec 8) (s : State) (sec : Nat), (s.hart h.toNat).wait = .wrsNto sec → (s.hart h.toNat).priv ≠ .m → bitsOf (s.csr h.toNat 0x300) 21 1 = 1 →
    exec (.wrsNtoTimeout h) s = .next (s.except h.toNat { cause := Exc.illegal, tval := 0x00D00073 } (s.hart h.toNat).pc)) ∧
  (∀ (h : BitVec 8) (s : State) (sec : Nat), s.alone h.toNat = true → (s.hart h.toNat).resv = some sec →
    Gives (.wrsSto h) s (fun t => t.hart h.toNat = { s.hart h.toNat with wait := .wrsSto sec } ∧ (∀ n, n ≠ h.toNat → t.hart n = s.hart n) ∧ t.regs = s.regs)) ∧
  (∀ (h : BitVec 8) (s : State) (sec : Nat), (s.hart h.toNat).wait = .wrsSto sec →
    Gives (.wrsStoExpiry h) s (fun t => t.hart h.toNat = { s.hart h.toNat with wait := .run } ∧ (∀ n, n ≠ h.toNat → t.hart n = s.hart n) ∧ t.regs = s.regs))

/-- CSR_WRITE, MHPMEVENT_WRITE, TRAP_RETURN (R64, R512): each executes as the oldest instruction: a permitted write of a CSR has the register's effect and the hart goes on; MRET and SRET
restore the pc, the mode and the interrupt enable that the trap saved, and leave every other hart, register and byte of memory. -/
def Obligations.HartCsrsAndReturns : Prop :=
  (∀ (h : BitVec 8) (n : BitVec 12) (v : Word) (enc : BitVec 32) (s s1 : State), s.alone h.toNat = true → s.csrTrap h.toNat n.toNat = none → (s.hart h.toNat).virt = false →
    s.csrEffect h.toNat n.toNat v = some s1 → exec (.csrWrite h n v enc) s = .next (s1.hartPump h.toNat)) ∧
  (∀ (h : BitVec 8) (k : Fin 8) (v : Word) (enc : BitVec 32) (s s1 : State), s.alone h.toNat = true → s.csrTrap h.toNat (0x323 + k.val) = none →
    (s.hart h.toNat).virt = false → s.csrEffect h.toNat (0x323 + k.val) v = some s1 → exec (.mhpmeventWrite h k v enc) s = .next (s1.hartPump h.toNat)) ∧
  (∀ (h : BitVec 8) (s : State), s.alone h.toNat = true → (s.hart h.toNat).priv = .m →
    Gives (.trapReturn h true) s (fun t => (t.hart h.toNat).pc = s.csr h.toNat 0x341 ∧
      (t.hart h.toNat).priv = Priv.ofCode (bitsOf (s.csr h.toNat 0x300) 11 2) ∧
      bitsOf (t.csr h.toNat 0x300) 3 1 = bitsOf (s.csr h.toNat 0x300) 7 1 ∧ bitsOf (t.csr h.toNat 0x300) 7 1 = 1 ∧ bitsOf (t.csr h.toNat 0x300) 11 2 = 0 ∧
      (∀ n, n ≠ h.toNat → t.hart n = s.hart n) ∧ t.regs = s.regs ∧ t.mem = s.mem)) ∧
  (∀ (h : BitVec 8) (s : State), s.alone h.toNat = true → (s.hart h.toNat).priv = .s → (s.hart h.toNat).virt = false → bitsOf (s.csr h.toNat 0x300) 22 1 = 0 →
    Gives (.trapReturn h false) s (fun t => (t.hart h.toNat).pc = s.csr h.toNat 0x141 ∧
      (t.hart h.toNat).priv = Priv.ofCode (bitsOf (s.csr h.toNat 0x300) 8 1) ∧
      bitsOf (t.csr h.toNat 0x300) 1 1 = bitsOf (s.csr h.toNat 0x300) 5 1 ∧ bitsOf (t.csr h.toNat 0x300) 5 1 = 1 ∧ bitsOf (t.csr h.toNat 0x300) 8 1 = 0 ∧
      (∀ n, n ≠ h.toNat → t.hart n = s.hart n) ∧ t.regs = s.regs ∧ t.mem = s.mem))

/-- A cache-block operation executes, and nothing in it is found wrong: its field of menvcfg, henvcfg or senvcfg enables it, no debug trigger matches, it translates, and its
block exists, is not IO and may be reached (R31, R39, R105); fetching it leaves `u`, and `t` is its translation. -/
def Sys2Proof.Machine.CboRuns (s : State) (h : Nat) (a0 : Access) (k : OpKind) (lsb width : Nat) (store : Bool) (u : State) (t : Xlate) : Prop :=
  Executes s h a0 k u ∧ s.cboTrap h lsb width = none ∧ t = u.translate h a0.va.toNat store a0.x0 ∧ t.fault = none ∧
  u.accessTrigger h { a0 with x0 := t, size := 1 } Exc.storeAccess = none ∧ u.addrExists (u.physCore h) t.pa.toNat = true ∧ u.effType t.pa.toNat t.ptype ≠ .io ∧
  u.pmpOk h (u.dataPriv h).1 (t.pa.toNat / 64 * 64) 64 true = true

/-- The instruction in flight that a cache-block operation is (R105, R129). -/
def Sys2Proof.Machine.cboInfl (u : State) (a0 : Access) (t : Xlate) (k : OpKind) : Infl :=
  { id := a0.id, kind := k, pc := a0.pc, spec := a0.spec, va := a0.va, size := 8, fault := none, isec := a0.isec.toNat, tinst := a0.tinst,
    parts := [{ sec := t.pa.toNat / 64, off := 0, len := 8, etype := u.effType t.pa.toNat t.ptype }] }

/-- CBO_CLEAN, CBO_FLUSH, CBO_INVAL, CBO_ZERO, PREFETCH_R, PREFETCH_W, PREFETCH_I (R96, R105, R129): an enabled cache-block operation on an existing address
that is not IO is put in flight, cbo.inval as cbo.flush; a prefetch hint that nothing drops brings its translation to the TLB and allocates the line and asks for it, makes a
writable line M, or asks for it in the L2. -/
def Obligations.HartCacheBlockOps : Prop :=
  (∀ (h : BitVec 8) (a : Access) (s u : State) (t : Xlate),
    (CboRuns s h.toNat a (.cbo false) 6 1 false u t → exec (.cboClean h a) s = .next (u.enter h.toNat { a with x0 := t, size := 1 } (cboInfl u a t (.cbo false)))) ∧
    (CboRuns s h.toNat a (.cbo true) 6 1 false u t → exec (.cboFlush h a) s = .next (u.enter h.toNat { a with x0 := t, size := 1 } (cboInfl u a t (.cbo true)))) ∧
    (CboRuns s h.toNat a (.cbo true) 4 2 true u t → exec (.cboInval h a) s = .next (u.enter h.toNat { a with x0 := t, size := 1 } (cboInfl u a t (.cbo true)))) ∧
    (CboRuns s h.toNat a .cboZero 7 1 true u t → exec (.cboZero h a) s = .next (u.enter h.toNat { a with x0 := t, size := 1 } (cboInfl u a t .cboZero)))) ∧
  (∀ (h : BitVec 8) (a0 a : Access) (s s1 : State) (sec : Nat), a = s.translated h.toNat { a0 with size := 1 } false → s.hintDropped h.toNat a false = false →
    s1 = (s.transl h.toNat a.id false (s.translOf h.toNat a)).2 → sec = a.x0.pa.toNat / 64 → (s1.cline (s1.physCore h.toNat) sec).st = .i →
    s1.canSend (s1.physCore h.toNat) sec = true →
    exec (.prefetchR h a0) s = .next ((s1.setCline (s1.physCore h.toNat) sec { st := .isD }).coreSend (s1.physCore h.toNat) sec Opc.readShared
      (reqAttr false (s1.accType a == .wt) false 0 false (s1.accType a).code false) { pkt := {}, ep := 0, purp := .own }).2) ∧
  (∀ (h : BitVec 8) (a0 a : Access) (s s1 : State) (sec : Nat), a = s.translated h.toNat { a0 with size := 1 } true → s.hintDropped h.toNat a true = false →
    s1 = (s.transl h.toNat a.id false (s.translOf h.toNat a)).2 → sec = a.x0.pa.toNat / 64 → s1.accType a = .wb →
    (s1.cline (s1.physCore h.toNat) sec).st.writable = true →
    exec (.prefetchW h a0) s = .next ((s1.setCline (s1.physCore h.toNat) sec { s1.cline (s1.physCore h.toNat) sec with st := .m }).l1dFill (s1.physCore h.toNat) sec)) ∧
  (∀ (h : BitVec 8) (a0 a : Access) (s s1 : State), a = s.translated h.toNat { a0 with size := 1 } false → s.hintDropped h.toNat a false = false →
    s1 = (s.transl h.toNat a.id false (s.translOf h.toNat a)).2 →
    exec (.prefetchI h a0) s = .next (s1.prefetchL2 (s1.physCore h.toNat) (a.x0.pa.toNat / 64) false none))

/-- PX_BELL_SEND, DOORBELL_ARRIVAL, PX_BELL_SEND_STATUS, PX_BELL_RECV, PX_BELL_PEEK (R50, R51, R52): a doorbell that is queued joins the target's inbox and its
status returns to the sender; one that is not queued leaves every inbox; RECV, the oldest instruction, removes and returns the head, 0 from an empty inbox; PEEK leaves the inbox. -/
def Obligations.Doorbells : Prop :=
  (∀ (h : BitVec 8) (id : Nat) (rd : BitVec 5) (rs1 rs2 : Word) (enc : BitVec 32) (s : State), s.runs h.toNat = true → s.bellTrap h.toNat enc 0 = none →
    exec (.pxBellSend h id rd rs1 rs2 enc) s = .next ((s.launch h.toNat (plainInfl id .bellSend (s.hart h.toNat).pc (.x rd.toNat) rs1 rs2)).hartPump h.toNat)) ∧
  (∀ (b : BellMsg) (s : State), s.bellStatus b = 0 →
    Gives (.doorbellArrival b) s (fun t => (t.hart (b.target % 256)).inbox =
        (s.hart (b.target % 256)).inbox ++ [{ wid := b.wid, hart := b.sender, payload := b.payload }] ∧
      t.bellRet = s.bellRet ++ [(b.sender, 0)] ∧ (∀ n, n ≠ b.target % 256 → t.hart n = s.hart n) ∧ t.regs = s.regs)) ∧
  (∀ (b : BellMsg) (s : State), s.bellStatus b ≠ 0 →
    Gives (.doorbellArrival b) s (fun t => t.harts = s.harts ∧ t.bellRet = s.bellRet ++ [(b.sender, s.bellStatus b)] ∧ t.regs = s.regs)) ∧
  (∀ (h : BitVec 8) (st : BitVec 3) (s : State) (i : Infl), (s.hart h.toNat).infl.find? (fun i => i.kind == .bellSend && i.sent && !i.complete) = some i →
    exec (.pxBellSendStatus h st) s = .next ((State.finish { s with bellRet := s.bellRet.erase (h.toNat, st.toNat) } h.toNat i.id st.toNat).hartPump h.toNat)) ∧
  (∀ (h : BitVec 8) (rd : BitVec 5) (enc : BitVec 32) (s : State) (d : Doorbell) (l : List Doorbell), s.alone h.toNat = true → s.bellTrap h.toNat enc 1 = none →
    (s.hart h.toNat).inbox = d :: l →
    Gives (.pxBellRecv h rd enc) s (fun t => (rd ≠ 0 → (t.hart h.toNat).xreg rd.toNat = d.payload) ∧ (t.hart h.toNat).inbox = l ∧
      (∀ r, r % 32 ≠ rd.toNat → (t.hart h.toNat).xreg r = (s.hart h.toNat).xreg r) ∧ (∀ n, n ≠ h.toNat → t.hart n = s.hart n) ∧ t.regs = s.regs)) ∧
  (∀ (h : BitVec 8) (rd : BitVec 5) (enc : BitVec 32) (s : State), s.alone h.toNat = true → s.bellTrap h.toNat enc 1 = none → (s.hart h.toNat).inbox = [] →
    Gives (.pxBellRecv h rd enc) s (fun t => (t.hart h.toNat).xreg rd.toNat = 0 ∧ (t.hart h.toNat).inbox = [])) ∧
  (∀ (h : BitVec 8) (rd : BitVec 5) (enc : BitVec 32) (s : State), s.alone h.toNat = true → s.bellTrap h.toNat enc 2 = none →
    Gives (.pxBellPeek h rd enc) s (fun t => (rd ≠ 0 → (t.hart h.toNat).xreg rd.toNat = bellHead (s.hart h.toNat).inbox) ∧ (t.hart h.toNat).inbox = (s.hart h.toNat).inbox ∧
      (∀ r, r % 32 ≠ rd.toNat → (t.hart h.toNat).xreg r = (s.hart h.toNat).xreg r) ∧ (∀ n, n ≠ h.toNat → t.hart n = s.hart n) ∧ t.regs = s.regs))

/-- PX_FENCE_AX, PX_FENCE_AX_COMPLETE, BRANCH_RESOLVE, INSTRUCTION_BOUND, INSTRUCTION_SQUASH, INSTRUCTION_RETIRE, INTERRUPT_TAKEN (R56, R57, R58, R60, R63, R65, R66, R69,
R77): the fence is put in flight with its mask, and its last answer completes it with the failures in rd; a mispredicted branch squashes what is younger and restores the global
history to its value at the branch; a fetched call pushes its return address, and a return whose predicted target was wrong empties the return stack; a bound
instruction is no longer speculative and its block is in the L1I; an instruction that retires moves the pc and counts; an interrupt at a wait traps to the next instruction. -/
def Obligations.HartPipeline : Prop :=
  (∀ (h : BitVec 8) (id : Nat) (enc : BitVec 32) (rs1 : Word) (s : State), s.runs h.toNat = true → fenceAxEnc enc = true →
    exec (.pxFenceAx h id enc rs1) s = .next ((s.launch h.toNat (plainInfl id .fenceAx (s.hart h.toNat).pc (.x (encRd enc)) rs1 0)).hartPump h.toNat)) ∧
  (∀ (h : BitVec 8) (p : Fin 6) (bad : Bool) (s : State) (f : AxFence), (s.hart h.toNat).fence = some f → f.probed = true → f.waiting &&& ~~~(1#6 <<< p.val) = 0 →
    exec (.pxFenceAxComplete h p (.done bad)) s = .next (((s.modHart h.toNat (fun x => { x with fence := none, axErr := 0 })).finish h.toNat f.id
      ((if bad then f.failed ||| (1#6 <<< p.val) else f.failed) ||| (s.hart h.toNat).axErr).toNat).hartPump h.toNat)) ∧
  (∀ (h : BitVec 8) (b : Branch) (s : State) (k k' : Core) (e : PredRec), s.runs h.toNat = true → b.mispredicted = true → b.isReturn = false →
    k = b.fetched.foldl Core.fetchBranch (s.core (s.physCore h.toNat)) → k.preds.find? (fun e => e.id == b.id) = some e →
    k' = { k with preds := k.preds.filter (fun e => decide (e.id < b.id)), ghist := w64 (e.ghist.toNat * 2 + b.taken.toNat) } →
    exec (.branchResolve h b) s = .next (((s.setCore (s.physCore h.toNat) k').squash h.toNat (fun i => decide (b.id < i.id))).hartPump h.toNat)) ∧
  (∀ (h : BitVec 8) (b : Branch) (s : State) (k k' : Core) (e : PredRec) (w : Word), s.runs h.toNat = true → b.mispredicted = true → b.isReturn = true →
    k = b.fetched.foldl Core.fetchBranch (s.core (s.physCore h.toNat)) → k.preds.find? (fun e => e.id == b.id) = some e → e.target = some w → w ≠ b.target →
    k' = { k with preds := k.preds.filter (fun e => decide (e.id < b.id)), ras := [], ghist := w64 (e.ghist.toNat * 2 + b.taken.toNat) } →
    exec (.branchResolve h b) s = .next (((s.setCore (s.physCore h.toNat) k').squash h.toNat (fun i => decide (b.id < i.id))).hartPump h.toNat)) ∧
  (∀ (h : BitVec 8) (b : Branch) (p : Pred) (s : State), s.runs h.toNat = true → b.mispredicted = false → b.isReturn = false → b.fetched = [p] → p.isCall = true →
    Gives (.branchResolve h b) s (fun t => (t.core (s.physCore h.toNat)).ras = (p.link :: (s.core (s.physCore h.toNat)).ras).take 32 ∧
      (t.core (s.physCore h.toNat)).ghist = w64 ((s.core (s.physCore h.toNat)).ghist.toNat * 2 + p.taken.toNat) ∧ t.harts = s.harts ∧ t.regs = s.regs)) ∧
  (∀ (h : BitVec 8) (id : Nat) (s s1 : State) (i : Infl), (s.hart h.toNat).infl.find? (fun i => i.id == id) = some i →
    (∀ p ∈ i.parts, p.tag = none ∧ p.missed = false ∧ s.openReq (coreStop (s.physCore h.toNat)) (s.physCore h.toNat % 2) p.sec = none) →
    s1 = s.modInfl h.toNat id (fun i => { i with spec := false, parts := i.parts.map (fun p => { p with missed := false }) }) →
    i.isec ≠ 2 ^ 46 → s1.codePoison h.toNat i.isec = false → s1.deferOn (s.physCore h.toNat) = true →
    (s1.hart h.toNat).shadowD.any (fun e => e.code && e.sec == i.isec) = false →
    exec (.instructionBound h id) s = .next ((s1.l1iFill (s.physCore h.toNat) i.isec).hartPump h.toNat)) ∧
  (∀ (h : BitVec 8) (id : Nat) (s : State), (s.hart h.toNat).infl.any (fun i => i.id == id && !i.done) = true →
    exec (.instructionSquash h id []) s = .next ((s.squash h.toNat (fun i => i.id == id && !i.done)).hartPump h.toNat)) ∧
  (∀ (h : BitVec 8) (r : Retire) (s : State), s.runs h.toNat = true → r.id = none → r.branch = none → r.events = [] →
    exec (.instructionRetire h r) s = .next ((((((s.modHart h.toNat (fun x => { x with pc := r.next, wait := .run })).specBoundary
      (s.physCore h.toNat)).countCsr h.toNat 0xB02 1).icountRetire h.toNat).stepHalt h.toNat).hartPump h.toNat)) ∧
  (∀ (h : BitVec 8) (r : Retire) (s : State) (i : Infl) (l : List Infl), s.runs h.toNat = true → (s.hart h.toNat).infl = i :: l → r.id = some i.id → i.done = true →
    i.spec = false → i.kind.writes = false → r.branch = none → r.events = [] →
    exec (.instructionRetire h r) s = .next ((((((s.modHart h.toNat (fun x => { x with pc := r.next, wait := .run, infl := x.infl.drop 1 })).specBoundary
      (s.physCore h.toNat)).countCsr h.toNat 0xB02 1).icountRetire h.toNat).stepHalt h.toNat).hartPump h.toNat)) ∧
  (∀ (h : BitVec 8) (cause : BitVec 6) (next : Word) (s : State), s.runs h.toNat = true → s.irqReady h.toNat cause.toNat = true → (s.hart h.toNat).infl = [] →
    (s.hart h.toNat).wait ≠ .run →
    exec (.interruptTaken h cause (.wait next)) s = .next (s.takeIrq h.toNat cause.toNat next))

/-- REGISTER_WRITE (R9): a 64-bit write of CORE_PF_CTRL by a world that may make it is performed field by field and answered; an access of the wrong form, to an
address without a register, or by a world that may not make it, changes no register and is refused with its own code. -/
def Obligations.RegisterWrites : Prop :=
  (∀ (w : Issuer) (pa : BitVec 52) (data : Word) (s : State) (u i : Nat), ctlForm pa.toNat 8 = true → s.ctlTarget pa.toNat = .reg .corePfCtrl u i → s.holds = false →
    s.reachable .core u = true → s.coreCtrlMay { w with pa := pa } u = true →
    exec (.registerWrite w pa 8 data) s = .next ((s.writeReg .corePfCtrl u i (s.fill .corePfCtrl u i data allBytes) allBytes).accept { w with pa := pa } (Place.core.stopOf u))) ∧
  (∀ (w : Issuer) (pa : BitVec 52) (size : Nat) (data : Word) (s : State), ctlForm pa.toNat size = false →
    exec (.registerWrite w pa size data) s = .next (s.refuse { w with pa := pa } (if pa.toNat < controlBase then 0 else (pa.toNat - controlBase) / 0x400000 % 256) true Err.format)) ∧
  (∀ (w : Issuer) (pa : BitVec 52) (size : Nat) (data : Word) (s : State), ctlForm pa.toNat size = true → s.ctlTarget pa.toNat = .none →
    exec (.registerWrite w pa size data) s = .next (s.refuse { w with pa := pa } (if pa.toNat < controlBase then 0 else (pa.toNat - controlBase) / 0x400000 % 256) true Err.address)) ∧
  (∀ (w : Issuer) (pa : BitVec 52) (data : Word) (s : State) (u i : Nat), ctlForm pa.toNat 8 = true → s.ctlTarget pa.toNat = .reg .corePfCtrl u i → s.holds = false →
    s.reachable .core u = true → s.coreCtrlMay { w with pa := pa } u = false →
    exec (.registerWrite w pa 8 data) s = .next (s.refuse { w with pa := pa } (Place.core.stopOf u) true Err.permission))

/-- CORE_MTIME_WRITE, CORE_MTIMECMP_WRITE, MTIME_COMPARE_MATCH, IMSIC_SETEIPNUM_WRITE (R40, R41, R47): the timer registers take the value written by an entitled
world; while mtime has reached a compare value the pending bit of mip reads 1, and the match ends a WFI of the hart that enables it; an entitled write to an interrupt file sets
the identity. Every other register is as before. -/
def Obligations.TimersAndFiles : Prop :=
  (∀ (w : Issuer) (v : Word) (s : State), s.issuerWid w = 0 →
    Gives (.coreMtimeWrite w v) s (fun t => t.regWord .coreMtime 0 0 = v ∧ (∀ r u i, r ≠ .coreMtime → t.regWord r u i = s.regWord r u i) ∧ t.harts = s.harts ∧ t.mem = s.mem)) ∧
  (∀ (w : Issuer) (h : BitVec 8) (v : Word) (s : State), s.issuerWid w = 0 ∨ s.issuerWid w = s.seat h.toNat →
    Gives (.coreMtimecmpWrite w h v) s (fun t => t.regWord .coreMtimecmp 0 h.toNat = v ∧ (∀ r u i, r ≠ .coreMtimecmp → t.regWord r u i = s.regWord r u i) ∧
      t.harts = s.harts ∧ t.mem = s.mem)) ∧
  (∀ (h : BitVec 8) (s : State), s.getF F.coreMtimecmp_compare 0 h.toNat ≤ s.mtime →
    Gives (.mtimeCompareMatch h 0) s (fun t => bitsOf (t.csr h.toNat 0x344) 7 1 = 1 ∧ (∀ n, n ≠ h.toNat → t.hart n = s.hart n) ∧ t.regs = s.regs)) ∧
  (∀ (h : BitVec 8) (l : Fin 3) (s : State), s.timerDue h.toNat l.val = true → bitsOf (s.csr h.toNat 0x304) (if l.val = 0 then 7 else if l.val = 1 then 5 else 6) 1 = 1 →
    (s.hart h.toNat).wait = .wfi →
    Gives (.mtimeCompareMatch h l) s (fun t => t.hart h.toNat = { s.hart h.toNat with wait := .run } ∧ (∀ n, n ≠ h.toNat → t.hart n = s.hart n) ∧ t.regs = s.regs)) ∧
  (∀ (w : Issuer) (h : BitVec 8) (file : Fin 8) (m : Bool) (id : BitVec 8) (on : Option (BitVec 6)) (s : State), s.holds = false →
    s.reachable .core (s.physCore h.toNat) = true → s.fileWriteOk h.toNat (s.issuerWid w) (on.map (·.toNat)) = true →
    exec (.imsicSeteipnumWrite w h file m id on) s = .next ((s.setIrq h.toNat (if m then 0 else 1 + file.val) id.toNat).accept w (Place.core.stopOf (s.physCore h.toNat))))

/-- GPIO_INPUT_CHANGE, GPIO_HELD_CHANGE, APLIC_SOURCE_EVENT, CALENDAR_ALARM, CALENDAR_SET (R48, R402, R454, R497): a pin's change drives its source and no
other; a held output change is applied; a source that is not enabled only becomes pending; a calendar alarm raises its source, and in M0 wakes the device where
its wake bit is set; the calendar takes the value written and that is recorded. -/
def Obligations.PinsAndSources : Prop :=
  (∀ (pin : Fin 32) (level : Bool) (s : State), (s.pins.get {} pin.val).isOut = false → s.srcWid (pin.val + 1) ≠ 0 →
    Gives (.gpioInputChange pin level) s (fun t => (t.pins.get {} pin.val).level = level ∧
      t.aplicSrc (pin.val + 1) = (s.aplicSrc (pin.val + 1)).input (s.pins.get {} pin.val).level level ∧
      (∀ n, n ≠ pin.val + 1 → t.aplicSrc n = s.aplicSrc n) ∧ t.regs = s.regs ∧ t.harts = s.harts)) ∧
  (∀ (pin : Fin 32) (s : State) (v : Bool), (s.pins.get {} pin.val).held = some v →
    Gives (.gpioHeldChange pin) s (fun t => (t.pins.get {} pin.val).out = v ∧ (t.pins.get {} pin.val).held = none ∧ t.regs = s.regs)) ∧
  (∀ (src : Fin 64) (s : State), src.val ≠ 0 → src.val < 42 → (s.aplicSrc src.val).sm ≠ 0 → (src.val ≤ 32 → s.srcWid src.val ≠ 0) → (s.aplicSrc src.val).en = false →
    Gives (.aplicSourceEvent src) s (fun t => (t.aplicSrc src.val).pend = true ∧ (∀ n, n ≠ src.val → t.aplicSrc n = s.aplicSrc n) ∧ t.regs = s.regs ∧ t.harts = s.harts)) ∧
  (∀ (a : Fin 4) (s : State), s.mode ≠ 0 → (s.aplicSrc (33 + a.val)).sm ≠ 0 → (s.aplicSrc (33 + a.val)).en = false →
    Gives (.calendarAlarm a) s (fun t => (t.aplicSrc (33 + a.val)).pend = true ∧ t.regs = s.regs)) ∧
  (∀ (a : Fin 4) (s : State), s.mode = 0 → (s.regWord .pwrWakeEn 0 0).getLsbD (33 + a.val) = true →
    Gives (.calendarAlarm a) s (fun t => t.pw.alarm = true ∧ t.regs = s.regs ∧ t.harts = s.harts)) ∧
  (∀ (w : Issuer) (v : Word) (s : State), s.issuerWid w = 0 ∨ s.issuerWid w = 2 →
    exec (.calendarSet w v) s = .next (((((State.setF { s with annals := { s.annals with calendar := v.toNat } } F.anlStatus_timeUnset 0 0 0).setRegWord .anlCalendar 0 0 v).record
      Ev.calendarSet { srcSvc with wid := s.issuerWid w } (w64 s.annals.calendar) v).accept w svcStop)))

/-- CORE_SPEC_CTRL_WRITE, CORE_MEMATTR_WRITE, BROADCAST_COMPLETE, LLC_SHELF_WRITE, LLC_WID_CLASS_WRITE, LLC_SHELF_CTRL_WRITE, SHELF_FLUSH_COMPLETE (R62, R89,
R100, R101): a broadcast write is performed and its issuer waits for the acknowledgements, CORE_SPEC_CTRL takes a write for the next
instruction boundary; a shelf write that breaks a rule changes nothing but REJECT; the flush goes on until nothing that it covers is left, and then FLUSHING clears. -/
def Obligations.BroadcastWrites : Prop :=
  (∀ (w : Issuer) (c : Fin 272) (v : Word) (s : State), s.holds = false → s.reachable .core c.val = true → s.coreCtrlMay w c.val = true →
    exec (.coreSpecCtrlWrite w c v) s = .next ((s.specWrite c.val v).accept w (Place.core.stopOf c.val))) ∧
  (∀ (w : Issuer) (n : Fin 16) (lim : Bool) (v : Word) (s : State), s.issuerWid w = 0 →
    Gives (.coreMemattrWrite w n lim v) s (fun t =>
      t.regs = (s.writeReg (if lim then .coreMemattrLim else .coreMemattr) 0 n.val v allBytes).regs ∧ t.broadcasts = s.broadcasts ++ [w] ∧ t.mem = s.mem)) ∧
  (∀ (w : Issuer) (s : State), s.broadcasts = [w] → exec .broadcastComplete s = .next ((State.stall { s with broadcasts := [] } w false).accept w svcStop)) ∧
  (∀ (w : Issuer) (v : Word) (s : State) (r : RegName) (i : Nat) (c : Instr), s.issuerWid w = 0 →
    ((∃ k : Fin 16, r = .llcShelf ∧ i = k.val ∧ c = .llcShelfWrite w k v) ∨ (∃ k : Fin 4, r = .llcWidClass ∧ i = k.val ∧ c = .llcWidClassWrite w k v) ∨
      (r = .llcShelfCtrl ∧ i = 0 ∧ c = .llcShelfCtrlWrite w v)) →
    ((s.writeReg r 0 i v allBytes).shelfOk = false → exec c s = .next ((s.setF F.llcShelfCtrl_reject 0 0 1).accept w svcStop)) ∧
    ((s.writeReg r 0 i v allBytes).shelfOk = true → flushMask s (s.writeReg r 0 i v allBytes) State.llcMask = 0 →
      flushMask s (s.writeReg r 0 i v allBytes) State.dirMask = 0 →
      Gives c s (fun t => t.regs = (s.writeReg r 0 i v allBytes).regs ∧ t.broadcasts = s.broadcasts ++ [w] ∧ t.flushIssuers = s.flushIssuers))) ∧
  (∀ (s s1 : State), s1 = s.flushRound s.shelfDirs s.shelfLines →
    (s1.flushDone (fun _ => true) s.shelfDirs s.shelfLines = true → s.flushIssuers = [] →
      Gives .shelfFlushComplete s (fun t => t.flushWays = 0 ∧ t.flushDirWays = 0 ∧ t.flushIssuers = [] ∧ t.isF F.llcShelfCtrl_flushing 0 0 = false)) ∧
    (s1.flushDone (fun _ => true) s.shelfDirs s.shelfLines = false → exec .shelfFlushComplete s = .next s1))

/-- HART_REMAP, REDUCED_SERVICE_EXIT (R44, R104): a hart whose move has begun, and whose accesses and caches have gone out with those of its core, is moved to a usable reserve core;
until then the quiesce goes on; a hart that is held is not moved. The exit from Reduced service powers the slices, pauses the harts and writes their caches back; then it takes the
staging shelf to memory; and when nothing of that is left the device leaves for the boot configuration's mode. -/
def Obligations.RemapAndExit : Prop :=
  (∀ (h : BitVec 8) (c : Fin 272) (s u : State), s.getF F.coreHartMap_state 0 h.toNat = 2 →
    (List.range 256).any (fun g => g != h.toNat && s.getF F.coreHartMap_state 0 g == 2) = false → s.isF F.wldSeat_lending 0 h.toNat = false →
    s.usableReserve c.val = true →
    (s.quiesce h.toNat = (false, u) → exec (.hartRemap h c) s = .next u) ∧
    (∀ v : State, s.quiesce h.toNat = (true, u) → u.bury (s.physCore h.toNat) = (true, v) → exec (.hartRemap h c) s = .next (v.moveHart h.toNat c.val))) ∧
  (∀ (h : BitVec 8) (c : Fin 272) (s : State), s.getF F.coreHartMap_state 0 h.toNat = 0 → exec (.hartRemap h c) s = .next s) ∧
  (∀ s : State, s.reducedGoal = none → exec .reducedServiceExit s = .next s) ∧
  (∀ (s s1 u : State) (cfg : BootCfg) (m : Nat) (b : Bool), s.reducedGoal = some (cfg, m) →
    s1 = ((List.range 136).foldl (fun (s : State) (t : Nat) => s.setDomain (272 + t) 2) s).pauseHarts →
    s1.released.foldl (fun (a : Bool × State) (h : Nat) => let q := a.2.quiesce h; (a.1 && q.1, q.2)) (true, s1) = (b, u) →
    (b = false → exec .reducedServiceExit s = .next u) ∧
    (b = true → u.unstage.slices.all (fun e => e.2.hq.isEmpty && e.2.txs.isEmpty && e.2.mem.isEmpty) = false → exec .reducedServiceExit s = .next u.unstage) ∧
    (b = true → u.unstage.slices.all (fun e => e.2.hq.isEmpty && e.2.txs.isEmpty && e.2.mem.isEmpty) = true →
      exec .reducedServiceExit s = .next (u.unstage.leaveReduced cfg m)))

/-- READ_SHARED, READ_UNIQUE, READ_ONCE, CLEAN_UNIQUE, WRITE_INVALIDATE_FULL, WRITE_PARTIAL, WRITE_BACK_DIRTY, WRITE_BACK_OWNED (R126, R128): a request that arrives takes
the entry its roster slot holds in reserve, else one its class has left; it leaves the roster and enters the home queue, and what can start is started. The same
requests where neither the slot nor its class has an entry: the home answers Retry, puts the slot at the roster's tail if it is not there, and keeps the home
queue as it was. A speculative ReadShared never enters the home queue: it is served from the LLC, held or turned away (R122). A packet that cannot be ejected at its home now,
because an earlier one of its stream is still on the way (R119, R173), does nothing yet. -/
def Obligations.HomeRequestsQueued : Prop :=
  (∀ (p : Packet) (s u : State) (n : Nat) (op : BitVec 8) (c : Instr) (k : Option Nat),
     ((p.spec = false ∧ op = Opc.readShared ∧ c = .readShared p) ∨ (op = Opc.readUnique ∧ c = .readUnique p) ∨ (op = Opc.readOnce ∧ c = .readOnce p) ∨
       (op = Opc.cleanUnique ∧ c = .cleanUnique p) ∨ (op = Opc.writeInvFull ∧ c = .writeInvalidateFull p) ∨ (op = Opc.writePartial ∧ c = .writePartial p) ∨
       (op = Opc.writeBackDirty ∧ c = .writeBackDirty p) ∨ (op = Opc.writeBackOwned ∧ c = .writeBackOwned p)) →
     (s.eject p = none → exec c s = .next s) ∧
     (s.eject p = some u → n = u.tileOf p →
     (((u.slice n).roster.find? (fun r => r.slot == rosterSlot p.srcN p.epN) = none ∧ u.hqKind n (u.classOf p.widN) = some k) ∨
       (∃ r, (u.slice n).roster.find? (fun r => r.slot == rosterSlot p.srcN p.epN) = some r ∧
         (r.res = some k ∨ (r.res = none ∧ u.hqKind n (u.classOf p.widN) = some k)))) →
     exec c s = .next ((u.modSlice n (fun x => { x with
       hq := x.hq ++ [{ pkt := { p with opcode := op }, active := false, resClass := k }]
       roster := x.roster.filter (fun r => r.slot != rosterSlot p.srcN p.epN) })).hqScan n 49))) ∧
  (∀ (p : Packet) (s u : State) (n : Nat) (c : Instr), s.eject p = some u → n = u.tileOf p → (p.spec = false ∨ c ≠ .readShared p) →
    (c = .readShared p ∨ c = .readUnique p ∨ c = .readOnce p ∨ c = .cleanUnique p ∨ c = .writeInvalidateFull p ∨ c = .writePartial p ∨ c = .writeBackDirty p ∨
      c = .writeBackOwned p) →
    (∀ r, (u.slice n).roster.find? (fun r => r.slot == rosterSlot p.srcN p.epN) = some r → r.res = none) → u.hqKind n (u.classOf p.widN) = none →
    Gives c s (fun t => (t.slice n).hq = (u.slice n).hq ∧
      (t.slice n).roster = (if ((u.slice n).roster.find? (fun r => r.slot == rosterSlot p.srcN p.epN)).isSome then (u.slice n).roster
        else (u.slice n).roster ++ [{ slot := rosterSlot p.srcN p.epN, cls := u.classOf p.widN }]) ∧
      (∃ op, t.outq = u.outq ++ [answer { p with opcode := op } (tileStop n) Opc.retry 0]) ∧ t.mem = s.mem ∧ t.harts = s.harts)) ∧
  (∀ (p : Packet) (s u : State), p.spec = true → s.eject p = some u → Gives (.readShared p) s (fun t => t = u.specRead p ∧
    (t.slice (u.tileOf p)).hq = (u.slice (u.tileOf p)).hq))

/-- EVICT_CLEAN, SPEC_RELEASE, SPEC_CANCEL, RESERVE_LIMIT_EXPIRY, SNP_RESP, SNP_RESP_DATA, WRITE_DATA, WRITE_DATA_MASKED, COMP_ACK (R119, R122, R127, R137,
R157, R215): EvictClean drops the requester's listing; a held speculative request enters the home queue or is dropped and answered; a reservation passes on. An
answer joins its transaction; pulled data is taken by the transaction that pulled it, or by the I/O write that waits for it; the acknowledgement closes its
transaction. -/
def Obligations.HomeNoticesAndAnswers : Prop :=
  (∀ (p : Packet) (s u : State) (a : Nat), s.eject p = some u → agentId p.srcN p.epN = some a →
    exec (.evictClean p) s = .next (u.dropListing (u.tileOf p) p.sec a)) ∧
  (∀ (p q : Packet) (s u : State), s.eject p = some u → (u.slice (u.tileOf p)).spec.find? (sameTag p) = some q →
    exec (.specRelease p) s = .next ((u.modSlice (u.tileOf p) (fun c => { c with spec := c.spec.erase q })).homeRequest (u.tileOf p)
      { q with attr := q.attr &&& 0xFFFE })) ∧
  (∀ (p : Packet) (s u : State), s.eject p = some u →
    Gives (.specCancel p) s (fun t => (∀ q, q ∈ (t.slice (u.tileOf p)).spec → sameTag p q = false) ∧
      t.outq = u.outq ++ [answer p (tileStop (u.tileOf p)) Opc.comp 0] ∧ t.mem = s.mem ∧ t.regs = u.regs ∧ t.harts = s.harts)) ∧
  (∀ (tile : Fin 136) (slot : Fin 512) (s : State) (r : RosterEnt) (kind : Option Nat), (s.slice tile.val).roster.find? (fun x => x.slot == slot.val) = some r →
    r.res = some kind →
    Gives (.reserveLimitExpiry tile slot) s (fun t => (t.slice tile.val).roster =
      reserveFor ((s.slice tile.val).roster.filter (fun q => q.slot != slot.val)) kind ++ [{ r with res := none }] ∧ t.mem = s.mem ∧ t.regs = s.regs ∧ t.harts = s.harts)) ∧
  (∀ (p : Packet) (s u : State) (x : Tx) (a : Nat), s.eject p = some u → u.tx (u.tileOf p) p.sec = some x → agentId p.srcN p.respEp = some a →
    exec (.snpResp p) s = .next (u.snoopAnswer (u.tileOf p) x a p.snpState p.snpFwd p.snpDead none)) ∧
  (∀ (p : Packet) (s u : State) (x : Tx) (a : Nat), s.eject p = some u →
    (u.slice (u.tileOf p)).txs.find? (fun y => y.pkt.src == p.endpoint && y.pkt.tag == p.tag && !y.waits.isEmpty) = some x → x.owner = some a →
    exec (.snpRespData p) s = .next (u.snoopAnswer (u.tileOf p) x a (p.opcode.toNat % 4) (p.opcode.toNat / 4 % 2 == 1) false
      (some (p.payload, p.poison)))) ∧
  (∀ (p : Packet) (s u : State), s.eject p = some u → u.ioWrites.find? (fun x => x.src == p.src && x.tag == p.tag && x.dst == p.dst) = none →
    (∀ t, u.homeWriteData p p.payload fullMask p.poison 0 = some t → exec (.writeData p) s = .next t) ∧
    (∀ t, u.homeWriteData p p.payload2 p.mask p.poison2 p.aop = some t → exec (.writeDataMasked p) s = .next t)) ∧
  (∀ (p x : Packet) (s u : State), s.eject p = some u → u.ioWrites.find? (fun x => x.src == p.src && x.tag == p.tag && x.dst == p.dst) = some x →
    exec (.writeData p) s = .next (u.ioWriteData x p.payload p.poison)) ∧
  (∀ (p : Packet) (s u : State) (x : Tx), s.eject p = some u → u.tx (u.tileOf p) p.sec = some x →
    (x.phase = .ack → exec (.compAck p) s = .next (u.txClose (u.tileOf p) x)) ∧
    (x.phase = .snoops → x.back = false → exec (.compAck p) s = .next (u.setTx (u.tileOf p) { x with acked := true })))

/-- SNP_SHARED, SNP_UNIQUE, SNP_UNIQUE_TO_HOME, SNP_INVALIDATE, SNP_CLEAN, HOLD_WINDOW_CLOSE (R125, R148, R150, R152): a flushed core answers that it holds nothing, and a dead
holder that its data is lost; inside an open hold window the snoop is held: it joins the window's held snoops, last, no line or answer changes, and nothing is sent; a live core
without an open window performs it; a snoop of an annex agent goes to its gate. The close of a window removes it and answers the held snoops in their order; where no window is
open there is nothing to close. -/
def Obligations.SnoopsAtCores : Prop :=
  (∀ (p : Packet) (s u : State) (a : Nat) (c : Instr) (k : Snoop) (op : BitVec 8), s.eject p = some u → agentId p.dstN p.epN = some a →
    ((c = .snpShared p ∧ k = .shared ∧ op = Opc.snpShared) ∨ (c = .snpUnique p ∧ k = .unique ∧ op = Opc.snpUnique) ∨
      (c = .snpUniqueToHome p ∧ k = .toHome ∧ op = Opc.snpUniqueHome) ∨ (c = .snpInvalidate p ∧ k = .inv ∧ op = Opc.snpInvalidate) ∨
      (c = .snpClean p ∧ k = .clean ∧ op = Opc.snpClean)) →
    (a < 272 → (u.core a).flushed = false → (u.core a).dead = false → u.windowOpen a p.sec = false →
      exec c s = .next ((u.coreSnoop a k { p with opcode := op }).corePump a)) ∧
    (a < 272 → (u.core a).flushed = false → (u.core a).dead = false → u.windowOpen a p.sec = true →
      Gives c s (fun t => (t.core a).windows = (u.core a).windows.map (fun w => if w.sec = p.sec then { w with held := w.held ++ [{ p with opcode := op }] } else w) ∧
        (∀ n, n ≠ a → t.core n = s.core n) ∧ t.caches = s.caches ∧ t.outq = s.outq ∧ t.dir = s.dir ∧ t.llc = s.llc ∧ t.mem = s.mem)) ∧
    (a < 272 → (u.core a).flushed = true → exec c s = .next (u.send (snpEmpty { p with opcode := op } false))) ∧
    (a < 272 → (u.core a).flushed = false → (u.core a).dead = true → exec c s = .next (u.send (snpEmpty { p with opcode := op } true))) ∧
    (272 ≤ a → exec c s = .next (u.gateSnoop ((a - 272) / 16) { p with opcode := op }))) ∧
  (∀ (core : Fin 272) (sec : BitVec 46) (s : State) (w : HoldWin), (s.core core.val).windows.find? (fun w => w.sec == sec.toNat) = some w →
    exec (.holdWindowClose core sec) s = .next ((w.held.foldl (fun s p => match snoopKind p.opcode with
        | some k => s.coreSnoop core.val k p
        | none => s)
      (s.modCore core.val (fun k => { k with windows := k.windows.filter (fun v => v.sec != sec.toNat) }))).corePump core.val)) ∧
  (∀ (core : Fin 272) (sec : BitVec 46) (s : State), s.windowOpen core.val sec.toNat = false → exec (.holdWindowClose core sec) s = .next (s.corePump core.val))

/-- COMP_DATA, DATA_FWD, COMP, DATA_PULL, RETRY, RETRY_BACKOFF_EXPIRY, ERR_RESP (R117, R121, R124, R156, R198, R214): a response with the tag of a core's request is
taken by that request, and one with the tag of an I/O agent's access lets the command that waits for it go on; a request that is not speculative waits out its backoff after Retry
and is then sent again, the same packet. -/
def Obligations.ResponsesAtCores : Prop :=
  (∀ (p : Packet) (s u : State) (t : Nat) (r : Req), s.eject p = some u → stopAx p.dstN = none → stopTile p.dstN = some t → u.req p.dstN p.tagN = some r → r.ep < 2 →
    r.purp ≠ .engine →
    exec (.compData p) s = .next (u.coreData (2 * t + r.ep) r p.dataGrant false p.payload p.poison) ∧
    exec (.dataFwd p) s = .next (u.coreData (2 * t + r.ep) r p.dataGrant true p.payload p.poison) ∧
    exec (.comp p) s = .next (u.coreComp (2 * t + r.ep) r (p.attr.toNat % 4)) ∧
    exec (.dataPull p) s = .next (u.corePull (2 * t + r.ep) r) ∧
    exec (.errResp p) s = .next (u.coreError (2 * t + r.ep) r p.errCode p.errOrigin)) ∧
  (∀ (p : Packet) (s u : State) (r : Req), s.eject p = some u → u.req p.dstN p.tagN = some r → r.purp = .engine →
    exec (.compData p) s = .next (u.agentAnswer p.dstN p.tagN (.data p.payload p.poison)) ∧
    exec (.comp p) s = .next (u.agentAnswer p.dstN p.tagN .done) ∧
    exec (.errResp p) s = .next (u.agentAnswer p.dstN p.tagN (.err p.errCode p.errOrigin))) ∧
  (∀ (p : Packet) (s u : State) (r : Req), s.eject p = some u → stopTile p.dstN = none → u.req p.dstN p.tagN = some r → r.purp ≠ .annex → r.purp ≠ .cancel →
    exec (.retry p) s = .next (u.setReq p.dstN r.pkt.tagN
      (some { r with retries := r.retries + 1, retryNo := if r.retries = 0 then u.nextRetry p.dstN else r.retryNo, waitBound := true }))) ∧
  (∀ (stop : Fin 160) (tag : BitVec 12) (s : State) (r : Req), s.req stop.val tag.toNat = some r → r.waitBound = true → r.purp ≠ .annex → s.holdsRetry stop.val r = true →
    exec (.retryBackoffExpiry stop tag) s = .next ((s.setReq stop.val tag.toNat (some { r with waitBound := false })).send r.pkt))

/-- A MemWrite and the data packets that it carries have been ejected at its target, one packet of data or, for both sectors, two (R209, R210), which leaves `u`. -/
def Sys2Proof.Machine.EjectsWrite (s : State) (p q0 q1 : Packet) (u : State) : Prop :=
  ∃ u0 u1 : State, s.eject p = some u0 ∧ u0.eject q0 = some u1 ∧ (if p.s0 && p.s1 then u1.eject q1 else some u1) = some u

/-- MEM_READ, MEM_WRITE, GATE_MEM_READ, GATE_MEM_WRITE, MEM_DATA, MEM_ACK, IO_READ, IO_WRITE, IO_DATA (R139, R208, R248, R268): the memory port answers with the
granule, an acknowledgement or an error; a gate forwards a permitted request to its annex, answering Comp to a write first; the answer at a home completes what
waits for it. An access of a reserved size or off its size's boundary is refused with FORMAT_ERR; a control-space read is answered by its register, a write is
first answered with DataPull; the data read reaches the part that waits for it. -/
def Obligations.MemoryAndIoMessages : Prop :=
  (∀ (p : Packet) (re : ReadErr) (s u s1 : State) (d0 d1 : Sector) (p0 p1 : Bool), s.eject p = some u → u.portRead (mpOf p) p.gran p.widN true re = (.data d0 d1 p0 p1, s1) →
    exec (.memRead p re) s = .next (s1.send { memAnswer p Opc.memData 0 with address := 0, payload := d0, poison := p0, payload2 := d1, poison2 := p1 })) ∧
  (∀ (p : Packet) (re : ReadErr) (s u s1 : State) (e : Nat), s.eject p = some u → u.portRead (mpOf p) p.gran p.widN true re = (.err e, s1) →
    exec (.memRead p re) s = .next (s1.send (memAnswer p Opc.errResp (errAttr e Origin.memPort)))) ∧
  (∀ (p q0 q1 : Packet) (re : ReadErr) (s u s1 : State), EjectsWrite s p q0 q1 u → u.portWrite (mpOf p) p.gran p.widN p.victim (wdataOf p q0 q1) re = (none, s1) →
    exec (.memWrite p q0 q1 re) s = .next (s1.send (memAnswer p Opc.memAck 0))) ∧
  (∀ (p : Packet) (s u s1 : State), s.eject p = some u → u.gateDeed (gateOf p) p.epN p false = (none, s1) →
    exec (.gateMemRead p) s = .next ((s1.deliver (gateOf p) p).openGate (gateOf p) { kind := .memRead, agent := p.epN, pkt := p })) ∧
  (∀ (p q0 q1 : Packet) (s u s1 : State), EjectsWrite s p q0 q1 u → u.gateDeed (gateOf p) p.epN p true = (none, s1) →
    ((p.s0 && p.m0) || (p.s1 && p.m1)) = false →
    exec (.gateMemWrite p q0 q1) s = .next ((s1.send { answer p (axStop (gateOf p)) Opc.comp 0 with endpoint := 2 }).gateForward (gateOf p) p.epN (gateData p q0 q1))) ∧
  (∀ (p : Packet) (s u : State), s.eject p = some u → exec (.memData p) s = .next (u.homeMemData p)) ∧
  (∀ (p : Packet) (s u s2 : State) (t : Nat) (m : MemMsg), s.eject p = some u → stopTile p.dstN = some t → u.memTake t p.tagN = some (m, s2) → m.forSec = none →
    exec (.memAck p) s = .next ((s2.memPump t).hqScan t 49)) ∧
  (∀ (p : Packet) (s u : State), s.eject p = some u → p.ioSize ≠ 7 → p.ioOffset % 2 ^ p.ioSize = 0 → p.ioRegion = .control →
    exec (.ioRead p) s = .next (u.regRead p)) ∧
  (∀ (p : Packet) (s u : State), s.eject p = some u → p.ioSize ≠ 7 → p.ioOffset % 2 ^ p.ioSize = 0 → p.ioRegion = .control →
    Gives (.ioWrite p) s (fun t => t.ioWrites = u.ioWrites ++ [p] ∧ t.outq = u.outq ++ [answer p p.dstN Opc.dataPull 0] ∧ t.regs = u.regs ∧ t.mem = s.mem)) ∧
  (∀ (p : Packet) (s u : State), s.eject p = some u → p.ioSize = 7 ∨ p.ioOffset % 2 ^ p.ioSize ≠ 0 → p.ioRegion = .control →
    exec (.ioRead p) s = .next (u.send (errAnswer p p.dstN Err.format Origin.register)) ∧
    exec (.ioWrite p) s = .next (u.send (errAnswer p p.dstN Err.format Origin.register))) ∧
  (∀ (p : Packet) (s u : State) (t : Nat) (r : Req), s.eject p = some u → stopTile p.dstN = some t → u.req p.dstN p.tagN = some r → p.poison = false → r.purp ≠ .probe →
    (u.core (2 * t + r.ep)).dead = false →
    exec (.ioData p) s = .next (((u.setReq p.dstN p.tagN none).onCore (2 * t + r.ep) (fun s h => s.takeParts h p.tagN p.payload false)).corePump (2 * t + r.ep)))

/-- PACKET_INJECT, PACKET_ABSORB, LINK_PARITY_ERROR, NI_ROUTE_WRITE, RT_SPARE_WRITE, METER_STAGING_WRITE (R170, R172, R173, R178, R181, R183, R184, R191, R193): a packet whose
stop need not hold it is launched on its route and leaves its source's queue, where its injection port has a slot for it; one without a route is a route miss, and one behind
another of its stream waits. A dead port's absorber takes the packet and counts it; a damaged data flit is delivered poisoned, a damaged header is recorded and fatal. The Keeper's
write reaches the table, a spare register with a legal map, or the staging copy; with a commit pending a staging write changes nothing but CTRL_REJECT. A packet that is ejected
leaves memory, the harts, the caches, the directory, the LLC and every home's queues as they were. -/
def Obligations.MeshPacketsAndTables : Prop :=
  (∀ (p : Packet) (s u : State), s.stalledBehind p.srcN p = false → s.mode ≠ 7 → s.mustHold p.srcN p = false →
    ((s.routeEntry p.srcN (s.bank p.srcN) p.dstN).2 = true → s.launchPacket p.srcN p = (true, u) →
      exec (.packetInject p) s = .next (State.modNi { u with outq := u.outq.erase p } p.srcN (fun n => { n with before := n.before.erase p }))) ∧
    ((s.routeEntry p.srcN (s.bank p.srcN) p.dstN).2 = true → s.launchPacket p.srcN p = (false, u) → exec (.packetInject p) s = .next s) ∧
    ((s.routeEntry p.srcN (s.bank p.srcN) p.dstN).2 = false → u = s.missRoute p.srcN p →
      exec (.packetInject p) s = .next (State.modNi { u with outq := u.outq.erase p } p.srcN (fun n => { n with before := n.before.erase p })))) ∧
  (∀ (p : Packet) (s : State), s.stalledBehind p.srcN p = true → exec (.packetInject p) s = .next s) ∧
  (∀ (stop : Fin 160) (port : Option (Fin 4)) (p : Packet) (s u : State) (i : Nat) (f f' : Flight), s.net.findIdx? (fun f => samePacket f.pkt p) = some i → s.net[i]? = some f →
    s.forward f 160 = (f', u) →
    (s.absorbs stop.val port f' = none → exec (.packetAbsorb stop port p) s = .next s) ∧
    (∀ fl, s.absorbs stop.val port f' = some fl → deadAnswer p stop.val fl Origin.absorber = none →
      Gives (.packetAbsorb stop port p) s (fun t => (t.ni stop.val).absorbed = (u.ni stop.val).absorbed + 1 ∧ t.net = u.net.eraseIdx i ∧ t.mem = u.mem ∧
        t.harts = u.harts ∧ t.outq = u.outq))) ∧
  (∀ (stop : Fin 160) (p : Packet) (second : Bool) (s : State),
    exec (.linkParityError stop p true second) s = .next ((s.rasError .stop stop.val s.annals.nextSeq { sev := .uec, code := Ev.fatal, unit := 3 }).fatal Fatal.meshHeader)) ∧
  (∀ (stop : Fin 160) (f : Flight) (s : State), s.net = [f] →
    Gives (.linkParityError stop f.pkt false false) s (fun t => t.net = [{ f with pkt := { f.pkt with poison := true } }] ∧ t.mem = s.mem)) ∧
  (∀ (w : Issuer) (stop : Fin 160) (bank : Bool) (d : BitVec 8) (v : Word) (s : State), s.reachable .stop stop.val = true → s.issuerWid w = 0 →
    exec (.niRouteWrite w stop bank d v) s = .next ((s.routeWrite stop.val bank d.toNat v).2.accept w (Place.stop.stopOf stop.val))) ∧
  (∀ (w : Issuer) (stop : Fin 160) (np : Fin 8) (v : Word) (s : State), s.reachable .stop stop.val = true → s.issuerWid w = 0 →
    exec (.rtSpareWrite w stop np v) s = .next ((if spareOk (np.val / 4) v then s.writeReg .rtSpare stop.val np.val v allBytes else s).accept w (Place.stop.stopOf stop.val))) ∧
  (∀ (w : Issuer) (pa : BitVec 52) (v : Word) (s : State) (r : RegName) (u i : Nat), controlBase ≤ pa.toNat →
    locate ((pa.toNat - controlBase) / 0x400000 % 256) ((pa.toNat - controlBase) % 0x400000) = some (r, u, i) → (r = .rtMeterLane ∨ r = .rtMeterWheel ∨ r = .niMeterWids) →
    s.reachable r.place u = true → s.issuerWid w = 0 →
    exec (.meterStagingWrite w pa v) s = .next ((if s.isF F.niFabricStatus_meterPending 0 0 then s.setF F.niFabricStatus_ctrlReject 0 0 1
      else s.writeReg r u i v allBytes).accept w (r.place.stopOf u))) ∧
  (∀ (s u : State) (p : Packet), s.eject p = some u → u.mem = s.mem ∧ u.harts = s.harts ∧ u.cores = s.cores ∧ u.caches = s.caches ∧ u.dir = s.dir ∧ u.llc = s.llc ∧
    u.slices = s.slices ∧ u.outq = s.outq ∧ u.reqs = s.reqs)

/-- GLOBAL_FENCE, FENCE_REQ, FENCE_ACK, FENCE_TIMEOUT, EPOCH_SWITCH, FLIP, EPOCH_DRAIN_COMPLETE, METER_COMMIT_REQUEST, METER_COMMIT (R175, R177, R184): the
Keeper starts a fence or a switch; a stop the fence asks marks what it has waiting, answers when that has gone, and the last answer ends the fence; a flip takes
the new table; the drain's end clears DRAIN_BUSY and releases what was held. The Keeper asks for a meter commit; it takes effect at every stop together and
METER_PENDING is clear. -/
def Obligations.FencesEpochsAndMeters : Prop :=
  (∀ (w : Issuer) (s : State), s.issuerWid w = 0 → exec (.globalFence w) s = .next ((s.fenceWrite false).accept w svcStop) ∧
    exec (.epochSwitch w) s = .next ((s.fenceWrite true).accept w svcStop)) ∧
  (∀ (stop : Fin 160) (s : State) (f : Fence), s.fence = some f → f.missing.contains stop.val = true →
    Gives (.fenceReq stop) s (fun t => t.ni stop.val = { s.ni stop.val with fenceSeq := some f.seq, before := s.outq.filter (fun p => p.srcN == stop.val) } ∧
      (∀ n, n ≠ stop.val → t.ni n = s.ni n) ∧ t.regs = s.regs ∧ t.outq = s.outq)) ∧
  (∀ (stop : Fin 160) (s : State) (f : Fence), s.fence = some f → f.missing.contains stop.val = true → (s.ni stop.val).fenceSeq = some f.seq → (s.ni stop.val).before = [] →
    (f.missing.erase stop.val ≠ [] → Gives (.fenceAck stop) s (fun t => t.fence = some { f with missing := f.missing.erase stop.val } ∧ (t.ni stop.val).fenceSeq = none ∧
      t.regs = s.regs)) ∧
    (f.missing.erase stop.val = [] → exec (.fenceAck stop) s = .next ((State.modNi { s with fence := some { f with missing := [] } } stop.val
      (fun n => { n with fenceSeq := none })).fenceDone { f with missing := [] }))) ∧
  (∀ (s : State) (f : Fence), s.fence = some f →
    exec .fenceTimeout s = .next ((((s.setF F.niFabricStatus_fenceErr 0 0 1).setF F.niFabricStatus_fenceLateStop 0 0 (f.missing.headD 0)).record Ev.fenceLate srcSvc
      (w64 (f.missing.headD 0)) 0).fenceDone f)) ∧
  (∀ (stop : Fin 160) (s : State), s.isF F.niFabricStatus_drainBusy 0 0 = true →
    Gives (.flip stop) s (fun t => t.getF F.niRouteStatus_active stop.val 0 = s.getF F.niFabricStatus_epoch 0 0 % 2 ∧
      (∀ r u i, r ≠ .niRouteStatus → t.regWord r u i = s.regWord r u i) ∧ t.outq = s.outq)) ∧
  (∀ (s : State), s.isF F.niFabricStatus_drainBusy 0 0 = true → s.poweredStops.all (fun st => s.bank st == s.isF F.niFabricStatus_epoch 0 0) = true →
    s.net.all (fun f => f.pkt.epoch == s.isF F.niFabricStatus_epoch 0 0) = true →
    exec .epochDrainComplete s = .next ((s.setF F.niFabricStatus_drainBusy 0 0 0).record Ev.epochSwitch srcSvc (w64 (s.isF F.niFabricStatus_epoch 0 0).toNat)
      (w64 ((s.mtime - s.flipTime) * 10))).releaseHolds) ∧
  (∀ (w : Issuer) (s : State), s.issuerWid w = 0 → exec (.meterCommitRequest w) s = .next (s.meterCommitWrite.accept w svcStop)) ∧
  (∀ (s : State), s.isF F.niFabricStatus_meterPending 0 0 = true →
    Gives .meterCommit s (fun t => t.isF F.niFabricStatus_meterPending 0 0 = false ∧ t.meterWids = s.regWord .niMeterWids 0 0 ∧
      (∀ st, st < 160 → (t.ni st).lanes = s.stagedLanes st ∧ (t.ni st).wheel = s.stagedWheel st) ∧ t.mem = s.mem ∧ t.harts = s.harts ∧ t.outq = s.outq))


/-- LINK_FLIT_RECEIVE, NAK, REPLAY, REPLAY_TIMEOUT, NAK_RESEND_TIMEOUT, ACK_IDLE_INSERT, LINK_NARROW, LINK_WIDEN (R228, R229, R230, R231): a flit with a wrong
check is counted, recorded and asked for again; NAK and REPLAY resume the sequence they name; a replay timer resends from the oldest flit kept, and an
unanswered NAK is sent again; an idle link sends a control flit; a link of two modules narrows after four rounds of NAK, and a link of one widens again when its
other module trains, with the redundant lanes and the eye margins that the training found, and in a recalibration the other module then leaves. -/
def Obligations.AnnexLink : Prop :=
  (∀ (port : Fin 6) (f : BitVec 640) (s : State), s.linkUp port.val = true → linkFlitOk f.toNat = false →
    ∃ u, u = (s.incSat F.axgLinkCount_crcErrors port.val 0).errorEvent .ax port.val { sev := .ce, code := Ev.annexLink } (srcAx port.val 255) (w64 port.val)
        ((s.incSat F.axgLinkCount_crcErrors port.val 0).regWord .axgLinkCount port.val 0) ∧
      exec (.linkFlitReceive port f) s = .next (if (u.link port.val).waiting then u else u.sendNak port.val)) ∧
  (∀ (port : Fin 6) (seq : BitVec 8) (s : State), exec (.nak port seq) s = .next (s.linkNak port.val seq.toNat) ∧
    exec (.replay port seq) s = .next (s.linkResume port.val seq.toNat)) ∧
  (∀ (port : Fin 6) (s : State) (n : Nat) (f : BitVec 640) (l : List (Nat × BitVec 640)), (s.link port.val).buf = (n, f) :: l →
    exec (.replayTimeout port) s = .next (s.linkNak port.val n)) ∧
  (∀ (port : Fin 6) (s : State), s.linkUp port.val = true → (s.link port.val).waiting = true → exec (.nakResendTimeout port) s = .next (s.sendNak port.val)) ∧
  (∀ (port : Fin 6) (s : State), s.linkUp port.val = true →
    Gives (.ackIdleInsert port) s (fun t => t.link port.val = { s.link port.val with out := (s.link port.val).out ++ [(s.link port.val).controlFlit none] } ∧
      t.regs = s.regs ∧ t.outq = s.outq)) ∧
  (∀ (port : Fin 6) (s : State), s.linkUp port.val = true → 4 ≤ (s.link port.val).nakRounds → s.getF F.axgPortStatus_modules port.val 0 = 3 →
    exec (.linkNarrow port) s = .next (((s.modLink port.val (fun l => { l with nakRounds := 0, replayAt := [] })).incSat F.axgLinkCount_narrows port.val 0).resumeWidth
      port.val 1)) ∧
  (∀ (port : Fin 6) (s : State), s.linkUp port.val = true → s.getF F.axgPortStatus_modules port.val 0 = 1 ∨ s.getF F.axgPortStatus_modules port.val 0 = 2 →
    (s.link port.val).dead = 0 →
    ∃ (b : Nat) (f : Fld), b = 128 * port.val + (if s.getF F.axgPortStatus_modules port.val 0 = 1 then 64 else 0) ∧
      f = (if s.getF F.axgPortStatus_modules port.val 0 = 1 then F.axgPortStatus_repairedM1 else F.axgPortStatus_repairedM0) ∧
      (∀ (n : Fin 5) (eyes : List Nat) (u : State), u = ((((s.incSat F.axgLinkCount_retrains port.val 0).noteEyes b (eyes.take 64)).setF f port.val 0 n.val).resumeWidth port.val 3) →
        ((s.link port.val).recal = false → exec (.linkWiden port ⟨some n, eyes⟩) s = .next u) ∧
        ((s.link port.val).recal = true → exec (.linkWiden port ⟨some n, eyes⟩) s =
          .next (((u.modLink port.val (fun l => { l with recal := false })).incSat F.axgLinkCount_narrows port.val 0).resumeWidth port.val 1))))

/-- PORT_BRINGUP, UCIE_TRAINING_COMPLETE, BRINGUP_ATTEMPT_TIMEOUT, INIT, DECLARE, DECLARE_TIMEOUT, AXG_OPEN_WRITE, OPEN, HOLD, MODULE_RECAL (R226, R231, R233,
R234, R236): a port is enabled and trained, exchanges INIT and DECLARE, is opened by the Keeper, and takes an annex's OPEN and HOLD. -/
def Obligations.AnnexBringup : Prop :=
  (∀ (w : Issuer) (port : Fin 6) (s : State), s.reachable .ax port.val = true → s.issuerWid w = 0 →
    (s.isF F.axgPortCtrl_enable port.val 0 = false →
      exec (.portBringup w port) s = .next (((s.setF F.axgPortCtrl_enable port.val 0 1).startBringup port.val).accept w (Place.ax.stopOf port.val))) ∧
    exec (.axgOpenWrite w port) s = .next ((s.openPort port.val).accept w (Place.ax.stopOf port.val)) ∧
    exec (.moduleRecal w port) s = .next ((s.recalPort port.val).accept w (Place.ax.stopOf port.val))) ∧
  (∀ (port : Fin 6) (m : BitVec 2) (a b : Fin 5) (e f : List Nat) (s : State), s.linkState port.val = LinkState.training → m ≠ 0 →
    Gives (.ucieTrainingComplete port m ⟨some a, e⟩ ⟨some b, f⟩) s (fun t => t.linkState port.val = LinkState.init ∧ t.getF F.axgPortStatus_modules port.val 0 = m.toNat ∧
      t.getF F.axgPortStatus_repairedM0 port.val 0 = a.val ∧ t.getF F.axgPortStatus_repairedM1 port.val 0 = b.val ∧ t.mem = s.mem ∧ t.harts = s.harts)) ∧
  (∀ (port : Fin 6) (s : State), s.linkState port.val = LinkState.training ∨ s.linkState port.val = LinkState.init →
    exec (.bringupAttemptTimeout port) s = .next (s.attemptFailed port.val)) ∧
  (∀ (port : Fin 6) (rev req fwd rsp mgt dat : BitVec 8) (s : State),
    exec (.initMsg port rev req fwd rsp mgt dat) s = .next (s.annexInit port.val rev.toNat [req.toNat, fwd.toNat, rsp.toNat, mgt.toNat, dat.toNat])) ∧
  (∀ (port : Fin 6) (classes : BitVec 64) (vendor device : BitVec 16) (rev : BitVec 8) (s : State),
    exec (.declareMsg port classes vendor device rev) s =
      .next (s.annexDeclare port.val classes.toNat (vendor.toNat + device.toNat * 2 ^ 16 + rev.toNat * 2 ^ 32))) ∧
  (∀ (port : Fin 6) (s : State), s.linkState port.val = LinkState.init → (s.link port.val).gotInit = true →
    exec (.declareTimeout port) s = .next (s.bringupFailed port.val true)) ∧
  (∀ (port : Fin 6) (s : State) (f : BitVec 640) (l : Link), (s.link port.val).takeControl 3 = some (f, l) →
    exec (.openMsg port) s = .next (s.setLink port.val { l with told := BitVec.ofNat 16 (flitBits f.toNat 16 16) })) ∧
  (∀ (port : Fin 6) (s : State) (f : BitVec 640) (l : Link), (s.link port.val).takeControl 6 = some (f, l) →
    exec (.hold port) s = .next (s.setLink port.val { l with heldCause := some (flitBits f.toNat 16 8) }))

/-- AXG_ATTESTED_WRITE, AXG_GRANT_WRITE, AXG_WINDOW_STAGING_WRITE, WINDOW_COMMIT, WINDOW_COMMIT_EDGE, PORT_QUARANTINE_WRITE, PORT_DISABLE (R241, R244, R246,
R253, R255): what the Keeper writes at a gate takes effect there; without ATTESTED a grant value of 8 or more sets REJECT and changes nothing else; a staged
window is written to the staging copy, and the staged windows take effect together at the commit edge. -/
def Obligations.AnnexGrants : Prop :=
  (∀ (w : Issuer) (port : Fin 6) (s : State), s.reachable .ax port.val = true → s.issuerWid w = 0 →
    (∀ v, exec (.axgAttestedWrite w port v) s = .next ((s.setAttested port.val v).accept w (Place.ax.stopOf port.val))) ∧
    (∀ (j : Fin 16) (v : Word), s.isF F.axgPortCtrl_attested port.val 0 = true ∨ v.toNat < 8 →
      exec (.axgGrantWrite w port j v) s = .next ((s.writeReg .axgGrant port.val j.val v allBytes).accept w (Place.ax.stopOf port.val))) ∧
    (∀ (j : Fin 16) (v : Word), s.isF F.axgPortCtrl_attested port.val 0 = false → 8 ≤ v.toNat →
      exec (.axgGrantWrite w port j v) s = .next ((s.axReject port.val).accept w (Place.ax.stopOf port.val))) ∧
    exec (.windowCommit w port) s = .next ((State.windowCommit s port.val).accept w (Place.ax.stopOf port.val)) ∧
    exec (.portQuarantineWrite w port) s = .next ((s.quarantine port.val 7 0).accept w (Place.ax.stopOf port.val)) ∧
    exec (.portDisable w port) s = .next ((s.disablePort port.val).accept w (Place.ax.stopOf port.val))) ∧
  (∀ (w : Issuer) (pa : BitVec 52) (v : Word) (s : State) (r : RegName) (k i : Nat), controlBase ≤ pa.toNat →
    locate ((pa.toNat - controlBase) / 0x400000 % 256) ((pa.toNat - controlBase) % 0x400000) = some (r, k, i) → gateStaged r = true → s.reachable .ax k = true →
    s.issuerWid w = 0 → exec (.axgWindowStagingWrite w pa v) s = .next ((s.stageWindow r k i v allBytes).accept w (Place.ax.stopOf k))) ∧
  (∀ (port : Fin 6) (s : State), s.isF F.axgWinCtrl_pending port.val 0 = true →
    Gives (.windowCommitEdge port) s (fun t => t.isF F.axgWinCtrl_pending port.val 0 = false ∧ t.mem = s.mem ∧ t.harts = s.harts ∧
      (∀ i, i < 32 → (t.gate port.val).win.get 0 (2 * i) = s.regWord .axgWin port.val i ∧ (t.gate port.val).win.get 0 (2 * i + 1) = s.regWord .axgWinLim port.val i)))

/-- ANNEX_PACKET_ARRIVAL, AXG_FENCE_PROBE, AGENT_FLUSH, AGENT_FLUSH_DONE, MGT_NOTIFY, MGT_ERR, STRIKE_INTERVAL_RESET, SNOOP_TO_EXPIRY, ACK_TO_EXPIRY,
RESP_TO_EXPIRY, MMIO_TO_EXPIRY, FLUSH_TIMEOUT, RECLAIM_COMPLETE (R151, R206, R238, R239, R249, R251, R541): an annex's packet leaves the gate's arrival queue
and is screened; a flush names its agent; management packets are recorded or discarded. An expired timer answers for the annex and strikes or quarantines as its
kind says; the interval's end clears every port's strikes; reclaiming ends when no directory entry names the port. -/
def Obligations.AnnexPacketsAndTimers : Prop :=
  (∀ (port : Fin 6) (framed : Bool) (p : Packet) (s : State),
    exec (.annexPacketArrival port framed p) s = .next ((s.modGate port.val (fun g => { g with inq := g.inq.erase (p, framed) })).annexArrive port.val framed p)) ∧
  (∀ (p : Packet) (s u : State), s.eject p = some u → exec (.axgFenceProbe p) s = .next (u.fenceProbe (gateOf p) p)) ∧
  (∀ (port : Fin 6) (j : Fin 16) (s : State) (p : Packet), (s.gate port.val).toAnnex.find? (fun p => p.opcode == Opc.agentFlush && p.epN == j.val) = some p →
    Gives (.agentFlush port j) s (fun t => t.gate port.val = { s.gate port.val with
        toAnnex := (s.gate port.val).toAnnex.erase p
        flushing := (s.gate port.val).flushing ||| (1#16 <<< j.val) } ∧
      t.regs = s.regs ∧ t.outq = s.outq ∧ t.mem = s.mem)) ∧
  (∀ (port : Fin 6) (j : Fin 16) (s : State), exec (.agentFlushDone port j) s = .next (s.agentFlushed port.val j.val)) ∧
  (∀ (p : Packet) (s u : State) (k : Nat), s.eject p = some u → stopAx p.srcN = some k →
    exec (.mgtNotify p) s = .next (u.record Ev.annexNotify (srcAx k 255) (w64 (k + p.tagN * 2 ^ 8 + p.attr.toNat * 2 ^ 16)) (w64 p.address.toNat))) ∧
  (∀ (p : Packet) (s u : State) (k : Nat), s.eject p = some u → stopAx p.dstN = some k →
    Gives (.mgtErr p) s (fun t => t.gate k = { u.gate k with discarded := (u.gate k).discarded + 1 } ∧ t.regs = u.regs ∧ t.outq = s.outq)) ∧
  (∀ s : State, Gives .strikeIntervalReset s (fun t => (∀ k, k < 6 → t.getF F.axgQstatus_strikes k 0 = 0) ∧ (∀ r u i, r ≠ .axgQstatus → t.regWord r u i = s.regWord r u i) ∧
    t.mem = s.mem ∧ t.harts = s.harts)) ∧
  (∀ (port : Fin 6) (i : Nat) (s : State) (x : GateTx), (s.gate port.val).txs[i]? = some x →
    (x.kind = .snoop → exec (.snoopToExpiry port i) s = .next ((((s.pmu .ax port.val 0x407 1 {}).gateFor port.val x).closeGate port.val x true).quarantine port.val 1 x.agent)) ∧
    (x.kind = .ack ∨ x.kind = .wdata →
      exec (.ackToExpiry port i) s = .next ((((s.pmu .ax port.val 0x407 1 {}).gateFor port.val x).closeGate port.val x true).quarantine port.val 2 x.agent)) ∧
    (x.kind = .memRead →
      exec (.respToExpiry port i) s = .next ((((s.pmu .ax port.val 0x407 1 {}).closeGate port.val x true).gateError port.val x Err.timeout).strike port.val x.agent 0)) ∧
    (x.kind = .memWrite →
      exec (.respToExpiry port i) s = .next ((((s.pmu .ax port.val 0x407 1 {}).closeGate port.val x true).gateError port.val x Err.timeout).quarantineAgent port.val x.agent)) ∧
    (x.kind = .mmio →
      exec (.mmioToExpiry port i) s = .next ((((s.pmu .ax port.val 0x407 1 {}).closeGate port.val x true).gateError port.val x Err.timeout).strike port.val x.agent 0)) ∧
    (x.kind = .flush → exec (.flushTimeout port i) s = .next (((s.pmu .ax port.val 0x407 1 {}).closeGate port.val x true).quarantine port.val 5 x.agent))) ∧
  (∀ (port : Fin 6) (s : State), s.isF F.axgPortStatus_reclaimBusy port.val 0 = true → s.dir = [] →
    exec (.reclaimComplete port) s = .next ((s.setF F.axgPortStatus_reclaimBusy port.val 0 0).setF F.axgPortStatus_reclaimed port.val 0 1))


/-- PATROL_SCRUB_READ, MP_LANE_RETIRE_WRITE, MP_TRAIN_START, MP_TRAINING_DONE, REFRESH_DUE, MP_TEMPERATURE_POLL, SELF_REFRESH_ENTER, SELF_REFRESH_EXIT,
MIRROR_LINK_DOWN, MIRROR_LINK_RETURN, MIRROR_RESYNC_DONE (R272, R279, R280, R282, R283, R285, R287): the scrub reads one granule and advances, counting a pass
at the end; a legal lane retirement is entered in the Margin Ledger and taken, and an illegal one sets REJECT; training starts, and its success enters what it retires and the eyes that it measured and serves the port, while a first failure is tried
again. A bank is refreshed; the refresh interval is 32 ms to 85 degrees and 16 ms above; self-refresh is entered and left; a mirror link goes down, returns and
is up again after the resynchronisation. -/
def Obligations.MemoryPorts : Prop :=
  (∀ (mp : Fin 12) (re : ReadErr) (s : State), s.isF F.mpScrubCtrl_patrolEn mp.val 0 = true → s.mpServes mp.val = true →
    (s.decode mp.val (s.getF F.mpScrubStatus_position mp.val 0) re).1 ≠ .lost →
    exec (.patrolScrubRead mp re) s = .next (
      let u := (s.pmu .mp mp.val 0x309 1 {}).countDecode mp.val (deinterleave mp.val (s.getF F.mpScrubStatus_position mp.val 0)) (s.getF F.mpScrubStatus_position mp.val 0) re 0
      if s.getF F.mpScrubStatus_position mp.val 0 + 1 < s.mpGranules mp.val
      then u.setF F.mpScrubStatus_position mp.val 0 (s.getF F.mpScrubStatus_position mp.val 0 + 1)
      else (u.setF F.mpScrubStatus_position mp.val 0 0).incSat F.mpScrubStatus_passes mp.val 0)) ∧
  (∀ (w : Issuer) (mp : Fin 12) (v : Word) (s : State), s.reachable .mp mp.val = true → s.issuerWid w = 0 →
    exec (.mpLaneRetireWrite w mp v) s = .next ((if retireOk (s.regWord .mpLaneRetire mp.val 0) v then s.enterRetire mp.val v 0
      else s.setF F.mpStatus_reject mp.val 0 1).accept w (Place.mp.stopOf mp.val)) ∧
    exec (.mpTrainStart w mp) s = .next ((s.trainStart mp.val).accept w (Place.mp.stopOf mp.val))) ∧
  (∀ (mp : Fin 12) (pins : List (BitVec 6)) (eyes heights : List Nat) (w : Word) (s : State), s.getF F.mpStatus_trainState mp.val 0 ≠ 0 → s.getF F.mpStatus_trainState mp.val 0 < 9 →
    addRetire (s.regWord .mpLaneRetire mp.val 0) (pins.map (·.toNat)) = some w → exec (.mpTrainingDone mp 0 ⟨pins, eyes, heights⟩) s =
      .next ((((if w = s.regWord .mpLaneRetire mp.val 0 then s else s.ledgerChange 3 mp.val (s.regWord .mpLaneRetire mp.val 0) w 0 0 0).noteEyes (1024 + 64 * mp.val)
        (eyes.take 64)).noteEyes (2048 + 64 * mp.val) (heights.take 64)).trained mp.val w)) ∧
  (∀ (mp : Fin 12) (step : Fin 9) (pins : PinTest) (s : State), s.getF F.mpStatus_trainState mp.val 0 ≠ 0 → s.getF F.mpStatus_trainState mp.val 0 < 9 → step ≠ 0 →
    (s.mps.get {} mp.val).retried = false →
    Gives (.mpTrainingDone mp step pins) s (fun t => t.getF F.mpStatus_failStep mp.val 0 = step.val ∧ (t.mps.get {} mp.val).retried = true ∧ t.mem = s.mem ∧ t.harts = s.harts)) ∧
  (∀ (mp : Fin 12) (bank : Fin 16) (s : State), s.mpServes mp.val = true →
    Gives (.refreshDue mp bank) s (fun t => (t.mps.get {} mp.val).refreshes = (s.mps.get {} mp.val).refreshes + 1 ∧ (t.mps.get {} mp.val).lastBank = bank.val ∧
      t.regs = s.regs ∧ t.mem = s.mem ∧ t.harts = s.harts)) ∧
  (∀ (mp : Fin 12) (temp : Nat) (s : State),
    Gives (.mpTemperaturePoll mp temp) s (fun t => (t.mps.get {} mp.val).refreshMs = (if temp ≤ 85 then 32 else 16) ∧ (t.mps.get {} mp.val).hot = decide (95 < temp) ∧
      t.mem = s.mem ∧ (temp ≤ 95 → t.regs = s.regs ∧ t.annals = s.annals))) ∧
  (∀ (mp : Fin 12) (s : State), exec (.selfRefreshEnter mp) s = .next (s.selfRefresh mp.val) ∧ exec (.selfRefreshExit mp) s = .next (State.selfRefreshExit s mp.val)) ∧
  (∀ (mp : Fin 12) (s : State), s.isF F.mpStatus_mirrorLinkUp mp.val 0 = true →
    Gives (.mirrorLinkDown mp) s (fun t => t.isF F.mpStatus_mirrorLinkUp mp.val 0 = false ∧ (t.mps.get {} mp.val).resync = false ∧ t.mem = s.mem)) ∧
  (∀ (mp : Fin 12) (s : State), s.mpMirror mp.val ≠ 0 → s.isF F.mpStatus_mirrorLinkUp mp.val 0 = false →
    Gives (.mirrorLinkReturn mp) s (fun t => (t.mps.get {} mp.val).resync = true ∧ t.regs = s.regs ∧ t.mem = s.mem)) ∧
  (∀ (mp : Fin 12) (s : State), (s.mps.get {} mp.val).resync = true →
    Gives (.mirrorResyncDone mp) s (fun t => t.isF F.mpStatus_mirrorLinkUp mp.val 0 = true ∧ (t.mps.get {} mp.val).resync = false ∧ t.mem = s.mem))

/-- ASSIGN, SHARE_RO, SHARE_RW, UNSHARE, DONATE, RELEASE, RECLAIM, DEED_UNIT_TURN, DEED_TABLE_ENABLE, DEED_TABLE_READY (R305, R306, R311): a world's write of
its own command page sets the command going; the unit takes the next command page in turn, flushes the page that its command names and finishes it, and then moves on; the Keeper enables the table in M4 and M5 only. -/
def Obligations.DeedCommands : Prop :=
  (∀ (w : Issuer) (page target : BitVec 6) (slot : BitVec 8) (s : State) (c : Instr) (op tg sl : Nat), s.issuerWid w = page.toNat →
    ((op = 1 ∧ tg = target.toNat ∧ sl = slot.toNat ∧ tg ≠ 0 ∧ c = .assign w page target slot) ∨
      (op = 2 ∧ tg = target.toNat ∧ sl = 0 ∧ tg ≠ page.toNat ∧ c = .shareRo w page target) ∨
      (op = 3 ∧ tg = target.toNat ∧ sl = 0 ∧ tg ≠ page.toNat ∧ c = .shareRw w page target) ∨
      (op = 4 ∧ tg = 0 ∧ sl = 0 ∧ c = .unshare w page) ∨ (op = 5 ∧ tg = target.toNat ∧ sl = slot.toNat ∧ 3 ≤ tg ∧ c = .donate w page target slot) ∨
      (op = 6 ∧ tg = 0 ∧ sl = 0 ∧ c = .release w page) ∨ (op = 7 ∧ tg = 0 ∧ sl = 0 ∧ c = .reclaim w page)) →
    (s.isF F.wldDeedStatus_busy 0 page.toNat = true →
      exec c s = .next ((s.setF F.wldDeedStatus_result 0 page.toNat Deed.refusedBusy).accept w svcStop)) ∧
    (s.isF F.wldDeedStatus_busy 0 page.toNat = false → s.isF F.wldDeedTable_ready 0 0 = true → s.isF F.wldDeedTable_lock 0 0 = true →
      s.getF F.wldDeedArg_count 0 page.toNat ≠ 0 →
      exec c s = .next (State.accept ((State.setF (State.setF { s with
          deedCmds := s.deedCmds.set none page.toNat (some (DeedCmd.mk op tg sl (s.getF F.wldDeedArg_page 0 page.toNat) (s.getF F.wldDeedArg_count 0 page.toNat) 0 none)) }
        F.wldDeedStatus_busy 0 page.toNat 1) F.wldDeedStatus_donePages 0 page.toNat 0)) w svcStop))) ∧
  (∀ (e : Option (BitVec 5)) (lost : BitVec 32) (s : State), s.works.any (fun r => r.stop == svcStop && r.ep == 2 && r.cmd != .deedUnitTurn ⟨e, lost⟩) = false →
    Served (.deedUnitTurn ⟨e, lost⟩) s s.deedTake svcStop 2 (fun s => s.deedGo (e.map (fun e => e.toNat)) lost)) ∧
  (∀ (s : State) (x : Nat) (c : DeedCmd), s.deedNow = none → s.deedNext = some (x, c) → s.deedTake.deedTurn = (x + 1) % 64) ∧
  (∀ (w : Issuer) (v : Word) (s : State), s.issuerWid w = 0 →
    (s.mode = 4 ∨ s.mode = 5 → exec (.deedTableEnable w v) s = .next ((s.writeReg .wldDeedTable 0 0 v allBytes).accept w svcStop)) ∧
    (s.mode ≠ 4 → s.mode ≠ 5 →
      exec (.deedTableEnable w v) s = .next ((s.writeReg .wldDeedTable 0 0 (putBits v 0 1 (s.getF F.wldDeedTable_enable 0 0)) allBytes).accept w svcStop))) ∧
  (∀ s : State, exec .deedTableReady s = .next s.deedReady)

/-- GENERATE, DESTROY, KEY_COMMAND_COMPLETE, WLD_GPIO_WID_WRITE, WLD_DEBUG_INV_WRITE, WLD_DEBUG_NONINV_WRITE, DEBUG_HALT_REQUEST, DEBUG_SYSTEM_BUS_ACCESS,
DEBUG_RESUME_REQUEST (R315, R317, R321, R401): the Keeper's key command sets BUSY, and its end clears BUSY, changes the slot and is recorded. The Keeper's
permissions are written; a permitted halt request halts a running hart at its next instruction boundary; the debug bus acts with the hart's world and refuses one whose world is closed to
invasive debug. -/
def Obligations.KeysAndDebug : Prop :=
  (∀ (w : Issuer) (slot : BitVec 8) (owner : BitVec 6) (s : State), s.issuerWid w = 0 →
    exec (.generate w slot owner) s = .next ((s.keyCommand 1 slot.toNat owner.toNat).accept w svcStop) ∧
    exec (.destroy w slot) s = .next ((s.keyCommand 2 slot.toNat 0).accept w svcStop)) ∧
  (∀ (s : State) (op slot owner : Nat), s.keyCmd = some (op, slot, owner) →
    exec .keyCommandComplete s = .next (State.record (if op = 1 then ((State.setF { s with keyCmd := none } F.wldKeyCmd_busy 0 0 0).generateKey slot owner)
      else ((State.setF { s with keyCmd := none } F.wldKeyCmd_busy 0 0 0).destroyKey slot)) Ev.keyCommand srcSvc (w64 slot) (w64 op))) ∧
  (∀ (w : Issuer) (v : Word) (s : State), s.issuerWid w = 0 →
    exec (.wldDebugNoninvWrite w v) s = .next (((s.debugHit v).writeReg .wldDebugNoninv 0 0 (s.consented v) allBytes).accept w svcStop) ∧
    (∃ u, u = (s.debugHit v).writeReg .wldDebugInv 0 0 (s.consented v) allBytes ∧
      exec (.wldDebugInvWrite w v) s = .next (((List.range 256).foldl (fun s h => if (s.hart h).debug && !s.invasive (s.seat h) then s.resumeHart h else s) u).accept w svcStop)) ∧
    (∀ k : Fin 4, (∀ i, i < 8 → s.getF (F.wldGpioWid_wid i) 0 k.val = (s.writeReg .wldGpioWid 0 k.val v allBytes).getF (F.wldGpioWid_wid i) 0 k.val) →
      exec (.wldGpioWidWrite w k v) s = .next ((s.writeReg .wldGpioWid 0 k.val v allBytes).accept w svcStop))) ∧
  (∀ (h : BitVec 8) (s : State), s.invasive (s.seat h.toNat) = true → s.runs h.toNat = true →
    ∀ u : State, (s.toBoundary h.toNat = (true, u) → exec (.debugHaltRequest h) s = .next (u.haltHart h.toNat 3 (u.hart h.toNat).pc)) ∧
      (s.toBoundary h.toNat = (false, u) → exec (.debugHaltRequest h) s = .next (u.modHart h.toNat (fun x => { x with haltReq := true })))) ∧
  (∀ (h : BitVec 8) (s : State), s.invasive (s.seat h.toNat) = false → exec (.debugHaltRequest h) s = .next s) ∧
  (∀ (h : BitVec 8) (s : State), s.invasive (s.seat h.toNat) = true → exec (.debugResumeRequest h) s = .next (s.resumeHart h.toNat)) ∧
  (∀ (h : BitVec 8) (pa : BitVec 52) (v : Word) (s s1 : State) (r : Run) (d : Nat), s.dm.busy = none →
    s.works.any (fun r => r.stop == dbgStop && r.cmd != .debugSystemBusAccess h pa false 8 v) = false → s.invasive (s.seat h.toNat) = true → pa.toNat % 8 = 0 →
    region pa.toNat = .local → r = RunOf s dbgStop 0 (.debugSystemBusAccess h pa false 8 v) → (AtWork s r).busRead (s.seat h.toNat) pa.toNat 8 = (.val d, s1) →
    AllAnswered r s1 →
    exec (.debugSystemBusAccess h pa false 8 v) s = .next (EndWork { s1 with dm := { s1.dm with data := w64 d, err := 0 } } r)) ∧
  (∀ (h : BitVec 8) (pa : BitVec 52) (write : Bool) (size : Nat) (v : Word) (s : State), s.dm.busy = none →
    s.works.any (fun r => r.stop == dbgStop && r.cmd != .debugSystemBusAccess h pa write size v) = false →
    Served (.debugSystemBusAccess h pa write size v) s s dbgStop 0 (fun u => u.busAccess (s.seat h.toNat) pa.toNat write size v.toNat)) ∧
  (∀ (h : BitVec 8) (pa : BitVec 52) (write : Bool) (size : Nat) (v : Word) (s : State), s.dm.busy = none → s.works = [] → s.invasive (s.seat h.toNat) = false →
    Gives (.debugSystemBusAccess h pa write size v) s (fun t => t.dm.err = Err.permission ∧ t.mem = s.mem ∧ t.regs = s.regs ∧ t.outq = s.outq))

/-- DE_CH_CFG_WRITE, DE_CH_TAIL_WRITE, DE_CH_CPL_HEAD_WRITE, DE_CH_RING_WRITE, CHANNEL_RESET, CHANNEL_RESET_COMPLETE, DE_SCAN_CFG_WRITE, SCAN_RUN_START,
DE_WINDOW_RESET (R326, R328, R329, R346, R347, R350): a channel's registers are written by its world or the Keeper; a reset ends, once the answers that the
channel waits for have come, with the ring as after reset; a start time of a periodic scan that finds it running counts an overrun, and else its run begins; a new fair-share window begins at both engines. -/
def Obligations.EngineControl : Prop :=
  (∀ (w : Issuer) (de : Fin 2) (ch : Fin 32) (v : Word) (s s1 : State), s.reachable .de de.val = true → s.issuerWid w = 0 → s1 = s.writeReg .deChCfg de.val ch.val v allBytes →
    s1.chanWid de.val ch.val = s.chanWid de.val ch.val → s1.getF F.deChCfg_instance de.val ch.val = s.getF F.deChCfg_instance de.val ch.val →
    (List.range 32).foldl (fun a i => a + if s1.chanOn de.val i then s1.getF F.deChCfg_minShare de.val i else 0) 0 ≤ 48 →
    exec (.deChCfgWrite w de ch v) s = .next ((if s.chanOn de.val ch.val && !s1.chanOn de.val ch.val then s1.chanStop de.val ch.val
      else s1.chanSync de.val ch.val).accept w (Place.de.stopOf de.val))) ∧
  (∀ (w : Issuer) (de : Fin 2) (ch : Fin 32) (v : Word) (s : State), s.reachable .de de.val = true → s.chanMay w de.val ch.val = true →
    exec (.deChTailWrite w de ch v) s = .next (((s.tailWrite (deRing de.val ch.val) v).chanSync de.val ch.val).accept w (Place.de.stopOf de.val)) ∧
    exec (.deChCplHeadWrite w de ch v) s = .next ((s.cplHeadWrite (deRing de.val ch.val) v).accept w (Place.de.stopOf de.val)) ∧
    (∀ cpl, exec (.deChRingWrite w de ch cpl v) s = .next ((s.ringWrite (deRing de.val ch.val) cpl v).accept w (Place.de.stopOf de.val))) ∧
    exec (.channelReset w de ch) s = .next ((s.chanReset de.val ch.val).accept w (Place.de.stopOf de.val))) ∧
  (∀ (de : Fin 2) (ch : Fin 32) (s : State), s.rState (deRing de.val ch.val) = 3 → s.chanWaits de.val ch.val = false →
    Served (.channelResetComplete de ch) s s (deStop de.val) 0 (fun s => s.chanFresh de.val ch.val)) ∧
  (∀ (de : Fin 2) (ch : Fin 32) (s : State), s.chanWaits de.val ch.val = true → exec (.channelResetComplete de ch) s = .next s) ∧
  (∀ (w : Issuer) (de : Fin 2) (slot : Fin 16) (r : Fin 5) (v : Word) (s : State), s.reachable .de de.val = true → s.issuerWid w = 0 → r.val ≠ 0 →
    s.isF F.deScanCfg_enable de.val slot.val = false →
    exec (.deScanCfgWrite w de slot r v) s = .next ((s.writeReg (scanReg r) de.val slot.val v allBytes).accept w (Place.de.stopOf de.val))) ∧
  (∀ (de : Fin 2) (slot : Fin 16) (s : State), s.isF F.deScanCfg_enable de.val slot.val = true → s.isF F.deScanCfg_watch de.val slot.val = false →
    s.isF F.deScanCfg_periodic de.val slot.val = true →
    (s.isF F.deScanStatus_busy de.val slot.val = false → exec (.scanRunStart de slot) s = .next (s.scanBegin de.val slot.val)) ∧
    (s.isF F.deScanStatus_busy de.val slot.val = true → exec (.scanRunStart de slot) s = .next (s.incSat F.deScanStatus_overruns de.val slot.val))) ∧
  (∀ s : State, Gives .deWindowReset s (fun t => (∀ e, e < 2 → (t.engine e).window = s.mtime) ∧ t.regs = s.regs ∧ t.mem = s.mem ∧ t.harts = s.harts))

/-- DESCRIPTOR_FETCH, JOB_DISPATCH, NOP, COPY, FILL, COMPRESS, DECOMPRESS, COLLATE (R328, R332, R338, R341, R343, R348): a fetched descriptor is queued and the
head advances, a descriptor that cannot be read errors the ring; a dispatched job runs; a finished job completes with its result, and one whose access fails
leaves its destination unspecified and completes with the code; with it the completion records of the channel are written. Each is carried out once what it reads and writes in
memory has been answered (R107). -/
def Obligations.EngineJobs : Prop :=
  (∀ (de : Fin 2) (ch : Fin 32) (s s1 : State) (r : Run) (ws : List Word), r = RunOf s (deStop de.val) 0 (.descriptorFetch de ch) → s.chanOn de.val ch.val = true →
    s.rState (deRing de.val ch.val) ≠ 2 → s.rState (deRing de.val ch.val) ≠ 3 → s.rHead (deRing de.val ch.val) ≠ s.rTail (deRing de.val ch.val) →
    (AtWork s r).descriptor (deRing de.val ch.val) (s.chanWid de.val ch.val) (s.rHead (deRing de.val ch.val)) = (some ws, s1) →
    ∃ j : Job, j.index = s.rHead (deRing de.val ch.val) ∧ j.words = ws ∧ j.fetched = s.mtime ∧
      Ends (.descriptorFetch de ch) s r (((s1.modChan de.val ch.val (fun k => { k with jobs := k.jobs ++ [j] })).setRHead (deRing de.val ch.val)
        (s.rHead (deRing de.val ch.val) + 1)).chanSync de.val ch.val)) ∧
  (∀ (de : Fin 2) (ch : Fin 32) (s s1 : State) (r : Run), r = RunOf s (deStop de.val) 0 (.descriptorFetch de ch) → s.chanOn de.val ch.val = true →
    s.rState (deRing de.val ch.val) ≠ 2 → s.rState (deRing de.val ch.val) ≠ 3 → s.rHead (deRing de.val ch.val) ≠ s.rTail (deRing de.val ch.val) →
    (AtWork s r).descriptor (deRing de.val ch.val) (s.chanWid de.val ch.val) (s.rHead (deRing de.val ch.val)) = (none, s1) →
    Ends (.descriptorFetch de ch) s r ((s1.setF F.deChStatus_fetchErr de.val ch.val 1).setRState (deRing de.val ch.val) 2)) ∧
  (∀ (de : Fin 2) (t : UnitType) (s : State), Served (.jobDispatch de t) s (s.dispatch de.val t) (deStop de.val) 0 (fun s => s.enginePump de.val)) ∧
  (∀ (de : Fin 2) (c : Nat) (s : State) (j : Job), (List.range 32).find? (fun c => (s.eligible de.val c .none).isSome) = some c → s.eligible de.val c .none = some j →
    j.valid = true → s.getF F.deChCfg_quota de.val c = 0 →
    Ends (.jobDispatch de .none) s (RunOf s (deStop de.val) 0 (.jobDispatch de .none)) ((AtWork ((s.modJob de.val c j (fun _ => { j with ran := some s.mtime })).modChan de.val c
      (fun k => { k with used := k.used + j.cost })) (RunOf s (deStop de.val) 0 (.jobDispatch de .none))).enginePump de.val)) ∧
  (∀ (de : Fin 2) (ch : Fin 32) (index : BitVec 16) (s v : State) (r : Run) (j : Job), r = RunOf s (deStop de.val) 0 (.nop de ch index) → v = AtWork s r →
    s.findJob de.val ch.val index.toNat none 0 = some j → Ends (.nop de ch index) s r ((v.jobEnd de.val ch.val j 0 0 0).chanPump de.val ch.val)) ∧
  (∀ (de : Fin 2) (ch : Fin 32) (index : BitVec 16) (s s1 : State) (r : Run) (j : Job) (code : Nat) (po : Bool), r = RunOf s (deStop de.val) 0 (.copy de ch index) →
    s.findJob de.val ch.val index.toNat none 1 = some j →
    (AtWork s r).copyRange (s.chanWid de.val ch.val) (j.srcLen / 64 + 2) j.src j.dst j.srcLen = (code, po, s1) →
    (code = 0 → Ends (.copy de ch index) s r ((s1.jobEnd de.val ch.val j (if po then 0x0A else 0) (j.srcLen + j.srcLen * 2 ^ 32) 0).chanPump de.val ch.val)) ∧
    (code ≠ 0 → Ends (.copy de ch index) s r
      (((s1.unspecify (s.chanWid de.val ch.val) (j.srcLen / 64 + 2) j.dst j.srcLen).jobFail de.val ch.val j code).chanPump de.val ch.val))) ∧
  (∀ (de : Fin 2) (ch : Fin 32) (index : BitVec 16) (s s1 : State) (r : Run) (j : Job), r = RunOf s (deStop de.val) 0 (.fill de ch index) →
    s.findJob de.val ch.val index.toNat none 2 = some j →
    (AtWork s r).jobWrite (s.chanWid de.val ch.val) j.dst ((List.range j.dstLimit).map (fun i => (j.word 5).toNat / 256 ^ (i % 8) % 256)) = (0, s1) →
    Ends (.fill de ch index) s r ((s1.jobEnd de.val ch.val j 0 j.dstLimit 0).chanPump de.val ch.val)) ∧
  (∀ (de : Fin 2) (ch : Fin 32) (index : BitVec 16) (s s1 s2 : State) (r : Run) (j : Job) (src out : List Nat), r = RunOf s (deStop de.val) 0 (.compress de ch index) →
    s.findJob de.val ch.val index.toNat none 3 = some j →
    j.dstLimit ≠ 0 → (AtWork s r).jobRead (s.chanWid de.val ch.val) j.src j.srcLen = (0, src, s1) → out.length ≤ j.dstLimit →
    out = compressed (j.ctl 8 4) (j.ctl 12 4) (j.ctl 16 3) (j.ctl 20 2) (j.ctl 19 1 == 1) src → s1.jobWrite (s.chanWid de.val ch.val) j.dst out = (0, s2) →
    Ends (.compress de ch index) s r ((s2.jobEnd de.val ch.val j 0 (out.length + j.srcLen * 2 ^ 32) (crc32c src)).chanPump de.val ch.val)) ∧
  (∀ (de : Fin 2) (ch : Fin 32) (index : BitVec 16) (s s1 s2 : State) (r : Run) (j : Job) (src : List Nat) (d : Decoded), r = RunOf s (deStop de.val) 0 (.decompress de ch index) →
    s.findJob de.val ch.val index.toNat none 4 = some j → j.srcLen ≠ 0 →
    (AtWork s r).jobRead (s.chanWid de.val ch.val) j.src j.srcLen = (0, src, s1) → d = decompressed (j.ctl 8 4) j.dstLimit src →
    s1.jobWrite (s.chanWid de.val ch.val) j.dst (d.out.take j.dstLimit) = (0, s2) →
    (d.status = 0 → Ends (.decompress de ch index) s r ((s2.jobEnd de.val ch.val j 0 (d.out.length + d.used * 2 ^ 32) (crc32c d.out)).chanPump de.val ch.val)) ∧
    (d.status ≠ 0 → Ends (.decompress de ch index) s r ((s2.compactFail de.val ch.val j d.status).chanPump de.val ch.val))) ∧
  (∀ (de : Fin 2) (ch : Fin 32) (index : BitVec 16) (s s1 : State) (r : Run) (j : Job) (src : List Nat), r = RunOf s (deStop de.val) 0 (.collate de ch index none) →
    s.findJob de.val ch.val index.toNat none 5 = some j → j.ctl 32 2 = 0 →
    j.ctl 28 1 = 0 → j.ctl 31 1 = 0 → (AtWork s r).jobRead (s.chanWid de.val ch.val) j.src j.srcLen = (0, src, s1) →
    Ends (.collate de ch index none) s r ((s1.jobEnd de.val ch.val j 0 (crcRun j.crcSet (j.crcSet.init % 2 ^ j.crcSet.width) src)
      (crcValue j.crcSet (crcRun j.crcSet (j.crcSet.init % 2 ^ j.crcSet.width) src))).chanPump de.val ch.val))

/-- HP_PORT_ENABLE, PCIE_LINK_UP, PCIE_LINK_DOWN, PCIE_ERROR_RECEIVED, PCIE_PLL_LOSS, FREEZE, RELEASE_FREEZE, PCIE_COMPLETION, PCIE_COMPLETION_TIMEOUT,
PCIE_INBOUND_READ, PCIE_INBOUND_WRITE, PCIE_INBOUND_ATOMIC (R353, R356, R357, R360, R361, R362, R364, R365): an enabled port trains; a link that is up takes its
width, rate and flit mode; a link that drops, a fatal error, and the loss of its PLL freeze a root port with the cause the spec gives each; the Keeper freezes
and releases. A completion answers the request it belongs to, and one that belongs to none is counted; a request that times out is answered with TIMEOUT; an
inbound access of a live root port reaches memory with its requester's world, once the earlier writes that it must follow have completed. -/
def Obligations.HostPorts : Prop :=
  (∀ (w : Issuer) (v : Word) (s s1 : State), s.reachable .hp 0 = true → s.issuerWid w = 0 → s.isF F.hpPortCfg_enable 0 0 = false →
    s1 = s.writeReg .hpPortCfg 0 0 v allBytes → s1.isF F.hpPortCfg_enable 0 0 = true →
    exec (.hpPortEnable w 0 v) s = .next ((s1.hpTrain 0).accept w (Place.hp.stopOf 0))) ∧
  (∀ (hp : Fin 2) (rp : Fin 4) (width : Fin 5) (rate : Fin 7) (flit : Bool) (s : State), (s.hp hp.val).training.getLsbD rp.val = true → s.endpoint hp.val = false →
    Gives (.pcieLinkUp hp rp width rate flit) s (fun t => t.isF F.hpRcStatus_dlActive hp.val rp.val = true ∧ t.getF F.hpRcStatus_width hp.val rp.val = width.val ∧
      t.getF F.hpRcStatus_rate hp.val rp.val = min rate.val (s.getF F.hpPortCfg_maxRate hp.val 0) ∧ t.isF F.hpRcStatus_flit hp.val rp.val = flit ∧ t.mem = s.mem ∧
      t.harts = s.harts)) ∧
  (∀ (hp : Fin 2) (rp : Fin 4) (s : State), s.endpoint hp.val = false →
    (s.isF F.hpRcStatus_dlActive hp.val rp.val = true → exec (.pcieLinkDown hp rp) s = .next (s.freezeRp hp.val rp.val 3)) ∧
    exec (.pcieErrorReceived hp rp .fatal) s = .next (s.freezeRp hp.val rp.val 1) ∧
    exec (.pciePllLoss hp) s = .next ((List.range 4).foldl (fun s j => s.freezeRp hp.val j 7) (s.setF F.hpPortStatus_pllLocked hp.val 0 0))) ∧
  (∀ (hp : Fin 2) (rp : Fin 4) (s : State), s.endpoint hp.val = true → exec (.pcieLinkDown hp rp) s = .next s.epDown ∧
    exec (.pciePllLoss hp) s = .next (s.setF F.hpPortStatus_pllLocked hp.val 0 0).epDown) ∧
  (∀ (w : Issuer) (hp : Fin 2) (rp : Fin 4) (v : Word) (s s1 : State), s.reachable .hp hp.val = true → s.issuerWid w = 0 → s.rpEnabled hp.val rp.val = true →
    s1 = s.writeReg .hpRcCtrl hp.val rp.val v allBytes →
    (v.getLsbD 9 = true → exec (.freeze w hp rp v) s = .next ((s1.freezeRp hp.val rp.val 6).accept w (Place.hp.stopOf hp.val))) ∧
    (v.getLsbD 8 = true → v.getLsbD 9 = false → s1.frozenRp hp.val rp.val = true →
      exec (.releaseFreeze w hp rp v) s = .next (((((s1.setF F.hpRcStatus_frozen hp.val rp.val 0).setF F.hpRcStatus_discardedWrites hp.val rp.val 0).setF
        F.hpRcStatus_allOnesReads hp.val rp.val 0).modHp hp.val (fun h => { h with training := h.training ||| (1#4 <<< rp.val) })).accept w (Place.hp.stopOf hp.val)))) ∧
  (∀ (hp : Fin 2) (tag : BitVec 14) (st : CplStatus) (d : BitVec 4096) (s : State) (o : OutReq) (p : Packet), s.works = [] →
    (s.hp hp.val).outst.find? (fun o => o.tag == tag.toNat) = some o → o.kind = .fabric p →
    (∀ u, u = ((s.modHp hp.val (fun h => { h with outst := h.outst.erase o })).hpReply hp.val p st false d.toNat) →
      Gives (.pcieCompletion hp tag st false d) s (fun t => t = { u with cursor := {}, works := [] })) ∧
    (s.isF F.hpRcCtrl_containCto hp.val o.rp = false →
      ∀ u, u = ((s.modHp hp.val (fun h => { h with outst := h.outst.erase o })).hpErr hp.val p Err.timeout) →
      Gives (.pcieCompletionTimeout hp tag) s (fun t => t = { u with cursor := {}, works := [] }))) ∧
  (∀ (hp : Fin 2) (tag : BitVec 14) (st : CplStatus) (po : Bool) (d : BitVec 4096) (s : State), s.takenBy hp.val tag.toNat (.pcieCompletion hp tag st po d) = false →
    Served (.pcieCompletion hp tag st po d) s s (hpStop hp.val) 0 (fun s => s.completed hp.val tag.toNat st po d)) ∧
  (∀ (hp : Fin 2) (tag : BitVec 14) (s : State), s.takenBy hp.val tag.toNat (.pcieCompletionTimeout hp tag) = false →
    Served (.pcieCompletionTimeout hp tag) s s (hpStop hp.val) 0 (fun s => s.timedOut hp.val tag.toNat)) ∧
  (∀ (hp : Fin 2) (tag : BitVec 14) (st : CplStatus) (po : Bool) (d : BitVec 4096) (s : State), s.takenBy hp.val tag.toNat (.pcieCompletion hp tag st po d) = true →
    exec (.pcieCompletion hp tag st po d) s = .next (s.incSat F.hpPortStatus_unexpCpl hp.val 0)) ∧
  (∀ (hp : Fin 2) (tag : BitVec 14) (st : CplStatus) (po : Bool) (d : BitVec 4096) (s : State), s.works = [] → (s.hp hp.val).outst = [] →
    Gives (.pcieCompletion hp tag st po d) s (fun t => t.regs = (s.incSat F.hpPortStatus_unexpCpl hp.val 0).regs ∧ t.outq = s.outq ∧ t.mem = s.mem ∧ t.harts = s.harts)) ∧
  (∀ (hp : Fin 2) (rp : Fin 4) (x : InTlp) (d : BitVec 4096) (s v : State) (r : Run), s.inLive hp.val rp.val = true → x.unsupported = false →
    (r = RunOf s (hpStop hp.val) 0 (.pcieInboundRead hp rp x) → v = AtWork s r → s.turnHeld (.pcieInboundRead hp rp x) = false →
      (s.endpoint hp.val = true → Ends (.pcieInboundRead hp rp x) s r (v.epRead x)) ∧
      (s.endpoint hp.val = false → inMemory x.addr.toNat = true →
        Ends (.pcieInboundRead hp rp x) s r (v.inMemRead hp.val (s.inWid hp.val x.rid.toNat) x.addr.toNat x))) ∧
    (r = RunOf s (hpStop hp.val) 0 (.pcieInboundWrite hp rp x d) → v = AtWork s r → s.turnHeld (.pcieInboundWrite hp rp x d) = false →
      (s.endpoint hp.val = true → Ends (.pcieInboundWrite hp rp x d) s r (v.epWrite x (d.toNat % 2 ^ (8 * x.len.toNat)))) ∧
      (s.endpoint hp.val = false → inMemory x.addr.toNat = true →
        Ends (.pcieInboundWrite hp rp x d) s r (v.inMemWrite hp.val (s.inWid hp.val x.rid.toNat) x.addr.toNat x (d.toNat % 2 ^ (8 * x.len.toNat)))))) ∧
  (∀ (hp : Fin 2) (rp : Fin 4) (x : InTlp) (swap : Bool) (w : Word) (s s1 : State) (r : Run) (d : Sector) (po : Bool),
    r = RunOf s (hpStop hp.val) 0 (.pcieInboundAtomic hp rp x swap true w) → s.turnHeld (.pcieInboundAtomic hp rp x swap true w) = false →
    s.inLive hp.val rp.val = true → s.endpoint hp.val = false → x.unsupported = false → inMemory x.addr.toNat = true → x.addr.toNat % 8 = 0 →
    (AtWork s r).cohAtomic (s.inWid hp.val x.rid.toNat) (x.addr.toNat / 64) (if swap then 1 else 2) (x.addr.toNat % 64) 8 (w.toNat % 2 ^ 64) = (.data d po, s1) →
    Ends (.pcieInboundAtomic hp rp x swap true w) s r (s1.tlp hp.val (inCpl x x.addr.toNat 8 (sectorBytes d (x.addr.toNat % 64) 8) .ok po)))

/-- HP_VI_APER_WRITE, HP_TQ_TAIL_WRITE, TQ_NOP, TO_HOST, FROM_HOST, TRANSLATION_COMPLETION, INVALIDATION_REQUEST, BUS_MASTER_ENABLE_CLEAR,
BUS_MASTER_ENABLE_SET, INITIATE_FLR, FLR_COMPLETE, VF_ENABLE_CLEAR, PF_FLR, PERST_ASSERT, PERST_RELEASE (R368, R369, R370, R373, R374, R375, R415, R540): an
instance's registers are written by its world or the Keeper; a queue serves its next descriptor; a granted translation enters the cache and the job runs; an
invalidation empties what it names. Bus Master Enable follows the host; what a function that loses it has outstanding is discarded; a reset of a function, the
loss of VF Enable and PERST end what they cover. -/
def Obligations.HostQueuesAndFunctions : Prop :=
  (∀ (w : Issuer) (i : Fin 62) (v : Word) (s : State), s.reachable .hp 0 = true → 1 ≤ i.val →
    (s.issuerWid w = 0 ∨ (s.created i.val = true ∧ s.issuerWid w = s.getF F.hpViCfg_wid 0 i.val)) →
    exec (.hpViAperWrite w i v) s = .next ((if bitsOf v 16 36 * 65536 % 2 ^ (24 + s.getF F.hpEpCfg_vfBar2Log 0 0) ≠ 0 ∨
        rangeOk (bitsOf v 16 36 * 65536) (2 ^ (24 + s.getF F.hpEpCfg_vfBar2Log 0 0)) = false
      then s.setF F.hpPortStatus_reject 0 0 1 else s.writeReg .hpViAper 0 i.val v allBytes).accept w (Place.hp.stopOf 0))) ∧
  (∀ (w : Issuer) (q : Fin 64) (v : Word) (s : State), s.reachable .hp 0 = true → s.issuerWid w = 0 →
    exec (.hpTqTailWrite w q v) s = .next (((s.tailWrite (tqRing q.val) v).ringSync (tqRing q.val) true).accept w (Place.hp.stopOf 0))) ∧
  (∀ (q : Fin 64) (s : State), Served (.tqNop q) s s (hpStop 0) 0 (fun s => s.tqServe q.val 0) ∧ Served (.toHost q) s s (hpStop 0) 0 (fun s => s.tqServe q.val 1) ∧
    Served (.fromHost q) s s (hpStop 0) 0 (fun s => s.tqServe q.val 2)) ∧
  (∀ (tag : BitVec 14) (granted : Bool) (pa : Word) (log : Fin 64) (s s1 : State) (r : Run) (o : OutReq) (q index i slot : Nat) (j : Job),
    r = RunOf s (hpStop 0) 0 (.translationCompletion tag granted pa log) → s.takenBy 0 tag.toNat (.translationCompletion tag granted pa log) = false →
    (s.hp 0).outst.find? (fun o => o.tag == tag.toNat) = some o → o.kind = .transl q index → o.discard = false →
    s1 = (AtWork s r).modHp 0 (fun h => { h with outst := h.outst.erase o }) → s1.queueOwner q = some (i, slot) →
    (s1.queue q).jobs.find? (fun j => j.index == index && j.transl) = some j →
    (granted = true → Ends (.translationCompletion tag granted pa log) s r ((s1.modHp 0 (fun h => { h with
      atc := (if h.atc.length < 512 then h.atc else h.atc.drop 1) ++ [{ fn := i, va := o.addr, pa := pa.toNat, log := max 12 log.val }] })).tqRun q i slot j)) ∧
    (granted = false → Ends (.translationCompletion tag granted pa log) s r (s1.tqFail q i slot j 0x14))) ∧
  (∀ (i : Fin 62) (addr : Word) (log : Fin 65) (itag : BitVec 5) (s : State), (s.vf i.val).inval.length < 32 → (s.hp 0).outst = [] →
    exec (.invalidationRequest i addr log itag) s = .next (((s.modHp 0 (fun h => { h with
      atc := h.atc.filter (fun e => !(e.fn == i.val && (e.va / 2 ^ max e.log log.val == addr.toNat / 2 ^ max e.log log.val))) })).setVf i.val
      { s.vf i.val with inval := (s.vf i.val).inval ++ [(itag.toNat, [])] }).invalPump i.val)) ∧
  (∀ (s : State), Gives (.busMasterEnableClear 0) s (fun t => t.pf.bme = false ∧ t.regs = s.regs ∧ t.mem = s.mem)) ∧
  (∀ (i : Fin 62) (s : State), i.val ≠ 0 →
    Gives (.busMasterEnableClear i) s (fun t => (t.vf i.val).bme = false ∧ t.regs = s.regs ∧ t.mem = s.mem ∧
      (t.hp 0).outst = (s.hp 0).outst.map (fun o => match o.kind with
        | .fabric _ => o
        | _ => if o.fn = i.val then { o with discard := true } else o))) ∧
  (∀ (i : Fin 62) (s : State), i.val ≠ 0 → s.resetting i.val = false →
    exec (.busMasterEnableSet i) s = .next ((s.setVf i.val { s.vf i.val with bme := true }).vfPump i.val)) ∧
  (∀ (s : State), exec (.busMasterEnableSet 0) s = .next (State.pfPump { s with pf := { s.pf with bme := true } })) ∧
  (∀ (i : Fin 62) (s : State), exec (.initiateFlr i) s = .next (s.flr i.val false) ∧ Served (.flrComplete i) s s (hpStop 0) 0 (fun s => s.flrEnd i.val)) ∧
  (∀ (s : State), exec .vfEnableClear s = .next s.removeAll) ∧
  (∀ (s : State), s.endpoint 0 = true → exec .perstAssert s = .next (s.modHp 0 (fun h => { h with perst := true })).epDown) ∧
  (∀ (s : State), s.endpoint 0 = false → Gives .perstAssert s (fun t => (t.hp 0).perst = true ∧ t.regs = s.regs ∧ t.mem = s.mem)) ∧
  (∀ (s : State), exec .pfFlr s = .next { State.removeAll { s with slips := { s.slips with pf := { s.slips.pf with done := false, discard := s.slips.pf.busy } } } with
    pf := {} }) ∧
  (∀ (s : State), (s.endpoint 0 = true → exec .perstRelease s = .next ((s.modHp 0 (fun h => { h with perst := false })).hpTrain 0)) ∧
    (s.endpoint 0 = false → exec .perstRelease s = .next (s.modHp 0 (fun h => { h with perst := false }))))


/-- ROOT_PLL_LOSS, FATAL_ERROR, THERMTRIP (R21, R457, R493): the first cause is latched, the count advances without wrapping, a record of severity 7 is written
and the device enters Quarantine. -/
def Obligations.FatalErrors : Prop :=
  (∀ (cause : Fin 7) (s : State), s.getF F.anlStatus_fatalCause 0 0 = 0 →
    exec (.fatalError cause) s = .next ((((s.setF F.anlStatus_fatalCause 0 0 (cause.val + 1)).incSat F.anlStatus_fatalCount 0 0).writeRec Ev.fatal 7 srcSvc
      (w64 (cause.val + 1)) (w64 s.mtime) true).enterQuarantine)) ∧
  (∀ (cause : Fin 7) (s : State), s.getF F.anlStatus_fatalCause 0 0 ≠ 0 →
    exec (.fatalError cause) s = .next (((s.incSat F.anlStatus_fatalCount 0 0).writeRec Ev.fatal 7 srcSvc (w64 (cause.val + 1)) (w64 s.mtime) true).enterQuarantine)) ∧
  (∀ s : State, exec .rootPllLoss s = .next (s.fatal Fatal.rootPllLoss)) ∧
  (∀ (temp : Nat) (s : State), 115 ≤ temp → exec (.thermtrip temp) s = .next (State.fatal { s with pw := { s.pw with thermtrip := true } } Fatal.thermtrip)) ∧
  (∀ (temp : Nat) (s : State), temp < 115 → exec (.thermtrip temp) s = .next s)

/-- COLD_RESET, RESET_N_FALL, WARM_RESET_DELAY_EXPIRY, VAON_APPLIED, VAON_LOSS, LOSS_OF_RAILS, RAIL_OUT_OF_TOLERANCE, PWRGOOD_RISE, PMB_ALERT, ALIAS_KEYS_READY
(R392, R396, R493, R533, R534, R535, R536, R537, R540): a reset with the rails good runs the boot chain, whose step 8 goes on once the writes of the staging
range have been answered; a short pulse of RESET_N resets nothing; the always-on
rail's first rise clears what it keeps; a lost rail takes the device down; the rise of PWRGOOD holds it in reset until RESET_N rises; the alias keys make
attestation ready. -/
def Obligations.ResetsAndRails : Prop :=
  (∀ (x : BootEnv) (s : State), s.bootResumes (.coldReset x) = false → s.pw.pwrgood = true →
    (s.mode = 0 ∨ s.pw.inReset = true ∨ s.getF F.kprStatus_bootStage 0 0 = 0) →
    exec (.coldReset x) s = .next ((State.coldReset s x).bootOn (.coldReset x))) ∧
  (∀ (x : BootEnv) (s : State), s.warmIgnored = false →
    (s.bootResumes (.resetNFall true x) = false → exec (.resetNFall true x) s = .next ((State.warmReset s x).bootOn (.resetNFall true x))) ∧
    (s.bootResumes (.resetNFall false x) = false → exec (.resetNFall false x) s = .next { s with pw := { s.pw with notes := s.pw.notes ++ [(3, 0)] } })) ∧
  (∀ (x : BootEnv) (s : State) (y : Nat), s.pw.warm = some y → s.bootResumes (.warmResetDelayExpiry x) = false →
    exec (.warmResetDelayExpiry x) s = .next ((State.warmReset s x).bootOn (.warmResetDelayExpiry x))) ∧
  (∀ (x : BootEnv) (c : Instr) (s : State) (m : Nat), (c = .coldReset x ∨ c = .resetNFall true x ∨ c = .warmResetDelayExpiry x) → s.bootResumes c = true →
    s.kpr.booting = some m → Served c s s svcStop 0 (fun s => s.bootRest m)) ∧
  (∀ s : State, Gives (.vaonApplied true) s (fun t => t.pw.vaon = true ∧ t.bootCount = 0 ∧ t.annals.calendar = 0 ∧ t.isF F.anlStatus_timeUnset 0 0 = true ∧
      t.regWord .anlCalendar 0 0 = 0 ∧ t.mem = s.mem ∧ t.fuses = s.fuses)) ∧
  (∀ s : State, Gives .vaonLoss s (fun t => t.pw.vaon = false ∧ t.pw.pwrgood = false ∧ t.bootCount = 0 ∧ t.isF F.anlStatus_timeUnset 0 0 = true ∧
      t.getF F.anlStatus_fatalCause 0 0 = 0 ∧ t.getF F.anlStatus_fatalCount 0 0 = 0 ∧ t.fuses = s.fuses)) ∧
  (∀ s : State, Gives .lossOfRails s (fun t => t.pw.pwrgood = false ∧ t.fuses = s.fuses)) ∧
  (∀ (r : Fin 8) (s : State), s.pw.pwrgood = true → exec (.railOutOfTolerance r) s = .next (s.railsLost r.val)) ∧
  (∀ s : State, s.pw.pwrgood = false → exec .pwrgoodRise s = .next { s with pw := { s.pw with pwrgood := true, resetN := false, alarm := false, inReset := true } }) ∧
  (∀ (st : List (Fin 8 × Word)) (s : State), s.mode ≠ 0 → s.pw.inReset = false →
    exec (.pmbAlert st) s = .next { s with pw := { s.pw with vrmStatus := st.map (fun e => (e.1.val, e.2)) } }) ∧
  (∀ s : State, s.pw.inReset = false → s.mode ≠ 0 → 9 ≤ s.getF F.kprStatus_bootStage 0 0 → s.getF F.kprStatus_bootStage 0 0 ≤ 11 →
    Gives .aliasKeysReady s (fun t => t.isF F.kprStatus_attestReady 0 0 = true ∧ (∀ r u i, r ≠ .kprStatus → t.regWord r u i = s.regWord r u i) ∧ t.mem = s.mem))

/-- CURATOR_RUN_WRITE, CUR_WDT_KICK, CURATOR_WATCHDOG_EXPIRY, FLASH_PROGRAM, FLASH_ERASE_SECTOR, FLASH_ERASE_BLOCK, FLASH_COMMAND_DONE, CURATOR_TIMER_MATCH,
CURATOR_INTERRUPT, CURATOR_INSTRUCTION, KEEPER_WDT_KICK, KEEPER_WATCHDOG_EXPIRY, DEBUG_CONSENT_WRITE (R379, R381, R384, R385, R386, R403, R405): the Keeper
starts and stops the Curator; a running Curator kicks its watchdog, commands its flash, ends a wait at its timer, takes an enabled interrupt, external before
timer, at an instruction boundary, and executes the instruction at its pc or faults where it cannot fetch it; a first expiry of its watchdog warns. The Keeper
kicks its own watchdog; a first expiry warns, and a second restarts the Keeper, counted, with attestation no longer ready, or is fatal at the third in 10 s; each world writes its own consent. -/
def Obligations.CuratorAndWatchdog : Prop :=
  (∀ (w : Issuer) (v : Word) (s : State), s.issuerWid w = 0 → exec (.curatorRunWrite w v) s = .next ((s.curCtrlWrite v allBytes).accept w svcStop)) ∧
  (∀ s : State, s.curRuns = true →
    (∀ key, exec (.curWdtKick key) s = .next (s.curKick key.toNat)) ∧
    (∀ src, exec (.flashProgram src) s = .next (s.flashCmd 1 src.toNat)) ∧
    exec .flashEraseSector s = .next (s.flashCmd 2 0) ∧ exec .flashEraseBlock s = .next (s.flashCmd 3 0) ∧
    (s.curCmp ≤ s.mtime → (s.curCsr 0x304).getLsbD 7 = true → exec .curatorTimerMatch s = .next { s with cur := { s.cur with waiting := false } }) ∧
    (s.agentWaits svcStop 1 = false → (s.curCsr 0x300).getLsbD 3 = true → (s.curMip &&& s.curCsr 0x304).getLsbD 11 = true → exec .curatorInterrupt s = .next (s.curTrap 11 true 0 s.cur.pc)) ∧
    (s.agentWaits svcStop 1 = false → (s.curCsr 0x300).getLsbD 3 = true → (s.curMip &&& s.curCsr 0x304).getLsbD 11 = false → (s.curMip &&& s.curCsr 0x304).getLsbD 7 = true →
      exec .curatorInterrupt s = .next (s.curTrap 7 true 0 s.cur.pc)) ∧
    (s.isF F.curStatus_warned 0 0 = false → exec .curatorWatchdogExpiry s = .next ((s.setF F.curStatus_warned 0 0 1).record Ev.watchdog
      { stop := svcStop, unit := 6, wid := 1 } 1 0))) ∧
  (∀ (x : CurInstr) (s : State), s.works.any (fun r => r.stop == svcStop && r.ep == 1 && r.cmd != .curatorInstruction x) = false →
    Served (.curatorInstruction x) s s svcStop 1 (fun s => s.curStep x)) ∧
  (∀ (x : CurInstr) (s v s1 : State) (r : Run), s.works.any (fun r => r.stop == svcStop && r.ep == 1 && r.cmd != .curatorInstruction x) = false →
    r = RunOf s svcStop 1 (.curatorInstruction x) → v = AtWork s r → s.curRuns = true → (s.cur.waiting = false ∨ v.curMip &&& v.curCsr 0x304 ≠ 0) →
    (State.curFetch { v with cur := { v.cur with waiting := false } } s.cur.pc.toNat (if x.short then 2 else 4) = (true, s1) →
      Ends (.curatorInstruction x) s r (s1.curExec s.cur.pc (s.cur.pc + BitVec.ofNat 32 (if x.short then 2 else 4)) x.kind)) ∧
    (State.curFetch { v with cur := { v.cur with waiting := false } } s.cur.pc.toNat (if x.short then 2 else 4) = (false, s1) →
      Ends (.curatorInstruction x) s r (s1.curTrap 1 false s.cur.pc s.cur.pc))) ∧
  (∀ (s : State) (f : FlashOp), s.cur.flash = some f → f.program = false →
    exec (.flashCommandDone true) s = .next ((State.setF { (s.flashErase f.addr f.size).dropLines f.addr f.size with
      cur := { ((s.flashErase f.addr f.size).dropLines f.addr f.size).cur with flash := none, flashDone := true } } F.curFlashStatus_busy 0 0 0).flashResult 0)) ∧
  (∀ (s : State) (f : FlashOp), s.cur.flash = some f → f.program = true →
    exec (.flashCommandDone true) s = .next ((State.setF { (s.flashProgram f.addr (f.data.map (·.toNat))).dropLines f.addr f.size with
      cur := { ((s.flashProgram f.addr (f.data.map (·.toNat))).dropLines f.addr f.size).cur with flash := none, flashDone := true } } F.curFlashStatus_busy 0 0 0).flashResult 0)) ∧
  (∀ (w : Issuer) (v : Word) (s : State), s.issuerWid w = 0 → exec (.keeperWdtKick w v) s = .next ((s.kprWdtWrite v allBytes).accept w svcStop)) ∧
  (∀ (s : State), s.mode ≠ 0 → s.pw.inReset = false → s.isF F.kprWdt_warned 0 0 = false →
    exec .keeperWatchdogExpiry s = .next ((s.setF F.kprWdt_warned 0 0 1).record Ev.watchdog srcKeeper 0 0)) ∧
  (∀ (s s2 : State), s.mode ≠ 0 → s.pw.inReset = false → s.isF F.kprWdt_warned 0 0 = true → (recentRestarts s.kpr.restarts s.mtime).length < 3 →
    s2 = State.record (((State.setF { s with kpr := { s.kpr with restarts := recentRestarts s.kpr.restarts s.mtime } } F.kprWdt_warned 0 0 0).incSat
      F.kprStatus_restarts 0 0).setF F.kprStatus_attestReady 0 0 0) Ev.watchdog srcKeeper 0 1 →
    exec .keeperWatchdogExpiry s = .next (State.keeperRestart
      { s2 with slips := { s2.slips with inHand := s2.slips.inHand.map (fun w => { w with restarted := true }), restarting := true } })) ∧
  (∀ (s s2 : State), s.mode ≠ 0 → s.pw.inReset = false → s.isF F.kprWdt_warned 0 0 = true → 3 ≤ (recentRestarts s.kpr.restarts s.mtime).length →
    s2 = State.record (((State.setF { s with kpr := { s.kpr with restarts := recentRestarts s.kpr.restarts s.mtime } } F.kprWdt_warned 0 0 0).incSat
      F.kprStatus_restarts 0 0).setF F.kprStatus_attestReady 0 0 0) Ev.watchdog srcKeeper 0 1 →
    exec .keeperWatchdogExpiry s = .next (State.fatal
      { s2 with slips := { s2.slips with inHand := s2.slips.inHand.map (fun w => { w with restarted := true }), restarting := true } } Fatal.keeperRestarts)) ∧
  (∀ (w : Issuer) (v : Word) (s : State), s.issuerWid w ≠ 1 → exec (.debugConsentWrite w v) s = .next ((s.consentWrite (s.issuerWid w) v allBytes).accept w svcStop))


/-- GET_INFO, GET_NONCE, GET_RANDOM, IMAGE_STATUS, WARM_RESET, FLASH_ERASE, FLASH_WRITE, PROVISION_KEY, REVOKE_KEY, WORLD_CREATE, WORLD_DESTROY, SEAT_LEND,
BELL_ALLOW, SHELF_SET, METER_SET, WORLD_STATUS, KEY_NEW, KEY_DROP, DEED_RECLAIM, DEPO_DEEDS, DEED_TABLE_SETUP (R420, R421, R422, R423): the Keeper's slips of
information, images, fuses, worlds, seats, shelves, meters, keys and deeds: each does what its own row says when its slip is in hand, and is taken from its
transport when it is next there. -/
def Obligations.ServiceAndWorldSlips : Prop :=
  (∀ (t : Transport) (e : SlipEnv),
     SlipServed (.getInfo t) 0x0000 State.opGetInfo t {} ∧
     SlipServed (.getNonce t) 0x0001 State.opGetNonce t {} ∧
     SlipServed (.getRandom t) 0x0002 State.opGetRandom t {} ∧
     SlipServed (.imageStatus t) 0x0100 State.opImageStatus t {} ∧
     SlipServed (.warmReset t) 0x0101 State.opWarmReset t {} ∧
     SlipServed (.flashErase t e) 0x0102 State.opFlashErase t e ∧
     SlipServed (.flashWrite t e) 0x0103 State.opFlashWrite t e ∧
     SlipServed (.provisionKey t e) 0x0104 State.opProvisionKey t e ∧
     SlipServed (.revokeKey t e) 0x0105 State.opRevokeKey t e) ∧
  (∀ t : Transport,
     SlipServed (.worldCreate t) 0x0200 State.opWorldCreate t {} ∧
     SlipServed (.worldDestroy t) 0x0201 State.opWorldDestroy t {} ∧
     SlipServed (.seatLend t) 0x0202 State.opSeatLend t {} ∧
     SlipServed (.bellAllow t) 0x0203 State.opBellAllow t {} ∧
     SlipServed (.shelfSet t) 0x0204 State.opShelfSet t {} ∧
     SlipServed (.meterSet t) 0x0205 State.opMeterSet t {} ∧
     SlipServed (.worldStatus t) 0x0206 State.opWorldStatus t {} ∧
     SlipServed (.keyNew t) 0x0300 State.opKeyNew t {} ∧
     SlipServed (.keyDrop t) 0x0301 State.opKeyDrop t {} ∧
     SlipServed (.deedReclaim t) 0x0302 State.opDeedReclaim t {} ∧
     SlipServed (.depoDeeds t) 0x0303 State.opDepoDeeds t {} ∧
     SlipServed (.deedTableSetup t) 0x0304 State.opDeedTableSetup t {})

/-- MODE_SET, POWER_LIMIT, DOMAIN_SET, CORE_N, POWER_STATUS, LEDGER_READ, LEDGER_STATUS, SURVEY_START, LEDGER_NOTIFY, ANNALS_READ, ANNALS_FREEZE, ANNALS_CLEAR,
ANNALS_NOTIFY (R424, R425, R426, R468, R503, R504, R505): the slips of power, the Ledger and the Annals: each does what its own row says when its slip is in
hand, and is taken from its transport when it is next there. -/
def Obligations.PowerSlips : Prop :=
  ∀ t : Transport,
    SlipServed (.modeSet t) 0x0400 State.opModeSet t {} ∧
    SlipServed (.powerLimit t) 0x0401 State.opPowerLimit t {} ∧
    SlipServed (.domainSet t) 0x0402 State.opDomainSet t {} ∧
    SlipServed (.coreN t) 0x0403 State.opCoreN t {} ∧
    SlipServed (.powerStatus t) 0x0404 State.opPowerStatus t {} ∧
    SlipServed (.ledgerRead t) 0x0500 State.opLedgerRead t {} ∧
    SlipServed (.ledgerStatus t) 0x0501 State.opLedgerStatus t {} ∧
    SlipServed (.surveyStart t) 0x0502 State.opSurveyStart t {} ∧
    SlipServed (.ledgerNotify t) 0x0503 State.opLedgerNotify t {} ∧
    SlipServed (.annalsRead t) 0x0600 State.opAnnalsRead t {} ∧
    SlipServed (.annalsFreeze t) 0x0601 State.opAnnalsFreeze t {} ∧
    SlipServed (.annalsClear t) 0x0602 State.opAnnalsClear t {} ∧
    SlipServed (.annalsNotify t) 0x0603 State.opAnnalsNotify t {}

/-- ROUTE_STAGE, ROUTE_SWITCH, ANNEX_CONFIG, ANNEX_UP, ANNEX_ATTEST, ANNEX_DOWN, DEPO_MAP, MP_STATUS, MP_SCRUB, MP_LANE_RETIRE, MP_MIRROR (R26, R400, R427,
R428): the slips of the mesh, the annexes and memory: each does what its own row says when its slip is in hand, and is taken from its transport when it is next
there. -/
def Obligations.FabricSlips : Prop :=
  ∀ (t : Transport) (e : SlipEnv),
    SlipServed (.routeStage t) 0x0700 State.opRouteStage t {} ∧
    SlipServed (.routeSwitch t) 0x0701 State.opRouteSwitch t {} ∧
    SlipServed (.annexConfig t) 0x0702 State.opAnnexConfig t {} ∧
    SlipServed (.annexUp t) 0x0703 State.opAnnexUp t {} ∧
    SlipServed (.annexAttest t e) 0x0704 State.opAnnexAttest t e ∧
    SlipServed (.annexDown t) 0x0705 State.opAnnexDown t {} ∧
    SlipServed (.depoMap t) 0x0706 State.opDepoMap t {} ∧
    SlipServed (.mpStatus t) 0x0800 State.opMpStatus t {} ∧
    SlipServed (.mpScrub t) 0x0801 State.opMpScrub t {} ∧
    SlipServed (.mpLaneRetire t) 0x0802 State.opMpLaneRetire t {} ∧
    SlipServed (.mpMirror t) 0x0803 State.opMpMirror t {}

/-- DEBUG_GRANT, DEBUG_DROP, CERT_READ, MEASURE, QUOTE, QUOTE_READ, LOG_READ, VI_CREATE, VI_REMOVE, VI_STATUS (R367, R375, R397, R398, R429, R430): the slips of
debug, attestation and virtual instances: each does what its own row says when its slip is in hand, and is taken from its transport when it is next there. -/
def Obligations.AttestSlips : Prop :=
  ∀ t : Transport,
    SlipServed (.debugGrant t) 0x0900 State.opDebugGrant t {} ∧
    SlipServed (.debugDrop t) 0x0901 State.opDebugDrop t {} ∧
    SlipServed (.certRead t) 0x0A00 State.opCertRead t {} ∧
    SlipServed (.measure t) 0x0A01 State.opMeasure t {} ∧
    SlipServed (.quote t) 0x0A02 State.opQuote t {} ∧
    SlipServed (.quoteRead t) 0x0A03 State.opQuoteRead t {} ∧
    SlipServed (.logRead t) 0x0A04 State.opLogRead t {} ∧
    SlipServed (.viCreate t) 0x0B00 State.opViCreate t {} ∧
    SlipServed (.viRemove t) 0x0B01 State.opViRemove t {} ∧
    SlipServed (.viStatus t) 0x0B02 State.opViStatus t {}

/-- SLIP_BELL, CURATOR_SLIP_GO, PF_SLIP_GO, I3C_PRIVATE_WRITE, I3C_DYNAMIC_ADDRESS, KEEPER_SLIP_TURN, STARTED_OPERATION_DONE, NONCE_EXPIRY, QUOTE_SIGNED,
QUOTE_EXPIRY (R398, R413, R414, R415, R416, R417, R419, R429): each transport hands its slip over in its own way; the Keeper's turn, once no other
command of its is under way and its accesses of memory are answered, goes on with the slip in hand, or takes the next transport's; a started Survey ends with
its mode, and a teardown goes on until nothing binds its world; what is no longer valid is dropped. -/
def Obligations.SlipTransports : Prop :=
  (∀ (w : Issuer) (x : BitVec 6) (v : Word) (s : State), 2 ≤ x.toNat → s.issuerWid w = x.toNat →
    exec (.slipBell w x v) s = .next ((s.bellWrite x.toNat v allBytes).accept w svcStop)) ∧
  (∀ (s : State), s.curRuns = true → exec .curatorSlipGo s = .next s.curGo) ∧
  (∀ (s : State), exec .pfSlipGo s = .next { s with slips := { s.slips with pf := s.slips.pf.go } }) ∧
  (∀ (a b : BitVec 8) (l : List (BitVec 8)) (s : State) (n : BitVec 7), s.slips.i3cAddr = some n →
    exec (.i3cPrivateWrite (a :: b :: l)) s = .next { s with slips := { s.slips with
      i3c := s.slips.i3c.write (ofBytes [a.toNat, b.toNat]) l.length (ofBytes (l.map (·.toNat)))
      i3cOff := ofBytes [a.toNat, b.toNat] } }) ∧
  (∀ (a : BitVec 7) (s : State), exec (.i3cDynamicAddress a) s = .next { s with slips := { s.slips with i3cAddr := some a } }) ∧
  (∀ (e : SlipEnv) (s v u : State) (r : Run), s.keeperFree (.keeperSlipTurn e) = true → v = s.keeperStart (.keeperSlipTurn e) →
    r = RunOf v svcStop 0 (.keeperSlipTurn e) → u = AtWork v r →
    (∀ w, s.slips.inHand = some w → Ends (.keeperSlipTurn e) s r (u.runSlip (opRow w.slip.opcode) w e)) ∧
    (∀ t, s.slips.inHand = none → u.nextTurn = some t →
      Ends (.keeperSlipTurn e) s r (State.visit { u with slips := { u.slips with turn := afterTurn t } } opRow t e)) ∧
    (s.slips.inHand = none → u.nextTurn = none → Ends (.keeperSlipTurn e) s r u)) ∧
  (∀ (e : SlipEnv) (s : State), s.keeperFree (.keeperSlipTurn e) = false → exec (.keeperSlipTurn e) s = .next s) ∧
  (∀ (id : BitVec 8) (s : State) (x : Started), s.kpr.faulted = false → s.slips.started.find? (fun x => x.id == id.toNat) = some x →
    (x.opcode ≠ 0x0201 → s.mode ≠ 6 → s.pw.target ≠ some 6 →
      exec (.startedOperationDone id) s = .next { s with slips := { s.slips with started := s.slips.started.filter (fun y => y.id != id.toNat) } }) ∧
    (∀ u : State, x.opcode = 0x0201 → s.destroyWorld x.wid = (true, u) → exec (.startedOperationDone id) s = .next { u with slips := { u.slips with
      started := u.slips.started.filter (fun y => y.id != id.toNat)
      destroying := u.slips.destroying.filter (· != x.wid) } }) ∧
    (∀ u : State, x.opcode = 0x0201 → s.destroyWorld x.wid = (false, u) → exec (.startedOperationDone id) s = .next u)) ∧
  (∀ (t : Transport) (s : State), exec (.nonceExpiry t) s = .next (s.nonceExpire t.num)) ∧
  (∀ (s : State), exec .quoteSigned s = .next s.quoteSign) ∧
  (∀ (id : BitVec 8) (s : State), exec (.quoteExpiry id) s = .next (s.quoteDrop id.toNat))

/-- DOMAIN_OFF_REQUEST, DOMAIN_ON_REQUEST, DOMAIN_TIMER_REQUEST, DOMAIN_DRAIN_COMPLETE, DRAIN_TIMEOUT, DOMAIN_WAKE_COMPLETE, CORE_CLOCK_GATE,
CORE_IDLE_TIMER_EXPIRY, CORE_WAKE (R434, R437, R438, R442, R443): the Keeper's request of a domain that exists is taken; a drain that is done takes its domain
down, one that lasts too long is given up unless its stop is already declared dead; a wake that completes clears the last refuser, and a domain that is no core is on. The core of a running hart with
nothing to wake it is clock gated; an idle timer starts its drain, unless a wake is pending or a refuser of R439 applies; a pending wake turns a clock-gated core
on, abandons a drain and starts the wake of a retained one. -/
def Obligations.PowerDomainsAndIdling : Prop :=
  (∀ (w : Issuer) (d : BitVec 9) (wid : BitVec 6) (s : State), s.issuerWid w = 0 → d.toNat ≤ 440 →
    exec (.domainOffRequest w d wid) s = .next ((s.domRequest d.toNat { action := 0, wid := wid.toNat }).accept w svcStop) ∧
    exec (.domainOnRequest w d wid) s = .next ((s.domRequest d.toNat { action := 1, wid := wid.toNat }).accept w svcStop) ∧
    (∀ us : BitVec 17, 50 ≤ us.toNat → us.toNat ≤ 100000 →
      exec (.domainTimerRequest w d wid us) s = .next ((s.domRequest d.toNat { action := 2, wid := wid.toNat, timerUs := us.toNat }).accept w svcStop)) ∧
    (∀ us : BitVec 17, us.toNat < 50 ∨ 100000 < us.toNat → exec (.domainTimerRequest w d wid us) s = .next (s.accept w svcStop))) ∧
  (∀ (d : Fin 441) (s : State), exec (.domainDrainComplete d) s = .next (s.drainDone d.val)) ∧
  (∀ (d : Fin 441) (s : State), s.domain d.val ≠ 4 → exec (.domainDrainComplete d) s = .next s) ∧
  (∀ (d : Fin 441) (s : State), s.domain d.val = 4 → (d.val < 272 ∨ (426 ≤ d.val ∧ d.val ≤ 430)) → s.pw.iso.any (fun e => e.1 == d.val) = false →
    exec (.drainTimeout d) s = .next (s.abortDrain d.val (s.domOwner d.val) Refuser.inFlight)) ∧
  (∀ (d : Fin 441) (s : State), s.domain d.val = 5 → 272 ≤ d.val → d.val ≠ 426 → d.val ≠ 427 → domStop d.val = none →
    exec (.domainWakeComplete d) s = .next (((s.setF F.pwrDomStatus_lastRefuser 0 d.val 0).setDomain d.val 2).domSettled d.val)) ∧
  (∀ (d : Fin 441) (s : State), s.domain d.val ≠ 5 → exec (.domainWakeComplete d) s = .next s) ∧
  (∀ (h : BitVec 8) (s : State), s.domain (s.physCore h.toNat) = 2 → s.runs h.toNat = true → s.wakeEvent h.toNat = false → (s.hart h.toNat).sq = [] →
    (s.setDomain (s.physCore h.toNat) 3).pw.offNext.contains (s.physCore h.toNat) = false → exec (.coreClockGate h) s = .next (s.setDomain (s.physCore h.toNat) 3)) ∧
  (∀ (h : BitVec 8) (s : State), s.domain (s.physCore h.toNat) = 3 → s.isF F.pwrDomStatus_pinned 0 (s.physCore h.toNat) = false → s.mode ≠ 3 →
    s.isF F.pwrModeStatus_transition 0 0 = false →
    (s.wakeEvent h.toNat = false → s.refuserOf (s.physCore h.toNat) 0 (s.seat h.toNat) = none → exec (.coreIdleTimerExpiry h) s = .next (s.startDrain (s.physCore h.toNat))) ∧
    (s.wakeEvent h.toNat = true → exec (.coreIdleTimerExpiry h) s = .next ((s.setDomain (s.physCore h.toNat) 2).powerRefuse (s.physCore h.toNat) (s.seat h.toNat)
      Refuser.wakePending true)) ∧
    (∀ code, s.wakeEvent h.toNat = false → s.refuserOf (s.physCore h.toNat) 0 (s.seat h.toNat) = some code →
      exec (.coreIdleTimerExpiry h) s = .next (s.powerRefuse (s.physCore h.toNat) (s.seat h.toNat) code false))) ∧
  (∀ (h : BitVec 8) (s : State), s.wakeEvent h.toNat = true → (s.core (s.physCore h.toNat)).cut = false → s.isF F.pwrModeStatus_transition 0 0 = false →
    (s.mode = 3 ∨ s.mode = 4 ∨ s.mode = 5) →
    (s.domain (s.physCore h.toNat) = 3 → exec (.coreWake h) s = .next ((s.setDomain (s.physCore h.toNat) 2).syncCore (s.physCore h.toNat))) ∧
    (s.domain (s.physCore h.toNat) = 4 → exec (.coreWake h) s = .next (s.abortDrain (s.physCore h.toNat) (s.seat h.toNat) Refuser.wakePending)) ∧
    (s.domain (s.physCore h.toNat) = 1 → exec (.coreWake h) s = .next (s.startWake (s.physCore h.toNat))))

/-- ENTER_OFF, ENTER_CONSERVATION, ENTER_WATCH, LEAVE_TO_ORIGIN, ENTER_SURVEY, WAKE_SOURCE, HELD_WRITE_QUEUE, WATCH_PERIOD_WAKE (R448, R449, R450, R451, R452,
R454, R459, R469): a mode that was asked for is entered once what it stops is at rest, and goes on towards that before; an enabled wake source abandons the entry to
Conservation or Watch, or leaves them, and is kept as the last wake; writes are held with room for them; a wake of Watch that finds nothing goes back to sleep, one that
was late is counted, a sample out of bounds ends Watch, and the due scans run with memory awake. -/
def Obligations.ModeEntries : Prop :=
  (∀ (works : Bool) (s : State), s.isF F.pwrModeStatus_transition 0 0 = true → s.pw.target = some 0 → s.folio.record = none →
    Gives (.enterOff works) s (fun t => t.pw.target = none ∧ t.pw.stopped = [] ∧ t.pw.alert = true ∧ t.isF F.pwrModeStatus_transition 0 0 = false ∧ t.fuses = s.fuses)) ∧
  (∀ s : State, s.isF F.pwrModeStatus_transition 0 0 = true → (s.mode = 4 ∨ s.mode = 5) → s.pw.target = some 2 →
    exec .enterConservation s = .next (if s.conserve.domain 408 = 1 then s.conserve.sequenceDone 2 else s.conserve)) ∧
  (∀ s : State, s.isF F.pwrModeStatus_transition 0 0 = true → (s.mode = 4 ∨ s.mode = 5) → s.pw.target = some 1 →
    exec .enterConservation s = .next (if s.conserve.domain 408 = 1 then s.conserve.setMode 2 else s.conserve)) ∧
  (∀ s : State, s.mode = 2 → s.isF F.pwrModeStatus_transition 0 0 = true → s.pw.target = some 1 →
    exec .enterWatch s = .next (((((List.range 8).map (· + 420) ++ [430]).foldl (fun (s : State) (d : Nat) => s.takeOff d) s).takeDomains
      ((List.range 10).map (· + 431)) 1).sequenceDone 1)) ∧
  (∀ s : State, s.mode = 2 → (s.pw.target = some 4 ∨ s.pw.target = some 5) → exec .leaveToOrigin s = .next s.leave) ∧
  (∀ (f : List SurveyCore) (p : List SurveyPart) (s : State), s.mode = 6 →
    exec (.enterSurvey ⟨f, p⟩ false) s = .next { s with ledger := { s.ledger with found := s.ledger.found ++ f, foundParts := s.ledger.foundParts ++ p } } ∧
    exec (.enterSurvey ⟨f, p⟩ true) s = .next (State.surveyEnd
      { s with ledger := { s.ledger with found := s.ledger.found ++ f, foundParts := s.ledger.foundParts ++ p } } false)) ∧
  (∀ (f : List SurveyCore) (p : List SurveyPart) (l : Bool) (s u : State), s.mode ≠ 6 → s.isF F.pwrModeStatus_transition 0 0 = true → s.pw.target = some 6 →
    s.surveyStart = (false, u) → exec (.enterSurvey ⟨f, p⟩ l) s = .next u) ∧
  (∀ (f : List SurveyCore) (p : List SurveyPart) (s u v : State), s.mode ≠ 6 → s.isF F.pwrModeStatus_transition 0 0 = true → s.pw.target = some 6 →
    s.surveyStart = (true, u) → v = u.setMode 6 →
    exec (.enterSurvey ⟨f, p⟩ false) s = .next { v with ledger := { v.ledger with found := v.ledger.found ++ f, foundParts := v.ledger.foundParts ++ p } }) ∧
  (∀ (b : Fin 50) (s : State), s.isF F.pwrModeStatus_transition 0 0 = true → (s.pw.target = some 1 ∨ s.pw.target = some 2) → b.val ≤ 41 →
    (s.regWord .pwrWakeEn 0 0).getLsbD b.val = true → exec (.wakeSource b) s = .next (s.abortEntry.setF F.pwrModeStatus_lastWake 0 0 b.val)) ∧
  (∀ (b : Fin 50) (s : State), b.val ≤ 41 ∨ b.val = 49 ∨ (b.val = 48 ∧ s.endpoint 0 = true ∧ s.mode = 2) → (s.regWord .pwrWakeEn 0 0).getLsbD b.val = true → s.isF F.pwrModeStatus_transition 0 0 = false →
    (s.mode = 2 → exec (.wakeSource b) s = .next (s.leave.setF F.pwrModeStatus_lastWake 0 0 b.val)) ∧
    (s.mode = 1 → exec (.wakeSource b) s = .next ((s.setF F.pwrWatchStatus_lastCause 0 0 16).leave.setF F.pwrModeStatus_lastWake 0 0 b.val))) ∧
  (∀ (w : Issuer) (n h f i : Nat) (s : State), s.holds = true →
    (s.pw.held.length < 64 → exec (.heldWriteQueue w (.file n h f i)) s =
      .next (State.accept { s with pw := { s.pw with held := s.pw.held ++ [.file (s.issuerWid w) h f i] } } w svcStop)) ∧
    (∀ (pa : Nat) (v en : Word), s.pw.held.length < 64 → exec (.heldWriteQueue w (.reg n pa v en)) s =
      .next (State.accept { s with pw := { s.pw with held := s.pw.held ++ [.reg (s.issuerWid w) pa v en] } } w svcStop)) ∧
    (64 ≤ s.pw.held.length → exec (.heldWriteQueue w (.file n h f i)) s = .next s)) ∧
  (∀ (x : WatchSample) (s : State), s.mode = 1 →
    (∀ due, exec (.watchPeriodWake x true due) s = .next (s.incSat F.pwrWatchStatus_skipped 0 0)) ∧
    (s.pw.scan = none → x.temp < s.getF F.pwrWatchCfg_tempMax 0 0 → x.mv ≤ s.getF F.pwrWatchCfg_vDevMv 0 0 → x.ppm ≤ s.getF F.pwrWatchCfg_agePpm 0 0 →
      exec (.watchPeriodWake x false []) s = .next { s.incSat F.pwrWatchStatus_wakes 0 0 with pw := { s.pw with watchTile := (s.pw.watchTile + 8) % 136 } }) ∧
    (∀ due, s.pw.scan = none → s.watchCause x ≠ 0 → exec (.watchPeriodWake x false due) s = .next (s.watchWake.watchEnd x (s.watchCause x))) ∧
    (∀ due, s.pw.scan = none → s.watchCause x = 0 → s.isF F.pwrWatchCfg_scanEn 0 0 = true → due ≠ [] →
      exec (.watchPeriodWake x false due) s = .next ((s.watchWake.watchPower due).watchScans x (.watchPeriodWake x false due) (due.length + 1))))

/-- LIMITER_ESTIMATE, THERMAL_THROTTLE, THROTTLE_RELEASE, THERMAL_CUT, THERMAL_CUT_RECOVER (R456, R457): the estimate is kept in POWER_W and a value over the
limit lowers; a tile at 100 degrees is throttled, counted and recorded until it is at 95; a core of a throttled tile at 110 is cut until it is at 95
and what the directories list for it has been resolved. -/
def Obligations.ThermalLimits : Prop :=
  (∀ (watts : BitVec 10) (s : State), s.getF F.pwrLimitCtrl_limitW 0 0 < watts.toNat →
    ∃ u : State, u = State.limiterLower { s.setF F.pwrLimitStatus_powerW 0 0 watts.toNat with pw := { s.pw with calmUs := 0 } } ∧
      exec (.limiterEstimate watts) s = .next (u.setF F.pwrLimitStatus_limiting 0 0
        (decide (u.pw.memCap < 10) || u.liveCores.any (fun e => decide (u.pw.limN.get 31 e.1 < u.freeN e.1))).toNat)) ∧
  (∀ (tile : Fin 136) (temp : Nat) (s : State), 100 ≤ temp → s.pw.throttled.contains tile.val = false →
    exec (.thermalThrottle tile temp) s = .next ((((s.setThrottled tile.val (s.pw.throttled ++ [tile.val])).incSat F.pwrLimitStatus_throttleEvents 0 0).raiseSrc
      Src.thermal).record Ev.throttle (srcSlice tile.val 255) (w64 tile.val) (w64 temp))) ∧
  (∀ (tile : Fin 136) (temp : Nat) (s : State), temp < 100 → exec (.thermalThrottle tile temp) s = .next s) ∧
  (∀ (tile : Fin 136) (temp : Nat) (s : State), temp ≤ 95 →
    exec (.throttleRelease tile temp) s = .next (s.setThrottled tile.val (s.pw.throttled.filter (· != tile.val)))) ∧
  (∀ (core : Fin 272) (temp : Nat) (s : State), 110 ≤ temp → s.pw.throttled.contains (core.val / 2) = true → (s.core core.val).cut = false → s.domain core.val ≠ 0 →
    exec (.thermalCut core temp) s = .next ((s.cutCore core.val).record Ev.thermalCut (s.srcCore core.val) (w64 ((s.hartOf core.val).getD 0)) (w64 temp))) ∧
  (∀ (core : Fin 272) (temp : Nat) (s : State), temp ≤ 95 → (s.core core.val).cut = true → 6 ≤ s.usableCeil core.val →
    (∀ u : State, s.bury core.val = (true, u) →
      exec (.thermalCutRecover core temp) s = .next ((((u.setCore core.val {}).setDomain core.val 2).specEff core.val).syncCore core.val)) ∧
    (∀ u : State, s.bury core.val = (false, u) → exec (.thermalCutRecover core temp) s = .next u))

/-- DROOP_GUARD, DROOP_STEP, DROOP_REPLAN, ROLLING_CHECK, ROLLING_CHECK_RETRY, RETIREMENT_RETRY, LIFE_MODEL_TICK, MLG_WAY_RETIRE_WRITE, LEDGER_COMMIT_RETRY,
SURVEY_DEADLINE, SURVEY_DUE_NOTICE, SURVEY_OVERDUE (R464, R466, R468, R469, R474, R475, R478, R482): a droop lowers the core's n, and under the guard is kept in
the Ledger; after a re-plan a core that cannot hold its lowest point is retired; a check runs where the core can be checked, once its hart stops at a boundary
with its loads complete, and is put off where debug holds the hart; a retirement that waits is tried again; parts age each second and service hours count whole hours; a way
newly retired is kept in the Ledger, flushed and no longer looked up, and a write that gives a way back or retires a third changes nothing; the Ledger's held records are written when the flash works. A Survey at its
deadline ends; a due Survey is noted once; an overdue one lowers every plan above 15 to 15. -/
def Obligations.LedgerAndSurveys : Prop :=
  (∀ (core : Fin 272) (slack : Nat) (s u : State), s.droops core.val slack = true → u = (s.droopLower core.val).setF F.mlgCoreStatus_droop core.val 0 1 →
    exec (.droopGuard core slack) s = .next (u.ledgerChange 0x0D core.val (w64 (s.nEff core.val)) (w64 (u.nEff core.val)) slack (u.eqHours core.val)
      (2 * (s.fixedCore core.val).toNat))) ∧
  (∀ (core : Fin 272) (slack : Nat) (s : State), s.droops core.val slack = true → s.pw.droopN.get 31 core.val < 31 →
    exec (.droopStep core slack) s = .next (s.droopLower core.val)) ∧
  (∀ (core : Fin 272) (slack : Nat) (s : State), s.droops core.val slack = false → exec (.droopGuard core slack) s = .next s ∧ exec (.droopStep core slack) s = .next s) ∧
  (∀ (core : Fin 272) (point : Fin 13) (slack : Nat) (s u : State), s.pw.droopN.get 31 core.val ≠ 31 →
    u = State.syncCore { s.replan core.val point.val slack with pw := { (s.replan core.val point.val slack).pw with
      droopN := (s.replan core.val point.val slack).pw.droopN.set 31 core.val 31 } } core.val →
    exec (.droopReplan core point slack) s = .next (if u.pointOk core.val 9 then u else u.retire core.val)) ∧
  (∀ (core : Fin 272) (m : Sweep) (s : State), s.isF F.mlgCtrl_rollEn 0 0 = true → s.checkDeferred core.val = false → s.coreHalted core.val = false →
    exec (.rollingCheck core m) s = .next (s.checkCore core.val m) ∧
    (s.ledger.retry.contains core.val = true → exec (.rollingCheckRetry core m) s = .next (s.checkCore core.val m))) ∧
  (∀ (core : Fin 272) (m : Sweep) (s : State), s.isF F.mlgCtrl_rollEn 0 0 = true → s.checkDeferred core.val = false → s.coreHalted core.val = true →
    s.ledger.retry.contains core.val = false →
    exec (.rollingCheck core m) s = .next { s with ledger := { s.ledger with retry := s.ledger.retry ++ [core.val] } }) ∧
  (∀ (core : Fin 272) (m : Sweep) (s u : State) (h : Nat), s.hartOf core.val = some h → (s.runs h = true ∨ (s.hart h).stopped = true) → u = s.stopHart h →
    ((u.hart h).stopped = true → (u.hart h).infl = [] → s.checkCore core.val m = (u.modHart h (fun x => { x with stopped := false })).check core.val m) ∧
    ((u.hart h).stopped = false ∨ (u.hart h).infl ≠ [] → s.checkCore core.val m = u)) ∧
  (∀ (core : Fin 272) (s : State), s.ledger.waiting.contains core.val = true → exec (.retirementRetry core) s = .next (s.retire core.val)) ∧
  (∀ s u : State, u = s.ageParts →
    (u.ledger.seconds + 1 < 3600 → exec (.lifeModelTick []) s = .next { u with ledger := { u.ledger with seconds := u.ledger.seconds + 1 } }) ∧
    (3600 ≤ u.ledger.seconds + 1 → exec (.lifeModelTick []) s = .next (State.incSat { u with ledger := { u.ledger with seconds := 0 } } F.mlgStatus_serviceHours 0 0))) ∧
  (∀ (w : Issuer) (tile : Fin 136) (v : Word) (s : State), s.reachable .tile tile.val = true → s.issuerWid w = 0 →
    Nat.land (s.getF F.mlgWayRetire_ways tile.val 0) (v.toNat % 4096) = s.getF F.mlgWayRetire_ways tile.val 0 →
    ((List.range 12).filter (fun i => v.toNat % 4096 / 2 ^ i % 2 == 1)).length ≤ 2 → v.toNat % 4096 ≠ s.getF F.mlgWayRetire_ways tile.val 0 →
    exec (.mlgWayRetireWrite w tile v) s = .next ((s.retireWays tile.val (v.toNat % 4096)).accept w (Place.tile.stopOf tile.val))) ∧
  (∀ (w : Issuer) (tile : Fin 136) (v : Word) (s : State), s.reachable .tile tile.val = true → s.issuerWid w = 0 →
    (Nat.land (s.getF F.mlgWayRetire_ways tile.val 0) (v.toNat % 4096) ≠ s.getF F.mlgWayRetire_ways tile.val 0 ∨
      2 < ((List.range 12).filter (fun i => v.toNat % 4096 / 2 ^ i % 2 == 1)).length ∨ v.toNat % 4096 = s.getF F.mlgWayRetire_ways tile.val 0) →
    exec (.mlgWayRetireWrite w tile v) s = .next (s.accept w (Place.tile.stopOf tile.val))) ∧
  (∀ (s : State) (t new : Nat), s.retireWays t new =
    ((((s.ledgerChange 7 t (w64 (s.getF F.mlgWayRetire_ways t 0)) (w64 new) 0 0 0).setF F.mlgWayRetire_ways t 0 new).modSlice t (fun c => { c with
      retiring := c.retiring ||| BitVec.ofNat 12 (new - Nat.land (s.getF F.mlgWayRetire_ways t 0) new) })).retirePump t)) ∧
  (∀ s : State, s.ledger.held ≠ [] → exec (.ledgerCommitRetry true) s = .next s.ledgerCommit) ∧
  (∀ s : State, s.mode = 6 → exec .surveyDeadline s = .next (s.surveyEnd true)) ∧
  (∀ s : State, s.isF F.mlgStatus_surveyDue 0 0 = false → exec .surveyDueNotice s = .next ((s.setF F.mlgStatus_surveyDue 0 0 1).ledgerChange 0x0A 0 0 0 0 0 0)) ∧
  (∀ s : State, s.isF F.mlgStatus_surveyDue 0 0 = true → exec .surveyDueNotice s = .next s) ∧
  (∀ s : State, exec .surveyOverdue s = .next ((List.range 272).foldl (fun s c => if 15 < s.getF F.mlgCoreStatus_nPlan c 0 then s.setPlan c 15 else s) s))

/-- ARRAY_ERROR_DETECTED, ANNALS_EVENT, RATE_BUCKET_REFILL, ANNALS_COMMIT, ANNALS_COMMIT_RETRY, ANNALS_THAW, ANNALS_FREEZE_TIMEOUT (R426, R484, R498, R501,
R502): an L1I sector is dropped and the error corrected; an uncorrectable error of a clean line drops it, of a dirty line poisons its data; a corrected LLC
error is recorded and counts against its way, an uncorrectable one of a dirty or pinned line poisons it, and deeds that are lost are known as bad; one of an LLC tag or of
the directory is fatal. An event is recorded if its bucket allows, else counted as
suppressed; a bucket regains one; staged records are committed, again while the archive is not good; the thaw of an empty hold queue is recorded; a freeze that
times out ends. -/
def Obligations.ArrayErrorsAndAnnals : Prop :=
  (∀ (c : Fin 272) (sec : BitVec 46) (s : State), exec (.arrayErrorDetected (.l1i c sec)) s =
    .next ((s.modCore c.val (fun k => { k with l1i := k.l1i.filter (· != sec.toNat) })).coreCorrected c.val sec.toNat 1)) ∧
  (∀ (c : Fin 272) (sec : BitVec 46) (l2 : Bool) (s : State), exec (.arrayErrorDetected (.core c sec l2 false)) s =
    .next (s.coreCorrected c.val sec.toNat (if l2 then 3 else 2))) ∧
  (∀ (c : Fin 272) (sec : BitVec 46) (l2 : Bool) (s : State), (s.cline c.val sec.toNat).st = .s ∨ (s.cline c.val sec.toNat).st = .e →
    exec (.arrayErrorDetected (.core c sec l2 true)) s = .next (((s.closeWindow c.val sec.toNat).evictLine c.val sec.toNat false).coreCorrected c.val sec.toNat (if l2 then 3 else 2))) ∧
  (∀ (c : Fin 272) (sec : BitVec 46) (l2 : Bool) (s : State), (s.cline c.val sec.toNat).st = .m ∨ (s.cline c.val sec.toNat).st = .o →
    exec (.arrayErrorDetected (.core c sec l2 true)) s = .next ((s.setCline c.val sec.toNat { s.cline c.val sec.toNat with poison := true }).errorEvent .core c.val
      { sev := .ued, code := Ev.sectorPoisoned, addr := some (sec.toNat * 64) } (s.srcCore c.val) (w64 (sec.toNat * 64)) 1)) ∧
  (∀ (t : Fin 136) (sec : BitVec 46) (s : State) (k way : Nat) (l : LlcLine), s.llcFind t.val (sec.toNat / 2) = some (k, way, l) → l.valid (sec.toNat % 2) = true →
    exec (.arrayErrorDetected (.llc t sec false)) s = .next ((s.errorEvent .tile t.val { sev := .ce, code := Ev.llcCorrected, addr := some (sec.toNat * 64) }
      (srcSlice t.val 255) (w64 (sec.toNat * 64)) (w64 way)).countErr (t.val * 16 + way))) ∧
  (∀ (t : Fin 136) (sec : BitVec 46) (s : State) (k way : Nat) (l : LlcLine), s.llcFind t.val (sec.toNat / 2) = some (k, way, l) → l.valid (sec.toNat % 2) = true →
    (l.dirty (sec.toNat % 2) || l.pinned) = true →
    exec (.arrayErrorDetected (.llc t sec true)) s = .next ((s.setLlc k (some (l.put (sec.toNat % 2) true (l.dirty (sec.toNat % 2)) (l.data (sec.toNat % 2)) true))).errorEvent
      .tile t.val { sev := .ued, code := Ev.sectorPoisoned, addr := some (sec.toNat * 64) } (srcSlice t.val 255) (w64 (sec.toNat * 64)) 2)) ∧
  (∀ (g : BitVec 36) (s : State), Gives (.arrayErrorDetected (.deeds g)) s (fun t => ∀ i, i < 16 → t.deedBad.contains (16 * g.toNat + i) = true)) ∧
  (∀ (t : Fin 136) (s : State),
    exec (.arrayErrorDetected (.llcTag t)) s = .next ((s.rasError .tile t.val s.annals.nextSeq { sev := .uec, code := Ev.fatal, unit := 2 }).fatal Fatal.llcTag) ∧
    exec (.arrayErrorDetected (.directory t)) s = .next ((s.rasError .tile t.val s.annals.nextSeq { sev := .uec, code := Ev.fatal, unit := 2 }).fatal Fatal.directory)) ∧
  (∀ (code : Fin 1024) (src : Source) (d0 d1 : Word) (s : State) (sev : Nat) (lim : Option (Nat × Nat)), evInfo code.val = some (sev, lim) →
    (s.bucketOpen code.val sev lim.isSome = false → exec (.annalsEvent code src d0 d1) s = .next (s.incSat F.anlRate_suppressed 0 code.val)) ∧
    (s.bucketOpen code.val sev lim.isSome = true → lim = none → exec (.annalsEvent code src d0 d1) s = .next (s.writeRec code.val sev src d0 d1 false))) ∧
  (∀ (code : Fin 1024) (s : State), Gives (.rateBucketRefill code) s (fun t => t.annals.spent.get 0 code.val = s.annals.spent.get 0 code.val - 1 ∧ t.regs = s.regs ∧
    t.mem = s.mem ∧ t.annals.staging = s.annals.staging)) ∧
  (∀ (works : Bool) (s : State), exec (.annalsCommit works) s = .next (s.annCommit works) ∧
    (s.isF F.anlStatus_archiveOk 0 0 = false → exec (.annalsCommitRetry works) s = .next (s.annCommit works))) ∧
  (∀ s : State, s.annals.thaw = true → s.annals.freezers = [] → s.annals.held = [] →
    exec .annalsThaw s = .next (State.record (State.annSync { s with annals := { s.annals with thaw := false, held := [], heldTotal := 0, droppedFrozen := 0 } })
      Ev.annalsThaw srcSvc (w64 s.annals.heldTotal) (w64 s.annals.droppedFrozen))) ∧
  (∀ (t : Fin 67) (s : State), exec (.annalsFreezeTimeout t) s = .next (s.endFreeze t.val))

/-- PMU_BLOCK_CLEAR, FOLIO_CTRL_WRITE, FOLIO_EDGE (R515, R518, R519): a block's counters and the folio are controlled by the Keeper or the control world; a late
edge, and one that finds the record before it incomplete, is counted as skipped; an edge with the folio off does nothing; an edge in time latches the selected counters and
begins its record, all ones in the header first, then the blocks of every stop; with the blocks written, the header follows, and SEQ advances once it is answered. -/
def Obligations.PerformanceMonitors : Prop :=
  (∀ (w : Issuer) (b : PmuBlock) (v : Word) (s : State), s.reachable b.at.1 b.at.2 = true → (s.issuerWid w = 0 ∨ s.issuerWid w = 2) →
    exec (.pmuBlockClear w b v) s = .next ((s.pmuBlockWrite b.at.1 b.at.2 v).accept w (b.at.1.stopOf b.at.2))) ∧
  (∀ (w : Issuer) (v : Word) (s : State), (s.issuerWid w = 0 ∨ s.issuerWid w = 2) →
    exec (.folioCtrlWrite w v) s = .next ((s.folioWrite .pmuFolioCtrl (s.issuerWid w) v allBytes).accept w svcStop)) ∧
  (∀ (late : Bool) (s : State), s.works.any (fun r => r.cmd == .folioEdge false && r.next.isNone) = false → s.isF F.pmuFolioCtrl_enable 0 0 = true →
    (late = true ∨ s.folio.record ≠ none) →
    exec (.folioEdge late) s = .next (State.incSat { s with folio := { s.folio with skipped := s.folio.skipped + 1 } } F.pmuFolioStatus_skipped 0 0)) ∧
  (∀ (late : Bool) (s : State), s.works.any (fun r => r.cmd == .folioEdge false && r.next.isNone) = false → s.isF F.pmuFolioCtrl_enable 0 0 = false →
    exec (.folioEdge late) s = .next s) ∧
  (∀ (s u : State) (g k pa : Nat) (r : FolioRec), s.works.any (fun r => r.cmd == .folioEdge false && r.next.isNone) = false →
    s.isF F.pmuFolioCtrl_enable 0 0 = true → s.folio.record = none → g = s.getF F.pmuFolioCtrl_groups 0 0 → k = s.getF F.pmuFolioStatus_seq 0 0 + 1 →
    pa = s.getF F.pmuFolioBuf_base 0 0 * 4096 + (k - 1) % s.getF F.pmuFolioRing_entries 0 0 * recordSize g → u = s.folioLatch g →
    r = { seq := k, wid := s.getF F.pmuFolioCtrl_owner 0 0, pa := pa, blocks := u.folioBlocks g pa,
          header := [w64 (k % 2 ^ 32), w64 s.mtime, w64 (g + s.folio.skipped % 2 ^ 32 * 2 ^ 16), w64 (recordSize g)] } →
    exec (.folioEdge false) s = .next (State.folioGo { u with folio := { u.folio with record := some r, skipped := 0 } })) ∧
  (∀ (late : Bool) (s : State), s.works.any (fun r => r.cmd == .folioEdge false && r.next.isNone) = true → exec (.folioEdge late) s = .next s.folioGo) ∧
  (∀ (s : State) (r : FolioRec), s.works.any (fun r => r.cmd == .folioEdge false && r.next.isNone) = true → s.folio.record = some r → r.opened = true → r.blocks = [] →
    Served (.folioEdge false) s s svcStop 3 State.folioClose) ∧
  (∀ (s u : State) (r x : FolioRec), s.folio.record = some r → r.failed = false → u = s.folioPut r.wid r.pa 64 r.header → u.folio.record = some x →
    (x.failed = false → s.folioClose = State.setF { u with folio := { u.folio with record := none } } F.pmuFolioStatus_seq 0 0 r.seq) ∧
    (x.failed = true → s.folioClose = { u with folio := { u.folio with record := none } }))

/-- A step is the command at the front of the queue, run with the queue's rest in the queue: commands are served first in, first out. On an empty queue a microsecond of
the block's clocks passes, which is the model's choice (assumption 4). -/
def Obligations.StepRunsFront : Prop :=
  (∀ (c : Instr) (rest : List Instr) (s : State), s.pending = c :: rest → step s = exec c { s with pending := rest }) ∧
  (∀ s : State, s.pending = [] → step s = .next s.tick)

/-- The state at reset (R9, R40, R98, R314, R390): no command waits and none is under way, no packet is in the mesh, no granule of memory is listed, no hart runs, mtime and every
world's class are 0, class 0 owns every way, key slots 0 to 2 hold live keys of worlds 0 to 2 and slot 3 none, and the fuse array meets its invariant. -/
def Obligations.ResetState : Prop :=
  State.reset.pending = [] ∧ State.reset.works = [] ∧ State.reset.net = [] ∧ State.reset.outq = [] ∧ Memory.wf State.reset.mem = true ∧ State.reset.mem = [] ∧ (∀ h, h < 256 → State.reset.runs h = false) ∧
  State.reset.mtime = 0 ∧ (∀ wid, wid < 64 → State.reset.classOf wid = 0) ∧ State.reset.getF F.llcShelf_llcWays 0 0 = 0xFFF ∧
  State.reset.getF F.llcShelf_dirWays 0 0 = 0xFFFF ∧
  (∀ k, k < 3 → State.reset.getF F.wldKeySlot_owner 0 k = k ∧ State.reset.isF F.wldKeySlot_valid 0 k = true) ∧ State.reset.isF F.wldKeySlot_valid 0 3 = false ∧
  State.reset.fuses.Sound

/-- LLC_WID_CLASS_k (R98): where it is, its fields, the class that a world is in while shelves have effect (R104), and what it holds after reset. -/
def Obligations.WidClassRegister : Prop :=
  (∀ k, k < 4 → locate svcStop (0x304080 + 8 * k) = some (.llcWidClass, 0, k)) ∧
  RegName.fields .llcWidClass = (List.range 16).map F.llcWidClass_class ∧
  (∀ i, i < 16 → (F.llcWidClass_class i).lsb = 4 * i ∧ (F.llcWidClass_class i).width = 4 ∧ (F.llcWidClass_class i).ty = .rw ∧ (F.llcWidClass_class i).reset = 0) ∧
  (∀ (s : State) (k i : Nat), s.shelved = true → k < 4 → i < 16 → s.classOf (16 * k + i) = s.getF (F.llcWidClass_class i) 0 k) ∧
  (∀ wid, wid < 64 → State.reset.classOf wid = 0) ∧ State.reset.getF F.llcShelf_llcWays 0 0 = 2 ^ 12 - 1 ∧ State.reset.getF F.llcShelf_dirWays 0 0 = 2 ^ 16 - 1

/-- What a software write leaves in a register's fields (R12, with the field types of R9): a field of type RW, RWS or an unlocked RWL takes a legal encoding and keeps its
previous value under a reserved one, whatever the write puts in the other fields; every other type acts as R9 says; no other register changes. -/
def Obligations.FieldWrites : Prop :=
  ∀ (s : State) (r : RegName) (u i : Nat) (v : Word) (f : Fld), f ∈ r.fields →
    (f.ty = .rw ∨ f.ty = .rws ∨ (f.ty = .rwl ∧ s.locked r u = false) →
      (f.legal.ok (bitsOf v f.lsb f.width) = true → (s.writeReg r u i v allBytes).getF f u i = bitsOf v f.lsb f.width) ∧
      (f.legal.ok (bitsOf v f.lsb f.width) = false → (s.writeReg r u i v allBytes).getF f u i = s.getF f u i)) ∧
    (f.ty = .ro ∨ (f.ty = .rwl ∧ s.locked r u = true) → (s.writeReg r u i v allBytes).getF f u i = s.getF f u i) ∧
    (f.ty = .w1c → ∀ b, ((s.writeReg r u i v allBytes).getF f u i).testBit b = ((s.getF f u i).testBit b && !(bitsOf v f.lsb f.width).testBit b)) ∧
    (f.ty = .w1s ∨ f.ty = .lock → ∀ b, ((s.writeReg r u i v allBytes).getF f u i).testBit b = ((s.getF f u i).testBit b || (bitsOf v f.lsb f.width).testBit b)) ∧
    (f.ty = .wo → bitsOf ((s.writeReg r u i v allBytes).readReg r u i) f.lsb f.width = 0) ∧
    (∀ r' u' i', regKey r' u' i' ≠ regKey r u i → (s.writeReg r u i v allBytes).regWord r' u' i' = s.regWord r' u' i')

/-- EVICT_CLEAN (R137, R128): on arrival the requester's listing goes, whether or not the sector is BUSY: an owner leaves its sharers in DS, the owner of a DX entry and the
last holder leave the entry empty, which is freed unless a transaction is open; a requester that is not listed changes nothing. Nothing is queued, retried or answered.
`u` is the state with the packet ejected, which changes the network interface alone. -/
def Obligations.EvictCleanAtHome : Prop :=
  ∀ (p : Packet) (s u : State) (n a : Nat), s.eject p = some u → n = u.tileOf p → agentId p.srcN p.epN = some a →
    Gives (.evictClean p) s (fun t => t.outq = s.outq ∧ t.reqs = s.reqs ∧ t.slices = s.slices ∧ t.regs = u.regs ∧ t.mem = s.mem ∧ t.llc = s.llc ∧
      (u.dirFind n p.sec = none → t = u) ∧
      (∀ k e, u.dirFind n p.sec = some (k, e) →
        (∀ j, j ≠ k → t.dir.get none j = s.dir.get none j) ∧
        (u.listed e a = false → t = u) ∧
        (e.st = .dx → e.owner = a → e.fmt = false → t.dir.get none k = if e.busy then some { e with st := .ds, owner := 0, ptrs := [] } else none) ∧
        (e.st ≠ .ds → e.st ≠ .dx → e.owner = a → t.dir.get none k = if e.anyS || e.busy then some { e with st := .ds, owner := 0 } else none) ∧
        (e.st ≠ .ds → e.owner ≠ a → e.fmt = false → a ∈ e.ptrs → t.dir.get none k = some { e with ptrs := e.ptrs.erase a }) ∧
        (e.st = .ds → e.fmt = false → a ∈ e.ptrs → t.dir.get none k = if e.ptrs.erase a = [] ∧ e.busy = false then none else some { e with ptrs := e.ptrs.erase a })))

/-- DECLARE (R236): it passes when every class code equals the agent's configured class; what arrived is recorded whether it passed or failed; one received after OPEN is a
breach that quarantines the annex. -/
def Obligations.DeclareChecks : Prop :=
  ∀ (port : Fin 6) (classes : BitVec 64) (vendor device : BitVec 16) (rev : BitVec 8) (s : State),
    Gives (.declareMsg port classes vendor device rev) s (fun t =>
      t.regWord .axgDeclared port.val 0 = classes ∧
      t.regWord .axgAnnexId port.val 0 = w64 (vendor.toNat + device.toNat * 2 ^ 16 + rev.toNat * 2 ^ 32) ∧
      (s.linkState port.val = LinkState.init → (s.link port.val).gotInit = true →
        (t.linkState port.val = LinkState.ready ↔ ∀ j, j < 16 → classes.toNat / 16 ^ j % 16 = s.getF F.axgAgentCfg_class port.val j)) ∧
      (s.linkState port.val = LinkState.open_ → s.isF F.axgQstatus_portQuarantined port.val 0 = false →
        t.linkState port.val = LinkState.quarantined ∧ t.isF F.axgQstatus_portQuarantined port.val 0 = true))

/-- HART_LOAD, HART_STORE (R37, R75): a misaligned access of which a part goes to a region of type IO is put in flight with the load or the store/AMO access fault, where
no trigger, translation fault or absent address comes first. `u` is the state in which its instruction has been fetched. -/
def Obligations.MisalignedIo : Prop :=
  ∀ (h : BitVec 8) (a0 a : Access) (s u : State) (st : Bool) (k : OpKind) (acc : Nat), a = s.translated h.toNat a0 st →
    k = (if st then (if region a.x0.pa.toNat = .control then .ioStore else .store) else .load) → acc = (if st then Exc.storeAccess else Exc.loadAccess) →
    Executes s h.toNat a k u → misaligned a = true → u.accessTrigger h.toNat a acc = none →
    (∀ p, p ∈ accessParts a → p.2.1.fault = none ∧ p.2.1.poisonWalk = false ∧ u.addrExists (u.physCore h.toNat) p.2.1.pa.toNat = true) →
    (∃ p, p ∈ accessParts a ∧ u.partType p.2.1 = .io) →
    ∃ tv, exec (if st then .hartStore h a0 else .hartLoad h a0) s =
      .next (u.enter h.toNat a (u.newInfl h.toNat k a st (some { cause := acc, tval := tv, tinst := a.tinst })))

/-- ANNALS_NOTIFY (R505): records at or above SEVERITY count; the one that makes the count COUNT raises source 39 and restarts the count; a new ANNALS_NOTIFY takes the place of
the old one, and COUNT = 0 disables it. -/
def Obligations.AnnalsNotifyCounts : Prop :=
  (∀ (s : State) (sev : Nat), s.annals.notifyCount = 0 ∨ sev < s.annals.notifySev → s.annNotify sev = s) ∧
  (∀ (s : State) (sev : Nat), s.annals.notifySev ≤ sev → s.annals.notifySeen + 1 < s.annals.notifyCount →
    s.annNotify sev = { s with annals := { s.annals with notifySeen := s.annals.notifySeen + 1 } }) ∧
  (∀ (s : State) (sev : Nat), s.annals.notifyCount ≠ 0 → s.annals.notifySev ≤ sev → s.annals.notifyCount ≤ s.annals.notifySeen + 1 →
    s.annNotify sev = State.raiseSrc { s with annals := { s.annals with notifySeen := 0 } } 39) ∧
  (∀ (s : State) (code sev : Nat) (src : Source) (d0 d1 : Word) (force : Bool),
    (∃ u : State, u.annals.notifySev = s.annals.notifySev ∧ u.annals.notifyCount = s.annals.notifyCount ∧ u.annals.notifySeen = s.annals.notifySeen ∧
      u.annals.nextSeq = s.annals.nextSeq + 1 ∧ s.writeRec code sev src d0 d1 force = (u.annNotify sev).annSync) ∨
    s.writeRec code sev src d0 d1 force = s.annDrop.annSync) ∧
  (∀ (s : State) (c : Slip) (e : SlipEnv), (s.opAnnalsNotify c e).2.annals =
    { s.annals with notifySev := par c.params 0 1, notifyCount := par c.params 2 2, notifySeen := 0 })

/-- LINK_PARITY_ERROR (R191): a mismatch on payload wires poisons the sector that they carry, the first or the second of the packet, and is recorded; a mismatch on a header
group is a fatal error, which is recorded. -/
def Obligations.ParityMismatch : Prop :=
  (∀ (stop : Fin 160) (p : Packet) (second : Bool) (s u : State), s.net.any (fun f => f.pkt == p) = true →
    u = { s with net := s.net.map (fun f => if f.pkt == p then { f with pkt := if second then { p with poison2 := true } else { p with poison := true } } else f) } →
    exec (.linkParityError stop p false second) s = .next (u.errorEvent .stop stop.val { sev := .ued, code := Ev.sectorPoisoned, addr := some ((p.sec + second.toNat) * 64) }
      (srcStop stop.val 3 p.widN) (w64 ((p.sec + second.toNat) * 64)) 4)) ∧
  (∀ (stop : Fin 160) (p : Packet) (second : Bool) (s u : State), u = s.rasError .stop stop.val s.annals.nextSeq { sev := .uec, code := Ev.fatal, unit := 3 } →
    exec (.linkParityError stop p true second) s = .next (u.fatal Fatal.meshHeader)) ∧
  (∀ s : State, ∃ u : State, u.annals = s.annals ∧ u.getF F.anlStatus_fatalCause 0 0 =
      (if s.getF F.anlStatus_fatalCause 0 0 = 0 then Fatal.meshHeader else s.getF F.anlStatus_fatalCause 0 0) ∧
    s.fatal Fatal.meshHeader = (u.writeRec Ev.fatal 7 srcSvc (w64 Fatal.meshHeader) (w64 s.mtime) true).enterQuarantine)

/-- A trap taken (R31, R34, R64): to M mode unless delegated, else to HS mode; the pc, the cause and the value are saved, the interrupt enable and the mode are kept in mstatus,
interrupts are off, what was in flight is gone, the further registers that the trap gives no value are 0 and the pc is the vector's. Every other hart, every register and every byte of memory is as before. -/
def Obligations.TrapEntry : Prop :=
  ∀ (s : State) (h cause : Nat) (irq : Bool) (tval epc : Word),
    (∀ n, n ≠ h → (s.takeTrap h cause irq tval epc).hart n = s.hart n) ∧ (s.takeTrap h cause irq tval epc).regs = s.regs ∧ (s.takeTrap h cause irq tval epc).mem = s.mem ∧
    ((s.takeTrap h cause irq tval epc).hart h).infl = [] ∧ ((s.takeTrap h cause irq tval epc).hart h).wait = .run ∧
    ((s.hart h).priv = .m ∨ bitsOf (s.csr h (if irq then 0x303 else 0x302)) cause 1 = 0 →
      ∃ t, t = s.takeTrap h cause irq tval epc ∧ t.csr h 0x341 = epc ∧ t.csr h 0x342 = w64 (cause + (if irq then 2 ^ 63 else 0)) ∧ t.csr h 0x343 = tval ∧
        t.csr h 0x34B = 0 ∧ t.csr h 0x34A = 0 ∧
        bitsOf (t.csr h 0x300) 7 1 = bitsOf (s.csr h 0x300) 3 1 ∧ bitsOf (t.csr h 0x300) 3 1 = 0 ∧ bitsOf (t.csr h 0x300) 11 2 = (s.hart h).priv.code ∧
        bitsOf (t.csr h 0x300) 39 1 = (s.hart h).virt.toNat ∧ (t.hart h).priv = .m ∧ (t.hart h).virt = false ∧
        (t.hart h).pc = trapVector (s.csr h 0x305) cause irq) ∧
    ((s.hart h).priv ≠ .m → (s.hart h).virt = false → bitsOf (s.csr h (if irq then 0x303 else 0x302)) cause 1 = 1 →
      ∃ t, t = s.takeTrap h cause irq tval epc ∧ t.csr h 0x141 = epc ∧ t.csr h 0x142 = w64 (cause + (if irq then 2 ^ 63 else 0)) ∧ t.csr h 0x143 = tval ∧
        t.csr h 0x643 = 0 ∧ t.csr h 0x64A = 0 ∧
        bitsOf (t.csr h 0x300) 5 1 = bitsOf (s.csr h 0x300) 1 1 ∧ bitsOf (t.csr h 0x300) 1 1 = 0 ∧
        bitsOf (t.csr h 0x300) 8 1 = (if (s.hart h).priv.code = 0 then 0 else 1) ∧ (t.hart h).priv = .s ∧ (t.hart h).virt = false ∧
        (t.hart h).pc = trapVector (s.csr h 0x105) cause irq)

/-- A hart released (R39, R394): machine mode, no virtualisation, its pc at the address given, a0 its number and a1 the value given, every other integer register 0, every CSR at
its value of R39's table, where mip shows the timer's compare alone, no doorbell and no reservation. Every other hart is as before. -/
def Obligations.HartRelease : Prop :=
  (∀ (s : State) (h : Nat) (entry a1 : Word), s.isF F.mlgCoreStatus_retired (s.physCore h) 0 = false →
    ∃ t, t = s.releaseHart h entry a1 ∧ (t.hart h).pc = entry ∧ (t.hart h).priv = .m ∧ (t.hart h).virt = false ∧ (t.hart h).xreg 10 = w64 h ∧ (t.hart h).xreg 11 = a1 ∧
      (∀ r, r % 32 ≠ 10 → r % 32 ≠ 11 → (t.hart h).xreg r = 0) ∧ (∀ n, n ≠ 0x344 → t.csr h n = csrReset h n) ∧ t.csrWord h 0x344 = 0 ∧ (t.hart h).inbox = [] ∧ (t.hart h).resv = none ∧
      (t.hart h).f = [] ∧ (t.hart h).v = [] ∧ t.getF F.coreHartMap_state 0 h = 1 ∧ (∀ n, n ≠ h → t.hart n = s.hart n)) ∧
  (∀ h, csrReset h 0x300 = 0x0000000A00000000 ∧ csrReset h 0xC21 = 0x8000000000000000 ∧ csrReset h 0x14D = 0xFFFFFFFFFFFFFFFF ∧ csrReset h 0x24D = 0xFFFFFFFFFFFFFFFF) ∧
  (∀ h n, n ∈ [0x305, 0x342, 0x341, 0x343, 0x340, 0x304, 0x344, 0x302, 0x303, 0x602, 0x603, 0x306, 0x106, 0x320, 0x747, 0x180, 0x280, 0x680, 0x30A, 0x10A, 0x60A, 0x003,
    0x008, 0x009, 0x00A, 0xC20, 0x323, 0x324, 0x325, 0x326, 0x327, 0x328, 0x329, 0x32A, 0xB00, 0xB02] → csrReset h n = 0)

/-- The register writes that only WID 0 may make (R292, R26, R8): from another world, where the block can be reached, the access writes nothing and is refused with
PERMISSION_ERR. What a refusal is: a hart takes a store access fault, another agent receives ErrResp with origin 6, and the refusal is recorded. -/
def Obligations.KeeperRefusals : Prop :=
  (∀ (w : Issuer) (s : State) (v : Word) (d : BitVec 9) (tm : BitVec 17) (rw : BitVec 6) (slot : BitVec 8) (owner : BitVec 6) (k : Fin 4) (c : Instr), s.issuerWid w ≠ 0 →
    c ∈ [.globalFence w, .epochSwitch w, .meterCommitRequest w, .domainOffRequest w d rw, .domainOnRequest w d rw, .domainTimerRequest w d rw tm, .curatorRunWrite w v,
      .keeperWdtKick w v, .coreMtimeWrite w v, .deedTableEnable w v,
      .generate w slot owner, .destroy w slot, .wldGpioWidWrite w k v, .wldDebugInvWrite w v, .wldDebugNoninvWrite w v] →
    exec c s = .next (s.refuse w svcStop true Err.permission)) ∧
  (∀ (w : Issuer) (s : State) (pl : Place) (u : Nat) (c : Instr), s.issuerWid w ≠ 0 → s.reachable pl u = true →
    ((∃ (p : Fin 6) (v : Word) (b : Bool) (j : Fin 16), pl = .ax ∧ u = p.val ∧ c ∈ [.portBringup w p, .axgOpenWrite w p, .moduleRecal w p, .axgAttestedWrite w p b, .axgGrantWrite w p j v,
        .windowCommit w p, .portQuarantineWrite w p, .portDisable w p]) ∨
      (∃ (m : Fin 12) (v : Word), pl = .mp ∧ u = m.val ∧ c ∈ [.mpLaneRetireWrite w m v, .mpTrainStart w m]) ∨
      (∃ (st : Fin 160) (b : Bool) (d : BitVec 8) (np : Fin 8) (v : Word), pl = .stop ∧ u = st.val ∧ c ∈ [.niRouteWrite w st b d v, .rtSpareWrite w st np v]) ∨
      (∃ (hp : Fin 2) (rp : Fin 4) (v : Word), pl = .hp ∧ u = hp.val ∧ c ∈ [.hpPortEnable w hp v, .freeze w hp rp v, .releaseFreeze w hp rp v]) ∨
      (∃ (de : Fin 2) (ch : Fin 32) (v : Word), pl = .de ∧ u = de.val ∧ c = .deChCfgWrite w de ch v) ∨
      (∃ (t : Fin 136) (v : Word), pl = .tile ∧ u = t.val ∧ c = .mlgWayRetireWrite w t v)) →
    exec c s = .next (s.refuse w (pl.stopOf u) true Err.permission)) ∧
  (∀ (w : Issuer) (s : State) (st : Nat) (h : BitVec 8), w.hart = some h →
    s.refuse w st true Err.permission = (s.refusedReg st (s.issuerWid w) w.pa.toNat).trap h.toNat Exc.storeAccess false w.va
      ((s.refusedReg st (s.issuerWid w) w.pa.toNat).hart h.toNat).pc) ∧
  (∀ (w : Issuer) (s : State) (st : Nat), w.hart = none →
    ∃ t, t = s.refuse w st true Err.permission ∧ t.mem = s.mem ∧ t.harts = s.harts ∧
      t.outq = s.outq ++ [issuerPacket w st Opc.errResp (errAttr Err.permission Origin.register)])

/-- No command touches the commands that wait behind it: whatever a command does, the queue it leaves is the queue it found. -/
def Obligations.QueueKept : Prop := ∀ (c : Instr) (s t : State), exec c s = .next t → t.pending = s.pending

/-- The fuse array over one step of the block, whatever the command (R390, R542): what wafer test fuses never changes, VALID and revocation bits are only set, the SVN counters
and the hash bits only grow, and an owner that has a live pair keeps one. -/
def Obligations.FusesOnlyGrow : Prop := ∀ s t : State, step s = .next t → FuseStep s.fuses t.fuses

/-- The invariant of the fuse array (R390): an owner one of whose pairs is revoked still has a pair that is VALID and unrevoked, and every step keeps it so. -/
def Obligations.FuseArraySound : Prop := ∀ s t : State, s.fuses.Sound → step s = .next t → t.fuses.Sound
end

