-- ==== Sys2Proof/Laws/Base1.lean ====
section
/-! SUPPORT. What no operation changes but those that R390 and the queue name: the fuse array and the waiting commands. One lemma for each operation of Ops, Ras, Pmu, Mesh, Worlds, Home, HomeSteps, Mem, Detect, CoreOps. -/
namespace Sys2Proof.Laws

open Sys2Proof.Machine

set_option linter.unusedSimpArgs false

/-- The fuse array and the queue. -/
def base (s : State) : Fuses × List Instr := (s.fuses, s.pending)

/-- The same of an outcome; `d` where it is no next state. -/
def obase (d : Fuses × List Instr) : Host.Outcome State Fault Refusal → Fuses × List Instr
  | .next s => base s
  | _ => d

/-- The same of an optional state. -/
def mbase (d : Fuses × List Instr) : Option State → Fuses × List Instr
  | some s => base s
  | none => d

/-- The same of an optional pair. -/
def pbase {A : Type} (d : Fuses × List Instr) : Option (A × State) → Fuses × List Instr
  | some p => base p.2
  | none => d

/-- An update of any other field. -/
theorem base_mk (s : State) (a1 : Nat) (a3 : Map Word) (a4 : Map Hart) (a5 : Map Core) (a6 : Map CLine) (a7 : Map (Option DirEnt)) (a8 : Map (Option
    LlcLine)) (a9 : Map Slice) (a10 : Map Ni) (a11 : List Packet) (a12 : List Flight) (a13 : Map (Option Req)) (a14 : List Packet) (a15 : List Run)
    (a16 : Cursor) (a17 : Option Fence) (a18 : Nat) (a19 : Nat) (a20 : Word) (a21 : List Issuer) (a22 : List Issuer) (a23 : BitVec 12) (a24 : BitVec
    16) (a25 : Map Granule) (a26 : Map Mp) (a27 : Map Word) (a28 : List Nat) (a29 : Map (List Nat)) (a30 : Map (Option DeedCmd)) (a31 : Nat) (a32 :
    Map Nat) (a33 : Nat) (a34 : Option (Nat × Nat × Nat)) (a35 : List BellMsg) (a36 : List (Nat × Nat)) (a37 : Map AplicSrc) (a38 : Word) (a39 : Map
    Pin) (a40 : Map Link) (a41 : Map Gate) (a42 : Annals) (a43 : Map Engine) (a44 : Map Hp) (a45 : Pf) (a46 : Map Vf) (a47 : Map Chan) (a48 : Power)
    (a49 : Ledger) (a50 : Map (BitVec 8)) (a51 : Keeper) (a52 : Curator) (a53 : Slips) (a54 : Folios) (a55 : Dm) (a56 : Nat) :
    base (State.mk s.pending a1 s.fuses a3 a4 a5 a6 a7 a8 a9 a10 a11 a12 a13 a14 a15 a16 a17 a18 a19 a20 a21 a22 a23 a24 a25 a26 a27 a28 a29 a30 a31
    a32 a33 a34 a35 a36 a37 a38 a39 a40 a41 a42 a43 a44 a45 a46 a47 a48 a49 a50 a51 a52 a53 a54 a55 a56) = base s := by cases s; rfl


theorem base_ite (c : Prop) [Decidable c] (a b : State) : base (if c then a else b) = if c then base a else base b := by split <;> rfl
theorem snd_ite {A : Type} (c : Prop) [Decidable c] (a b : A × State) : (if c then a else b).2 = if c then a.2 else b.2 := by split <;> rfl
theorem snd_ite2 {A B : Type} (c : Prop) [Decidable c] (a b : A × B × State) : (if c then a else b).2 = if c then a.2 else b.2 := by split <;> rfl
theorem snd_ite3 {A B C : Type} (c : Prop) [Decidable c] (a b : A × B × C × State) : (if c then a else b).2 = if c then a.2 else b.2 := by split <;> rfl
theorem obase_next (d : Fuses × List Instr) (s : State) : obase d (.next s) = base s := rfl
theorem obase_ite (d : Fuses × List Instr) (c : Prop) [Decidable c] (a b : Host.Outcome State Fault Refusal) :
    obase d (if c then a else b) = if c then obase d a else obase d b := by split <;> rfl
theorem mbase_some (d : Fuses × List Instr) (s : State) : mbase d (some s) = base s := rfl
theorem mbase_none (d : Fuses × List Instr) : mbase d none = d := rfl
theorem mbase_ite (d : Fuses × List Instr) (c : Prop) [Decidable c] (a b : Option State) :
    mbase d (if c then a else b) = if c then mbase d a else mbase d b := by split <;> rfl
theorem pbase_some {A : Type} (d : Fuses × List Instr) (p : A × State) : pbase d (some p) = base p.2 := rfl
theorem pbase_none {A : Type} (d : Fuses × List Instr) : pbase (A := A) d none = d := rfl
theorem pbase_ite {A : Type} (d : Fuses × List Instr) (c : Prop) [Decidable c] (a b : Option (A × State)) :
    pbase d (if c then a else b) = if c then pbase d a else pbase d b := by split <;> rfl

theorem base_foldl {A : Type} (f : State → A → State) (h : ∀ s a, base (f s a) = base s) (l : List A) (s : State) : base (l.foldl f s) = base s := by
  induction l generalizing s with
  | nil => rfl
  | cons a t ih => exact (ih _).trans (h _ _)

theorem base_foldl2 {A B : Type} (f : B × State → A → B × State) (h : ∀ p a, base (f p a).2 = base p.2) (l : List A) (p : B × State) :
    base (l.foldl f p).2 = base p.2 := by
  induction l generalizing p with
  | nil => rfl
  | cons a t ih => exact (ih _).trans (h _ _)

/-- An outcome of an updated state. -/
theorem obase_chain {s t : State} {o : Host.Outcome State Fault Refusal} (h : obase (base t) o = base t) (e : base t = base s) : obase (base s) o = base s :=
  e ▸ h

theorem mbase_bind {s : State} {o : Option State} {f : State → Option State} (ho : mbase (base s) o = base s) (hf : ∀ t, mbase (base t) (f t) = base t) :
    mbase (base s) (o.bind f) = base s := by
  cases o with
  | none => rfl
  | some t => exact (congrArg (fun d => mbase d _) ho).symm.trans ((hf t).trans ho)
theorem base_State_setRegWord : ∀ x0 x1 x2 x3 x4, base (State.setRegWord x0 x1 x2 x3 x4) = base x0 := by
  intros; simp only [State.setRegWord, base_mk]

theorem base_State_setF : ∀ x0 x1 x2 x3 x4, base (State.setF x0 x1 x2 x3 x4) = base x0 := by
  intros; simp only [State.setF, base_State_setRegWord]

theorem base_State_incSat : ∀ x0 x1 x2 x3, base (State.incSat x0 x1 x2 x3) = base x0 := by
  intros; simp only [State.incSat, base_ite, ite_self, base_State_setF]

theorem base_State_incF : ∀ x0 x1 x2 x3, base (State.incF x0 x1 x2 x3) = base x0 := by
  intros; simp only [State.incF, base_State_setF]

theorem base_State_writeReg : ∀ x0 x1 x2 x3 x4 x5, base (State.writeReg x0 x1 x2 x3 x4 x5) = base x0 := by
  intros; simp only [State.writeReg, base_State_setRegWord]

theorem base_State_draw : ∀ x0, base (State.draw x0).2 = base x0 := by
  intros; simp only [State.draw, base_mk]

theorem base_State_setHart : ∀ x0 x1 x2, base (State.setHart x0 x1 x2) = base x0 := by
  intros; simp only [State.setHart, base_mk]

theorem base_State_modHart : ∀ x0 x1 x2, base (State.modHart x0 x1 x2) = base x0 := by
  intros; simp only [State.modHart, base_State_setHart]

theorem base_State_setCore : ∀ x0 x1 x2, base (State.setCore x0 x1 x2) = base x0 := by
  intros; simp only [State.setCore, base_mk]

theorem base_State_modCore : ∀ x0 x1 x2, base (State.modCore x0 x1 x2) = base x0 := by
  intros; simp only [State.modCore, base_State_setCore]

theorem base_State_setCsr : ∀ x0 x1 x2 x3, base (State.setCsr x0 x1 x2 x3) = base x0 := by
  intros; simp only [State.setCsr, base_State_modHart]

theorem base_State_setCsrBits : ∀ x0 x1 x2 x3 x4 x5, base (State.setCsrBits x0 x1 x2 x3 x4 x5) = base x0 := by
  intros; simp only [State.setCsrBits, base_State_setCsr]

theorem base_State_flushPredictors : ∀ x0 x1, base (State.flushPredictors x0 x1) = base x0 := by
  intros; simp only [State.flushPredictors, base_State_modCore]

theorem base_State_predFlush : ∀ x0 x1, base (State.predFlush x0 x1) = base x0 := by
  intros; simp only [State.predFlush, base_ite, ite_self, base_State_flushPredictors]

theorem base_State_takeTrap : ∀ x0 x1 x2 x3 x4 x5, base (State.takeTrap x0 x1 x2 x3 x4 x5) = base x0 := by
  intros; simp only [State.takeTrap, base_ite, ite_self, base_State_modHart, base_State_setCsr, base_State_predFlush]

theorem base_State_raise : ∀ x0 x1 x2 x3 x4, base (State.raise x0 x1 x2 x3 x4) = base x0 := by
  intros; simp only [State.raise, base_State_takeTrap]

theorem base_State_setReq : ∀ x0 x1 x2 x3, base (State.setReq x0 x1 x2 x3) = base x0 := by
  intros; simp only [State.setReq, base_mk]

theorem base_State_send : ∀ x0 x1, base (State.send x0 x1) = base x0 := by
  intros; simp only [State.send, base_mk]

theorem base_State_request : ∀ x0 x1 x2, base (State.request x0 x1 x2).2 = base x0 := by
  intros; simp only [State.request, base_State_send, base_State_setReq]

theorem base_State_setNi : ∀ x0 x1 x2, base (State.setNi x0 x1 x2) = base x0 := by
  intros; simp only [State.setNi, base_mk]

theorem base_State_modNi : ∀ x0 x1 x2, base (State.modNi x0 x1 x2) = base x0 := by
  intros; simp only [State.modNi, base_State_setNi]

theorem base_State_setAplic : ∀ x0 x1 x2, base (State.setAplic x0 x1 x2) = base x0 := by
  intros; simp only [State.setAplic, base_mk]

theorem base_State_raiseSrc : ∀ x0 x1, base (State.raiseSrc x0 x1) = base x0 := by
  intros; simp only [State.raiseSrc, base_ite, ite_self, base_State_setAplic]

theorem base_State_setIrq : ∀ x0 x1 x2 x3, base (State.setIrq x0 x1 x2 x3) = base x0 := by
  intros; simp only [State.setIrq, base_ite, ite_self, base_State_modHart]

theorem base_State_annSync : ∀ x0, base (State.annSync x0) = base x0 := by
  intros; simp only [State.annSync, base_State_setF]

theorem base_State_annDrop : ∀ x0, base (State.annDrop x0) = base x0 := by
  intros; simp only [State.annDrop, base_mk, base_State_incSat]

theorem base_State_annNotify : ∀ x0 x1, base (State.annNotify x0 x1) = base x0 := by
  intros; simp only [State.annNotify, base_mk, base_ite, ite_self, base_State_raiseSrc]

theorem base_State_writeRec : ∀ x0 x1 x2 x3 x4 x5 x6, base (State.writeRec x0 x1 x2 x3 x4 x5 x6) = base x0 := by
  intros; unfold State.writeRec; (try simp only [])
  repeat' (first | with_reducible rfl | (split <;> try simp only [base_mk, base_State_annSync, base_State_annDrop, base_State_annNotify, base_State_setF]))

theorem base_State_record : ∀ x0 x1 x2 x3 x4, base (State.record x0 x1 x2 x3 x4) = base x0 := by
  intros; unfold State.record; (try simp only [])
  repeat' (first | with_reducible rfl | (split <;> try simp only [base_mk, base_ite, ite_self, base_State_writeRec, base_State_incSat]))

theorem base_State_countErr : ∀ x0 x1, base (State.countErr x0 x1) = base x0 := by
  intros; simp only [State.countErr, base_mk, base_ite, ite_self]

theorem base_State_noteEyes : ∀ x0 x1 x2, base (State.noteEyes x0 x1 x2) = base x0 := by
  intros; simp only [State.noteEyes, base_mk]

theorem base_ok : ∀ x0, obase (base x0) (ok x0) = base x0 := by
  intros; simp only [ok, obase_next]

theorem base_State_rasSignal : ∀ x0 x1, base (State.rasSignal x0 x1) = base x0 := by
  intros; simp only [State.rasSignal, base_ite, ite_self, base_State_raiseSrc]

theorem base_State_rasWrite : ∀ x0 x1 x2 x3 x4 x5, base (State.rasWrite x0 x1 x2 x3 x4 x5) = base x0 := by
  intros; unfold State.rasWrite; (try simp only [])
  repeat' (first | with_reducible rfl | (split <;> try simp only [base_mk, base_ite, ite_self, base_State_setRegWord, base_State_setF, base_State_rasSignal]))

theorem base_State_rasError : ∀ x0 x1 x2 x3 x4, base (State.rasError x0 x1 x2 x3 x4) = base x0 := by
  intros; unfold State.rasError
  repeat' (first | with_reducible rfl | (split <;> try simp only [base_ite, ite_self, base_State_rasWrite, base_State_setF]))

theorem base_State_errorEvent : ∀ x0 x1 x2 x3 x4 x5 x6, base (State.errorEvent x0 x1 x2 x3 x4 x5 x6) = base x0 := by
  intros; simp only [State.errorEvent, base_State_record, base_State_rasError]

theorem base_State_pmuAdd : ∀ x0 x1 x2 x3 x4, base (State.pmuAdd x0 x1 x2 x3 x4) = base x0 := by
  intros; simp only [State.pmuAdd, base_ite, ite_self, base_State_setF]

theorem base_State_pmu : ∀ x0 x1 x2 x3 x4 x5, base (State.pmu x0 x1 x2 x3 x4 x5) = base x0 := by
  intros; unfold State.pmu; (try simp only [implies_true, base_foldl, base_ite, ite_self, base_State_pmuAdd])

theorem base_State_reach : ∀ x0 x1 x2, base (State.reach x0 x1 x2).2 = base x0 := by
  intros; simp only [State.reach, base_ite, snd_ite, ite_self, base_State_pmu, base_State_modNi]

theorem base_State_leavePort : ∀ x0 x1 x2 x3, base (State.leavePort x0 x1 x2 x3) = base x0 := by
  intros; simp only [State.leavePort, base_State_pmu]

theorem base_State_hopOnce (s : State) (f : Flight) : pbase (base s) (s.hopOnce f) = base s := by
  unfold State.hopOnce
  split
  · rfl
  · split
    · rfl
    · cases neighbour f.at_ _ with
      | none => rfl
      | some st => exact (base_State_reach ..).trans (base_State_leavePort ..)

theorem base_State_hopOnce_sm (s : State) (f : Flight) (r : Flight × State) (h : s.hopOnce f = some r) : base r.2 = base s := by
  have h' := base_State_hopOnce s f
  rw [h] at h'
  exact h'

theorem base_State_hopOnce_some : ∀ x0 x1 a t, State.hopOnce x0 x1 = some (a, t) → base t = base x0 := by
  intro x0 x1 a t h; have h' := base_State_hopOnce x0 x1; rw [h] at h'; exact h'

theorem base_State_forward (s : State) (f : Flight) (n : Nat) : base (s.forward f n).2 = base s := by
  induction n generalizing s f with
  | zero => rfl
  | succ n ih =>
    unfold State.forward
    split
    · rfl
    · exact (ih ..).trans (base_State_hopOnce_sm _ _ _ (by assumption))

theorem base_State_meshTick : ∀ x0, base (State.meshTick x0) = base x0 := by
  intros; unfold State.meshTick; (try simp only [])
  repeat' (first | with_reducible rfl | assumption | (split <;> try simp only [base_mk, base_State_forward]) | (refine (base_foldl _ ?_ _ _).trans ?_ <;> (try intro _ _) <;> (try simp only [])))

theorem base_State_eject (s : State) (p : Packet) : mbase (base s) (s.eject p) = base s := by
  unfold State.eject
  simp only [mbase_ite]
  split
  · rfl
  · split
    · exact mbase_some ..
    · simp only [mbase_ite]
      split
      · rfl
      · rename_i i _ _
        cases s.net[i]? with
        | none => rfl
        | some f =>
          simp only [Option.bind_some, mbase_ite, mbase_some, mbase_none, base_mk, base_ite, base_State_leavePort, base_State_forward, ite_self]

theorem base_State_eject_some : ∀ x0 x1 t, State.eject x0 x1 = some t → base t = base x0 := by
  intro x0 x1 t h; have h' := base_State_eject x0 x1; rw [h] at h'; exact h'

theorem base_State_receive (s : State) (p : Packet) (f : State → State) (hf : ∀ s, base (f s) = base s) : base (s.receive p f) = base s := by
  unfold State.receive
  split
  · exact (hf _).trans (base_State_eject_some _ _ _ (by assumption))
  · rfl

theorem base_State_receiveWrite (s : State) (p q0 q1 : Packet) (f : State → State) (hf : ∀ s, base (f s) = base s) : base (s.receiveWrite p q0 q1 f) = base s := by
  refine base_State_receive _ _ _ (fun s => ?_)
  split
  · exact base_State_receive _ _ _ (fun s => base_State_receive _ _ _ hf)
  · exact base_State_receive _ _ _ hf

theorem base_State_deedForget : ∀ x0 x1, base (State.deedForget x0 x1) = base x0 := by
  intros; simp only [State.deedForget, base_mk]

theorem base_State_setDeed : ∀ x0 x1 x2, base (State.setDeed x0 x1 x2) = base x0 := by
  intros; simp only [State.setDeed, base_mk, base_State_deedForget]

theorem base_State_deedNote : ∀ x0 x1 x2, base (State.deedNote x0 x1 x2) = base x0 := by
  intros; simp only [State.deedNote, base_mk, base_ite, ite_self, base_State_pmu]

theorem base_State_setKeyGen : ∀ x0 x1 x2, base (State.setKeyGen x0 x1 x2) = base x0 := by
  intros; simp only [State.setKeyGen, base_mk]

theorem base_State_setGranule : ∀ x0 x1 x2, base (State.setGranule x0 x1 x2) = base x0 := by
  intros; simp only [State.setGranule, base_mk]

theorem base_State_setSlice : ∀ x0 x1 x2, base (State.setSlice x0 x1 x2) = base x0 := by
  intros; simp only [State.setSlice, base_mk]

theorem base_State_modSlice : ∀ x0 x1 x2, base (State.modSlice x0 x1 x2) = base x0 := by
  intros; simp only [State.modSlice, base_State_setSlice]

theorem base_State_setDir : ∀ x0 x1 x2, base (State.setDir x0 x1 x2) = base x0 := by
  intros; simp only [State.setDir, base_mk]

theorem base_State_setLlc : ∀ x0 x1 x2, base (State.setLlc x0 x1 x2) = base x0 := by
  intros; simp only [State.setLlc, base_mk]

theorem base_State_evSet : ∀ x0 x1 x2 x3, base (State.evSet x0 x1 x2 x3) = base x0 := by
  intros; simp only [State.evSet, base_State_modSlice]

theorem base_State_evFree : ∀ x0 x1 x2, base (State.evFree x0 x1 x2) = base x0 := by
  intros; simp only [State.evFree, base_State_modSlice]

theorem base_State_evDrop : ∀ x0 x1 x2, base (State.evDrop x0 x1 x2) = base x0 := by
  intros; unfold State.evDrop; (try simp only [])
  repeat' (first | with_reducible rfl | (split <;> try simp only [base_ite, ite_self, base_State_evFree, base_State_evSet]))

theorem base_State_homePut : ∀ x0 x1 x2 x3 x4 x5, base (State.homePut x0 x1 x2 x3 x4 x5) = base x0 := by
  intros; unfold State.homePut; (try simp only [])
  repeat' (first | with_reducible rfl | (split <;> try simp only [base_ite, ite_self, base_State_evSet, base_State_setLlc]))

theorem base_State_homeDrop : ∀ x0 x1 x2, base (State.homeDrop x0 x1 x2) = base x0 := by
  intros; unfold State.homeDrop; (try simp only [base_State_evDrop])
  repeat' (first | with_reducible rfl | (split <;> try simp only [base_ite, ite_self, base_State_setLlc]))

theorem base_State_llcTouch : ∀ x0 x1 x2 x3, base (State.llcTouch x0 x1 x2 x3) = base x0 := by
  intros; unfold State.llcTouch
  repeat' (first | with_reducible rfl | (split <;> try simp only [base_ite, ite_self, base_State_setLlc]))

theorem base_State_llcAge : ∀ x0 x1 x2, base (State.llcAge x0 x1 x2) = base x0 := by
  intros; unfold State.llcAge
  repeat' (first | with_reducible rfl | assumption | (split <;> try simp only [base_State_setLlc]) | (refine (base_foldl _ ?_ _ _).trans ?_ <;> (try intro _ _) <;> (try simp only [])))

theorem base_State_llcVictim : ∀ x0 x1 x2 x3, pbase (base x0) (State.llcVictim x0 x1 x2 x3) = base x0 := by
  intro s b ws n
  induction n generalizing s with
  | zero => rfl
  | succ n ih =>
    unfold State.llcVictim
    split
    · rfl
    · have h := ih (s.llcAge b ws)
      rwa [base_State_llcAge] at h

theorem base_State_llcVictim_some : ∀ x0 x1 x2 x3 a t, State.llcVictim x0 x1 x2 x3 = some (a, t) → base t = base x0 := by
  intro x0 x1 x2 x3 a t h; have h' := base_State_llcVictim x0 x1 x2 x3; rw [h] at h'; exact h'

theorem base_State_memSend : ∀ x0 x1 x2, base (State.memSend x0 x1 x2) = base x0 := by
  intros; unfold State.memSend; (try simp only [])
  repeat' (first | with_reducible rfl | assumption | (split <;> try simp only [implies_true, base_foldl, base_ite, ite_self, base_State_request, base_State_send, base_State_modSlice]))

theorem base_State_memPump : ∀ x0 x1, base (State.memPump x0 x1) = base x0 := by
  intros; unfold State.memPump; (try simp only [implies_true, base_foldl, base_State_memSend])

theorem base_State_memPush : ∀ x0 x1 x2, base (State.memPush x0 x1 x2) = base x0 := by
  intros; simp only [State.memPush, base_State_memPump, base_State_modSlice]

theorem base_State_llcEvict : ∀ x0 x1 x2 x3 x4, base (State.llcEvict x0 x1 x2 x3 x4) = base x0 := by
  intros; simp only [State.llcEvict, base_ite, ite_self, base_State_setLlc, base_State_pmu, base_State_memPush, base_State_modSlice]

theorem base_State_llcAlloc : ∀ x0 x1 x2 x3 x4, pbase (base x0) (State.llcAlloc x0 x1 x2 x3 x4) = base x0 := by
  intros; unfold State.llcAlloc; (try simp only [pbase_none, pbase_ite])
  repeat' (first | with_reducible rfl | assumption | (split <;> try simp only [pbase_some, pbase_none, base_State_llcEvict]) | (refine (base_State_llcVictim_some _ _ _ _ _ _ (by assumption)).trans ?_ <;> try simp only []))

theorem base_State_llcAlloc_some : ∀ x0 x1 x2 x3 x4 a t, State.llcAlloc x0 x1 x2 x3 x4 = some (a, t) → base t = base x0 := by
  intro x0 x1 x2 x3 x4 a t h; have h' := base_State_llcAlloc x0 x1 x2 x3 x4; rw [h] at h'; exact h'

theorem base_State_toMemory : ∀ x0 x1 x2 x3 x4 x5, base (State.toMemory x0 x1 x2 x3 x4 x5) = base x0 := by
  intros; simp only [State.toMemory, base_State_memPush, base_State_evDrop]

theorem base_State_placeDirty : ∀ x0 x1 x2 x3 x4 x5, base (State.placeDirty x0 x1 x2 x3 x4 x5) = base x0 := by
  intros; unfold State.placeDirty; (try simp only [base_ite, base_State_homePut, base_State_llcTouch, base_State_toMemory])
  repeat' (first | with_reducible rfl | assumption | (split <;> try simp only [base_State_toMemory, base_State_setLlc]) | (refine (base_State_llcAlloc_some _ _ _ _ _ _ _ (by assumption)).trans ?_ <;> try simp only []))

theorem base_State_placeReturned : ∀ x0 x1 x2 x3 x4 x5, base (State.placeReturned x0 x1 x2 x3 x4 x5) = base x0 := by
  intros; simp only [State.placeReturned, base_ite, ite_self, base_State_homePut, base_State_toMemory]

theorem base_State_setTx : ∀ x0 x1 x2, base (State.setTx x0 x1 x2) = base x0 := by
  intros; simp only [State.setTx, base_State_modSlice]

theorem base_State_openTx : ∀ x0 x1 x2, base (State.openTx x0 x1 x2) = base x0 := by
  intros; simp only [State.openTx, base_State_modSlice]

theorem base_State_freeHq : ∀ x0 x1 x2, base (State.freeHq x0 x1 x2) = base x0 := by
  intros; simp only [State.freeHq, base_State_modSlice]

theorem base_State_txDone : ∀ x0 x1 x2, base (State.txDone x0 x1 x2) = base x0 := by
  intros; unfold State.txDone; (try simp only [base_ite, ite_self, base_State_setReq, base_State_freeHq])
  repeat' (first | with_reducible rfl | (split <;> try simp only [base_ite, ite_self, base_State_modSlice, base_State_setDir]))

theorem base_State_respond : ∀ x0 x1 x2 x3 x4, base (State.respond x0 x1 x2 x3 x4) = base x0 := by
  intros; simp only [State.respond, base_State_send]

theorem base_State_compData : ∀ x0 x1 x2 x3 x4 x5, base (State.compData x0 x1 x2 x3 x4 x5) = base x0 := by
  intros; simp only [State.compData, base_State_send]

theorem base_State_modDir : ∀ x0 x1 x2 x3, base (State.modDir x0 x1 x2 x3) = base x0 := by
  intros; unfold State.modDir
  repeat' (first | with_reducible rfl | (split <;> try simp only [base_State_setDir]))

theorem base_State_deedRefused : ∀ x0 x1 x2 x3, base (State.deedRefused x0 x1 x2 x3) = base x0 := by
  intros; simp only [State.deedRefused, base_State_record]

theorem base_State_txReturn : ∀ x0 x1 x2, base (State.txReturn x0 x1 x2) = base x0 := by
  intros; unfold State.txReturn
  repeat' (first | with_reducible rfl | (split <;> try simp only [base_State_placeReturned]))

theorem base_State_txFail : ∀ x0 x1 x2 x3 x4, base (State.txFail x0 x1 x2 x3 x4) = base x0 := by
  intros; simp only [State.txFail, base_State_txDone, base_State_send]

theorem base_State_txFetch : ∀ x0 x1 x2, base (State.txFetch x0 x1 x2) = base x0 := by
  intros; simp only [State.txFetch, base_State_memPush, base_State_setTx]

theorem base_State_txAwait : ∀ x0 x1 x2, base (State.txAwait x0 x1 x2) = base x0 := by
  intros; simp only [State.txAwait, base_ite, ite_self, base_State_txDone, base_State_setTx]

theorem base_State_txGrant : ∀ x0 x1 x2 x3 x4 x5, base (State.txGrant x0 x1 x2 x3 x4 x5) = base x0 := by
  intros; unfold State.txGrant; (try simp only [])
  repeat' (first | with_reducible rfl | (split <;> try simp only [base_ite, ite_self, base_State_txDone, base_State_compData, base_State_setTx, base_State_setDir, base_State_modDir, base_State_homeDrop]))

theorem base_State_llcCount : ∀ x0 x1 x2, base (State.llcCount x0 x1 x2) = base x0 := by
  intros; simp only [State.llcCount, base_State_pmu]

theorem base_State_txRead : ∀ x0 x1 x2, base (State.txRead x0 x1 x2) = base x0 := by
  intros; unfold State.txRead; (try simp only [])
  repeat' (first | with_reducible rfl | (split <;> try simp only [base_ite, ite_self, base_State_llcCount, base_State_txGrant, base_State_llcTouch, base_State_txFetch]))

theorem base_State_txMemory : ∀ x0 x1 x2 x3 x4 x5, base (State.txMemory x0 x1 x2 x3 x4 x5) = base x0 := by
  intros; simp only [State.txMemory, base_State_memPush, base_State_setTx]

theorem base_State_txPlace (s : State) (t : Nat) (x : Tx) (d : Sector) (m : BitVec 64) (p : Bool) (f : State → State) (hf : ∀ s, base (f s) = base s) :
    base (s.txPlace t x d m p f) = base s := by
  unfold State.txPlace
  simp only
  repeat' split
  all_goals simp only [base_State_modSlice, base_State_txMemory, base_State_evDrop, base_State_homePut, base_State_memPush, base_State_setTx, base_State_txDone, hf, base_State_llcTouch]

theorem base_State_txAtomic : ∀ x0 x1 x2 x3 x4, base (State.txAtomic x0 x1 x2 x3 x4) = base x0 := by
  intros; unfold State.txAtomic; (try simp only [])
  repeat' (first | with_reducible rfl | assumption | (split <;> try simp only [implies_true, base_ite, base_State_txDone, base_State_compData, base_State_txReturn, base_State_txFail, base_State_txPlace, base_State_setTx]))

theorem base_State_txWrite : ∀ x0 x1 x2 x3 x4 x5 x6, base (State.txWrite x0 x1 x2 x3 x4 x5 x6) = base x0 := by
  intros; unfold State.txWrite; (try simp only [base_ite, base_State_setTx, base_State_txFail, base_State_txReturn])
  repeat' (first | with_reducible rfl | assumption | (split <;> try simp only [implies_true, base_State_setTx, base_State_txAtomic, base_State_txFetch, base_State_respond, base_State_txPlace]))

theorem base_State_txCmo : ∀ x0 x1 x2, base (State.txCmo x0 x1 x2) = base x0 := by
  intros; unfold State.txCmo; (try simp only [])
  repeat' (first | with_reducible rfl | (split <;> try simp only [base_State_homePut, base_State_homeDrop, base_State_txMemory, base_State_txDone, base_State_respond]))

theorem base_State_txDead : ∀ x0 x1 x2, base (State.txDead x0 x1 x2) = base x0 := by
  intros; unfold State.txDead; (try simp only [base_State_errorEvent])
  repeat' (first | with_reducible rfl | (split <;> try simp only [base_State_placeReturned, base_State_toMemory]))

theorem base_State_txAnswered : ∀ x0 x1 x2, base (State.txAnswered x0 x1 x2) = base x0 := by
  intros; unfold State.txAnswered; (try simp only [base_ite, ite_self, base_State_txDead, base_State_txReturn, base_State_txDone, base_State_modDir, base_State_txGrant, base_State_txRead, base_State_respond, base_State_setTx, base_State_txCmo])
  repeat' (first | with_reducible rfl | (split <;> try simp only [base_ite, ite_self, base_State_txDead, base_State_txReturn, base_State_modDir, base_State_txGrant, base_State_txAwait, base_State_txRead, base_State_respond, base_State_setTx, base_State_homeDrop, base_State_placeReturned]))

theorem base_State_txSnoop : ∀ x0 x1 x2 x3 x4, base (State.txSnoop x0 x1 x2 x3 x4) = base x0 := by
  intros; unfold State.txSnoop; (try simp only [implies_true, base_foldl, base_ite, ite_self, base_State_send, base_State_txAnswered])
  repeat' (first | with_reducible rfl | assumption | (split <;> try simp only [base_ite, ite_self, base_State_modDir, base_State_openTx, base_State_pmu, base_State_send]))

theorem base_State_backInval : ∀ x0 x1 x2 x3 x4, base (State.backInval x0 x1 x2 x3 x4) = base x0 := by
  intros; simp only [State.backInval, base_State_pmu, base_State_setReq, base_State_txSnoop]

theorem base_State_dirPlace : ∀ x0 x1 x2 x3 x4, base (State.dirPlace x0 x1 x2 x3 x4).2 = base x0 := by
  intros; unfold State.dirPlace; (try simp only [])
  repeat' (first | with_reducible rfl | (split <;> try simp only [base_mk, base_ite, snd_ite, base_State_setDir, base_State_backInval]))

theorem base_State_homeStart : ∀ x0 x1 x2, base (State.homeStart x0 x1 x2).2 = base x0 := by
  intros; simp only [State.homeStart, base_ite, snd_ite, ite_self, base_State_freeHq, base_State_send, base_State_respond, base_State_modDir, base_State_openTx, base_State_deedNote, base_State_deedRefused, base_State_memPush, base_State_dirPlace, base_State_txSnoop]

theorem base_State_hqTry : ∀ x0 x1 x2, base (State.hqTry x0 x1 x2).2 = base x0 := by
  intros; unfold State.hqTry; (try simp only [])
  repeat' (first | with_reducible rfl | (split <;> try simp only [base_ite, snd_ite, ite_self, base_State_modSlice, base_State_homeStart]))

theorem base_State_hqScan : ∀ x0 x1 x2, base (State.hqScan x0 x1 x2) = base x0 := by
  intro s t n
  induction n generalizing s with
  | zero => rfl
  | succ n ih =>
    have h : base ((s.hqReady t).foldl (fun (acc : Bool × State) i => if acc.1 then acc else acc.2.hqTry t i) (false, s)).2 = base s := by
      refine (base_foldl2 _ ?_ _ _).trans rfl
      intro p a
      simp only [snd_ite, base_ite, base_State_hqTry, ite_self]
    unfold State.hqScan
    simp only [base_ite, ih, h, ite_self]

theorem base_State_txClose : ∀ x0 x1 x2, base (State.txClose x0 x1 x2) = base x0 := by
  intros; simp only [State.txClose, base_State_hqScan, base_State_txDone]

theorem base_State_homeRequest : ∀ x0 x1 x2, base (State.homeRequest x0 x1 x2) = base x0 := by
  intros; unfold State.homeRequest; (try simp only [])
  repeat' (first | with_reducible rfl | (split <;> try simp only [base_ite, ite_self, base_State_hqScan, base_State_modSlice, base_State_send, base_State_pmu]))

theorem base_State_flushRound : ∀ x0 x1 x2, base (State.flushRound x0 x1 x2) = base x0 := by
  intros; simp only [State.flushRound, implies_true, base_foldl, base_ite, ite_self, base_State_backInval, base_State_llcEvict]

theorem base_State_retirePump : ∀ x0 x1, base (State.retirePump x0 x1) = base x0 := by
  intros; simp only [State.retirePump, base_ite, ite_self, base_State_flushRound, base_State_modSlice]

theorem base_State_homeArrive : ∀ x0 x1 x2, base (State.homeArrive x0 x1 x2) = base x0 := by
  intros; simp only [State.homeArrive, implies_true, base_State_receive, base_State_homeRequest]

theorem base_State_specRead : ∀ x0 x1, base (State.specRead x0 x1) = base x0 := by
  intros; unfold State.specRead; (try simp only [base_ite, base_State_send, base_State_deedNote, base_State_deedRefused])
  repeat' (first | with_reducible rfl | (split <;> try simp only [base_ite, ite_self, base_State_send, base_State_deedNote, base_State_llcCount, base_State_pmu, base_State_modSlice, base_State_compData]))

theorem base_execReadShared : ∀ x0 x1, obase (base x1) (execReadShared x0 x1) = base x1 := by
  intros; simp only [execReadShared, implies_true, ite_self, obase_next, obase_ite, base_State_receive, base_State_specRead, base_State_homeArrive]

theorem base_execReadUnique : ∀ x0 x1, obase (base x1) (execReadUnique x0 x1) = base x1 := by
  intros; simp only [execReadUnique, obase_next, base_State_homeArrive]

theorem base_execReadOnce : ∀ x0 x1, obase (base x1) (execReadOnce x0 x1) = base x1 := by
  intros; simp only [execReadOnce, obase_next, base_State_homeArrive]

theorem base_execCleanUnique : ∀ x0 x1, obase (base x1) (execCleanUnique x0 x1) = base x1 := by
  intros; simp only [execCleanUnique, obase_next, base_State_homeArrive]

theorem base_execWriteInvalidateFull : ∀ x0 x1, obase (base x1) (execWriteInvalidateFull x0 x1) = base x1 := by
  intros; simp only [execWriteInvalidateFull, obase_next, base_State_homeArrive]

theorem base_execWritePartial : ∀ x0 x1, obase (base x1) (execWritePartial x0 x1) = base x1 := by
  intros; simp only [execWritePartial, obase_next, base_State_homeArrive]

theorem base_State_dropListing : ∀ x0 x1 x2 x3, base (State.dropListing x0 x1 x2 x3) = base x0 := by
  intros; unfold State.dropListing; (try simp only [])
  repeat' (first | with_reducible rfl | (split <;> try simp only [base_ite, ite_self, base_State_setDir]))

theorem base_execEvictClean : ∀ x0 x1, obase (base x1) (execEvictClean x0 x1) = base x1 := by
  intros; unfold execEvictClean; (try simp only [obase_next])
  repeat' (first | with_reducible rfl | (split <;> try simp only [implies_true, base_State_receive, base_State_dropListing]))

theorem base_execWriteBackDirty : ∀ x0 x1, obase (base x1) (execWriteBackDirty x0 x1) = base x1 := by
  intros; simp only [execWriteBackDirty, obase_next, base_State_homeArrive]

theorem base_execWriteBackOwned : ∀ x0 x1, obase (base x1) (execWriteBackOwned x0 x1) = base x1 := by
  intros; simp only [execWriteBackOwned, obase_next, base_State_homeArrive]

theorem base_execSpecRelease : ∀ x0 x1, obase (base x1) (execSpecRelease x0 x1) = base x1 := by
  intros; unfold execSpecRelease; (try simp only [obase_next])
  repeat' (first | with_reducible rfl | assumption | (split <;> try simp only [base_State_homeRequest, base_State_modSlice]) | (refine (base_State_receive _ _ _ ?_).trans ?_ <;> (try intros) <;> (try simp only [])))

theorem base_execSpecCancel : ∀ x0 x1, obase (base x1) (execSpecCancel x0 x1) = base x1 := by
  intros; simp only [execSpecCancel, implies_true, obase_next, base_State_receive, base_State_send, base_State_modSlice]

theorem base_State_snoopAnswer : ∀ x0 x1 x2 x3 x4 x5 x6 x7, base (State.snoopAnswer x0 x1 x2 x3 x4 x5 x6 x7) = base x0 := by
  intros; simp only [State.snoopAnswer, base_ite, ite_self, base_State_setTx, base_State_hqScan, base_State_txAnswered]

theorem base_execSnpResp : ∀ x0 x1, obase (base x1) (execSnpResp x0 x1) = base x1 := by
  intros; unfold execSnpResp; (try simp only [obase_next])
  repeat' (first | with_reducible rfl | assumption | (split <;> try simp only [base_State_snoopAnswer]) | (refine (base_State_receive _ _ _ ?_).trans ?_ <;> (try intros) <;> (try simp only [])))

theorem base_execSnpRespData : ∀ x0 x1, obase (base x1) (execSnpRespData x0 x1) = base x1 := by
  intros; unfold execSnpRespData; (try simp only [obase_next])
  repeat' (first | with_reducible rfl | assumption | (split <;> try simp only [base_State_snoopAnswer]) | (refine (base_State_receive _ _ _ ?_).trans ?_ <;> (try intros) <;> (try simp only [])))

theorem base_execCompAck : ∀ x0 x1, obase (base x1) (execCompAck x0 x1) = base x1 := by
  intros; unfold execCompAck; (try simp only [obase_next])
  repeat' (first | with_reducible rfl | assumption | (split <;> try simp only [base_ite, ite_self, base_State_txClose, base_State_setTx]) | (refine (base_State_receive _ _ _ ?_).trans ?_ <;> (try intros) <;> (try simp only [])))

theorem base_State_homeWriteData : ∀ x0 x1 x2 x3 x4 x5, mbase (base x0) (State.homeWriteData x0 x1 x2 x3 x4 x5) = base x0 := by
  intros; unfold State.homeWriteData; (try simp only [])
  repeat' (first | with_reducible rfl | (split <;> try simp only [base_ite, ite_self, mbase_some, mbase_none, mbase_ite, base_State_placeDirty, base_State_modDir, base_State_txClose, base_State_hqScan, base_State_txWrite]))

theorem base_State_homeWriteData_some : ∀ x0 x1 x2 x3 x4 x5 t, State.homeWriteData x0 x1 x2 x3 x4 x5 = some t → base t = base x0 := by
  intro x0 x1 x2 x3 x4 x5 t h; have h' := base_State_homeWriteData x0 x1 x2 x3 x4 x5; rw [h] at h'; exact h'

theorem base_State_memTake : ∀ x0 x1 x2, pbase (base x0) (State.memTake x0 x1 x2) = base x0 := by
  intros; unfold State.memTake; (try simp only [])
  repeat' (first | with_reducible rfl | (split <;> try simp only [pbase_some, pbase_none, base_State_modSlice, base_State_setReq]))

theorem base_State_memTake_some : ∀ x0 x1 x2 a t, State.memTake x0 x1 x2 = some (a, t) → base t = base x0 := by
  intro x0 x1 x2 a t h; have h' := base_State_memTake x0 x1 x2; rw [h] at h'; exact h'

theorem base_State_install : ∀ x0 x1 x2 x3 x4 x5 x6 x7 x8, base (State.install x0 x1 x2 x3 x4 x5 x6 x7 x8) = base x0 := by
  intros; unfold State.install; (try simp only [])
  repeat' (first | with_reducible rfl | assumption | (split <;> try simp only [base_ite, ite_self, base_State_setLlc]) | (refine (base_State_llcAlloc_some _ _ _ _ _ _ _ (by assumption)).trans ?_ <;> try simp only []))

theorem base_State_homeMemData : ∀ x0 x1, base (State.homeMemData x0 x1) = base x0 := by
  intros; unfold State.homeMemData; (try simp only [])
  repeat' (first | with_reducible rfl | assumption | (split <;> try simp only [base_ite, ite_self, base_State_install, base_State_txDone, base_State_respond, base_State_txAtomic, base_State_txGrant, base_State_hqScan, base_State_memPump]) | (refine (base_State_memTake_some _ _ _ _ _ (by assumption)).trans ?_ <;> try simp only []))

theorem base_State_memPerformed : ∀ x0 x1 x2, base (State.memPerformed x0 x1 x2) = base x0 := by
  intros; unfold State.memPerformed
  repeat' (first | with_reducible rfl | (split <;> try simp only [base_ite, base_State_txDone, base_State_compData, base_State_respond]))

theorem base_execMemAck : ∀ x0 x1, obase (base x1) (execMemAck x0 x1) = base x1 := by
  intros; unfold execMemAck; (try simp only [obase_next])
  repeat' (first | with_reducible rfl | assumption | (split <;> try simp only [implies_true, base_State_receive, base_State_memPerformed, base_State_hqScan, base_State_memPump]) | (refine (base_State_memTake_some _ _ _ _ _ (by assumption)).trans ?_ <;> try simp only []) | (refine (base_State_receive _ _ _ ?_).trans ?_ <;> (try intros) <;> (try simp only [])))

theorem base_State_gateComp : ∀ x0 x1 x2, base (State.gateComp x0 x1 x2) = base x0 := by
  intros; unfold State.gateComp
  repeat' (first | with_reducible rfl | (split <;> try simp only [base_ite, ite_self, base_State_hqScan, base_State_memPerformed, base_State_modSlice]))

theorem base_State_homeMemError : ∀ x0 x1 x2, base (State.homeMemError x0 x1 x2) = base x0 := by
  intros; unfold State.homeMemError; (try simp only [])
  repeat' (first | with_reducible rfl | assumption | (split <;> try simp only [base_ite, ite_self, base_State_errorEvent, base_State_txFail, base_State_hqScan, base_State_memPump]) | (refine (base_State_memTake_some _ _ _ _ _ (by assumption)).trans ?_ <;> try simp only []))

theorem base_execReserveLimitExpiry : ∀ x0 x1 x2, obase (base x2) (execReserveLimitExpiry x0 x1 x2) = base x2 := by
  intros; unfold execReserveLimitExpiry; (try simp only [])
  repeat' (first | with_reducible rfl | (split <;> try simp only [obase_next, base_State_setSlice]))

theorem base_State_margTouch : ∀ x0 x1 x2 x3, base (State.margTouch x0 x1 x2 x3) = base x0 := by
  intros; simp only [State.margTouch, base_mk, base_State_pmu]

theorem base_State_mpAsleep : ∀ x0 x1 x2, base (State.mpAsleep x0 x1 x2) = base x0 := by
  intros; simp only [State.mpAsleep, base_State_record]

theorem base_State_refusedPage : ∀ x0 x1 x2 x3 x4, base (State.refusedPage x0 x1 x2 x3 x4) = base x0 := by
  intros; simp only [State.refusedPage, base_State_record]

theorem base_State_countEdc : ∀ x0 x1 x2, base (State.countEdc x0 x1 x2) = base x0 := by
  intros; simp only [State.countEdc, implies_true, base_foldl, base_State_incSat]

theorem base_State_countDecode : ∀ x0 x1 x2 x3 x4 x5, base (State.countDecode x0 x1 x2 x3 x4 x5) = base x0 := by
  intros; unfold State.countDecode; (try simp only [])
  repeat' (first | with_reducible rfl | assumption | (split <;> try simp only [implies_true, base_foldl, base_ite, ite_self, base_State_pmu, base_State_incSat, base_State_countEdc, base_State_errorEvent, base_State_countErr]))

theorem base_State_portRead : ∀ x0 x1 x2 x3 x4 x5, base (State.portRead x0 x1 x2 x3 x4 x5).2 = base x0 := by
  intros; unfold State.portRead; (try simp only [base_ite, snd_ite, base_State_mpAsleep])
  repeat' (first | with_reducible rfl | (split <;> try simp only [base_ite, snd_ite, ite_self, base_State_deedNote, base_State_refusedPage, base_State_pmu, base_State_countDecode, base_State_margTouch, base_State_setGranule, base_State_record, base_State_incSat]))

theorem base_State_portWrite : ∀ x0 x1 x2 x3 x4 x5 x6, base (State.portWrite x0 x1 x2 x3 x4 x5 x6).2 = base x0 := by
  intros; unfold State.portWrite; (try simp only [base_ite, snd_ite, base_State_mpAsleep])
  repeat' (first | with_reducible rfl | (split <;> try simp only [base_ite, snd_ite, ite_self, base_State_deedNote, base_State_refusedPage, base_State_pmu, base_State_countEdc, base_State_margTouch, base_State_record, base_State_setGranule, base_State_countDecode, base_State_incSat]))

theorem base_State_detect : ∀ x0 x1 x2 x3, base (State.detect x0 x1 x2 x3) = base x0 := by
  intros; unfold State.detect; (try simp only [])
  repeat' (first | with_reducible rfl | (split <;> try simp only [implies_true, base_foldl, base_ite, ite_self, base_State_modNi, base_State_request]))

theorem base_State_runSend : ∀ x0 x1, base (State.runSend x0 x1) = base x0 := by
  intros; unfold State.runSend; (try simp only [])
  repeat' (first | with_reducible rfl | (split <;> try simp only [base_mk, base_ite, ite_self, base_State_request, base_State_detect]))

theorem base_State_pumpRuns : ∀ x0, base (State.pumpRuns x0) = base x0 := by
  intros; simp only [State.pumpRuns, implies_true, base_foldl, base_State_runSend]

theorem base_State_serve (s : State) (r : Run) (f : State → State) (hf : ∀ s, base (f s) = base s) : base (s.serve r f) = base s := by
  unfold State.serve
  simp only
  split
  · exact hf _
  · exact base_State_pumpRuns _

theorem base_State_served (s : State) (stop ep : Nat) (cmd : Instr) (f : State → State) (hf : ∀ s, base (f s) = base s) : base (s.served stop ep cmd f) = base s := by
  unfold State.served
  split
  · split
    · rfl
    · exact base_State_serve _ _ _ hf
  · exact base_State_serve _ _ _ hf

theorem base_State_coh : ∀ x0 x1, base (State.coh x0 x1).2 = base x0 := by
  intros; unfold State.coh; (try simp only [])
  repeat' (first | with_reducible rfl | (split <;> try simp only [base_mk, base_ite, snd_ite, ite_self]))

theorem base_State_runAnswer : ∀ x0 x1 x2 x3, base (State.runAnswer x0 x1 x2 x3).2 = base x0 := by
  intros; unfold State.runAnswer; (try simp only [])
  repeat' (first | with_reducible rfl | (split <;> try simp only [base_mk, base_State_setReq, base_State_pumpRuns]))

theorem base_State_dropAgent : ∀ x0 x1 x2, base (State.dropAgent x0 x1 x2) = base x0 := by
  intros; simp only [State.dropAgent, base_mk]

theorem base_State_dropRuns : ∀ x0 x1, base (State.dropRuns x0 x1) = base x0 := by
  intros; simp only [State.dropRuns, base_mk]

theorem base_State_countHpm : ∀ x0 x1 x2 x3, base (State.countHpm x0 x1 x2 x3) = base x0 := by
  intros; simp only [State.countHpm, base_ite, ite_self, base_State_setCsr, base_State_setCsrBits]

theorem base_State_hartEvents : ∀ x0 x1 x2 x3, base (State.hartEvents x0 x1 x2 x3) = base x0 := by
  intros; simp only [State.hartEvents, implies_true, base_foldl, base_ite, ite_self, base_State_countHpm]

theorem base_State_hartEvent : ∀ x0 x1 x2, base (State.hartEvent x0 x1 x2) = base x0 := by
  intros; simp only [State.hartEvent, base_State_hartEvents]

theorem base_State_specEvent : ∀ x0 x1 x2, base (State.specEvent x0 x1 x2) = base x0 := by
  intros; simp only [State.specEvent, implies_true, base_foldl, base_ite, ite_self, base_State_countHpm]

theorem base_State_setCline : ∀ x0 x1 x2 x3, base (State.setCline x0 x1 x2 x3) = base x0 := by
  intros; simp only [State.setCline, base_mk]

theorem base_State_coreSend : ∀ x0 x1 x2 x3 x4 x5, base (State.coreSend x0 x1 x2 x3 x4 x5).2 = base x0 := by
  intros; simp only [State.coreSend, base_ite, snd_ite, ite_self, base_State_request, base_State_detect]

theorem base_State_sectorLeft : ∀ x0 x1 x2 x3, base (State.sectorLeft x0 x1 x2 x3) = base x0 := by
  intros; unfold State.sectorLeft
  repeat' (first | with_reducible rfl | (split <;> try simp only [base_State_modHart]))

theorem base_State_evictLine : ∀ x0 x1 x2 x3, base (State.evictLine x0 x1 x2 x3) = base x0 := by
  intros; unfold State.evictLine; (try simp only [base_ite])
  repeat' (first | with_reducible rfl | (split <;> try simp only [base_ite, ite_self, base_State_send, base_State_sectorLeft, base_State_setCline, base_State_coreSend]))

theorem base_State_l2Room : ∀ x0 x1 x2, base (State.l2Room x0 x1 x2) = base x0 := by
  intros; unfold State.l2Room; (try simp only [base_ite])
  repeat' (first | with_reducible rfl | (split <;> try simp only [base_mk, base_State_evictLine]))

theorem base_State_l1dFill : ∀ x0 x1 x2, base (State.l1dFill x0 x1 x2) = base x0 := by
  intros; unfold State.l1dFill; (try simp only [base_ite, base_State_setCline])
  repeat' (first | with_reducible rfl | (split <;> try simp only [base_mk, base_State_sectorLeft, base_State_setCline]))

theorem base_State_l1iFill : ∀ x0 x1 x2, base (State.l1iFill x0 x1 x2) = base x0 := by
  intros; unfold State.l1iFill; (try simp only [base_ite, base_State_setCore])
  repeat' (first | with_reducible rfl | (split <;> try simp only [base_mk, base_State_setCore]))

theorem base_State_l1iDrop : ∀ x0 x1 x2, base (State.l1iDrop x0 x1 x2) = base x0 := by
  intros; simp only [State.l1iDrop, base_State_modCore]

theorem base_State_l2Fill : ∀ x0 x1 x2 x3 x4 x5, base (State.l2Fill x0 x1 x2 x3 x4 x5) = base x0 := by
  intros; simp only [State.l2Fill, base_ite, ite_self, base_State_l2Room, base_State_setCline, base_State_evictLine]

theorem base_State_coreFill : ∀ x0 x1 x2 x3 x4 x5, base (State.coreFill x0 x1 x2 x3 x4 x5) = base x0 := by
  intros; simp only [State.coreFill, base_State_l1dFill, base_State_l2Fill]

theorem base_State_openWindow : ∀ x0 x1 x2 x3, base (State.openWindow x0 x1 x2 x3) = base x0 := by
  intros; simp only [State.openWindow, base_ite, ite_self, base_State_modCore]

theorem base_State_coreSnoop : ∀ x0 x1 x2 x3, base (State.coreSnoop x0 x1 x2 x3) = base x0 := by
  intros; unfold State.coreSnoop; (try simp only [implies_true, base_foldl, base_State_send])
  repeat' (first | with_reducible rfl | assumption | (split <;> try simp only [base_State_setCline, base_State_modHart]))

theorem base_State_closeWindow : ∀ x0 x1 x2, base (State.closeWindow x0 x1 x2) = base x0 := by
  intros; unfold State.closeWindow
  repeat' (first | with_reducible rfl | assumption | (split <;> try simp only [base_State_coreSnoop]) | (refine (base_foldl _ ?_ _ _).trans ?_ <;> (try intro _ _) <;> (try simp only [base_State_modCore])))

theorem base_State_windowCheck : ∀ x0 x1 x2, base (State.windowCheck x0 x1 x2) = base x0 := by
  intros; unfold State.windowCheck; (try simp only [])
  repeat' (first | with_reducible rfl | (split <;> try simp only [base_ite, ite_self, base_State_closeWindow]))

theorem base_State_windowsCheck : ∀ x0 x1, base (State.windowsCheck x0 x1) = base x0 := by
  intros; simp only [State.windowsCheck, implies_true, base_foldl, base_State_windowCheck]

theorem base_State_windowStore : ∀ x0 x1 x2, base (State.windowStore x0 x1 x2) = base x0 := by
  intros; simp only [State.windowStore, base_State_modCore]

theorem base_State_closeWindows : ∀ x0 x1, base (State.closeWindows x0 x1) = base x0 := by
  intros; unfold State.closeWindows; (try simp only [implies_true, base_foldl, base_State_closeWindow])

theorem base_State_prefetchL2 : ∀ x0 x1 x2 x3 x4, base (State.prefetchL2 x0 x1 x2 x3 x4) = base x0 := by
  intros; unfold State.prefetchL2; (try simp only [base_ite])
  repeat' (first | with_reducible rfl | (split <;> try simp only [base_State_coreSend, base_State_setCline, base_State_hartEvent]))

theorem base_State_trainL2 : ∀ x0 x1 x2 x3 x4 x5, base (State.trainL2 x0 x1 x2 x3 x4 x5) = base x0 := by
  intros; unfold State.trainL2; (try simp only [base_ite])
  repeat' (first | with_reducible rfl | assumption | (split <;> try simp only [implies_true, base_foldl, base_ite, ite_self, base_State_modCore, base_State_prefetchL2]))

theorem base_State_usePf : ∀ x0 x1 x2, base (State.usePf x0 x1 x2) = base x0 := by
  intros; unfold State.usePf; (try simp only [])
  repeat' (first | with_reducible rfl | (split <;> try simp only [base_State_modCore, base_State_setCline]))

theorem base_State_prefetchNext : ∀ x0 x1 x2, base (State.prefetchNext x0 x1 x2) = base x0 := by
  intros; simp only [State.prefetchNext, implies_true, base_foldl, base_ite, ite_self, base_State_prefetchL2]

theorem base_State_launch : ∀ x0 x1 x2, base (State.launch x0 x1 x2) = base x0 := by
  intros; simp only [State.launch, base_ite, ite_self, base_State_modHart]

theorem base_State_specReleased : ∀ x0 x1 x2 x3 x4, base (State.specReleased x0 x1 x2 x3 x4) = base x0 := by
  intros; simp only [State.specReleased, base_ite, ite_self, base_State_detect, base_State_send, base_State_setReq, base_State_setCline]

theorem base_State_fetch : ∀ x0 x1 x2 x3 x4, base (State.fetch x0 x1 x2 x3 x4).2 = base x0 := by
  intros; unfold State.fetch; (try simp only [base_ite, snd_ite, ite_self, base_State_modHart, base_State_l1iFill, base_State_prefetchNext])
  repeat' (first | with_reducible rfl | (split <;> try simp only [base_ite, snd_ite, ite_self, base_State_modHart, base_State_prefetchNext, base_State_specReleased, base_State_setCline, base_State_coreSend]))

theorem base_State_modPart : ∀ x0 x1 x2 x3 x4, base (State.modPart x0 x1 x2 x3 x4) = base x0 := by
  intros; simp only [State.modPart, base_State_modHart]

theorem base_State_modInfl : ∀ x0 x1 x2 x3, base (State.modInfl x0 x1 x2 x3) = base x0 := by
  intros; simp only [State.modInfl, base_State_modHart]

theorem base_State_coreIo : ∀ x0 x1 x2 x3 x4 x5 x6 x7, base (State.coreIo x0 x1 x2 x3 x4 x5 x6 x7).2 = base x0 := by
  intros; simp only [State.coreIo, base_State_request]

theorem base_State_servePart : ∀ x0 x1 x2 x3 x4 x5 x6, base (State.servePart x0 x1 x2 x3 x4 x5 x6) = base x0 := by
  intros; simp only [State.servePart, base_ite, ite_self, base_State_modPart, base_State_trainL2, base_State_usePf, base_State_modHart, base_State_l1dFill]

theorem base_State_loadMiss : ∀ x0 x1 x2 x3 x4 x5, base (State.loadMiss x0 x1 x2 x3 x4 x5) = base x0 := by
  intros; unfold State.loadMiss; (try simp only [base_ite, ite_self, base_State_coreSend, base_State_modPart, base_State_setCline, base_State_trainL2])
  repeat' (first | with_reducible rfl | (split <;> try simp only [base_State_coreSend, base_State_setCline]))

theorem base_State_loadTry : ∀ x0 x1 x2 x3 x4 x5, base (State.loadTry x0 x1 x2 x3 x4 x5) = base x0 := by
  intros; unfold State.loadTry; (try simp only [base_ite, ite_self, base_State_coreIo, base_State_modPart, base_State_servePart])
  repeat' (first | with_reducible rfl | (split <;> try simp only [base_ite, ite_self, base_State_modPart, base_State_modHart, base_State_loadMiss]))

theorem base_State_askUnique : ∀ x0 x1 x2 x3 x4, base (State.askUnique x0 x1 x2 x3 x4) = base x0 := by
  intros; unfold State.askUnique; (try simp only [base_ite])
  repeat' (first | with_reducible rfl | (split <;> try simp only [base_State_coreSend, base_State_setCline]))

theorem base_State_writeHome : ∀ x0 x1 x2 x3 x4 x5 x6 x7, pbase (base x0) (State.writeHome x0 x1 x2 x3 x4 x5 x6 x7) = base x0 := by
  intros; unfold State.writeHome; (try simp only [pbase_none, pbase_ite])
  repeat' (first | with_reducible rfl | (split <;> try simp only [base_ite, ite_self, pbase_some, pbase_none, base_State_evictLine, base_State_setCline, base_State_coreSend]))

theorem base_State_writeHome_some : ∀ x0 x1 x2 x3 x4 x5 x6 x7 a t, State.writeHome x0 x1 x2 x3 x4 x5 x6 x7 = some (a, t) → base t = base x0 := by
  intro x0 x1 x2 x3 x4 x5 x6 x7 a t h; have h' := base_State_writeHome x0 x1 x2 x3 x4 x5 x6 x7; rw [h] at h'; exact h'

theorem base_State_trainStore : ∀ x0 x1 x2, base (State.trainStore x0 x1 x2) = base x0 := by
  intros; simp only [State.trainStore, base_ite, ite_self, base_State_trainL2]

theorem base_State_storeHome : ∀ x0 x1 x2 x3, base (State.storeHome x0 x1 x2 x3) = base x0 := by
  intros; unfold State.storeHome; (try simp only [])
  repeat' (first | with_reducible rfl | assumption | (split <;> try simp only [base_ite, ite_self, base_State_modHart]) | (refine (base_State_writeHome_some _ _ _ _ _ _ _ _ _ _ (by assumption)).trans ?_ <;> try simp only [base_ite, ite_self, base_State_trainStore]))

theorem base_State_storePump : ∀ x0 x1, base (State.storePump x0 x1) = base x0 := by
  intros; unfold State.storePump; (try simp only [])
  repeat' (first | with_reducible rfl | assumption | (split <;> try simp only [base_ite, ite_self, base_State_coreIo, base_State_modHart, base_State_askUnique, base_State_trainStore, base_State_storeHome]))

theorem base_State_writeLine : ∀ x0 x1 x2 x3 x4, base (State.writeLine x0 x1 x2 x3 x4) = base x0 := by
  intros; simp only [State.writeLine, base_State_l1iDrop, base_State_usePf, base_State_l1dFill, base_State_setCline]

theorem base_State_finish : ∀ x0 x1 x2 x3, base (State.finish x0 x1 x2 x3) = base x0 := by
  intros; simp only [State.finish, base_State_modInfl]

theorem base_State_failInfl : ∀ x0 x1 x2 x3, base (State.failInfl x0 x1 x2 x3) = base x0 := by
  intros; simp only [State.failInfl, base_State_modInfl]

theorem base_State_poisonFault : ∀ x0 x1 x2 x3 x4, base (State.poisonFault x0 x1 x2 x3 x4) = base x0 := by
  intros; simp only [State.poisonFault, base_State_failInfl]

theorem base_State_scTry : ∀ x0 x1 x2 x3 x4, base (State.scTry x0 x1 x2 x3 x4) = base x0 := by
  intros; simp only [State.scTry, base_ite, ite_self, base_State_windowsCheck, base_State_finish, base_State_modHart, base_State_poisonFault, base_State_windowCheck, base_State_writeLine, base_State_askUnique]

theorem base_State_amoTry : ∀ x0 x1 x2 x3 x4 x5, base (State.amoTry x0 x1 x2 x3 x4 x5) = base x0 := by
  intros; simp only [State.amoTry, base_ite, ite_self, base_State_poisonFault, base_State_windowCheck, base_State_finish, base_State_writeLine, base_State_askUnique]

theorem base_State_farTry : ∀ x0 x1 x2 x3 x4 x5, base (State.farTry x0 x1 x2 x3 x4 x5) = base x0 := by
  intros; unfold State.farTry
  repeat' (first | with_reducible rfl | assumption | (split <;> try simp only [base_ite, ite_self, base_State_modPart]) | (refine (base_State_writeHome_some _ _ _ _ _ _ _ _ _ _ (by assumption)).trans ?_ <;> try simp only []))

theorem base_State_cboTry : ∀ x0 x1 x2 x3 x4 x5, base (State.cboTry x0 x1 x2 x3 x4 x5) = base x0 := by
  intros; simp only [State.cboTry, base_ite, ite_self, base_State_modHart, base_State_evictLine, base_State_closeWindow, base_State_coreSend, base_State_modPart, base_State_modInfl]

theorem base_State_zeroTry : ∀ x0 x1 x2 x3 x4, base (State.zeroTry x0 x1 x2 x3 x4) = base x0 := by
  intros; unfold State.zeroTry; (try simp only [base_ite, ite_self, base_State_windowCheck, base_State_finish, base_State_writeLine, base_State_askUnique])
  repeat' (first | with_reducible rfl | assumption | (split <;> try simp only [base_ite, ite_self, base_State_modPart]) | (refine (base_State_writeHome_some _ _ _ _ _ _ _ _ _ _ (by assumption)).trans ?_ <;> try simp only []))

theorem base_State_axProbes : ∀ x0 x1 x2, base (State.axProbes x0 x1 x2) = base x0 := by
  intros; unfold State.axProbes; (try simp only [implies_true, base_foldl, base_ite, ite_self, base_State_modHart, base_State_request])

theorem base_State_squash : ∀ x0 x1 x2, base (State.squash x0 x1 x2) = base x0 := by
  intros; unfold State.squash; (try simp only [base_State_modHart])
  repeat' (first | with_reducible rfl | assumption | (split <;> try simp only [base_ite, ite_self, base_State_send, base_State_setReq]) | (refine (base_foldl _ ?_ _ _).trans ?_ <;> (try intro _ _) <;> (try simp only [])))

theorem base_State_transl : ∀ x0 x1 x2 x3 x4, base (State.transl x0 x1 x2 x3 x4).2 = base x0 := by
  intros; simp only [State.transl, base_ite, snd_ite, ite_self, base_State_setHart]

theorem base_State_shadowCompare : ∀ x0 x1 x2 x3, base (State.shadowCompare x0 x1 x2 x3) = base x0 := by
  intros; unfold State.shadowCompare; (try simp only [base_ite, base_State_modHart])
  repeat' (first | with_reducible rfl | (split <;> try simp only [base_State_modHart, base_State_hartEvent, base_State_squash]))

theorem base_State_shadowPump : ∀ x0 x1, base (State.shadowPump x0 x1) = base x0 := by
  intros; unfold State.shadowPump; (try simp only [implies_true, base_foldl, base_ite, ite_self, base_State_modHart, base_State_prefetchNext, base_State_l1iFill, base_State_l1dFill, base_State_shadowCompare, base_State_coreSend, base_State_setCline])

theorem base_State_inflPump (s : State) (h : Nat) (i : Infl) : base (s.inflPump h i) = base s := by
  have ht : base (if i.xl.isEmpty = true then (true, s) else s.transl h i.id i.spec i.xl).2 = base s := by
    split
    · rfl
    · exact base_State_transl ..
  unfold State.inflPump
  simp only
  generalize (if i.xl.isEmpty = true then (true, s) else s.transl h i.id i.spec i.xl) = tr at ht ⊢
  generalize hi : (if tr.1 = true then _ else i) = i1
  have hs : base (if (tr.1 && !i.xl.isEmpty) = true then tr.2.modInfl h i1.id (fun j => { j with xl := [] }) else s) = base s := by
    split
    · exact (base_State_modInfl ..).trans ht
    · rfl
  generalize (if (tr.1 && !i.xl.isEmpty) = true then tr.2.modInfl h i1.id (fun j => { j with xl := [] }) else s) = s1 at hs ⊢
  refine Eq.trans ?_ hs
  simp only [base_ite]
  split
  · rfl
  · split <;> first
      | rfl
      | (refine base_foldl _ (fun s j => ?_) _ _
         split
         · simp only [base_ite, base_State_loadTry, ite_self]
         · rfl)
      | (split <;> first | rfl | (simp only [base_ite, base_State_modPart, base_State_coreIo, base_State_scTry, base_State_amoTry, base_State_farTry, base_State_cboTry, base_State_zeroTry, ite_self]; done))
      | (simp only [base_ite, base_State_modInfl, base_State_axProbes, ite_self]; done)

theorem base_State_loadDone : ∀ x0 x1 x2, base (State.loadDone x0 x1 x2) = base x0 := by
  intros; unfold State.loadDone; (try simp only [base_ite])
  repeat' (first | with_reducible rfl | (split <;> try simp only [base_State_poisonFault, base_State_modInfl]))

theorem base_State_trap : ∀ x0 x1 x2 x3 x4 x5, base (State.trap x0 x1 x2 x3 x4 x5) = base x0 := by
  intros; simp only [State.trap, base_State_takeTrap, base_State_squash]

theorem base_State_trapPend : ∀ x0 x1 x2 x3, base (State.trapPend x0 x1 x2 x3) = base x0 := by
  intros; unfold State.trapPend; (try simp only [])
  repeat' (first | with_reducible rfl | (split <;> try simp only [base_State_takeTrap, base_State_squash, base_State_setCsr]))

theorem base_State_haltHart : ∀ x0 x1 x2 x3, base (State.haltHart x0 x1 x2 x3) = base x0 := by
  intros; simp only [State.haltHart, base_State_modHart, base_State_setCsr, base_State_squash, base_State_predFlush]

theorem base_State_trapFires : ∀ x0 x1 x2 x3 x4, base (State.trapFires x0 x1 x2 x3 x4) = base x0 := by
  intros; unfold State.trapFires
  repeat' (first | with_reducible rfl | (split <;> try simp only [base_State_haltHart, base_State_trap]))

theorem base_State_except : ∀ x0 x1 x2 x3, base (State.except x0 x1 x2 x3) = base x0 := by
  intros; simp only [State.except, base_State_trapFires, base_State_trapPend]

theorem base_State_trimVl : ∀ x0 x1 x2 x3, base (State.trimVl x0 x1 x2 x3) = base x0 := by
  intros; simp only [State.trimVl, base_State_modHart, base_State_setCsr]

theorem base_State_settle : ∀ x0 x1, base (State.settle x0 x1) = base x0 := by
  intros; unfold State.settle; (try simp only [])
  repeat' (first | with_reducible rfl | (split <;> try simp only [base_ite, ite_self, base_State_haltHart, base_State_trimVl, base_State_setCsr, base_State_errorEvent, base_State_except, base_State_modHart]))

theorem base_State_specBoundary : ∀ x0 x1, base (State.specBoundary x0 x1) = base x0 := by
  intros; unfold State.specBoundary; (try simp only [])
  repeat' (first | with_reducible rfl | (split <;> try simp only [base_State_setF, base_State_modCore]))

theorem base_State_halted : ∀ x0 x1, base (State.halted x0 x1) = base x0 := by
  intros; simp only [State.halted, base_State_modHart, base_State_closeWindows, base_State_specBoundary, base_State_squash]

theorem base_State_hartPump : ∀ x0 x1, base (State.hartPump x0 x1) = base x0 := by
  intros; unfold State.hartPump; (try simp only [implies_true, base_foldl, base_ite, ite_self, base_State_inflPump, base_State_storePump, base_State_loadDone, base_State_windowsCheck, base_State_shadowPump, base_State_settle, base_State_halted, base_State_haltHart])

theorem base_State_emptyPump : ∀ x0 x1, base (State.emptyPump x0 x1) = base x0 := by
  intros; simp only [State.emptyPump, implies_true, base_foldl, base_ite, ite_self, base_State_modCore, base_State_evictLine]

theorem base_State_corePump : ∀ x0 x1, base (State.corePump x0 x1) = base x0 := by
  intros; unfold State.corePump; (try simp only [base_State_emptyPump])
  repeat' (first | with_reducible rfl | (split <;> try simp only [base_State_hartPump]))

theorem base_State_toBoundary : ∀ x0 x1, base (State.toBoundary x0 x1).2 = base x0 := by
  intros; unfold State.toBoundary; (try simp only [])
  repeat' (first | with_reducible rfl | (split <;> try simp only [base_ite, snd_ite, ite_self, base_State_squash, base_State_setCsr]))

theorem base_State_stopHart : ∀ x0 x1, base (State.stopHart x0 x1) = base x0 := by
  intros; simp only [State.stopHart, base_ite, ite_self, base_State_toBoundary, base_State_halted, base_State_modHart]

theorem base_State_haltSoon : ∀ x0 x1, base (State.haltSoon x0 x1) = base x0 := by
  intros; simp only [State.haltSoon, base_ite, ite_self, base_State_toBoundary, base_State_haltHart, base_State_modHart]

theorem base_State_quiesce : ∀ x0 x1, base (State.quiesce x0 x1).2 = base x0 := by
  intros; simp only [State.quiesce, base_ite, snd_ite, ite_self, base_State_corePump, base_State_emptyPump, base_State_modCore]

end Sys2Proof.Laws
end

