-- ==== Sys2Proof/Laws/Base2.lean ====
section
/-! SUPPORT. What no operation changes but those that R390 and the queue name: the fuse array and the waiting commands. One lemma for each operation of Coherent, Access, MeshSteps, Link, Gate, AnnexSteps, MemSteps, HartSteps. -/
namespace Sys2Proof.Laws

open Sys2Proof.Machine

set_option linter.unusedSimpArgs false

theorem base_State_cohRead : ∀ x0 x1 x2, base (State.cohRead x0 x1 x2).2 = base x0 := by
  intros; unfold State.cohRead; (try simp only [base_State_coh])

theorem base_State_cohWrite : ∀ x0 x1 x2 x3 x4 x5, base (State.cohWrite x0 x1 x2 x3 x4 x5).2 = base x0 := by
  intros; unfold State.cohWrite; (try simp only [base_State_coh])

theorem base_State_cohAtomic : ∀ x0 x1 x2 x3 x4 x5 x6, base (State.cohAtomic x0 x1 x2 x3 x4 x5 x6).2 = base x0 := by
  intros; unfold State.cohAtomic; (try simp only [base_State_coh])

theorem base_State_cohFlush : ∀ x0 x1 x2, base (State.cohFlush x0 x1 x2) = base x0 := by
  intros; unfold State.cohFlush; (try simp only [base_State_coh])

theorem base_State_readBytes (s : State) (w n pa k : Nat) : base (s.readBytes w n pa k).2.2.2 = base s := by
  induction n generalizing s pa k with
  | zero => rfl
  | succ n ih =>
    cases k with
    | zero => rfl
    | succ k =>
      simp only [State.readBytes]
      split
      · exact base_State_cohRead ..
      · exact base_State_cohRead ..
      · exact (ih ..).trans (base_State_cohRead ..)

theorem base_State_writeBytes (s : State) (w n : Nat) (pa k v : Nat) : base (s.writeBytes w n pa k v).2 = base s := by
  induction n generalizing s pa k v with
  | zero => rfl
  | succ n ih =>
    cases k with
    | zero => rfl
    | succ k =>
      simp only [State.writeBytes]
      split
      · exact base_State_cohWrite ..
      · exact (ih ..).trans (base_State_cohWrite ..)

theorem base_State_refusedReg : ∀ x0 x1 x2 x3, base (State.refusedReg x0 x1 x2 x3) = base x0 := by
  intros; simp only [State.refusedReg, base_State_record]

theorem base_State_refuse : ∀ x0 x1 x2 x3 x4, base (State.refuse x0 x1 x2 x3 x4) = base x0 := by
  intros; unfold State.refuse; (try simp only [])
  repeat' (first | with_reducible rfl | (split <;> try simp only [base_ite, ite_self, base_State_refusedReg, base_State_trap, base_State_send]))

theorem base_State_accept : ∀ x0 x1 x2, base (State.accept x0 x1 x2) = base x0 := by
  intros; unfold State.accept
  repeat' (first | with_reducible rfl | (split <;> try simp only [base_State_send]))

theorem base_State_guarded (s : State) (w : Issuer) (st : Nat) (may : Bool) (f : State → State) (hf : ∀ s, base (f s) = base s) : obase (base s) (s.guarded w st may f) = base s := by
  simp only [State.guarded, ok, obase_ite, obase_next, hf, base_State_accept, base_State_refuse, ite_self]

theorem base_State_guardedAt (s : State) (w : Issuer) (p : Place) (u : Nat) (may : Bool) (f : State → State) (hf : ∀ s, base (f s) = base s) : obase (base s) (s.guardedAt w p u may f) = base s := by
  simp only [State.guardedAt, ok, obase_ite, obase_next, base_State_guarded _ _ _ _ _ hf, base_State_refuse, ite_self]

theorem base_State_keeperOnly (s : State) (w : Issuer) (st : Nat) (f : State → State) (hf : ∀ s, base (f s) = base s) : obase (base s) (s.keeperOnly w st f) = base s := by
  simp only [State.keeperOnly, base_State_guarded _ _ _ _ _ hf]

theorem base_State_keeperAt (s : State) (w : Issuer) (p : Place) (u : Nat) (f : State → State) (hf : ∀ s, base (f s) = base s) : obase (base s) (s.keeperAt w p u f) = base s := by
  simp only [State.keeperAt, base_State_guardedAt _ _ _ _ _ _ hf]

theorem base_State_holdWrite : ∀ x0 x1 x2, base (State.holdWrite x0 x1 x2) = base x0 := by
  intros; simp only [State.holdWrite, base_mk, base_ite, ite_self, base_State_accept]

theorem base_State_launchPacket : ∀ x0 x1 x2, base (State.launchPacket x0 x1 x2).2 = base x0 := by
  intros; simp only [State.launchPacket, base_mk, base_ite, snd_ite, ite_self, base_State_reach, base_State_modNi, base_State_leavePort]

theorem base_State_missRoute : ∀ x0 x1 x2, base (State.missRoute x0 x1 x2) = base x0 := by
  intros; unfold State.missRoute; (try simp only [])
  repeat' (first | with_reducible rfl | (split <;> try simp only [base_mk, base_State_pmu, base_State_modNi, base_State_record]))

theorem base_State_injectAt : ∀ x0 x1 x2, base (State.injectAt x0 x1 x2).2 = base x0 := by
  intros; simp only [State.injectAt, base_ite, snd_ite, ite_self, base_State_pmu, base_State_setF, base_State_modNi, base_State_missRoute, base_State_launchPacket]

theorem base_execPacketInject : ∀ x0 x1, obase (base x1) (execPacketInject x0 x1) = base x1 := by
  intros; simp only [execPacketInject, base_mk, ite_self, obase_next, obase_ite, base_State_injectAt, base_State_modNi]

theorem base_execPacketAbsorb : ∀ x0 x1 x2 x3, obase (base x3) (execPacketAbsorb x0 x1 x2 x3) = base x3 := by
  intros; unfold execPacketAbsorb; (try simp only [])
  repeat' (first | with_reducible rfl | (split <;> try simp only [base_mk, base_ite, ite_self, obase_next, base_State_forward, base_State_pmu, base_State_modNi, base_State_injectAt]))

theorem base_State_routeWrite : ∀ x0 x1 x2 x3 x4, base (State.routeWrite x0 x1 x2 x3 x4).2 = base x0 := by
  intros; simp only [State.routeWrite, base_ite, snd_ite, ite_self, base_State_setF, base_State_writeReg]

theorem base_execNiRouteWrite : ∀ x0 x1 x2 x3 x4 x5, obase (base x5) (execNiRouteWrite x0 x1 x2 x3 x4 x5) = base x5 := by
  intros; simp only [execNiRouteWrite, implies_true, base_State_keeperAt, base_State_routeWrite]

theorem base_State_startFence : ∀ x0 x1, base (State.startFence x0 x1) = base x0 := by
  intros; simp only [State.startFence, base_mk, base_State_setF]

theorem base_State_fenceWrite : ∀ x0 x1, base (State.fenceWrite x0 x1) = base x0 := by
  intros; simp only [State.fenceWrite, base_ite, ite_self, base_State_setF, base_State_startFence]

theorem base_execGlobalFence : ∀ x0 x1, obase (base x1) (execGlobalFence x0 x1) = base x1 := by
  intros; simp only [execGlobalFence, implies_true, base_State_keeperOnly, base_State_fenceWrite]

theorem base_execFenceReq : ∀ x0 x1, obase (base x1) (execFenceReq x0 x1) = base x1 := by
  intros; unfold execFenceReq
  repeat' (first | with_reducible rfl | (split <;> try simp only [ite_self, obase_next, obase_ite, base_State_modNi]))

theorem base_State_fenceDone : ∀ x0 x1, base (State.fenceDone x0 x1) = base x0 := by
  intros; simp only [State.fenceDone, base_mk, base_ite, ite_self, base_State_setF]

theorem base_execFenceAck : ∀ x0 x1, obase (base x1) (execFenceAck x0 x1) = base x1 := by
  intros; unfold execFenceAck; (try simp only [])
  repeat' (first | with_reducible rfl | (split <;> try simp only [base_mk, base_ite, ite_self, obase_next, obase_ite, base_State_modNi, base_State_fenceDone]))

theorem base_execFenceTimeout : ∀ x0, obase (base x0) (execFenceTimeout x0) = base x0 := by
  intros; unfold execFenceTimeout; (try simp only [])
  repeat' (first | with_reducible rfl | (split <;> try simp only [obase_next, base_State_setF, base_State_fenceDone, base_State_record]))

theorem base_execEpochSwitch : ∀ x0 x1, obase (base x1) (execEpochSwitch x0 x1) = base x1 := by
  intros; simp only [execEpochSwitch, implies_true, base_State_keeperOnly, base_State_fenceWrite]

theorem base_execFlip : ∀ x0 x1, obase (base x1) (execFlip x0 x1) = base x1 := by
  intros; simp only [execFlip, ite_self, obase_next, obase_ite, base_State_setF]

theorem base_State_releaseHold : ∀ x0 x1, base (State.releaseHold x0 x1) = base x0 := by
  intros; simp only [State.releaseHold, implies_true, base_foldl2, base_ite, snd_ite, ite_self, base_State_injectAt, base_State_setF, base_State_modNi]

theorem base_State_releaseHolds : ∀ x0, base (State.releaseHolds x0) = base x0 := by
  intros; simp only [State.releaseHolds, implies_true, base_foldl, base_ite, ite_self, base_State_releaseHold]

theorem base_execEpochDrainComplete : ∀ x0, obase (base x0) (execEpochDrainComplete x0) = base x0 := by
  intros; simp only [execEpochDrainComplete, ite_self, obase_next, obase_ite, base_State_setF, base_State_releaseHolds, base_State_record]

theorem base_execMeterStagingWrite : ∀ x0 x1 x2 x3, obase (base x3) (execMeterStagingWrite x0 x1 x2 x3) = base x3 := by
  intros; unfold execMeterStagingWrite; (try simp only [])
  repeat' (first | with_reducible rfl | (split <;> try simp only [implies_true, base_ite, ite_self, obase_next, obase_ite, base_State_keeperAt, base_State_setF, base_State_writeReg, base_State_refuse]))

theorem base_State_meterCommitWrite : ∀ x0, base (State.meterCommitWrite x0) = base x0 := by
  intros; simp only [State.meterCommitWrite, base_ite, ite_self, base_State_setF]

theorem base_execMeterCommitRequest : ∀ x0 x1, obase (base x1) (execMeterCommitRequest x0 x1) = base x1 := by
  intros; simp only [execMeterCommitRequest, implies_true, base_State_keeperOnly, base_State_meterCommitWrite]

theorem base_State_meterStop : ∀ x0 x1, base (State.meterStop x0 x1) = base x0 := by
  intros; simp only [State.meterStop, implies_true, base_mk, base_foldl, base_State_setNi, base_State_pmu]

theorem base_execMeterCommit : ∀ x0, obase (base x0) (execMeterCommit x0) = base x0 := by
  intros; simp only [execMeterCommit, implies_true, base_mk, base_foldl, ite_self, obase_next, obase_ite, base_State_meterStop, base_State_setF]

theorem base_execRtSpareWrite : ∀ x0 x1 x2 x3 x4, obase (base x4) (execRtSpareWrite x0 x1 x2 x3 x4) = base x4 := by
  intros; simp only [execRtSpareWrite, implies_true, base_ite, ite_self, base_State_keeperAt, base_State_writeReg]

theorem base_State_setLink : ∀ x0 x1 x2, base (State.setLink x0 x1 x2) = base x0 := by
  intros; simp only [State.setLink, base_mk]

theorem base_State_modLink : ∀ x0 x1 x2, base (State.modLink x0 x1 x2) = base x0 := by
  intros; simp only [State.modLink, base_State_setLink]

theorem base_State_setGate : ∀ x0 x1 x2, base (State.setGate x0 x1 x2) = base x0 := by
  intros; simp only [State.setGate, base_mk]

theorem base_State_modGate : ∀ x0 x1 x2, base (State.modGate x0 x1 x2) = base x0 := by
  intros; simp only [State.modGate, base_State_setGate]

theorem base_State_linkReplay : ∀ x0 x1 x2, base (State.linkReplay x0 x1 x2) = base x0 := by
  intros; simp only [State.linkReplay, base_State_pmu, base_State_incSat, base_State_modLink]

theorem base_State_linkPush : ∀ x0 x1 x2, base (State.linkPush x0 x1 x2) = base x0 := by
  intros; simp only [State.linkPush, base_State_modLink]

theorem base_State_linkControl : ∀ x0 x1 x2 x3 x4, base (State.linkControl x0 x1 x2 x3 x4) = base x0 := by
  intros; simp only [State.linkControl, base_State_modLink]

theorem base_State_deliver : ∀ x0 x1 x2, base (State.deliver x0 x1 x2) = base x0 := by
  intros; simp only [State.deliver, base_ite, ite_self, base_State_linkPush, base_State_modGate, base_State_pmu]

theorem base_State_openGate : ∀ x0 x1 x2, base (State.openGate x0 x1 x2) = base x0 := by
  intros; simp only [State.openGate, base_State_modGate]

theorem base_State_probesDone : ∀ x0 x1, base (State.probesDone x0 x1) = base x0 := by
  intros; simp only [State.probesDone, implies_true, base_foldl, base_State_send, base_State_modGate]

theorem base_State_closeGate : ∀ x0 x1 x2 x3, base (State.closeGate x0 x1 x2 x3) = base x0 := by
  intros; simp only [State.closeGate, base_State_probesDone, base_State_modGate]

theorem base_State_freeAnnexTag : ∀ x0 x1 x2, base (State.freeAnnexTag x0 x1 x2) = base x0 := by
  intros; unfold State.freeAnnexTag; (try simp only [])
  repeat' (first | with_reducible rfl | (split <;> try simp only [base_ite, ite_self, base_State_setReq, base_State_setF]))

theorem base_State_postedLost : ∀ x0 x1 x2 x3, base (State.postedLost x0 x1 x2 x3) = base x0 := by
  intros; simp only [State.postedLost, base_State_errorEvent]

theorem base_State_gateError : ∀ x0 x1 x2 x3, base (State.gateError x0 x1 x2 x3) = base x0 := by
  intros; simp only [State.gateError, base_ite, ite_self, base_State_postedLost, base_State_send]

theorem base_State_gateFor : ∀ x0 x1 x2, base (State.gateFor x0 x1 x2) = base x0 := by
  intros; unfold State.gateFor; (try simp only [])
  repeat' (first | with_reducible rfl | (split <;> try simp only [base_ite, ite_self, base_State_send, base_State_freeAnnexTag, base_State_gateError]))

theorem base_State_quarantine : ∀ x0 x1 x2 x3, base (State.quarantine x0 x1 x2 x3) = base x0 := by
  intros; simp only [State.quarantine, implies_true, base_foldl, base_ite, ite_self, base_State_setF, base_State_modLink, base_State_linkControl, base_State_closeGate, base_State_gateFor, base_State_record]

theorem base_State_strike : ∀ x0 x1 x2 x3, base (State.strike x0 x1 x2 x3) = base x0 := by
  intros; simp only [State.strike, base_ite, ite_self, base_State_record, base_State_incSat, base_State_quarantine]

theorem base_State_gateForward : ∀ x0 x1 x2 x3, base (State.gateForward x0 x1 x2 x3) = base x0 := by
  intros; simp only [State.gateForward, base_ite, ite_self, base_State_openGate, base_State_deliver]

theorem base_State_gateInject : ∀ x0 x1 x2, base (State.gateInject x0 x1 x2) = base x0 := by
  intros; simp only [State.gateInject, base_State_send]

theorem base_State_annexAnswer : ∀ x0 x1 x2 x3, base (State.annexAnswer x0 x1 x2 x3) = base x0 := by
  intros; unfold State.annexAnswer; (try simp only [])
  repeat' (first | with_reducible rfl | (split <;> try simp only [base_ite, ite_self, base_State_gateInject, base_State_closeGate, base_State_freeAnnexTag, base_State_gateError, base_State_gateForward, base_State_send]))

theorem base_State_gateSnoop : ∀ x0 x1 x2, base (State.gateSnoop x0 x1 x2) = base x0 := by
  intros; simp only [State.gateSnoop, base_ite, ite_self, base_State_send, base_State_openGate, base_State_deliver]

theorem base_State_gateResponse : ∀ x0 x1 x2, base (State.gateResponse x0 x1 x2) = base x0 := by
  intros; unfold State.gateResponse; (try simp only [])
  repeat' (first | with_reducible rfl | (split <;> try simp only [base_ite, ite_self, base_State_deliver, base_State_setReq, base_State_gateFor, base_State_openGate, base_State_freeAnnexTag]))

theorem base_State_gateMmio : ∀ x0 x1 x2, base (State.gateMmio x0 x1 x2) = base x0 := by
  intros; unfold State.gateMmio; (try simp only [base_ite, base_State_send])
  repeat' (first | with_reducible rfl | (split <;> try simp only [base_ite, ite_self, base_State_send, base_State_openGate, base_State_deliver]))

theorem base_State_gateWriteData : ∀ x0 x1 x2, base (State.gateWriteData x0 x1 x2) = base x0 := by
  intros; unfold State.gateWriteData; (try simp only [])
  repeat' (first | with_reducible rfl | (split <;> try simp only [base_ite, ite_self, base_State_modGate, base_State_send, base_State_deliver, base_State_openGate]))

theorem base_State_flushAgents : ∀ x0 x1, base (State.flushAgents x0 x1) = base x0 := by
  intros; simp only [State.flushAgents, implies_true, base_foldl, base_State_openGate, base_State_deliver]

theorem base_State_agentFlushed : ∀ x0 x1 x2, base (State.agentFlushed x0 x1 x2) = base x0 := by
  intros; unfold State.agentFlushed
  repeat' (first | with_reducible rfl | (split <;> try simp only [base_State_modGate, base_State_closeGate]))

theorem base_State_recordBringup : ∀ x0 x1, base (State.recordBringup x0 x1) = base x0 := by
  intros; simp only [State.recordBringup, base_State_record]

theorem base_State_attemptFailed : ∀ x0 x1, base (State.attemptFailed x0 x1) = base x0 := by
  intros; simp only [State.attemptFailed, base_ite, ite_self, base_State_modLink, base_State_setF, base_State_recordBringup]

theorem base_State_bringupFailed : ∀ x0 x1 x2, base (State.bringupFailed x0 x1 x2) = base x0 := by
  intros; simp only [State.bringupFailed, base_ite, ite_self, base_State_setF, base_State_recordBringup]

theorem base_State_startBringup : ∀ x0 x1, base (State.startBringup x0 x1) = base x0 := by
  intros; simp only [State.startBringup, base_mk, base_ite, ite_self, base_State_modGate, base_State_setF]

theorem base_execPortBringup : ∀ x0 x1 x2, obase (base x2) (execPortBringup x0 x1 x2) = base x2 := by
  intros; simp only [execPortBringup, implies_true, base_ite, ite_self, base_State_keeperAt, base_State_startBringup, base_State_setF]

theorem base_execUcieTrainingComplete : ∀ x0 x1 x2 x3 x4, obase (base x4) (execUcieTrainingComplete x0 x1 x2 x3 x4) = base x4 := by
  intros; simp only [execUcieTrainingComplete, base_ite, ite_self, obase_next, obase_ite, base_State_attemptFailed, base_State_setF, base_State_noteEyes, base_State_modLink, base_State_linkControl, base_State_recordBringup]

theorem base_execBringupAttemptTimeout : ∀ x0 x1, obase (base x1) (execBringupAttemptTimeout x0 x1) = base x1 := by
  intros; simp only [execBringupAttemptTimeout, ite_self, obase_next, obase_ite, base_State_attemptFailed]

theorem base_State_annexInit : ∀ x0 x1 x2 x3, base (State.annexInit x0 x1 x2 x3) = base x0 := by
  intros; simp only [State.annexInit, base_ite, ite_self, base_State_modLink, base_State_bringupFailed]

theorem base_execInit : ∀ x0 x1 x2 x3 x4 x5 x6 x7, obase (base x7) (execInit x0 x1 x2 x3 x4 x5 x6 x7) = base x7 := by
  intros; simp only [execInit, obase_next, base_State_annexInit]

theorem base_State_annexDeclare : ∀ x0 x1 x2 x3, base (State.annexDeclare x0 x1 x2 x3) = base x0 := by
  intros; simp only [State.annexDeclare, base_ite, ite_self, base_State_setRegWord, base_State_quarantine, base_State_setF, base_State_bringupFailed]

theorem base_execDeclare : ∀ x0 x1 x2 x3 x4 x5, obase (base x5) (execDeclare x0 x1 x2 x3 x4 x5) = base x5 := by
  intros; simp only [execDeclare, obase_next, base_State_annexDeclare]

theorem base_execDeclareTimeout : ∀ x0 x1, obase (base x1) (execDeclareTimeout x0 x1) = base x1 := by
  intros; simp only [execDeclareTimeout, ite_self, obase_next, obase_ite, base_State_bringupFailed]

theorem base_State_axReject : ∀ x0 x1, base (State.axReject x0 x1) = base x0 := by
  intros; simp only [State.axReject, base_State_setF]

theorem base_State_openPort : ∀ x0 x1, base (State.openPort x0 x1) = base x0 := by
  intros; simp only [State.openPort, base_ite, ite_self, base_State_setF, base_State_recordBringup, base_State_axReject, base_State_linkControl, base_State_modGate]

theorem base_execAxgOpenWrite : ∀ x0 x1 x2, obase (base x2) (execAxgOpenWrite x0 x1 x2) = base x2 := by
  intros; simp only [execAxgOpenWrite, implies_true, base_State_keeperAt, base_State_openPort]

theorem base_execOpen : ∀ x0 x1, obase (base x1) (execOpen x0 x1) = base x1 := by
  intros; unfold execOpen
  repeat' (first | with_reducible rfl | (split <;> try simp only [obase_next, base_State_setLink]))

theorem base_execHold : ∀ x0 x1, obase (base x1) (execHold x0 x1) = base x1 := by
  intros; unfold execHold
  repeat' (first | with_reducible rfl | (split <;> try simp only [obase_next, base_State_setLink]))

theorem base_State_linkNak : ∀ x0 x1 x2, base (State.linkNak x0 x1 x2) = base x0 := by
  intros; simp only [State.linkNak, base_ite, ite_self, base_State_linkReplay]

theorem base_State_linkResume : ∀ x0 x1 x2, base (State.linkResume x0 x1 x2) = base x0 := by
  intros; simp only [State.linkResume, base_ite, ite_self, base_State_modLink]

theorem base_State_sendNak : ∀ x0 x1, base (State.sendNak x0 x1) = base x0 := by
  intros; simp only [State.sendNak, base_State_modLink, base_State_linkControl]

theorem base_execLinkFlitReceive : ∀ x0 x1 x2, obase (base x2) (execLinkFlitReceive x0 x1 x2) = base x2 := by
  intros; unfold execLinkFlitReceive; (try simp only [base_ite, ite_self, obase_next, obase_ite, base_State_incSat, base_State_errorEvent, base_State_sendNak, base_State_modLink, base_State_attemptFailed, base_State_modGate, base_State_setLink, base_State_pmu])
  repeat' (first | with_reducible rfl | (split <;> try simp only [base_ite, ite_self, obase_next, base_State_modLink, base_State_annexInit, base_State_annexDeclare, base_State_linkNak, base_State_linkResume]))

theorem base_execNak : ∀ x0 x1 x2, obase (base x2) (execNak x0 x1 x2) = base x2 := by
  intros; simp only [execNak, obase_next, base_State_linkNak]

theorem base_execReplay : ∀ x0 x1 x2, obase (base x2) (execReplay x0 x1 x2) = base x2 := by
  intros; simp only [execReplay, obase_next, base_State_linkResume]

theorem base_execReplayTimeout : ∀ x0 x1, obase (base x1) (execReplayTimeout x0 x1) = base x1 := by
  intros; unfold execReplayTimeout
  repeat' (first | with_reducible rfl | (split <;> try simp only [obase_next, base_State_linkNak]))

theorem base_execNakResendTimeout : ∀ x0 x1, obase (base x1) (execNakResendTimeout x0 x1) = base x1 := by
  intros; simp only [execNakResendTimeout, ite_self, obase_next, obase_ite, base_State_sendNak]

theorem base_execAckIdleInsert : ∀ x0 x1, obase (base x1) (execAckIdleInsert x0 x1) = base x1 := by
  intros; simp only [execAckIdleInsert, ite_self, obase_next, obase_ite, base_State_modLink]

theorem base_State_resumeWidth : ∀ x0 x1 x2, base (State.resumeWidth x0 x1 x2) = base x0 := by
  intros; unfold State.resumeWidth; (try simp only [])
  repeat' (first | with_reducible rfl | (split <;> try simp only [base_State_modLink, base_State_setF, base_State_linkReplay]))

theorem base_execLinkNarrow : ∀ x0 x1, obase (base x1) (execLinkNarrow x0 x1) = base x1 := by
  intros; unfold execLinkNarrow; (try simp only [obase_next, obase_ite])
  repeat' (first | with_reducible rfl | (split <;> try simp only [ite_self, obase_next, obase_ite, base_State_modLink, base_State_resumeWidth, base_State_incSat, base_State_quarantine]))

theorem base_execLinkWiden : ∀ x0 x1 x2, obase (base x2) (execLinkWiden x0 x1 x2) = base x2 := by
  intros; unfold execLinkWiden; (try simp only [obase_next, obase_ite])
  repeat' (first | with_reducible rfl | (split <;> try simp only [ite_self, obase_next, obase_ite, base_State_noteEyes, base_State_incSat, base_State_resumeWidth, base_State_setF, base_State_modLink]))

theorem base_State_recalPort : ∀ x0 x1, base (State.recalPort x0 x1) = base x0 := by
  intros; simp only [State.recalPort, base_ite, ite_self, base_State_resumeWidth, base_State_modLink, base_State_incSat]

theorem base_execModuleRecal : ∀ x0 x1 x2, obase (base x2) (execModuleRecal x0 x1 x2) = base x2 := by
  intros; simp only [execModuleRecal, implies_true, base_State_keeperAt, base_State_recalPort]

theorem base_State_setAttested : ∀ x0 x1 x2, base (State.setAttested x0 x1 x2) = base x0 := by
  intros; simp only [State.setAttested, base_ite, ite_self, base_State_axReject, base_State_setF]

theorem base_execAxgAttestedWrite : ∀ x0 x1 x2 x3, obase (base x3) (execAxgAttestedWrite x0 x1 x2 x3) = base x3 := by
  intros; simp only [execAxgAttestedWrite, implies_true, base_State_keeperAt, base_State_setAttested]

theorem base_execAxgGrantWrite : ∀ x0 x1 x2 x3 x4, obase (base x4) (execAxgGrantWrite x0 x1 x2 x3 x4) = base x4 := by
  intros; simp only [execAxgGrantWrite, implies_true, base_ite, ite_self, base_State_keeperAt, base_State_axReject, base_State_writeReg]

theorem base_State_stageWindow : ∀ x0 x1 x2 x3 x4 x5, base (State.stageWindow x0 x1 x2 x3 x4 x5) = base x0 := by
  intros; simp only [State.stageWindow, base_ite, ite_self, base_State_setF, base_State_writeReg]

theorem base_execAxgWindowStagingWrite : ∀ x0 x1 x2 x3, obase (base x3) (execAxgWindowStagingWrite x0 x1 x2 x3) = base x3 := by
  intros; unfold execAxgWindowStagingWrite; (try simp only [])
  repeat' (first | with_reducible rfl | (split <;> try simp only [implies_true, ite_self, obase_next, obase_ite, base_State_keeperAt, base_State_stageWindow, base_State_refuse]))

theorem base_State_windowCommit : ∀ x0 x1, base (State.windowCommit x0 x1) = base x0 := by
  intros; simp only [State.windowCommit, base_ite, ite_self, base_State_setF]

theorem base_execWindowCommit : ∀ x0 x1 x2, obase (base x2) (execWindowCommit x0 x1 x2) = base x2 := by
  intros; simp only [execWindowCommit, implies_true, base_State_keeperAt, base_State_windowCommit]

theorem base_execWindowCommitEdge : ∀ x0 x1, obase (base x1) (execWindowCommitEdge x0 x1) = base x1 := by
  intros; simp only [execWindowCommitEdge, base_mk, ite_self, obase_next, obase_ite, base_State_modGate, base_State_setF, base_State_incF]

theorem base_State_annexRefuse : ∀ x0 x1 x2 x3, base (State.annexRefuse x0 x1 x2 x3) = base x0 := by
  intros; simp only [State.annexRefuse, base_ite, ite_self, base_State_deliver, base_State_modGate]

theorem base_State_annexDenied : ∀ x0 x1 x2, base (State.annexDenied x0 x1 x2) = base x0 := by
  intros; simp only [State.annexDenied, base_State_record, base_State_pmu, base_State_modGate, base_State_annexRefuse]

theorem base_State_annexAdmit : ∀ x0 x1 x2 x3, base (State.annexAdmit x0 x1 x2 x3) = base x0 := by
  intros; simp only [State.annexAdmit, base_ite, ite_self, base_State_setReq, base_State_detect, base_State_gateInject, base_State_pmu]

theorem base_State_annexArrive : ∀ x0 x1 x2 x3, base (State.annexArrive x0 x1 x2 x3) = base x0 := by
  intros; unfold State.annexArrive; (try simp only [base_ite, ite_self, base_State_modGate, base_State_strike, base_State_annexRefuse, base_State_agentFlushed, base_State_annexDenied, base_State_annexAdmit])
  repeat' (first | with_reducible rfl | (split <;> try simp only [base_ite, ite_self, base_State_strike, base_State_annexRefuse, base_State_annexAnswer]))

theorem base_execAnnexPacketArrival : ∀ x0 x1 x2 x3, obase (base x3) (execAnnexPacketArrival x0 x1 x2 x3) = base x3 := by
  intros; simp only [execAnnexPacketArrival, obase_next, base_State_annexArrive, base_State_modGate]

theorem base_execStrikeIntervalReset : ∀ x0, obase (base x0) (execStrikeIntervalReset x0) = base x0 := by
  intros; simp only [execStrikeIntervalReset, implies_true, base_foldl, obase_next, base_State_setF]

theorem base_State_expiring : ∀ x0 x1 x2 x3, pbase (base x0) (State.expiring x0 x1 x2 x3) = base x0 := by
  intros; unfold State.expiring
  repeat' (first | with_reducible rfl | (split <;> try simp only [ite_self, pbase_some, pbase_none, pbase_ite, base_State_pmu]))

theorem base_State_expiring_some : ∀ x0 x1 x2 x3 a t, State.expiring x0 x1 x2 x3 = some (a, t) → base t = base x0 := by
  intro x0 x1 x2 x3 a t h; have h' := base_State_expiring x0 x1 x2 x3; rw [h] at h'; exact h'

theorem base_execSnoopToExpiry : ∀ x0 x1 x2, obase (base x2) (execSnoopToExpiry x0 x1 x2) = base x2 := by
  intros; unfold execSnoopToExpiry
  repeat' (first | with_reducible rfl | assumption | (split <;> try simp only [obase_next, base_State_quarantine, base_State_closeGate, base_State_gateFor]) | (refine (base_State_expiring_some _ _ _ _ _ _ (by assumption)).trans ?_ <;> try simp only []))

theorem base_execAckToExpiry : ∀ x0 x1 x2, obase (base x2) (execAckToExpiry x0 x1 x2) = base x2 := by
  intros; unfold execAckToExpiry
  repeat' (first | with_reducible rfl | assumption | (split <;> try simp only [obase_next, base_State_quarantine, base_State_closeGate, base_State_gateFor]) | (refine (base_State_expiring_some _ _ _ _ _ _ (by assumption)).trans ?_ <;> try simp only []))

theorem base_State_quarantineAgent : ∀ x0 x1 x2, base (State.quarantineAgent x0 x1 x2) = base x0 := by
  intros; simp only [State.quarantineAgent, base_ite, ite_self, base_State_setF, base_State_record]

theorem base_execRespToExpiry : ∀ x0 x1 x2, obase (base x2) (execRespToExpiry x0 x1 x2) = base x2 := by
  intros; unfold execRespToExpiry; (try simp only [])
  repeat' (first | with_reducible rfl | assumption | (split <;> try simp only [base_ite, ite_self, obase_next, base_State_gateError, base_State_closeGate, base_State_quarantineAgent, base_State_strike]) | (refine (base_State_expiring_some _ _ _ _ _ _ (by assumption)).trans ?_ <;> try simp only []))

theorem base_execMmioToExpiry : ∀ x0 x1 x2, obase (base x2) (execMmioToExpiry x0 x1 x2) = base x2 := by
  intros; unfold execMmioToExpiry; (try simp only [])
  repeat' (first | with_reducible rfl | assumption | (split <;> try simp only [obase_next, base_State_strike, base_State_gateError, base_State_closeGate]) | (refine (base_State_expiring_some _ _ _ _ _ _ (by assumption)).trans ?_ <;> try simp only []))

theorem base_execFlushTimeout : ∀ x0 x1 x2, obase (base x2) (execFlushTimeout x0 x1 x2) = base x2 := by
  intros; unfold execFlushTimeout; (try simp only [])
  repeat' (first | with_reducible rfl | assumption | (split <;> try simp only [obase_next, base_State_quarantine, base_State_closeGate]) | (refine (base_State_expiring_some _ _ _ _ _ _ (by assumption)).trans ?_ <;> try simp only []))

theorem base_execPortQuarantineWrite : ∀ x0 x1 x2, obase (base x2) (execPortQuarantineWrite x0 x1 x2) = base x2 := by
  intros; simp only [execPortQuarantineWrite, implies_true, base_State_keeperAt, base_State_quarantine]

theorem base_State_reclaimEntry : ∀ x0 x1 x2 x3, base (State.reclaimEntry x0 x1 x2 x3) = base x0 := by
  intros; simp only [State.reclaimEntry, base_ite, ite_self, base_State_txDead, base_State_setDir]

theorem base_execReclaimComplete : ∀ x0 x1, obase (base x1) (execReclaimComplete x0 x1) = base x1 := by
  intros; unfold execReclaimComplete; (try simp only [ite_self, obase_next, obase_ite, base_State_setF])
  repeat' (first | with_reducible rfl | assumption | (split <;> try simp only [base_ite, ite_self, base_State_reclaimEntry]) | (refine (base_foldl _ ?_ _ _).trans ?_ <;> (try intro _ _) <;> (try simp only [])))

theorem base_State_disablePort : ∀ x0 x1, base (State.disablePort x0 x1) = base x0 := by
  intros; simp only [State.disablePort, base_ite, ite_self, base_State_setF, base_State_quarantine]

theorem base_execPortDisable : ∀ x0 x1 x2, obase (base x2) (execPortDisable x0 x1 x2) = base x2 := by
  intros; simp only [execPortDisable, implies_true, base_State_keeperAt, base_State_disablePort]

theorem base_State_fenceProbe : ∀ x0 x1 x2, base (State.fenceProbe x0 x1 x2) = base x0 := by
  intros; simp only [State.fenceProbe, base_State_probesDone, base_State_modGate]

theorem base_execAxgFenceProbe : ∀ x0 x1, obase (base x1) (execAxgFenceProbe x0 x1) = base x1 := by
  intros; simp only [execAxgFenceProbe, implies_true, obase_next, base_State_receive, base_State_fenceProbe]

theorem base_execAgentFlush : ∀ x0 x1 x2, obase (base x2) (execAgentFlush x0 x1 x2) = base x2 := by
  intros; unfold execAgentFlush; (try simp only [])
  repeat' (first | with_reducible rfl | (split <;> try simp only [obase_next, base_State_modGate]))

theorem base_execAgentFlushDone : ∀ x0 x1 x2, obase (base x2) (execAgentFlushDone x0 x1 x2) = base x2 := by
  intros; simp only [execAgentFlushDone, obase_next, base_State_agentFlushed]

theorem base_execMgtNotify : ∀ x0 x1, obase (base x1) (execMgtNotify x0 x1) = base x1 := by
  intros; simp only [execMgtNotify, implies_true, obase_next, base_State_receive, base_State_record]

theorem base_execMgtErr : ∀ x0 x1, obase (base x1) (execMgtErr x0 x1) = base x1 := by
  intros; unfold execMgtErr; (try simp only [obase_next])
  repeat' (first | with_reducible rfl | (split <;> try simp only [implies_true, base_State_receive, base_State_modGate]))

theorem base_State_gateDeed : ∀ x0 x1 x2 x3 x4, base (State.gateDeed x0 x1 x2 x3 x4).2 = base x0 := by
  intros; unfold State.gateDeed; (try simp only [base_ite, snd_ite])
  repeat' (first | with_reducible rfl | (split <;> try simp only [base_ite, snd_ite, ite_self, base_State_deedNote, base_State_refusedPage]))

theorem base_execGateMemRead : ∀ x0 x1, obase (base x1) (execGateMemRead x0 x1) = base x1 := by
  intros; unfold execGateMemRead; (try simp only [obase_next])
  repeat' (first | with_reducible rfl | assumption | (split <;> try simp only [base_State_gateDeed, base_State_send, base_State_openGate, base_State_deliver]) | (refine (base_State_receive _ _ _ ?_).trans ?_ <;> (try intros) <;> (try simp only [])))

theorem base_execGateMemWrite : ∀ x0 x1 x2 x3, obase (base x3) (execGateMemWrite x0 x1 x2 x3) = base x3 := by
  intros; unfold execGateMemWrite; (try simp only [obase_next])
  repeat' (first | with_reducible rfl | assumption | (split <;> try simp only [base_State_gateDeed, base_State_send, base_State_openGate, base_State_deliver, base_State_gateForward]) | (refine (base_State_receiveWrite _ _ _ _ _ ?_).trans ?_ <;> (try intros) <;> (try simp only [])))

theorem base_State_memReadAt : ∀ x0 x1 x2, base (State.memReadAt x0 x1 x2) = base x0 := by
  intros; unfold State.memReadAt; (try simp only [])
  repeat' (first | with_reducible rfl | (split <;> try simp only [base_State_portRead, base_State_send]))

theorem base_execMemRead : ∀ x0 x1 x2, obase (base x2) (execMemRead x0 x1 x2) = base x2 := by
  intros; unfold execMemRead; (try simp only [implies_true, obase_next, base_State_receive, base_State_memReadAt])

theorem base_State_memWriteAt : ∀ x0 x1 x2 x3 x4, base (State.memWriteAt x0 x1 x2 x3 x4) = base x0 := by
  intros; unfold State.memWriteAt; (try simp only [])
  repeat' (first | with_reducible rfl | (split <;> try simp only [base_State_portWrite, base_State_send]))

theorem base_execMemWrite : ∀ x0 x1 x2 x3 x4, obase (base x4) (execMemWrite x0 x1 x2 x3 x4) = base x4 := by
  intros; unfold execMemWrite; (try simp only [implies_true, obase_next, base_State_receiveWrite, base_State_memWriteAt])

theorem base_execPatrolScrubRead : ∀ x0 x1 x2, obase (base x2) (execPatrolScrubRead x0 x1 x2) = base x2 := by
  intros; unfold execPatrolScrubRead; (try simp only [ite_self, obase_next, obase_ite, base_State_setF, base_State_incSat])
  repeat' (first | with_reducible rfl | (split <;> try simp only [base_ite, ite_self, base_State_countDecode, base_State_pmu, base_State_setGranule]))

theorem base_State_setRetire : ∀ x0 x1 x2, base (State.setRetire x0 x1 x2) = base x0 := by
  intros; simp only [State.setRetire, base_State_writeReg, base_State_setF]

theorem base_State_trainStart : ∀ x0 x1, base (State.trainStart x0 x1) = base x0 := by
  intros; unfold State.trainStart; (try simp only [base_ite, base_State_setF])
  repeat' (first | with_reducible rfl | (split <;> try simp only [base_mk, base_ite, ite_self, base_State_setF]))

theorem base_execMpTrainStart : ∀ x0 x1 x2, obase (base x2) (execMpTrainStart x0 x1 x2) = base x2 := by
  intros; simp only [execMpTrainStart, implies_true, base_State_keeperAt, base_State_trainStart]

theorem base_State_trainTick : ∀ x0, base (State.trainTick x0) = base x0 := by
  intros; simp only [State.trainTick, implies_true, base_foldl, base_ite, ite_self, base_State_setF]

theorem base_State_publishTop : ∀ x0, base (State.publishTop x0) = base x0 := by
  intros; simp only [State.publishTop, implies_true, base_foldl, base_ite, ite_self, base_State_setF]

theorem base_State_trained : ∀ x0 x1 x2, base (State.trained x0 x1 x2) = base x0 := by
  intros; simp only [State.trained, base_mk, base_ite, ite_self, base_State_setRetire, base_State_setF, base_State_publishTop]

theorem base_execRefreshDue : ∀ x0 x1 x2, obase (base x2) (execRefreshDue x0 x1 x2) = base x2 := by
  intros; simp only [execRefreshDue, base_mk, ite_self, obase_next, obase_ite]

theorem base_execMpTemperaturePoll : ∀ x0 x1 x2, obase (base x2) (execMpTemperaturePoll x0 x1 x2) = base x2 := by
  intros; simp only [execMpTemperaturePoll, base_mk, ite_self, obase_next, obase_ite, base_State_record]

theorem base_State_selfRefresh : ∀ x0 x1, base (State.selfRefresh x0 x1) = base x0 := by
  intros; simp only [State.selfRefresh, base_mk, base_ite, ite_self, base_State_setF]

theorem base_State_selfRefreshExit : ∀ x0 x1, base (State.selfRefreshExit x0 x1) = base x0 := by
  intros; simp only [State.selfRefreshExit, base_ite, ite_self, base_State_setF]

theorem base_execSelfRefreshEnter : ∀ x0 x1, obase (base x1) (execSelfRefreshEnter x0 x1) = base x1 := by
  intros; simp only [execSelfRefreshEnter, obase_next, base_State_selfRefresh]

theorem base_execSelfRefreshExit : ∀ x0 x1, obase (base x1) (execSelfRefreshExit x0 x1) = base x1 := by
  intros; simp only [execSelfRefreshExit, obase_next, base_State_selfRefreshExit]

theorem base_execMirrorLinkDown : ∀ x0 x1, obase (base x1) (execMirrorLinkDown x0 x1) = base x1 := by
  intros; simp only [execMirrorLinkDown, base_mk, ite_self, obase_next, obase_ite, base_State_setF, base_State_record]

theorem base_execMirrorLinkReturn : ∀ x0 x1, obase (base x1) (execMirrorLinkReturn x0 x1) = base x1 := by
  intros; simp only [execMirrorLinkReturn, base_mk, ite_self, obase_next, obase_ite]

theorem base_execMirrorResyncDone : ∀ x0 x1, obase (base x1) (execMirrorResyncDone x0 x1) = base x1 := by
  intros; simp only [execMirrorResyncDone, base_mk, ite_self, obase_next, obase_ite, base_State_setF, base_State_record]

theorem base_State_enter : ∀ x0 x1 x2 x3, base (State.enter x0 x1 x2 x3) = base x0 := by
  intros; simp only [State.enter, base_State_transl, base_State_hartPump, base_State_launch]

theorem base_State_execAccess : ∀ x0 x1 x2 x3 x4 x5 x6, base (State.execAccess x0 x1 x2 x3 x4 x5 x6) = base x0 := by
  intros; simp only [State.execAccess, base_ite, ite_self, base_State_fetch, base_State_enter]

theorem base_State_illegal : ∀ x0 x1 x2 x3, base (State.illegal x0 x1 x2 x3) = base x0 := by
  intros; simp only [State.illegal, base_State_except]

theorem base_execHartLoad : ∀ x0 x1 x2, obase (base x2) (execHartLoad x0 x1 x2) = base x2 := by
  intros; simp only [execHartLoad, obase_next, base_State_execAccess]

theorem base_execHartStore : ∀ x0 x1 x2, obase (base x2) (execHartStore x0 x1 x2) = base x2 := by
  intros; simp only [execHartStore, obase_next, base_State_execAccess]

theorem base_execAmo : ∀ x0 x1 x2 x3, obase (base x3) (execAmo x0 x1 x2 x3) = base x3 := by
  intros; simp only [execAmo, obase_next, base_State_execAccess]

theorem base_execLr : ∀ x0 x1 x2, obase (base x2) (execLr x0 x1 x2) = base x2 := by
  intros; simp only [execLr, obase_next, base_State_execAccess]

theorem base_execSc : ∀ x0 x1 x2, obase (base x2) (execSc x0 x1 x2) = base x2 := by
  intros; simp only [execSc, obase_next, base_State_execAccess]

theorem base_State_selfModify : ∀ x0 x1 x2, base (State.selfModify x0 x1 x2) = base x0 := by
  intros; unfold State.selfModify; (try simp only [implies_true, base_foldl, base_ite, ite_self, base_State_hartEvent, base_State_squash, base_State_l1iDrop, base_State_modHart])

theorem base_State_storeGone : ∀ x0 x1 x2, base (State.storeGone x0 x1 x2) = base x0 := by
  intros; simp only [State.storeGone, base_State_windowCheck, base_State_windowStore, base_State_l1iDrop, base_State_modHart]

theorem base_execStoreCommitL1d : ∀ x0 x1, obase (base x1) (execStoreCommitL1d x0 x1) = base x1 := by
  intros; unfold execStoreCommitL1d; (try simp only [])
  repeat' (first | with_reducible rfl | (split <;> try simp only [ite_self, obase_next, obase_ite, base_State_hartPump, base_State_storeGone, base_State_writeLine]))

theorem base_execFence : ∀ x0 x1 x2, obase (base x2) (execFence x0 x1 x2) = base x2 := by
  intros; simp only [execFence, ite_self, obase_next, obase_ite, base_State_hartPump, base_State_launch]

theorem base_execFenceI : ∀ x0 x1, obase (base x1) (execFenceI x0 x1) = base x1 := by
  intros; simp only [execFenceI, ite_self, obase_next, obase_ite, base_State_modHart, base_State_modCore, base_State_squash]

theorem base_execSfenceVma : ∀ x0 x1 x2 x3, obase (base x3) (execSfenceVma x0 x1 x2 x3) = base x3 := by
  intros; simp only [execSfenceVma, ite_self, obase_next, obase_ite, base_State_illegal, base_State_setHart]

theorem base_execWfi : ∀ x0 x1, obase (base x1) (execWfi x0 x1) = base x1 := by
  intros; unfold execWfi; (try simp only [obase_next, obase_ite])
  repeat' (first | with_reducible rfl | (split <;> try simp only [obase_next, base_State_illegal, base_State_modHart]))

theorem base_execWrsNto : ∀ x0 x1, obase (base x1) (execWrsNto x0 x1) = base x1 := by
  intros; unfold execWrsNto; (try simp only [obase_next, obase_ite])
  repeat' (first | with_reducible rfl | (split <;> try simp only [obase_next, base_State_modHart]))

theorem base_execWrsNtoTimeout : ∀ x0 x1, obase (base x1) (execWrsNtoTimeout x0 x1) = base x1 := by
  intros; unfold execWrsNtoTimeout; (try simp only [])
  repeat' (first | with_reducible rfl | (split <;> try simp only [obase_next, base_State_illegal]))

theorem base_execWrsSto : ∀ x0 x1, obase (base x1) (execWrsSto x0 x1) = base x1 := by
  intros; unfold execWrsSto; (try simp only [obase_next, obase_ite])
  repeat' (first | with_reducible rfl | (split <;> try simp only [obase_next, base_State_modHart]))

theorem base_execWrsStoExpiry : ∀ x0 x1, obase (base x1) (execWrsStoExpiry x0 x1) = base x1 := by
  intros; unfold execWrsStoExpiry
  repeat' (first | with_reducible rfl | (split <;> try simp only [obase_next, base_State_modHart]))

theorem base_State_cboExec : ∀ x0 x1 x2 x3 x4 x5 x6, base (State.cboExec x0 x1 x2 x3 x4 x5 x6) = base x0 := by
  intros; unfold State.cboExec; (try simp only [base_ite, ite_self, base_State_fetch, base_State_enter])

theorem base_execCboClean : ∀ x0 x1 x2, obase (base x2) (execCboClean x0 x1 x2) = base x2 := by
  intros; simp only [execCboClean, obase_next, base_State_cboExec]

theorem base_execCboFlush : ∀ x0 x1 x2, obase (base x2) (execCboFlush x0 x1 x2) = base x2 := by
  intros; simp only [execCboFlush, obase_next, base_State_cboExec]

theorem base_execCboInval : ∀ x0 x1 x2, obase (base x2) (execCboInval x0 x1 x2) = base x2 := by
  intros; simp only [execCboInval, obase_next, base_State_cboExec]

theorem base_execCboZero : ∀ x0 x1 x2, obase (base x2) (execCboZero x0 x1 x2) = base x2 := by
  intros; simp only [execCboZero, obase_next, base_State_cboExec]

theorem base_State_hint (s : State) (h : Nat) (a : Access) (store : Bool) (f : State → Nat → Nat → EType → State) (hf : ∀ s c b t, base (f s c b t) = base s) :
    base (s.hint h a store f) = base s := by
  unfold State.hint
  simp only
  split
  · rfl
  · exact (hf ..).trans (base_State_transl ..)

theorem base_execPrefetchR : ∀ x0 x1 x2, obase (base x2) (execPrefetchR x0 x1 x2) = base x2 := by
  intros; simp only [execPrefetchR, implies_true, base_ite, ite_self, obase_next, base_State_hint, base_State_l1dFill, base_State_coreSend, base_State_setCline]

theorem base_execPrefetchW : ∀ x0 x1 x2, obase (base x2) (execPrefetchW x0 x1 x2) = base x2 := by
  intros; simp only [execPrefetchW, implies_true, base_ite, ite_self, obase_next, base_State_hint, base_State_l1dFill, base_State_setCline, base_State_askUnique]

theorem base_execPrefetchI : ∀ x0 x1 x2, obase (base x2) (execPrefetchI x0 x1 x2) = base x2 := by
  intros; simp only [execPrefetchI, implies_true, obase_next, base_State_hint, base_State_prefetchL2]

theorem base_execBranchResolve : ∀ x0 x1 x2, obase (base x2) (execBranchResolve x0 x1 x2) = base x2 := by
  intros; simp only [execBranchResolve, ite_self, obase_next, obase_ite, base_State_hartPump, base_State_squash, base_State_setCore]

theorem base_execInstructionBound : ∀ x0 x1 x2, obase (base x2) (execInstructionBound x0 x1 x2) = base x2 := by
  intros; unfold execInstructionBound; (try simp only [])
  repeat' (first | with_reducible rfl | assumption | (split <;> try simp only [base_ite, ite_self, obase_next, base_State_modHart, base_State_send, base_State_setReq, base_State_specReleased, base_State_detect, base_State_hartPump, base_State_l1iFill]) | (refine (base_foldl _ ?_ _ _).trans ?_ <;> (try intro _ _) <;> (try simp only [implies_true, base_foldl, base_ite, ite_self, base_State_modInfl, base_State_trainL2, base_State_usePf])))

theorem base_State_countCsr : ∀ x0 x1 x2 x3, base (State.countCsr x0 x1 x2 x3) = base x0 := by
  intros; simp only [State.countCsr, base_ite, ite_self, base_State_setCsr]

theorem base_execInstructionSquash : ∀ x0 x1 x2 x3, obase (base x3) (execInstructionSquash x0 x1 x2 x3) = base x3 := by
  intros; simp only [execInstructionSquash, implies_true, base_foldl, base_ite, ite_self, obase_next, obase_ite, base_State_squash, base_State_hartPump, base_State_hartEvent, base_State_specEvent]

theorem base_State_icountRetire : ∀ x0 x1, base (State.icountRetire x0 x1) = base x0 := by
  intros; unfold State.icountRetire; (try simp only [])
  repeat' (first | with_reducible rfl | (split <;> try simp only [implies_true, base_foldl, base_ite, ite_self, base_State_setCsrBits, base_State_haltHart, base_State_except]))

theorem base_State_stepHalt : ∀ x0 x1, base (State.stepHalt x0 x1) = base x0 := by
  intros; simp only [State.stepHalt, base_ite, ite_self, base_State_haltHart]

theorem base_execInstructionRetire : ∀ x0 x1 x2, obase (base x2) (execInstructionRetire x0 x1 x2) = base x2 := by
  intros; unfold execInstructionRetire; (try simp only [implies_true, base_foldl, obase_next, obase_ite, base_State_hartPump, base_State_stepHalt, base_State_icountRetire, base_State_hartEvent, base_State_countCsr])
  repeat' (first | with_reducible rfl | (split <;> try simp only [base_State_modHart, base_State_specBoundary, base_State_selfModify, base_State_modCore]))

theorem base_State_takeIrq : ∀ x0 x1 x2 x3, base (State.takeIrq x0 x1 x2 x3) = base x0 := by
  intros; simp only [State.takeIrq, base_State_trapFires, base_State_trap, base_State_specBoundary]

theorem base_execInterruptTaken (hb : BitVec 8) (cause : BitVec 6) (o : Oldest) (s : State) : obase (base s) (execInterruptTaken hb cause o s) = base s := by
  have k : ∀ (c : Prop) [Decidable c] (t u : State), base t = base s → base u = base s → obase (base s) (if c then ok t else ok u) = base s := by
    intro c _ t u e f
    split
    · exact e
    · exact f
  unfold execInterruptTaken
  refine (obase_ite ..).trans ?_
  split
  · rfl
  · generalize (s.hart hb.toNat) = x
    generalize x.infl = l
    cases o <;> cases l
    all_goals simp only
    all_goals first
      | rfl
      | (apply k <;> first | rfl | exact base_State_takeIrq .. | exact (base_State_takeIrq ..).trans (base_State_setCsr ..))

theorem base_execTrapReturn : ∀ x0 x1 x2, obase (base x2) (execTrapReturn x0 x1 x2) = base x2 := by
  intros; simp only [execTrapReturn, ite_self, obase_next, obase_ite, base_State_illegal, base_State_modHart, base_State_setCsr, base_State_predFlush]

theorem base_execPxBellSend : ∀ x0 x1 x2 x3 x4 x5 x6, obase (base x6) (execPxBellSend x0 x1 x2 x3 x4 x5 x6) = base x6 := by
  intros; unfold execPxBellSend; (try simp only [obase_next, obase_ite])
  repeat' (first | with_reducible rfl | (split <;> try simp only [obase_next, base_State_illegal, base_State_hartPump, base_State_launch]))

theorem base_execDoorbellArrival : ∀ x0 x1, obase (base x1) (execDoorbellArrival x0 x1) = base x1 := by
  intros; simp only [execDoorbellArrival, base_mk, ite_self, obase_next, obase_ite, base_State_modHart, base_State_setIrq]

theorem base_execPxBellSendStatus : ∀ x0 x1 x2, obase (base x2) (execPxBellSendStatus x0 x1 x2) = base x2 := by
  intros; unfold execPxBellSendStatus; (try simp only [])
  repeat' (first | with_reducible rfl | (split <;> try simp only [base_mk, obase_next, base_State_hartPump, base_State_finish]))

theorem base_execPxBellRecv : ∀ x0 x1 x2 x3, obase (base x3) (execPxBellRecv x0 x1 x2 x3) = base x3 := by
  intros; unfold execPxBellRecv; (try simp only [obase_next, obase_ite])
  repeat' (first | with_reducible rfl | (split <;> try simp only [obase_next, base_State_illegal, base_State_modHart]))

theorem base_execPxBellPeek : ∀ x0 x1 x2 x3, obase (base x3) (execPxBellPeek x0 x1 x2 x3) = base x3 := by
  intros; unfold execPxBellPeek; (try simp only [obase_next, obase_ite])
  repeat' (first | with_reducible rfl | (split <;> try simp only [obase_next, base_State_illegal, base_State_modHart]))

theorem base_execPxFenceAx : ∀ x0 x1 x2 x3 x4, obase (base x4) (execPxFenceAx x0 x1 x2 x3 x4) = base x4 := by
  intros; simp only [execPxFenceAx, ite_self, obase_next, obase_ite, base_State_illegal, base_State_hartPump, base_State_launch]

theorem base_State_probeAnswer : ∀ x0 x1 x2 x3, base (State.probeAnswer x0 x1 x2 x3) = base x0 := by
  intros; unfold State.probeAnswer; (try simp only [])
  repeat' (first | with_reducible rfl | (split <;> try simp only [base_ite, ite_self, base_State_hartPump, base_State_finish, base_State_modHart]))

theorem base_execPxFenceAxComplete : ∀ x0 x1 x2 x3, obase (base x3) (execPxFenceAxComplete x0 x1 x2 x3) = base x3 := by
  intros; unfold execPxFenceAxComplete
  repeat' (first | with_reducible rfl | (split <;> try simp only [obase_next, base_State_probeAnswer]))

end Sys2Proof.Laws
end

