-- ==== Sys2Proof/Laws/Base3.lean ====
section
/-! SUPPORT. What no operation changes but those that R390 and the queue name: the fuse array and the waiting commands. One lemma for each operation of AgentSteps, Ring, SysSteps, EngineSteps, HpSteps. -/
namespace Sys2Proof.Laws

open Sys2Proof.Machine

set_option linter.unusedSimpArgs false

theorem base_State_snooped : ∀ x0 x1 x2, base (State.snooped x0 x1 x2) = base x0 := by
  intros; unfold State.snooped; (try simp only [])
  repeat' (first | with_reducible rfl | (split <;> try simp only [base_ite, base_State_send, base_State_modCore, base_State_hartEvent, base_State_corePump, base_State_coreSnoop, base_State_gateSnoop]))

theorem base_State_snoopArrive : ∀ x0 x1 x2 x3, base (State.snoopArrive x0 x1 x2 x3) = base x0 := by
  intros; unfold State.snoopArrive; (try simp only [implies_true, base_State_receive, base_State_snooped])

theorem base_execSnpShared : ∀ x0 x1, obase (base x1) (execSnpShared x0 x1) = base x1 := by
  intros; simp only [execSnpShared, obase_next, base_State_snoopArrive]

theorem base_execSnpUnique : ∀ x0 x1, obase (base x1) (execSnpUnique x0 x1) = base x1 := by
  intros; simp only [execSnpUnique, obase_next, base_State_snoopArrive]

theorem base_execSnpUniqueToHome : ∀ x0 x1, obase (base x1) (execSnpUniqueToHome x0 x1) = base x1 := by
  intros; simp only [execSnpUniqueToHome, obase_next, base_State_snoopArrive]

theorem base_execSnpInvalidate : ∀ x0 x1, obase (base x1) (execSnpInvalidate x0 x1) = base x1 := by
  intros; simp only [execSnpInvalidate, obase_next, base_State_snoopArrive]

theorem base_execSnpClean : ∀ x0 x1, obase (base x1) (execSnpClean x0 x1) = base x1 := by
  intros; simp only [execSnpClean, obase_next, base_State_snoopArrive]

theorem base_execHoldWindowClose : ∀ x0 x1 x2, obase (base x2) (execHoldWindowClose x0 x1 x2) = base x2 := by
  intros; simp only [execHoldWindowClose, obase_next, base_State_corePump, base_State_closeWindow]

theorem base_State_onCore (s : State) (c : Nat) (f : State → Nat → State) (hf : ∀ s h, base (f s h) = base s) : base (s.onCore c f) = base s := by
  unfold State.onCore
  split
  · exact hf _ _
  · rfl

theorem base_State_takeParts : ∀ x0 x1 x2 x3 x4, base (State.takeParts x0 x1 x2 x3 x4) = base x0 := by
  intros; simp only [State.takeParts, base_State_modHart]

theorem base_State_clearTag : ∀ x0 x1 x2, base (State.clearTag x0 x1 x2) = base x0 := by
  intros; simp only [State.clearTag, base_State_modHart]

theorem base_State_ackGrant : ∀ x0 x1 x2, base (State.ackGrant x0 x1 x2) = base x0 := by
  intros; simp only [State.ackGrant, base_State_send, base_State_setReq]

theorem base_State_placeGrant : ∀ x0 x1 x2 x3 x4 x5, base (State.placeGrant x0 x1 x2 x3 x4 x5) = base x0 := by
  intros; unfold State.placeGrant; (try simp only [])
  repeat' (first | with_reducible rfl | (split <;> try simp only [base_ite, ite_self, base_State_l2Fill, base_State_l1iFill, base_State_l1dFill, base_State_setCline]))

theorem base_State_installed : ∀ x0 x1 x2 x3 x4 x5, base (State.installed x0 x1 x2 x3 x4 x5) = base x0 := by
  intros; simp only [State.installed, implies_true, base_foldl, base_ite, ite_self, base_State_shadowCompare, base_State_prefetchNext, base_State_l1iFill, base_State_l1dFill]

theorem base_State_coreGrant : ∀ x0 x1 x2 x3 x4 x5, base (State.coreGrant x0 x1 x2 x3 x4 x5) = base x0 := by
  intros; simp only [State.coreGrant, implies_true, base_ite, ite_self, base_State_placeGrant, base_State_ackGrant, base_State_onCore, base_State_installed, base_State_clearTag, base_State_openWindow, base_State_windowsCheck, base_State_corePump]

theorem base_State_specData : ∀ x0 x1 x2 x3 x4, base (State.specData x0 x1 x2 x3 x4) = base x0 := by
  intros; simp only [State.specData, implies_true, base_ite, ite_self, base_State_setReq, base_State_onCore, base_State_modHart, base_State_takeParts, base_State_setCline, base_State_corePump]

theorem base_State_coreData : ∀ x0 x1 x2 x3 x4 x5 x6, base (State.coreData x0 x1 x2 x3 x4 x5 x6) = base x0 := by
  intros; unfold State.coreData; (try simp only [base_ite, ite_self, base_State_setReq, base_State_ackGrant])
  repeat' (first | with_reducible rfl | assumption | (split <;> try simp only [implies_true, base_ite, ite_self, base_State_setReq, base_State_ackGrant, base_State_corePump, base_State_onCore, base_State_poisonFault, base_State_clearTag, base_State_finish, base_State_takeParts, base_State_installed, base_State_specData, base_State_coreGrant, base_State_setCline]) | (refine (base_State_onCore _ _ _ ?_).trans ?_ <;> (try intros) <;> (try simp only [base_State_setReq, base_State_l1iDrop])))

theorem base_execDataFwd : ∀ x0 x1, obase (base x1) (execDataFwd x0 x1) = base x1 := by
  intros; unfold execDataFwd; (try simp only [obase_next])
  repeat' (first | with_reducible rfl | assumption | (split <;> try simp only [implies_true, base_ite, ite_self, base_State_receive, base_State_gateResponse, base_State_coreData]) | (refine (base_State_receive _ _ _ ?_).trans ?_ <;> (try intros) <;> (try simp only [])))

theorem base_State_storeDone : ∀ x0 x1 x2, base (State.storeDone x0 x1 x2) = base x0 := by
  intros; unfold State.storeDone
  repeat' (first | with_reducible rfl | (split <;> try simp only [base_ite, ite_self, base_State_storeGone]))

theorem base_State_tagDone : ∀ x0 x1 x2, base (State.tagDone x0 x1 x2) = base x0 := by
  intros; unfold State.tagDone
  repeat' (first | with_reducible rfl | (split <;> try simp only [base_State_finish, base_State_clearTag]))

theorem base_State_coreComp : ∀ x0 x1 x2 x3, base (State.coreComp x0 x1 x2 x3) = base x0 := by
  intros; unfold State.coreComp; (try simp only [implies_true, base_ite, ite_self, base_State_ackGrant, base_State_setReq, base_State_coreGrant, base_State_setCline, base_State_l1iDrop, base_State_corePump, base_State_onCore, base_State_tagDone, base_State_storeDone])
  repeat' (first | with_reducible rfl | (split <;> try simp only [base_State_setReq, base_State_coreGrant]))

theorem base_State_corePull : ∀ x0 x1 x2, base (State.corePull x0 x1 x2) = base x0 := by
  intros; simp only [State.corePull, base_ite, ite_self, base_State_send, base_State_setReq, base_State_corePump, base_State_setCline]

theorem base_execDataPull : ∀ x0 x1, obase (base x1) (execDataPull x0 x1) = base x1 := by
  intros; unfold execDataPull; (try simp only [obase_next])
  repeat' (first | with_reducible rfl | assumption | (split <;> try simp only [base_ite, ite_self, base_State_send, base_State_setReq, base_State_gateResponse, base_State_corePull]) | (refine (base_State_receive _ _ _ ?_).trans ?_ <;> (try intros) <;> (try simp only [])))

theorem base_State_specRetried : ∀ x0 x1 x2, base (State.specRetried x0 x1 x2) = base x0 := by
  intros; simp only [State.specRetried, implies_true, base_State_setReq, base_State_corePump, base_State_onCore, base_State_modHart]

theorem base_State_retried : ∀ x0 x1 x2, base (State.retried x0 x1 x2) = base x0 := by
  intros; simp only [State.retried, implies_true, base_ite, ite_self, base_State_onCore, base_State_hartEvent, base_State_setReq, base_State_specRetried]

theorem base_execRetry : ∀ x0 x1, obase (base x1) (execRetry x0 x1) = base x1 := by
  intros; unfold execRetry; (try simp only [obase_next])
  repeat' (first | with_reducible rfl | assumption | (split <;> try simp only [base_ite, ite_self, base_State_gateResponse, base_State_retried]) | (refine (base_State_receive _ _ _ ?_).trans ?_ <;> (try intros) <;> (try simp only [])))

theorem base_execRetryBackoffExpiry : ∀ x0 x1 x2, obase (base x2) (execRetryBackoffExpiry x0 x1 x2) = base x2 := by
  intros; unfold execRetryBackoffExpiry
  repeat' (first | with_reducible rfl | (split <;> try simp only [ite_self, obase_next, obase_ite, base_State_send, base_State_setReq]))

theorem base_State_noteAxErr : ∀ x0 x1 x2 x3 x4, base (State.noteAxErr x0 x1 x2 x3 x4) = base x0 := by
  intros; unfold State.noteAxErr
  repeat' (first | with_reducible rfl | (split <;> try simp only [base_ite, ite_self, base_State_modHart]))

theorem base_State_storeLost : ∀ x0 x1 x2 x3 x4 x5, base (State.storeLost x0 x1 x2 x3 x4 x5) = base x0 := by
  intros; simp only [State.storeLost, base_State_errorEvent, base_State_windowCheck, base_State_windowStore, base_State_modHart]

theorem base_State_errorAtHart : ∀ x0 x1 x2 x3 x4 x5, base (State.errorAtHart x0 x1 x2 x3 x4 x5) = base x0 := by
  intros; unfold State.errorAtHart; (try simp only [base_State_clearTag])
  repeat' (first | with_reducible rfl | assumption | (split <;> try simp only [base_State_failInfl]) | (refine (base_foldl _ ?_ _ _).trans ?_ <;> (try intro _ _) <;> (try simp only [base_ite, base_State_noteAxErr, base_State_storeLost])))

theorem base_State_coreError : ∀ x0 x1 x2 x3 x4, base (State.coreError x0 x1 x2 x3 x4) = base x0 := by
  intros; unfold State.coreError; (try simp only [base_ite, ite_self, base_State_setReq, base_State_corePump])
  repeat' (first | with_reducible rfl | assumption | (split <;> try simp only [implies_true, base_ite, ite_self, base_State_setReq, base_State_setCline, base_State_onCore, base_State_hartEvent, base_State_except, base_State_probeAnswer, base_State_errorEvent, base_State_modHart, base_State_errorAtHart]) | (refine (base_State_onCore _ _ _ ?_).trans ?_ <;> (try intros) <;> (try simp only [base_State_setReq, base_State_setCline])))

theorem base_execMemData : ∀ x0 x1, obase (base x1) (execMemData x0 x1) = base x1 := by
  intros; unfold execMemData; (try simp only [implies_true, obase_next, base_State_receive, base_State_homeMemData])

theorem base_State_dmAnswer : ∀ x0 x1 x2 x3 x4, base (State.dmAnswer x0 x1 x2 x3 x4) = base x0 := by
  intros; simp only [State.dmAnswer, base_mk, base_ite, ite_self]

theorem base_execIoData : ∀ x0 x1, obase (base x1) (execIoData x0 x1) = base x1 := by
  intros; unfold execIoData; (try simp only [obase_next])
  repeat' (first | with_reducible rfl | assumption | (split <;> try simp only [implies_true, base_ite, base_State_setReq, base_State_corePump, base_State_onCore, base_State_probeAnswer, base_State_failInfl, base_State_clearTag, base_State_takeParts, base_State_dmAnswer]) | (refine (base_State_receive _ _ _ ?_).trans ?_ <;> (try intros) <;> (try simp only [])) | (refine (base_State_onCore _ _ _ ?_).trans ?_ <;> (try intros) <;> (try simp only [base_State_setReq])))

theorem base_State_rset : ∀ x0 x1 x2 x3 x4, base (State.rset x0 x1 x2 x3 x4) = base x0 := by
  intros; simp only [State.rset, base_State_setF]

theorem base_State_setRHead : ∀ x0 x1 x2, base (State.setRHead x0 x1 x2) = base x0 := by
  intros; simp only [State.setRHead, base_State_rset]

theorem base_State_setRState : ∀ x0 x1 x2, base (State.setRState x0 x1 x2) = base x0 := by
  intros; simp only [State.setRState, base_State_rset]

theorem base_State_rReject : ∀ x0 x1, base (State.rReject x0 x1) = base x0 := by
  intros; simp only [State.rReject, base_State_rset]

theorem base_State_ringReset : ∀ x0 x1, base (State.ringReset x0 x1) = base x0 := by
  intros; simp only [State.ringReset, implies_true, base_foldl, base_State_setRegWord]

theorem base_State_ringSync : ∀ x0 x1 x2, base (State.ringSync x0 x1 x2) = base x0 := by
  intros; simp only [State.ringSync, base_ite, ite_self, base_State_setRState]

theorem base_State_tailWrite : ∀ x0 x1 x2, base (State.tailWrite x0 x1 x2) = base x0 := by
  intros; simp only [State.tailWrite, base_ite, ite_self, base_State_rset, base_State_rReject]

theorem base_State_cplHeadWrite : ∀ x0 x1 x2, base (State.cplHeadWrite x0 x1 x2) = base x0 := by
  intros; simp only [State.cplHeadWrite, base_ite, ite_self, base_State_rset, base_State_rReject]

theorem base_State_ringWrite : ∀ x0 x1 x2 x3, base (State.ringWrite x0 x1 x2 x3) = base x0 := by
  intros; simp only [State.ringWrite, base_ite, ite_self, base_State_writeReg, base_State_rReject]

theorem base_State_readRange (s : State) (w : Nat) (b : Bool) (n : Nat) (pa k : Nat) (acc : List (List Nat)) : base (s.readRange w b n pa k acc).2.2.2 = base s := by
  induction n generalizing s pa k acc with
  | zero => rfl
  | succ n ih =>
    cases k with
    | zero => rfl
    | succ k =>
      simp only [State.readRange]
      split
      · exact base_State_cohRead ..
      · exact base_State_cohRead ..
      · split
        · exact base_State_cohRead ..
        · exact (ih ..).trans (base_State_cohRead ..)

theorem base_State_jobRead : ∀ x0 x1 x2 x3, base (State.jobRead x0 x1 x2 x3).2.2 = base x0 := by
  intros; simp only [State.jobRead, base_State_readRange]

theorem base_State_writeRange (s : State) (w n pa : Nat) (l : List Nat) : base (s.writeRange w n pa l).2 = base s := by
  induction n generalizing s pa l with
  | zero => rfl
  | succ n ih =>
    simp only [State.writeRange]
    split
    · rfl
    · split
      · exact base_State_cohWrite ..
      · exact (ih ..).trans (base_State_cohWrite ..)

theorem base_State_jobWrite : ∀ x0 x1 x2 x3, base (State.jobWrite x0 x1 x2 x3).2 = base x0 := by
  intros; simp only [State.jobWrite, base_State_writeRange]

theorem base_State_unspecify (s : State) (w n : Nat) (pa k : Nat) : base (s.unspecify w n pa k) = base s := by
  induction n generalizing s pa k with
  | zero => rfl
  | succ n ih =>
    cases k with
    | zero => rfl
    | succ k =>
      simp only [State.unspecify]
      exact ((ih ..).trans (base_State_cohWrite ..)).trans (base_mk ..)

theorem base_State_setVf : ∀ x0 x1 x2, base (State.setVf x0 x1 x2) = base x0 := by
  intros; simp only [State.setVf, base_mk]

theorem base_State_setHp : ∀ x0 x1 x2, base (State.setHp x0 x1 x2) = base x0 := by
  intros; simp only [State.setHp, base_mk]

theorem base_State_modHp : ∀ x0 x1 x2, base (State.modHp x0 x1 x2) = base x0 := by
  intros; simp only [State.modHp, base_State_setHp]

theorem base_State_tlp : ∀ x0 x1 x2, base (State.tlp x0 x1 x2) = base x0 := by
  intros; simp only [State.tlp, base_State_modHp]

theorem base_State_vfInt : ∀ x0 x1 x2, base (State.vfInt x0 x1 x2) = base x0 := by
  intros; simp only [State.vfInt, base_ite, ite_self, base_State_tlp, base_State_setVf]

theorem base_State_cplOne (s : State) (q : Ring) (wid : Nat) (jobs : List Job) (irq : State → Job → State) (hf : ∀ s j, base (irq s j) = base s) :
    pbase (base s) (s.cplOne q wid jobs irq) = base s := by
  unfold State.cplOne
  repeat' (first | with_reducible rfl | (split <;> try simp only [base_ite, pbase_ite, pbase_some, pbase_none, base_State_jobWrite, base_State_rset, base_State_setRState, hf, ite_self]))

theorem base_State_cplOne_sm (s : State) (q : Ring) (wid : Nat) (jobs : List Job) (irq : State → Job → State) (hf : ∀ s j, base (irq s j) = base s) (a : List Job) (t : State)
    (h : s.cplOne q wid jobs irq = some (a, t)) : base t = base s := by
  have h' := base_State_cplOne s q wid jobs irq hf
  rw [h] at h'
  exact h'

theorem base_State_cplPump (s : State) (q : Ring) (wid : Nat) (jobs : List Job) (irq : State → Job → State) (hf : ∀ s j, base (irq s j) = base s) (n : Nat) :
    base (s.cplPump q wid jobs irq n).2 = base s := by
  induction n generalizing s jobs with
  | zero => rfl
  | succ n ih =>
    unfold State.cplPump
    split
    · rfl
    · exact (ih _ _).trans (base_State_cplOne_sm _ _ _ _ _ hf _ _ (by assumption))

theorem base_State_descriptor : ∀ x0 x1 x2 x3, base (State.descriptor x0 x1 x2 x3).2 = base x0 := by
  intros; simp only [State.descriptor, snd_ite, ite_self, base_State_jobRead]

theorem base_execCoreMtimeWrite : ∀ x0 x1 x2, obase (base x2) (execCoreMtimeWrite x0 x1 x2) = base x2 := by
  intros; simp only [execCoreMtimeWrite, implies_true, base_State_keeperOnly, base_State_setRegWord]

theorem base_execCoreMtimecmpWrite : ∀ x0 x1 x2 x3, obase (base x3) (execCoreMtimecmpWrite x0 x1 x2 x3) = base x3 := by
  intros; simp only [execCoreMtimecmpWrite, implies_true, base_State_guarded, base_State_setRegWord]

theorem base_execMtimeCompareMatch : ∀ x0 x1 x2, obase (base x2) (execMtimeCompareMatch x0 x1 x2) = base x2 := by
  intros; simp only [execMtimeCompareMatch, base_ite, ite_self, obase_next, base_State_modHart]

theorem base_execImsicSeteipnumWrite : ∀ x0 x1 x2 x3 x4 x5 x6, obase (base x6) (execImsicSeteipnumWrite x0 x1 x2 x3 x4 x5 x6) = base x6 := by
  intros; simp only [execImsicSeteipnumWrite, implies_true, ite_self, obase_next, obase_ite, base_State_holdWrite, base_State_guardedAt, base_State_setIrq]

theorem base_execGpioInputChange : ∀ x0 x1 x2, obase (base x2) (execGpioInputChange x0 x1 x2) = base x2 := by
  intros; simp only [execGpioInputChange, base_mk, ite_self, obase_next, obase_ite, base_State_setAplic]

theorem base_State_sendMsi : ∀ x0 x1, base (State.sendMsi x0 x1) = base x0 := by
  intros; simp only [State.sendMsi, base_mk, base_ite, ite_self, base_State_setAplic, base_State_setIrq]

theorem base_execAplicSourceEvent : ∀ x0 x1, obase (base x1) (execAplicSourceEvent x0 x1) = base x1 := by
  intros; simp only [execAplicSourceEvent, ite_self, obase_next, obase_ite, base_State_raiseSrc, base_State_sendMsi]

theorem base_State_specEff : ∀ x0 x1, base (State.specEff x0 x1) = base x0 := by
  intros; simp only [State.specEff, base_State_setF]

theorem base_State_specWrite : ∀ x0 x1 x2, base (State.specWrite x0 x1 x2) = base x0 := by
  intros; unfold State.specWrite; (try simp only [])
  repeat' (first | with_reducible rfl | (split <;> try simp only [base_ite, ite_self, base_State_modCore, base_State_specBoundary]))

theorem base_execCoreSpecCtrlWrite : ∀ x0 x1 x2 x3, obase (base x3) (execCoreSpecCtrlWrite x0 x1 x2 x3) = base x3 := by
  intros; simp only [execCoreSpecCtrlWrite, implies_true, ite_self, obase_next, obase_ite, base_State_holdWrite, base_State_guardedAt, base_State_specWrite]

theorem base_State_stall : ∀ x0 x1 x2, base (State.stall x0 x1 x2) = base x0 := by
  intros; unfold State.stall
  repeat' (first | with_reducible rfl | (split <;> try simp only [base_State_modHart]))

theorem base_State_broadcast (s : State) (w : Issuer) (f : State → State) (hf : ∀ s, base (f s) = base s) : obase (base s) (s.broadcast w f) = base s := by
  simp only [State.broadcast, ok, base_mk, obase_ite, obase_next, hf, base_State_stall, base_State_refuse, ite_self]

theorem base_execCoreMemattrWrite : ∀ x0 x1 x2 x3 x4, obase (base x4) (execCoreMemattrWrite x0 x1 x2 x3 x4) = base x4 := by
  intros; simp only [execCoreMemattrWrite, implies_true, base_State_broadcast, base_State_writeReg]

theorem base_execBroadcastComplete : ∀ x0, obase (base x0) (execBroadcastComplete x0) = base x0 := by
  intros; simp only [execBroadcastComplete, implies_true, base_mk, base_foldl, obase_next, base_State_accept, base_State_stall]

theorem base_State_shelfWrite : ∀ x0 x1 x2 x3 x4, obase (base x0) (State.shelfWrite x0 x1 x2 x3 x4) = base x0 := by
  intros; simp only [State.shelfWrite, base_mk, ite_self, obase_next, obase_ite, base_State_refuse, base_State_writeReg, base_State_accept, base_State_setF, base_State_stall]

theorem base_execLlcShelfWrite : ∀ x0 x1 x2 x3, obase (base x3) (execLlcShelfWrite x0 x1 x2 x3) = base x3 := by
  intros; simp only [execLlcShelfWrite, base_State_shelfWrite]

theorem base_execLlcWidClassWrite : ∀ x0 x1 x2 x3, obase (base x3) (execLlcWidClassWrite x0 x1 x2 x3) = base x3 := by
  intros; simp only [execLlcWidClassWrite, base_State_shelfWrite]

theorem base_execLlcShelfCtrlWrite : ∀ x0 x1 x2, obase (base x2) (execLlcShelfCtrlWrite x0 x1 x2) = base x2 := by
  intros; simp only [execLlcShelfCtrlWrite, base_State_shelfWrite]

theorem base_execShelfFlushComplete : ∀ x0, obase (base x0) (execShelfFlushComplete x0) = base x0 := by
  intros; simp only [execShelfFlushComplete, implies_true, base_mk, base_foldl, ite_self, obase_next, obase_ite, base_State_flushRound, base_State_setF, base_State_accept, base_State_stall]

theorem base_State_setEngine : ∀ x0 x1 x2, base (State.setEngine x0 x1 x2) = base x0 := by
  intros; simp only [State.setEngine, base_mk]

theorem base_State_setChan : ∀ x0 x1 x2 x3, base (State.setChan x0 x1 x2 x3) = base x0 := by
  intros; simp only [State.setChan, base_State_setEngine]

theorem base_State_modChan : ∀ x0 x1 x2 x3, base (State.modChan x0 x1 x2 x3) = base x0 := by
  intros; simp only [State.modChan, base_State_setChan]

theorem base_State_chanSync : ∀ x0 x1 x2, base (State.chanSync x0 x1 x2) = base x0 := by
  intros; simp only [State.chanSync, base_State_ringSync]

theorem base_State_chanInt : ∀ x0 x1 x2, base (State.chanInt x0 x1 x2) = base x0 := by
  intros; unfold State.chanInt; (try simp only [base_ite, ite_self, base_State_setIrq])
  repeat' (first | with_reducible rfl | (split <;> try simp only [base_State_vfInt]))

theorem base_State_chanPump : ∀ x0 x1 x2, base (State.chanPump x0 x1 x2) = base x0 := by
  intros; simp only [State.chanPump, implies_true, base_State_cplPump, base_State_chanInt, base_State_chanSync, base_State_modChan]

theorem base_State_deReject : ∀ x0 x1 x2, base (State.deReject x0 x1 x2) = base x0 := by
  intros; simp only [State.deReject, base_State_setF]

theorem base_State_chanStop : ∀ x0 x1 x2, base (State.chanStop x0 x1 x2) = base x0 := by
  intros; simp only [State.chanStop, base_State_modChan, base_State_chanSync, base_State_setRHead]

theorem base_execDeChCfgWrite : ∀ x0 x1 x2 x3 x4, obase (base x4) (execDeChCfgWrite x0 x1 x2 x3 x4) = base x4 := by
  intros; simp only [execDeChCfgWrite, implies_true, base_ite, ite_self, base_State_keeperAt, base_State_writeReg, base_State_deReject, base_State_modChan, base_State_ringReset, base_State_chanStop, base_State_chanSync]

theorem base_execDeChTailWrite : ∀ x0 x1 x2 x3 x4, obase (base x4) (execDeChTailWrite x0 x1 x2 x3 x4) = base x4 := by
  intros; simp only [execDeChTailWrite, implies_true, base_State_guardedAt, base_State_chanSync, base_State_tailWrite]

theorem base_execDeChCplHeadWrite : ∀ x0 x1 x2 x3 x4, obase (base x4) (execDeChCplHeadWrite x0 x1 x2 x3 x4) = base x4 := by
  intros; simp only [execDeChCplHeadWrite, implies_true, base_State_guardedAt, base_State_cplHeadWrite]

theorem base_execDeChRingWrite : ∀ x0 x1 x2 x3 x4 x5, obase (base x5) (execDeChRingWrite x0 x1 x2 x3 x4 x5) = base x5 := by
  intros; simp only [execDeChRingWrite, implies_true, base_State_guardedAt, base_State_ringWrite]

theorem base_State_fetchDesc : ∀ x0 x1 x2, base (State.fetchDesc x0 x1 x2) = base x0 := by
  intros; unfold State.fetchDesc; (try simp only [base_ite])
  repeat' (first | with_reducible rfl | (split <;> try simp only [base_State_descriptor, base_State_setRState, base_State_setF, base_State_chanSync, base_State_setRHead, base_State_modChan]))

theorem base_execDescriptorFetch : ∀ x0 x1 x2, obase (base x2) (execDescriptorFetch x0 x1 x2) = base x2 := by
  intros; unfold execDescriptorFetch; (try simp only [implies_true, obase_next, base_State_served, base_State_fetchDesc])

theorem base_State_chooseChan : ∀ x0 x1 x2, pbase (base x0) (State.chooseChan x0 x1 x2) = base x0 := by
  intros; unfold State.chooseChan; (try simp only [])
  repeat' (first | with_reducible rfl | (split <;> try simp only [implies_true, base_foldl, pbase_some, pbase_none, pbase_ite, base_State_modChan, base_State_setEngine]))

theorem base_State_chooseChan_some : ∀ x0 x1 x2 a t, State.chooseChan x0 x1 x2 = some (a, t) → base t = base x0 := by
  intro x0 x1 x2 a t h; have h' := base_State_chooseChan x0 x1 x2; rw [h] at h'; exact h'

theorem base_State_modJob : ∀ x0 x1 x2 x3 x4, base (State.modJob x0 x1 x2 x3 x4) = base x0 := by
  intros; simp only [State.modJob, base_State_modChan]

theorem base_State_setScan : ∀ x0 x1 x2 x3, base (State.setScan x0 x1 x2 x3) = base x0 := by
  intros; simp only [State.setScan, base_State_setEngine]

theorem base_State_scanChunk : ∀ x0 x1 x2, base (State.scanChunk x0 x1 x2) = base x0 := by
  intros; simp only [State.scanChunk, base_State_modChan]

theorem base_State_scanEnd : ∀ x0 x1 x2 x3 x4, base (State.scanEnd x0 x1 x2 x3 x4) = base x0 := by
  intros; simp only [State.scanEnd, base_ite, ite_self, base_State_setF, base_State_incSat, base_State_setRegWord, base_State_chanInt]

theorem base_State_scanBegin : ∀ x0 x1 x2, base (State.scanBegin x0 x1 x2) = base x0 := by
  intros; simp only [State.scanBegin, base_ite, ite_self, base_State_setF, base_State_setScan, base_State_scanEnd, base_State_scanChunk]

theorem base_State_scanStep : ∀ x0 x1 x2 x3 x4 x5 x6, base (State.scanStep x0 x1 x2 x3 x4 x5 x6) = base x0 := by
  intros; simp only [State.scanStep, base_ite, ite_self, base_State_scanEnd, base_State_setScan, base_State_scanChunk, base_State_scanBegin]

theorem base_State_jobEnd : ∀ x0 x1 x2 x3 x4 x5 x6, base (State.jobEnd x0 x1 x2 x3 x4 x5 x6) = base x0 := by
  intros; unfold State.jobEnd; (try simp only [])
  repeat' (first | with_reducible rfl | (split <;> try simp only [base_State_modChan, base_State_scanStep, base_State_modJob]))

theorem base_State_jobFail : ∀ x0 x1 x2 x3 x4, base (State.jobFail x0 x1 x2 x3 x4) = base x0 := by
  intros; simp only [State.jobFail, base_mk, base_State_jobEnd]

theorem base_State_dispatch (s : State) (e : Nat) (t : UnitType) : base (s.dispatch e t) = base s := by
  have hp : ∀ (c : Nat) (s1 : State), (if t = .none then ((List.range 32).find? (fun c => (s.eligible e c .none).isSome)).map (fun c => (c, s))
      else s.chooseChan e t) = some (c, s1) → base s1 = base s := by
    intro c s1 h
    split at h
    · obtain ⟨_, _, h⟩ := Option.map_eq_some_iff.mp h
      injection h with _ h
      rw [h]
    · exact base_State_chooseChan_some _ _ _ _ _ h
  simp only [State.dispatch, base_ite]
  split
  · rfl
  · split
    · rfl
    · split
      · rfl
      · refine Eq.trans ?_ (hp _ _ (by assumption))
        simp only [base_ite, base_State_jobEnd, base_State_jobFail, base_State_modChan, base_State_modJob, ite_self]
        refine base_foldl _ ?_ _ _
        intro _ _
        split
        · rfl
        · split
          · exact base_State_modJob ..
          · rfl

theorem base_State_enginePump : ∀ x0 x1, base (State.enginePump x0 x1) = base x0 := by
  intros; simp only [State.enginePump, implies_true, base_foldl, base_State_chanPump]

theorem base_State_dispatchRecords : ∀ x0 x1 x2, base (State.dispatchRecords x0 x1 x2) = base x0 := by
  intros; simp only [State.dispatchRecords, implies_true, base_State_served, base_State_enginePump]

theorem base_execJobDispatch : ∀ x0 x1 x2, obase (base x2) (execJobDispatch x0 x1 x2) = base x2 := by
  intros; unfold execJobDispatch; (try simp only [obase_next, base_State_dispatchRecords, base_State_dispatch])

theorem base_State_jobStep (s : State) (de : Fin 2) (ch : Fin 32) (cmd : Instr) (f : State → State) (hf : ∀ s, base (f s) = base s) : base (s.jobStep de ch cmd f) = base s :=
  base_State_served _ _ _ _ _ (fun s => (base_State_chanPump ..).trans (hf s))

theorem base_execNop : ∀ x0 x1 x2 x3, obase (base x3) (execNop x0 x1 x2 x3) = base x3 := by
  intros; unfold execNop; (try simp only [obase_next])
  repeat' (first | with_reducible rfl | assumption | (split <;> try simp only [base_State_jobEnd]) | (refine (base_State_jobStep _ _ _ _ _ ?_).trans ?_ <;> (try intros) <;> (try simp only [])))

theorem base_State_copyRange (s : State) (w n a b k : Nat) : base (s.copyRange w n a b k).2.2 = base s := by
  induction n generalizing s a b k with
  | zero => rfl
  | succ n ih =>
    cases k with
    | zero => rfl
    | succ k =>
      simp only [State.copyRange]
      split
      · exact base_State_readRange ..
      · split
        · exact (base_State_cohWrite ..).trans (base_State_readRange ..)
        · exact (ih ..).trans ((base_State_cohWrite ..).trans (base_State_readRange ..))

theorem base_State_copyJob : ∀ x0 x1 x2 x3, base (State.copyJob x0 x1 x2 x3) = base x0 := by
  intros; unfold State.copyJob; (try simp only [])
  repeat' (first | with_reducible rfl | (split <;> try simp only [base_ite, ite_self, base_State_copyRange, base_State_jobFail, base_State_unspecify, base_State_jobEnd]))

theorem base_execCopy : ∀ x0 x1 x2 x3, obase (base x3) (execCopy x0 x1 x2 x3) = base x3 := by
  intros; unfold execCopy; (try simp only [implies_true, obase_next, base_State_jobStep, base_State_copyJob])

theorem base_State_fillJob : ∀ x0 x1 x2 x3, base (State.fillJob x0 x1 x2 x3) = base x0 := by
  intros; unfold State.fillJob; (try simp only [])
  repeat' (first | with_reducible rfl | (split <;> try simp only [base_ite, ite_self, base_State_jobWrite, base_State_jobFail, base_State_unspecify, base_State_jobEnd]))

theorem base_execFill : ∀ x0 x1 x2 x3, obase (base x3) (execFill x0 x1 x2 x3) = base x3 := by
  intros; unfold execFill; (try simp only [implies_true, obase_next, base_State_jobStep, base_State_fillJob])

theorem base_State_compactFail : ∀ x0 x1 x2 x3 x4, base (State.compactFail x0 x1 x2 x3 x4) = base x0 := by
  intros; simp only [State.compactFail, base_State_jobFail, base_State_unspecify]

theorem base_State_compressJob : ∀ x0 x1 x2 x3, base (State.compressJob x0 x1 x2 x3) = base x0 := by
  intros; unfold State.compressJob; (try simp only [])
  repeat' (first | with_reducible rfl | (split <;> try simp only [base_ite, ite_self, base_State_jobFail, base_State_jobRead, base_State_compactFail, base_State_jobWrite, base_State_jobEnd]))

theorem base_execCompress : ∀ x0 x1 x2 x3, obase (base x3) (execCompress x0 x1 x2 x3) = base x3 := by
  intros; unfold execCompress; (try simp only [implies_true, obase_next, base_State_jobStep, base_State_compressJob])

theorem base_State_decompressJob : ∀ x0 x1 x2 x3, base (State.decompressJob x0 x1 x2 x3) = base x0 := by
  intros; unfold State.decompressJob; (try simp only [])
  repeat' (first | with_reducible rfl | (split <;> try simp only [base_ite, ite_self, base_State_jobFail, base_State_jobRead, base_State_jobWrite, base_State_compactFail, base_State_jobEnd]))

theorem base_execDecompress : ∀ x0 x1 x2 x3, obase (base x3) (execDecompress x0 x1 x2 x3) = base x3 := by
  intros; unfold execDecompress; (try simp only [implies_true, obase_next, base_State_jobStep, base_State_decompressJob])

theorem base_State_collate : ∀ x0 x1 x2 x3 x4, base (State.collate x0 x1 x2 x3 x4) = base x0 := by
  intros; unfold State.collate; (try simp only [snd_ite])
  repeat' (first | with_reducible rfl | (split <;> try simp only [base_ite, ite_self, base_State_jobWrite, base_State_jobFail, base_State_jobRead, base_State_setF, base_State_jobEnd]))

theorem base_execCollate : ∀ x0 x1 x2 x3 x4, obase (base x4) (execCollate x0 x1 x2 x3 x4) = base x4 := by
  intros; unfold execCollate; (try simp only [implies_true, obase_next, base_State_jobStep, base_State_collate])

theorem base_State_chanReset : ∀ x0 x1 x2, base (State.chanReset x0 x1 x2) = base x0 := by
  intros; simp only [State.chanReset, implies_true, base_foldl, base_State_scanEnd, base_State_setRState, base_State_modChan]

theorem base_execChannelReset : ∀ x0 x1 x2 x3, obase (base x3) (execChannelReset x0 x1 x2 x3) = base x3 := by
  intros; simp only [execChannelReset, implies_true, base_State_guardedAt, base_State_chanReset]

theorem base_State_chanFresh : ∀ x0 x1 x2, base (State.chanFresh x0 x1 x2) = base x0 := by
  intros; simp only [State.chanFresh, implies_true, base_foldl, base_State_unspecify, base_State_modChan, base_State_ringReset]

theorem base_execChannelResetComplete : ∀ x0 x1 x2, obase (base x2) (execChannelResetComplete x0 x1 x2) = base x2 := by
  intros; simp only [execChannelResetComplete, implies_true, ite_self, obase_next, obase_ite, base_State_served, base_State_chanFresh]

theorem base_execDeWindowReset : ∀ x0, obase (base x0) (execDeWindowReset x0) = base x0 := by
  intros; simp only [execDeWindowReset, implies_true, base_foldl, obase_next, base_State_setEngine]

theorem base_execDeScanCfgWrite : ∀ x0 x1 x2 x3 x4 x5, obase (base x5) (execDeScanCfgWrite x0 x1 x2 x3 x4 x5) = base x5 := by
  intros; simp only [execDeScanCfgWrite, implies_true, base_ite, ite_self, base_State_guardedAt, base_State_writeReg, base_State_setF, base_State_scanBegin]

theorem base_execScanRunStart : ∀ x0 x1 x2, obase (base x2) (execScanRunStart x0 x1 x2) = base x2 := by
  intros; simp only [execScanRunStart, ite_self, obase_next, obase_ite, base_State_incSat, base_State_scanBegin]

theorem base_State_hpErr : ∀ x0 x1 x2 x3, base (State.hpErr x0 x1 x2 x3) = base x0 := by
  intros; simp only [State.hpErr, base_State_send]

theorem base_State_frozenRead : ∀ x0 x1 x2 x3, base (State.frozenRead x0 x1 x2 x3) = base x0 := by
  intros; simp only [State.frozenRead, base_State_send, base_State_rasError, base_State_incSat]

theorem base_State_frozenWrite : ∀ x0 x1 x2 x3, base (State.frozenWrite x0 x1 x2 x3) = base x0 := by
  intros; simp only [State.frozenWrite, base_State_send, base_State_incSat]

theorem base_State_hpRequest : ∀ x0 x1 x2 x3, base (State.hpRequest x0 x1 x2 x3) = base x0 := by
  intros; simp only [State.hpRequest, base_State_modHp]

theorem base_State_hpRead : ∀ x0 x1 x2, base (State.hpRead x0 x1 x2) = base x0 := by
  intros; unfold State.hpRead; (try simp only [base_ite, base_State_hpErr])
  repeat' (first | with_reducible rfl | (split <;> try simp only [base_ite, ite_self, base_State_hpErr, base_State_send, base_State_frozenRead, base_State_hpRequest]))

theorem base_State_hpWrite : ∀ x0 x1 x2 x3 x4, base (State.hpWrite x0 x1 x2 x3 x4) = base x0 := by
  intros; unfold State.hpWrite; (try simp only [base_ite, base_State_hpErr])
  repeat' (first | with_reducible rfl | (split <;> try simp only [base_ite, ite_self, base_State_send, base_State_hpErr, base_State_modHp, base_State_frozenWrite, base_State_hpRequest, base_State_tlp]))

theorem base_State_freezeRp : ∀ x0 x1 x2 x3, base (State.freezeRp x0 x1 x2 x3) = base x0 := by
  intros; unfold State.freezeRp; (try simp only [base_ite, base_State_errorEvent])
  repeat' (first | with_reducible rfl | assumption | (split <;> try simp only [base_ite, ite_self, base_State_frozenRead, base_State_frozenWrite]) | (refine (base_foldl _ ?_ _ _).trans ?_ <;> (try intro _ _) <;> (try simp only [base_State_setF, base_State_modHp])))

theorem base_execFreeze : ∀ x0 x1 x2 x3 x4, obase (base x4) (execFreeze x0 x1 x2 x3 x4) = base x4 := by
  intros; simp only [execFreeze, implies_true, base_ite, ite_self, base_State_keeperAt, base_State_writeReg, base_State_freezeRp]

theorem base_execReleaseFreeze : ∀ x0 x1 x2 x3 x4, obase (base x4) (execReleaseFreeze x0 x1 x2 x3 x4) = base x4 := by
  intros; simp only [execReleaseFreeze, implies_true, base_ite, ite_self, base_State_keeperAt, base_State_writeReg, base_State_setF, base_State_modHp, base_State_freezeRp]

theorem base_State_setQueue : ∀ x0 x1 x2, base (State.setQueue x0 x1 x2) = base x0 := by
  intros; simp only [State.setQueue, base_mk]

theorem base_State_modQueue : ∀ x0 x1 x2, base (State.modQueue x0 x1 x2) = base x0 := by
  intros; simp only [State.modQueue, base_State_setQueue]

theorem base_State_invalPump : ∀ x0 x1, base (State.invalPump x0 x1) = base x0 := by
  intros; simp only [State.invalPump, implies_true, base_foldl, base_ite, ite_self, base_State_tlp, base_State_setVf]

theorem base_State_squashQueue : ∀ x0 x1, base (State.squashQueue x0 x1) = base x0 := by
  intros; simp only [State.squashQueue, base_State_setQueue]

theorem base_State_flr : ∀ x0 x1 x2, base (State.flr x0 x1 x2) = base x0 := by
  intros; simp only [State.flr, implies_true, base_foldl, base_ite, ite_self, base_State_setF, base_State_chanReset, base_State_setRState, base_State_squashQueue, base_State_modHp, base_State_setVf]

theorem base_execInitiateFlr : ∀ x0 x1, obase (base x1) (execInitiateFlr x0 x1) = base x1 := by
  intros; simp only [execInitiateFlr, obase_next, base_State_flr]

theorem base_State_viRemoved : ∀ x0 x1, base (State.viRemoved x0 x1) = base x0 := by
  intros; simp only [State.viRemoved, implies_true, base_foldl, base_State_setF, base_State_setVf, base_State_setRegWord]

theorem base_State_flrEnd : ∀ x0 x1, base (State.flrEnd x0 x1) = base x0 := by
  intros; simp only [State.flrEnd, implies_true, base_foldl, base_ite, ite_self, base_State_modHp, base_State_tlp, base_State_unspecify, base_State_ringReset, base_State_setQueue, base_State_record, base_State_setF, base_State_setVf, base_State_viRemoved]

theorem base_execFlrComplete : ∀ x0 x1, obase (base x1) (execFlrComplete x0 x1) = base x1 := by
  intros; simp only [execFlrComplete, implies_true, obase_next, base_State_served, base_State_flrEnd]

theorem base_State_removeAll : ∀ x0, base (State.removeAll x0) = base x0 := by
  intros; simp only [State.removeAll, implies_true, base_mk, base_foldl, base_State_flr]

theorem base_execVfEnableClear : ∀ x0, obase (base x0) (execVfEnableClear x0) = base x0 := by
  intros; simp only [execVfEnableClear, obase_next, base_State_removeAll]

theorem base_State_epDown : ∀ x0, base (State.epDown x0) = base x0 := by
  intros; simp only [State.epDown, base_State_removeAll, base_State_modHp, base_State_setF]

theorem base_execBusMasterEnableClear : ∀ x0 x1, obase (base x1) (execBusMasterEnableClear x0 x1) = base x1 := by
  intros; simp only [execBusMasterEnableClear, base_mk, ite_self, obase_next, obase_ite, base_State_modHp, base_State_setVf]

theorem base_State_pfInt : ∀ x0, base (State.pfInt x0) = base x0 := by
  intros; simp only [State.pfInt, base_mk, base_ite, ite_self, base_State_tlp]

theorem base_State_vfPump : ∀ x0 x1, base (State.vfPump x0 x1) = base x0 := by
  intros; simp only [State.vfPump, implies_true, base_foldl, base_ite, ite_self, base_State_vfInt, base_State_setVf]

theorem base_State_pfPump : ∀ x0, base (State.pfPump x0) = base x0 := by
  intros; simp only [State.pfPump, base_mk, base_ite, ite_self, base_State_pfInt, base_State_tlp]

theorem base_execBusMasterEnableSet : ∀ x0 x1, obase (base x1) (execBusMasterEnableSet x0 x1) = base x1 := by
  intros; simp only [execBusMasterEnableSet, base_mk, ite_self, obase_next, obase_ite, base_State_pfPump, base_State_vfPump, base_State_setVf]

theorem base_execHpViAperWrite : ∀ x0 x1 x2 x3, obase (base x3) (execHpViAperWrite x0 x1 x2 x3) = base x3 := by
  intros; simp only [execHpViAperWrite, implies_true, base_ite, ite_self, base_State_guardedAt, base_State_setF, base_State_writeReg]

theorem base_State_hpTrain : ∀ x0 x1, base (State.hpTrain x0 x1) = base x0 := by
  intros; simp only [State.hpTrain, base_ite, ite_self, base_State_setF, base_State_modHp]

theorem base_execHpPortEnable : ∀ x0 x1 x2 x3, obase (base x3) (execHpPortEnable x0 x1 x2 x3) = base x3 := by
  intros; simp only [execHpPortEnable, implies_true, base_foldl, base_ite, ite_self, base_State_keeperAt, base_State_writeReg, base_State_hpTrain, base_State_setF, base_State_modHp, base_State_epDown]

theorem base_execPcieLinkUp : ∀ x0 x1 x2 x3 x4 x5, obase (base x5) (execPcieLinkUp x0 x1 x2 x3 x4 x5) = base x5 := by
  intros; simp only [execPcieLinkUp, ite_self, obase_next, obase_ite, base_State_modHp, base_State_setF]

theorem base_execPcieLinkDown : ∀ x0 x1 x2, obase (base x2) (execPcieLinkDown x0 x1 x2) = base x2 := by
  intros; simp only [execPcieLinkDown, ite_self, obase_next, obase_ite, base_State_epDown, base_State_freezeRp]

theorem base_execPcieErrorReceived : ∀ x0 x1 x2 x3, obase (base x3) (execPcieErrorReceived x0 x1 x2 x3) = base x3 := by
  intros; unfold execPcieErrorReceived; (try simp only [])
  repeat' (first | with_reducible rfl | (split <;> try simp only [ite_self, obase_next, obase_ite, base_State_rasError, base_State_freezeRp]))

theorem base_execPciePllLoss : ∀ x0 x1, obase (base x1) (execPciePllLoss x0 x1) = base x1 := by
  intros; simp only [execPciePllLoss, implies_true, base_foldl, ite_self, obase_next, obase_ite, base_State_setF, base_State_epDown, base_State_freezeRp]

theorem base_execPerstAssert : ∀ x0, obase (base x0) (execPerstAssert x0) = base x0 := by
  intros; simp only [execPerstAssert, ite_self, obase_next, obase_ite, base_State_modHp, base_State_epDown]

theorem base_execPerstRelease : ∀ x0, obase (base x0) (execPerstRelease x0) = base x0 := by
  intros; simp only [execPerstRelease, ite_self, obase_next, obase_ite, base_State_modHp, base_State_hpTrain]

theorem base_execHpTqTailWrite : ∀ x0 x1 x2 x3, obase (base x3) (execHpTqTailWrite x0 x1 x2 x3) = base x3 := by
  intros; simp only [execHpTqTailWrite, implies_true, base_State_guardedAt, base_State_ringSync, base_State_tailWrite]

theorem base_State_tqEnd : ∀ x0 x1 x2 x3 x4 x5, base (State.tqEnd x0 x1 x2 x3 x4 x5) = base x0 := by
  intros; simp only [State.tqEnd, implies_true, base_State_cplPump, base_State_vfInt, base_State_ringSync, base_State_modQueue]

theorem base_State_tqFail : ∀ x0 x1 x2 x3 x4 x5, base (State.tqFail x0 x1 x2 x3 x4 x5) = base x0 := by
  intros; simp only [State.tqFail, base_ite, ite_self, base_State_tqEnd, base_State_unspecify]

theorem base_State_tqRun : ∀ x0 x1 x2 x3 x4, base (State.tqRun x0 x1 x2 x3 x4) = base x0 := by
  intros; unfold State.tqRun; (try simp only [])
  repeat' (first | with_reducible rfl | (split <;> try simp only [implies_true, base_foldl, base_ite, ite_self, base_State_hpRequest, base_State_modQueue, base_State_tqEnd, base_State_jobRead, base_State_tqFail, base_State_tlp]))

theorem base_State_tqServe : ∀ x0 x1 x2, base (State.tqServe x0 x1 x2) = base x0 := by
  intros; unfold State.tqServe; (try simp only [])
  repeat' (first | with_reducible rfl | (split <;> try simp only [base_ite, ite_self, base_State_descriptor, base_State_setRState, base_State_setF, base_State_ringSync, base_State_setRHead, base_State_modQueue, base_State_tqEnd, base_State_tqRun]))

theorem base_execTqNop : ∀ x0 x1, obase (base x1) (execTqNop x0 x1) = base x1 := by
  intros; simp only [execTqNop, implies_true, obase_next, base_State_served, base_State_tqServe]

theorem base_execToHost : ∀ x0 x1, obase (base x1) (execToHost x0 x1) = base x1 := by
  intros; simp only [execToHost, implies_true, obase_next, base_State_served, base_State_tqServe]

theorem base_execFromHost : ∀ x0 x1, obase (base x1) (execFromHost x0 x1) = base x1 := by
  intros; simp only [execFromHost, implies_true, obase_next, base_State_served, base_State_tqServe]

theorem base_State_tqRead : ∀ x0 x1 x2 x3 x4 x5 x6, base (State.tqRead x0 x1 x2 x3 x4 x5 x6) = base x0 := by
  intros; unfold State.tqRead; (try simp only [])
  repeat' (first | with_reducible rfl | (split <;> try simp only [implies_true, base_foldl2, base_ite, snd_ite, ite_self, base_State_modQueue, base_State_tqFail, base_State_jobWrite, base_State_tqEnd]))

theorem base_State_readGone : ∀ x0 x1 x2, base (State.readGone x0 x1 x2) = base x0 := by
  intros; simp only [State.readGone, base_State_invalPump, base_State_setVf]

theorem base_State_hpReply : ∀ x0 x1 x2 x3 x4 x5, base (State.hpReply x0 x1 x2 x3 x4 x5) = base x0 := by
  intros; unfold State.hpReply; (try simp only [])
  repeat' (first | with_reducible rfl | (split <;> try simp only [base_ite, ite_self, base_State_send, base_State_hpErr]))

theorem base_State_tqQuiet : ∀ x0 x1, base (State.tqQuiet x0 x1) = base x0 := by
  intros; unfold State.tqQuiet; (try simp only [])
  repeat' (first | with_reducible rfl | (split <;> try simp only [implies_true, base_foldl, base_ite, ite_self, base_State_unspecify, base_State_ringReset, base_State_setQueue]))

theorem base_State_completed : ∀ x0 x1 x2 x3 x4 x5, base (State.completed x0 x1 x2 x3 x4 x5) = base x0 := by
  intros; unfold State.completed; (try simp only [])
  repeat' (first | with_reducible rfl | (split <;> try simp only [base_ite, ite_self, base_State_incSat, base_State_modHp, base_State_hpReply, base_State_freezeRp, base_State_tqQuiet, base_State_readGone, base_State_tqRead]))

theorem base_execPcieCompletion : ∀ x0 x1 x2 x3 x4 x5, obase (base x5) (execPcieCompletion x0 x1 x2 x3 x4 x5) = base x5 := by
  intros; unfold execPcieCompletion; (try simp only [implies_true, ite_self, obase_next, obase_ite, base_State_incSat, base_State_served, base_State_completed])

theorem base_State_timedOut : ∀ x0 x1 x2, base (State.timedOut x0 x1 x2) = base x0 := by
  intros; unfold State.timedOut; (try simp only [])
  repeat' (first | with_reducible rfl | (split <;> try simp only [base_ite, ite_self, base_State_modHp, base_State_freezeRp, base_State_hpErr, base_State_tqQuiet, base_State_readGone, base_State_tqRead, base_State_tqFail]))

theorem base_execPcieCompletionTimeout : ∀ x0 x1 x2, obase (base x2) (execPcieCompletionTimeout x0 x1 x2) = base x2 := by
  intros; unfold execPcieCompletionTimeout; (try simp only [implies_true, ite_self, obase_next, obase_ite, base_State_served, base_State_timedOut])

theorem base_State_translationIn : ∀ x0 x1 x2 x3 x4, base (State.translationIn x0 x1 x2 x3 x4) = base x0 := by
  intros; unfold State.translationIn; (try simp only [])
  repeat' (first | with_reducible rfl | (split <;> try simp only [base_ite, ite_self, base_State_incSat, base_State_modHp, base_State_tqFail, base_State_tqRun, base_State_tqQuiet]))

theorem base_execTranslationCompletion : ∀ x0 x1 x2 x3 x4, obase (base x4) (execTranslationCompletion x0 x1 x2 x3 x4) = base x4 := by
  intros; unfold execTranslationCompletion; (try simp only [implies_true, ite_self, obase_next, obase_ite, base_State_incSat, base_State_served, base_State_translationIn])

theorem base_execInvalidationRequest : ∀ x0 x1 x2 x3 x4, obase (base x4) (execInvalidationRequest x0 x1 x2 x3 x4) = base x4 := by
  intros; simp only [execInvalidationRequest, ite_self, obase_next, obase_ite, base_State_modHp, base_State_invalPump, base_State_setVf]

end Sys2Proof.Laws
end

