-- ==== Sys2Proof/Laws/Base4.lean ====
section
/-! SUPPORT. What no operation changes but those that R390 and the queue name: the fuse array and the waiting commands. One lemma for each operation of Fatal, WorldSteps, Remap, Power, Flash, AnnalSteps, Modes, Limits, LedgerSteps. -/
namespace Sys2Proof.Laws

open Sys2Proof.Machine

set_option linter.unusedSimpArgs false

theorem base_State_mapRegs : ∀ x0 x1, base (State.mapRegs x0 x1) = base x0 := by
  intros; simp only [State.mapRegs, base_mk]

theorem base_State_resetRegs : ∀ x0 x1, base (State.resetRegs x0 x1) = base x0 := by
  intros; simp only [State.resetRegs, base_State_mapRegs]

theorem base_State_setDomain : ∀ x0 x1 x2, base (State.setDomain x0 x1 x2) = base x0 := by
  intros; simp only [State.setDomain, base_State_setF]

theorem base_State_stopOff : ∀ x0 x1, base (State.stopOff x0 x1) = base x0 := by
  intros; simp only [State.stopOff, base_mk, base_State_dropRuns]

theorem base_State_blockOff : ∀ x0 x1, base (State.blockOff x0 x1) = base x0 := by
  intros; simp only [State.blockOff, base_mk, base_ite, ite_self, base_State_deedForget, base_State_stopOff]

theorem base_State_domainOff : ∀ x0 x1, base (State.domainOff x0 x1) = base x0 := by
  intros; simp only [State.domainOff, base_State_setDomain, base_State_blockOff, base_State_resetRegs]

theorem base_State_setMode : ∀ x0 x1, base (State.setMode x0 x1) = base x0 := by
  intros; simp only [State.setMode, base_ite, ite_self, base_State_record, base_State_incF, base_State_setF]

theorem base_State_stopHarts : ∀ x0, base (State.stopHarts x0) = base x0 := by
  intros; simp only [State.stopHarts, implies_true, base_foldl, base_ite, ite_self, base_State_modCore, base_State_modHart]

theorem base_State_enterQuarantine : ∀ x0, base (State.enterQuarantine x0) = base x0 := by
  intros; simp only [State.enterQuarantine, implies_true, base_mk, base_foldl, base_ite, ite_self, base_State_stopHarts, base_State_setF, base_State_setMode, base_State_linkControl, base_State_freezeRp, base_State_setDomain, base_State_selfRefresh]

theorem base_State_fatal : ∀ x0 x1, base (State.fatal x0 x1) = base x0 := by
  intros; simp only [State.fatal, base_ite, ite_self, base_State_incSat, base_State_setF, base_State_enterQuarantine, base_State_writeRec]

theorem base_State_limitHit : ∀ x0 x1 x2, base (State.limitHit x0 x1 x2) = base x0 := by
  intros; simp only [State.limitHit, base_State_record]

theorem base_execFatalError : ∀ x0 x1, obase (base x1) (execFatalError x0 x1) = base x1 := by
  intros; simp only [execFatalError, obase_next, base_State_fatal]

theorem base_execRootPllLoss : ∀ x0, obase (base x0) (execRootPllLoss x0) = base x0 := by
  intros; simp only [execRootPllLoss, obase_next, base_State_fatal]

theorem base_execLinkParityError : ∀ x0 x1 x2 x3 x4, obase (base x4) (execLinkParityError x0 x1 x2 x3 x4) = base x4 := by
  intros; simp only [execLinkParityError, base_mk, ite_self, obase_next, obase_ite, base_State_fatal, base_State_rasError, base_State_errorEvent]

theorem base_State_addRefs : ∀ x0 x1 x2, base (State.addRefs x0 x1 x2) = base x0 := by
  intros; simp only [State.addRefs, base_State_setF]

theorem base_State_flushPage : ∀ x0 x1, base (State.flushPage x0 x1) = base x0 := by
  intros; simp only [State.flushPage, implies_true, base_foldl, base_State_cohFlush]

theorem base_State_eachGranule (s : State) (c : Nat) (f : State → Nat → State) (hf : ∀ s h, base (f s h) = base s) : base (s.eachGranule c f) = base s :=
  base_foldl _ (fun s i => hf s _) _ _

theorem base_State_donateGranule : ∀ x0 x1 x2 x3 x4, base (State.donateGranule x0 x1 x2 x3 x4) = base x0 := by
  intros; simp only [State.donateGranule, base_ite, ite_self, base_State_setGranule, base_State_errorEvent, base_State_incSat]

theorem base_State_deedGranule : ∀ x0 x1 x2 x3 x4 x5, base (State.deedGranule x0 x1 x2 x3 x4 x5) = base x0 := by
  intros; unfold State.deedGranule; (try simp only [])
  repeat' (first | with_reducible rfl | (split <;> try simp only [base_State_setGranule, base_State_donateGranule]))

theorem base_State_spoil : ∀ x0 x1, base (State.spoil x0 x1) = base x0 := by
  intros; simp only [State.spoil, base_mk, base_State_setGranule]

theorem base_State_deedFinish : ∀ x0 x1 x2 x3 x4 x5 x6 x7, base (State.deedFinish x0 x1 x2 x3 x4 x5 x6 x7).2 = base x0 := by
  intros; unfold State.deedFinish; (try simp only [base_ite, snd_ite, base_State_addRefs, base_State_setDeed])
  repeat' (first | with_reducible rfl | (split <;> try simp only [implies_true, base_mk, base_foldl, base_State_addRefs, base_State_setDeed, base_State_spoil, base_State_deedGranule, base_State_eachGranule]))

theorem base_State_deedEnd : ∀ x0 x1 x2 x3, base (State.deedEnd x0 x1 x2 x3) = base x0 := by
  intros; simp only [State.deedEnd, base_mk, base_State_setF]

theorem base_State_deedStart : ∀ x0 x1 x2 x3 x4, base (State.deedStart x0 x1 x2 x3 x4) = base x0 := by
  intros; simp only [State.deedStart, base_mk, base_ite, ite_self, base_State_setF, base_State_deedEnd]

theorem base_State_deedCommand : ∀ x0 x1 x2 x3 x4 x5, obase (base x0) (State.deedCommand x0 x1 x2 x3 x4 x5) = base x0 := by
  intros; simp only [State.deedCommand, implies_true, base_State_guarded, base_State_deedStart]

theorem base_execAssign : ∀ x0 x1 x2 x3 x4, obase (base x4) (execAssign x0 x1 x2 x3 x4) = base x4 := by
  intros; simp only [execAssign, base_State_deedCommand]

theorem base_execShareRo : ∀ x0 x1 x2 x3, obase (base x3) (execShareRo x0 x1 x2 x3) = base x3 := by
  intros; simp only [execShareRo, base_State_deedCommand]

theorem base_execShareRw : ∀ x0 x1 x2 x3, obase (base x3) (execShareRw x0 x1 x2 x3) = base x3 := by
  intros; simp only [execShareRw, base_State_deedCommand]

theorem base_execUnshare : ∀ x0 x1 x2, obase (base x2) (execUnshare x0 x1 x2) = base x2 := by
  intros; simp only [execUnshare, base_State_deedCommand]

theorem base_execDonate : ∀ x0 x1 x2 x3 x4, obase (base x4) (execDonate x0 x1 x2 x3 x4) = base x4 := by
  intros; simp only [execDonate, base_State_deedCommand]

theorem base_execRelease : ∀ x0 x1 x2, obase (base x2) (execRelease x0 x1 x2) = base x2 := by
  intros; simp only [execRelease, base_State_deedCommand]

theorem base_execReclaim : ∀ x0 x1 x2, obase (base x2) (execReclaim x0 x1 x2) = base x2 := by
  intros; simp only [execReclaim, base_State_deedCommand]

theorem base_State_deedServed : ∀ x0 x1 x2 x3, base (State.deedServed x0 x1 x2 x3) = base x0 := by
  intros; unfold State.deedServed; (try simp only [])
  repeat' (first | with_reducible rfl | (split <;> try simp only [base_mk, base_ite, ite_self, base_State_deedEnd, base_State_setF]))

theorem base_State_deedTake : ∀ x0, base (State.deedTake x0) = base x0 := by
  intros; unfold State.deedTake; (try simp only [])
  repeat' (first | with_reducible rfl | (split <;> try simp only [base_mk, base_State_deedEnd, base_State_setDeed]))

theorem base_State_deedGo : ∀ x0 x1 x2, base (State.deedGo x0 x1 x2) = base x0 := by
  intros; unfold State.deedGo; (try simp only [])
  repeat' (first | with_reducible rfl | (split <;> try simp only [base_ite, ite_self, base_State_flushPage, base_State_deedFinish, base_State_deedServed]))

theorem base_execDeedUnitTurn : ∀ x0 x1, obase (base x1) (execDeedUnitTurn x0 x1) = base x1 := by
  intros; unfold execDeedUnitTurn; (try simp only [implies_true, ite_self, obase_next, obase_ite, base_State_served, base_State_deedTake, base_State_deedGo])

theorem base_execDeedTableEnable : ∀ x0 x1 x2, obase (base x2) (execDeedTableEnable x0 x1 x2) = base x2 := by
  intros; simp only [execDeedTableEnable, implies_true, base_State_keeperOnly, base_State_writeReg]

theorem base_State_deedReady : ∀ x0, base (State.deedReady x0) = base x0 := by
  intros; simp only [State.deedReady, base_mk, base_ite, ite_self, base_State_addRefs, base_State_setF]

theorem base_execDeedTableReady : ∀ x0, obase (base x0) (execDeedTableReady x0) = base x0 := by
  intros; simp only [execDeedTableReady, obase_next, base_State_deedReady]

theorem base_State_keyCommand : ∀ x0 x1 x2 x3, base (State.keyCommand x0 x1 x2 x3) = base x0 := by
  intros; simp only [State.keyCommand, base_mk, base_ite, ite_self, base_State_setF]

theorem base_execGenerate : ∀ x0 x1 x2 x3, obase (base x3) (execGenerate x0 x1 x2 x3) = base x3 := by
  intros; simp only [execGenerate, implies_true, base_State_keeperOnly, base_State_keyCommand]

theorem base_execDestroy : ∀ x0 x1 x2, obase (base x2) (execDestroy x0 x1 x2) = base x2 := by
  intros; simp only [execDestroy, implies_true, base_State_keeperOnly, base_State_keyCommand]

theorem base_State_generateKey : ∀ x0 x1 x2, base (State.generateKey x0 x1 x2) = base x0 := by
  intros; simp only [State.generateKey, base_mk, base_State_setKeyGen, base_State_setF]

theorem base_State_destroyKey : ∀ x0 x1, base (State.destroyKey x0 x1) = base x0 := by
  intros; simp only [State.destroyKey, base_mk, base_State_setF, base_State_setKeyGen]

theorem base_execKeyCommandComplete : ∀ x0, obase (base x0) (execKeyCommandComplete x0) = base x0 := by
  intros; unfold execKeyCommandComplete; (try simp only [])
  repeat' (first | with_reducible rfl | (split <;> try simp only [base_mk, base_ite, ite_self, obase_next, base_State_setF, base_State_generateKey, base_State_destroyKey, base_State_record]))

theorem base_State_pinInput : ∀ x0 x1, base (State.pinInput x0 x1) = base x0 := by
  intros; simp only [State.pinInput, base_mk, base_State_setAplic]

theorem base_execWldGpioWidWrite : ∀ x0 x1 x2 x3, obase (base x3) (execWldGpioWidWrite x0 x1 x2 x3) = base x3 := by
  intros; simp only [execWldGpioWidWrite, implies_true, base_foldl, base_ite, ite_self, base_State_keeperOnly, base_State_writeReg, base_State_pinInput]

theorem base_State_resumeHart : ∀ x0 x1, base (State.resumeHart x0 x1) = base x0 := by
  intros; simp only [State.resumeHart, base_ite, ite_self, base_State_predFlush, base_State_modHart]

theorem base_State_debugHit : ∀ x0 x1, base (State.debugHit x0 x1) = base x0 := by
  intros; simp only [State.debugHit, base_ite, ite_self, base_State_record]

theorem base_execWldDebugInvWrite : ∀ x0 x1 x2, obase (base x2) (execWldDebugInvWrite x0 x1 x2) = base x2 := by
  intros; simp only [execWldDebugInvWrite, implies_true, base_foldl, base_ite, ite_self, base_State_keeperOnly, base_State_writeReg, base_State_debugHit, base_State_resumeHart]

theorem base_execWldDebugNoninvWrite : ∀ x0 x1 x2, obase (base x2) (execWldDebugNoninvWrite x0 x1 x2) = base x2 := by
  intros; simp only [execWldDebugNoninvWrite, implies_true, base_State_keeperOnly, base_State_writeReg, base_State_debugHit]

theorem base_execDebugHaltRequest : ∀ x0 x1, obase (base x1) (execDebugHaltRequest x0 x1) = base x1 := by
  intros; simp only [execDebugHaltRequest, ite_self, obase_next, obase_ite, base_State_haltSoon, base_State_modHart]

theorem base_execDebugResumeRequest : ∀ x0 x1, obase (base x1) (execDebugResumeRequest x0 x1) = base x1 := by
  intros; simp only [execDebugResumeRequest, ite_self, obase_next, obase_ite, base_State_resumeHart]

theorem base_State_syncCore : ∀ x0 x1, base (State.syncCore x0 x1) = base x0 := by
  intros; simp only [State.syncCore, base_State_setF]

theorem base_State_powerRefuse : ∀ x0 x1 x2 x3 x4, base (State.powerRefuse x0 x1 x2 x3 x4) = base x0 := by
  intros; simp only [State.powerRefuse, base_State_incSat, base_State_record, base_State_setF]

theorem base_State_bury : ∀ x0 x1, base (State.bury x0 x1).2 = base x0 := by
  intros; simp only [State.bury, base_ite, snd_ite, ite_self, base_State_flushRound]

theorem base_State_moveHart : ∀ x0 x1 x2, base (State.moveHart x0 x1 x2) = base x0 := by
  intros; simp only [State.moveHart, base_State_modHart, base_State_modNi, base_State_setCore, base_State_setF, base_State_incSat, base_State_setRegWord, base_State_setDomain, base_State_domainOff, base_State_record, base_State_syncCore]

theorem base_State_remap : ∀ x0 x1 x2, base (State.remap x0 x1 x2) = base x0 := by
  intros; simp only [State.remap, base_ite, snd_ite, ite_self, base_State_powerRefuse, base_State_setF, base_State_stopHart, base_State_quiesce, base_State_bury, base_State_moveHart]

theorem base_execHartRemap : ∀ x0 x1 x2, obase (base x2) (execHartRemap x0 x1 x2) = base x2 := by
  intros; simp only [execHartRemap, obase_next, base_State_remap]

theorem base_State_dropConsent : ∀ x0 x1, base (State.dropConsent x0 x1) = base x0 := by
  intros; simp only [State.dropConsent, implies_true, base_foldl, base_ite, ite_self, base_State_setRegWord, base_State_resumeHart]

theorem base_State_reseat : ∀ x0 x1 x2 x3 x4 x5, base (State.reseat x0 x1 x2 x3 x4 x5) = base x0 := by
  intros; simp only [State.reseat, base_mk, base_ite, ite_self, base_State_modNi, base_State_setCore, base_State_setHart, base_State_setRegWord, base_State_setF, base_State_incSat, base_State_dropConsent, base_State_record, base_State_syncCore, base_State_specEff]

theorem base_State_lend : ∀ x0 x1 x2 x3 x4 x5, base (State.lend x0 x1 x2 x3 x4 x5).2 = base x0 := by
  intros; simp only [State.lend, base_ite, snd_ite, ite_self, base_State_setF, base_State_stopHart, base_State_quiesce, base_State_bury, base_State_reseat]

theorem base_State_declareDead : ∀ x0 x1 x2, base (State.declareDead x0 x1 x2) = base x0 := by
  intros; unfold State.declareDead; (try simp only [])
  repeat' (first | with_reducible rfl | assumption | (split <;> try simp only [base_State_setF]) | (refine (base_foldl _ ?_ _ _).trans ?_ <;> (try intro _ _) <;> (try simp only [base_State_setF])))

theorem base_State_startDrain : ∀ x0 x1, base (State.startDrain x0 x1) = base x0 := by
  intros; simp only [State.startDrain, base_ite, ite_self, base_State_setF, base_State_setDomain, base_State_corePump, base_State_modCore, base_State_closeWindows, base_State_flushAgents, base_State_modGate]

theorem base_State_startWake : ∀ x0 x1, base (State.startWake x0 x1) = base x0 := by
  intros; simp only [State.startWake, base_State_setF, base_State_setDomain]

theorem base_State_domStart : ∀ x0 x1 x2, base (State.domStart x0 x1 x2) = base x0 := by
  intros; unfold State.domStart; (try simp only [base_ite])
  repeat' (first | with_reducible rfl | (split <;> try simp only [base_mk, base_ite, ite_self, base_State_setF, base_State_startDrain, base_State_startWake]))

theorem base_State_domRequest : ∀ x0 x1 x2, base (State.domRequest x0 x1 x2) = base x0 := by
  intros; unfold State.domRequest; (try simp only [base_mk, base_ite, ite_self, base_State_incSat, base_State_setF])
  repeat' (first | with_reducible rfl | (split <;> try simp only [base_State_powerRefuse, base_State_domStart]))

theorem base_State_domSettled : ∀ x0 x1, base (State.domSettled x0 x1) = base x0 := by
  intros; unfold State.domSettled; (try simp only [])
  repeat' (first | with_reducible rfl | (split <;> try simp only [base_mk, base_State_setF, base_State_domRequest]))

theorem base_State_abortDrain : ∀ x0 x1 x2 x3, base (State.abortDrain x0 x1 x2 x3) = base x0 := by
  intros; simp only [State.abortDrain, base_ite, ite_self, base_State_setDomain, base_State_syncCore, base_State_modCore, base_State_modGate, base_State_domSettled, base_State_powerRefuse]

theorem base_State_isolate : ∀ x0 x1 x2, base (State.isolate x0 x1 x2).2 = base x0 := by
  intros; unfold State.isolate; (try simp only [])
  repeat' (first | with_reducible rfl | (split <;> try simp only [base_mk, base_ite, snd_ite, ite_self, base_State_startFence, base_State_declareDead]))

theorem base_State_gateCore : ∀ x0 x1, base (State.gateCore x0 x1) = base x0 := by
  intros; unfold State.gateCore; (try simp only [])
  repeat' (first | with_reducible rfl | (split <;> try simp only [base_State_modCore, base_State_modHart]))

theorem base_State_drainDone : ∀ x0 x1, base (State.drainDone x0 x1) = base x0 := by
  intros; unfold State.drainDone; (try simp only [base_ite, ite_self, base_State_abortDrain, base_State_setF, base_State_incSat, base_State_domSettled, base_State_syncCore, base_State_setDomain, base_State_gateCore, base_State_domainOff])
  repeat' (first | with_reducible rfl | (split <;> try simp only [base_State_isolate]))

theorem base_State_wakeDone : ∀ x0 x1, base (State.wakeDone x0 x1) = base x0 := by
  intros; unfold State.wakeDone; (try simp only [base_ite, ite_self, base_State_setF, base_State_modCore, base_State_setDomain, base_State_domSettled, base_State_syncCore, base_State_hpTrain])
  repeat' (first | with_reducible rfl | (split <;> try simp only [base_State_setF, base_State_setDomain, base_State_declareDead]))

theorem base_State_domWrite : ∀ x0 x1 x2 x3, obase (base x0) (State.domWrite x0 x1 x2 x3) = base x0 := by
  intros; simp only [State.domWrite, implies_true, base_ite, ite_self, base_State_keeperOnly, base_State_domRequest]

theorem base_execDomainOffRequest : ∀ x0 x1 x2 x3, obase (base x3) (execDomainOffRequest x0 x1 x2 x3) = base x3 := by
  intros; simp only [execDomainOffRequest, base_State_domWrite]

theorem base_execDomainOnRequest : ∀ x0 x1 x2 x3, obase (base x3) (execDomainOnRequest x0 x1 x2 x3) = base x3 := by
  intros; simp only [execDomainOnRequest, base_State_domWrite]

theorem base_execDomainTimerRequest : ∀ x0 x1 x2 x3 x4, obase (base x4) (execDomainTimerRequest x0 x1 x2 x3 x4) = base x4 := by
  intros; simp only [execDomainTimerRequest, base_State_domWrite]

theorem base_execDomainDrainComplete : ∀ x0 x1, obase (base x1) (execDomainDrainComplete x0 x1) = base x1 := by
  intros; simp only [execDomainDrainComplete, obase_next, base_State_drainDone]

theorem base_execDrainTimeout : ∀ x0 x1, obase (base x1) (execDrainTimeout x0 x1) = base x1 := by
  intros; simp only [execDrainTimeout, ite_self, obase_next, obase_ite, base_State_abortDrain]

theorem base_execDomainWakeComplete : ∀ x0 x1, obase (base x1) (execDomainWakeComplete x0 x1) = base x1 := by
  intros; simp only [execDomainWakeComplete, obase_next, base_State_wakeDone]

theorem base_execCoreClockGate : ∀ x0 x1, obase (base x1) (execCoreClockGate x0 x1) = base x1 := by
  intros; simp only [execCoreClockGate, base_mk, ite_self, obase_next, obase_ite, base_State_setDomain, base_State_startDrain]

theorem base_execCoreIdleTimerExpiry : ∀ x0 x1, obase (base x1) (execCoreIdleTimerExpiry x0 x1) = base x1 := by
  intros; unfold execCoreIdleTimerExpiry; (try simp only [obase_next, obase_ite, base_State_powerRefuse, base_State_setDomain])
  repeat' (first | with_reducible rfl | (split <;> try simp only [obase_next, base_State_powerRefuse, base_State_startDrain]))

theorem base_execCoreWake : ∀ x0 x1, obase (base x1) (execCoreWake x0 x1) = base x1 := by
  intros; unfold execCoreWake; (try simp only [obase_next, obase_ite])
  repeat' (first | with_reducible rfl | (split <;> try simp only [obase_next, base_State_syncCore, base_State_setDomain, base_State_abortDrain, base_State_startWake]))

theorem base_State_flashProgram : ∀ x0 x1 x2, base (State.flashProgram x0 x1 x2) = base x0 := by
  intros; simp only [State.flashProgram, implies_true, base_mk, base_foldl]

theorem base_State_flashErase : ∀ x0 x1 x2, base (State.flashErase x0 x1 x2) = base x0 := by
  intros; simp only [State.flashErase, base_mk]

theorem base_State_annCommit : ∀ x0 x1, base (State.annCommit x0 x1) = base x0 := by
  intros; unfold State.annCommit; (try simp only [base_ite])
  repeat' (first | with_reducible rfl | (split <;> try simp only [base_mk, base_ite, ite_self, base_State_annSync, base_State_setF]))

theorem base_State_checkpoint : ∀ x0, base (State.checkpoint x0) = base x0 := by
  intros; simp only [State.checkpoint, base_mk]

theorem base_State_ledgerChange : ∀ x0 x1 x2 x3 x4 x5 x6 x7, base (State.ledgerChange x0 x1 x2 x3 x4 x5 x6 x7) = base x0 := by
  intros; simp only [State.ledgerChange, base_mk, base_ite, ite_self, base_State_checkpoint, base_State_record, base_State_raiseSrc]

theorem base_State_ledgerCommit : ∀ x0, base (State.ledgerCommit x0) = base x0 := by
  intros; simp only [State.ledgerCommit, base_mk, base_ite, ite_self, base_State_checkpoint]

theorem base_execAnnalsEvent : ∀ x0 x1 x2 x3 x4, obase (base x4) (execAnnalsEvent x0 x1 x2 x3 x4) = base x4 := by
  intros; simp only [execAnnalsEvent, obase_next, base_State_record]

theorem base_execRateBucketRefill : ∀ x0 x1, obase (base x1) (execRateBucketRefill x0 x1) = base x1 := by
  intros; simp only [execRateBucketRefill, base_mk, obase_next]

theorem base_execAnnalsCommit : ∀ x0 x1, obase (base x1) (execAnnalsCommit x0 x1) = base x1 := by
  intros; simp only [execAnnalsCommit, obase_next, base_State_annCommit]

theorem base_execAnnalsCommitRetry : ∀ x0 x1, obase (base x1) (execAnnalsCommitRetry x0 x1) = base x1 := by
  intros; simp only [execAnnalsCommitRetry, base_ite, ite_self, obase_next, base_State_annCommit]

theorem base_State_endFreeze : ∀ x0 x1, base (State.endFreeze x0 x1) = base x0 := by
  intros; simp only [State.endFreeze, base_mk, base_ite, ite_self, base_State_annSync]

theorem base_execAnnalsFreezeTimeout : ∀ x0 x1, obase (base x1) (execAnnalsFreezeTimeout x0 x1) = base x1 := by
  intros; simp only [execAnnalsFreezeTimeout, obase_next, base_State_endFreeze]

theorem base_execAnnalsThaw : ∀ x0, obase (base x0) (execAnnalsThaw x0) = base x0 := by
  intros; unfold execAnnalsThaw; (try simp only [base_mk, obase_next, obase_ite, base_State_record, base_State_annSync])
  repeat' (first | with_reducible rfl | assumption | (split <;> try simp only [base_mk, base_State_annDrop]) | (refine (base_foldl _ ?_ _ _).trans ?_ <;> (try intro _ _) <;> (try simp only [base_mk])))

theorem base_execCalendarSet : ∀ x0 x1 x2, obase (base x2) (execCalendarSet x0 x1 x2) = base x2 := by
  intros; simp only [execCalendarSet, implies_true, base_mk, base_State_guarded, base_State_setF, base_State_record, base_State_setRegWord]

theorem base_State_annClear : ∀ x0 x1 x2, base (State.annClear x0 x1 x2) = base x0 := by
  intros; simp only [State.annClear, base_mk, base_State_annSync, base_State_record]

theorem base_State_coreCorrected : ∀ x0 x1 x2 x3, base (State.coreCorrected x0 x1 x2 x3) = base x0 := by
  intros; simp only [State.coreCorrected, base_State_errorEvent]

theorem base_execArrayErrorDetected : ∀ x0 x1, obase (base x1) (execArrayErrorDetected x0 x1) = base x1 := by
  intros; unfold execArrayErrorDetected; (try simp only [])
  repeat' (first | with_reducible rfl | (split <;> try simp only [base_mk, ite_self, obase_next, obase_ite, base_State_coreCorrected, base_State_modCore, base_State_evictLine, base_State_closeWindow, base_State_errorEvent, base_State_setCline, base_State_countErr, base_State_setLlc, base_State_fatal, base_State_rasError]))

theorem base_State_modeRequest : ∀ x0 x1, base (State.modeRequest x0 x1).2 = base x0 := by
  intros; simp only [State.modeRequest, base_mk, base_ite, snd_ite, ite_self, base_State_setF, base_State_incSat]

theorem base_State_pauseHarts : ∀ x0, base (State.pauseHarts x0) = base x0 := by
  intros; simp only [State.pauseHarts, implies_true, base_mk, base_foldl, base_State_stopHart]

theorem base_State_unpauseHarts : ∀ x0, base (State.unpauseHarts x0) = base x0 := by
  intros; simp only [State.unpauseHarts, implies_true, base_mk, base_foldl, base_State_modHart]

theorem base_State_takeDomains : ∀ x0 x1 x2, base (State.takeDomains x0 x1 x2) = base x0 := by
  intros; simp only [State.takeDomains, implies_true, base_mk, base_foldl, base_ite, ite_self, base_State_setDomain]

theorem base_State_applyPending : ∀ x0, base (State.applyPending x0) = base x0 := by
  intros; unfold State.applyPending; (try simp only [])
  repeat' (first | with_reducible rfl | assumption | (split <;> try simp only [base_mk, base_ite, ite_self, base_State_setF, base_State_incSat, base_State_domRequest]) | (refine (base_foldl _ ?_ _ _).trans ?_ <;> (try intro _ _) <;> (try simp only [])))

theorem base_State_sequenceDone : ∀ x0 x1, base (State.sequenceDone x0 x1) = base x0 := by
  intros; simp only [State.sequenceDone, base_mk, base_State_applyPending, base_State_setF, base_State_setMode]

theorem base_State_stopFolios : ∀ x0, base (State.stopFolios x0) = base x0 := by
  intros; simp only [State.stopFolios, base_State_setF]

theorem base_State_drainCores : ∀ x0, base (State.drainCores x0) = base x0 := by
  intros; unfold State.drainCores; (try simp only [])
  repeat' (first | with_reducible rfl | assumption | (split <;> try simp only [base_ite, ite_self, base_State_corePump, base_State_modCore, base_State_closeWindows]) | (refine (base_foldl _ ?_ _ _).trans ?_ <;> (try intro _ _) <;> (try simp only [])))

theorem base_State_retainCores : ∀ x0, base (State.retainCores x0) = base x0 := by
  intros; simp only [State.retainCores, implies_true, base_foldl, base_State_gateCore, base_State_syncCore, base_State_takeDomains]

theorem base_State_withhold : ∀ x0, base (State.withhold x0) = base x0 := by
  intros; simp only [State.withhold, implies_true, base_foldl, base_ite, ite_self, base_State_modLink, base_State_flushAgents]

theorem base_State_takeOff : ∀ x0 x1, base (State.takeOff x0 x1) = base x0 := by
  intros; unfold State.takeOff; (try simp only [base_ite, base_State_setDomain, base_State_blockOff, base_State_resetRegs])
  repeat' (first | with_reducible rfl | (split <;> try simp only [base_mk, base_State_declareDead]))

theorem base_State_giveBack : ∀ x0 x1 x2, base (State.giveBack x0 x1 x2) = base x0 := by
  intros; unfold State.giveBack; (try simp only [base_ite, ite_self, base_State_setDomain, base_State_hpTrain])
  repeat' (first | with_reducible rfl | (split <;> try simp only [base_State_setDomain, base_State_declareDead]))

theorem base_State_conserve : ∀ x0, base (State.conserve x0) = base x0 := by
  intros; simp only [State.conserve, implies_true, base_foldl, base_ite, ite_self, base_State_drainCores, base_State_pauseHarts, base_State_stopFolios, base_State_withhold, base_State_retainCores, base_State_takeOff, base_State_selfRefresh, base_State_takeDomains]

theorem base_execEnterConservation : ∀ x0, obase (base x0) (execEnterConservation x0) = base x0 := by
  intros; unfold execEnterConservation; (try simp only [obase_next, obase_ite])
  repeat' (first | with_reducible rfl | (split <;> try simp only [base_ite, ite_self, obase_next, base_State_conserve, base_State_sequenceDone, base_State_setMode]))

theorem base_execEnterWatch : ∀ x0, obase (base x0) (execEnterWatch x0) = base x0 := by
  intros; simp only [execEnterWatch, implies_true, base_foldl, ite_self, obase_next, obase_ite, base_State_takeOff, base_State_sequenceDone, base_State_takeDomains]

theorem base_State_applyHeldAt (s : State) (o : Option (RegName × Nat × Nat)) (w : Nat) (v en : Word) : base (s.applyHeldAt o w v en) = base s := by
  cases o with
  | none => rfl
  | some p =>
    obtain ⟨r, u, i⟩ := p
    simp only [State.applyHeldAt, base_ite, base_State_specWrite, base_State_writeReg, ite_self]

theorem base_State_applyHeld (s : State) (x : HeldWrite) : base (s.applyHeld x) = base s := by
  cases x with
  | file => simp only [State.applyHeld, base_ite, base_State_setIrq, ite_self]
  | reg => exact base_State_applyHeldAt ..

theorem base_State_leave : ∀ x0, base (State.leave x0) = base x0 := by
  intros; simp only [State.leave, implies_true, base_mk, base_foldl, base_ite, ite_self, base_State_dropRuns, base_State_deedForget, base_State_selfRefreshExit, base_State_giveBack, base_State_syncCore, base_State_modCore, base_State_applyHeld, base_State_modGate, base_State_modLink, base_State_sequenceDone, base_State_unpauseHarts]

theorem base_execLeaveToOrigin : ∀ x0, obase (base x0) (execLeaveToOrigin x0) = base x0 := by
  intros; simp only [execLeaveToOrigin, ite_self, obase_next, obase_ite, base_State_leave]

theorem base_State_abortEntry : ∀ x0, base (State.abortEntry x0) = base x0 := by
  intros; simp only [State.abortEntry, base_State_leave, base_State_incSat]

theorem base_execWakeSource : ∀ x0 x1, obase (base x1) (execWakeSource x0 x1) = base x1 := by
  intros; simp only [execWakeSource, base_ite, ite_self, obase_next, obase_ite, base_State_setF, base_State_abortEntry, base_State_leave]

theorem base_execHeldWriteQueue : ∀ x0 x1 x2, obase (base x2) (execHeldWriteQueue x0 x1 x2) = base x2 := by
  intros; simp only [execHeldWriteQueue, ite_self, obase_next, obase_ite, base_State_holdWrite]

theorem base_State_scanRun (e i n : Nat) (s : State) : base (State.scanRun e i n s) = base s := by
  induction n generalizing s with
  | zero => rfl
  | succ n ih =>
    unfold State.scanRun
    simp only [base_ite, ih, base_State_collate, base_State_modChan, ite_self]

theorem base_State_watchScan : ∀ x0 x1 x2, base (State.watchScan x0 x1 x2).2 = base x0 := by
  intros; unfold State.watchScan; (try simp only [base_ite, snd_ite, ite_self, base_State_scanRun, base_State_scanBegin])

theorem base_State_watchWake : ∀ x0, base (State.watchWake x0) = base x0 := by
  intros; simp only [State.watchWake, base_mk, base_State_incSat]

theorem base_State_watchPower : ∀ x0 x1, base (State.watchPower x0 x1) = base x0 := by
  intros; simp only [State.watchPower, implies_true, base_mk, base_foldl, base_State_setDomain, base_State_selfRefreshExit, base_State_declareDead]

theorem base_State_watchUnpower : ∀ x0, base (State.watchUnpower x0) = base x0 := by
  intros; simp only [State.watchUnpower, implies_true, base_mk, base_foldl, base_ite, ite_self, base_State_declareDead, base_State_setDomain, base_State_selfRefresh]

theorem base_State_watchEnd : ∀ x0 x1 x2, base (State.watchEnd x0 x1 x2) = base x0 := by
  intros; simp only [State.watchEnd, implies_true, base_mk, base_foldl, base_ite, ite_self, base_State_setF, base_State_record, base_State_setDomain, base_State_setMode]

theorem base_State_watchScans (x : WatchSample) (cmd : Instr) (n : Nat) (s : State) : base (State.watchScans x cmd n s) = base s := by
  induction n generalizing s with
  | zero => rfl
  | succ n ih =>
    have hs : ∀ bad (d : Fin 2 × Fin 16) l, base (s.served (deStop d.1.val) 0 cmd (fun s =>
        { (s.watchScan d.1.val d.2.val).2 with pw := { (s.watchScan d.1.val d.2.val).2.pw with scan := some (bad || (s.watchScan d.1.val d.2.val).1, l) } })) = base s :=
      fun _ _ _ => base_State_served _ _ _ _ _ (fun s => (base_mk ..).trans (base_State_watchScan ..))
    unfold State.watchScans
    split
    · rfl
    · exact (base_State_watchEnd ..).trans (base_State_watchUnpower ..)
    · simp only [base_ite, ih, hs, ite_self]

theorem base_execWatchPeriodWake : ∀ x0 x1 x2 x3, obase (base x3) (execWatchPeriodWake x0 x1 x2 x3) = base x3 := by
  intros; simp only [execWatchPeriodWake, base_ite, ite_self, obase_next, obase_ite, base_State_incSat, base_State_watchScans, base_State_watchPower, base_State_watchWake, base_State_watchEnd]

theorem base_State_dark : ∀ x0, base (State.dark x0) = base x0 := by
  intros; simp only [State.dark, implies_true, base_mk, base_foldl, base_State_domainOff]

theorem base_State_zeroise : ∀ x0, base (State.zeroise x0) = base x0 := by
  intros; simp only [State.zeroise, implies_true, base_foldl, base_ite, ite_self, base_State_destroyKey]

theorem base_execEnterOff : ∀ x0 x1, obase (base x1) (execEnterOff x0 x1) = base x1 := by
  intros; simp only [execEnterOff, base_mk, base_ite, ite_self, obase_next, obase_ite, base_State_pauseHarts, base_State_stopFolios, base_State_annCommit, base_State_setMode, base_State_ledgerCommit, base_State_dark, base_State_zeroise, base_State_setF]

theorem base_State_railsLost : ∀ x0 x1, base (State.railsLost x0 x1) = base x0 := by
  intros; simp only [State.railsLost, base_mk, base_ite, ite_self, base_State_dark, base_State_setF, base_State_setMode]

theorem base_State_unstagePush : ∀ x0, base (State.unstagePush x0) = base x0 := by
  intros; unfold State.unstagePush
  repeat' (first | with_reducible rfl | assumption | (split <;> try simp only [base_ite, ite_self, base_State_memPush, base_State_setLlc]) | (refine (base_foldl _ ?_ _ _).trans ?_ <;> (try intro _ _) <;> (try simp only [])))

theorem base_State_unstage : ∀ x0, base (State.unstage x0) = base x0 := by
  intros; unfold State.unstage; (try simp only [base_mk, base_ite, ite_self, base_State_unstagePush])

theorem base_State_releaseHart : ∀ x0 x1 x2 x3, base (State.releaseHart x0 x1 x2 x3) = base x0 := by
  intros; simp only [State.releaseHart, base_ite, ite_self, base_State_setHart, base_State_modCore, base_State_setDomain, base_State_setF, base_State_syncCore]

theorem base_State_setLimN : ∀ x0 x1 x2, base (State.setLimN x0 x1 x2) = base x0 := by
  intros; simp only [State.setLimN, base_mk, base_State_syncCore]

theorem base_State_lowerStep : ∀ x0 x1 x2, mbase (base x0) (State.lowerStep x0 x1 x2) = base x0 := by
  intros; simp only [State.lowerStep, implies_true, base_foldl, base_ite, ite_self, mbase_some, mbase_none, mbase_ite, base_State_setLimN, base_State_record, base_State_setF]

theorem base_State_lowerStep_some : ∀ x0 x1 x2 t, State.lowerStep x0 x1 x2 = some t → base t = base x0 := by
  intro x0 x1 x2 t h; have h' := base_State_lowerStep x0 x1 x2; rw [h] at h'; exact h'

theorem base_State_limiterLower : ∀ x0, base (State.limiterLower x0) = base x0 := by
  intros; unfold State.limiterLower; (try simp only [])
  repeat' (first | with_reducible rfl | assumption | (split <;> try simp only [base_mk]) | (refine (base_State_lowerStep_some _ _ _ _ (by assumption)).trans ?_ <;> try simp only []))

theorem base_State_limiterRaise : ∀ x0, base (State.limiterRaise x0) = base x0 := by
  intros; unfold State.limiterRaise; (try simp only [base_mk, base_ite])
  repeat' (first | with_reducible rfl | (split <;> try simp only [base_State_setLimN]))

theorem base_execLimiterEstimate : ∀ x0 x1, obase (base x1) (execLimiterEstimate x0 x1) = base x1 := by
  intros; simp only [execLimiterEstimate, base_mk, base_ite, ite_self, obase_next, base_State_setF, base_State_limiterLower, base_State_limiterRaise]

theorem base_State_setThrottled : ∀ x0 x1 x2, base (State.setThrottled x0 x1 x2) = base x0 := by
  intros; simp only [State.setThrottled, base_mk, base_State_setF, base_State_syncCore]

theorem base_execThermalThrottle : ∀ x0 x1 x2, obase (base x2) (execThermalThrottle x0 x1 x2) = base x2 := by
  intros; simp only [execThermalThrottle, ite_self, obase_next, obase_ite, base_State_record, base_State_raiseSrc, base_State_incSat, base_State_setThrottled]

theorem base_execThrottleRelease : ∀ x0 x1 x2, obase (base x2) (execThrottleRelease x0 x1 x2) = base x2 := by
  intros; simp only [execThrottleRelease, ite_self, obase_next, obase_ite, base_State_setThrottled]

theorem base_State_cutCore : ∀ x0 x1, base (State.cutCore x0 x1) = base x0 := by
  intros; unfold State.cutCore; (try simp only [implies_true, base_mk, base_foldl, base_State_send, base_State_syncCore, base_State_domainOff, base_State_setCore])
  repeat' (first | with_reducible rfl | (split <;> try simp only [base_State_modHart, base_State_squash]))

theorem base_execThermalCut : ∀ x0 x1 x2, obase (base x2) (execThermalCut x0 x1 x2) = base x2 := by
  intros; simp only [execThermalCut, ite_self, obase_next, obase_ite, base_State_record, base_State_cutCore]

theorem base_execThermalCutRecover : ∀ x0 x1 x2, obase (base x2) (execThermalCutRecover x0 x1 x2) = base x2 := by
  intros; simp only [execThermalCutRecover, base_ite, ite_self, obase_next, obase_ite, base_State_bury, base_State_syncCore, base_State_specEff, base_State_setDomain, base_State_setCore]

theorem base_execThermtrip : ∀ x0 x1, obase (base x1) (execThermtrip x0 x1) = base x1 := by
  intros; simp only [execThermtrip, base_mk, ite_self, obase_next, obase_ite, base_State_fatal]

theorem base_State_driveGpio : ∀ x0 x1 x2, base (State.driveGpio x0 x1 x2) = base x0 := by
  intros; simp only [State.driveGpio, base_mk, base_ite, ite_self, base_State_limitHit, base_State_incSat]

theorem base_execGpioHeldChange : ∀ x0 x1, obase (base x1) (execGpioHeldChange x0 x1) = base x1 := by
  intros; unfold execGpioHeldChange; (try simp only [])
  repeat' (first | with_reducible rfl | (split <;> try simp only [base_mk, obase_next]))

theorem base_State_setVolt : ∀ x0 x1 x2 x3, base (State.setVolt x0 x1 x2 x3) = base x0 := by
  intros; simp only [State.setVolt, base_State_setF]

theorem base_State_setPoint : ∀ x0 x1 x2 x3, base (State.setPoint x0 x1 x2 x3) = base x0 := by
  intros; simp only [State.setPoint, base_State_setF]

theorem base_State_setRail : ∀ x0 x1 x2, base (State.setRail x0 x1 x2) = base x0 := by
  intros; simp only [State.setRail, base_mk, base_ite, ite_self, base_State_limitHit, base_State_incSat]

theorem base_State_trackVin : ∀ x0, base (State.trackVin x0) = base x0 := by
  intros; simp only [State.trackVin, base_State_setRail]

theorem base_State_replan : ∀ x0 x1 x2 x3, base (State.replan x0 x1 x2 x3) = base x0 := by
  intros; simp only [State.replan, implies_true, base_foldl, base_ite, ite_self, base_State_setPoint, base_State_setVolt, base_State_setF, base_State_trackVin, base_State_syncCore, base_State_ledgerChange]

theorem base_State_markRetired : ∀ x0 x1, base (State.markRetired x0 x1) = base x0 := by
  intros; simp only [State.markRetired, base_State_incSat, base_State_setF, base_State_syncCore, base_State_setDomain]

theorem base_State_surveyMove : ∀ x0 x1 x2, base (State.surveyMove x0 x1 x2) = base x0 := by
  intros; simp only [State.surveyMove, base_mk, base_State_moveHart, base_State_setDomain, base_State_modHart]

theorem base_State_retire : ∀ x0 x1, base (State.retire x0 x1) = base x0 := by
  intros; unfold State.retire; (try simp only [base_mk, base_ite])
  repeat' (first | with_reducible rfl | (split <;> try simp only [base_mk, base_ite, ite_self, base_State_markRetired, base_State_powerRefuse, base_State_setF, base_State_ledgerChange, base_State_record, base_State_cutCore, base_State_syncCore, base_State_surveyMove, base_State_remap]))

theorem base_execRetirementRetry : ∀ x0 x1, obase (base x1) (execRetirementRetry x0 x1) = base x1 := by
  intros; simp only [execRetirementRetry, base_ite, ite_self, obase_next, base_State_retire]

theorem base_State_droopLower : ∀ x0 x1, base (State.droopLower x0 x1) = base x0 := by
  intros; unfold State.droopLower; (try simp only [base_ite])
  repeat' (first | with_reducible rfl | (split <;> try simp only [base_mk, base_ite, ite_self, base_State_syncCore, base_State_record]))

theorem base_execDroopGuard : ∀ x0 x1 x2, obase (base x2) (execDroopGuard x0 x1 x2) = base x2 := by
  intros; simp only [execDroopGuard, ite_self, obase_next, obase_ite, base_State_setF, base_State_droopLower, base_State_ledgerChange]

theorem base_execDroopStep : ∀ x0 x1 x2, obase (base x2) (execDroopStep x0 x1 x2) = base x2 := by
  intros; simp only [execDroopStep, base_ite, ite_self, obase_next, base_State_droopLower]

theorem base_execDroopReplan : ∀ x0 x1 x2 x3, obase (base x3) (execDroopReplan x0 x1 x2 x3) = base x3 := by
  intros; simp only [execDroopReplan, base_mk, base_ite, ite_self, obase_next, obase_ite, base_State_replan, base_State_syncCore, base_State_retire]

theorem base_State_syncProfile : ∀ x0, base (State.syncProfile x0) = base x0 := by
  intros; simp only [State.syncProfile, base_State_setF]

theorem base_State_setPlan : ∀ x0 x1 x2, base (State.setPlan x0 x1 x2) = base x0 := by
  intros; simp only [State.setPlan, base_ite, ite_self, base_State_ledgerChange, base_State_syncProfile, base_State_syncCore, base_State_setF]

theorem base_State_plan : ∀ x0 x1, base (State.plan x0 x1) = base x0 := by
  intros; simp only [State.plan, base_mk, base_ite, ite_self, base_State_setPlan]

theorem base_State_check : ∀ x0 x1 x2, base (State.check x0 x1 x2) = base x0 := by
  intros; simp only [State.check, base_mk, base_ite, ite_self, base_State_closeWindows, base_State_setF, base_State_incSat, base_State_replan, base_State_plan, base_State_retire]

theorem base_State_checkCore : ∀ x0 x1 x2, base (State.checkCore x0 x1 x2) = base x0 := by
  intros; unfold State.checkCore; (try simp only [])
  repeat' (first | with_reducible rfl | (split <;> try simp only [base_ite, ite_self, base_State_check, base_State_stopHart, base_State_modHart]))

theorem base_execRollingCheck : ∀ x0 x1 x2, obase (base x2) (execRollingCheck x0 x1 x2) = base x2 := by
  intros; simp only [execRollingCheck, base_mk, base_ite, ite_self, obase_next, obase_ite, base_State_checkCore]

theorem base_execRollingCheckRetry : ∀ x0 x1 x2, obase (base x2) (execRollingCheckRetry x0 x1 x2) = base x2 := by
  intros; simp only [execRollingCheckRetry, ite_self, obase_next, obase_ite, base_State_checkCore]

theorem base_execSurveyDueNotice : ∀ x0, obase (base x0) (execSurveyDueNotice x0) = base x0 := by
  intros; simp only [execSurveyDueNotice, ite_self, obase_next, obase_ite, base_State_ledgerChange, base_State_setF]

theorem base_execSurveyOverdue : ∀ x0, obase (base x0) (execSurveyOverdue x0) = base x0 := by
  intros; simp only [execSurveyOverdue, implies_true, base_foldl, base_ite, ite_self, obase_next, base_State_setPlan]

theorem base_State_surveyCore : ∀ x0 x1, base (State.surveyCore x0 x1) = base x0 := by
  intros; unfold State.surveyCore; (try simp only [base_mk, base_ite, ite_self, base_State_ledgerChange, base_State_retire, base_State_setF])
  repeat' (first | with_reducible rfl | assumption | (split <;> try simp only [base_State_setPoint, base_State_setVolt]) | (refine (base_foldl _ ?_ _ _).trans ?_ <;> (try intro _ _) <;> (try simp only [])))

theorem base_State_retireWays : ∀ x0 x1 x2, base (State.retireWays x0 x1 x2) = base x0 := by
  intros; simp only [State.retireWays, base_State_ledgerChange, base_State_retirePump, base_State_modSlice, base_State_setF]

theorem base_State_loseWay : ∀ x0 x1 x2, base (State.loseWay x0 x1 x2) = base x0 := by
  intros; simp only [State.loseWay, base_ite, ite_self, base_State_retireWays, base_State_record]

theorem base_State_enterRetire : ∀ x0 x1 x2 x3, base (State.enterRetire x0 x1 x2 x3) = base x0 := by
  intros; simp only [State.enterRetire, base_ite, ite_self, base_State_setRetire, base_State_ledgerChange]

theorem base_execMpLaneRetireWrite : ∀ x0 x1 x2 x3, obase (base x3) (execMpLaneRetireWrite x0 x1 x2 x3) = base x3 := by
  intros; simp only [execMpLaneRetireWrite, implies_true, base_ite, ite_self, base_State_keeperAt, base_State_enterRetire, base_State_setF]

theorem base_execMpTrainingDone : ∀ x0 x1 x2 x3, obase (base x3) (execMpTrainingDone x0 x1 x2 x3) = base x3 := by
  intros; unfold execMpTrainingDone; (try simp only [base_mk, base_ite, ite_self, obase_next, obase_ite, base_State_record, base_State_setF])
  repeat' (first | with_reducible rfl | (split <;> try simp only [base_mk, base_ite, ite_self, obase_next, base_State_record, base_State_setF, base_State_trained, base_State_noteEyes, base_State_ledgerChange]))

theorem base_State_losePin : ∀ x0 x1 x2 x3, base (State.losePin x0 x1 x2 x3) = base x0 := by
  intros; unfold State.losePin; (try simp only [base_ite])
  repeat' (first | with_reducible rfl | (split <;> try simp only [base_State_setF, base_State_enterRetire]))

theorem base_State_loseWire : ∀ x0 x1 x2 x3 x4, base (State.loseWire x0 x1 x2 x3 x4) = base x0 := by
  intros; unfold State.loseWire; (try simp only [base_ite])
  repeat' (first | with_reducible rfl | (split <;> try simp only [base_ite, ite_self, base_State_ledgerChange, base_State_setRegWord]))

theorem base_State_surveyPart : ∀ x0 x1, base (State.surveyPart x0 x1) = base x0 := by
  intros; unfold State.surveyPart; (try simp only [])
  repeat' (first | with_reducible rfl | (split <;> try simp only [base_ite, ite_self, base_State_loseWay, base_State_noteEyes, base_State_losePin, base_State_recalPort, base_State_ledgerChange, base_State_loseWire]))

theorem base_State_ageParts : ∀ x0, base (State.ageParts x0) = base x0 := by
  intros; simp only [State.ageParts, implies_true, base_foldl, base_ite, ite_self, base_State_loseWay, base_State_losePin]

theorem base_State_surveyEnd : ∀ x0 x1, base (State.surveyEnd x0 x1) = base x0 := by
  intros; simp only [State.surveyEnd, implies_true, base_mk, base_foldl, base_ite, ite_self, base_State_surveyCore, base_State_surveyPart, base_State_setF, base_State_leave, base_State_ledgerChange, base_State_trackVin]

theorem base_State_surveyStart : ∀ x0, base (State.surveyStart x0).2 = base x0 := by
  intros; simp only [State.surveyStart, base_ite, snd_ite, ite_self, base_State_drainCores, base_State_pauseHarts, base_State_stopFolios, base_State_withhold, base_State_retainCores, base_State_flushRound]

theorem base_execEnterSurvey : ∀ x0 x1 x2, obase (base x2) (execEnterSurvey x0 x1 x2) = base x2 := by
  intros; simp only [execEnterSurvey, base_mk, base_ite, ite_self, obase_next, obase_ite, base_State_surveyEnd, base_State_surveyStart, base_State_setMode]

theorem base_execSurveyDeadline : ∀ x0, obase (base x0) (execSurveyDeadline x0) = base x0 := by
  intros; simp only [execSurveyDeadline, base_ite, ite_self, obase_next, base_State_surveyEnd]

theorem base_execLifeModelTick : ∀ x0 x1, obase (base x1) (execLifeModelTick x0 x1) = base x1 := by
  intros; simp only [execLifeModelTick, implies_true, base_mk, base_foldl, ite_self, obase_next, obase_ite, base_State_setF, base_State_ageParts, base_State_incSat]

theorem base_execMlgWayRetireWrite : ∀ x0 x1 x2 x3, obase (base x3) (execMlgWayRetireWrite x0 x1 x2 x3) = base x3 := by
  intros; unfold execMlgWayRetireWrite; (try simp only [implies_true, base_ite, ite_self, base_State_keeperAt, base_State_retireWays])

theorem base_execLedgerCommitRetry : ∀ x0 x1, obase (base x1) (execLedgerCommitRetry x0 x1) = base x1 := by
  intros; simp only [execLedgerCommitRetry, base_ite, ite_self, obase_next, base_State_ledgerCommit]

end Sys2Proof.Laws
end

