-- ==== Sys2Proof/Laws/Base5.lean ====
section
/-! SUPPORT. What no operation changes but those that R390 and the queue name: the fuse array and the waiting commands. One lemma for each operation of Folio, SvcRegs, Aplic, Control, Inbound, Curator, Images, Slips, SlipOps. -/
namespace Sys2Proof.Laws

open Sys2Proof.Machine

set_option linter.unusedSimpArgs false

theorem base_State_pmuBlockWrite : ∀ x0 x1 x2 x3, base (State.pmuBlockWrite x0 x1 x2 x3) = base x0 := by
  intros; simp only [State.pmuBlockWrite, implies_true, base_foldl, base_ite, ite_self, base_State_writeReg, base_State_setF]

theorem base_execPmuBlockClear : ∀ x0 x1 x2 x3, obase (base x3) (execPmuBlockClear x0 x1 x2 x3) = base x3 := by
  intros; simp only [execPmuBlockClear, implies_true, base_State_guardedAt, base_State_pmuBlockWrite]

theorem base_State_folioWrite : ∀ x0 x1 x2 x3 x4, base (State.folioWrite x0 x1 x2 x3 x4) = base x0 := by
  intros; simp only [State.folioWrite, base_mk, base_ite, ite_self, base_State_writeReg, base_State_setF]

theorem base_execFolioCtrlWrite : ∀ x0 x1 x2, obase (base x2) (execFolioCtrlWrite x0 x1 x2) = base x2 := by
  intros; simp only [execFolioCtrlWrite, implies_true, base_State_guarded, base_State_folioWrite]

theorem base_State_folioLatch : ∀ x0 x1, base (State.folioLatch x0 x1) = base x0 := by
  intros; simp only [State.folioLatch, implies_true, base_mk, base_foldl, base_ite, ite_self]

theorem base_State_folioMod : ∀ x0 x1, base (State.folioMod x0 x1) = base x0 := by
  intros; simp only [State.folioMod, base_mk]

theorem base_State_folioError : ∀ x0, base (State.folioError x0) = base x0 := by
  intros; simp only [State.folioError, base_State_setF, base_State_folioMod]

theorem base_State_folioPut : ∀ x0 x1 x2 x3 x4, base (State.folioPut x0 x1 x2 x3 x4) = base x0 := by
  intros; simp only [State.folioPut, implies_true, base_foldl, base_ite, ite_self, base_State_cohWrite, base_State_folioError]

theorem base_State_folioAt : ∀ x0 x1, base (State.folioAt x0 x1) = base x0 := by
  intros; unfold State.folioAt; (try simp only [])
  repeat' (first | with_reducible rfl | (split <;> try simp only [implies_true, base_foldl, base_State_folioPut, base_State_folioMod]))

theorem base_State_folioClose : ∀ x0, base (State.folioClose x0) = base x0 := by
  intros; unfold State.folioClose; (try simp only [])
  repeat' (first | with_reducible rfl | (split <;> try simp only [base_mk, base_ite, ite_self, base_State_folioPut, base_State_setF]))

theorem base_State_folioGo : ∀ x0, base (State.folioGo x0) = base x0 := by
  intros; unfold State.folioGo; (try simp only [])
  repeat' (first | with_reducible rfl | (split <;> try simp only [implies_true, base_mk, base_foldl, base_ite, ite_self, base_State_served, base_State_folioClose, base_State_folioAt, base_State_writeBytes, base_State_folioMod, base_State_folioError]))

theorem base_execFolioEdge : ∀ x0 x1, obase (base x1) (execFolioEdge x0 x1) = base x1 := by
  intros; simp only [execFolioEdge, base_mk, ite_self, obase_next, obase_ite, base_State_folioGo, base_State_incSat, base_State_folioLatch]

theorem base_State_curatorReset : ∀ x0, base (State.curatorReset x0) = base x0 := by
  intros; simp only [State.curatorReset, implies_true, base_mk, base_foldl, base_State_dropAgent, base_State_setRegWord]

theorem base_State_curatorStart : ∀ x0, base (State.curatorStart x0) = base x0 := by
  intros; unfold State.curatorStart; (try simp only [])
  repeat' (first | with_reducible rfl | (split <;> try simp only [base_mk, base_ite, ite_self, base_State_setF, base_State_curatorReset]))

theorem base_State_curatorRun : ∀ x0 x1, base (State.curatorRun x0 x1) = base x0 := by
  intros; simp only [State.curatorRun, base_ite, ite_self, base_State_curatorStart, base_State_setF, base_State_curatorReset]

theorem base_State_curCtrlWrite : ∀ x0 x1 x2, base (State.curCtrlWrite x0 x1 x2) = base x0 := by
  intros; simp only [State.curCtrlWrite, base_State_curatorRun, base_State_writeReg]

theorem base_execCuratorRunWrite : ∀ x0 x1 x2, obase (base x2) (execCuratorRunWrite x0 x1 x2) = base x2 := by
  intros; simp only [execCuratorRunWrite, implies_true, base_State_keeperOnly, base_State_curCtrlWrite]

theorem base_State_curXipWrite : ∀ x0 x1 x2, base (State.curXipWrite x0 x1 x2) = base x0 := by
  intros; simp only [State.curXipWrite, base_mk, base_State_writeReg]

theorem base_State_kprWdtWrite : ∀ x0 x1 x2, base (State.kprWdtWrite x0 x1 x2) = base x0 := by
  intros; simp only [State.kprWdtWrite, base_ite, ite_self, base_State_writeReg, base_State_setF]

theorem base_execKeeperWdtKick : ∀ x0 x1 x2, obase (base x2) (execKeeperWdtKick x0 x1 x2) = base x2 := by
  intros; simp only [execKeeperWdtKick, implies_true, base_State_keeperOnly, base_State_kprWdtWrite]

theorem base_State_consentWrite : ∀ x0 x1 x2 x3, base (State.consentWrite x0 x1 x2 x3) = base x0 := by
  intros; simp only [State.consentWrite, implies_true, base_foldl, base_ite, ite_self, base_State_setRegWord, base_State_dropConsent]

theorem base_execDebugConsentWrite : ∀ x0 x1 x2, obase (base x2) (execDebugConsentWrite x0 x1 x2) = base x2 := by
  intros; simp only [execDebugConsentWrite, implies_true, base_State_guarded, base_State_consentWrite]

theorem base_State_bellWrite : ∀ x0 x1 x2 x3, base (State.bellWrite x0 x1 x2 x3) = base x0 := by
  intros; simp only [State.bellWrite, base_mk, base_ite, ite_self, base_State_writeReg]

theorem base_execSlipBell : ∀ x0 x1 x2 x3, obase (base x3) (execSlipBell x0 x1 x2 x3) = base x3 := by
  intros; simp only [execSlipBell, implies_true, base_State_guarded, base_State_bellWrite]

theorem base_State_srcSetPend : ∀ x0 x1, base (State.srcSetPend x0 x1) = base x0 := by
  intros; simp only [State.srcSetPend, base_ite, ite_self, base_State_setAplic]

theorem base_State_srcClrPend : ∀ x0 x1, base (State.srcClrPend x0 x1) = base x0 := by
  intros; simp only [State.srcClrPend, base_State_setAplic]

theorem base_State_srcSetEn : ∀ x0 x1 x2, base (State.srcSetEn x0 x1 x2) = base x0 := by
  intros; simp only [State.srcSetEn, base_ite, ite_self, base_State_setAplic]

theorem base_State_srcMode : ∀ x0 x1, base (State.srcMode x0 x1) = base x0 := by
  intros; unfold State.srcMode; (try simp only [])
  repeat' (first | with_reducible rfl | (split <;> try simp only [base_State_setAplic]))

theorem base_State_srcCfgWrite : ∀ x0 x1 x2 x3, base (State.srcCfgWrite x0 x1 x2 x3) = base x0 := by
  intros; simp only [State.srcCfgWrite, base_ite, ite_self, base_State_srcMode, base_State_setAplic]

theorem base_State_aplicPump : ∀ x0, base (State.aplicPump x0) = base x0 := by
  intros; simp only [State.aplicPump, implies_true, base_foldl, base_ite, ite_self, base_State_sendMsi]

theorem base_State_aplicWrite : ∀ x0 x1 x2 x3 x4, mbase (base x0) (State.aplicWrite x0 x1 x2 x3 x4) = base x0 := by
  intros; simp only [State.aplicWrite, implies_true, base_mk, base_foldl, base_ite, ite_self, mbase_some, mbase_none, mbase_ite, base_State_aplicPump, base_State_setIrq, base_State_srcCfgWrite, base_State_setAplic, base_State_srcSetPend, base_State_srcClrPend, base_State_srcSetEn]

theorem base_State_aplicWrite_some : ∀ x0 x1 x2 x3 x4 t, State.aplicWrite x0 x1 x2 x3 x4 = some t → base t = base x0 := by
  intro x0 x1 x2 x3 x4 t h; have h' := base_State_aplicWrite x0 x1 x2 x3 x4; rw [h] at h'; exact h'

theorem base_State_regionWrite : ∀ x0 x1 x2 x3, base (State.regionWrite x0 x1 x2 x3) = base x0 := by
  intros; unfold State.regionWrite; (try simp only [base_ite, base_State_deedForget, base_State_writeReg])
  repeat' (first | with_reducible rfl | (split <;> try simp only [base_State_deedForget, base_State_writeReg, base_State_addRefs]))

theorem base_State_axgCtrlWrite : ∀ x0 x1 x2, base (State.axgCtrlWrite x0 x1 x2) = base x0 := by
  intros; simp only [State.axgCtrlWrite, base_ite, ite_self, base_State_axReject, base_State_writeReg, base_State_disablePort, base_State_startBringup, base_State_setF, base_State_setAttested, base_State_openPort, base_State_quarantine, base_State_recalPort]

theorem base_State_fabricWrite : ∀ x0 x1, base (State.fabricWrite x0 x1) = base x0 := by
  intros; simp only [State.fabricWrite, base_ite, ite_self, base_State_fenceWrite, base_State_meterCommitWrite]

theorem base_State_tqReset : ∀ x0 x1, base (State.tqReset x0 x1) = base x0 := by
  intros; simp only [State.tqReset, base_ite, ite_self, base_State_modHp, base_State_squashQueue, base_State_setRState, base_State_ringReset, base_State_setQueue]

theorem base_State_limitWrite : ∀ x0 x1, base (State.limitWrite x0 x1) = base x0 := by
  intros; simp only [State.limitWrite, base_ite, ite_self, base_State_limitHit, base_State_writeReg]

theorem base_State_vfWrite : ∀ x0 x1 x2 x3, base (State.vfWrite x0 x1 x2 x3) = base x0 := by
  intros; simp only [State.vfWrite, implies_true, base_foldl, base_State_limitHit, base_State_incSat, base_State_writeReg, base_State_trackVin, base_State_syncCore]

theorem base_State_coreStatusWrite : ∀ x0 x1 x2, base (State.coreStatusWrite x0 x1 x2) = base x0 := by
  intros; simp only [State.coreStatusWrite, base_State_syncCore, base_State_writeReg]

theorem base_State_zeroWrite : ∀ x0 x1 x2 x3 x4, base (State.zeroWrite x0 x1 x2 x3 x4) = base x0 := by
  intros; unfold State.zeroWrite; (try simp only [])
  repeat' (first | with_reducible rfl | (split <;> try simp only [base_ite, ite_self, base_State_fabricWrite, base_State_axgCtrlWrite, base_State_writeReg, base_State_windowCommit, base_State_trainStart, base_State_keyCommand, base_State_modeRequest, base_State_limitWrite, base_State_vfWrite, base_State_kprWdtWrite, base_State_curCtrlWrite, base_State_curXipWrite, base_State_setF]))

theorem base_State_regWrite : ∀ x0 x1 x2 x3 x4 x5 x6, obase (base x0) (State.regWrite x0 x1 x2 x3 x4 x5 x6) = base x0 := by
  intros; unfold State.regWrite; (try simp only [])
  repeat' (first | with_reducible rfl | assumption | (split <;> try simp only [implies_true, id_eq, base_ite, ite_self, obase_next, obase_ite, base_State_guardedAt, base_execCoreMtimeWrite, base_execCoreMtimecmpWrite, base_execCoreSpecCtrlWrite, base_State_writeReg, base_execCoreMemattrWrite, base_execLlcShelfWrite, base_execLlcWidClassWrite, base_execLlcShelfCtrlWrite, base_State_broadcast, base_State_regionWrite, base_execNiRouteWrite, base_execMeterStagingWrite, base_execRtSpareWrite, base_execAxgGrantWrite, base_execAxgWindowStagingWrite, base_execMpLaneRetireWrite, base_execMlgWayRetireWrite, base_execDeedTableEnable, base_execWldGpioWidWrite, base_execWldDebugInvWrite, base_execWldDebugNoninvWrite, base_State_deedCommand, base_execSlipBell, base_State_consentWrite, base_execHpPortEnable, base_execFreeze, base_execReleaseFreeze, base_State_zeroWrite, base_execHpViAperWrite, base_execHpTqTailWrite, base_State_cplHeadWrite, base_State_ringWrite, base_State_tqReset, base_execDeChCfgWrite, base_execDeChTailWrite, base_execDeChCplHeadWrite, base_execDeChRingWrite, base_execChannelReset, base_execDeScanCfgWrite, base_State_domWrite, base_execCalendarSet, base_State_setF, base_State_pmuBlockWrite, base_State_folioWrite, base_State_guarded, base_State_refuse, base_State_coreStatusWrite]))

theorem base_State_fileWrite : ∀ x0 x1 x2 x3 x4, obase (base x0) (State.fileWrite x0 x1 x2 x3 x4) = base x0 := by
  intros; simp only [State.fileWrite, base_execImsicSeteipnumWrite]

theorem base_State_ctlWrite (s : State) (w : Issuer) (pa n : Nat) (d : Word) : obase (base s) (s.ctlWrite w pa n d) = base s := by
  unfold State.ctlWrite
  simp only [obase_ite]
  split
  · simp only [ok, obase_next, base_State_refuse]
  · split
    · simp only [ok, obase_next, base_State_refuse]
    · split <;> exact base_State_fileWrite ..
    · split
      · rename_i h
        obtain ⟨t, ht, h'⟩ := Option.bind_eq_some_iff.mp h
        have e := base_State_aplicWrite_some _ _ _ _ _ _ ht
        simp only [ok, obase_next, base_State_accept]
        split at h'
        · exact (base_State_aplicWrite_some _ _ _ _ _ _ h').trans e
        · injection h' with h'
          rw [← h', e]
      · simp only [ok, obase_next, base_State_refuse]
    · split
      · simp only [ok, obase_next, base_State_holdWrite]
      · exact base_State_regWrite ..
    · split
      · simp only [ok, obase_next, base_State_refuse]
      · exact base_State_guarded _ _ _ _ _ (fun _ => rfl)

theorem base_execRegisterWrite : ∀ x0 x1 x2 x3 x4, obase (base x4) (execRegisterWrite x0 x1 x2 x3 x4) = base x4 := by
  intros; simp only [execRegisterWrite, base_State_ctlWrite]

theorem base_State_after (s : State) (o : Host.Outcome State Fault Refusal) (h : obase (base s) o = base s) : base (s.after o) = base s := by
  cases o with
  | next => exact h
  | _ => rfl

theorem base_State_ctlWriteNow : ∀ x0 x1 x2 x3 x4, base (State.ctlWriteNow x0 x1 x2 x3 x4).2 = base x0 := by
  intros; simp only [State.ctlWriteNow, base_mk, base_State_after, base_State_ctlWrite]

theorem base_State_regRead : ∀ x0 x1, base (State.regRead x0 x1) = base x0 := by
  intros; unfold State.regRead; (try simp only [])
  repeat' (first | with_reducible rfl | (split <;> try simp only [base_ite, ite_self, base_State_send, base_State_refusedReg]))

theorem base_State_ioRead : ∀ x0 x1, base (State.ioRead x0 x1) = base x0 := by
  intros; unfold State.ioRead; (try simp only [base_ite, base_State_send])
  repeat' (first | with_reducible rfl | (split <;> try simp only [base_ite, ite_self, base_State_hpRead, base_State_hpErr, base_State_gateMmio, base_State_regRead]))

theorem base_execIoRead : ∀ x0 x1, obase (base x1) (execIoRead x0 x1) = base x1 := by
  intros; unfold execIoRead; (try simp only [implies_true, obase_next, base_State_receive, base_State_ioRead])

theorem base_State_ioWrite : ∀ x0 x1, base (State.ioWrite x0 x1) = base x0 := by
  intros; unfold State.ioWrite; (try simp only [base_ite, base_State_send])
  repeat' (first | with_reducible rfl | (split <;> try simp only [base_mk, base_State_send, base_State_gateMmio]))

theorem base_execIoWrite : ∀ x0 x1, obase (base x1) (execIoWrite x0 x1) = base x1 := by
  intros; unfold execIoWrite; (try simp only [implies_true, obase_next, base_State_receive, base_State_ioWrite])

theorem base_State_ioWriteData (s : State) (x : Packet) (d : Sector) (po : Bool) : base (s.ioWriteData x d po) = base s := by
  unfold State.ioWriteData
  split
  · simp only [base_ite, base_State_hpWrite, base_State_hpErr, base_mk, ite_self]
  · exact (base_State_after _ _ (base_State_ctlWrite ..)).trans (base_mk ..)

theorem base_State_writeDataArrive : ∀ x0 x1 x2 x3 x4 x5, base (State.writeDataArrive x0 x1 x2 x3 x4 x5) = base x0 := by
  intros; unfold State.writeDataArrive
  repeat' (first | with_reducible rfl | assumption | (split <;> try simp only [base_State_ioWriteData, base_State_gateWriteData]) | (refine (base_State_homeWriteData_some _ _ _ _ _ _ _ (by assumption)).trans ?_ <;> try simp only []))

theorem base_execWriteData : ∀ x0 x1, obase (base x1) (execWriteData x0 x1) = base x1 := by
  intros; unfold execWriteData; (try simp only [implies_true, obase_next, base_State_receive, base_State_writeDataArrive])

theorem base_execWriteDataMasked : ∀ x0 x1, obase (base x1) (execWriteDataMasked x0 x1) = base x1 := by
  intros; unfold execWriteDataMasked; (try simp only [implies_true, obase_next, base_State_receive, base_State_writeDataArrive])

theorem base_State_busRead : ∀ x0 x1 x2 x3, base (State.busRead x0 x1 x2 x3).2 = base x0 := by
  intros; unfold State.busRead; (try simp only [])
  repeat' (first | with_reducible rfl | (split <;> try simp only [base_ite, snd_ite, base_State_cohRead]))

theorem base_State_busWrite : ∀ x0 x1 x2 x3 x4, base (State.busWrite x0 x1 x2 x3 x4).2 = base x0 := by
  intros; unfold State.busWrite; (try simp only [])
  repeat' (first | with_reducible rfl | (split <;> try simp only [base_ite, snd_ite, ite_self, base_State_ctlWriteNow, base_State_cohWrite]))

theorem base_State_dmRequest : ∀ x0 x1 x2 x3 x4 x5, base (State.dmRequest x0 x1 x2 x3 x4 x5) = base x0 := by
  intros; simp only [State.dmRequest, base_mk, base_State_request]

theorem base_State_busAccess : ∀ x0 x1 x2 x3 x4 x5, base (State.busAccess x0 x1 x2 x3 x4 x5) = base x0 := by
  intros; unfold State.busAccess; (try simp only [base_mk, base_ite])
  repeat' (first | with_reducible rfl | (split <;> try simp only [base_mk, base_ite, base_State_dmRequest, base_State_busWrite, base_State_busRead]))

theorem base_execDebugSystemBusAccess : ∀ x0 x1 x2 x3 x4 x5, obase (base x5) (execDebugSystemBusAccess x0 x1 x2 x3 x4 x5) = base x5 := by
  intros; unfold execDebugSystemBusAccess; (try simp only [implies_true, ite_self, obase_next, obase_ite, base_State_served, base_State_busAccess])

theorem base_execPfSlipGo : ∀ x0, obase (base x0) (execPfSlipGo x0) = base x0 := by
  intros; simp only [execPfSlipGo, base_mk, obase_next]

theorem base_execPfFlr : ∀ x0, obase (base x0) (execPfFlr x0) = base x0 := by
  intros; simp only [execPfFlr, base_mk, obase_next, base_State_removeAll]

theorem base_State_inRefused : ∀ x0 x1 x2 x3, base (State.inRefused x0 x1 x2 x3) = base x0 := by
  intros; simp only [State.inRefused, base_State_record]

theorem base_State_inMemRead : ∀ x0 x1 x2 x3 x4, base (State.inMemRead x0 x1 x2 x3 x4) = base x0 := by
  intros; unfold State.inMemRead; (try simp only [])
  repeat' (first | with_reducible rfl | assumption | (split <;> try simp only [base_State_inRefused, base_State_tlp, base_State_cohRead]) | (refine (base_foldl2 _ ?_ _ _).trans ?_ <;> (try intro _ _) <;> (try simp only [base_ite, snd_ite, base_State_inRefused, base_State_tlp])))

theorem base_State_inMemWrite : ∀ x0 x1 x2 x3 x4 x5, base (State.inMemWrite x0 x1 x2 x3 x4 x5) = base x0 := by
  intros; unfold State.inMemWrite; (try simp only [])
  repeat' (first | with_reducible rfl | assumption | (split <;> try simp only [base_State_inRefused, base_State_cohWrite]) | (refine (base_foldl _ ?_ _ _).trans ?_ <;> (try intro _ _) <;> (try simp only [base_ite, base_State_inRefused])))

theorem base_State_inMsi : ∀ x0 x1 x2 x3 x4, base (State.inMsi x0 x1 x2 x3 x4) = base x0 := by
  intros; unfold State.inMsi; (try simp only [])
  repeat' (first | with_reducible rfl | (split <;> try simp only [base_ite, base_State_inRefused, base_State_ctlWriteNow]))

theorem base_State_bar0Write : ∀ x0 x1 x2 x3 x4, base (State.bar0Write x0 x1 x2 x3 x4).2 = base x0 := by
  intros; unfold State.bar0Write; (try simp only [base_ite, snd_ite, ite_self, base_State_vfPump, base_State_setVf])
  repeat' (first | with_reducible rfl | (split <;> try simp only [base_State_ctlWriteNow]))

theorem base_State_cfgWrite : ∀ x0 x1 x2 x3, base (State.cfgWrite x0 x1 x2 x3) = base x0 := by
  intros; unfold State.cfgWrite; (try simp only [base_ite])
  repeat' (first | with_reducible rfl | (split <;> try simp only [base_mk, base_ite, ite_self, base_State_pfPump, base_State_removeAll, base_State_vfPump, base_State_setVf]))

theorem base_State_inUr : ∀ x0 x1 x2 x3 x4, base (State.inUr x0 x1 x2 x3 x4) = base x0 := by
  intros; simp only [State.inUr, base_ite, ite_self, base_State_inRefused, base_State_tlp]

theorem base_State_epRead : ∀ x0 x1, base (State.epRead x0 x1) = base x0 := by
  intros; unfold State.epRead; (try simp only [])
  repeat' (first | with_reducible rfl | (split <;> try simp only [base_ite, base_State_tlp, base_State_inUr, base_State_inRefused, base_State_inMemRead]))

theorem base_State_epWrite : ∀ x0 x1 x2, base (State.epWrite x0 x1 x2) = base x0 := by
  intros; unfold State.epWrite; (try simp only [])
  repeat' (first | with_reducible rfl | (split <;> try simp only [base_mk, base_ite, ite_self, base_State_inRefused, base_State_inUr, base_State_bar0Write, base_State_inMemWrite, base_State_cfgWrite]))

theorem base_State_inbound (s : State) (k : Nat) (cmd : Instr) (f : State → State) (hf : ∀ s, base (f s) = base s) : base (s.inbound k cmd f) = base s := by
  refine base_State_served _ _ _ _ _ (fun s => ?_)
  split
  · exact base_State_coh ..
  · exact hf s

theorem base_State_inRead : ∀ x0 x1 x2 x3, base (State.inRead x0 x1 x2 x3) = base x0 := by
  intros; simp only [State.inRead, base_ite, ite_self, base_State_inUr, base_State_epRead, base_State_inMemRead]

theorem base_execPcieInboundRead : ∀ x0 x1 x2 x3, obase (base x3) (execPcieInboundRead x0 x1 x2 x3) = base x3 := by
  intros; simp only [execPcieInboundRead, implies_true, obase_next, base_State_inbound, base_State_inRead]

theorem base_State_inWrite : ∀ x0 x1 x2 x3 x4, base (State.inWrite x0 x1 x2 x3 x4) = base x0 := by
  intros; simp only [State.inWrite, base_ite, ite_self, base_State_inUr, base_State_epWrite, base_State_inMemWrite, base_State_inMsi]

theorem base_execPcieInboundWrite : ∀ x0 x1 x2 x3 x4, obase (base x4) (execPcieInboundWrite x0 x1 x2 x3 x4) = base x4 := by
  intros; simp only [execPcieInboundWrite, implies_true, obase_next, base_State_inbound, base_State_inWrite]

theorem base_State_inAtomic : ∀ x0 x1 x2 x3 x4 x5 x6, base (State.inAtomic x0 x1 x2 x3 x4 x5 x6) = base x0 := by
  intros; unfold State.inAtomic; (try simp only [base_ite, base_State_inUr])
  repeat' (first | with_reducible rfl | (split <;> try simp only [base_State_cohAtomic, base_State_inRefused, base_State_tlp]))

theorem base_execPcieInboundAtomic : ∀ x0 x1 x2 x3 x4 x5 x6, obase (base x6) (execPcieInboundAtomic x0 x1 x2 x3 x4 x5 x6) = base x6 := by
  intros; unfold execPcieInboundAtomic; (try simp only [implies_true, obase_next, base_State_inbound, base_State_inAtomic])

theorem base_State_flashResult : ∀ x0 x1, base (State.flashResult x0 x1) = base x0 := by
  intros; simp only [State.flashResult, base_State_setF]

theorem base_State_flashCmd : ∀ x0 x1 x2, base (State.flashCmd x0 x1 x2) = base x0 := by
  intros; simp only [State.flashCmd, base_mk, base_ite, ite_self, base_State_flashResult, base_State_setF]

theorem base_execFlashProgram : ∀ x0 x1, obase (base x1) (execFlashProgram x0 x1) = base x1 := by
  intros; simp only [execFlashProgram, base_ite, ite_self, obase_next, base_State_flashCmd]

theorem base_execFlashEraseSector : ∀ x0, obase (base x0) (execFlashEraseSector x0) = base x0 := by
  intros; simp only [execFlashEraseSector, base_ite, ite_self, obase_next, base_State_flashCmd]

theorem base_execFlashEraseBlock : ∀ x0, obase (base x0) (execFlashEraseBlock x0) = base x0 := by
  intros; simp only [execFlashEraseBlock, base_ite, ite_self, obase_next, base_State_flashCmd]

theorem base_State_dropLines : ∀ x0 x1 x2, base (State.dropLines x0 x1 x2) = base x0 := by
  intros; simp only [State.dropLines, base_mk]

theorem base_execFlashCommandDone : ∀ x0 x1, obase (base x1) (execFlashCommandDone x0 x1) = base x1 := by
  intros; unfold execFlashCommandDone; (try simp only [])
  repeat' (first | with_reducible rfl | (split <;> try simp only [base_mk, base_ite, ite_self, obase_next, base_State_flashProgram, base_State_flashErase, base_State_dropLines, base_State_flashResult, base_State_setF]))

theorem base_State_curKick : ∀ x0 x1, base (State.curKick x0 x1) = base x0 := by
  intros; simp only [State.curKick, base_ite, ite_self, base_State_setF]

theorem base_execCurWdtKick : ∀ x0 x1, obase (base x1) (execCurWdtKick x0 x1) = base x1 := by
  intros; simp only [execCurWdtKick, base_ite, ite_self, obase_next, base_State_curKick]

theorem base_State_curGo : ∀ x0, base (State.curGo x0) = base x0 := by
  intros; simp only [State.curGo, base_ite, ite_self, base_State_setF]

theorem base_execCuratorSlipGo : ∀ x0, obase (base x0) (execCuratorSlipGo x0) = base x0 := by
  intros; simp only [execCuratorSlipGo, base_ite, ite_self, obase_next, base_State_curGo]

theorem base_State_curRegRead : ∀ x0 x1, base (State.curRegRead x0 x1).2 = base x0 := by
  intros; unfold State.curRegRead; (try simp only [])
  repeat' (first | with_reducible rfl | (split <;> try simp only [base_mk]))

theorem base_State_curRegWrite : ∀ x0 x1 x2, base (State.curRegWrite x0 x1 x2) = base x0 := by
  intros; unfold State.curRegWrite
  repeat' (first | with_reducible rfl | (split <;> try simp only [base_ite, ite_self, base_State_curKick, base_State_flashCmd, base_State_curGo, base_State_writeReg]))

theorem base_State_lineRead : ∀ x0 x1, base (State.lineRead x0 x1) = base x0 := by
  intros; simp only [State.lineRead, base_mk]

theorem base_State_curFetch : ∀ x0 x1 x2, base (State.curFetch x0 x1 x2).2 = base x0 := by
  intros; unfold State.curFetch; (try simp only [base_ite, snd_ite])
  repeat' (first | with_reducible rfl | (split <;> try simp only [base_ite, ite_self, base_State_lineRead]))

theorem base_State_curTrain : ∀ x0 x1 x2 x3, base (State.curTrain x0 x1 x2 x3) = base x0 := by
  intros; unfold State.curTrain; (try simp only [])
  repeat' (first | with_reducible rfl | (split <;> try simp only [base_mk, base_ite, ite_self]))

theorem base_State_tcmWrite : ∀ x0 x1 x2 x3, base (State.tcmWrite x0 x1 x2 x3) = base x0 := by
  intros; simp only [State.tcmWrite, base_mk]

theorem base_State_curLoadReg : ∀ x0 x1 x2, base (State.curLoadReg x0 x1 x2).2 = base x0 := by
  intros; unfold State.curLoadReg; (try simp only [])
  repeat' (first | with_reducible rfl | (split <;> try simp only [base_ite, snd_ite, ite_self, base_State_curRegRead]))

theorem base_State_curStoreReg : ∀ x0 x1 x2 x3, base (State.curStoreReg x0 x1 x2 x3).2 = base x0 := by
  intros; unfold State.curStoreReg
  repeat' (first | with_reducible rfl | (split <;> try simp only [base_ite, snd_ite, ite_self, base_State_curRegWrite]))

theorem base_State_curLoadCtl : ∀ x0 x1 x2, base (State.curLoadCtl x0 x1 x2).2 = base x0 := by
  intros; unfold State.curLoadCtl
  repeat' (first | with_reducible rfl | (split <;> try simp only [base_ite, ite_self, base_State_refusedReg]))

theorem base_State_curLoadXip (s : State) (o : Option Nat) (n : Nat) : base (s.curLoadXip o n).2 = base s := by
  cases o with
  | none => rfl
  | some => exact base_State_lineRead ..

theorem base_curLoadBus (r : CtlAns × State) : base (curLoadBus r).2 = base r.2 := by
  unfold curLoadBus
  split <;> rfl

theorem base_State_curLoad (s : State) (a n : Nat) : base (s.curLoad a n).2 = base s := by
  simp only [State.curLoad, snd_ite, base_ite, base_State_curLoadReg, base_State_curLoadCtl, base_curLoadBus, base_State_busRead, base_State_curLoadXip, ite_self]

theorem base_curStoreAns (r : Option Nat × State) : base (curStoreAns r).2 = base r.2 := by cases r; rfl

theorem base_State_curStore (s : State) (a n v : Nat) : base (s.curStore a n v).2 = base s := by
  simp only [State.curStore, snd_ite, base_ite, base_State_tcmWrite, base_State_curStoreReg, base_curStoreAns, base_State_ctlWriteNow, base_State_busWrite, ite_self]

theorem base_State_setCurCsr : ∀ x0 x1 x2, base (State.setCurCsr x0 x1 x2) = base x0 := by
  intros; simp only [State.setCurCsr, base_mk]

theorem base_State_setCurX : ∀ x0 x1 x2, base (State.setCurX x0 x1 x2) = base x0 := by
  intros; simp only [State.setCurX, base_mk, base_ite, ite_self]

theorem base_State_setCurPc : ∀ x0 x1, base (State.setCurPc x0 x1) = base x0 := by
  intros; simp only [State.setCurPc, base_mk]

theorem base_State_curTrap : ∀ x0 x1 x2 x3 x4, base (State.curTrap x0 x1 x2 x3 x4) = base x0 := by
  intros; simp only [State.curTrap, base_mk, base_State_setCurCsr, base_State_setCurPc]

theorem base_execCuratorInterrupt : ∀ x0, obase (base x0) (execCuratorInterrupt x0) = base x0 := by
  intros; simp only [execCuratorInterrupt, ite_self, obase_next, obase_ite, base_State_curTrap]

theorem base_execCuratorTimerMatch : ∀ x0, obase (base x0) (execCuratorTimerMatch x0) = base x0 := by
  intros; simp only [execCuratorTimerMatch, base_mk, base_ite, ite_self, obase_next]

theorem base_State_curExec : ∀ x0 x1 x2 x3, base (State.curExec x0 x1 x2 x3) = base x0 := by
  intros; unfold State.curExec; (try simp only [])
  repeat' (first | with_reducible rfl | (split <;> try simp only [base_mk, base_ite, ite_self, base_State_setCurPc, base_State_setCurX, base_State_curLoad, base_State_curTrap, base_State_curStore, base_State_tcmWrite, base_State_curTrain, base_State_setCurCsr]))

theorem base_State_curStep : ∀ x0 x1, base (State.curStep x0 x1) = base x0 := by
  intros; simp only [State.curStep, base_mk, base_ite, ite_self, base_State_curFetch, base_State_curExec, base_State_curTrap]

theorem base_execCuratorInstruction : ∀ x0 x1, obase (base x1) (execCuratorInstruction x0 x1) = base x1 := by
  intros; simp only [execCuratorInstruction, implies_true, ite_self, obase_next, obase_ite, base_State_served, base_State_curStep]

theorem base_State_loadTcm : ∀ x0 x1, base (State.loadTcm x0 x1) = base x0 := by
  intros; simp only [State.loadTcm, base_mk]

theorem base_execCuratorWatchdogExpiry : ∀ x0, obase (base x0) (execCuratorWatchdogExpiry x0) = base x0 := by
  intros; unfold execCuratorWatchdogExpiry; (try simp only [base_mk, obase_next, obase_ite, base_State_record, base_State_setF, base_State_incSat, base_State_curatorReset])
  repeat' (first | with_reducible rfl | (split <;> try simp only [base_mk, obase_next, base_State_record, base_State_setF, base_State_incSat, base_State_curatorReset, base_State_curatorStart, base_State_loadTcm]))

theorem base_State_keeperFetch : ∀ x0 x1, base (State.keeperFetch x0 x1) = base x0 := by
  intros; simp only [State.keeperFetch, base_mk, base_ite, ite_self]

theorem base_State_enterPatch : ∀ x0, base (State.enterPatch x0) = base x0 := by
  intros; unfold State.enterPatch; (try simp only [])
  repeat' (first | with_reducible rfl | (split <;> try simp only [base_mk, base_State_keeperFetch]))

theorem base_State_fuseRefused : ∀ x0 x1, base (State.fuseRefused x0 x1) = base x0 := by
  intros; simp only [State.fuseRefused, base_State_limitHit, base_State_incSat]

theorem base_State_syncProvisioned : ∀ x0, base (State.syncProvisioned x0) = base x0 := by
  intros; simp only [State.syncProvisioned, base_State_setF]

theorem base_State_kRead : ∀ x0 x1 x2, base (State.kRead x0 x1 x2).2 = base x0 := by
  intros; simp only [State.kRead, base_State_readBytes]

theorem base_State_kWrite : ∀ x0 x1 x2 x3, base (State.kWrite x0 x1 x2 x3).2 = base x0 := by
  intros; simp only [State.kWrite, base_State_writeBytes]

theorem base_State_ringBad : ∀ x0 x1 x2, base (State.ringBad x0 x1 x2) = base x0 := by
  intros; unfold State.ringBad; (try simp only [base_ite])
  repeat' (first | with_reducible rfl | (split <;> try simp only [base_State_kRead, base_State_kWrite]))

theorem base_State_takeEntry : ∀ x0 x1 x2 x3, base (State.takeEntry x0 x1 x2 x3).2 = base x0 := by
  intro x0 x1 x2 x3
  induction x3 generalizing x0 x1 x2 with
  | zero => unfold State.takeEntry; repeat' (first | with_reducible rfl)
  | succ n ih =>
    unfold State.takeEntry; (try simp only [])
    repeat' (first | with_reducible rfl | assumption | (have hn := Nat.succ.inj (n := n) (by assumption); subst hn; try simp only [ih, implies_true, id_eq, base_mk, base_foldl, base_foldl2, base_ite, snd_ite, snd_ite2, snd_ite3, ite_self, obase_next, obase_ite, mbase_some, mbase_none, mbase_ite, pbase_some, pbase_none, pbase_ite, base_State_kRead, base_State_kWrite, base_State_ringBad, base_State_readBytes]) | (split <;> try simp only [ih, base_mk, base_ite, snd_ite, ite_self, base_State_kRead, base_State_kWrite, base_State_ringBad, base_State_readBytes]))

theorem base_State_takeRing : ∀ x0 x1, base (State.takeRing x0 x1).2 = base x0 := by
  intros; simp only [State.takeRing, base_mk, base_ite, snd_ite, ite_self, base_State_kWrite, base_State_takeEntry]

theorem base_State_takeSlip : ∀ x0 x1, base (State.takeSlip x0 x1).2 = base x0 := by
  intros; unfold State.takeSlip; (try simp only [base_ite, snd_ite])
  repeat' (first | with_reducible rfl | (split <;> try simp only [snd_ite, ite_self, base_State_takeRing]))

theorem base_State_answerRing : ∀ x0 x1 x2, base (State.answerRing x0 x1 x2) = base x0 := by
  intros; unfold State.answerRing; (try simp only [base_ite, snd_ite, ite_self, base_State_kWrite, base_State_ringBad])
  repeat' (first | with_reducible rfl | (split <;> try simp only [base_ite, ite_self, base_State_kWrite, base_State_ringBad, base_State_kRead, base_State_setIrq]))

theorem base_State_answerSlip : ∀ x0 x1 x2, base (State.answerSlip x0 x1 x2) = base x0 := by
  intros; unfold State.answerSlip; (try simp only [])
  repeat' (first | with_reducible rfl | (split <;> try simp only [base_mk, base_ite, ite_self, base_State_answerRing, base_State_setF, base_State_pfInt]))

theorem base_State_keepHdr : ∀ x0 x1 x2, base (State.keepHdr x0 x1 x2) = base x0 := by
  intros; simp only [State.keepHdr, base_mk]

theorem base_State_closeSlip : ∀ x0 x1 x2 x3, base (State.closeSlip x0 x1 x2 x3) = base x0 := by
  intros; simp only [State.closeSlip, base_mk, base_ite, ite_self, base_State_keepHdr, base_State_answerSlip]

theorem base_State_tokenOf : ∀ x0 x1, base (State.tokenOf x0 x1).2.2 = base x0 := by
  intros; unfold State.tokenOf; (try simp only [])
  repeat' (first | with_reducible rfl | (split <;> try simp only [base_State_readBytes]))

theorem base_State_checkToken : ∀ x0 x1 x2, base (State.checkToken x0 x1 x2).2 = base x0 := by
  intros; unfold State.checkToken; (try simp only [])
  repeat' (first | with_reducible rfl | (split <;> try simp only [base_mk, base_ite, snd_ite, base_State_tokenOf]))

theorem base_State_slipChecks : ∀ x0 x1 x2, base (State.slipChecks x0 x1 x2).2 = base x0 := by
  intros; unfold State.slipChecks; (try simp only [])
  repeat' (first | with_reducible rfl | (split <;> try simp only [base_ite, snd_ite, base_State_checkToken]))

theorem base_State_peekRing (s : State) (w page tail n head : Nat) : base (s.peekRing w page tail n head).2 = base s := by
  induction n generalizing s head with
  | zero => rfl
  | succ n ih =>
    have hk : base (s.kRead (page + 64 + 8 * (head % 64)) 8).2 = base s := base_State_kRead ..
    have hr : ∀ b, base ((s.kRead (page + 64 + 8 * (head % 64)) 8).2.readBytes 0 3 b 2).2.2.2 = base s := fun _ => (base_State_readBytes ..).trans hk
    unfold State.peekRing
    simp only [snd_ite, base_ite]
    split
    · rfl
    · split <;> simp only [snd_ite, base_ite, ih, hk, hr, ite_self]

theorem base_State_waitingOp : ∀ x0 x1, base (State.waitingOp x0 x1).2 = base x0 := by
  intros; unfold State.waitingOp; (try simp only [])
  repeat' (first | with_reducible rfl | (split <;> try simp only [base_ite, snd_ite, base_State_kRead, base_State_peekRing]))

theorem base_State_setPhase : ∀ x0 x1 x2, base (State.setPhase x0 x1 x2) = base x0 := by
  intros; simp only [State.setPhase, base_mk]

theorem base_State_done : ∀ x0 x1 x2, base (State.done x0 x1 x2).2 = base x0 := by
  intros; simp only [State.done]

theorem base_State_deny : ∀ x0 x1 x2, base (State.deny x0 x1 x2).2 = base x0 := by
  intros; simp only [State.deny]

theorem base_State_hwRefuse : ∀ x0 x1 x2, base (State.hwRefuse x0 x1 x2).2 = base x0 := by
  intros; simp only [State.hwRefuse, base_State_deny]

theorem base_State_hold : ∀ x0 x1 x2, base (State.hold x0 x1 x2).2 = base x0 := by
  intros; simp only [State.hold, base_State_setPhase]

theorem base_State_start (s : State) (c : Slip) (wid : Nat) (f : State → Nat → State) (hf : ∀ s i, base (f s i) = base s) : base (s.start c wid f).2 = base s := by
  simp only [State.start, base_mk, base_ite, snd_ite, base_State_deny, base_State_hold, hf, ite_self]

theorem base_State_opGetInfo : ∀ x0 x1 x2, base (State.opGetInfo x0 x1 x2).2 = base x0 := by
  intros; simp only [State.opGetInfo, base_State_done]

theorem base_State_opGetNonce : ∀ x0 x1 x2, base (State.opGetNonce x0 x1 x2).2 = base x0 := by
  intros; simp only [State.opGetNonce, base_mk, base_State_done]

theorem base_State_nonceExpire : ∀ x0 x1, base (State.nonceExpire x0 x1) = base x0 := by
  intros; simp only [State.nonceExpire, base_mk]

theorem base_State_opGetRandom : ∀ x0 x1 x2, base (State.opGetRandom x0 x1 x2).2 = base x0 := by
  intros; simp only [State.opGetRandom, base_mk, base_State_done]

theorem base_State_opImageStatus : ∀ x0 x1 x2, base (State.opImageStatus x0 x1 x2).2 = base x0 := by
  intros; simp only [State.opImageStatus, base_State_done]

theorem base_State_opWarmReset : ∀ x0 x1 x2, base (State.opWarmReset x0 x1 x2).2 = base x0 := by
  intros; simp only [State.opWarmReset, base_mk, base_State_done]

theorem base_State_opFlashErase : ∀ x0 x1 x2, base (State.opFlashErase x0 x1 x2).2 = base x0 := by
  intros; simp only [State.opFlashErase, base_ite, snd_ite, ite_self, base_State_deny, base_State_hwRefuse, base_State_done, base_State_dropLines, base_State_flashErase]

theorem base_State_opFlashWrite : ∀ x0 x1 x2, base (State.opFlashWrite x0 x1 x2).2 = base x0 := by
  intros; simp only [State.opFlashWrite, base_ite, snd_ite, ite_self, base_State_deny, base_State_hwRefuse, base_State_done, base_State_dropLines, base_State_flashProgram]

theorem base_State_opModeSet : ∀ x0 x1 x2, base (State.opModeSet x0 x1 x2).2 = base x0 := by
  intros; simp only [State.opModeSet, base_ite, snd_ite, ite_self, base_State_hold, base_State_done, base_State_hwRefuse, base_State_deny, base_State_modeRequest]

theorem base_State_opPowerLimit : ∀ x0 x1 x2, base (State.opPowerLimit x0 x1 x2).2 = base x0 := by
  intros; simp only [State.opPowerLimit, base_State_done, base_State_limitWrite]

theorem base_State_opDomainSet : ∀ x0 x1 x2, base (State.opDomainSet x0 x1 x2).2 = base x0 := by
  intros; unfold State.opDomainSet; (try simp only [])
  repeat' (first | with_reducible rfl | (split <;> try simp only [base_State_domRequest, base_State_hwRefuse, base_State_done]))

theorem base_State_opCoreN : ∀ x0 x1 x2, base (State.opCoreN x0 x1 x2).2 = base x0 := by
  intros; simp only [State.opCoreN, base_mk, base_ite, snd_ite, ite_self, base_State_limitHit, base_State_incSat, base_State_hwRefuse, base_State_powerRefuse, base_State_done, base_State_syncCore]

theorem base_State_opPowerStatus : ∀ x0 x1 x2, base (State.opPowerStatus x0 x1 x2).2 = base x0 := by
  intros; simp only [State.opPowerStatus, base_State_done]

theorem base_State_opLedgerRead : ∀ x0 x1 x2, base (State.opLedgerRead x0 x1 x2).2 = base x0 := by
  intros; simp only [State.opLedgerRead, base_State_done]

theorem base_State_opLedgerStatus : ∀ x0 x1 x2, base (State.opLedgerStatus x0 x1 x2).2 = base x0 := by
  intros; simp only [State.opLedgerStatus, base_State_done]

theorem base_State_opSurveyStart : ∀ x0 x1 x2, base (State.opSurveyStart x0 x1 x2).2 = base x0 := by
  intros; simp only [State.opSurveyStart, implies_true, base_ite, snd_ite, ite_self, base_State_hwRefuse, base_State_start, base_State_modeRequest]

theorem base_State_opLedgerNotify : ∀ x0 x1 x2, base (State.opLedgerNotify x0 x1 x2).2 = base x0 := by
  intros; simp only [State.opLedgerNotify, base_State_done, base_State_setF]

theorem base_State_opAnnalsRead : ∀ x0 x1 x2, base (State.opAnnalsRead x0 x1 x2).2 = base x0 := by
  intros; simp only [State.opAnnalsRead, base_State_done]

theorem base_State_opAnnalsFreeze : ∀ x0 x1 x2, base (State.opAnnalsFreeze x0 x1 x2).2 = base x0 := by
  intros; simp only [State.opAnnalsFreeze, base_mk, base_ite, snd_ite, ite_self, base_State_done, base_State_endFreeze, base_State_annSync]

theorem base_State_opAnnalsClear : ∀ x0 x1 x2, base (State.opAnnalsClear x0 x1 x2).2 = base x0 := by
  intros; simp only [State.opAnnalsClear, base_State_done, base_State_annClear]

theorem base_State_opAnnalsNotify : ∀ x0 x1 x2, base (State.opAnnalsNotify x0 x1 x2).2 = base x0 := by
  intros; simp only [State.opAnnalsNotify, base_mk, base_State_done]

end Sys2Proof.Laws
end

