-- ==== Sys2Proof/Laws/Base6.lean ====
section
/-! SUPPORT. What no operation changes but those that R390 and the queue name: the fuse array and the waiting commands. One lemma for each operation of SlipWorld, SlipFabric, SlipAttest, SlipRows, Boot, Answers, Csr, Tick. -/
namespace Sys2Proof.Laws

open Sys2Proof.Machine

set_option linter.unusedSimpArgs false

theorem base_State_keySlip (s : State) (op slot owner : Nat) (f : State → Nat → Option Ret × State) (hf : ∀ s i, base (f s i).2 = base s) :
    base (s.keySlip op slot owner f).2 = base s := by
  simp only [State.keySlip, base_ite, snd_ite, base_State_keyCommand, base_State_hwRefuse, base_State_hold, hf, ite_self]

theorem base_State_opKeyNew : ∀ x0 x1 x2, base (State.opKeyNew x0 x1 x2).2 = base x0 := by
  intros; unfold State.opKeyNew; (try simp only [implies_true, base_ite, snd_ite, base_State_done, base_State_keySlip, base_State_deny])
  repeat' (first | with_reducible rfl | (split <;> try simp only [implies_true, base_State_done, base_State_keySlip, base_State_deny]))

theorem base_State_opKeyDrop : ∀ x0 x1 x2, base (State.opKeyDrop x0 x1 x2).2 = base x0 := by
  intros; simp only [State.opKeyDrop, implies_true, base_State_keySlip, base_State_done]

theorem base_State_clearBells : ∀ x0 x1, base (State.clearBells x0 x1) = base x0 := by
  intros; simp only [State.clearBells, base_mk]

theorem base_State_clearMeasure : ∀ x0 x1, base (State.clearMeasure x0 x1) = base x0 := by
  intros; simp only [State.clearMeasure, base_mk]

theorem base_State_opWorldCreate : ∀ x0 x1 x2, base (State.opWorldCreate x0 x1 x2).2 = base x0 := by
  intros; unfold State.opWorldCreate; (try simp only [implies_true, base_ite, snd_ite, base_State_done, base_State_setRegWord, base_State_clearMeasure, base_State_clearBells, base_State_keySlip, base_State_deny])
  repeat' (first | with_reducible rfl | (split <;> try simp only [implies_true, base_State_done, base_State_setRegWord, base_State_clearMeasure, base_State_clearBells, base_State_keySlip, base_State_deny]))

theorem base_State_opWorldDestroy : ∀ x0 x1 x2, base (State.opWorldDestroy x0 x1 x2).2 = base x0 := by
  intros; simp only [State.opWorldDestroy, implies_true, base_mk, base_ite, snd_ite, ite_self, base_State_deny, base_State_start]

theorem base_State_opSeatLend : ∀ x0 x1 x2, base (State.opSeatLend x0 x1 x2).2 = base x0 := by
  intros; simp only [State.opSeatLend, base_ite, snd_ite, ite_self, base_State_lend, base_State_done, base_State_hold, base_State_deny, base_State_hwRefuse]

theorem base_State_bellPair : ∀ x0 x1 x2, base (State.bellPair x0 x1 x2) = base x0 := by
  intros; simp only [State.bellPair, base_State_setRegWord]

theorem base_State_opBellAllow : ∀ x0 x1 x2, base (State.opBellAllow x0 x1 x2).2 = base x0 := by
  intros; simp only [State.opBellAllow, base_mk, base_ite, snd_ite, ite_self, base_State_done, base_State_bellPair]

theorem base_State_shelfPut : ∀ x0 x1 x2 x3, base (State.shelfPut x0 x1 x2 x3) = base x0 := by
  intros; simp only [State.shelfPut, base_mk, base_ite, ite_self, base_State_writeReg, base_State_setF]

theorem base_State_shelfWrites : ∀ x0 x1, base (State.shelfWrites x0 x1) = base x0 := by
  intros; simp only [State.shelfWrites, implies_true, base_foldl, base_ite, ite_self, base_State_shelfPut]

theorem base_State_opShelfSet : ∀ x0 x1 x2, base (State.opShelfSet x0 x1 x2).2 = base x0 := by
  intros; unfold State.opShelfSet; (try simp only [base_ite, snd_ite])
  repeat' (first | with_reducible rfl | assumption | (split <;> try simp only [base_ite, snd_ite, ite_self, base_State_shelfWrites, base_State_hold, base_State_done, base_State_hwRefuse]))

theorem base_State_portUnmeter : ∀ x0 x1 x2 x3, base (State.portUnmeter x0 x1 x2 x3) = base x0 := by
  intros; unfold State.portUnmeter; (try simp only [])
  repeat' (first | with_reducible rfl | assumption | (split <;> try simp only [implies_true, id_eq, base_mk, base_foldl, base_foldl2, base_ite, snd_ite, snd_ite2, snd_ite3, ite_self, obase_next, obase_ite, mbase_some, mbase_none, mbase_ite, pbase_some, pbase_none, pbase_ite, base_State_setRegWord]) | (refine (base_foldl _ ?_ _ _).trans ?_ <;> (try intro _ _) <;> (try simp only [implies_true, base_foldl, base_ite, ite_self, base_State_setRegWord])))

theorem base_State_portMeter : ∀ x0 x1 x2 x3 x4 x5, base (State.portMeter x0 x1 x2 x3 x4 x5).2 = base x0 := by
  intros; simp only [State.portMeter, implies_true, base_foldl, base_ite, ite_self, base_State_setRegWord]

theorem base_State_unmeter : ∀ x0 x1, base (State.unmeter x0 x1) = base x0 := by
  intros; simp only [State.unmeter, implies_true, base_foldl, base_State_setRegWord, base_State_portUnmeter]

theorem base_State_opMeterSet : ∀ x0 x1 x2, base (State.opMeterSet x0 x1 x2).2 = base x0 := by
  intros; simp only [State.opMeterSet, implies_true, base_foldl2, base_ite, snd_ite, ite_self, base_State_done, base_State_deny, base_State_hold, base_State_meterCommitWrite, base_State_unmeter, base_State_portMeter, base_State_setRegWord]

theorem base_State_opWorldStatus : ∀ x0 x1 x2, base (State.opWorldStatus x0 x1 x2).2 = base x0 := by
  intros; simp only [State.opWorldStatus, base_State_done]

theorem base_State_opDeedReclaim : ∀ x0 x1 x2, base (State.opDeedReclaim x0 x1 x2).2 = base x0 := by
  intros; simp only [State.opDeedReclaim, base_ite, snd_ite, ite_self, base_State_done, base_State_deny, base_State_deedStart, base_State_setRegWord, base_State_hold]

theorem base_State_opDepoDeeds : ∀ x0 x1 x2, base (State.opDepoDeeds x0 x1 x2).2 = base x0 := by
  intros; simp only [State.opDepoDeeds, base_ite, snd_ite, ite_self, base_State_deny, base_State_done, base_State_setRegWord]

theorem base_State_opDeedTableSetup : ∀ x0 x1 x2, base (State.opDeedTableSetup x0 x1 x2).2 = base x0 := by
  intros; simp only [State.opDeedTableSetup, implies_true, base_foldl, base_ite, snd_ite, ite_self, base_State_done, base_State_setF, base_State_deny, base_State_regionWrite, base_State_hold, base_State_writeReg]

theorem base_State_dropChannels : ∀ x0 x1, base (State.dropChannels x0 x1).2 = base x0 := by
  intros; simp only [State.dropChannels, implies_true, base_foldl, base_ite, snd_ite, ite_self, base_State_setVf, base_State_flr, base_State_setF, base_State_chanReset]

theorem base_State_dropBindings : ∀ x0 x1, base (State.dropBindings x0 x1) = base x0 := by
  intros; simp only [State.dropBindings, implies_true, base_mk, base_foldl, base_ite, ite_self, base_State_setF, base_State_setRegWord, base_State_pinInput]

theorem base_State_dropDeeds : ∀ x0 x1, base (State.dropDeeds x0 x1).2 = base x0 := by
  intros; unfold State.dropDeeds; (try simp only [])
  repeat' (first | with_reducible rfl | (split <;> try simp only [base_ite, snd_ite, ite_self, base_State_deedStart, base_State_setRegWord]))

theorem base_State_dropClass : ∀ x0 x1, base (State.dropClass x0 x1).2 = base x0 := by
  intros; simp only [State.dropClass, base_ite, snd_ite, ite_self, base_State_shelfPut]

theorem base_State_dropKeys : ∀ x0 x1, base (State.dropKeys x0 x1).2 = base x0 := by
  intros; unfold State.dropKeys
  repeat' (first | with_reducible rfl | (split <;> try simp only [base_ite, ite_self, base_State_keyCommand]))

theorem base_State_dropWorld : ∀ x0 x1, base (State.dropWorld x0 x1) = base x0 := by
  intros; simp only [State.dropWorld, implies_true, base_foldl, base_State_setRegWord, base_State_clearBells, base_State_dropConsent, base_State_clearMeasure]

theorem base_State_destroyWorld : ∀ x0 x1, base (State.destroyWorld x0 x1).2 = base x0 := by
  intros; simp only [State.destroyWorld, base_ite, snd_ite, ite_self, base_State_dropChannels, base_State_dropBindings, base_State_meterCommitWrite, base_State_unmeter, base_State_dropDeeds, base_State_dropClass, base_State_dropWorld, base_State_dropKeys]

theorem base_State_opRouteStage : ∀ x0 x1 x2, base (State.opRouteStage x0 x1 x2).2 = base x0 := by
  intros; unfold State.opRouteStage; (try simp only [base_ite, snd_ite, base_State_deny])
  repeat' (first | with_reducible rfl | (split <;> try simp only [implies_true, base_foldl2, base_ite, snd_ite, ite_self, base_State_deny, base_State_routeWrite, base_State_done]))

theorem base_State_opRouteSwitch : ∀ x0 x1 x2, base (State.opRouteSwitch x0 x1 x2).2 = base x0 := by
  intros; simp only [State.opRouteSwitch, base_ite, snd_ite, ite_self, base_State_done, base_State_hold, base_State_fenceWrite]

theorem base_State_opAnnexConfig : ∀ x0 x1 x2, base (State.opAnnexConfig x0 x1 x2).2 = base x0 := by
  intros; unfold State.opAnnexConfig; (try simp only [base_ite, snd_ite, base_State_deny, base_State_done])
  repeat' (first | with_reducible rfl | (split <;> try simp only [implies_true, base_foldl, base_State_writeReg, base_State_hwRefuse, base_State_axReject, base_State_stageWindow, base_State_hold, base_State_windowCommit]))

theorem base_State_bringUp : ∀ x0 x1, base (State.bringUp x0 x1).2 = base x0 := by
  intros; simp only [State.bringUp, base_ite, snd_ite, ite_self, base_State_hold, base_State_done, base_State_openPort, base_State_hwRefuse, base_State_deny]

theorem base_State_enablePort : ∀ x0 x1, base (State.enablePort x0 x1) = base x0 := by
  intros; simp only [State.enablePort, base_ite, ite_self, base_State_disablePort, base_State_startBringup, base_State_setF]

theorem base_State_opAnnexUp : ∀ x0 x1 x2, base (State.opAnnexUp x0 x1 x2).2 = base x0 := by
  intros; unfold State.opAnnexUp; (try simp only [base_ite, snd_ite, ite_self, base_State_bringUp, base_State_deny, base_State_hold, base_State_enablePort])
  repeat' (first | with_reducible rfl | (split <;> try simp only [base_State_hold, base_State_hwRefuse, base_State_domRequest]))

theorem base_State_opAnnexAttest : ∀ x0 x1 x2, base (State.opAnnexAttest x0 x1 x2).2 = base x0 := by
  intros; simp only [State.opAnnexAttest, base_mk, base_ite, snd_ite, ite_self, base_State_done, base_State_setAttested, base_State_deny]

theorem base_State_opAnnexDown : ∀ x0 x1 x2, base (State.opAnnexDown x0 x1 x2).2 = base x0 := by
  intros; unfold State.opAnnexDown; (try simp only [])
  repeat' (first | with_reducible rfl | (split <;> try simp only [base_ite, snd_ite, ite_self, base_State_domRequest, base_State_hwRefuse, base_State_done, base_State_quarantine, base_State_deny, base_State_bringUp, base_State_hold, base_State_enablePort, base_State_disablePort]))

theorem base_State_depoAll : ∀ x0 x1 x2, base (State.depoAll x0 x1 x2) = base x0 := by
  intros; simp only [State.depoAll, implies_true, base_foldl, base_State_writeReg]

theorem base_State_opDepoMap : ∀ x0 x1 x2, base (State.opDepoMap x0 x1 x2).2 = base x0 := by
  intros; unfold State.opDepoMap; (try simp only [])
  repeat' (first | with_reducible rfl | (split <;> try simp only [implies_true, base_foldl, base_ite, snd_ite, ite_self, base_State_depoAll, base_State_done, base_State_setF, base_State_hold, base_State_fenceWrite]))

theorem base_State_opMpStatus : ∀ x0 x1 x2, base (State.opMpStatus x0 x1 x2).2 = base x0 := by
  intros; simp only [State.opMpStatus, base_State_done]

theorem base_State_opMpScrub : ∀ x0 x1 x2, base (State.opMpScrub x0 x1 x2).2 = base x0 := by
  intros; simp only [State.opMpScrub, implies_true, base_foldl, base_State_done, base_State_writeReg]

theorem base_State_opMpLaneRetire : ∀ x0 x1 x2, base (State.opMpLaneRetire x0 x1 x2).2 = base x0 := by
  intros; unfold State.opMpLaneRetire; (try simp only [])
  repeat' (first | with_reducible rfl | (split <;> try simp only [base_ite, snd_ite, ite_self, base_State_done, base_State_enterRetire, base_State_hwRefuse, base_State_setF]))

theorem base_State_opMpMirror : ∀ x0 x1 x2, base (State.opMpMirror x0 x1 x2).2 = base x0 := by
  intros; simp only [State.opMpMirror, base_mk, base_ite, ite_self, base_State_done, base_State_checkpoint]

theorem base_State_debugBits : ∀ x0 x1 x2 x3, base (State.debugBits x0 x1 x2 x3) = base x0 := by
  intros; simp only [State.debugBits, implies_true, base_foldl, base_ite, ite_self, base_State_setRegWord, base_State_resumeHart]

theorem base_State_opDebugGrant : ∀ x0 x1 x2, base (State.opDebugGrant x0 x1 x2).2 = base x0 := by
  intros; simp only [State.opDebugGrant, base_ite, snd_ite, ite_self, base_State_done, base_State_debugBits, base_State_deny]

theorem base_State_opDebugDrop : ∀ x0 x1 x2, base (State.opDebugDrop x0 x1 x2).2 = base x0 := by
  intros; simp only [State.opDebugDrop, base_State_done, base_State_debugBits]

theorem base_State_opCertRead : ∀ x0 x1 x2, base (State.opCertRead x0 x1 x2).2 = base x0 := by
  intros; simp only [State.opCertRead, base_ite, snd_ite, ite_self, base_State_deny, base_State_done]

theorem base_State_opMeasure : ∀ x0 x1 x2, base (State.opMeasure x0 x1 x2).2 = base x0 := by
  intros; simp only [State.opMeasure, base_mk, base_State_done]

theorem base_State_opQuote : ∀ x0 x1 x2, base (State.opQuote x0 x1 x2).2 = base x0 := by
  intros; simp only [State.opQuote, base_mk, base_ite, snd_ite, ite_self, base_State_deny]

theorem base_State_quoteSign : ∀ x0, base (State.quoteSign x0) = base x0 := by
  intros; unfold State.quoteSign; (try simp only [])
  repeat' (first | with_reducible rfl | (split <;> try simp only [base_mk]))

theorem base_State_quoteDrop : ∀ x0 x1, base (State.quoteDrop x0 x1) = base x0 := by
  intros; simp only [State.quoteDrop, base_mk]

theorem base_State_opQuoteRead : ∀ x0 x1 x2, base (State.opQuoteRead x0 x1 x2).2 = base x0 := by
  intros; unfold State.opQuoteRead; (try simp only [])
  repeat' (first | with_reducible rfl | (split <;> try simp only [base_ite, snd_ite, ite_self, base_State_deny, base_State_done, base_State_quoteDrop]))

theorem base_State_opLogRead : ∀ x0 x1 x2, base (State.opLogRead x0 x1 x2).2 = base x0 := by
  intros; simp only [State.opLogRead, base_State_done]

theorem base_State_opViCreate : ∀ x0 x1 x2, base (State.opViCreate x0 x1 x2).2 = base x0 := by
  intros; simp only [State.opViCreate, implies_true, base_foldl, base_ite, snd_ite, ite_self, base_State_deny, base_State_ringReset, base_State_setF, base_State_done, base_State_setVf, base_State_setRegWord]

theorem base_State_opViRemove : ∀ x0 x1 x2, base (State.opViRemove x0 x1 x2).2 = base x0 := by
  intros; simp only [State.opViRemove, base_ite, snd_ite, ite_self, base_State_done, base_State_deny, base_State_hold, base_State_flr]

theorem base_State_opViStatus : ∀ x0 x1 x2, base (State.opViStatus x0 x1 x2).2 = base x0 := by
  intros; simp only [State.opViStatus, base_ite, snd_ite, ite_self, base_State_deny, base_State_done]

theorem base_State_keeperStart : ∀ x0 x1, base (State.keeperStart x0 x1) = base x0 := by
  intros; simp only [State.keeperStart, base_mk, base_ite, ite_self]

theorem base_State_keeper (s : State) (cmd : Instr) (f : State → State) (hf : ∀ s, base (f s) = base s) : base (s.keeper cmd f) = base s := by
  unfold State.keeper
  split
  · exact (base_State_served _ _ _ _ _ hf).trans (base_State_keeperStart ..)
  · rfl

theorem base_State_startedDone : ∀ x0 x1, base (State.startedDone x0 x1) = base x0 := by
  intros; unfold State.startedDone; (try simp only [])
  repeat' (first | with_reducible rfl | (split <;> try simp only [base_mk, base_ite, ite_self, base_State_destroyWorld]))

theorem base_execStartedOperationDone : ∀ x0 x1, obase (base x1) (execStartedOperationDone x0 x1) = base x1 := by
  intros; simp only [execStartedOperationDone, obase_next, base_State_startedDone]

theorem base_execNonceExpiry : ∀ x0 x1, obase (base x1) (execNonceExpiry x0 x1) = base x1 := by
  intros; simp only [execNonceExpiry, obase_next, base_State_nonceExpire]

theorem base_execQuoteSigned : ∀ x0, obase (base x0) (execQuoteSigned x0) = base x0 := by
  intros; simp only [execQuoteSigned, obase_next, base_State_quoteSign]

theorem base_execQuoteExpiry : ∀ x0 x1, obase (base x1) (execQuoteExpiry x0 x1) = base x1 := by
  intros; simp only [execQuoteExpiry, obase_next, base_State_quoteDrop]

theorem base_execAliasKeysReady : ∀ x0, obase (base x0) (execAliasKeysReady x0) = base x0 := by
  intros; simp only [execAliasKeysReady, base_ite, ite_self, obase_next, base_State_setF]

theorem base_execI3cPrivateWrite : ∀ x0 x1, obase (base x1) (execI3cPrivateWrite x0 x1) = base x1 := by
  intros; simp only [execI3cPrivateWrite, base_mk, ite_self, obase_next, obase_ite]

theorem base_execI3cDynamicAddress : ∀ x0 x1, obase (base x1) (execI3cDynamicAddress x0 x1) = base x1 := by
  intros; simp only [execI3cDynamicAddress, base_mk, obase_next]

theorem base_State_flashTorn : ∀ x0, base (State.flashTorn x0) = base x0 := by
  intros; unfold State.flashTorn; (try simp only [])
  repeat' (first | with_reducible rfl | (split <;> try simp only [base_mk]))

theorem base_State_afterCold : ∀ x0, base (State.afterCold x0) = base x0 := by
  intros; simp only [State.afterCold, base_mk, base_State_flashTorn, base_State_mapRegs, base_State_annSync, base_State_setKeyGen]

theorem base_State_afterWarm : ∀ x0, base (State.afterWarm x0) = base x0 := by
  intros; simp only [State.afterWarm, base_mk, base_State_flashTorn, base_State_annSync, base_State_mapRegs]

theorem base_State_bootStage : ∀ x0 x1, base (State.bootStage x0 x1) = base x0 := by
  intros; simp only [State.bootStage, base_State_setF]

theorem base_State_bootNote : ∀ x0 x1 x2, base (State.bootNote x0 x1 x2) = base x0 := by
  intros; simp only [State.bootNote, base_State_record]

theorem base_State_syncAbsent : ∀ x0, base (State.syncAbsent x0) = base x0 := by
  intros; simp only [State.syncAbsent, base_State_setF]

theorem base_State_recover : ∀ x0, base (State.recover x0) = base x0 := by
  intros; simp only [State.recover, base_mk, base_State_syncAbsent, base_State_bootStage]

theorem base_State_takeImage : ∀ x0 x1 x2, base (State.takeImage x0 x1 x2).2 = base x0 := by
  intros; unfold State.takeImage; (try simp only [])
  repeat' (first | with_reducible rfl | (split <;> try simp only [base_mk, base_ite, ite_self, base_State_bootNote, base_State_setF]))

theorem base_State_deriveCdi1 : ∀ x0, base (State.deriveCdi1 x0) = base x0 := by
  intros; simp only [State.deriveCdi1, base_mk, base_State_setF]

theorem base_State_deriveCdi2 : ∀ x0, base (State.deriveCdi2 x0) = base x0 := by
  intros; simp only [State.deriveCdi2, base_mk]

theorem base_State_putLocked : ∀ x0 x1 x2 x3, base (State.putLocked x0 x1 x2 x3) = base x0 := by
  intros; simp only [State.putLocked, base_ite, ite_self, base_State_setF]

theorem base_State_armRas : ∀ x0, base (State.armRas x0) = base x0 := by
  intros; simp only [State.armRas, implies_true, base_foldl, base_State_setF, base_State_setRegWord]

theorem base_State_applyCfg : ∀ x0 x1, base (State.applyCfg x0 x1) = base x0 := by
  intros; simp only [State.applyCfg, base_mk, base_State_putLocked, base_State_setF, base_State_armRas]

theorem base_State_restore : ∀ x0 x1, base (State.restore x0 x1) = base x0 := by
  intros; simp only [State.restore, implies_true, base_mk, base_foldl, base_ite, ite_self, base_State_setF]

theorem base_State_retireHeld : ∀ x0 x1, base (State.retireHeld x0 x1) = base x0 := by
  intros; unfold State.retireHeld; (try simp only [])
  repeat' (first | with_reducible rfl | (split <;> try simp only [base_State_ledgerChange, base_State_setF, base_State_markRetired, base_State_incSat]))

theorem base_State_rebuild : ∀ x0 x1, base (State.rebuild x0 x1) = base x0 := by
  intros; simp only [State.rebuild, implies_true, base_mk, base_foldl, base_State_setF, base_State_retireHeld, base_State_ledgerChange]

theorem base_State_ledgerBoot : ∀ x0 x1, base (State.ledgerBoot x0 x1) = base x0 := by
  intros; unfold State.ledgerBoot
  repeat' (first | with_reducible rfl | (split <;> try simp only [base_State_restore, base_State_rebuild]))

theorem base_State_bootHp : ∀ x0 x1, base (State.bootHp x0 x1) = base x0 := by
  intros; simp only [State.bootHp, base_State_hpTrain, base_State_setF, base_State_putLocked]

theorem base_State_bootCurator : ∀ x0 x1, base (State.bootCurator x0 x1).2 = base x0 := by
  intros; unfold State.bootCurator; (try simp only [snd_ite])
  repeat' (first | with_reducible rfl | (split <;> try simp only [base_ite, ite_self, base_State_takeImage, base_State_putLocked, base_State_loadTcm, base_State_setF, base_State_curCtrlWrite]))

theorem base_State_bootLoader : ∀ x0 x1, base (State.bootLoader x0 x1).2 = base x0 := by
  intros; unfold State.bootLoader; (try simp only [])
  repeat' (first | with_reducible rfl | (split <;> try simp only [implies_true, base_foldl, base_State_takeImage, base_State_deriveCdi2, base_State_syncAbsent, base_State_writeBytes, base_State_releaseHart]))

theorem base_State_bootMemory : ∀ x0 x1 x2, base (State.bootMemory x0 x1 x2) = base x0 := by
  intros; simp only [State.bootMemory, implies_true, base_mk, base_foldl, base_State_trainStart, base_State_putLocked, base_State_bootStage]

theorem base_State_boot : ∀ x0 x1 x2 x3, base (State.boot x0 x1 x2 x3) = base x0 := by
  intros; unfold State.boot; (try simp only [base_ite, base_State_fatal, base_State_bootNote, base_State_bootStage])
  repeat' (first | with_reducible rfl | (split <;> try simp only [base_mk, base_ite, ite_self, base_State_bootNote, base_State_bootStage, base_State_recover, base_State_annCommit, base_State_enterPatch, base_State_syncProvisioned, base_State_deriveCdi1, base_State_takeImage, base_State_applyCfg, base_State_bootHp, base_State_ledgerBoot, base_State_bootCurator]))

theorem base_State_bootRest : ∀ x0 x1, base (State.bootRest x0 x1) = base x0 := by
  intros; unfold State.bootRest; (try simp only [])
  repeat' (first | with_reducible rfl | (split <;> try simp only [base_mk, base_ite, ite_self, base_State_bootLoader, base_State_recover, base_State_bootMemory, base_State_bootStage]))

theorem base_State_bootOn : ∀ x0 x1, base (State.bootOn x0 x1) = base x0 := by
  intros; unfold State.bootOn
  repeat' (first | with_reducible rfl | (split <;> try simp only [implies_true, base_State_served, base_State_bootRest]))

theorem base_State_coldReset : ∀ x0 x1, base (State.coldReset x0 x1) = base x0 := by
  intros; simp only [State.coldReset, base_mk, base_ite, ite_self, base_State_afterCold, base_State_boot]

theorem base_execColdReset : ∀ x0 x1, obase (base x1) (execColdReset x0 x1) = base x1 := by
  intros; simp only [execColdReset, ite_self, obase_next, obase_ite, base_State_bootOn, base_State_coldReset]

theorem base_State_warmReset : ∀ x0 x1, base (State.warmReset x0 x1) = base x0 := by
  intros; simp only [State.warmReset, base_mk, base_ite, ite_self, base_State_boot, base_State_afterWarm]

theorem base_execResetNFall : ∀ x0 x1 x2, obase (base x2) (execResetNFall x0 x1 x2) = base x2 := by
  intros; simp only [execResetNFall, base_mk, ite_self, obase_next, obase_ite, base_State_bootOn, base_State_warmReset]

theorem base_execWarmResetDelayExpiry : ∀ x0 x1, obase (base x1) (execWarmResetDelayExpiry x0 x1) = base x1 := by
  intros; simp only [execWarmResetDelayExpiry, ite_self, obase_next, obase_ite, base_State_bootOn, base_State_warmReset]

theorem base_State_keeperRestart : ∀ x0, base (State.keeperRestart x0) = base x0 := by
  intros; simp only [State.keeperRestart, base_mk, base_ite, ite_self, base_State_enterPatch, base_State_bootStage]

theorem base_execKeeperWatchdogExpiry : ∀ x0, obase (base x0) (execKeeperWatchdogExpiry x0) = base x0 := by
  intros; simp only [execKeeperWatchdogExpiry, base_mk, base_ite, ite_self, obase_next, obase_ite, base_State_record, base_State_setF, base_State_incSat, base_State_fatal, base_State_keeperRestart]

theorem base_execVaonApplied : ∀ x0 x1, obase (base x1) (execVaonApplied x0 x1) = base x1 := by
  intros; simp only [execVaonApplied, base_mk, ite_self, obase_next, obase_ite, base_State_annSync, base_State_setRegWord, base_State_setF]

theorem base_execVaonLoss : ∀ x0, obase (base x0) (execVaonLoss x0) = base x0 := by
  intros; simp only [execVaonLoss, base_mk, obase_next, base_State_railsLost, base_State_setF, base_State_annSync, base_State_setRegWord]

theorem base_execLossOfRails : ∀ x0, obase (base x0) (execLossOfRails x0) = base x0 := by
  intros; simp only [execLossOfRails, base_mk, obase_next, base_State_railsLost]

theorem base_execRailOutOfTolerance : ∀ x0 x1, obase (base x1) (execRailOutOfTolerance x0 x1) = base x1 := by
  intros; simp only [execRailOutOfTolerance, base_ite, ite_self, obase_next, base_State_railsLost]

theorem base_execPwrgoodRise : ∀ x0, obase (base x0) (execPwrgoodRise x0) = base x0 := by
  intros; simp only [execPwrgoodRise, base_mk, ite_self, obase_next, obase_ite]

theorem base_execPmbAlert : ∀ x0 x1, obase (base x1) (execPmbAlert x0 x1) = base x1 := by
  intros; simp only [execPmbAlert, base_mk, ite_self, obase_next, obase_ite]

theorem base_execCalendarAlarm : ∀ x0 x1, obase (base x1) (execCalendarAlarm x0 x1) = base x1 := by
  intros; simp only [execCalendarAlarm, base_mk, base_ite, ite_self, obase_next, obase_ite, base_State_raiseSrc, base_State_sendMsi]

theorem base_State_prefetchEnd : ∀ x0 x1 x2 x3 x4, base (State.prefetchEnd x0 x1 x2 x3 x4) = base x0 := by
  intros; simp only [State.prefetchEnd, base_ite, ite_self, base_State_setReq, base_State_pmu]

theorem base_State_dirty : ∀ x0 x1 x2, base (State.dirty x0 x1 x2) = base x0 := by
  intros; unfold State.dirty; (try simp only [base_ite, ite_self, base_State_setCsr])

theorem base_State_atpWrite : ∀ x0 x1 x2 x3, base (State.atpWrite x0 x1 x2 x3) = base x0 := by
  intros; unfold State.atpWrite; (try simp only [base_ite, ite_self, base_State_modHart, base_State_setCsr, base_State_predFlush])

theorem base_State_pmpCfgWrite : ∀ x0 x1 x2 x3, base (State.pmpCfgWrite x0 x1 x2 x3) = base x0 := by
  intros; unfold State.pmpCfgWrite; (try simp only [base_State_setCsr])

theorem base_State_pmpAddrWrite : ∀ x0 x1 x2 x3, base (State.pmpAddrWrite x0 x1 x2 x3) = base x0 := by
  intros; unfold State.pmpAddrWrite; (try simp only [base_ite, ite_self, base_State_setCsr])

theorem base_State_mseccfgWrite : ∀ x0 x1 x2, base (State.mseccfgWrite x0 x1 x2) = base x0 := by
  intros; unfold State.mseccfgWrite; (try simp only [base_State_setCsr])

theorem base_State_tdata1Write : ∀ x0 x1 x2, base (State.tdata1Write x0 x1 x2) = base x0 := by
  intros; unfold State.tdata1Write; (try simp only [base_ite, ite_self, base_State_setCsr])

theorem base_State_modFile : ∀ x0 x1 x2 x3, base (State.modFile x0 x1 x2 x3) = base x0 := by
  intros; unfold State.modFile; (try simp only [base_State_modHart])

theorem base_State_iregWrite : ∀ x0 x1 x2 x3, mbase (base x0) (State.iregWrite x0 x1 x2 x3) = base x0 := by
  intros; unfold State.iregWrite; (try simp only [ite_self, mbase_some, mbase_none, mbase_ite])
  repeat' (first | with_reducible rfl | assumption | (split <;> try simp only [base_ite, ite_self, mbase_some, mbase_none, mbase_ite, base_State_modFile]))

theorem base_State_iregWrite_some : ∀ x0 x1 x2 x3 t, State.iregWrite x0 x1 x2 x3 = some t → base t = base x0 := by
  intro x0 x1 x2 x3 t h; have h' := base_State_iregWrite x0 x1 x2 x3; rw [h] at h'; exact h'

theorem base_State_topeiWrite (s : State) (h n : Nat) : mbase (base s) (s.topeiWrite h n) = base s := by
  unfold State.topeiWrite
  cases s.imsicOf h n with
  | none => rfl
  | some f =>
    simp only [Option.map_some, mbase_some]
    split
    · exact base_State_modFile ..
    · rfl

theorem base_State_topeiWrite_some : ∀ x0 x1 x2 t, State.topeiWrite x0 x1 x2 = some t → base t = base x0 := by
  intro x0 x1 x2 t h; have h' := base_State_topeiWrite x0 x1 x2; rw [h] at h'; exact h'

theorem base_State_csrEffect : ∀ x0 x1 x2 x3, mbase (base x0) (State.csrEffect x0 x1 x2 x3) = base x0 := by
  intros; unfold State.csrEffect; (try simp only [])
  repeat' (first | with_reducible rfl | assumption | (split <;> try simp only [ite_self, mbase_some, mbase_ite, base_State_setCsr, base_State_dirty, base_State_setCsrBits, base_State_atpWrite, base_State_pmpCfgWrite, base_State_pmpAddrWrite, base_State_mseccfgWrite, base_State_tdata1Write, base_State_iregWrite, base_State_topeiWrite]))

theorem base_State_csrEffect_some : ∀ x0 x1 x2 x3 t, State.csrEffect x0 x1 x2 x3 = some t → base t = base x0 := by
  intro x0 x1 x2 x3 t h; have h' := base_State_csrEffect x0 x1 x2 x3; rw [h] at h'; exact h'

theorem base_State_csrWrite : ∀ x0 x1 x2 x3 x4, base (State.csrWrite x0 x1 x2 x3 x4) = base x0 := by
  intros; unfold State.csrWrite; (try simp only [base_ite])
  repeat' (first | with_reducible rfl | assumption | (split <;> try simp only [base_State_illegal, base_State_hartPump]) | (refine (base_State_csrEffect_some _ _ _ _ _ (by assumption)).trans ?_ <;> try simp only []))

theorem base_execCsrWrite : ∀ x0 x1 x2 x3 x4, obase (base x4) (execCsrWrite x0 x1 x2 x3 x4) = base x4 := by
  intros; unfold execCsrWrite; (try simp only [obase_next, base_State_csrWrite])

theorem base_execMhpmeventWrite : ∀ x0 x1 x2 x3 x4, obase (base x4) (execMhpmeventWrite x0 x1 x2 x3 x4) = base x4 := by
  intros; unfold execMhpmeventWrite; (try simp only [obase_next, base_State_csrWrite])

theorem base_State_cycleHart : ∀ x0 x1, base (State.cycleHart x0 x1) = base x0 := by
  intros; unfold State.cycleHart; (try simp only [base_ite, ite_self, base_State_hartEvents, base_State_countCsr])

theorem base_State_cycleSlice : ∀ x0 x1, base (State.cycleSlice x0 x1) = base x0 := by
  intros; unfold State.cycleSlice; (try simp only [])
  repeat' (first | with_reducible rfl | assumption | (split <;> try simp only [base_State_pmu]) | (refine (base_foldl _ ?_ _ _).trans ?_ <;> (try intro _ _) <;> (try simp only [implies_true, base_foldl, base_State_pmu])))

theorem base_State_cycleGate : ∀ x0 x1, base (State.cycleGate x0 x1) = base x0 := by
  intros; simp only [State.cycleGate, implies_true, base_foldl, base_State_pmu]

theorem base_State_cycleUncore : ∀ x0, base (State.cycleUncore x0) = base x0 := by
  intros; simp only [State.cycleUncore, implies_true, base_foldl, base_State_cycleGate, base_State_cycleSlice]

theorem base_State_tickCalendar : ∀ x0, base (State.tickCalendar x0) = base x0 := by
  intros; unfold State.tickCalendar; (try simp only [base_mk, base_ite, ite_self])

theorem base_State_tickTime : ∀ x0, base (State.tickTime x0) = base x0 := by
  intros; unfold State.tickTime; (try simp only [base_ite, ite_self, base_State_setF])

theorem base_State_tickFabric : ∀ x0, base (State.tickFabric x0) = base x0 := by
  intros; simp only [State.tickFabric, implies_true, base_foldl, base_ite, ite_self, base_State_meshTick, base_State_releaseHolds, base_State_pumpRuns, base_State_retirePump]

theorem base_State_rearmRas : ∀ x0, base (State.rearmRas x0) = base x0 := by
  intros; simp only [State.rearmRas, implies_true, base_mk, base_foldl, base_ite, ite_self, base_State_setRegWord]

theorem base_State_tick : ∀ x0, base (State.tick x0) = base x0 := by
  intros; unfold State.tick; (try simp only [implies_true, base_foldl, base_State_tickCalendar, base_State_rearmRas, base_State_trainTick, base_State_tickTime, base_State_tickFabric, base_State_cycleUncore, base_State_cycleHart])

end Sys2Proof.Laws
end

