-- ==== Sys2Proof/Laws/Map.lean ====
section
/-! SUPPORT. The laws of sparse tables: a read after a write, and that every operation keeps the canonical form. -/
namespace Sys2Proof.Laws

open Sys2Proof.Machine

variable {V : Type}

theorem look_erase (m : Map V) (k j : Nat) : (m.erase k).look j = if j = k then none else m.look j := by
  induction m with
  | nil => simp [Map.erase, Map.look]
  | cons e t ih =>
    obtain ⟨a, v⟩ := e
    by_cases ha : a = k
    · subst ha
      simp only [Map.erase, if_true, ih, Map.look]
      by_cases hj : j = a
      · simp [hj]
      · simp [hj, Ne.symm hj]
    · simp only [Map.erase, ha, if_false, Map.look, ih]
      by_cases hj : a = j
      · subst hj; simp [ha]
      · simp [hj]

theorem look_put (m : Map V) (k j : Nat) (v : V) : (m.put k v).look j = if j = k then some v else m.look j := by
  induction m with
  | nil => simp only [Map.put, Map.look]; by_cases h : k = j <;> simp [h, eq_comm]
  | cons e t ih =>
    obtain ⟨a, w⟩ := e
    simp only [Map.put]
    by_cases ha : a = k
    · subst ha
      simp only [if_true, Map.look]
      by_cases h : a = j
      · simp [h]
      · simp [h, Ne.symm h]
    · simp only [ha, if_false]
      by_cases hlt : k < a
      · simp only [hlt, if_true, Map.look]
        by_cases h : k = j
        · simp [h]
        · simp [h, Ne.symm h]
      · simp only [hlt, if_false, Map.look, ih]
        by_cases h : a = j
        · subst h; simp [ha]
        · simp [h]

theorem look_set [DecidableEq V] (m : Map V) (d : V) (k j : Nat) (v : V) :
    (m.set d k v).look j = if j = k then (if v = d then none else some v) else m.look j := by
  by_cases h : v = d
  · simp only [Map.set, h, if_true, look_erase]
  · simp only [Map.set, h, if_false, look_put]

/-- A read after a write to the same key gives the value written. -/
@[simp] theorem get_set_same [DecidableEq V] (m : Map V) (d : V) (k : Nat) (v : V) : (m.set d k v).get d k = v := by
  simp only [Map.get, look_set, if_true]
  by_cases h : v = d <;> simp [h]

/-- A write leaves every other key alone. -/
theorem get_set_other [DecidableEq V] (m : Map V) (d e : V) (k j : Nat) (v : V) (h : j ≠ k) : (m.set d k v).get e j = m.get e j := by
  simp only [Map.get, look_set, h, if_false]

/-- A read after a write. -/
theorem get_set [DecidableEq V] (m : Map V) (d : V) (k j : Nat) (v : V) : (m.set d k v).get d j = if j = k then v else m.get d j := by
  by_cases h : j = k
  · subst h; simp
  · simp [h, get_set_other]

/-! ### The canonical form -/

theorem erase_all (p : Nat × V → Bool) (m : Map V) (k : Nat) (h : m.all p = true) : (m.erase k).all p = true := by
  induction m with
  | nil => simp [Map.erase]
  | cons e t ih =>
    obtain ⟨a, v⟩ := e
    simp only [List.all_cons, Bool.and_eq_true] at h
    by_cases ha : a = k <;> simp_all [Map.erase]

theorem put_all (p : Nat × V → Bool) (m : Map V) (k : Nat) (v : V) (h : m.all p = true) (hk : p (k, v) = true) : (m.put k v).all p = true := by
  induction m with
  | nil => simp [Map.put, hk]
  | cons e t ih =>
    obtain ⟨a, w⟩ := e
    simp only [List.all_cons, Bool.and_eq_true] at h
    simp only [Map.put]
    split
    · simp_all
    · split <;> simp_all

variable [DecidableEq V]

theorem erase_wf (d : Nat → V) (m : Map V) (k : Nat) (h : m.wf d = true) : (m.erase k).wf d = true := by
  induction m with
  | nil => simp [Map.erase, Map.wf]
  | cons e t ih =>
    obtain ⟨a, v⟩ := e
    simp only [Map.wf, Bool.and_eq_true] at h
    by_cases ha : a = k
    · simp_all [Map.erase]
    · simp only [Map.erase, ha, if_false, Map.wf, Bool.and_eq_true]
      exact ⟨⟨h.1.1, erase_all _ _ _ h.1.2⟩, ih h.2⟩

theorem put_wf (d : Nat → V) (m : Map V) (k : Nat) (v : V) (h : m.wf d = true) (hv : v ≠ d k) : (m.put k v).wf d = true := by
  induction m with
  | nil => simp [Map.put, Map.wf, hv]
  | cons e t ih =>
    obtain ⟨a, w⟩ := e
    simp only [Map.wf, Bool.and_eq_true] at h
    simp only [Map.put]
    split
    · subst_vars; simp only [Map.wf, Bool.and_eq_true, decide_eq_true_eq]; exact ⟨⟨hv, h.1.2⟩, h.2⟩
    · rename_i hne
      split
      · rename_i hlt
        simp only [Map.wf, Bool.and_eq_true, decide_eq_true_eq, List.all_cons]
        refine ⟨⟨hv, ⟨hlt, ?_⟩⟩, ⟨⟨by simpa using h.1.1, h.1.2⟩, h.2⟩⟩
        have := h.1.2
        simp only [List.all_eq_true, decide_eq_true_eq] at this ⊢
        intro x hx; exact Nat.lt_trans hlt (this x hx)
      · rename_i hge
        simp only [Map.wf, Bool.and_eq_true]
        exact ⟨⟨h.1.1, put_all _ _ _ _ h.1.2 (by simp; omega)⟩, ih h.2⟩

/-- A write keeps the canonical form. -/
theorem set_wf (d : Nat → V) (m : Map V) (k : Nat) (v : V) (h : m.wf d = true) : (m.set (d k) k v).wf d = true := by
  unfold Map.set
  split
  · exact erase_wf d m k h
  · rename_i hv; exact put_wf d m k v h hv

/-- Dropping entries keeps the canonical form. -/
theorem filter_wf (d : Nat → V) (m : Map V) (p : Nat × V → Bool) (h : m.wf d = true) : Map.wf d (m.filter p) = true := by
  induction m with
  | nil => simp [Map.wf]
  | cons e t ih =>
    obtain ⟨a, v⟩ := e
    simp only [Map.wf, Bool.and_eq_true] at h
    rw [List.filter_cons]
    split
    · simp only [Map.wf, Bool.and_eq_true]
      refine ⟨⟨h.1.1, ?_⟩, ih h.2⟩
      have := h.1.2
      simp only [List.all_eq_true, List.mem_filter] at this ⊢
      intro x hx; exact this x hx.1
    · exact ih h.2

/-- A run of writes keeps the canonical form. -/
theorem foldl_set_wf {A : Type} (d : Nat → V) (l : List A) (m : Map V) (f : Map V → A → Map V) (hf : ∀ m a, m.wf d = true → (f m a).wf d = true)
    (h : m.wf d = true) : (l.foldl f m).wf d = true := by
  induction l generalizing m with
  | nil => exact h
  | cons a t ih => exact ih _ (hf _ _ h)

end Sys2Proof.Laws
end

