-- ==== Sys2Proof/Laws/Fuse.lean ====
section
/-! SUPPORT. How a slip's row may change the fuse array and the queue (R390, R407): every row but PROVISION_KEY and REVOKE_KEY leaves both, and those two only set fuses. -/
namespace Sys2Proof.Laws

open Sys2Proof.Machine

theorem FuseStep.refl (f : Fuses) : FuseStep f f where
  uds := rfl
  rom := rfl
  serial := rfl
  ceiling := rfl
  cores := ⟨rfl, rfl, rfl, rfl⟩
  valid := fun _ h => h
  revoked := fun _ h => h
  svn := fun _ => Nat.le_refl _
  hash := fun _ _ h => h
  live := fun _ h => h
  heirs := fun _ h => .inl h

theorem FuseStep.trans {f g h : Fuses} (a : FuseStep f g) (b : FuseStep g h) : FuseStep f h where
  uds := b.uds.trans a.uds
  rom := b.rom.trans a.rom
  serial := b.serial.trans a.serial
  ceiling := b.ceiling.trans a.ceiling
  cores := ⟨b.cores.1.trans a.cores.1, b.cores.2.1.trans a.cores.2.1, b.cores.2.2.1.trans a.cores.2.2.1, b.cores.2.2.2.trans a.cores.2.2.2⟩
  valid := fun i h => b.valid i (a.valid i h)
  revoked := fun i h => b.revoked i (a.revoked i h)
  svn := fun t => Nat.le_trans (a.svn t) (b.svn t)
  hash := fun i k h => b.hash i k (a.hash i k h)
  live := fun o h => b.live o (a.live o h)
  heirs := fun i h => (b.heirs i h).elim (fun h => (a.heirs i h).imp id (b.live _)) .inr

/-- A step of the fuse array keeps its invariant. -/
theorem FuseStep.sound {f g : Fuses} (h : FuseStep f g) (hf : f.Sound) : g.Sound := by
  intro i hi
  rcases h.heirs i hi with h1 | h1
  · exact h.live _ (hf i h1)
  · exact h1

/-- An update keeps the queue and only sets fuses. -/
def Grows (s t : State) : Prop := FuseStep s.fuses t.fuses ∧ t.pending = s.pending

theorem grows_of_base {s t : State} (h : base t = base s) : Grows s t := by
  have hf : t.fuses = s.fuses := congrArg Prod.fst h
  have hp : t.pending = s.pending := congrArg Prod.snd h
  exact ⟨hf ▸ FuseStep.refl _, hp⟩

theorem Grows.then_base {s t u : State} (h : Grows s t) (e : base u = base t) : Grows s u := by
  have hf : u.fuses = t.fuses := congrArg Prod.fst e
  have hp : u.pending = t.pending := congrArg Prod.snd e
  exact ⟨hf ▸ h.1, hp.trans h.2⟩

theorem Grows.of_base_left {s t u : State} (e : base t = base s) (h : Grows t u) : Grows s u := by
  have hf : t.fuses = s.fuses := congrArg Prod.fst e
  have hp : t.pending = s.pending := congrArg Prod.snd e
  exact ⟨hf ▸ h.1, h.2.trans hp⟩

theorem Grows.trans {s t u : State} (a : Grows s t) (b : Grows t u) : Grows s u := ⟨FuseStep.trans a.1 b.1, b.2.trans a.2⟩

/-- Setting fuses, then PROVISIONED. -/
theorem grows_fuses (s : State) (g : Fuses) (h : FuseStep s.fuses g) : Grows s (State.syncProvisioned { s with fuses := g }) :=
  Grows.then_base (t := { s with fuses := g }) ⟨h, rfl⟩ (base_State_syncProvisioned ..)

/-- Provisioning an integrator pair. -/
theorem provision_step (f : Fuses) (pair hash : Nat) :
    FuseStep f { f with keyHash := f.keyHash.set 0 (4 + pair) (Nat.lor (f.pairHash 1 pair) hash), valid := f.valid ++ [4 + pair] } := by
  refine ⟨rfl, rfl, rfl, rfl, ⟨rfl, rfl, rfl, rfl⟩, ?_, fun _ h => h, fun _ => Nat.le_refl _, ?_, ?_, fun _ h => .inl h⟩
  · intro i h
    simp only [List.contains_iff_mem, List.mem_append] at h ⊢
    exact .inl h
  · intro i b h
    by_cases e : i = 4 + pair
    · subst e
      have h' : (f.pairHash 1 pair).testBit b = true := h
      show (Nat.testBit ((f.keyHash.set 0 (4 + pair) (f.pairHash 1 pair ||| hash)).get 0 (4 + pair)) b) = true
      rw [get_set_same, Nat.testBit_or, h', Bool.true_or]
    · show (Nat.testBit ((f.keyHash.set 0 (4 + pair) (f.pairHash 1 pair ||| hash)).get 0 i) b) = true
      rw [get_set_other (h := e)]
      exact h
  · rintro o ⟨p, hp, h⟩
    refine ⟨p, hp, ?_⟩
    simp only [Fuses.pairLive, Bool.and_eq_true, List.contains_iff_mem, List.mem_append] at h ⊢
    exact ⟨⟨h.1.1, .inl h.1.2⟩, h.2⟩

/-- Provisioning a pair sets hash bits and VALID. -/
theorem fuseHash_grows (s : State) (pair hash : Nat) : Grows s (s.fuseHash pair hash).2 := by
  unfold State.fuseHash
  simp only
  split
  · exact grows_of_base (base_State_fuseRefused ..)
  · exact grows_fuses _ _ (provision_step ..)

/-- Revoking a pair below 4 where the owner keeps a live one. -/
theorem revoke_step (f : Fuses) (owner pair : Nat) (hp : pair < 4)
    (ha : (List.range 4).any (fun p => Fuses.pairLive { f with revoked := f.revoked ++ [owner * 4 + pair] } owner p) = true) :
    FuseStep f { f with revoked := f.revoked ++ [owner * 4 + pair] } := by
  refine ⟨rfl, rfl, rfl, rfl, ⟨rfl, rfl, rfl, rfl⟩, fun _ h => h, ?_, fun _ => Nat.le_refl _, fun _ _ h => h, ?_, ?_⟩
  · intro i h
    simp only [List.contains_iff_mem, List.mem_append] at h ⊢
    exact .inl h
  · rintro o ⟨p, hp', h⟩
    by_cases e : o = owner
    · subst e
      obtain ⟨q, hq, h⟩ := List.any_eq_true.mp ha
      exact ⟨q, List.mem_range.mp hq, h⟩
    · refine ⟨p, hp', ?_⟩
      simp only [Fuses.pairLive, Bool.and_eq_true, Bool.not_eq_true', ← Bool.not_eq_true, List.contains_iff_mem, List.mem_append, List.mem_singleton] at h ⊢
      refine ⟨h.1, ?_⟩
      rintro (h' | h')
      · exact h.2 h'
      · omega
  · intro i h
    simp only [List.contains_iff_mem, List.mem_append, List.mem_singleton] at h ⊢
    rcases h with h | h
    · exact .inl h
    · obtain ⟨q, hq, h2⟩ := List.any_eq_true.mp ha
      have e : i / 4 = owner := by omega
      right
      rw [e]
      exact ⟨q, List.mem_range.mp hq, h2⟩

/-- Revoking a pair below 4 sets its bit, and leaves its owner a live pair. -/
theorem fuseRevoke_grows (s : State) (owner pair : Nat) (hp : pair < 4) : Grows s (s.fuseRevoke owner pair).2 := by
  have hg : ∀ g : Fuses, (if s.fuses.revoked.contains (owner * 4 + pair) then s.fuses else { s.fuses with revoked := s.fuses.revoked ++ [owner * 4 + pair] }) = g →
      (List.range 4).any (fun p => g.pairLive owner p) = true → FuseStep s.fuses g := by
    intro g h ha
    split at h
    · exact h ▸ FuseStep.refl _
    · subst h
      exact revoke_step _ _ _ hp ha
  unfold State.fuseRevoke
  simp only
  generalize (if s.fuses.revoked.contains (owner * 4 + pair) then s.fuses else { s.fuses with revoked := s.fuses.revoked ++ [owner * 4 + pair] }) = g at hg ⊢
  split
  · rename_i ha
    exact grows_fuses _ _ (hg g rfl ha)
  · exact grows_of_base (base_State_fuseRefused ..)

/-- What a row does to fuses and queue. -/
theorem provisionKey_grows (s : State) (c : Slip) (e : SlipEnv) : Grows s (s.opProvisionKey c e).2 := by
  unfold State.opProvisionKey
  simp only [snd_ite]
  split
  · exact grows_of_base (base_State_deny ..)
  · split
    · exact grows_of_base (base_State_deny ..)
    · split
      · exact (fuseHash_grows ..).then_base (base_State_done ..)
      · exact (fuseHash_grows ..).then_base (base_State_hwRefuse ..)

theorem revokeKey_grows (s : State) (c : Slip) (e : SlipEnv) : Grows s (s.opRevokeKey c e).2 := by
  unfold State.opRevokeKey
  simp only [snd_ite]
  split
  · exact grows_of_base (base_State_deny ..)
  · split
    · exact (fuseRevoke_grows _ _ _ (Nat.mod_lt _ (by decide))).then_base (base_State_done ..)
    · exact (fuseRevoke_grows _ _ _ (Nat.mod_lt _ (by decide))).then_base (base_State_hwRefuse ..)

theorem opRow_grows (op : Nat) (r : OpRow) (h : opRow op = some r) (s : State) (c : Slip) (e : SlipEnv) : Grows s (r.act s c e).2 := by
  unfold opRow at h
  split at h
  · cases h; exact grows_of_base (base_State_opGetInfo s c e)
  · cases h; exact grows_of_base (base_State_opGetNonce s c e)
  · cases h; exact grows_of_base (base_State_opGetRandom s c e)
  · cases h; exact grows_of_base (base_State_opImageStatus s c e)
  · cases h; exact grows_of_base (base_State_opWarmReset s c e)
  · cases h; exact grows_of_base (base_State_opFlashErase s c e)
  · cases h; exact grows_of_base (base_State_opFlashWrite s c e)
  · cases h; exact provisionKey_grows s c e
  · cases h; exact revokeKey_grows s c e
  · cases h; exact grows_of_base (base_State_opWorldCreate s c e)
  · cases h; exact grows_of_base (base_State_opWorldDestroy s c e)
  · cases h; exact grows_of_base (base_State_opSeatLend s c e)
  · cases h; exact grows_of_base (base_State_opBellAllow s c e)
  · cases h; exact grows_of_base (base_State_opShelfSet s c e)
  · cases h; exact grows_of_base (base_State_opMeterSet s c e)
  · cases h; exact grows_of_base (base_State_opWorldStatus s c e)
  · cases h; exact grows_of_base (base_State_opKeyNew s c e)
  · cases h; exact grows_of_base (base_State_opKeyDrop s c e)
  · cases h; exact grows_of_base (base_State_opDeedReclaim s c e)
  · cases h; exact grows_of_base (base_State_opDepoDeeds s c e)
  · cases h; exact grows_of_base (base_State_opDeedTableSetup s c e)
  · cases h; exact grows_of_base (base_State_opModeSet s c e)
  · cases h; exact grows_of_base (base_State_opPowerLimit s c e)
  · cases h; exact grows_of_base (base_State_opDomainSet s c e)
  · cases h; exact grows_of_base (base_State_opCoreN s c e)
  · cases h; exact grows_of_base (base_State_opPowerStatus s c e)
  · cases h; exact grows_of_base (base_State_opLedgerRead s c e)
  · cases h; exact grows_of_base (base_State_opLedgerStatus s c e)
  · cases h; exact grows_of_base (base_State_opSurveyStart s c e)
  · cases h; exact grows_of_base (base_State_opLedgerNotify s c e)
  · cases h; exact grows_of_base (base_State_opAnnalsRead s c e)
  · cases h; exact grows_of_base (base_State_opAnnalsFreeze s c e)
  · cases h; exact grows_of_base (base_State_opAnnalsClear s c e)
  · cases h; exact grows_of_base (base_State_opAnnalsNotify s c e)
  · cases h; exact grows_of_base (base_State_opRouteStage s c e)
  · cases h; exact grows_of_base (base_State_opRouteSwitch s c e)
  · cases h; exact grows_of_base (base_State_opAnnexConfig s c e)
  · cases h; exact grows_of_base (base_State_opAnnexUp s c e)
  · cases h; exact grows_of_base (base_State_opAnnexAttest s c e)
  · cases h; exact grows_of_base (base_State_opAnnexDown s c e)
  · cases h; exact grows_of_base (base_State_opDepoMap s c e)
  · cases h; exact grows_of_base (base_State_opMpStatus s c e)
  · cases h; exact grows_of_base (base_State_opMpScrub s c e)
  · cases h; exact grows_of_base (base_State_opMpLaneRetire s c e)
  · cases h; exact grows_of_base (base_State_opMpMirror s c e)
  · cases h; exact grows_of_base (base_State_opDebugGrant s c e)
  · cases h; exact grows_of_base (base_State_opDebugDrop s c e)
  · cases h; exact grows_of_base (base_State_opCertRead s c e)
  · cases h; exact grows_of_base (base_State_opMeasure s c e)
  · cases h; exact grows_of_base (base_State_opQuote s c e)
  · cases h; exact grows_of_base (base_State_opQuoteRead s c e)
  · cases h; exact grows_of_base (base_State_opLogRead s c e)
  · cases h; exact grows_of_base (base_State_opViCreate s c e)
  · cases h; exact grows_of_base (base_State_opViRemove s c e)
  · cases h; exact grows_of_base (base_State_opViStatus s c e)
  · cases h

/-- A slip in hand goes on. -/
theorem runSlip_grows (s : State) (op : Nat) (w : Work) (e : SlipEnv) : Grows s (s.runSlip (opRow op) w e) := by
  unfold State.runSlip
  split
  · exact grows_of_base (base_State_closeSlip ..)
  · simp only
    split
    · exact (opRow_grows _ _ (by assumption) _ _ _).then_base (base_State_closeSlip ..)
    · exact opRow_grows _ _ (by assumption) _ _ _

/-- A slip is taken. -/
theorem beginSlip_grows (s : State) (x : RawSlip) (e : SlipEnv) : Grows s (s.beginSlip opRow x e) := by
  unfold State.beginSlip
  split
  · exact grows_of_base (base_State_answerSlip ..)
  · simp only
    split
    · exact grows_of_base (base_State_answerSlip ..)
    · split
      · exact grows_of_base (base_State_answerSlip ..)
      · split
        · exact grows_of_base (base_State_answerSlip ..)
        · split
          · exact grows_of_base ((base_State_closeSlip ..).trans (base_State_slipChecks ..))
          · exact (runSlip_grows ..).of_base_left ((base_mk ..).trans (base_State_slipChecks ..))

/-- A visit of the Keeper. -/
theorem visit_grows (s : State) (t : Nat) (e : SlipEnv) : Grows s (s.visit opRow t e) := by
  unfold State.visit
  split
  · exact runSlip_grows ..
  · split
    · exact grows_of_base rfl
    · simp only
      split
      · exact (beginSlip_grows ..).of_base_left (base_State_takeSlip ..)
      · exact grows_of_base (base_State_takeSlip ..)

theorem serveAs_grows (s : State) (op : Nat) (t : Transport) (e : SlipEnv) : Grows s (s.serveAs op t e) := by
  have hw : base (s.waitingOp t.num).2 = base s := base_State_waitingOp ..
  unfold State.serveAs
  simp only
  split
  · exact (visit_grows ..).of_base_left hw
  · exact grows_of_base hw

/-! ### What waits for the answers of memory -/

/-- A command of an I/O agent, where what it does only sets fuses. -/
theorem serve_grows (s : State) (r : Run) (f : State → State) (hf : ∀ s, Grows s (f s)) : Grows s (s.serve r f) := by
  unfold State.serve
  simp only
  split
  · exact (hf { s with cursor := { left := r.log } }).then_base (base_mk ..)
  · exact grows_of_base (base_State_pumpRuns ..)

theorem served_grows (s : State) (stop ep : Nat) (cmd : Instr) (f : State → State) (hf : ∀ s, Grows s (f s)) : Grows s (s.served stop ep cmd f) := by
  unfold State.served
  split
  · split
    · exact grows_of_base rfl
    · exact serve_grows _ _ _ hf
  · exact serve_grows _ _ _ hf

theorem keeper_grows (s : State) (cmd : Instr) (f : State → State) (hf : ∀ s, Grows s (f s)) : Grows s (s.keeper cmd f) := by
  unfold State.keeper
  split
  · exact (served_grows _ _ _ _ _ hf).of_base_left (base_State_keeperStart ..)
  · exact grows_of_base rfl

/-- An outcome that keeps the queue and only sets fuses. -/
def OGrows (s : State) (o : Host.Outcome State Fault Refusal) : Prop := ∀ t, o = .next t → Grows s t

theorem OGrows.next {s t : State} (h : Grows s t) : OGrows s (.next t) := fun _ e => by cases e; exact h

theorem OGrows.of_base {s : State} {o : Host.Outcome State Fault Refusal} (h : obase (base s) o = base s) : OGrows s o := fun _ e => by
  subst e
  exact grows_of_base h

/-- A slip served for its row. -/
theorem slip_grows (s : State) (cmd : Instr) (op : Nat) (t : Transport) (e : SlipEnv) : OGrows s (.next (s.keeper cmd (fun s => s.serveAs op t e))) :=
  .next (keeper_grows _ _ _ (fun s => serveAs_grows s op t e))

theorem execKeeperSlipTurn_grows (e : SlipEnv) (s : State) : OGrows s (execKeeperSlipTurn e s) :=
  .next (keeper_grows _ _ _ (fun s => by
    split
    · exact visit_grows ..
    · split
      · exact grows_of_base rfl
      · exact (visit_grows ..).of_base_left (base_mk ..)))

theorem again_grows (s : State) (cmd : Instr) : OGrows s (s.again cmd) := by
  unfold State.again
  split
  · exact execKeeperSlipTurn_grows _ _
  · exact .of_base (base_execColdReset ..)
  · exact .of_base (base_execResetNFall ..)
  · exact .of_base (base_execWarmResetDelayExpiry ..)
  · exact .of_base (base_execDescriptorFetch ..)
  · exact .of_base (base_State_dispatchRecords ..)
  · exact .of_base (base_execChannelResetComplete ..)
  · exact .of_base (base_execNop ..)
  · exact .of_base (base_execCopy ..)
  · exact .of_base (base_execFill ..)
  · exact .of_base (base_execCompress ..)
  · exact .of_base (base_execDecompress ..)
  · exact .of_base (base_execCollate ..)
  · exact .of_base (base_execFlrComplete ..)
  · exact .of_base (base_execTqNop ..)
  · exact .of_base (base_execToHost ..)
  · exact .of_base (base_execFromHost ..)
  · exact .of_base (base_execPcieCompletion ..)
  · exact .of_base (base_execPcieCompletionTimeout ..)
  · exact .of_base (base_execTranslationCompletion ..)
  · exact .of_base (base_execPcieInboundRead ..)
  · exact .of_base (base_execPcieInboundWrite ..)
  · exact .of_base (base_execPcieInboundAtomic ..)
  · exact .of_base (base_execDebugSystemBusAccess ..)
  · exact .of_base (base_execCuratorInstruction ..)
  · exact .of_base (base_execDeedUnitTurn ..)
  · exact .of_base (base_execFolioEdge ..)
  · exact .of_base (base_execWatchPeriodWake ..)
  · exact slip_grows _ _ _ _ _
  · exact slip_grows _ _ _ _ _
  · exact slip_grows _ _ _ _ _
  · exact slip_grows _ _ _ _ _
  · exact slip_grows _ _ _ _ _
  · exact slip_grows _ _ _ _ _
  · exact slip_grows _ _ _ _ _
  · exact slip_grows _ _ _ _ _
  · exact slip_grows _ _ _ _ _
  · exact slip_grows _ _ _ _ _
  · exact slip_grows _ _ _ _ _
  · exact slip_grows _ _ _ _ _
  · exact slip_grows _ _ _ _ _
  · exact slip_grows _ _ _ _ _
  · exact slip_grows _ _ _ _ _
  · exact slip_grows _ _ _ _ _
  · exact slip_grows _ _ _ _ _
  · exact slip_grows _ _ _ _ _
  · exact slip_grows _ _ _ _ _
  · exact slip_grows _ _ _ _ _
  · exact slip_grows _ _ _ _ _
  · exact slip_grows _ _ _ _ _
  · exact slip_grows _ _ _ _ _
  · exact slip_grows _ _ _ _ _
  · exact slip_grows _ _ _ _ _
  · exact slip_grows _ _ _ _ _
  · exact slip_grows _ _ _ _ _
  · exact slip_grows _ _ _ _ _
  · exact slip_grows _ _ _ _ _
  · exact slip_grows _ _ _ _ _
  · exact slip_grows _ _ _ _ _
  · exact slip_grows _ _ _ _ _
  · exact slip_grows _ _ _ _ _
  · exact slip_grows _ _ _ _ _
  · exact slip_grows _ _ _ _ _
  · exact slip_grows _ _ _ _ _
  · exact slip_grows _ _ _ _ _
  · exact slip_grows _ _ _ _ _
  · exact slip_grows _ _ _ _ _
  · exact slip_grows _ _ _ _ _
  · exact slip_grows _ _ _ _ _
  · exact slip_grows _ _ _ _ _
  · exact slip_grows _ _ _ _ _
  · exact slip_grows _ _ _ _ _
  · exact slip_grows _ _ _ _ _
  · exact slip_grows _ _ _ _ _
  · exact slip_grows _ _ _ _ _
  · exact slip_grows _ _ _ _ _
  · exact slip_grows _ _ _ _ _
  · exact slip_grows _ _ _ _ _
  · exact slip_grows _ _ _ _ _
  · exact slip_grows _ _ _ _ _
  · exact slip_grows _ _ _ _ _
  · exact slip_grows _ _ _ _ _
  · exact slip_grows _ _ _ _ _
  · exact .of_base rfl

theorem ended_grows (s : State) (o : Host.Outcome State Fault Refusal) (h : OGrows s o) : Grows s (s.ended o) := by
  unfold State.ended
  split
  · exact h _ rfl
  · exact grows_of_base rfl

theorem turns_grows (n : Nat) (s : State) : Grows s (State.turns n s) := by
  induction n generalizing s with
  | zero => exact grows_of_base rfl
  | succ n ih =>
    unfold State.turns
    split
    · exact grows_of_base rfl
    · refine Grows.trans (Grows.of_base_left ?_ (ended_grows _ _ (again_grows _ _))) (ih _)
      rfl

theorem agentAnswer_grows (s : State) (st tag : Nat) (a : CohAns) : Grows s (s.agentAnswer st tag a) := by
  have hr : base (s.runAnswer st tag a).2 = base s := base_State_runAnswer ..
  unfold State.agentAnswer
  simp only
  refine Grows.trans ?_ (turns_grows ..)
  split
  · exact (ended_grows _ _ (again_grows _ _)).of_base_left hr
  · exact grows_of_base hr

/-- What a packet's arrival does, where that only sets fuses. -/
theorem receive_grows (s : State) (p : Packet) (f : State → State) (hf : ∀ s, Grows s (f s)) : Grows s (s.receive p f) := by
  unfold State.receive
  split
  · exact (hf _).of_base_left (base_State_eject_some _ _ _ (by assumption))
  · exact grows_of_base rfl

/-- Raising the SVN counters at the end of boot. -/
theorem raiseSvns_grows (s : State) : Grows s s.raiseSvns := by
  have hs : ∀ (s : State) (i : Nat), Grows s (match s.kpr.images.get none (i + 1) with
      | some l => { s with fuses := { s.fuses with svn := s.fuses.svn.set 0 (i + 1) (max (s.fuses.svn.get 0 (i + 1)) l.hdr.svn) } }
      | none => s) := by
    intro s i
    split
    · refine ⟨{ FuseStep.refl s.fuses with svn := fun t => ?_ }, rfl⟩
      by_cases e : t = i + 1
      · subst e
        rw [get_set_same]
        exact Nat.le_max_left ..
      · exact Nat.le_of_eq (get_set_other (h := e) ..).symm
    · exact grows_of_base rfl
  unfold State.raiseSvns
  generalize List.range 4 = l
  induction l generalizing s with
  | nil => exact grows_of_base rfl
  | cons i l ih => exact (hs s i).trans (ih _)

theorem leaveReduced_grows (s : State) (cfg : BootCfg) (m : Nat) : Grows s (s.leaveReduced cfg m) := by
  unfold State.leaveReduced
  simp only
  split
  · refine (raiseSvns_grows _).of_base_left ?_
    simp only [base_State_applyPending, base_State_setF, base_foldl, base_State_syncCore, base_State_releaseHart, base_State_unpauseHarts, implies_true]
    exact (base_mk ..).trans ((base_State_setMode ..).trans (base_mk ..))
  · refine grows_of_base ?_
    simp only [base_State_applyPending, base_State_setF, base_foldl, base_State_syncCore, base_State_releaseHart, base_State_unpauseHarts, implies_true]
    exact (base_mk ..).trans ((base_State_setMode ..).trans (base_mk ..))

theorem execReducedServiceExit_grows (s : State) : OGrows s (execReducedServiceExit s) := by
  unfold execReducedServiceExit
  split
  · exact .next (grows_of_base rfl)
  · simp only
    generalize hr : (List.foldl _ _ _ : Bool × State) = r
    have hb : base r.2 = base s := by
      subst hr
      refine (base_foldl2 (fun (a : Bool × State) (h : Nat) => (a.1 && (a.2.quiesce h).1, (a.2.quiesce h).2)) (fun a h => base_State_quiesce a.2 h) _ _).trans ?_
      exact (base_State_pauseHarts ..).trans (base_foldl _ (fun s t => base_State_setDomain ..) _ _)
    split
    · exact .next (grows_of_base hb)
    · split
      · exact .next ((leaveReduced_grows ..).of_base_left ((base_State_unstage ..).trans hb))
      · exact .next (grows_of_base ((base_State_unstage ..).trans hb))

theorem execCompData_grows (p : Packet) (s : State) : OGrows s (execCompData p s) :=
  .next (receive_grows _ _ _ (fun s => by
    split
    · exact grows_of_base rfl
    · split
      · exact agentAnswer_grows ..
      · refine grows_of_base ?_
        split <;> simp only [base_ite, base_State_prefetchEnd, base_State_gateResponse, base_State_coreData, base_State_setReq, ite_self]))

theorem execComp_grows (p : Packet) (s : State) : OGrows s (execComp p s) :=
  .next (receive_grows _ _ _ (fun s => by
    split
    · exact grows_of_base rfl
    · split
      · exact agentAnswer_grows ..
      · refine grows_of_base ?_
        split <;> simp only [base_ite, base_State_prefetchEnd, base_State_gateResponse, base_State_coreComp, base_State_gateComp, base_State_dmAnswer, base_State_setReq, ite_self]))

theorem execErrResp_grows (p : Packet) (s : State) : OGrows s (execErrResp p s) :=
  .next (receive_grows _ _ _ (fun s => by
    split
    · exact grows_of_base rfl
    · split
      · exact agentAnswer_grows ..
      · split
        · exact grows_of_base (base_State_prefetchEnd ..)
        · refine grows_of_base ?_
          split <;> simp only [base_ite, base_State_gateResponse, base_State_coreError, base_State_homeMemError, base_State_dmAnswer, base_State_setReq, ite_self]))

end Sys2Proof.Laws
end

