-- ==== Sys2Proof/Laws/Memory.lean ====
section
/-! SUPPORT. The laws of memory: a granule reads what was stored in it, a store leaves every other granule alone, and every operation that changes memory keeps its canonical
form (R104, R280, R309). -/
namespace Sys2Proof.Laws

open Sys2Proof.Machine

/-- A read after a store of the same granule. -/
@[simp] theorem granule_setGranule_same (s : State) (g : Nat) (v : Granule) : (s.setGranule g v).granule g = v := by
  simp [State.granule, State.setGranule]

/-- A store leaves every other granule alone. -/
theorem granule_setGranule_other (s : State) (g j : Nat) (v : Granule) (h : j ≠ g) : (s.setGranule g v).granule j = s.granule j := by
  simp [State.granule, State.setGranule, get_set_other, h]

/-- Memory at reset is in canonical form. -/
theorem reset_memory_wf : Memory.wf State.reset.mem = true := rfl

/-- A store keeps the canonical form. -/
theorem setGranule_wf (s : State) (g : Nat) (v : Granule) (h : Memory.wf s.mem = true) : Memory.wf (s.setGranule g v).mem = true :=
  set_wf (fun _ => ({} : Granule)) s.mem g v h

/-- What a reset keeps of memory, and what training leaves, are in canonical form. -/
theorem filter_memory_wf (m : Map Granule) (p : Nat × Granule → Bool) (h : Memory.wf m = true) : Memory.wf (m.filter p) = true :=
  filter_wf (fun _ => ({} : Granule)) m p h

end Sys2Proof.Laws
end

