-- ==== Sys2Proof/Laws/State.lean ====
section
/-! SUPPORT. What each small update of the state leaves of every field: one lemma for each field and update. -/
namespace Sys2Proof.Laws

open Sys2Proof.Machine

@[simp] theorem setRegWord_pending (s : State) (r : RegName) (u i : Nat) (v : Word) : (s.setRegWord r u i v).pending = s.pending := by unfold State.setRegWord; generalize s.regs.set _ _ _ = m; rfl
@[simp] theorem setRegWord_fresh (s : State) (r : RegName) (u i : Nat) (v : Word) : (s.setRegWord r u i v).fresh = s.fresh := by unfold State.setRegWord; generalize s.regs.set _ _ _ = m; rfl
@[simp] theorem setRegWord_fuses (s : State) (r : RegName) (u i : Nat) (v : Word) : (s.setRegWord r u i v).fuses = s.fuses := by unfold State.setRegWord; generalize s.regs.set _ _ _ = m; rfl
@[simp] theorem setRegWord_regs (s : State) (r : RegName) (u i : Nat) (v : Word) : (s.setRegWord r u i v).regs = s.regs.set (keyReset s.fuses (regKey r u i)) (regKey r u i) v := by unfold State.setRegWord; generalize s.regs.set _ _ _ = m; rfl
@[simp] theorem setRegWord_harts (s : State) (r : RegName) (u i : Nat) (v : Word) : (s.setRegWord r u i v).harts = s.harts := by unfold State.setRegWord; generalize s.regs.set _ _ _ = m; rfl
@[simp] theorem setRegWord_cores (s : State) (r : RegName) (u i : Nat) (v : Word) : (s.setRegWord r u i v).cores = s.cores := by unfold State.setRegWord; generalize s.regs.set _ _ _ = m; rfl
@[simp] theorem setRegWord_caches (s : State) (r : RegName) (u i : Nat) (v : Word) : (s.setRegWord r u i v).caches = s.caches := by unfold State.setRegWord; generalize s.regs.set _ _ _ = m; rfl
@[simp] theorem setRegWord_dir (s : State) (r : RegName) (u i : Nat) (v : Word) : (s.setRegWord r u i v).dir = s.dir := by unfold State.setRegWord; generalize s.regs.set _ _ _ = m; rfl
@[simp] theorem setRegWord_llc (s : State) (r : RegName) (u i : Nat) (v : Word) : (s.setRegWord r u i v).llc = s.llc := by unfold State.setRegWord; generalize s.regs.set _ _ _ = m; rfl
@[simp] theorem setRegWord_slices (s : State) (r : RegName) (u i : Nat) (v : Word) : (s.setRegWord r u i v).slices = s.slices := by unfold State.setRegWord; generalize s.regs.set _ _ _ = m; rfl
@[simp] theorem setRegWord_nis (s : State) (r : RegName) (u i : Nat) (v : Word) : (s.setRegWord r u i v).nis = s.nis := by unfold State.setRegWord; generalize s.regs.set _ _ _ = m; rfl
@[simp] theorem setRegWord_outq (s : State) (r : RegName) (u i : Nat) (v : Word) : (s.setRegWord r u i v).outq = s.outq := by unfold State.setRegWord; generalize s.regs.set _ _ _ = m; rfl
@[simp] theorem setRegWord_net (s : State) (r : RegName) (u i : Nat) (v : Word) : (s.setRegWord r u i v).net = s.net := by unfold State.setRegWord; generalize s.regs.set _ _ _ = m; rfl
@[simp] theorem setRegWord_reqs (s : State) (r : RegName) (u i : Nat) (v : Word) : (s.setRegWord r u i v).reqs = s.reqs := by unfold State.setRegWord; generalize s.regs.set _ _ _ = m; rfl
@[simp] theorem setRegWord_ioWrites (s : State) (r : RegName) (u i : Nat) (v : Word) : (s.setRegWord r u i v).ioWrites = s.ioWrites := by unfold State.setRegWord; generalize s.regs.set _ _ _ = m; rfl
@[simp] theorem setRegWord_works (s : State) (r : RegName) (u i : Nat) (v : Word) : (s.setRegWord r u i v).works = s.works := by unfold State.setRegWord; generalize s.regs.set _ _ _ = m; rfl
@[simp] theorem setRegWord_cursor (s : State) (r : RegName) (u i : Nat) (v : Word) : (s.setRegWord r u i v).cursor = s.cursor := by unfold State.setRegWord; generalize s.regs.set _ _ _ = m; rfl
@[simp] theorem setRegWord_fence (s : State) (r : RegName) (u i : Nat) (v : Word) : (s.setRegWord r u i v).fence = s.fence := by unfold State.setRegWord; generalize s.regs.set _ _ _ = m; rfl
@[simp] theorem setRegWord_fenceSeq (s : State) (r : RegName) (u i : Nat) (v : Word) : (s.setRegWord r u i v).fenceSeq = s.fenceSeq := by unfold State.setRegWord; generalize s.regs.set _ _ _ = m; rfl
@[simp] theorem setRegWord_flipTime (s : State) (r : RegName) (u i : Nat) (v : Word) : (s.setRegWord r u i v).flipTime = s.flipTime := by unfold State.setRegWord; generalize s.regs.set _ _ _ = m; rfl
@[simp] theorem setRegWord_meterWids (s : State) (r : RegName) (u i : Nat) (v : Word) : (s.setRegWord r u i v).meterWids = s.meterWids := by unfold State.setRegWord; generalize s.regs.set _ _ _ = m; rfl
@[simp] theorem setRegWord_broadcasts (s : State) (r : RegName) (u i : Nat) (v : Word) : (s.setRegWord r u i v).broadcasts = s.broadcasts := by unfold State.setRegWord; generalize s.regs.set _ _ _ = m; rfl
@[simp] theorem setRegWord_flushIssuers (s : State) (r : RegName) (u i : Nat) (v : Word) : (s.setRegWord r u i v).flushIssuers = s.flushIssuers := by unfold State.setRegWord; generalize s.regs.set _ _ _ = m; rfl
@[simp] theorem setRegWord_flushWays (s : State) (r : RegName) (u i : Nat) (v : Word) : (s.setRegWord r u i v).flushWays = s.flushWays := by unfold State.setRegWord; generalize s.regs.set _ _ _ = m; rfl
@[simp] theorem setRegWord_flushDirWays (s : State) (r : RegName) (u i : Nat) (v : Word) : (s.setRegWord r u i v).flushDirWays = s.flushDirWays := by unfold State.setRegWord; generalize s.regs.set _ _ _ = m; rfl
@[simp] theorem setRegWord_mem (s : State) (r : RegName) (u i : Nat) (v : Word) : (s.setRegWord r u i v).mem = s.mem := by unfold State.setRegWord; generalize s.regs.set _ _ _ = m; rfl
@[simp] theorem setRegWord_mps (s : State) (r : RegName) (u i : Nat) (v : Word) : (s.setRegWord r u i v).mps = s.mps := by unfold State.setRegWord; generalize s.regs.set _ _ _ = m; rfl
@[simp] theorem setRegWord_deeds (s : State) (r : RegName) (u i : Nat) (v : Word) : (s.setRegWord r u i v).deeds = s.deeds := by unfold State.setRegWord; generalize s.regs.set _ _ _ = m; rfl
@[simp] theorem setRegWord_deedBad (s : State) (r : RegName) (u i : Nat) (v : Word) : (s.setRegWord r u i v).deedBad = s.deedBad := by unfold State.setRegWord; generalize s.regs.set _ _ _ = m; rfl
@[simp] theorem setRegWord_deedCaches (s : State) (r : RegName) (u i : Nat) (v : Word) : (s.setRegWord r u i v).deedCaches = s.deedCaches := by unfold State.setRegWord; generalize s.regs.set _ _ _ = m; rfl
@[simp] theorem setRegWord_deedCmds (s : State) (r : RegName) (u i : Nat) (v : Word) : (s.setRegWord r u i v).deedCmds = s.deedCmds := by unfold State.setRegWord; generalize s.regs.set _ _ _ = m; rfl
@[simp] theorem setRegWord_deedTurn (s : State) (r : RegName) (u i : Nat) (v : Word) : (s.setRegWord r u i v).deedTurn = s.deedTurn := by unfold State.setRegWord; generalize s.regs.set _ _ _ = m; rfl
@[simp] theorem setRegWord_keyGens (s : State) (r : RegName) (u i : Nat) (v : Word) : (s.setRegWord r u i v).keyGens = s.keyGens := by unfold State.setRegWord; generalize s.regs.set _ _ _ = m; rfl
@[simp] theorem setRegWord_keySerial (s : State) (r : RegName) (u i : Nat) (v : Word) : (s.setRegWord r u i v).keySerial = s.keySerial := by unfold State.setRegWord; generalize s.regs.set _ _ _ = m; rfl
@[simp] theorem setRegWord_keyCmd (s : State) (r : RegName) (u i : Nat) (v : Word) : (s.setRegWord r u i v).keyCmd = s.keyCmd := by unfold State.setRegWord; generalize s.regs.set _ _ _ = m; rfl
@[simp] theorem setRegWord_bells (s : State) (r : RegName) (u i : Nat) (v : Word) : (s.setRegWord r u i v).bells = s.bells := by unfold State.setRegWord; generalize s.regs.set _ _ _ = m; rfl
@[simp] theorem setRegWord_bellRet (s : State) (r : RegName) (u i : Nat) (v : Word) : (s.setRegWord r u i v).bellRet = s.bellRet := by unfold State.setRegWord; generalize s.regs.set _ _ _ = m; rfl
@[simp] theorem setRegWord_aplic (s : State) (r : RegName) (u i : Nat) (v : Word) : (s.setRegWord r u i v).aplic = s.aplic := by unfold State.setRegWord; generalize s.regs.set _ _ _ = m; rfl
@[simp] theorem setRegWord_aplicDom (s : State) (r : RegName) (u i : Nat) (v : Word) : (s.setRegWord r u i v).aplicDom = s.aplicDom := by unfold State.setRegWord; generalize s.regs.set _ _ _ = m; rfl
@[simp] theorem setRegWord_pins (s : State) (r : RegName) (u i : Nat) (v : Word) : (s.setRegWord r u i v).pins = s.pins := by unfold State.setRegWord; generalize s.regs.set _ _ _ = m; rfl
@[simp] theorem setRegWord_links (s : State) (r : RegName) (u i : Nat) (v : Word) : (s.setRegWord r u i v).links = s.links := by unfold State.setRegWord; generalize s.regs.set _ _ _ = m; rfl
@[simp] theorem setRegWord_gates (s : State) (r : RegName) (u i : Nat) (v : Word) : (s.setRegWord r u i v).gates = s.gates := by unfold State.setRegWord; generalize s.regs.set _ _ _ = m; rfl
@[simp] theorem setRegWord_annals (s : State) (r : RegName) (u i : Nat) (v : Word) : (s.setRegWord r u i v).annals = s.annals := by unfold State.setRegWord; generalize s.regs.set _ _ _ = m; rfl
@[simp] theorem setRegWord_engines (s : State) (r : RegName) (u i : Nat) (v : Word) : (s.setRegWord r u i v).engines = s.engines := by unfold State.setRegWord; generalize s.regs.set _ _ _ = m; rfl
@[simp] theorem setRegWord_hps (s : State) (r : RegName) (u i : Nat) (v : Word) : (s.setRegWord r u i v).hps = s.hps := by unfold State.setRegWord; generalize s.regs.set _ _ _ = m; rfl
@[simp] theorem setRegWord_pf (s : State) (r : RegName) (u i : Nat) (v : Word) : (s.setRegWord r u i v).pf = s.pf := by unfold State.setRegWord; generalize s.regs.set _ _ _ = m; rfl
@[simp] theorem setRegWord_vfs (s : State) (r : RegName) (u i : Nat) (v : Word) : (s.setRegWord r u i v).vfs = s.vfs := by unfold State.setRegWord; generalize s.regs.set _ _ _ = m; rfl
@[simp] theorem setRegWord_queues (s : State) (r : RegName) (u i : Nat) (v : Word) : (s.setRegWord r u i v).queues = s.queues := by unfold State.setRegWord; generalize s.regs.set _ _ _ = m; rfl
@[simp] theorem setRegWord_pw (s : State) (r : RegName) (u i : Nat) (v : Word) : (s.setRegWord r u i v).pw = s.pw := by unfold State.setRegWord; generalize s.regs.set _ _ _ = m; rfl
@[simp] theorem setRegWord_ledger (s : State) (r : RegName) (u i : Nat) (v : Word) : (s.setRegWord r u i v).ledger = s.ledger := by unfold State.setRegWord; generalize s.regs.set _ _ _ = m; rfl
@[simp] theorem setRegWord_flash (s : State) (r : RegName) (u i : Nat) (v : Word) : (s.setRegWord r u i v).flash = s.flash := by unfold State.setRegWord; generalize s.regs.set _ _ _ = m; rfl
@[simp] theorem setRegWord_kpr (s : State) (r : RegName) (u i : Nat) (v : Word) : (s.setRegWord r u i v).kpr = s.kpr := by unfold State.setRegWord; generalize s.regs.set _ _ _ = m; rfl
@[simp] theorem setRegWord_cur (s : State) (r : RegName) (u i : Nat) (v : Word) : (s.setRegWord r u i v).cur = s.cur := by unfold State.setRegWord; generalize s.regs.set _ _ _ = m; rfl
@[simp] theorem setRegWord_slips (s : State) (r : RegName) (u i : Nat) (v : Word) : (s.setRegWord r u i v).slips = s.slips := by unfold State.setRegWord; generalize s.regs.set _ _ _ = m; rfl
@[simp] theorem setRegWord_folio (s : State) (r : RegName) (u i : Nat) (v : Word) : (s.setRegWord r u i v).folio = s.folio := by unfold State.setRegWord; generalize s.regs.set _ _ _ = m; rfl
@[simp] theorem setRegWord_dm (s : State) (r : RegName) (u i : Nat) (v : Word) : (s.setRegWord r u i v).dm = s.dm := by unfold State.setRegWord; generalize s.regs.set _ _ _ = m; rfl
@[simp] theorem setRegWord_bootCount (s : State) (r : RegName) (u i : Nat) (v : Word) : (s.setRegWord r u i v).bootCount = s.bootCount := by unfold State.setRegWord; generalize s.regs.set _ _ _ = m; rfl

@[simp] theorem setF_pending (s : State) (f : Fld) (u i v : Nat) : (s.setF f u i v).pending = s.pending := setRegWord_pending ..
@[simp] theorem setF_fresh (s : State) (f : Fld) (u i v : Nat) : (s.setF f u i v).fresh = s.fresh := setRegWord_fresh ..
@[simp] theorem setF_fuses (s : State) (f : Fld) (u i v : Nat) : (s.setF f u i v).fuses = s.fuses := setRegWord_fuses ..
@[simp] theorem setF_harts (s : State) (f : Fld) (u i v : Nat) : (s.setF f u i v).harts = s.harts := setRegWord_harts ..
@[simp] theorem setF_cores (s : State) (f : Fld) (u i v : Nat) : (s.setF f u i v).cores = s.cores := setRegWord_cores ..
@[simp] theorem setF_caches (s : State) (f : Fld) (u i v : Nat) : (s.setF f u i v).caches = s.caches := setRegWord_caches ..
@[simp] theorem setF_dir (s : State) (f : Fld) (u i v : Nat) : (s.setF f u i v).dir = s.dir := setRegWord_dir ..
@[simp] theorem setF_llc (s : State) (f : Fld) (u i v : Nat) : (s.setF f u i v).llc = s.llc := setRegWord_llc ..
@[simp] theorem setF_slices (s : State) (f : Fld) (u i v : Nat) : (s.setF f u i v).slices = s.slices := setRegWord_slices ..
@[simp] theorem setF_nis (s : State) (f : Fld) (u i v : Nat) : (s.setF f u i v).nis = s.nis := setRegWord_nis ..
@[simp] theorem setF_outq (s : State) (f : Fld) (u i v : Nat) : (s.setF f u i v).outq = s.outq := setRegWord_outq ..
@[simp] theorem setF_net (s : State) (f : Fld) (u i v : Nat) : (s.setF f u i v).net = s.net := setRegWord_net ..
@[simp] theorem setF_reqs (s : State) (f : Fld) (u i v : Nat) : (s.setF f u i v).reqs = s.reqs := setRegWord_reqs ..
@[simp] theorem setF_ioWrites (s : State) (f : Fld) (u i v : Nat) : (s.setF f u i v).ioWrites = s.ioWrites := setRegWord_ioWrites ..
@[simp] theorem setF_works (s : State) (f : Fld) (u i v : Nat) : (s.setF f u i v).works = s.works := setRegWord_works ..
@[simp] theorem setF_cursor (s : State) (f : Fld) (u i v : Nat) : (s.setF f u i v).cursor = s.cursor := setRegWord_cursor ..
@[simp] theorem setF_fence (s : State) (f : Fld) (u i v : Nat) : (s.setF f u i v).fence = s.fence := setRegWord_fence ..
@[simp] theorem setF_fenceSeq (s : State) (f : Fld) (u i v : Nat) : (s.setF f u i v).fenceSeq = s.fenceSeq := setRegWord_fenceSeq ..
@[simp] theorem setF_flipTime (s : State) (f : Fld) (u i v : Nat) : (s.setF f u i v).flipTime = s.flipTime := setRegWord_flipTime ..
@[simp] theorem setF_meterWids (s : State) (f : Fld) (u i v : Nat) : (s.setF f u i v).meterWids = s.meterWids := setRegWord_meterWids ..
@[simp] theorem setF_broadcasts (s : State) (f : Fld) (u i v : Nat) : (s.setF f u i v).broadcasts = s.broadcasts := setRegWord_broadcasts ..
@[simp] theorem setF_flushIssuers (s : State) (f : Fld) (u i v : Nat) : (s.setF f u i v).flushIssuers = s.flushIssuers := setRegWord_flushIssuers ..
@[simp] theorem setF_flushWays (s : State) (f : Fld) (u i v : Nat) : (s.setF f u i v).flushWays = s.flushWays := setRegWord_flushWays ..
@[simp] theorem setF_flushDirWays (s : State) (f : Fld) (u i v : Nat) : (s.setF f u i v).flushDirWays = s.flushDirWays := setRegWord_flushDirWays ..
@[simp] theorem setF_mem (s : State) (f : Fld) (u i v : Nat) : (s.setF f u i v).mem = s.mem := setRegWord_mem ..
@[simp] theorem setF_mps (s : State) (f : Fld) (u i v : Nat) : (s.setF f u i v).mps = s.mps := setRegWord_mps ..
@[simp] theorem setF_deeds (s : State) (f : Fld) (u i v : Nat) : (s.setF f u i v).deeds = s.deeds := setRegWord_deeds ..
@[simp] theorem setF_deedBad (s : State) (f : Fld) (u i v : Nat) : (s.setF f u i v).deedBad = s.deedBad := setRegWord_deedBad ..
@[simp] theorem setF_deedCaches (s : State) (f : Fld) (u i v : Nat) : (s.setF f u i v).deedCaches = s.deedCaches := setRegWord_deedCaches ..
@[simp] theorem setF_deedCmds (s : State) (f : Fld) (u i v : Nat) : (s.setF f u i v).deedCmds = s.deedCmds := setRegWord_deedCmds ..
@[simp] theorem setF_deedTurn (s : State) (f : Fld) (u i v : Nat) : (s.setF f u i v).deedTurn = s.deedTurn := setRegWord_deedTurn ..
@[simp] theorem setF_keyGens (s : State) (f : Fld) (u i v : Nat) : (s.setF f u i v).keyGens = s.keyGens := setRegWord_keyGens ..
@[simp] theorem setF_keySerial (s : State) (f : Fld) (u i v : Nat) : (s.setF f u i v).keySerial = s.keySerial := setRegWord_keySerial ..
@[simp] theorem setF_keyCmd (s : State) (f : Fld) (u i v : Nat) : (s.setF f u i v).keyCmd = s.keyCmd := setRegWord_keyCmd ..
@[simp] theorem setF_bells (s : State) (f : Fld) (u i v : Nat) : (s.setF f u i v).bells = s.bells := setRegWord_bells ..
@[simp] theorem setF_bellRet (s : State) (f : Fld) (u i v : Nat) : (s.setF f u i v).bellRet = s.bellRet := setRegWord_bellRet ..
@[simp] theorem setF_aplic (s : State) (f : Fld) (u i v : Nat) : (s.setF f u i v).aplic = s.aplic := setRegWord_aplic ..
@[simp] theorem setF_aplicDom (s : State) (f : Fld) (u i v : Nat) : (s.setF f u i v).aplicDom = s.aplicDom := setRegWord_aplicDom ..
@[simp] theorem setF_pins (s : State) (f : Fld) (u i v : Nat) : (s.setF f u i v).pins = s.pins := setRegWord_pins ..
@[simp] theorem setF_links (s : State) (f : Fld) (u i v : Nat) : (s.setF f u i v).links = s.links := setRegWord_links ..
@[simp] theorem setF_gates (s : State) (f : Fld) (u i v : Nat) : (s.setF f u i v).gates = s.gates := setRegWord_gates ..
@[simp] theorem setF_annals (s : State) (f : Fld) (u i v : Nat) : (s.setF f u i v).annals = s.annals := setRegWord_annals ..
@[simp] theorem setF_engines (s : State) (f : Fld) (u i v : Nat) : (s.setF f u i v).engines = s.engines := setRegWord_engines ..
@[simp] theorem setF_hps (s : State) (f : Fld) (u i v : Nat) : (s.setF f u i v).hps = s.hps := setRegWord_hps ..
@[simp] theorem setF_pf (s : State) (f : Fld) (u i v : Nat) : (s.setF f u i v).pf = s.pf := setRegWord_pf ..
@[simp] theorem setF_vfs (s : State) (f : Fld) (u i v : Nat) : (s.setF f u i v).vfs = s.vfs := setRegWord_vfs ..
@[simp] theorem setF_queues (s : State) (f : Fld) (u i v : Nat) : (s.setF f u i v).queues = s.queues := setRegWord_queues ..
@[simp] theorem setF_pw (s : State) (f : Fld) (u i v : Nat) : (s.setF f u i v).pw = s.pw := setRegWord_pw ..
@[simp] theorem setF_ledger (s : State) (f : Fld) (u i v : Nat) : (s.setF f u i v).ledger = s.ledger := setRegWord_ledger ..
@[simp] theorem setF_flash (s : State) (f : Fld) (u i v : Nat) : (s.setF f u i v).flash = s.flash := setRegWord_flash ..
@[simp] theorem setF_kpr (s : State) (f : Fld) (u i v : Nat) : (s.setF f u i v).kpr = s.kpr := setRegWord_kpr ..
@[simp] theorem setF_cur (s : State) (f : Fld) (u i v : Nat) : (s.setF f u i v).cur = s.cur := setRegWord_cur ..
@[simp] theorem setF_slips (s : State) (f : Fld) (u i v : Nat) : (s.setF f u i v).slips = s.slips := setRegWord_slips ..
@[simp] theorem setF_folio (s : State) (f : Fld) (u i v : Nat) : (s.setF f u i v).folio = s.folio := setRegWord_folio ..
@[simp] theorem setF_dm (s : State) (f : Fld) (u i v : Nat) : (s.setF f u i v).dm = s.dm := setRegWord_dm ..
@[simp] theorem setF_bootCount (s : State) (f : Fld) (u i v : Nat) : (s.setF f u i v).bootCount = s.bootCount := setRegWord_bootCount ..

@[simp] theorem setHart_pending (s : State) (h : Nat) (x : Hart) : (s.setHart h x).pending = s.pending := by unfold State.setHart; generalize s.harts.set _ _ _ = m; rfl
@[simp] theorem setHart_fresh (s : State) (h : Nat) (x : Hart) : (s.setHart h x).fresh = s.fresh := by unfold State.setHart; generalize s.harts.set _ _ _ = m; rfl
@[simp] theorem setHart_fuses (s : State) (h : Nat) (x : Hart) : (s.setHart h x).fuses = s.fuses := by unfold State.setHart; generalize s.harts.set _ _ _ = m; rfl
@[simp] theorem setHart_regs (s : State) (h : Nat) (x : Hart) : (s.setHart h x).regs = s.regs := by unfold State.setHart; generalize s.harts.set _ _ _ = m; rfl
@[simp] theorem setHart_harts (s : State) (h : Nat) (x : Hart) : (s.setHart h x).harts = s.harts.set {} h x := by unfold State.setHart; generalize s.harts.set _ _ _ = m; rfl
@[simp] theorem setHart_cores (s : State) (h : Nat) (x : Hart) : (s.setHart h x).cores = s.cores := by unfold State.setHart; generalize s.harts.set _ _ _ = m; rfl
@[simp] theorem setHart_caches (s : State) (h : Nat) (x : Hart) : (s.setHart h x).caches = s.caches := by unfold State.setHart; generalize s.harts.set _ _ _ = m; rfl
@[simp] theorem setHart_dir (s : State) (h : Nat) (x : Hart) : (s.setHart h x).dir = s.dir := by unfold State.setHart; generalize s.harts.set _ _ _ = m; rfl
@[simp] theorem setHart_llc (s : State) (h : Nat) (x : Hart) : (s.setHart h x).llc = s.llc := by unfold State.setHart; generalize s.harts.set _ _ _ = m; rfl
@[simp] theorem setHart_slices (s : State) (h : Nat) (x : Hart) : (s.setHart h x).slices = s.slices := by unfold State.setHart; generalize s.harts.set _ _ _ = m; rfl
@[simp] theorem setHart_nis (s : State) (h : Nat) (x : Hart) : (s.setHart h x).nis = s.nis := by unfold State.setHart; generalize s.harts.set _ _ _ = m; rfl
@[simp] theorem setHart_outq (s : State) (h : Nat) (x : Hart) : (s.setHart h x).outq = s.outq := by unfold State.setHart; generalize s.harts.set _ _ _ = m; rfl
@[simp] theorem setHart_net (s : State) (h : Nat) (x : Hart) : (s.setHart h x).net = s.net := by unfold State.setHart; generalize s.harts.set _ _ _ = m; rfl
@[simp] theorem setHart_reqs (s : State) (h : Nat) (x : Hart) : (s.setHart h x).reqs = s.reqs := by unfold State.setHart; generalize s.harts.set _ _ _ = m; rfl
@[simp] theorem setHart_ioWrites (s : State) (h : Nat) (x : Hart) : (s.setHart h x).ioWrites = s.ioWrites := by unfold State.setHart; generalize s.harts.set _ _ _ = m; rfl
@[simp] theorem setHart_works (s : State) (h : Nat) (x : Hart) : (s.setHart h x).works = s.works := by unfold State.setHart; generalize s.harts.set _ _ _ = m; rfl
@[simp] theorem setHart_cursor (s : State) (h : Nat) (x : Hart) : (s.setHart h x).cursor = s.cursor := by unfold State.setHart; generalize s.harts.set _ _ _ = m; rfl
@[simp] theorem setHart_fence (s : State) (h : Nat) (x : Hart) : (s.setHart h x).fence = s.fence := by unfold State.setHart; generalize s.harts.set _ _ _ = m; rfl
@[simp] theorem setHart_fenceSeq (s : State) (h : Nat) (x : Hart) : (s.setHart h x).fenceSeq = s.fenceSeq := by unfold State.setHart; generalize s.harts.set _ _ _ = m; rfl
@[simp] theorem setHart_flipTime (s : State) (h : Nat) (x : Hart) : (s.setHart h x).flipTime = s.flipTime := by unfold State.setHart; generalize s.harts.set _ _ _ = m; rfl
@[simp] theorem setHart_meterWids (s : State) (h : Nat) (x : Hart) : (s.setHart h x).meterWids = s.meterWids := by unfold State.setHart; generalize s.harts.set _ _ _ = m; rfl
@[simp] theorem setHart_broadcasts (s : State) (h : Nat) (x : Hart) : (s.setHart h x).broadcasts = s.broadcasts := by unfold State.setHart; generalize s.harts.set _ _ _ = m; rfl
@[simp] theorem setHart_flushIssuers (s : State) (h : Nat) (x : Hart) : (s.setHart h x).flushIssuers = s.flushIssuers := by unfold State.setHart; generalize s.harts.set _ _ _ = m; rfl
@[simp] theorem setHart_flushWays (s : State) (h : Nat) (x : Hart) : (s.setHart h x).flushWays = s.flushWays := by unfold State.setHart; generalize s.harts.set _ _ _ = m; rfl
@[simp] theorem setHart_flushDirWays (s : State) (h : Nat) (x : Hart) : (s.setHart h x).flushDirWays = s.flushDirWays := by unfold State.setHart; generalize s.harts.set _ _ _ = m; rfl
@[simp] theorem setHart_mem (s : State) (h : Nat) (x : Hart) : (s.setHart h x).mem = s.mem := by unfold State.setHart; generalize s.harts.set _ _ _ = m; rfl
@[simp] theorem setHart_mps (s : State) (h : Nat) (x : Hart) : (s.setHart h x).mps = s.mps := by unfold State.setHart; generalize s.harts.set _ _ _ = m; rfl
@[simp] theorem setHart_deeds (s : State) (h : Nat) (x : Hart) : (s.setHart h x).deeds = s.deeds := by unfold State.setHart; generalize s.harts.set _ _ _ = m; rfl
@[simp] theorem setHart_deedBad (s : State) (h : Nat) (x : Hart) : (s.setHart h x).deedBad = s.deedBad := by unfold State.setHart; generalize s.harts.set _ _ _ = m; rfl
@[simp] theorem setHart_deedCaches (s : State) (h : Nat) (x : Hart) : (s.setHart h x).deedCaches = s.deedCaches := by unfold State.setHart; generalize s.harts.set _ _ _ = m; rfl
@[simp] theorem setHart_deedCmds (s : State) (h : Nat) (x : Hart) : (s.setHart h x).deedCmds = s.deedCmds := by unfold State.setHart; generalize s.harts.set _ _ _ = m; rfl
@[simp] theorem setHart_deedTurn (s : State) (h : Nat) (x : Hart) : (s.setHart h x).deedTurn = s.deedTurn := by unfold State.setHart; generalize s.harts.set _ _ _ = m; rfl
@[simp] theorem setHart_keyGens (s : State) (h : Nat) (x : Hart) : (s.setHart h x).keyGens = s.keyGens := by unfold State.setHart; generalize s.harts.set _ _ _ = m; rfl
@[simp] theorem setHart_keySerial (s : State) (h : Nat) (x : Hart) : (s.setHart h x).keySerial = s.keySerial := by unfold State.setHart; generalize s.harts.set _ _ _ = m; rfl
@[simp] theorem setHart_keyCmd (s : State) (h : Nat) (x : Hart) : (s.setHart h x).keyCmd = s.keyCmd := by unfold State.setHart; generalize s.harts.set _ _ _ = m; rfl
@[simp] theorem setHart_bells (s : State) (h : Nat) (x : Hart) : (s.setHart h x).bells = s.bells := by unfold State.setHart; generalize s.harts.set _ _ _ = m; rfl
@[simp] theorem setHart_bellRet (s : State) (h : Nat) (x : Hart) : (s.setHart h x).bellRet = s.bellRet := by unfold State.setHart; generalize s.harts.set _ _ _ = m; rfl
@[simp] theorem setHart_aplic (s : State) (h : Nat) (x : Hart) : (s.setHart h x).aplic = s.aplic := by unfold State.setHart; generalize s.harts.set _ _ _ = m; rfl
@[simp] theorem setHart_aplicDom (s : State) (h : Nat) (x : Hart) : (s.setHart h x).aplicDom = s.aplicDom := by unfold State.setHart; generalize s.harts.set _ _ _ = m; rfl
@[simp] theorem setHart_pins (s : State) (h : Nat) (x : Hart) : (s.setHart h x).pins = s.pins := by unfold State.setHart; generalize s.harts.set _ _ _ = m; rfl
@[simp] theorem setHart_links (s : State) (h : Nat) (x : Hart) : (s.setHart h x).links = s.links := by unfold State.setHart; generalize s.harts.set _ _ _ = m; rfl
@[simp] theorem setHart_gates (s : State) (h : Nat) (x : Hart) : (s.setHart h x).gates = s.gates := by unfold State.setHart; generalize s.harts.set _ _ _ = m; rfl
@[simp] theorem setHart_annals (s : State) (h : Nat) (x : Hart) : (s.setHart h x).annals = s.annals := by unfold State.setHart; generalize s.harts.set _ _ _ = m; rfl
@[simp] theorem setHart_engines (s : State) (h : Nat) (x : Hart) : (s.setHart h x).engines = s.engines := by unfold State.setHart; generalize s.harts.set _ _ _ = m; rfl
@[simp] theorem setHart_hps (s : State) (h : Nat) (x : Hart) : (s.setHart h x).hps = s.hps := by unfold State.setHart; generalize s.harts.set _ _ _ = m; rfl
@[simp] theorem setHart_pf (s : State) (h : Nat) (x : Hart) : (s.setHart h x).pf = s.pf := by unfold State.setHart; generalize s.harts.set _ _ _ = m; rfl
@[simp] theorem setHart_vfs (s : State) (h : Nat) (x : Hart) : (s.setHart h x).vfs = s.vfs := by unfold State.setHart; generalize s.harts.set _ _ _ = m; rfl
@[simp] theorem setHart_queues (s : State) (h : Nat) (x : Hart) : (s.setHart h x).queues = s.queues := by unfold State.setHart; generalize s.harts.set _ _ _ = m; rfl
@[simp] theorem setHart_pw (s : State) (h : Nat) (x : Hart) : (s.setHart h x).pw = s.pw := by unfold State.setHart; generalize s.harts.set _ _ _ = m; rfl
@[simp] theorem setHart_ledger (s : State) (h : Nat) (x : Hart) : (s.setHart h x).ledger = s.ledger := by unfold State.setHart; generalize s.harts.set _ _ _ = m; rfl
@[simp] theorem setHart_flash (s : State) (h : Nat) (x : Hart) : (s.setHart h x).flash = s.flash := by unfold State.setHart; generalize s.harts.set _ _ _ = m; rfl
@[simp] theorem setHart_kpr (s : State) (h : Nat) (x : Hart) : (s.setHart h x).kpr = s.kpr := by unfold State.setHart; generalize s.harts.set _ _ _ = m; rfl
@[simp] theorem setHart_cur (s : State) (h : Nat) (x : Hart) : (s.setHart h x).cur = s.cur := by unfold State.setHart; generalize s.harts.set _ _ _ = m; rfl
@[simp] theorem setHart_slips (s : State) (h : Nat) (x : Hart) : (s.setHart h x).slips = s.slips := by unfold State.setHart; generalize s.harts.set _ _ _ = m; rfl
@[simp] theorem setHart_folio (s : State) (h : Nat) (x : Hart) : (s.setHart h x).folio = s.folio := by unfold State.setHart; generalize s.harts.set _ _ _ = m; rfl
@[simp] theorem setHart_dm (s : State) (h : Nat) (x : Hart) : (s.setHart h x).dm = s.dm := by unfold State.setHart; generalize s.harts.set _ _ _ = m; rfl
@[simp] theorem setHart_bootCount (s : State) (h : Nat) (x : Hart) : (s.setHart h x).bootCount = s.bootCount := by unfold State.setHart; generalize s.harts.set _ _ _ = m; rfl

@[simp] theorem modHart_pending (s : State) (h : Nat) (g : Hart → Hart) : (s.modHart h g).pending = s.pending := setHart_pending ..
@[simp] theorem modHart_fresh (s : State) (h : Nat) (g : Hart → Hart) : (s.modHart h g).fresh = s.fresh := setHart_fresh ..
@[simp] theorem modHart_fuses (s : State) (h : Nat) (g : Hart → Hart) : (s.modHart h g).fuses = s.fuses := setHart_fuses ..
@[simp] theorem modHart_regs (s : State) (h : Nat) (g : Hart → Hart) : (s.modHart h g).regs = s.regs := setHart_regs ..
@[simp] theorem modHart_harts (s : State) (h : Nat) (g : Hart → Hart) : (s.modHart h g).harts = s.harts.set {} h (g (s.hart h)) := setHart_harts ..
@[simp] theorem modHart_cores (s : State) (h : Nat) (g : Hart → Hart) : (s.modHart h g).cores = s.cores := setHart_cores ..
@[simp] theorem modHart_caches (s : State) (h : Nat) (g : Hart → Hart) : (s.modHart h g).caches = s.caches := setHart_caches ..
@[simp] theorem modHart_dir (s : State) (h : Nat) (g : Hart → Hart) : (s.modHart h g).dir = s.dir := setHart_dir ..
@[simp] theorem modHart_llc (s : State) (h : Nat) (g : Hart → Hart) : (s.modHart h g).llc = s.llc := setHart_llc ..
@[simp] theorem modHart_slices (s : State) (h : Nat) (g : Hart → Hart) : (s.modHart h g).slices = s.slices := setHart_slices ..
@[simp] theorem modHart_nis (s : State) (h : Nat) (g : Hart → Hart) : (s.modHart h g).nis = s.nis := setHart_nis ..
@[simp] theorem modHart_outq (s : State) (h : Nat) (g : Hart → Hart) : (s.modHart h g).outq = s.outq := setHart_outq ..
@[simp] theorem modHart_net (s : State) (h : Nat) (g : Hart → Hart) : (s.modHart h g).net = s.net := setHart_net ..
@[simp] theorem modHart_reqs (s : State) (h : Nat) (g : Hart → Hart) : (s.modHart h g).reqs = s.reqs := setHart_reqs ..
@[simp] theorem modHart_ioWrites (s : State) (h : Nat) (g : Hart → Hart) : (s.modHart h g).ioWrites = s.ioWrites := setHart_ioWrites ..
@[simp] theorem modHart_works (s : State) (h : Nat) (g : Hart → Hart) : (s.modHart h g).works = s.works := setHart_works ..
@[simp] theorem modHart_cursor (s : State) (h : Nat) (g : Hart → Hart) : (s.modHart h g).cursor = s.cursor := setHart_cursor ..
@[simp] theorem modHart_fence (s : State) (h : Nat) (g : Hart → Hart) : (s.modHart h g).fence = s.fence := setHart_fence ..
@[simp] theorem modHart_fenceSeq (s : State) (h : Nat) (g : Hart → Hart) : (s.modHart h g).fenceSeq = s.fenceSeq := setHart_fenceSeq ..
@[simp] theorem modHart_flipTime (s : State) (h : Nat) (g : Hart → Hart) : (s.modHart h g).flipTime = s.flipTime := setHart_flipTime ..
@[simp] theorem modHart_meterWids (s : State) (h : Nat) (g : Hart → Hart) : (s.modHart h g).meterWids = s.meterWids := setHart_meterWids ..
@[simp] theorem modHart_broadcasts (s : State) (h : Nat) (g : Hart → Hart) : (s.modHart h g).broadcasts = s.broadcasts := setHart_broadcasts ..
@[simp] theorem modHart_flushIssuers (s : State) (h : Nat) (g : Hart → Hart) : (s.modHart h g).flushIssuers = s.flushIssuers := setHart_flushIssuers ..
@[simp] theorem modHart_flushWays (s : State) (h : Nat) (g : Hart → Hart) : (s.modHart h g).flushWays = s.flushWays := setHart_flushWays ..
@[simp] theorem modHart_flushDirWays (s : State) (h : Nat) (g : Hart → Hart) : (s.modHart h g).flushDirWays = s.flushDirWays := setHart_flushDirWays ..
@[simp] theorem modHart_mem (s : State) (h : Nat) (g : Hart → Hart) : (s.modHart h g).mem = s.mem := setHart_mem ..
@[simp] theorem modHart_mps (s : State) (h : Nat) (g : Hart → Hart) : (s.modHart h g).mps = s.mps := setHart_mps ..
@[simp] theorem modHart_deeds (s : State) (h : Nat) (g : Hart → Hart) : (s.modHart h g).deeds = s.deeds := setHart_deeds ..
@[simp] theorem modHart_deedBad (s : State) (h : Nat) (g : Hart → Hart) : (s.modHart h g).deedBad = s.deedBad := setHart_deedBad ..
@[simp] theorem modHart_deedCaches (s : State) (h : Nat) (g : Hart → Hart) : (s.modHart h g).deedCaches = s.deedCaches := setHart_deedCaches ..
@[simp] theorem modHart_deedCmds (s : State) (h : Nat) (g : Hart → Hart) : (s.modHart h g).deedCmds = s.deedCmds := setHart_deedCmds ..
@[simp] theorem modHart_deedTurn (s : State) (h : Nat) (g : Hart → Hart) : (s.modHart h g).deedTurn = s.deedTurn := setHart_deedTurn ..
@[simp] theorem modHart_keyGens (s : State) (h : Nat) (g : Hart → Hart) : (s.modHart h g).keyGens = s.keyGens := setHart_keyGens ..
@[simp] theorem modHart_keySerial (s : State) (h : Nat) (g : Hart → Hart) : (s.modHart h g).keySerial = s.keySerial := setHart_keySerial ..
@[simp] theorem modHart_keyCmd (s : State) (h : Nat) (g : Hart → Hart) : (s.modHart h g).keyCmd = s.keyCmd := setHart_keyCmd ..
@[simp] theorem modHart_bells (s : State) (h : Nat) (g : Hart → Hart) : (s.modHart h g).bells = s.bells := setHart_bells ..
@[simp] theorem modHart_bellRet (s : State) (h : Nat) (g : Hart → Hart) : (s.modHart h g).bellRet = s.bellRet := setHart_bellRet ..
@[simp] theorem modHart_aplic (s : State) (h : Nat) (g : Hart → Hart) : (s.modHart h g).aplic = s.aplic := setHart_aplic ..
@[simp] theorem modHart_aplicDom (s : State) (h : Nat) (g : Hart → Hart) : (s.modHart h g).aplicDom = s.aplicDom := setHart_aplicDom ..
@[simp] theorem modHart_pins (s : State) (h : Nat) (g : Hart → Hart) : (s.modHart h g).pins = s.pins := setHart_pins ..
@[simp] theorem modHart_links (s : State) (h : Nat) (g : Hart → Hart) : (s.modHart h g).links = s.links := setHart_links ..
@[simp] theorem modHart_gates (s : State) (h : Nat) (g : Hart → Hart) : (s.modHart h g).gates = s.gates := setHart_gates ..
@[simp] theorem modHart_annals (s : State) (h : Nat) (g : Hart → Hart) : (s.modHart h g).annals = s.annals := setHart_annals ..
@[simp] theorem modHart_engines (s : State) (h : Nat) (g : Hart → Hart) : (s.modHart h g).engines = s.engines := setHart_engines ..
@[simp] theorem modHart_hps (s : State) (h : Nat) (g : Hart → Hart) : (s.modHart h g).hps = s.hps := setHart_hps ..
@[simp] theorem modHart_pf (s : State) (h : Nat) (g : Hart → Hart) : (s.modHart h g).pf = s.pf := setHart_pf ..
@[simp] theorem modHart_vfs (s : State) (h : Nat) (g : Hart → Hart) : (s.modHart h g).vfs = s.vfs := setHart_vfs ..
@[simp] theorem modHart_queues (s : State) (h : Nat) (g : Hart → Hart) : (s.modHart h g).queues = s.queues := setHart_queues ..
@[simp] theorem modHart_pw (s : State) (h : Nat) (g : Hart → Hart) : (s.modHart h g).pw = s.pw := setHart_pw ..
@[simp] theorem modHart_ledger (s : State) (h : Nat) (g : Hart → Hart) : (s.modHart h g).ledger = s.ledger := setHart_ledger ..
@[simp] theorem modHart_flash (s : State) (h : Nat) (g : Hart → Hart) : (s.modHart h g).flash = s.flash := setHart_flash ..
@[simp] theorem modHart_kpr (s : State) (h : Nat) (g : Hart → Hart) : (s.modHart h g).kpr = s.kpr := setHart_kpr ..
@[simp] theorem modHart_cur (s : State) (h : Nat) (g : Hart → Hart) : (s.modHart h g).cur = s.cur := setHart_cur ..
@[simp] theorem modHart_slips (s : State) (h : Nat) (g : Hart → Hart) : (s.modHart h g).slips = s.slips := setHart_slips ..
@[simp] theorem modHart_folio (s : State) (h : Nat) (g : Hart → Hart) : (s.modHart h g).folio = s.folio := setHart_folio ..
@[simp] theorem modHart_dm (s : State) (h : Nat) (g : Hart → Hart) : (s.modHart h g).dm = s.dm := setHart_dm ..
@[simp] theorem modHart_bootCount (s : State) (h : Nat) (g : Hart → Hart) : (s.modHart h g).bootCount = s.bootCount := setHart_bootCount ..

@[simp] theorem setCsr_pending (s : State) (h n : Nat) (v : Word) : (s.setCsr h n v).pending = s.pending := modHart_pending ..
@[simp] theorem setCsr_fresh (s : State) (h n : Nat) (v : Word) : (s.setCsr h n v).fresh = s.fresh := modHart_fresh ..
@[simp] theorem setCsr_fuses (s : State) (h n : Nat) (v : Word) : (s.setCsr h n v).fuses = s.fuses := modHart_fuses ..
@[simp] theorem setCsr_regs (s : State) (h n : Nat) (v : Word) : (s.setCsr h n v).regs = s.regs := modHart_regs ..
@[simp] theorem setCsr_cores (s : State) (h n : Nat) (v : Word) : (s.setCsr h n v).cores = s.cores := modHart_cores ..
@[simp] theorem setCsr_caches (s : State) (h n : Nat) (v : Word) : (s.setCsr h n v).caches = s.caches := modHart_caches ..
@[simp] theorem setCsr_dir (s : State) (h n : Nat) (v : Word) : (s.setCsr h n v).dir = s.dir := modHart_dir ..
@[simp] theorem setCsr_llc (s : State) (h n : Nat) (v : Word) : (s.setCsr h n v).llc = s.llc := modHart_llc ..
@[simp] theorem setCsr_slices (s : State) (h n : Nat) (v : Word) : (s.setCsr h n v).slices = s.slices := modHart_slices ..
@[simp] theorem setCsr_nis (s : State) (h n : Nat) (v : Word) : (s.setCsr h n v).nis = s.nis := modHart_nis ..
@[simp] theorem setCsr_outq (s : State) (h n : Nat) (v : Word) : (s.setCsr h n v).outq = s.outq := modHart_outq ..
@[simp] theorem setCsr_net (s : State) (h n : Nat) (v : Word) : (s.setCsr h n v).net = s.net := modHart_net ..
@[simp] theorem setCsr_reqs (s : State) (h n : Nat) (v : Word) : (s.setCsr h n v).reqs = s.reqs := modHart_reqs ..
@[simp] theorem setCsr_ioWrites (s : State) (h n : Nat) (v : Word) : (s.setCsr h n v).ioWrites = s.ioWrites := modHart_ioWrites ..
@[simp] theorem setCsr_works (s : State) (h n : Nat) (v : Word) : (s.setCsr h n v).works = s.works := modHart_works ..
@[simp] theorem setCsr_cursor (s : State) (h n : Nat) (v : Word) : (s.setCsr h n v).cursor = s.cursor := modHart_cursor ..
@[simp] theorem setCsr_fence (s : State) (h n : Nat) (v : Word) : (s.setCsr h n v).fence = s.fence := modHart_fence ..
@[simp] theorem setCsr_fenceSeq (s : State) (h n : Nat) (v : Word) : (s.setCsr h n v).fenceSeq = s.fenceSeq := modHart_fenceSeq ..
@[simp] theorem setCsr_flipTime (s : State) (h n : Nat) (v : Word) : (s.setCsr h n v).flipTime = s.flipTime := modHart_flipTime ..
@[simp] theorem setCsr_meterWids (s : State) (h n : Nat) (v : Word) : (s.setCsr h n v).meterWids = s.meterWids := modHart_meterWids ..
@[simp] theorem setCsr_broadcasts (s : State) (h n : Nat) (v : Word) : (s.setCsr h n v).broadcasts = s.broadcasts := modHart_broadcasts ..
@[simp] theorem setCsr_flushIssuers (s : State) (h n : Nat) (v : Word) : (s.setCsr h n v).flushIssuers = s.flushIssuers := modHart_flushIssuers ..
@[simp] theorem setCsr_flushWays (s : State) (h n : Nat) (v : Word) : (s.setCsr h n v).flushWays = s.flushWays := modHart_flushWays ..
@[simp] theorem setCsr_flushDirWays (s : State) (h n : Nat) (v : Word) : (s.setCsr h n v).flushDirWays = s.flushDirWays := modHart_flushDirWays ..
@[simp] theorem setCsr_mem (s : State) (h n : Nat) (v : Word) : (s.setCsr h n v).mem = s.mem := modHart_mem ..
@[simp] theorem setCsr_mps (s : State) (h n : Nat) (v : Word) : (s.setCsr h n v).mps = s.mps := modHart_mps ..
@[simp] theorem setCsr_deeds (s : State) (h n : Nat) (v : Word) : (s.setCsr h n v).deeds = s.deeds := modHart_deeds ..
@[simp] theorem setCsr_deedBad (s : State) (h n : Nat) (v : Word) : (s.setCsr h n v).deedBad = s.deedBad := modHart_deedBad ..
@[simp] theorem setCsr_deedCaches (s : State) (h n : Nat) (v : Word) : (s.setCsr h n v).deedCaches = s.deedCaches := modHart_deedCaches ..
@[simp] theorem setCsr_deedCmds (s : State) (h n : Nat) (v : Word) : (s.setCsr h n v).deedCmds = s.deedCmds := modHart_deedCmds ..
@[simp] theorem setCsr_deedTurn (s : State) (h n : Nat) (v : Word) : (s.setCsr h n v).deedTurn = s.deedTurn := modHart_deedTurn ..
@[simp] theorem setCsr_keyGens (s : State) (h n : Nat) (v : Word) : (s.setCsr h n v).keyGens = s.keyGens := modHart_keyGens ..
@[simp] theorem setCsr_keySerial (s : State) (h n : Nat) (v : Word) : (s.setCsr h n v).keySerial = s.keySerial := modHart_keySerial ..
@[simp] theorem setCsr_keyCmd (s : State) (h n : Nat) (v : Word) : (s.setCsr h n v).keyCmd = s.keyCmd := modHart_keyCmd ..
@[simp] theorem setCsr_bells (s : State) (h n : Nat) (v : Word) : (s.setCsr h n v).bells = s.bells := modHart_bells ..
@[simp] theorem setCsr_bellRet (s : State) (h n : Nat) (v : Word) : (s.setCsr h n v).bellRet = s.bellRet := modHart_bellRet ..
@[simp] theorem setCsr_aplic (s : State) (h n : Nat) (v : Word) : (s.setCsr h n v).aplic = s.aplic := modHart_aplic ..
@[simp] theorem setCsr_aplicDom (s : State) (h n : Nat) (v : Word) : (s.setCsr h n v).aplicDom = s.aplicDom := modHart_aplicDom ..
@[simp] theorem setCsr_pins (s : State) (h n : Nat) (v : Word) : (s.setCsr h n v).pins = s.pins := modHart_pins ..
@[simp] theorem setCsr_links (s : State) (h n : Nat) (v : Word) : (s.setCsr h n v).links = s.links := modHart_links ..
@[simp] theorem setCsr_gates (s : State) (h n : Nat) (v : Word) : (s.setCsr h n v).gates = s.gates := modHart_gates ..
@[simp] theorem setCsr_annals (s : State) (h n : Nat) (v : Word) : (s.setCsr h n v).annals = s.annals := modHart_annals ..
@[simp] theorem setCsr_engines (s : State) (h n : Nat) (v : Word) : (s.setCsr h n v).engines = s.engines := modHart_engines ..
@[simp] theorem setCsr_hps (s : State) (h n : Nat) (v : Word) : (s.setCsr h n v).hps = s.hps := modHart_hps ..
@[simp] theorem setCsr_pf (s : State) (h n : Nat) (v : Word) : (s.setCsr h n v).pf = s.pf := modHart_pf ..
@[simp] theorem setCsr_vfs (s : State) (h n : Nat) (v : Word) : (s.setCsr h n v).vfs = s.vfs := modHart_vfs ..
@[simp] theorem setCsr_queues (s : State) (h n : Nat) (v : Word) : (s.setCsr h n v).queues = s.queues := modHart_queues ..
@[simp] theorem setCsr_pw (s : State) (h n : Nat) (v : Word) : (s.setCsr h n v).pw = s.pw := modHart_pw ..
@[simp] theorem setCsr_ledger (s : State) (h n : Nat) (v : Word) : (s.setCsr h n v).ledger = s.ledger := modHart_ledger ..
@[simp] theorem setCsr_flash (s : State) (h n : Nat) (v : Word) : (s.setCsr h n v).flash = s.flash := modHart_flash ..
@[simp] theorem setCsr_kpr (s : State) (h n : Nat) (v : Word) : (s.setCsr h n v).kpr = s.kpr := modHart_kpr ..
@[simp] theorem setCsr_cur (s : State) (h n : Nat) (v : Word) : (s.setCsr h n v).cur = s.cur := modHart_cur ..
@[simp] theorem setCsr_slips (s : State) (h n : Nat) (v : Word) : (s.setCsr h n v).slips = s.slips := modHart_slips ..
@[simp] theorem setCsr_folio (s : State) (h n : Nat) (v : Word) : (s.setCsr h n v).folio = s.folio := modHart_folio ..
@[simp] theorem setCsr_dm (s : State) (h n : Nat) (v : Word) : (s.setCsr h n v).dm = s.dm := modHart_dm ..
@[simp] theorem setCsr_bootCount (s : State) (h n : Nat) (v : Word) : (s.setCsr h n v).bootCount = s.bootCount := modHart_bootCount ..

@[simp] theorem setCore_pending (s : State) (c : Nat) (x : Core) : (s.setCore c x).pending = s.pending := by unfold State.setCore; generalize s.cores.set _ _ _ = m; rfl
@[simp] theorem setCore_fresh (s : State) (c : Nat) (x : Core) : (s.setCore c x).fresh = s.fresh := by unfold State.setCore; generalize s.cores.set _ _ _ = m; rfl
@[simp] theorem setCore_fuses (s : State) (c : Nat) (x : Core) : (s.setCore c x).fuses = s.fuses := by unfold State.setCore; generalize s.cores.set _ _ _ = m; rfl
@[simp] theorem setCore_regs (s : State) (c : Nat) (x : Core) : (s.setCore c x).regs = s.regs := by unfold State.setCore; generalize s.cores.set _ _ _ = m; rfl
@[simp] theorem setCore_harts (s : State) (c : Nat) (x : Core) : (s.setCore c x).harts = s.harts := by unfold State.setCore; generalize s.cores.set _ _ _ = m; rfl
@[simp] theorem setCore_cores (s : State) (c : Nat) (x : Core) : (s.setCore c x).cores = s.cores.set {} c x := by unfold State.setCore; generalize s.cores.set _ _ _ = m; rfl
@[simp] theorem setCore_caches (s : State) (c : Nat) (x : Core) : (s.setCore c x).caches = s.caches := by unfold State.setCore; generalize s.cores.set _ _ _ = m; rfl
@[simp] theorem setCore_dir (s : State) (c : Nat) (x : Core) : (s.setCore c x).dir = s.dir := by unfold State.setCore; generalize s.cores.set _ _ _ = m; rfl
@[simp] theorem setCore_llc (s : State) (c : Nat) (x : Core) : (s.setCore c x).llc = s.llc := by unfold State.setCore; generalize s.cores.set _ _ _ = m; rfl
@[simp] theorem setCore_slices (s : State) (c : Nat) (x : Core) : (s.setCore c x).slices = s.slices := by unfold State.setCore; generalize s.cores.set _ _ _ = m; rfl
@[simp] theorem setCore_nis (s : State) (c : Nat) (x : Core) : (s.setCore c x).nis = s.nis := by unfold State.setCore; generalize s.cores.set _ _ _ = m; rfl
@[simp] theorem setCore_outq (s : State) (c : Nat) (x : Core) : (s.setCore c x).outq = s.outq := by unfold State.setCore; generalize s.cores.set _ _ _ = m; rfl
@[simp] theorem setCore_net (s : State) (c : Nat) (x : Core) : (s.setCore c x).net = s.net := by unfold State.setCore; generalize s.cores.set _ _ _ = m; rfl
@[simp] theorem setCore_reqs (s : State) (c : Nat) (x : Core) : (s.setCore c x).reqs = s.reqs := by unfold State.setCore; generalize s.cores.set _ _ _ = m; rfl
@[simp] theorem setCore_ioWrites (s : State) (c : Nat) (x : Core) : (s.setCore c x).ioWrites = s.ioWrites := by unfold State.setCore; generalize s.cores.set _ _ _ = m; rfl
@[simp] theorem setCore_works (s : State) (c : Nat) (x : Core) : (s.setCore c x).works = s.works := by unfold State.setCore; generalize s.cores.set _ _ _ = m; rfl
@[simp] theorem setCore_cursor (s : State) (c : Nat) (x : Core) : (s.setCore c x).cursor = s.cursor := by unfold State.setCore; generalize s.cores.set _ _ _ = m; rfl
@[simp] theorem setCore_fence (s : State) (c : Nat) (x : Core) : (s.setCore c x).fence = s.fence := by unfold State.setCore; generalize s.cores.set _ _ _ = m; rfl
@[simp] theorem setCore_fenceSeq (s : State) (c : Nat) (x : Core) : (s.setCore c x).fenceSeq = s.fenceSeq := by unfold State.setCore; generalize s.cores.set _ _ _ = m; rfl
@[simp] theorem setCore_flipTime (s : State) (c : Nat) (x : Core) : (s.setCore c x).flipTime = s.flipTime := by unfold State.setCore; generalize s.cores.set _ _ _ = m; rfl
@[simp] theorem setCore_meterWids (s : State) (c : Nat) (x : Core) : (s.setCore c x).meterWids = s.meterWids := by unfold State.setCore; generalize s.cores.set _ _ _ = m; rfl
@[simp] theorem setCore_broadcasts (s : State) (c : Nat) (x : Core) : (s.setCore c x).broadcasts = s.broadcasts := by unfold State.setCore; generalize s.cores.set _ _ _ = m; rfl
@[simp] theorem setCore_flushIssuers (s : State) (c : Nat) (x : Core) : (s.setCore c x).flushIssuers = s.flushIssuers := by unfold State.setCore; generalize s.cores.set _ _ _ = m; rfl
@[simp] theorem setCore_flushWays (s : State) (c : Nat) (x : Core) : (s.setCore c x).flushWays = s.flushWays := by unfold State.setCore; generalize s.cores.set _ _ _ = m; rfl
@[simp] theorem setCore_flushDirWays (s : State) (c : Nat) (x : Core) : (s.setCore c x).flushDirWays = s.flushDirWays := by unfold State.setCore; generalize s.cores.set _ _ _ = m; rfl
@[simp] theorem setCore_mem (s : State) (c : Nat) (x : Core) : (s.setCore c x).mem = s.mem := by unfold State.setCore; generalize s.cores.set _ _ _ = m; rfl
@[simp] theorem setCore_mps (s : State) (c : Nat) (x : Core) : (s.setCore c x).mps = s.mps := by unfold State.setCore; generalize s.cores.set _ _ _ = m; rfl
@[simp] theorem setCore_deeds (s : State) (c : Nat) (x : Core) : (s.setCore c x).deeds = s.deeds := by unfold State.setCore; generalize s.cores.set _ _ _ = m; rfl
@[simp] theorem setCore_deedBad (s : State) (c : Nat) (x : Core) : (s.setCore c x).deedBad = s.deedBad := by unfold State.setCore; generalize s.cores.set _ _ _ = m; rfl
@[simp] theorem setCore_deedCaches (s : State) (c : Nat) (x : Core) : (s.setCore c x).deedCaches = s.deedCaches := by unfold State.setCore; generalize s.cores.set _ _ _ = m; rfl
@[simp] theorem setCore_deedCmds (s : State) (c : Nat) (x : Core) : (s.setCore c x).deedCmds = s.deedCmds := by unfold State.setCore; generalize s.cores.set _ _ _ = m; rfl
@[simp] theorem setCore_deedTurn (s : State) (c : Nat) (x : Core) : (s.setCore c x).deedTurn = s.deedTurn := by unfold State.setCore; generalize s.cores.set _ _ _ = m; rfl
@[simp] theorem setCore_keyGens (s : State) (c : Nat) (x : Core) : (s.setCore c x).keyGens = s.keyGens := by unfold State.setCore; generalize s.cores.set _ _ _ = m; rfl
@[simp] theorem setCore_keySerial (s : State) (c : Nat) (x : Core) : (s.setCore c x).keySerial = s.keySerial := by unfold State.setCore; generalize s.cores.set _ _ _ = m; rfl
@[simp] theorem setCore_keyCmd (s : State) (c : Nat) (x : Core) : (s.setCore c x).keyCmd = s.keyCmd := by unfold State.setCore; generalize s.cores.set _ _ _ = m; rfl
@[simp] theorem setCore_bells (s : State) (c : Nat) (x : Core) : (s.setCore c x).bells = s.bells := by unfold State.setCore; generalize s.cores.set _ _ _ = m; rfl
@[simp] theorem setCore_bellRet (s : State) (c : Nat) (x : Core) : (s.setCore c x).bellRet = s.bellRet := by unfold State.setCore; generalize s.cores.set _ _ _ = m; rfl
@[simp] theorem setCore_aplic (s : State) (c : Nat) (x : Core) : (s.setCore c x).aplic = s.aplic := by unfold State.setCore; generalize s.cores.set _ _ _ = m; rfl
@[simp] theorem setCore_aplicDom (s : State) (c : Nat) (x : Core) : (s.setCore c x).aplicDom = s.aplicDom := by unfold State.setCore; generalize s.cores.set _ _ _ = m; rfl
@[simp] theorem setCore_pins (s : State) (c : Nat) (x : Core) : (s.setCore c x).pins = s.pins := by unfold State.setCore; generalize s.cores.set _ _ _ = m; rfl
@[simp] theorem setCore_links (s : State) (c : Nat) (x : Core) : (s.setCore c x).links = s.links := by unfold State.setCore; generalize s.cores.set _ _ _ = m; rfl
@[simp] theorem setCore_gates (s : State) (c : Nat) (x : Core) : (s.setCore c x).gates = s.gates := by unfold State.setCore; generalize s.cores.set _ _ _ = m; rfl
@[simp] theorem setCore_annals (s : State) (c : Nat) (x : Core) : (s.setCore c x).annals = s.annals := by unfold State.setCore; generalize s.cores.set _ _ _ = m; rfl
@[simp] theorem setCore_engines (s : State) (c : Nat) (x : Core) : (s.setCore c x).engines = s.engines := by unfold State.setCore; generalize s.cores.set _ _ _ = m; rfl
@[simp] theorem setCore_hps (s : State) (c : Nat) (x : Core) : (s.setCore c x).hps = s.hps := by unfold State.setCore; generalize s.cores.set _ _ _ = m; rfl
@[simp] theorem setCore_pf (s : State) (c : Nat) (x : Core) : (s.setCore c x).pf = s.pf := by unfold State.setCore; generalize s.cores.set _ _ _ = m; rfl
@[simp] theorem setCore_vfs (s : State) (c : Nat) (x : Core) : (s.setCore c x).vfs = s.vfs := by unfold State.setCore; generalize s.cores.set _ _ _ = m; rfl
@[simp] theorem setCore_queues (s : State) (c : Nat) (x : Core) : (s.setCore c x).queues = s.queues := by unfold State.setCore; generalize s.cores.set _ _ _ = m; rfl
@[simp] theorem setCore_pw (s : State) (c : Nat) (x : Core) : (s.setCore c x).pw = s.pw := by unfold State.setCore; generalize s.cores.set _ _ _ = m; rfl
@[simp] theorem setCore_ledger (s : State) (c : Nat) (x : Core) : (s.setCore c x).ledger = s.ledger := by unfold State.setCore; generalize s.cores.set _ _ _ = m; rfl
@[simp] theorem setCore_flash (s : State) (c : Nat) (x : Core) : (s.setCore c x).flash = s.flash := by unfold State.setCore; generalize s.cores.set _ _ _ = m; rfl
@[simp] theorem setCore_kpr (s : State) (c : Nat) (x : Core) : (s.setCore c x).kpr = s.kpr := by unfold State.setCore; generalize s.cores.set _ _ _ = m; rfl
@[simp] theorem setCore_cur (s : State) (c : Nat) (x : Core) : (s.setCore c x).cur = s.cur := by unfold State.setCore; generalize s.cores.set _ _ _ = m; rfl
@[simp] theorem setCore_slips (s : State) (c : Nat) (x : Core) : (s.setCore c x).slips = s.slips := by unfold State.setCore; generalize s.cores.set _ _ _ = m; rfl
@[simp] theorem setCore_folio (s : State) (c : Nat) (x : Core) : (s.setCore c x).folio = s.folio := by unfold State.setCore; generalize s.cores.set _ _ _ = m; rfl
@[simp] theorem setCore_dm (s : State) (c : Nat) (x : Core) : (s.setCore c x).dm = s.dm := by unfold State.setCore; generalize s.cores.set _ _ _ = m; rfl
@[simp] theorem setCore_bootCount (s : State) (c : Nat) (x : Core) : (s.setCore c x).bootCount = s.bootCount := by unfold State.setCore; generalize s.cores.set _ _ _ = m; rfl

@[simp] theorem modCore_pending (s : State) (c : Nat) (g : Core → Core) : (s.modCore c g).pending = s.pending := setCore_pending ..
@[simp] theorem modCore_fresh (s : State) (c : Nat) (g : Core → Core) : (s.modCore c g).fresh = s.fresh := setCore_fresh ..
@[simp] theorem modCore_fuses (s : State) (c : Nat) (g : Core → Core) : (s.modCore c g).fuses = s.fuses := setCore_fuses ..
@[simp] theorem modCore_regs (s : State) (c : Nat) (g : Core → Core) : (s.modCore c g).regs = s.regs := setCore_regs ..
@[simp] theorem modCore_harts (s : State) (c : Nat) (g : Core → Core) : (s.modCore c g).harts = s.harts := setCore_harts ..
@[simp] theorem modCore_cores (s : State) (c : Nat) (g : Core → Core) : (s.modCore c g).cores = s.cores.set {} c (g (s.core c)) := setCore_cores ..
@[simp] theorem modCore_caches (s : State) (c : Nat) (g : Core → Core) : (s.modCore c g).caches = s.caches := setCore_caches ..
@[simp] theorem modCore_dir (s : State) (c : Nat) (g : Core → Core) : (s.modCore c g).dir = s.dir := setCore_dir ..
@[simp] theorem modCore_llc (s : State) (c : Nat) (g : Core → Core) : (s.modCore c g).llc = s.llc := setCore_llc ..
@[simp] theorem modCore_slices (s : State) (c : Nat) (g : Core → Core) : (s.modCore c g).slices = s.slices := setCore_slices ..
@[simp] theorem modCore_nis (s : State) (c : Nat) (g : Core → Core) : (s.modCore c g).nis = s.nis := setCore_nis ..
@[simp] theorem modCore_outq (s : State) (c : Nat) (g : Core → Core) : (s.modCore c g).outq = s.outq := setCore_outq ..
@[simp] theorem modCore_net (s : State) (c : Nat) (g : Core → Core) : (s.modCore c g).net = s.net := setCore_net ..
@[simp] theorem modCore_reqs (s : State) (c : Nat) (g : Core → Core) : (s.modCore c g).reqs = s.reqs := setCore_reqs ..
@[simp] theorem modCore_ioWrites (s : State) (c : Nat) (g : Core → Core) : (s.modCore c g).ioWrites = s.ioWrites := setCore_ioWrites ..
@[simp] theorem modCore_works (s : State) (c : Nat) (g : Core → Core) : (s.modCore c g).works = s.works := setCore_works ..
@[simp] theorem modCore_cursor (s : State) (c : Nat) (g : Core → Core) : (s.modCore c g).cursor = s.cursor := setCore_cursor ..
@[simp] theorem modCore_fence (s : State) (c : Nat) (g : Core → Core) : (s.modCore c g).fence = s.fence := setCore_fence ..
@[simp] theorem modCore_fenceSeq (s : State) (c : Nat) (g : Core → Core) : (s.modCore c g).fenceSeq = s.fenceSeq := setCore_fenceSeq ..
@[simp] theorem modCore_flipTime (s : State) (c : Nat) (g : Core → Core) : (s.modCore c g).flipTime = s.flipTime := setCore_flipTime ..
@[simp] theorem modCore_meterWids (s : State) (c : Nat) (g : Core → Core) : (s.modCore c g).meterWids = s.meterWids := setCore_meterWids ..
@[simp] theorem modCore_broadcasts (s : State) (c : Nat) (g : Core → Core) : (s.modCore c g).broadcasts = s.broadcasts := setCore_broadcasts ..
@[simp] theorem modCore_flushIssuers (s : State) (c : Nat) (g : Core → Core) : (s.modCore c g).flushIssuers = s.flushIssuers := setCore_flushIssuers ..
@[simp] theorem modCore_flushWays (s : State) (c : Nat) (g : Core → Core) : (s.modCore c g).flushWays = s.flushWays := setCore_flushWays ..
@[simp] theorem modCore_flushDirWays (s : State) (c : Nat) (g : Core → Core) : (s.modCore c g).flushDirWays = s.flushDirWays := setCore_flushDirWays ..
@[simp] theorem modCore_mem (s : State) (c : Nat) (g : Core → Core) : (s.modCore c g).mem = s.mem := setCore_mem ..
@[simp] theorem modCore_mps (s : State) (c : Nat) (g : Core → Core) : (s.modCore c g).mps = s.mps := setCore_mps ..
@[simp] theorem modCore_deeds (s : State) (c : Nat) (g : Core → Core) : (s.modCore c g).deeds = s.deeds := setCore_deeds ..
@[simp] theorem modCore_deedBad (s : State) (c : Nat) (g : Core → Core) : (s.modCore c g).deedBad = s.deedBad := setCore_deedBad ..
@[simp] theorem modCore_deedCaches (s : State) (c : Nat) (g : Core → Core) : (s.modCore c g).deedCaches = s.deedCaches := setCore_deedCaches ..
@[simp] theorem modCore_deedCmds (s : State) (c : Nat) (g : Core → Core) : (s.modCore c g).deedCmds = s.deedCmds := setCore_deedCmds ..
@[simp] theorem modCore_deedTurn (s : State) (c : Nat) (g : Core → Core) : (s.modCore c g).deedTurn = s.deedTurn := setCore_deedTurn ..
@[simp] theorem modCore_keyGens (s : State) (c : Nat) (g : Core → Core) : (s.modCore c g).keyGens = s.keyGens := setCore_keyGens ..
@[simp] theorem modCore_keySerial (s : State) (c : Nat) (g : Core → Core) : (s.modCore c g).keySerial = s.keySerial := setCore_keySerial ..
@[simp] theorem modCore_keyCmd (s : State) (c : Nat) (g : Core → Core) : (s.modCore c g).keyCmd = s.keyCmd := setCore_keyCmd ..
@[simp] theorem modCore_bells (s : State) (c : Nat) (g : Core → Core) : (s.modCore c g).bells = s.bells := setCore_bells ..
@[simp] theorem modCore_bellRet (s : State) (c : Nat) (g : Core → Core) : (s.modCore c g).bellRet = s.bellRet := setCore_bellRet ..
@[simp] theorem modCore_aplic (s : State) (c : Nat) (g : Core → Core) : (s.modCore c g).aplic = s.aplic := setCore_aplic ..
@[simp] theorem modCore_aplicDom (s : State) (c : Nat) (g : Core → Core) : (s.modCore c g).aplicDom = s.aplicDom := setCore_aplicDom ..
@[simp] theorem modCore_pins (s : State) (c : Nat) (g : Core → Core) : (s.modCore c g).pins = s.pins := setCore_pins ..
@[simp] theorem modCore_links (s : State) (c : Nat) (g : Core → Core) : (s.modCore c g).links = s.links := setCore_links ..
@[simp] theorem modCore_gates (s : State) (c : Nat) (g : Core → Core) : (s.modCore c g).gates = s.gates := setCore_gates ..
@[simp] theorem modCore_annals (s : State) (c : Nat) (g : Core → Core) : (s.modCore c g).annals = s.annals := setCore_annals ..
@[simp] theorem modCore_engines (s : State) (c : Nat) (g : Core → Core) : (s.modCore c g).engines = s.engines := setCore_engines ..
@[simp] theorem modCore_hps (s : State) (c : Nat) (g : Core → Core) : (s.modCore c g).hps = s.hps := setCore_hps ..
@[simp] theorem modCore_pf (s : State) (c : Nat) (g : Core → Core) : (s.modCore c g).pf = s.pf := setCore_pf ..
@[simp] theorem modCore_vfs (s : State) (c : Nat) (g : Core → Core) : (s.modCore c g).vfs = s.vfs := setCore_vfs ..
@[simp] theorem modCore_queues (s : State) (c : Nat) (g : Core → Core) : (s.modCore c g).queues = s.queues := setCore_queues ..
@[simp] theorem modCore_pw (s : State) (c : Nat) (g : Core → Core) : (s.modCore c g).pw = s.pw := setCore_pw ..
@[simp] theorem modCore_ledger (s : State) (c : Nat) (g : Core → Core) : (s.modCore c g).ledger = s.ledger := setCore_ledger ..
@[simp] theorem modCore_flash (s : State) (c : Nat) (g : Core → Core) : (s.modCore c g).flash = s.flash := setCore_flash ..
@[simp] theorem modCore_kpr (s : State) (c : Nat) (g : Core → Core) : (s.modCore c g).kpr = s.kpr := setCore_kpr ..
@[simp] theorem modCore_cur (s : State) (c : Nat) (g : Core → Core) : (s.modCore c g).cur = s.cur := setCore_cur ..
@[simp] theorem modCore_slips (s : State) (c : Nat) (g : Core → Core) : (s.modCore c g).slips = s.slips := setCore_slips ..
@[simp] theorem modCore_folio (s : State) (c : Nat) (g : Core → Core) : (s.modCore c g).folio = s.folio := setCore_folio ..
@[simp] theorem modCore_dm (s : State) (c : Nat) (g : Core → Core) : (s.modCore c g).dm = s.dm := setCore_dm ..
@[simp] theorem modCore_bootCount (s : State) (c : Nat) (g : Core → Core) : (s.modCore c g).bootCount = s.bootCount := setCore_bootCount ..

@[simp] theorem setReq_pending (s : State) (st t : Nat) (q : Option Req) : (s.setReq st t q).pending = s.pending := by unfold State.setReq; generalize s.reqs.set _ _ _ = m; rfl
@[simp] theorem setReq_fresh (s : State) (st t : Nat) (q : Option Req) : (s.setReq st t q).fresh = s.fresh := by unfold State.setReq; generalize s.reqs.set _ _ _ = m; rfl
@[simp] theorem setReq_fuses (s : State) (st t : Nat) (q : Option Req) : (s.setReq st t q).fuses = s.fuses := by unfold State.setReq; generalize s.reqs.set _ _ _ = m; rfl
@[simp] theorem setReq_regs (s : State) (st t : Nat) (q : Option Req) : (s.setReq st t q).regs = s.regs := by unfold State.setReq; generalize s.reqs.set _ _ _ = m; rfl
@[simp] theorem setReq_harts (s : State) (st t : Nat) (q : Option Req) : (s.setReq st t q).harts = s.harts := by unfold State.setReq; generalize s.reqs.set _ _ _ = m; rfl
@[simp] theorem setReq_cores (s : State) (st t : Nat) (q : Option Req) : (s.setReq st t q).cores = s.cores := by unfold State.setReq; generalize s.reqs.set _ _ _ = m; rfl
@[simp] theorem setReq_caches (s : State) (st t : Nat) (q : Option Req) : (s.setReq st t q).caches = s.caches := by unfold State.setReq; generalize s.reqs.set _ _ _ = m; rfl
@[simp] theorem setReq_dir (s : State) (st t : Nat) (q : Option Req) : (s.setReq st t q).dir = s.dir := by unfold State.setReq; generalize s.reqs.set _ _ _ = m; rfl
@[simp] theorem setReq_llc (s : State) (st t : Nat) (q : Option Req) : (s.setReq st t q).llc = s.llc := by unfold State.setReq; generalize s.reqs.set _ _ _ = m; rfl
@[simp] theorem setReq_slices (s : State) (st t : Nat) (q : Option Req) : (s.setReq st t q).slices = s.slices := by unfold State.setReq; generalize s.reqs.set _ _ _ = m; rfl
@[simp] theorem setReq_nis (s : State) (st t : Nat) (q : Option Req) : (s.setReq st t q).nis = s.nis := by unfold State.setReq; generalize s.reqs.set _ _ _ = m; rfl
@[simp] theorem setReq_outq (s : State) (st t : Nat) (q : Option Req) : (s.setReq st t q).outq = s.outq := by unfold State.setReq; generalize s.reqs.set _ _ _ = m; rfl
@[simp] theorem setReq_net (s : State) (st t : Nat) (q : Option Req) : (s.setReq st t q).net = s.net := by unfold State.setReq; generalize s.reqs.set _ _ _ = m; rfl
@[simp] theorem setReq_reqs (s : State) (st t : Nat) (q : Option Req) : (s.setReq st t q).reqs = s.reqs.set none (st * 4096 + t) q := by unfold State.setReq; generalize s.reqs.set _ _ _ = m; rfl
@[simp] theorem setReq_ioWrites (s : State) (st t : Nat) (q : Option Req) : (s.setReq st t q).ioWrites = s.ioWrites := by unfold State.setReq; generalize s.reqs.set _ _ _ = m; rfl
@[simp] theorem setReq_works (s : State) (st t : Nat) (q : Option Req) : (s.setReq st t q).works = s.works := by unfold State.setReq; generalize s.reqs.set _ _ _ = m; rfl
@[simp] theorem setReq_cursor (s : State) (st t : Nat) (q : Option Req) : (s.setReq st t q).cursor = s.cursor := by unfold State.setReq; generalize s.reqs.set _ _ _ = m; rfl
@[simp] theorem setReq_fence (s : State) (st t : Nat) (q : Option Req) : (s.setReq st t q).fence = s.fence := by unfold State.setReq; generalize s.reqs.set _ _ _ = m; rfl
@[simp] theorem setReq_fenceSeq (s : State) (st t : Nat) (q : Option Req) : (s.setReq st t q).fenceSeq = s.fenceSeq := by unfold State.setReq; generalize s.reqs.set _ _ _ = m; rfl
@[simp] theorem setReq_flipTime (s : State) (st t : Nat) (q : Option Req) : (s.setReq st t q).flipTime = s.flipTime := by unfold State.setReq; generalize s.reqs.set _ _ _ = m; rfl
@[simp] theorem setReq_meterWids (s : State) (st t : Nat) (q : Option Req) : (s.setReq st t q).meterWids = s.meterWids := by unfold State.setReq; generalize s.reqs.set _ _ _ = m; rfl
@[simp] theorem setReq_broadcasts (s : State) (st t : Nat) (q : Option Req) : (s.setReq st t q).broadcasts = s.broadcasts := by unfold State.setReq; generalize s.reqs.set _ _ _ = m; rfl
@[simp] theorem setReq_flushIssuers (s : State) (st t : Nat) (q : Option Req) : (s.setReq st t q).flushIssuers = s.flushIssuers := by unfold State.setReq; generalize s.reqs.set _ _ _ = m; rfl
@[simp] theorem setReq_flushWays (s : State) (st t : Nat) (q : Option Req) : (s.setReq st t q).flushWays = s.flushWays := by unfold State.setReq; generalize s.reqs.set _ _ _ = m; rfl
@[simp] theorem setReq_flushDirWays (s : State) (st t : Nat) (q : Option Req) : (s.setReq st t q).flushDirWays = s.flushDirWays := by unfold State.setReq; generalize s.reqs.set _ _ _ = m; rfl
@[simp] theorem setReq_mem (s : State) (st t : Nat) (q : Option Req) : (s.setReq st t q).mem = s.mem := by unfold State.setReq; generalize s.reqs.set _ _ _ = m; rfl
@[simp] theorem setReq_mps (s : State) (st t : Nat) (q : Option Req) : (s.setReq st t q).mps = s.mps := by unfold State.setReq; generalize s.reqs.set _ _ _ = m; rfl
@[simp] theorem setReq_deeds (s : State) (st t : Nat) (q : Option Req) : (s.setReq st t q).deeds = s.deeds := by unfold State.setReq; generalize s.reqs.set _ _ _ = m; rfl
@[simp] theorem setReq_deedBad (s : State) (st t : Nat) (q : Option Req) : (s.setReq st t q).deedBad = s.deedBad := by unfold State.setReq; generalize s.reqs.set _ _ _ = m; rfl
@[simp] theorem setReq_deedCaches (s : State) (st t : Nat) (q : Option Req) : (s.setReq st t q).deedCaches = s.deedCaches := by unfold State.setReq; generalize s.reqs.set _ _ _ = m; rfl
@[simp] theorem setReq_deedCmds (s : State) (st t : Nat) (q : Option Req) : (s.setReq st t q).deedCmds = s.deedCmds := by unfold State.setReq; generalize s.reqs.set _ _ _ = m; rfl
@[simp] theorem setReq_deedTurn (s : State) (st t : Nat) (q : Option Req) : (s.setReq st t q).deedTurn = s.deedTurn := by unfold State.setReq; generalize s.reqs.set _ _ _ = m; rfl
@[simp] theorem setReq_keyGens (s : State) (st t : Nat) (q : Option Req) : (s.setReq st t q).keyGens = s.keyGens := by unfold State.setReq; generalize s.reqs.set _ _ _ = m; rfl
@[simp] theorem setReq_keySerial (s : State) (st t : Nat) (q : Option Req) : (s.setReq st t q).keySerial = s.keySerial := by unfold State.setReq; generalize s.reqs.set _ _ _ = m; rfl
@[simp] theorem setReq_keyCmd (s : State) (st t : Nat) (q : Option Req) : (s.setReq st t q).keyCmd = s.keyCmd := by unfold State.setReq; generalize s.reqs.set _ _ _ = m; rfl
@[simp] theorem setReq_bells (s : State) (st t : Nat) (q : Option Req) : (s.setReq st t q).bells = s.bells := by unfold State.setReq; generalize s.reqs.set _ _ _ = m; rfl
@[simp] theorem setReq_bellRet (s : State) (st t : Nat) (q : Option Req) : (s.setReq st t q).bellRet = s.bellRet := by unfold State.setReq; generalize s.reqs.set _ _ _ = m; rfl
@[simp] theorem setReq_aplic (s : State) (st t : Nat) (q : Option Req) : (s.setReq st t q).aplic = s.aplic := by unfold State.setReq; generalize s.reqs.set _ _ _ = m; rfl
@[simp] theorem setReq_aplicDom (s : State) (st t : Nat) (q : Option Req) : (s.setReq st t q).aplicDom = s.aplicDom := by unfold State.setReq; generalize s.reqs.set _ _ _ = m; rfl
@[simp] theorem setReq_pins (s : State) (st t : Nat) (q : Option Req) : (s.setReq st t q).pins = s.pins := by unfold State.setReq; generalize s.reqs.set _ _ _ = m; rfl
@[simp] theorem setReq_links (s : State) (st t : Nat) (q : Option Req) : (s.setReq st t q).links = s.links := by unfold State.setReq; generalize s.reqs.set _ _ _ = m; rfl
@[simp] theorem setReq_gates (s : State) (st t : Nat) (q : Option Req) : (s.setReq st t q).gates = s.gates := by unfold State.setReq; generalize s.reqs.set _ _ _ = m; rfl
@[simp] theorem setReq_annals (s : State) (st t : Nat) (q : Option Req) : (s.setReq st t q).annals = s.annals := by unfold State.setReq; generalize s.reqs.set _ _ _ = m; rfl
@[simp] theorem setReq_engines (s : State) (st t : Nat) (q : Option Req) : (s.setReq st t q).engines = s.engines := by unfold State.setReq; generalize s.reqs.set _ _ _ = m; rfl
@[simp] theorem setReq_hps (s : State) (st t : Nat) (q : Option Req) : (s.setReq st t q).hps = s.hps := by unfold State.setReq; generalize s.reqs.set _ _ _ = m; rfl
@[simp] theorem setReq_pf (s : State) (st t : Nat) (q : Option Req) : (s.setReq st t q).pf = s.pf := by unfold State.setReq; generalize s.reqs.set _ _ _ = m; rfl
@[simp] theorem setReq_vfs (s : State) (st t : Nat) (q : Option Req) : (s.setReq st t q).vfs = s.vfs := by unfold State.setReq; generalize s.reqs.set _ _ _ = m; rfl
@[simp] theorem setReq_queues (s : State) (st t : Nat) (q : Option Req) : (s.setReq st t q).queues = s.queues := by unfold State.setReq; generalize s.reqs.set _ _ _ = m; rfl
@[simp] theorem setReq_pw (s : State) (st t : Nat) (q : Option Req) : (s.setReq st t q).pw = s.pw := by unfold State.setReq; generalize s.reqs.set _ _ _ = m; rfl
@[simp] theorem setReq_ledger (s : State) (st t : Nat) (q : Option Req) : (s.setReq st t q).ledger = s.ledger := by unfold State.setReq; generalize s.reqs.set _ _ _ = m; rfl
@[simp] theorem setReq_flash (s : State) (st t : Nat) (q : Option Req) : (s.setReq st t q).flash = s.flash := by unfold State.setReq; generalize s.reqs.set _ _ _ = m; rfl
@[simp] theorem setReq_kpr (s : State) (st t : Nat) (q : Option Req) : (s.setReq st t q).kpr = s.kpr := by unfold State.setReq; generalize s.reqs.set _ _ _ = m; rfl
@[simp] theorem setReq_cur (s : State) (st t : Nat) (q : Option Req) : (s.setReq st t q).cur = s.cur := by unfold State.setReq; generalize s.reqs.set _ _ _ = m; rfl
@[simp] theorem setReq_slips (s : State) (st t : Nat) (q : Option Req) : (s.setReq st t q).slips = s.slips := by unfold State.setReq; generalize s.reqs.set _ _ _ = m; rfl
@[simp] theorem setReq_folio (s : State) (st t : Nat) (q : Option Req) : (s.setReq st t q).folio = s.folio := by unfold State.setReq; generalize s.reqs.set _ _ _ = m; rfl
@[simp] theorem setReq_dm (s : State) (st t : Nat) (q : Option Req) : (s.setReq st t q).dm = s.dm := by unfold State.setReq; generalize s.reqs.set _ _ _ = m; rfl
@[simp] theorem setReq_bootCount (s : State) (st t : Nat) (q : Option Req) : (s.setReq st t q).bootCount = s.bootCount := by unfold State.setReq; generalize s.reqs.set _ _ _ = m; rfl

@[simp] theorem send_pending (s : State) (p : Packet) : (s.send p).pending = s.pending := by unfold State.send; generalize s.outq ++ _ = m; rfl
@[simp] theorem send_fresh (s : State) (p : Packet) : (s.send p).fresh = s.fresh := by unfold State.send; generalize s.outq ++ _ = m; rfl
@[simp] theorem send_fuses (s : State) (p : Packet) : (s.send p).fuses = s.fuses := by unfold State.send; generalize s.outq ++ _ = m; rfl
@[simp] theorem send_regs (s : State) (p : Packet) : (s.send p).regs = s.regs := by unfold State.send; generalize s.outq ++ _ = m; rfl
@[simp] theorem send_harts (s : State) (p : Packet) : (s.send p).harts = s.harts := by unfold State.send; generalize s.outq ++ _ = m; rfl
@[simp] theorem send_cores (s : State) (p : Packet) : (s.send p).cores = s.cores := by unfold State.send; generalize s.outq ++ _ = m; rfl
@[simp] theorem send_caches (s : State) (p : Packet) : (s.send p).caches = s.caches := by unfold State.send; generalize s.outq ++ _ = m; rfl
@[simp] theorem send_dir (s : State) (p : Packet) : (s.send p).dir = s.dir := by unfold State.send; generalize s.outq ++ _ = m; rfl
@[simp] theorem send_llc (s : State) (p : Packet) : (s.send p).llc = s.llc := by unfold State.send; generalize s.outq ++ _ = m; rfl
@[simp] theorem send_slices (s : State) (p : Packet) : (s.send p).slices = s.slices := by unfold State.send; generalize s.outq ++ _ = m; rfl
@[simp] theorem send_nis (s : State) (p : Packet) : (s.send p).nis = s.nis := by unfold State.send; generalize s.outq ++ _ = m; rfl
@[simp] theorem send_outq (s : State) (p : Packet) : (s.send p).outq = s.outq ++ [p] := by unfold State.send; generalize s.outq ++ _ = m; rfl
@[simp] theorem send_net (s : State) (p : Packet) : (s.send p).net = s.net := by unfold State.send; generalize s.outq ++ _ = m; rfl
@[simp] theorem send_reqs (s : State) (p : Packet) : (s.send p).reqs = s.reqs := by unfold State.send; generalize s.outq ++ _ = m; rfl
@[simp] theorem send_ioWrites (s : State) (p : Packet) : (s.send p).ioWrites = s.ioWrites := by unfold State.send; generalize s.outq ++ _ = m; rfl
@[simp] theorem send_works (s : State) (p : Packet) : (s.send p).works = s.works := by unfold State.send; generalize s.outq ++ _ = m; rfl
@[simp] theorem send_cursor (s : State) (p : Packet) : (s.send p).cursor = s.cursor := by unfold State.send; generalize s.outq ++ _ = m; rfl
@[simp] theorem send_fence (s : State) (p : Packet) : (s.send p).fence = s.fence := by unfold State.send; generalize s.outq ++ _ = m; rfl
@[simp] theorem send_fenceSeq (s : State) (p : Packet) : (s.send p).fenceSeq = s.fenceSeq := by unfold State.send; generalize s.outq ++ _ = m; rfl
@[simp] theorem send_flipTime (s : State) (p : Packet) : (s.send p).flipTime = s.flipTime := by unfold State.send; generalize s.outq ++ _ = m; rfl
@[simp] theorem send_meterWids (s : State) (p : Packet) : (s.send p).meterWids = s.meterWids := by unfold State.send; generalize s.outq ++ _ = m; rfl
@[simp] theorem send_broadcasts (s : State) (p : Packet) : (s.send p).broadcasts = s.broadcasts := by unfold State.send; generalize s.outq ++ _ = m; rfl
@[simp] theorem send_flushIssuers (s : State) (p : Packet) : (s.send p).flushIssuers = s.flushIssuers := by unfold State.send; generalize s.outq ++ _ = m; rfl
@[simp] theorem send_flushWays (s : State) (p : Packet) : (s.send p).flushWays = s.flushWays := by unfold State.send; generalize s.outq ++ _ = m; rfl
@[simp] theorem send_flushDirWays (s : State) (p : Packet) : (s.send p).flushDirWays = s.flushDirWays := by unfold State.send; generalize s.outq ++ _ = m; rfl
@[simp] theorem send_mem (s : State) (p : Packet) : (s.send p).mem = s.mem := by unfold State.send; generalize s.outq ++ _ = m; rfl
@[simp] theorem send_mps (s : State) (p : Packet) : (s.send p).mps = s.mps := by unfold State.send; generalize s.outq ++ _ = m; rfl
@[simp] theorem send_deeds (s : State) (p : Packet) : (s.send p).deeds = s.deeds := by unfold State.send; generalize s.outq ++ _ = m; rfl
@[simp] theorem send_deedBad (s : State) (p : Packet) : (s.send p).deedBad = s.deedBad := by unfold State.send; generalize s.outq ++ _ = m; rfl
@[simp] theorem send_deedCaches (s : State) (p : Packet) : (s.send p).deedCaches = s.deedCaches := by unfold State.send; generalize s.outq ++ _ = m; rfl
@[simp] theorem send_deedCmds (s : State) (p : Packet) : (s.send p).deedCmds = s.deedCmds := by unfold State.send; generalize s.outq ++ _ = m; rfl
@[simp] theorem send_deedTurn (s : State) (p : Packet) : (s.send p).deedTurn = s.deedTurn := by unfold State.send; generalize s.outq ++ _ = m; rfl
@[simp] theorem send_keyGens (s : State) (p : Packet) : (s.send p).keyGens = s.keyGens := by unfold State.send; generalize s.outq ++ _ = m; rfl
@[simp] theorem send_keySerial (s : State) (p : Packet) : (s.send p).keySerial = s.keySerial := by unfold State.send; generalize s.outq ++ _ = m; rfl
@[simp] theorem send_keyCmd (s : State) (p : Packet) : (s.send p).keyCmd = s.keyCmd := by unfold State.send; generalize s.outq ++ _ = m; rfl
@[simp] theorem send_bells (s : State) (p : Packet) : (s.send p).bells = s.bells := by unfold State.send; generalize s.outq ++ _ = m; rfl
@[simp] theorem send_bellRet (s : State) (p : Packet) : (s.send p).bellRet = s.bellRet := by unfold State.send; generalize s.outq ++ _ = m; rfl
@[simp] theorem send_aplic (s : State) (p : Packet) : (s.send p).aplic = s.aplic := by unfold State.send; generalize s.outq ++ _ = m; rfl
@[simp] theorem send_aplicDom (s : State) (p : Packet) : (s.send p).aplicDom = s.aplicDom := by unfold State.send; generalize s.outq ++ _ = m; rfl
@[simp] theorem send_pins (s : State) (p : Packet) : (s.send p).pins = s.pins := by unfold State.send; generalize s.outq ++ _ = m; rfl
@[simp] theorem send_links (s : State) (p : Packet) : (s.send p).links = s.links := by unfold State.send; generalize s.outq ++ _ = m; rfl
@[simp] theorem send_gates (s : State) (p : Packet) : (s.send p).gates = s.gates := by unfold State.send; generalize s.outq ++ _ = m; rfl
@[simp] theorem send_annals (s : State) (p : Packet) : (s.send p).annals = s.annals := by unfold State.send; generalize s.outq ++ _ = m; rfl
@[simp] theorem send_engines (s : State) (p : Packet) : (s.send p).engines = s.engines := by unfold State.send; generalize s.outq ++ _ = m; rfl
@[simp] theorem send_hps (s : State) (p : Packet) : (s.send p).hps = s.hps := by unfold State.send; generalize s.outq ++ _ = m; rfl
@[simp] theorem send_pf (s : State) (p : Packet) : (s.send p).pf = s.pf := by unfold State.send; generalize s.outq ++ _ = m; rfl
@[simp] theorem send_vfs (s : State) (p : Packet) : (s.send p).vfs = s.vfs := by unfold State.send; generalize s.outq ++ _ = m; rfl
@[simp] theorem send_queues (s : State) (p : Packet) : (s.send p).queues = s.queues := by unfold State.send; generalize s.outq ++ _ = m; rfl
@[simp] theorem send_pw (s : State) (p : Packet) : (s.send p).pw = s.pw := by unfold State.send; generalize s.outq ++ _ = m; rfl
@[simp] theorem send_ledger (s : State) (p : Packet) : (s.send p).ledger = s.ledger := by unfold State.send; generalize s.outq ++ _ = m; rfl
@[simp] theorem send_flash (s : State) (p : Packet) : (s.send p).flash = s.flash := by unfold State.send; generalize s.outq ++ _ = m; rfl
@[simp] theorem send_kpr (s : State) (p : Packet) : (s.send p).kpr = s.kpr := by unfold State.send; generalize s.outq ++ _ = m; rfl
@[simp] theorem send_cur (s : State) (p : Packet) : (s.send p).cur = s.cur := by unfold State.send; generalize s.outq ++ _ = m; rfl
@[simp] theorem send_slips (s : State) (p : Packet) : (s.send p).slips = s.slips := by unfold State.send; generalize s.outq ++ _ = m; rfl
@[simp] theorem send_folio (s : State) (p : Packet) : (s.send p).folio = s.folio := by unfold State.send; generalize s.outq ++ _ = m; rfl
@[simp] theorem send_dm (s : State) (p : Packet) : (s.send p).dm = s.dm := by unfold State.send; generalize s.outq ++ _ = m; rfl
@[simp] theorem send_bootCount (s : State) (p : Packet) : (s.send p).bootCount = s.bootCount := by unfold State.send; generalize s.outq ++ _ = m; rfl

@[simp] theorem setNi_pending (s : State) (st : Nat) (x : Ni) : (s.setNi st x).pending = s.pending := by unfold State.setNi; generalize s.nis.set _ _ _ = m; rfl
@[simp] theorem setNi_fresh (s : State) (st : Nat) (x : Ni) : (s.setNi st x).fresh = s.fresh := by unfold State.setNi; generalize s.nis.set _ _ _ = m; rfl
@[simp] theorem setNi_fuses (s : State) (st : Nat) (x : Ni) : (s.setNi st x).fuses = s.fuses := by unfold State.setNi; generalize s.nis.set _ _ _ = m; rfl
@[simp] theorem setNi_regs (s : State) (st : Nat) (x : Ni) : (s.setNi st x).regs = s.regs := by unfold State.setNi; generalize s.nis.set _ _ _ = m; rfl
@[simp] theorem setNi_harts (s : State) (st : Nat) (x : Ni) : (s.setNi st x).harts = s.harts := by unfold State.setNi; generalize s.nis.set _ _ _ = m; rfl
@[simp] theorem setNi_cores (s : State) (st : Nat) (x : Ni) : (s.setNi st x).cores = s.cores := by unfold State.setNi; generalize s.nis.set _ _ _ = m; rfl
@[simp] theorem setNi_caches (s : State) (st : Nat) (x : Ni) : (s.setNi st x).caches = s.caches := by unfold State.setNi; generalize s.nis.set _ _ _ = m; rfl
@[simp] theorem setNi_dir (s : State) (st : Nat) (x : Ni) : (s.setNi st x).dir = s.dir := by unfold State.setNi; generalize s.nis.set _ _ _ = m; rfl
@[simp] theorem setNi_llc (s : State) (st : Nat) (x : Ni) : (s.setNi st x).llc = s.llc := by unfold State.setNi; generalize s.nis.set _ _ _ = m; rfl
@[simp] theorem setNi_slices (s : State) (st : Nat) (x : Ni) : (s.setNi st x).slices = s.slices := by unfold State.setNi; generalize s.nis.set _ _ _ = m; rfl
@[simp] theorem setNi_nis (s : State) (st : Nat) (x : Ni) : (s.setNi st x).nis = s.nis.set {} st x := by unfold State.setNi; generalize s.nis.set _ _ _ = m; rfl
@[simp] theorem setNi_outq (s : State) (st : Nat) (x : Ni) : (s.setNi st x).outq = s.outq := by unfold State.setNi; generalize s.nis.set _ _ _ = m; rfl
@[simp] theorem setNi_net (s : State) (st : Nat) (x : Ni) : (s.setNi st x).net = s.net := by unfold State.setNi; generalize s.nis.set _ _ _ = m; rfl
@[simp] theorem setNi_reqs (s : State) (st : Nat) (x : Ni) : (s.setNi st x).reqs = s.reqs := by unfold State.setNi; generalize s.nis.set _ _ _ = m; rfl
@[simp] theorem setNi_ioWrites (s : State) (st : Nat) (x : Ni) : (s.setNi st x).ioWrites = s.ioWrites := by unfold State.setNi; generalize s.nis.set _ _ _ = m; rfl
@[simp] theorem setNi_works (s : State) (st : Nat) (x : Ni) : (s.setNi st x).works = s.works := by unfold State.setNi; generalize s.nis.set _ _ _ = m; rfl
@[simp] theorem setNi_cursor (s : State) (st : Nat) (x : Ni) : (s.setNi st x).cursor = s.cursor := by unfold State.setNi; generalize s.nis.set _ _ _ = m; rfl
@[simp] theorem setNi_fence (s : State) (st : Nat) (x : Ni) : (s.setNi st x).fence = s.fence := by unfold State.setNi; generalize s.nis.set _ _ _ = m; rfl
@[simp] theorem setNi_fenceSeq (s : State) (st : Nat) (x : Ni) : (s.setNi st x).fenceSeq = s.fenceSeq := by unfold State.setNi; generalize s.nis.set _ _ _ = m; rfl
@[simp] theorem setNi_flipTime (s : State) (st : Nat) (x : Ni) : (s.setNi st x).flipTime = s.flipTime := by unfold State.setNi; generalize s.nis.set _ _ _ = m; rfl
@[simp] theorem setNi_meterWids (s : State) (st : Nat) (x : Ni) : (s.setNi st x).meterWids = s.meterWids := by unfold State.setNi; generalize s.nis.set _ _ _ = m; rfl
@[simp] theorem setNi_broadcasts (s : State) (st : Nat) (x : Ni) : (s.setNi st x).broadcasts = s.broadcasts := by unfold State.setNi; generalize s.nis.set _ _ _ = m; rfl
@[simp] theorem setNi_flushIssuers (s : State) (st : Nat) (x : Ni) : (s.setNi st x).flushIssuers = s.flushIssuers := by unfold State.setNi; generalize s.nis.set _ _ _ = m; rfl
@[simp] theorem setNi_flushWays (s : State) (st : Nat) (x : Ni) : (s.setNi st x).flushWays = s.flushWays := by unfold State.setNi; generalize s.nis.set _ _ _ = m; rfl
@[simp] theorem setNi_flushDirWays (s : State) (st : Nat) (x : Ni) : (s.setNi st x).flushDirWays = s.flushDirWays := by unfold State.setNi; generalize s.nis.set _ _ _ = m; rfl
@[simp] theorem setNi_mem (s : State) (st : Nat) (x : Ni) : (s.setNi st x).mem = s.mem := by unfold State.setNi; generalize s.nis.set _ _ _ = m; rfl
@[simp] theorem setNi_mps (s : State) (st : Nat) (x : Ni) : (s.setNi st x).mps = s.mps := by unfold State.setNi; generalize s.nis.set _ _ _ = m; rfl
@[simp] theorem setNi_deeds (s : State) (st : Nat) (x : Ni) : (s.setNi st x).deeds = s.deeds := by unfold State.setNi; generalize s.nis.set _ _ _ = m; rfl
@[simp] theorem setNi_deedBad (s : State) (st : Nat) (x : Ni) : (s.setNi st x).deedBad = s.deedBad := by unfold State.setNi; generalize s.nis.set _ _ _ = m; rfl
@[simp] theorem setNi_deedCaches (s : State) (st : Nat) (x : Ni) : (s.setNi st x).deedCaches = s.deedCaches := by unfold State.setNi; generalize s.nis.set _ _ _ = m; rfl
@[simp] theorem setNi_deedCmds (s : State) (st : Nat) (x : Ni) : (s.setNi st x).deedCmds = s.deedCmds := by unfold State.setNi; generalize s.nis.set _ _ _ = m; rfl
@[simp] theorem setNi_deedTurn (s : State) (st : Nat) (x : Ni) : (s.setNi st x).deedTurn = s.deedTurn := by unfold State.setNi; generalize s.nis.set _ _ _ = m; rfl
@[simp] theorem setNi_keyGens (s : State) (st : Nat) (x : Ni) : (s.setNi st x).keyGens = s.keyGens := by unfold State.setNi; generalize s.nis.set _ _ _ = m; rfl
@[simp] theorem setNi_keySerial (s : State) (st : Nat) (x : Ni) : (s.setNi st x).keySerial = s.keySerial := by unfold State.setNi; generalize s.nis.set _ _ _ = m; rfl
@[simp] theorem setNi_keyCmd (s : State) (st : Nat) (x : Ni) : (s.setNi st x).keyCmd = s.keyCmd := by unfold State.setNi; generalize s.nis.set _ _ _ = m; rfl
@[simp] theorem setNi_bells (s : State) (st : Nat) (x : Ni) : (s.setNi st x).bells = s.bells := by unfold State.setNi; generalize s.nis.set _ _ _ = m; rfl
@[simp] theorem setNi_bellRet (s : State) (st : Nat) (x : Ni) : (s.setNi st x).bellRet = s.bellRet := by unfold State.setNi; generalize s.nis.set _ _ _ = m; rfl
@[simp] theorem setNi_aplic (s : State) (st : Nat) (x : Ni) : (s.setNi st x).aplic = s.aplic := by unfold State.setNi; generalize s.nis.set _ _ _ = m; rfl
@[simp] theorem setNi_aplicDom (s : State) (st : Nat) (x : Ni) : (s.setNi st x).aplicDom = s.aplicDom := by unfold State.setNi; generalize s.nis.set _ _ _ = m; rfl
@[simp] theorem setNi_pins (s : State) (st : Nat) (x : Ni) : (s.setNi st x).pins = s.pins := by unfold State.setNi; generalize s.nis.set _ _ _ = m; rfl
@[simp] theorem setNi_links (s : State) (st : Nat) (x : Ni) : (s.setNi st x).links = s.links := by unfold State.setNi; generalize s.nis.set _ _ _ = m; rfl
@[simp] theorem setNi_gates (s : State) (st : Nat) (x : Ni) : (s.setNi st x).gates = s.gates := by unfold State.setNi; generalize s.nis.set _ _ _ = m; rfl
@[simp] theorem setNi_annals (s : State) (st : Nat) (x : Ni) : (s.setNi st x).annals = s.annals := by unfold State.setNi; generalize s.nis.set _ _ _ = m; rfl
@[simp] theorem setNi_engines (s : State) (st : Nat) (x : Ni) : (s.setNi st x).engines = s.engines := by unfold State.setNi; generalize s.nis.set _ _ _ = m; rfl
@[simp] theorem setNi_hps (s : State) (st : Nat) (x : Ni) : (s.setNi st x).hps = s.hps := by unfold State.setNi; generalize s.nis.set _ _ _ = m; rfl
@[simp] theorem setNi_pf (s : State) (st : Nat) (x : Ni) : (s.setNi st x).pf = s.pf := by unfold State.setNi; generalize s.nis.set _ _ _ = m; rfl
@[simp] theorem setNi_vfs (s : State) (st : Nat) (x : Ni) : (s.setNi st x).vfs = s.vfs := by unfold State.setNi; generalize s.nis.set _ _ _ = m; rfl
@[simp] theorem setNi_queues (s : State) (st : Nat) (x : Ni) : (s.setNi st x).queues = s.queues := by unfold State.setNi; generalize s.nis.set _ _ _ = m; rfl
@[simp] theorem setNi_pw (s : State) (st : Nat) (x : Ni) : (s.setNi st x).pw = s.pw := by unfold State.setNi; generalize s.nis.set _ _ _ = m; rfl
@[simp] theorem setNi_ledger (s : State) (st : Nat) (x : Ni) : (s.setNi st x).ledger = s.ledger := by unfold State.setNi; generalize s.nis.set _ _ _ = m; rfl
@[simp] theorem setNi_flash (s : State) (st : Nat) (x : Ni) : (s.setNi st x).flash = s.flash := by unfold State.setNi; generalize s.nis.set _ _ _ = m; rfl
@[simp] theorem setNi_kpr (s : State) (st : Nat) (x : Ni) : (s.setNi st x).kpr = s.kpr := by unfold State.setNi; generalize s.nis.set _ _ _ = m; rfl
@[simp] theorem setNi_cur (s : State) (st : Nat) (x : Ni) : (s.setNi st x).cur = s.cur := by unfold State.setNi; generalize s.nis.set _ _ _ = m; rfl
@[simp] theorem setNi_slips (s : State) (st : Nat) (x : Ni) : (s.setNi st x).slips = s.slips := by unfold State.setNi; generalize s.nis.set _ _ _ = m; rfl
@[simp] theorem setNi_folio (s : State) (st : Nat) (x : Ni) : (s.setNi st x).folio = s.folio := by unfold State.setNi; generalize s.nis.set _ _ _ = m; rfl
@[simp] theorem setNi_dm (s : State) (st : Nat) (x : Ni) : (s.setNi st x).dm = s.dm := by unfold State.setNi; generalize s.nis.set _ _ _ = m; rfl
@[simp] theorem setNi_bootCount (s : State) (st : Nat) (x : Ni) : (s.setNi st x).bootCount = s.bootCount := by unfold State.setNi; generalize s.nis.set _ _ _ = m; rfl

@[simp] theorem modNi_pending (s : State) (st : Nat) (g : Ni → Ni) : (s.modNi st g).pending = s.pending := setNi_pending ..
@[simp] theorem modNi_fresh (s : State) (st : Nat) (g : Ni → Ni) : (s.modNi st g).fresh = s.fresh := setNi_fresh ..
@[simp] theorem modNi_fuses (s : State) (st : Nat) (g : Ni → Ni) : (s.modNi st g).fuses = s.fuses := setNi_fuses ..
@[simp] theorem modNi_regs (s : State) (st : Nat) (g : Ni → Ni) : (s.modNi st g).regs = s.regs := setNi_regs ..
@[simp] theorem modNi_harts (s : State) (st : Nat) (g : Ni → Ni) : (s.modNi st g).harts = s.harts := setNi_harts ..
@[simp] theorem modNi_cores (s : State) (st : Nat) (g : Ni → Ni) : (s.modNi st g).cores = s.cores := setNi_cores ..
@[simp] theorem modNi_caches (s : State) (st : Nat) (g : Ni → Ni) : (s.modNi st g).caches = s.caches := setNi_caches ..
@[simp] theorem modNi_dir (s : State) (st : Nat) (g : Ni → Ni) : (s.modNi st g).dir = s.dir := setNi_dir ..
@[simp] theorem modNi_llc (s : State) (st : Nat) (g : Ni → Ni) : (s.modNi st g).llc = s.llc := setNi_llc ..
@[simp] theorem modNi_slices (s : State) (st : Nat) (g : Ni → Ni) : (s.modNi st g).slices = s.slices := setNi_slices ..
@[simp] theorem modNi_nis (s : State) (st : Nat) (g : Ni → Ni) : (s.modNi st g).nis = s.nis.set {} st (g (s.ni st)) := setNi_nis ..
@[simp] theorem modNi_outq (s : State) (st : Nat) (g : Ni → Ni) : (s.modNi st g).outq = s.outq := setNi_outq ..
@[simp] theorem modNi_net (s : State) (st : Nat) (g : Ni → Ni) : (s.modNi st g).net = s.net := setNi_net ..
@[simp] theorem modNi_reqs (s : State) (st : Nat) (g : Ni → Ni) : (s.modNi st g).reqs = s.reqs := setNi_reqs ..
@[simp] theorem modNi_ioWrites (s : State) (st : Nat) (g : Ni → Ni) : (s.modNi st g).ioWrites = s.ioWrites := setNi_ioWrites ..
@[simp] theorem modNi_works (s : State) (st : Nat) (g : Ni → Ni) : (s.modNi st g).works = s.works := setNi_works ..
@[simp] theorem modNi_cursor (s : State) (st : Nat) (g : Ni → Ni) : (s.modNi st g).cursor = s.cursor := setNi_cursor ..
@[simp] theorem modNi_fence (s : State) (st : Nat) (g : Ni → Ni) : (s.modNi st g).fence = s.fence := setNi_fence ..
@[simp] theorem modNi_fenceSeq (s : State) (st : Nat) (g : Ni → Ni) : (s.modNi st g).fenceSeq = s.fenceSeq := setNi_fenceSeq ..
@[simp] theorem modNi_flipTime (s : State) (st : Nat) (g : Ni → Ni) : (s.modNi st g).flipTime = s.flipTime := setNi_flipTime ..
@[simp] theorem modNi_meterWids (s : State) (st : Nat) (g : Ni → Ni) : (s.modNi st g).meterWids = s.meterWids := setNi_meterWids ..
@[simp] theorem modNi_broadcasts (s : State) (st : Nat) (g : Ni → Ni) : (s.modNi st g).broadcasts = s.broadcasts := setNi_broadcasts ..
@[simp] theorem modNi_flushIssuers (s : State) (st : Nat) (g : Ni → Ni) : (s.modNi st g).flushIssuers = s.flushIssuers := setNi_flushIssuers ..
@[simp] theorem modNi_flushWays (s : State) (st : Nat) (g : Ni → Ni) : (s.modNi st g).flushWays = s.flushWays := setNi_flushWays ..
@[simp] theorem modNi_flushDirWays (s : State) (st : Nat) (g : Ni → Ni) : (s.modNi st g).flushDirWays = s.flushDirWays := setNi_flushDirWays ..
@[simp] theorem modNi_mem (s : State) (st : Nat) (g : Ni → Ni) : (s.modNi st g).mem = s.mem := setNi_mem ..
@[simp] theorem modNi_mps (s : State) (st : Nat) (g : Ni → Ni) : (s.modNi st g).mps = s.mps := setNi_mps ..
@[simp] theorem modNi_deeds (s : State) (st : Nat) (g : Ni → Ni) : (s.modNi st g).deeds = s.deeds := setNi_deeds ..
@[simp] theorem modNi_deedBad (s : State) (st : Nat) (g : Ni → Ni) : (s.modNi st g).deedBad = s.deedBad := setNi_deedBad ..
@[simp] theorem modNi_deedCaches (s : State) (st : Nat) (g : Ni → Ni) : (s.modNi st g).deedCaches = s.deedCaches := setNi_deedCaches ..
@[simp] theorem modNi_deedCmds (s : State) (st : Nat) (g : Ni → Ni) : (s.modNi st g).deedCmds = s.deedCmds := setNi_deedCmds ..
@[simp] theorem modNi_deedTurn (s : State) (st : Nat) (g : Ni → Ni) : (s.modNi st g).deedTurn = s.deedTurn := setNi_deedTurn ..
@[simp] theorem modNi_keyGens (s : State) (st : Nat) (g : Ni → Ni) : (s.modNi st g).keyGens = s.keyGens := setNi_keyGens ..
@[simp] theorem modNi_keySerial (s : State) (st : Nat) (g : Ni → Ni) : (s.modNi st g).keySerial = s.keySerial := setNi_keySerial ..
@[simp] theorem modNi_keyCmd (s : State) (st : Nat) (g : Ni → Ni) : (s.modNi st g).keyCmd = s.keyCmd := setNi_keyCmd ..
@[simp] theorem modNi_bells (s : State) (st : Nat) (g : Ni → Ni) : (s.modNi st g).bells = s.bells := setNi_bells ..
@[simp] theorem modNi_bellRet (s : State) (st : Nat) (g : Ni → Ni) : (s.modNi st g).bellRet = s.bellRet := setNi_bellRet ..
@[simp] theorem modNi_aplic (s : State) (st : Nat) (g : Ni → Ni) : (s.modNi st g).aplic = s.aplic := setNi_aplic ..
@[simp] theorem modNi_aplicDom (s : State) (st : Nat) (g : Ni → Ni) : (s.modNi st g).aplicDom = s.aplicDom := setNi_aplicDom ..
@[simp] theorem modNi_pins (s : State) (st : Nat) (g : Ni → Ni) : (s.modNi st g).pins = s.pins := setNi_pins ..
@[simp] theorem modNi_links (s : State) (st : Nat) (g : Ni → Ni) : (s.modNi st g).links = s.links := setNi_links ..
@[simp] theorem modNi_gates (s : State) (st : Nat) (g : Ni → Ni) : (s.modNi st g).gates = s.gates := setNi_gates ..
@[simp] theorem modNi_annals (s : State) (st : Nat) (g : Ni → Ni) : (s.modNi st g).annals = s.annals := setNi_annals ..
@[simp] theorem modNi_engines (s : State) (st : Nat) (g : Ni → Ni) : (s.modNi st g).engines = s.engines := setNi_engines ..
@[simp] theorem modNi_hps (s : State) (st : Nat) (g : Ni → Ni) : (s.modNi st g).hps = s.hps := setNi_hps ..
@[simp] theorem modNi_pf (s : State) (st : Nat) (g : Ni → Ni) : (s.modNi st g).pf = s.pf := setNi_pf ..
@[simp] theorem modNi_vfs (s : State) (st : Nat) (g : Ni → Ni) : (s.modNi st g).vfs = s.vfs := setNi_vfs ..
@[simp] theorem modNi_queues (s : State) (st : Nat) (g : Ni → Ni) : (s.modNi st g).queues = s.queues := setNi_queues ..
@[simp] theorem modNi_pw (s : State) (st : Nat) (g : Ni → Ni) : (s.modNi st g).pw = s.pw := setNi_pw ..
@[simp] theorem modNi_ledger (s : State) (st : Nat) (g : Ni → Ni) : (s.modNi st g).ledger = s.ledger := setNi_ledger ..
@[simp] theorem modNi_flash (s : State) (st : Nat) (g : Ni → Ni) : (s.modNi st g).flash = s.flash := setNi_flash ..
@[simp] theorem modNi_kpr (s : State) (st : Nat) (g : Ni → Ni) : (s.modNi st g).kpr = s.kpr := setNi_kpr ..
@[simp] theorem modNi_cur (s : State) (st : Nat) (g : Ni → Ni) : (s.modNi st g).cur = s.cur := setNi_cur ..
@[simp] theorem modNi_slips (s : State) (st : Nat) (g : Ni → Ni) : (s.modNi st g).slips = s.slips := setNi_slips ..
@[simp] theorem modNi_folio (s : State) (st : Nat) (g : Ni → Ni) : (s.modNi st g).folio = s.folio := setNi_folio ..
@[simp] theorem modNi_dm (s : State) (st : Nat) (g : Ni → Ni) : (s.modNi st g).dm = s.dm := setNi_dm ..
@[simp] theorem modNi_bootCount (s : State) (st : Nat) (g : Ni → Ni) : (s.modNi st g).bootCount = s.bootCount := setNi_bootCount ..

@[simp] theorem setSlice_pending (s : State) (t : Nat) (x : Slice) : (s.setSlice t x).pending = s.pending := by unfold State.setSlice; generalize s.slices.set _ _ _ = m; rfl
@[simp] theorem setSlice_fresh (s : State) (t : Nat) (x : Slice) : (s.setSlice t x).fresh = s.fresh := by unfold State.setSlice; generalize s.slices.set _ _ _ = m; rfl
@[simp] theorem setSlice_fuses (s : State) (t : Nat) (x : Slice) : (s.setSlice t x).fuses = s.fuses := by unfold State.setSlice; generalize s.slices.set _ _ _ = m; rfl
@[simp] theorem setSlice_regs (s : State) (t : Nat) (x : Slice) : (s.setSlice t x).regs = s.regs := by unfold State.setSlice; generalize s.slices.set _ _ _ = m; rfl
@[simp] theorem setSlice_harts (s : State) (t : Nat) (x : Slice) : (s.setSlice t x).harts = s.harts := by unfold State.setSlice; generalize s.slices.set _ _ _ = m; rfl
@[simp] theorem setSlice_cores (s : State) (t : Nat) (x : Slice) : (s.setSlice t x).cores = s.cores := by unfold State.setSlice; generalize s.slices.set _ _ _ = m; rfl
@[simp] theorem setSlice_caches (s : State) (t : Nat) (x : Slice) : (s.setSlice t x).caches = s.caches := by unfold State.setSlice; generalize s.slices.set _ _ _ = m; rfl
@[simp] theorem setSlice_dir (s : State) (t : Nat) (x : Slice) : (s.setSlice t x).dir = s.dir := by unfold State.setSlice; generalize s.slices.set _ _ _ = m; rfl
@[simp] theorem setSlice_llc (s : State) (t : Nat) (x : Slice) : (s.setSlice t x).llc = s.llc := by unfold State.setSlice; generalize s.slices.set _ _ _ = m; rfl
@[simp] theorem setSlice_slices (s : State) (t : Nat) (x : Slice) : (s.setSlice t x).slices = s.slices.set {} t x := by unfold State.setSlice; generalize s.slices.set _ _ _ = m; rfl
@[simp] theorem setSlice_nis (s : State) (t : Nat) (x : Slice) : (s.setSlice t x).nis = s.nis := by unfold State.setSlice; generalize s.slices.set _ _ _ = m; rfl
@[simp] theorem setSlice_outq (s : State) (t : Nat) (x : Slice) : (s.setSlice t x).outq = s.outq := by unfold State.setSlice; generalize s.slices.set _ _ _ = m; rfl
@[simp] theorem setSlice_net (s : State) (t : Nat) (x : Slice) : (s.setSlice t x).net = s.net := by unfold State.setSlice; generalize s.slices.set _ _ _ = m; rfl
@[simp] theorem setSlice_reqs (s : State) (t : Nat) (x : Slice) : (s.setSlice t x).reqs = s.reqs := by unfold State.setSlice; generalize s.slices.set _ _ _ = m; rfl
@[simp] theorem setSlice_ioWrites (s : State) (t : Nat) (x : Slice) : (s.setSlice t x).ioWrites = s.ioWrites := by unfold State.setSlice; generalize s.slices.set _ _ _ = m; rfl
@[simp] theorem setSlice_works (s : State) (t : Nat) (x : Slice) : (s.setSlice t x).works = s.works := by unfold State.setSlice; generalize s.slices.set _ _ _ = m; rfl
@[simp] theorem setSlice_cursor (s : State) (t : Nat) (x : Slice) : (s.setSlice t x).cursor = s.cursor := by unfold State.setSlice; generalize s.slices.set _ _ _ = m; rfl
@[simp] theorem setSlice_fence (s : State) (t : Nat) (x : Slice) : (s.setSlice t x).fence = s.fence := by unfold State.setSlice; generalize s.slices.set _ _ _ = m; rfl
@[simp] theorem setSlice_fenceSeq (s : State) (t : Nat) (x : Slice) : (s.setSlice t x).fenceSeq = s.fenceSeq := by unfold State.setSlice; generalize s.slices.set _ _ _ = m; rfl
@[simp] theorem setSlice_flipTime (s : State) (t : Nat) (x : Slice) : (s.setSlice t x).flipTime = s.flipTime := by unfold State.setSlice; generalize s.slices.set _ _ _ = m; rfl
@[simp] theorem setSlice_meterWids (s : State) (t : Nat) (x : Slice) : (s.setSlice t x).meterWids = s.meterWids := by unfold State.setSlice; generalize s.slices.set _ _ _ = m; rfl
@[simp] theorem setSlice_broadcasts (s : State) (t : Nat) (x : Slice) : (s.setSlice t x).broadcasts = s.broadcasts := by unfold State.setSlice; generalize s.slices.set _ _ _ = m; rfl
@[simp] theorem setSlice_flushIssuers (s : State) (t : Nat) (x : Slice) : (s.setSlice t x).flushIssuers = s.flushIssuers := by unfold State.setSlice; generalize s.slices.set _ _ _ = m; rfl
@[simp] theorem setSlice_flushWays (s : State) (t : Nat) (x : Slice) : (s.setSlice t x).flushWays = s.flushWays := by unfold State.setSlice; generalize s.slices.set _ _ _ = m; rfl
@[simp] theorem setSlice_flushDirWays (s : State) (t : Nat) (x : Slice) : (s.setSlice t x).flushDirWays = s.flushDirWays := by unfold State.setSlice; generalize s.slices.set _ _ _ = m; rfl
@[simp] theorem setSlice_mem (s : State) (t : Nat) (x : Slice) : (s.setSlice t x).mem = s.mem := by unfold State.setSlice; generalize s.slices.set _ _ _ = m; rfl
@[simp] theorem setSlice_mps (s : State) (t : Nat) (x : Slice) : (s.setSlice t x).mps = s.mps := by unfold State.setSlice; generalize s.slices.set _ _ _ = m; rfl
@[simp] theorem setSlice_deeds (s : State) (t : Nat) (x : Slice) : (s.setSlice t x).deeds = s.deeds := by unfold State.setSlice; generalize s.slices.set _ _ _ = m; rfl
@[simp] theorem setSlice_deedBad (s : State) (t : Nat) (x : Slice) : (s.setSlice t x).deedBad = s.deedBad := by unfold State.setSlice; generalize s.slices.set _ _ _ = m; rfl
@[simp] theorem setSlice_deedCaches (s : State) (t : Nat) (x : Slice) : (s.setSlice t x).deedCaches = s.deedCaches := by unfold State.setSlice; generalize s.slices.set _ _ _ = m; rfl
@[simp] theorem setSlice_deedCmds (s : State) (t : Nat) (x : Slice) : (s.setSlice t x).deedCmds = s.deedCmds := by unfold State.setSlice; generalize s.slices.set _ _ _ = m; rfl
@[simp] theorem setSlice_deedTurn (s : State) (t : Nat) (x : Slice) : (s.setSlice t x).deedTurn = s.deedTurn := by unfold State.setSlice; generalize s.slices.set _ _ _ = m; rfl
@[simp] theorem setSlice_keyGens (s : State) (t : Nat) (x : Slice) : (s.setSlice t x).keyGens = s.keyGens := by unfold State.setSlice; generalize s.slices.set _ _ _ = m; rfl
@[simp] theorem setSlice_keySerial (s : State) (t : Nat) (x : Slice) : (s.setSlice t x).keySerial = s.keySerial := by unfold State.setSlice; generalize s.slices.set _ _ _ = m; rfl
@[simp] theorem setSlice_keyCmd (s : State) (t : Nat) (x : Slice) : (s.setSlice t x).keyCmd = s.keyCmd := by unfold State.setSlice; generalize s.slices.set _ _ _ = m; rfl
@[simp] theorem setSlice_bells (s : State) (t : Nat) (x : Slice) : (s.setSlice t x).bells = s.bells := by unfold State.setSlice; generalize s.slices.set _ _ _ = m; rfl
@[simp] theorem setSlice_bellRet (s : State) (t : Nat) (x : Slice) : (s.setSlice t x).bellRet = s.bellRet := by unfold State.setSlice; generalize s.slices.set _ _ _ = m; rfl
@[simp] theorem setSlice_aplic (s : State) (t : Nat) (x : Slice) : (s.setSlice t x).aplic = s.aplic := by unfold State.setSlice; generalize s.slices.set _ _ _ = m; rfl
@[simp] theorem setSlice_aplicDom (s : State) (t : Nat) (x : Slice) : (s.setSlice t x).aplicDom = s.aplicDom := by unfold State.setSlice; generalize s.slices.set _ _ _ = m; rfl
@[simp] theorem setSlice_pins (s : State) (t : Nat) (x : Slice) : (s.setSlice t x).pins = s.pins := by unfold State.setSlice; generalize s.slices.set _ _ _ = m; rfl
@[simp] theorem setSlice_links (s : State) (t : Nat) (x : Slice) : (s.setSlice t x).links = s.links := by unfold State.setSlice; generalize s.slices.set _ _ _ = m; rfl
@[simp] theorem setSlice_gates (s : State) (t : Nat) (x : Slice) : (s.setSlice t x).gates = s.gates := by unfold State.setSlice; generalize s.slices.set _ _ _ = m; rfl
@[simp] theorem setSlice_annals (s : State) (t : Nat) (x : Slice) : (s.setSlice t x).annals = s.annals := by unfold State.setSlice; generalize s.slices.set _ _ _ = m; rfl
@[simp] theorem setSlice_engines (s : State) (t : Nat) (x : Slice) : (s.setSlice t x).engines = s.engines := by unfold State.setSlice; generalize s.slices.set _ _ _ = m; rfl
@[simp] theorem setSlice_hps (s : State) (t : Nat) (x : Slice) : (s.setSlice t x).hps = s.hps := by unfold State.setSlice; generalize s.slices.set _ _ _ = m; rfl
@[simp] theorem setSlice_pf (s : State) (t : Nat) (x : Slice) : (s.setSlice t x).pf = s.pf := by unfold State.setSlice; generalize s.slices.set _ _ _ = m; rfl
@[simp] theorem setSlice_vfs (s : State) (t : Nat) (x : Slice) : (s.setSlice t x).vfs = s.vfs := by unfold State.setSlice; generalize s.slices.set _ _ _ = m; rfl
@[simp] theorem setSlice_queues (s : State) (t : Nat) (x : Slice) : (s.setSlice t x).queues = s.queues := by unfold State.setSlice; generalize s.slices.set _ _ _ = m; rfl
@[simp] theorem setSlice_pw (s : State) (t : Nat) (x : Slice) : (s.setSlice t x).pw = s.pw := by unfold State.setSlice; generalize s.slices.set _ _ _ = m; rfl
@[simp] theorem setSlice_ledger (s : State) (t : Nat) (x : Slice) : (s.setSlice t x).ledger = s.ledger := by unfold State.setSlice; generalize s.slices.set _ _ _ = m; rfl
@[simp] theorem setSlice_flash (s : State) (t : Nat) (x : Slice) : (s.setSlice t x).flash = s.flash := by unfold State.setSlice; generalize s.slices.set _ _ _ = m; rfl
@[simp] theorem setSlice_kpr (s : State) (t : Nat) (x : Slice) : (s.setSlice t x).kpr = s.kpr := by unfold State.setSlice; generalize s.slices.set _ _ _ = m; rfl
@[simp] theorem setSlice_cur (s : State) (t : Nat) (x : Slice) : (s.setSlice t x).cur = s.cur := by unfold State.setSlice; generalize s.slices.set _ _ _ = m; rfl
@[simp] theorem setSlice_slips (s : State) (t : Nat) (x : Slice) : (s.setSlice t x).slips = s.slips := by unfold State.setSlice; generalize s.slices.set _ _ _ = m; rfl
@[simp] theorem setSlice_folio (s : State) (t : Nat) (x : Slice) : (s.setSlice t x).folio = s.folio := by unfold State.setSlice; generalize s.slices.set _ _ _ = m; rfl
@[simp] theorem setSlice_dm (s : State) (t : Nat) (x : Slice) : (s.setSlice t x).dm = s.dm := by unfold State.setSlice; generalize s.slices.set _ _ _ = m; rfl
@[simp] theorem setSlice_bootCount (s : State) (t : Nat) (x : Slice) : (s.setSlice t x).bootCount = s.bootCount := by unfold State.setSlice; generalize s.slices.set _ _ _ = m; rfl

@[simp] theorem modSlice_pending (s : State) (t : Nat) (g : Slice → Slice) : (s.modSlice t g).pending = s.pending := setSlice_pending ..
@[simp] theorem modSlice_fresh (s : State) (t : Nat) (g : Slice → Slice) : (s.modSlice t g).fresh = s.fresh := setSlice_fresh ..
@[simp] theorem modSlice_fuses (s : State) (t : Nat) (g : Slice → Slice) : (s.modSlice t g).fuses = s.fuses := setSlice_fuses ..
@[simp] theorem modSlice_regs (s : State) (t : Nat) (g : Slice → Slice) : (s.modSlice t g).regs = s.regs := setSlice_regs ..
@[simp] theorem modSlice_harts (s : State) (t : Nat) (g : Slice → Slice) : (s.modSlice t g).harts = s.harts := setSlice_harts ..
@[simp] theorem modSlice_cores (s : State) (t : Nat) (g : Slice → Slice) : (s.modSlice t g).cores = s.cores := setSlice_cores ..
@[simp] theorem modSlice_caches (s : State) (t : Nat) (g : Slice → Slice) : (s.modSlice t g).caches = s.caches := setSlice_caches ..
@[simp] theorem modSlice_dir (s : State) (t : Nat) (g : Slice → Slice) : (s.modSlice t g).dir = s.dir := setSlice_dir ..
@[simp] theorem modSlice_llc (s : State) (t : Nat) (g : Slice → Slice) : (s.modSlice t g).llc = s.llc := setSlice_llc ..
@[simp] theorem modSlice_slices (s : State) (t : Nat) (g : Slice → Slice) : (s.modSlice t g).slices = s.slices.set {} t (g (s.slice t)) := setSlice_slices ..
@[simp] theorem modSlice_nis (s : State) (t : Nat) (g : Slice → Slice) : (s.modSlice t g).nis = s.nis := setSlice_nis ..
@[simp] theorem modSlice_outq (s : State) (t : Nat) (g : Slice → Slice) : (s.modSlice t g).outq = s.outq := setSlice_outq ..
@[simp] theorem modSlice_net (s : State) (t : Nat) (g : Slice → Slice) : (s.modSlice t g).net = s.net := setSlice_net ..
@[simp] theorem modSlice_reqs (s : State) (t : Nat) (g : Slice → Slice) : (s.modSlice t g).reqs = s.reqs := setSlice_reqs ..
@[simp] theorem modSlice_ioWrites (s : State) (t : Nat) (g : Slice → Slice) : (s.modSlice t g).ioWrites = s.ioWrites := setSlice_ioWrites ..
@[simp] theorem modSlice_works (s : State) (t : Nat) (g : Slice → Slice) : (s.modSlice t g).works = s.works := setSlice_works ..
@[simp] theorem modSlice_cursor (s : State) (t : Nat) (g : Slice → Slice) : (s.modSlice t g).cursor = s.cursor := setSlice_cursor ..
@[simp] theorem modSlice_fence (s : State) (t : Nat) (g : Slice → Slice) : (s.modSlice t g).fence = s.fence := setSlice_fence ..
@[simp] theorem modSlice_fenceSeq (s : State) (t : Nat) (g : Slice → Slice) : (s.modSlice t g).fenceSeq = s.fenceSeq := setSlice_fenceSeq ..
@[simp] theorem modSlice_flipTime (s : State) (t : Nat) (g : Slice → Slice) : (s.modSlice t g).flipTime = s.flipTime := setSlice_flipTime ..
@[simp] theorem modSlice_meterWids (s : State) (t : Nat) (g : Slice → Slice) : (s.modSlice t g).meterWids = s.meterWids := setSlice_meterWids ..
@[simp] theorem modSlice_broadcasts (s : State) (t : Nat) (g : Slice → Slice) : (s.modSlice t g).broadcasts = s.broadcasts := setSlice_broadcasts ..
@[simp] theorem modSlice_flushIssuers (s : State) (t : Nat) (g : Slice → Slice) : (s.modSlice t g).flushIssuers = s.flushIssuers := setSlice_flushIssuers ..
@[simp] theorem modSlice_flushWays (s : State) (t : Nat) (g : Slice → Slice) : (s.modSlice t g).flushWays = s.flushWays := setSlice_flushWays ..
@[simp] theorem modSlice_flushDirWays (s : State) (t : Nat) (g : Slice → Slice) : (s.modSlice t g).flushDirWays = s.flushDirWays := setSlice_flushDirWays ..
@[simp] theorem modSlice_mem (s : State) (t : Nat) (g : Slice → Slice) : (s.modSlice t g).mem = s.mem := setSlice_mem ..
@[simp] theorem modSlice_mps (s : State) (t : Nat) (g : Slice → Slice) : (s.modSlice t g).mps = s.mps := setSlice_mps ..
@[simp] theorem modSlice_deeds (s : State) (t : Nat) (g : Slice → Slice) : (s.modSlice t g).deeds = s.deeds := setSlice_deeds ..
@[simp] theorem modSlice_deedBad (s : State) (t : Nat) (g : Slice → Slice) : (s.modSlice t g).deedBad = s.deedBad := setSlice_deedBad ..
@[simp] theorem modSlice_deedCaches (s : State) (t : Nat) (g : Slice → Slice) : (s.modSlice t g).deedCaches = s.deedCaches := setSlice_deedCaches ..
@[simp] theorem modSlice_deedCmds (s : State) (t : Nat) (g : Slice → Slice) : (s.modSlice t g).deedCmds = s.deedCmds := setSlice_deedCmds ..
@[simp] theorem modSlice_deedTurn (s : State) (t : Nat) (g : Slice → Slice) : (s.modSlice t g).deedTurn = s.deedTurn := setSlice_deedTurn ..
@[simp] theorem modSlice_keyGens (s : State) (t : Nat) (g : Slice → Slice) : (s.modSlice t g).keyGens = s.keyGens := setSlice_keyGens ..
@[simp] theorem modSlice_keySerial (s : State) (t : Nat) (g : Slice → Slice) : (s.modSlice t g).keySerial = s.keySerial := setSlice_keySerial ..
@[simp] theorem modSlice_keyCmd (s : State) (t : Nat) (g : Slice → Slice) : (s.modSlice t g).keyCmd = s.keyCmd := setSlice_keyCmd ..
@[simp] theorem modSlice_bells (s : State) (t : Nat) (g : Slice → Slice) : (s.modSlice t g).bells = s.bells := setSlice_bells ..
@[simp] theorem modSlice_bellRet (s : State) (t : Nat) (g : Slice → Slice) : (s.modSlice t g).bellRet = s.bellRet := setSlice_bellRet ..
@[simp] theorem modSlice_aplic (s : State) (t : Nat) (g : Slice → Slice) : (s.modSlice t g).aplic = s.aplic := setSlice_aplic ..
@[simp] theorem modSlice_aplicDom (s : State) (t : Nat) (g : Slice → Slice) : (s.modSlice t g).aplicDom = s.aplicDom := setSlice_aplicDom ..
@[simp] theorem modSlice_pins (s : State) (t : Nat) (g : Slice → Slice) : (s.modSlice t g).pins = s.pins := setSlice_pins ..
@[simp] theorem modSlice_links (s : State) (t : Nat) (g : Slice → Slice) : (s.modSlice t g).links = s.links := setSlice_links ..
@[simp] theorem modSlice_gates (s : State) (t : Nat) (g : Slice → Slice) : (s.modSlice t g).gates = s.gates := setSlice_gates ..
@[simp] theorem modSlice_annals (s : State) (t : Nat) (g : Slice → Slice) : (s.modSlice t g).annals = s.annals := setSlice_annals ..
@[simp] theorem modSlice_engines (s : State) (t : Nat) (g : Slice → Slice) : (s.modSlice t g).engines = s.engines := setSlice_engines ..
@[simp] theorem modSlice_hps (s : State) (t : Nat) (g : Slice → Slice) : (s.modSlice t g).hps = s.hps := setSlice_hps ..
@[simp] theorem modSlice_pf (s : State) (t : Nat) (g : Slice → Slice) : (s.modSlice t g).pf = s.pf := setSlice_pf ..
@[simp] theorem modSlice_vfs (s : State) (t : Nat) (g : Slice → Slice) : (s.modSlice t g).vfs = s.vfs := setSlice_vfs ..
@[simp] theorem modSlice_queues (s : State) (t : Nat) (g : Slice → Slice) : (s.modSlice t g).queues = s.queues := setSlice_queues ..
@[simp] theorem modSlice_pw (s : State) (t : Nat) (g : Slice → Slice) : (s.modSlice t g).pw = s.pw := setSlice_pw ..
@[simp] theorem modSlice_ledger (s : State) (t : Nat) (g : Slice → Slice) : (s.modSlice t g).ledger = s.ledger := setSlice_ledger ..
@[simp] theorem modSlice_flash (s : State) (t : Nat) (g : Slice → Slice) : (s.modSlice t g).flash = s.flash := setSlice_flash ..
@[simp] theorem modSlice_kpr (s : State) (t : Nat) (g : Slice → Slice) : (s.modSlice t g).kpr = s.kpr := setSlice_kpr ..
@[simp] theorem modSlice_cur (s : State) (t : Nat) (g : Slice → Slice) : (s.modSlice t g).cur = s.cur := setSlice_cur ..
@[simp] theorem modSlice_slips (s : State) (t : Nat) (g : Slice → Slice) : (s.modSlice t g).slips = s.slips := setSlice_slips ..
@[simp] theorem modSlice_folio (s : State) (t : Nat) (g : Slice → Slice) : (s.modSlice t g).folio = s.folio := setSlice_folio ..
@[simp] theorem modSlice_dm (s : State) (t : Nat) (g : Slice → Slice) : (s.modSlice t g).dm = s.dm := setSlice_dm ..
@[simp] theorem modSlice_bootCount (s : State) (t : Nat) (g : Slice → Slice) : (s.modSlice t g).bootCount = s.bootCount := setSlice_bootCount ..

@[simp] theorem setLink_pending (s : State) (k : Nat) (x : Link) : (s.setLink k x).pending = s.pending := by unfold State.setLink; generalize s.links.set _ _ _ = m; rfl
@[simp] theorem setLink_fresh (s : State) (k : Nat) (x : Link) : (s.setLink k x).fresh = s.fresh := by unfold State.setLink; generalize s.links.set _ _ _ = m; rfl
@[simp] theorem setLink_fuses (s : State) (k : Nat) (x : Link) : (s.setLink k x).fuses = s.fuses := by unfold State.setLink; generalize s.links.set _ _ _ = m; rfl
@[simp] theorem setLink_regs (s : State) (k : Nat) (x : Link) : (s.setLink k x).regs = s.regs := by unfold State.setLink; generalize s.links.set _ _ _ = m; rfl
@[simp] theorem setLink_harts (s : State) (k : Nat) (x : Link) : (s.setLink k x).harts = s.harts := by unfold State.setLink; generalize s.links.set _ _ _ = m; rfl
@[simp] theorem setLink_cores (s : State) (k : Nat) (x : Link) : (s.setLink k x).cores = s.cores := by unfold State.setLink; generalize s.links.set _ _ _ = m; rfl
@[simp] theorem setLink_caches (s : State) (k : Nat) (x : Link) : (s.setLink k x).caches = s.caches := by unfold State.setLink; generalize s.links.set _ _ _ = m; rfl
@[simp] theorem setLink_dir (s : State) (k : Nat) (x : Link) : (s.setLink k x).dir = s.dir := by unfold State.setLink; generalize s.links.set _ _ _ = m; rfl
@[simp] theorem setLink_llc (s : State) (k : Nat) (x : Link) : (s.setLink k x).llc = s.llc := by unfold State.setLink; generalize s.links.set _ _ _ = m; rfl
@[simp] theorem setLink_slices (s : State) (k : Nat) (x : Link) : (s.setLink k x).slices = s.slices := by unfold State.setLink; generalize s.links.set _ _ _ = m; rfl
@[simp] theorem setLink_nis (s : State) (k : Nat) (x : Link) : (s.setLink k x).nis = s.nis := by unfold State.setLink; generalize s.links.set _ _ _ = m; rfl
@[simp] theorem setLink_outq (s : State) (k : Nat) (x : Link) : (s.setLink k x).outq = s.outq := by unfold State.setLink; generalize s.links.set _ _ _ = m; rfl
@[simp] theorem setLink_net (s : State) (k : Nat) (x : Link) : (s.setLink k x).net = s.net := by unfold State.setLink; generalize s.links.set _ _ _ = m; rfl
@[simp] theorem setLink_reqs (s : State) (k : Nat) (x : Link) : (s.setLink k x).reqs = s.reqs := by unfold State.setLink; generalize s.links.set _ _ _ = m; rfl
@[simp] theorem setLink_ioWrites (s : State) (k : Nat) (x : Link) : (s.setLink k x).ioWrites = s.ioWrites := by unfold State.setLink; generalize s.links.set _ _ _ = m; rfl
@[simp] theorem setLink_works (s : State) (k : Nat) (x : Link) : (s.setLink k x).works = s.works := by unfold State.setLink; generalize s.links.set _ _ _ = m; rfl
@[simp] theorem setLink_cursor (s : State) (k : Nat) (x : Link) : (s.setLink k x).cursor = s.cursor := by unfold State.setLink; generalize s.links.set _ _ _ = m; rfl
@[simp] theorem setLink_fence (s : State) (k : Nat) (x : Link) : (s.setLink k x).fence = s.fence := by unfold State.setLink; generalize s.links.set _ _ _ = m; rfl
@[simp] theorem setLink_fenceSeq (s : State) (k : Nat) (x : Link) : (s.setLink k x).fenceSeq = s.fenceSeq := by unfold State.setLink; generalize s.links.set _ _ _ = m; rfl
@[simp] theorem setLink_flipTime (s : State) (k : Nat) (x : Link) : (s.setLink k x).flipTime = s.flipTime := by unfold State.setLink; generalize s.links.set _ _ _ = m; rfl
@[simp] theorem setLink_meterWids (s : State) (k : Nat) (x : Link) : (s.setLink k x).meterWids = s.meterWids := by unfold State.setLink; generalize s.links.set _ _ _ = m; rfl
@[simp] theorem setLink_broadcasts (s : State) (k : Nat) (x : Link) : (s.setLink k x).broadcasts = s.broadcasts := by unfold State.setLink; generalize s.links.set _ _ _ = m; rfl
@[simp] theorem setLink_flushIssuers (s : State) (k : Nat) (x : Link) : (s.setLink k x).flushIssuers = s.flushIssuers := by unfold State.setLink; generalize s.links.set _ _ _ = m; rfl
@[simp] theorem setLink_flushWays (s : State) (k : Nat) (x : Link) : (s.setLink k x).flushWays = s.flushWays := by unfold State.setLink; generalize s.links.set _ _ _ = m; rfl
@[simp] theorem setLink_flushDirWays (s : State) (k : Nat) (x : Link) : (s.setLink k x).flushDirWays = s.flushDirWays := by unfold State.setLink; generalize s.links.set _ _ _ = m; rfl
@[simp] theorem setLink_mem (s : State) (k : Nat) (x : Link) : (s.setLink k x).mem = s.mem := by unfold State.setLink; generalize s.links.set _ _ _ = m; rfl
@[simp] theorem setLink_mps (s : State) (k : Nat) (x : Link) : (s.setLink k x).mps = s.mps := by unfold State.setLink; generalize s.links.set _ _ _ = m; rfl
@[simp] theorem setLink_deeds (s : State) (k : Nat) (x : Link) : (s.setLink k x).deeds = s.deeds := by unfold State.setLink; generalize s.links.set _ _ _ = m; rfl
@[simp] theorem setLink_deedBad (s : State) (k : Nat) (x : Link) : (s.setLink k x).deedBad = s.deedBad := by unfold State.setLink; generalize s.links.set _ _ _ = m; rfl
@[simp] theorem setLink_deedCaches (s : State) (k : Nat) (x : Link) : (s.setLink k x).deedCaches = s.deedCaches := by unfold State.setLink; generalize s.links.set _ _ _ = m; rfl
@[simp] theorem setLink_deedCmds (s : State) (k : Nat) (x : Link) : (s.setLink k x).deedCmds = s.deedCmds := by unfold State.setLink; generalize s.links.set _ _ _ = m; rfl
@[simp] theorem setLink_deedTurn (s : State) (k : Nat) (x : Link) : (s.setLink k x).deedTurn = s.deedTurn := by unfold State.setLink; generalize s.links.set _ _ _ = m; rfl
@[simp] theorem setLink_keyGens (s : State) (k : Nat) (x : Link) : (s.setLink k x).keyGens = s.keyGens := by unfold State.setLink; generalize s.links.set _ _ _ = m; rfl
@[simp] theorem setLink_keySerial (s : State) (k : Nat) (x : Link) : (s.setLink k x).keySerial = s.keySerial := by unfold State.setLink; generalize s.links.set _ _ _ = m; rfl
@[simp] theorem setLink_keyCmd (s : State) (k : Nat) (x : Link) : (s.setLink k x).keyCmd = s.keyCmd := by unfold State.setLink; generalize s.links.set _ _ _ = m; rfl
@[simp] theorem setLink_bells (s : State) (k : Nat) (x : Link) : (s.setLink k x).bells = s.bells := by unfold State.setLink; generalize s.links.set _ _ _ = m; rfl
@[simp] theorem setLink_bellRet (s : State) (k : Nat) (x : Link) : (s.setLink k x).bellRet = s.bellRet := by unfold State.setLink; generalize s.links.set _ _ _ = m; rfl
@[simp] theorem setLink_aplic (s : State) (k : Nat) (x : Link) : (s.setLink k x).aplic = s.aplic := by unfold State.setLink; generalize s.links.set _ _ _ = m; rfl
@[simp] theorem setLink_aplicDom (s : State) (k : Nat) (x : Link) : (s.setLink k x).aplicDom = s.aplicDom := by unfold State.setLink; generalize s.links.set _ _ _ = m; rfl
@[simp] theorem setLink_pins (s : State) (k : Nat) (x : Link) : (s.setLink k x).pins = s.pins := by unfold State.setLink; generalize s.links.set _ _ _ = m; rfl
@[simp] theorem setLink_links (s : State) (k : Nat) (x : Link) : (s.setLink k x).links = s.links.set {} k x := by unfold State.setLink; generalize s.links.set _ _ _ = m; rfl
@[simp] theorem setLink_gates (s : State) (k : Nat) (x : Link) : (s.setLink k x).gates = s.gates := by unfold State.setLink; generalize s.links.set _ _ _ = m; rfl
@[simp] theorem setLink_annals (s : State) (k : Nat) (x : Link) : (s.setLink k x).annals = s.annals := by unfold State.setLink; generalize s.links.set _ _ _ = m; rfl
@[simp] theorem setLink_engines (s : State) (k : Nat) (x : Link) : (s.setLink k x).engines = s.engines := by unfold State.setLink; generalize s.links.set _ _ _ = m; rfl
@[simp] theorem setLink_hps (s : State) (k : Nat) (x : Link) : (s.setLink k x).hps = s.hps := by unfold State.setLink; generalize s.links.set _ _ _ = m; rfl
@[simp] theorem setLink_pf (s : State) (k : Nat) (x : Link) : (s.setLink k x).pf = s.pf := by unfold State.setLink; generalize s.links.set _ _ _ = m; rfl
@[simp] theorem setLink_vfs (s : State) (k : Nat) (x : Link) : (s.setLink k x).vfs = s.vfs := by unfold State.setLink; generalize s.links.set _ _ _ = m; rfl
@[simp] theorem setLink_queues (s : State) (k : Nat) (x : Link) : (s.setLink k x).queues = s.queues := by unfold State.setLink; generalize s.links.set _ _ _ = m; rfl
@[simp] theorem setLink_pw (s : State) (k : Nat) (x : Link) : (s.setLink k x).pw = s.pw := by unfold State.setLink; generalize s.links.set _ _ _ = m; rfl
@[simp] theorem setLink_ledger (s : State) (k : Nat) (x : Link) : (s.setLink k x).ledger = s.ledger := by unfold State.setLink; generalize s.links.set _ _ _ = m; rfl
@[simp] theorem setLink_flash (s : State) (k : Nat) (x : Link) : (s.setLink k x).flash = s.flash := by unfold State.setLink; generalize s.links.set _ _ _ = m; rfl
@[simp] theorem setLink_kpr (s : State) (k : Nat) (x : Link) : (s.setLink k x).kpr = s.kpr := by unfold State.setLink; generalize s.links.set _ _ _ = m; rfl
@[simp] theorem setLink_cur (s : State) (k : Nat) (x : Link) : (s.setLink k x).cur = s.cur := by unfold State.setLink; generalize s.links.set _ _ _ = m; rfl
@[simp] theorem setLink_slips (s : State) (k : Nat) (x : Link) : (s.setLink k x).slips = s.slips := by unfold State.setLink; generalize s.links.set _ _ _ = m; rfl
@[simp] theorem setLink_folio (s : State) (k : Nat) (x : Link) : (s.setLink k x).folio = s.folio := by unfold State.setLink; generalize s.links.set _ _ _ = m; rfl
@[simp] theorem setLink_dm (s : State) (k : Nat) (x : Link) : (s.setLink k x).dm = s.dm := by unfold State.setLink; generalize s.links.set _ _ _ = m; rfl
@[simp] theorem setLink_bootCount (s : State) (k : Nat) (x : Link) : (s.setLink k x).bootCount = s.bootCount := by unfold State.setLink; generalize s.links.set _ _ _ = m; rfl

@[simp] theorem modLink_pending (s : State) (k : Nat) (g : Link → Link) : (s.modLink k g).pending = s.pending := setLink_pending ..
@[simp] theorem modLink_fresh (s : State) (k : Nat) (g : Link → Link) : (s.modLink k g).fresh = s.fresh := setLink_fresh ..
@[simp] theorem modLink_fuses (s : State) (k : Nat) (g : Link → Link) : (s.modLink k g).fuses = s.fuses := setLink_fuses ..
@[simp] theorem modLink_regs (s : State) (k : Nat) (g : Link → Link) : (s.modLink k g).regs = s.regs := setLink_regs ..
@[simp] theorem modLink_harts (s : State) (k : Nat) (g : Link → Link) : (s.modLink k g).harts = s.harts := setLink_harts ..
@[simp] theorem modLink_cores (s : State) (k : Nat) (g : Link → Link) : (s.modLink k g).cores = s.cores := setLink_cores ..
@[simp] theorem modLink_caches (s : State) (k : Nat) (g : Link → Link) : (s.modLink k g).caches = s.caches := setLink_caches ..
@[simp] theorem modLink_dir (s : State) (k : Nat) (g : Link → Link) : (s.modLink k g).dir = s.dir := setLink_dir ..
@[simp] theorem modLink_llc (s : State) (k : Nat) (g : Link → Link) : (s.modLink k g).llc = s.llc := setLink_llc ..
@[simp] theorem modLink_slices (s : State) (k : Nat) (g : Link → Link) : (s.modLink k g).slices = s.slices := setLink_slices ..
@[simp] theorem modLink_nis (s : State) (k : Nat) (g : Link → Link) : (s.modLink k g).nis = s.nis := setLink_nis ..
@[simp] theorem modLink_outq (s : State) (k : Nat) (g : Link → Link) : (s.modLink k g).outq = s.outq := setLink_outq ..
@[simp] theorem modLink_net (s : State) (k : Nat) (g : Link → Link) : (s.modLink k g).net = s.net := setLink_net ..
@[simp] theorem modLink_reqs (s : State) (k : Nat) (g : Link → Link) : (s.modLink k g).reqs = s.reqs := setLink_reqs ..
@[simp] theorem modLink_ioWrites (s : State) (k : Nat) (g : Link → Link) : (s.modLink k g).ioWrites = s.ioWrites := setLink_ioWrites ..
@[simp] theorem modLink_works (s : State) (k : Nat) (g : Link → Link) : (s.modLink k g).works = s.works := setLink_works ..
@[simp] theorem modLink_cursor (s : State) (k : Nat) (g : Link → Link) : (s.modLink k g).cursor = s.cursor := setLink_cursor ..
@[simp] theorem modLink_fence (s : State) (k : Nat) (g : Link → Link) : (s.modLink k g).fence = s.fence := setLink_fence ..
@[simp] theorem modLink_fenceSeq (s : State) (k : Nat) (g : Link → Link) : (s.modLink k g).fenceSeq = s.fenceSeq := setLink_fenceSeq ..
@[simp] theorem modLink_flipTime (s : State) (k : Nat) (g : Link → Link) : (s.modLink k g).flipTime = s.flipTime := setLink_flipTime ..
@[simp] theorem modLink_meterWids (s : State) (k : Nat) (g : Link → Link) : (s.modLink k g).meterWids = s.meterWids := setLink_meterWids ..
@[simp] theorem modLink_broadcasts (s : State) (k : Nat) (g : Link → Link) : (s.modLink k g).broadcasts = s.broadcasts := setLink_broadcasts ..
@[simp] theorem modLink_flushIssuers (s : State) (k : Nat) (g : Link → Link) : (s.modLink k g).flushIssuers = s.flushIssuers := setLink_flushIssuers ..
@[simp] theorem modLink_flushWays (s : State) (k : Nat) (g : Link → Link) : (s.modLink k g).flushWays = s.flushWays := setLink_flushWays ..
@[simp] theorem modLink_flushDirWays (s : State) (k : Nat) (g : Link → Link) : (s.modLink k g).flushDirWays = s.flushDirWays := setLink_flushDirWays ..
@[simp] theorem modLink_mem (s : State) (k : Nat) (g : Link → Link) : (s.modLink k g).mem = s.mem := setLink_mem ..
@[simp] theorem modLink_mps (s : State) (k : Nat) (g : Link → Link) : (s.modLink k g).mps = s.mps := setLink_mps ..
@[simp] theorem modLink_deeds (s : State) (k : Nat) (g : Link → Link) : (s.modLink k g).deeds = s.deeds := setLink_deeds ..
@[simp] theorem modLink_deedBad (s : State) (k : Nat) (g : Link → Link) : (s.modLink k g).deedBad = s.deedBad := setLink_deedBad ..
@[simp] theorem modLink_deedCaches (s : State) (k : Nat) (g : Link → Link) : (s.modLink k g).deedCaches = s.deedCaches := setLink_deedCaches ..
@[simp] theorem modLink_deedCmds (s : State) (k : Nat) (g : Link → Link) : (s.modLink k g).deedCmds = s.deedCmds := setLink_deedCmds ..
@[simp] theorem modLink_deedTurn (s : State) (k : Nat) (g : Link → Link) : (s.modLink k g).deedTurn = s.deedTurn := setLink_deedTurn ..
@[simp] theorem modLink_keyGens (s : State) (k : Nat) (g : Link → Link) : (s.modLink k g).keyGens = s.keyGens := setLink_keyGens ..
@[simp] theorem modLink_keySerial (s : State) (k : Nat) (g : Link → Link) : (s.modLink k g).keySerial = s.keySerial := setLink_keySerial ..
@[simp] theorem modLink_keyCmd (s : State) (k : Nat) (g : Link → Link) : (s.modLink k g).keyCmd = s.keyCmd := setLink_keyCmd ..
@[simp] theorem modLink_bells (s : State) (k : Nat) (g : Link → Link) : (s.modLink k g).bells = s.bells := setLink_bells ..
@[simp] theorem modLink_bellRet (s : State) (k : Nat) (g : Link → Link) : (s.modLink k g).bellRet = s.bellRet := setLink_bellRet ..
@[simp] theorem modLink_aplic (s : State) (k : Nat) (g : Link → Link) : (s.modLink k g).aplic = s.aplic := setLink_aplic ..
@[simp] theorem modLink_aplicDom (s : State) (k : Nat) (g : Link → Link) : (s.modLink k g).aplicDom = s.aplicDom := setLink_aplicDom ..
@[simp] theorem modLink_pins (s : State) (k : Nat) (g : Link → Link) : (s.modLink k g).pins = s.pins := setLink_pins ..
@[simp] theorem modLink_links (s : State) (k : Nat) (g : Link → Link) : (s.modLink k g).links = s.links.set {} k (g (s.link k)) := setLink_links ..
@[simp] theorem modLink_gates (s : State) (k : Nat) (g : Link → Link) : (s.modLink k g).gates = s.gates := setLink_gates ..
@[simp] theorem modLink_annals (s : State) (k : Nat) (g : Link → Link) : (s.modLink k g).annals = s.annals := setLink_annals ..
@[simp] theorem modLink_engines (s : State) (k : Nat) (g : Link → Link) : (s.modLink k g).engines = s.engines := setLink_engines ..
@[simp] theorem modLink_hps (s : State) (k : Nat) (g : Link → Link) : (s.modLink k g).hps = s.hps := setLink_hps ..
@[simp] theorem modLink_pf (s : State) (k : Nat) (g : Link → Link) : (s.modLink k g).pf = s.pf := setLink_pf ..
@[simp] theorem modLink_vfs (s : State) (k : Nat) (g : Link → Link) : (s.modLink k g).vfs = s.vfs := setLink_vfs ..
@[simp] theorem modLink_queues (s : State) (k : Nat) (g : Link → Link) : (s.modLink k g).queues = s.queues := setLink_queues ..
@[simp] theorem modLink_pw (s : State) (k : Nat) (g : Link → Link) : (s.modLink k g).pw = s.pw := setLink_pw ..
@[simp] theorem modLink_ledger (s : State) (k : Nat) (g : Link → Link) : (s.modLink k g).ledger = s.ledger := setLink_ledger ..
@[simp] theorem modLink_flash (s : State) (k : Nat) (g : Link → Link) : (s.modLink k g).flash = s.flash := setLink_flash ..
@[simp] theorem modLink_kpr (s : State) (k : Nat) (g : Link → Link) : (s.modLink k g).kpr = s.kpr := setLink_kpr ..
@[simp] theorem modLink_cur (s : State) (k : Nat) (g : Link → Link) : (s.modLink k g).cur = s.cur := setLink_cur ..
@[simp] theorem modLink_slips (s : State) (k : Nat) (g : Link → Link) : (s.modLink k g).slips = s.slips := setLink_slips ..
@[simp] theorem modLink_folio (s : State) (k : Nat) (g : Link → Link) : (s.modLink k g).folio = s.folio := setLink_folio ..
@[simp] theorem modLink_dm (s : State) (k : Nat) (g : Link → Link) : (s.modLink k g).dm = s.dm := setLink_dm ..
@[simp] theorem modLink_bootCount (s : State) (k : Nat) (g : Link → Link) : (s.modLink k g).bootCount = s.bootCount := setLink_bootCount ..

@[simp] theorem setGate_pending (s : State) (k : Nat) (x : Gate) : (s.setGate k x).pending = s.pending := by unfold State.setGate; generalize s.gates.set _ _ _ = m; rfl
@[simp] theorem setGate_fresh (s : State) (k : Nat) (x : Gate) : (s.setGate k x).fresh = s.fresh := by unfold State.setGate; generalize s.gates.set _ _ _ = m; rfl
@[simp] theorem setGate_fuses (s : State) (k : Nat) (x : Gate) : (s.setGate k x).fuses = s.fuses := by unfold State.setGate; generalize s.gates.set _ _ _ = m; rfl
@[simp] theorem setGate_regs (s : State) (k : Nat) (x : Gate) : (s.setGate k x).regs = s.regs := by unfold State.setGate; generalize s.gates.set _ _ _ = m; rfl
@[simp] theorem setGate_harts (s : State) (k : Nat) (x : Gate) : (s.setGate k x).harts = s.harts := by unfold State.setGate; generalize s.gates.set _ _ _ = m; rfl
@[simp] theorem setGate_cores (s : State) (k : Nat) (x : Gate) : (s.setGate k x).cores = s.cores := by unfold State.setGate; generalize s.gates.set _ _ _ = m; rfl
@[simp] theorem setGate_caches (s : State) (k : Nat) (x : Gate) : (s.setGate k x).caches = s.caches := by unfold State.setGate; generalize s.gates.set _ _ _ = m; rfl
@[simp] theorem setGate_dir (s : State) (k : Nat) (x : Gate) : (s.setGate k x).dir = s.dir := by unfold State.setGate; generalize s.gates.set _ _ _ = m; rfl
@[simp] theorem setGate_llc (s : State) (k : Nat) (x : Gate) : (s.setGate k x).llc = s.llc := by unfold State.setGate; generalize s.gates.set _ _ _ = m; rfl
@[simp] theorem setGate_slices (s : State) (k : Nat) (x : Gate) : (s.setGate k x).slices = s.slices := by unfold State.setGate; generalize s.gates.set _ _ _ = m; rfl
@[simp] theorem setGate_nis (s : State) (k : Nat) (x : Gate) : (s.setGate k x).nis = s.nis := by unfold State.setGate; generalize s.gates.set _ _ _ = m; rfl
@[simp] theorem setGate_outq (s : State) (k : Nat) (x : Gate) : (s.setGate k x).outq = s.outq := by unfold State.setGate; generalize s.gates.set _ _ _ = m; rfl
@[simp] theorem setGate_net (s : State) (k : Nat) (x : Gate) : (s.setGate k x).net = s.net := by unfold State.setGate; generalize s.gates.set _ _ _ = m; rfl
@[simp] theorem setGate_reqs (s : State) (k : Nat) (x : Gate) : (s.setGate k x).reqs = s.reqs := by unfold State.setGate; generalize s.gates.set _ _ _ = m; rfl
@[simp] theorem setGate_ioWrites (s : State) (k : Nat) (x : Gate) : (s.setGate k x).ioWrites = s.ioWrites := by unfold State.setGate; generalize s.gates.set _ _ _ = m; rfl
@[simp] theorem setGate_works (s : State) (k : Nat) (x : Gate) : (s.setGate k x).works = s.works := by unfold State.setGate; generalize s.gates.set _ _ _ = m; rfl
@[simp] theorem setGate_cursor (s : State) (k : Nat) (x : Gate) : (s.setGate k x).cursor = s.cursor := by unfold State.setGate; generalize s.gates.set _ _ _ = m; rfl
@[simp] theorem setGate_fence (s : State) (k : Nat) (x : Gate) : (s.setGate k x).fence = s.fence := by unfold State.setGate; generalize s.gates.set _ _ _ = m; rfl
@[simp] theorem setGate_fenceSeq (s : State) (k : Nat) (x : Gate) : (s.setGate k x).fenceSeq = s.fenceSeq := by unfold State.setGate; generalize s.gates.set _ _ _ = m; rfl
@[simp] theorem setGate_flipTime (s : State) (k : Nat) (x : Gate) : (s.setGate k x).flipTime = s.flipTime := by unfold State.setGate; generalize s.gates.set _ _ _ = m; rfl
@[simp] theorem setGate_meterWids (s : State) (k : Nat) (x : Gate) : (s.setGate k x).meterWids = s.meterWids := by unfold State.setGate; generalize s.gates.set _ _ _ = m; rfl
@[simp] theorem setGate_broadcasts (s : State) (k : Nat) (x : Gate) : (s.setGate k x).broadcasts = s.broadcasts := by unfold State.setGate; generalize s.gates.set _ _ _ = m; rfl
@[simp] theorem setGate_flushIssuers (s : State) (k : Nat) (x : Gate) : (s.setGate k x).flushIssuers = s.flushIssuers := by unfold State.setGate; generalize s.gates.set _ _ _ = m; rfl
@[simp] theorem setGate_flushWays (s : State) (k : Nat) (x : Gate) : (s.setGate k x).flushWays = s.flushWays := by unfold State.setGate; generalize s.gates.set _ _ _ = m; rfl
@[simp] theorem setGate_flushDirWays (s : State) (k : Nat) (x : Gate) : (s.setGate k x).flushDirWays = s.flushDirWays := by unfold State.setGate; generalize s.gates.set _ _ _ = m; rfl
@[simp] theorem setGate_mem (s : State) (k : Nat) (x : Gate) : (s.setGate k x).mem = s.mem := by unfold State.setGate; generalize s.gates.set _ _ _ = m; rfl
@[simp] theorem setGate_mps (s : State) (k : Nat) (x : Gate) : (s.setGate k x).mps = s.mps := by unfold State.setGate; generalize s.gates.set _ _ _ = m; rfl
@[simp] theorem setGate_deeds (s : State) (k : Nat) (x : Gate) : (s.setGate k x).deeds = s.deeds := by unfold State.setGate; generalize s.gates.set _ _ _ = m; rfl
@[simp] theorem setGate_deedBad (s : State) (k : Nat) (x : Gate) : (s.setGate k x).deedBad = s.deedBad := by unfold State.setGate; generalize s.gates.set _ _ _ = m; rfl
@[simp] theorem setGate_deedCaches (s : State) (k : Nat) (x : Gate) : (s.setGate k x).deedCaches = s.deedCaches := by unfold State.setGate; generalize s.gates.set _ _ _ = m; rfl
@[simp] theorem setGate_deedCmds (s : State) (k : Nat) (x : Gate) : (s.setGate k x).deedCmds = s.deedCmds := by unfold State.setGate; generalize s.gates.set _ _ _ = m; rfl
@[simp] theorem setGate_deedTurn (s : State) (k : Nat) (x : Gate) : (s.setGate k x).deedTurn = s.deedTurn := by unfold State.setGate; generalize s.gates.set _ _ _ = m; rfl
@[simp] theorem setGate_keyGens (s : State) (k : Nat) (x : Gate) : (s.setGate k x).keyGens = s.keyGens := by unfold State.setGate; generalize s.gates.set _ _ _ = m; rfl
@[simp] theorem setGate_keySerial (s : State) (k : Nat) (x : Gate) : (s.setGate k x).keySerial = s.keySerial := by unfold State.setGate; generalize s.gates.set _ _ _ = m; rfl
@[simp] theorem setGate_keyCmd (s : State) (k : Nat) (x : Gate) : (s.setGate k x).keyCmd = s.keyCmd := by unfold State.setGate; generalize s.gates.set _ _ _ = m; rfl
@[simp] theorem setGate_bells (s : State) (k : Nat) (x : Gate) : (s.setGate k x).bells = s.bells := by unfold State.setGate; generalize s.gates.set _ _ _ = m; rfl
@[simp] theorem setGate_bellRet (s : State) (k : Nat) (x : Gate) : (s.setGate k x).bellRet = s.bellRet := by unfold State.setGate; generalize s.gates.set _ _ _ = m; rfl
@[simp] theorem setGate_aplic (s : State) (k : Nat) (x : Gate) : (s.setGate k x).aplic = s.aplic := by unfold State.setGate; generalize s.gates.set _ _ _ = m; rfl
@[simp] theorem setGate_aplicDom (s : State) (k : Nat) (x : Gate) : (s.setGate k x).aplicDom = s.aplicDom := by unfold State.setGate; generalize s.gates.set _ _ _ = m; rfl
@[simp] theorem setGate_pins (s : State) (k : Nat) (x : Gate) : (s.setGate k x).pins = s.pins := by unfold State.setGate; generalize s.gates.set _ _ _ = m; rfl
@[simp] theorem setGate_links (s : State) (k : Nat) (x : Gate) : (s.setGate k x).links = s.links := by unfold State.setGate; generalize s.gates.set _ _ _ = m; rfl
@[simp] theorem setGate_gates (s : State) (k : Nat) (x : Gate) : (s.setGate k x).gates = s.gates.set {} k x := by unfold State.setGate; generalize s.gates.set _ _ _ = m; rfl
@[simp] theorem setGate_annals (s : State) (k : Nat) (x : Gate) : (s.setGate k x).annals = s.annals := by unfold State.setGate; generalize s.gates.set _ _ _ = m; rfl
@[simp] theorem setGate_engines (s : State) (k : Nat) (x : Gate) : (s.setGate k x).engines = s.engines := by unfold State.setGate; generalize s.gates.set _ _ _ = m; rfl
@[simp] theorem setGate_hps (s : State) (k : Nat) (x : Gate) : (s.setGate k x).hps = s.hps := by unfold State.setGate; generalize s.gates.set _ _ _ = m; rfl
@[simp] theorem setGate_pf (s : State) (k : Nat) (x : Gate) : (s.setGate k x).pf = s.pf := by unfold State.setGate; generalize s.gates.set _ _ _ = m; rfl
@[simp] theorem setGate_vfs (s : State) (k : Nat) (x : Gate) : (s.setGate k x).vfs = s.vfs := by unfold State.setGate; generalize s.gates.set _ _ _ = m; rfl
@[simp] theorem setGate_queues (s : State) (k : Nat) (x : Gate) : (s.setGate k x).queues = s.queues := by unfold State.setGate; generalize s.gates.set _ _ _ = m; rfl
@[simp] theorem setGate_pw (s : State) (k : Nat) (x : Gate) : (s.setGate k x).pw = s.pw := by unfold State.setGate; generalize s.gates.set _ _ _ = m; rfl
@[simp] theorem setGate_ledger (s : State) (k : Nat) (x : Gate) : (s.setGate k x).ledger = s.ledger := by unfold State.setGate; generalize s.gates.set _ _ _ = m; rfl
@[simp] theorem setGate_flash (s : State) (k : Nat) (x : Gate) : (s.setGate k x).flash = s.flash := by unfold State.setGate; generalize s.gates.set _ _ _ = m; rfl
@[simp] theorem setGate_kpr (s : State) (k : Nat) (x : Gate) : (s.setGate k x).kpr = s.kpr := by unfold State.setGate; generalize s.gates.set _ _ _ = m; rfl
@[simp] theorem setGate_cur (s : State) (k : Nat) (x : Gate) : (s.setGate k x).cur = s.cur := by unfold State.setGate; generalize s.gates.set _ _ _ = m; rfl
@[simp] theorem setGate_slips (s : State) (k : Nat) (x : Gate) : (s.setGate k x).slips = s.slips := by unfold State.setGate; generalize s.gates.set _ _ _ = m; rfl
@[simp] theorem setGate_folio (s : State) (k : Nat) (x : Gate) : (s.setGate k x).folio = s.folio := by unfold State.setGate; generalize s.gates.set _ _ _ = m; rfl
@[simp] theorem setGate_dm (s : State) (k : Nat) (x : Gate) : (s.setGate k x).dm = s.dm := by unfold State.setGate; generalize s.gates.set _ _ _ = m; rfl
@[simp] theorem setGate_bootCount (s : State) (k : Nat) (x : Gate) : (s.setGate k x).bootCount = s.bootCount := by unfold State.setGate; generalize s.gates.set _ _ _ = m; rfl

@[simp] theorem modGate_pending (s : State) (k : Nat) (g : Gate → Gate) : (s.modGate k g).pending = s.pending := setGate_pending ..
@[simp] theorem modGate_fresh (s : State) (k : Nat) (g : Gate → Gate) : (s.modGate k g).fresh = s.fresh := setGate_fresh ..
@[simp] theorem modGate_fuses (s : State) (k : Nat) (g : Gate → Gate) : (s.modGate k g).fuses = s.fuses := setGate_fuses ..
@[simp] theorem modGate_regs (s : State) (k : Nat) (g : Gate → Gate) : (s.modGate k g).regs = s.regs := setGate_regs ..
@[simp] theorem modGate_harts (s : State) (k : Nat) (g : Gate → Gate) : (s.modGate k g).harts = s.harts := setGate_harts ..
@[simp] theorem modGate_cores (s : State) (k : Nat) (g : Gate → Gate) : (s.modGate k g).cores = s.cores := setGate_cores ..
@[simp] theorem modGate_caches (s : State) (k : Nat) (g : Gate → Gate) : (s.modGate k g).caches = s.caches := setGate_caches ..
@[simp] theorem modGate_dir (s : State) (k : Nat) (g : Gate → Gate) : (s.modGate k g).dir = s.dir := setGate_dir ..
@[simp] theorem modGate_llc (s : State) (k : Nat) (g : Gate → Gate) : (s.modGate k g).llc = s.llc := setGate_llc ..
@[simp] theorem modGate_slices (s : State) (k : Nat) (g : Gate → Gate) : (s.modGate k g).slices = s.slices := setGate_slices ..
@[simp] theorem modGate_nis (s : State) (k : Nat) (g : Gate → Gate) : (s.modGate k g).nis = s.nis := setGate_nis ..
@[simp] theorem modGate_outq (s : State) (k : Nat) (g : Gate → Gate) : (s.modGate k g).outq = s.outq := setGate_outq ..
@[simp] theorem modGate_net (s : State) (k : Nat) (g : Gate → Gate) : (s.modGate k g).net = s.net := setGate_net ..
@[simp] theorem modGate_reqs (s : State) (k : Nat) (g : Gate → Gate) : (s.modGate k g).reqs = s.reqs := setGate_reqs ..
@[simp] theorem modGate_ioWrites (s : State) (k : Nat) (g : Gate → Gate) : (s.modGate k g).ioWrites = s.ioWrites := setGate_ioWrites ..
@[simp] theorem modGate_works (s : State) (k : Nat) (g : Gate → Gate) : (s.modGate k g).works = s.works := setGate_works ..
@[simp] theorem modGate_cursor (s : State) (k : Nat) (g : Gate → Gate) : (s.modGate k g).cursor = s.cursor := setGate_cursor ..
@[simp] theorem modGate_fence (s : State) (k : Nat) (g : Gate → Gate) : (s.modGate k g).fence = s.fence := setGate_fence ..
@[simp] theorem modGate_fenceSeq (s : State) (k : Nat) (g : Gate → Gate) : (s.modGate k g).fenceSeq = s.fenceSeq := setGate_fenceSeq ..
@[simp] theorem modGate_flipTime (s : State) (k : Nat) (g : Gate → Gate) : (s.modGate k g).flipTime = s.flipTime := setGate_flipTime ..
@[simp] theorem modGate_meterWids (s : State) (k : Nat) (g : Gate → Gate) : (s.modGate k g).meterWids = s.meterWids := setGate_meterWids ..
@[simp] theorem modGate_broadcasts (s : State) (k : Nat) (g : Gate → Gate) : (s.modGate k g).broadcasts = s.broadcasts := setGate_broadcasts ..
@[simp] theorem modGate_flushIssuers (s : State) (k : Nat) (g : Gate → Gate) : (s.modGate k g).flushIssuers = s.flushIssuers := setGate_flushIssuers ..
@[simp] theorem modGate_flushWays (s : State) (k : Nat) (g : Gate → Gate) : (s.modGate k g).flushWays = s.flushWays := setGate_flushWays ..
@[simp] theorem modGate_flushDirWays (s : State) (k : Nat) (g : Gate → Gate) : (s.modGate k g).flushDirWays = s.flushDirWays := setGate_flushDirWays ..
@[simp] theorem modGate_mem (s : State) (k : Nat) (g : Gate → Gate) : (s.modGate k g).mem = s.mem := setGate_mem ..
@[simp] theorem modGate_mps (s : State) (k : Nat) (g : Gate → Gate) : (s.modGate k g).mps = s.mps := setGate_mps ..
@[simp] theorem modGate_deeds (s : State) (k : Nat) (g : Gate → Gate) : (s.modGate k g).deeds = s.deeds := setGate_deeds ..
@[simp] theorem modGate_deedBad (s : State) (k : Nat) (g : Gate → Gate) : (s.modGate k g).deedBad = s.deedBad := setGate_deedBad ..
@[simp] theorem modGate_deedCaches (s : State) (k : Nat) (g : Gate → Gate) : (s.modGate k g).deedCaches = s.deedCaches := setGate_deedCaches ..
@[simp] theorem modGate_deedCmds (s : State) (k : Nat) (g : Gate → Gate) : (s.modGate k g).deedCmds = s.deedCmds := setGate_deedCmds ..
@[simp] theorem modGate_deedTurn (s : State) (k : Nat) (g : Gate → Gate) : (s.modGate k g).deedTurn = s.deedTurn := setGate_deedTurn ..
@[simp] theorem modGate_keyGens (s : State) (k : Nat) (g : Gate → Gate) : (s.modGate k g).keyGens = s.keyGens := setGate_keyGens ..
@[simp] theorem modGate_keySerial (s : State) (k : Nat) (g : Gate → Gate) : (s.modGate k g).keySerial = s.keySerial := setGate_keySerial ..
@[simp] theorem modGate_keyCmd (s : State) (k : Nat) (g : Gate → Gate) : (s.modGate k g).keyCmd = s.keyCmd := setGate_keyCmd ..
@[simp] theorem modGate_bells (s : State) (k : Nat) (g : Gate → Gate) : (s.modGate k g).bells = s.bells := setGate_bells ..
@[simp] theorem modGate_bellRet (s : State) (k : Nat) (g : Gate → Gate) : (s.modGate k g).bellRet = s.bellRet := setGate_bellRet ..
@[simp] theorem modGate_aplic (s : State) (k : Nat) (g : Gate → Gate) : (s.modGate k g).aplic = s.aplic := setGate_aplic ..
@[simp] theorem modGate_aplicDom (s : State) (k : Nat) (g : Gate → Gate) : (s.modGate k g).aplicDom = s.aplicDom := setGate_aplicDom ..
@[simp] theorem modGate_pins (s : State) (k : Nat) (g : Gate → Gate) : (s.modGate k g).pins = s.pins := setGate_pins ..
@[simp] theorem modGate_links (s : State) (k : Nat) (g : Gate → Gate) : (s.modGate k g).links = s.links := setGate_links ..
@[simp] theorem modGate_gates (s : State) (k : Nat) (g : Gate → Gate) : (s.modGate k g).gates = s.gates.set {} k (g (s.gate k)) := setGate_gates ..
@[simp] theorem modGate_annals (s : State) (k : Nat) (g : Gate → Gate) : (s.modGate k g).annals = s.annals := setGate_annals ..
@[simp] theorem modGate_engines (s : State) (k : Nat) (g : Gate → Gate) : (s.modGate k g).engines = s.engines := setGate_engines ..
@[simp] theorem modGate_hps (s : State) (k : Nat) (g : Gate → Gate) : (s.modGate k g).hps = s.hps := setGate_hps ..
@[simp] theorem modGate_pf (s : State) (k : Nat) (g : Gate → Gate) : (s.modGate k g).pf = s.pf := setGate_pf ..
@[simp] theorem modGate_vfs (s : State) (k : Nat) (g : Gate → Gate) : (s.modGate k g).vfs = s.vfs := setGate_vfs ..
@[simp] theorem modGate_queues (s : State) (k : Nat) (g : Gate → Gate) : (s.modGate k g).queues = s.queues := setGate_queues ..
@[simp] theorem modGate_pw (s : State) (k : Nat) (g : Gate → Gate) : (s.modGate k g).pw = s.pw := setGate_pw ..
@[simp] theorem modGate_ledger (s : State) (k : Nat) (g : Gate → Gate) : (s.modGate k g).ledger = s.ledger := setGate_ledger ..
@[simp] theorem modGate_flash (s : State) (k : Nat) (g : Gate → Gate) : (s.modGate k g).flash = s.flash := setGate_flash ..
@[simp] theorem modGate_kpr (s : State) (k : Nat) (g : Gate → Gate) : (s.modGate k g).kpr = s.kpr := setGate_kpr ..
@[simp] theorem modGate_cur (s : State) (k : Nat) (g : Gate → Gate) : (s.modGate k g).cur = s.cur := setGate_cur ..
@[simp] theorem modGate_slips (s : State) (k : Nat) (g : Gate → Gate) : (s.modGate k g).slips = s.slips := setGate_slips ..
@[simp] theorem modGate_folio (s : State) (k : Nat) (g : Gate → Gate) : (s.modGate k g).folio = s.folio := setGate_folio ..
@[simp] theorem modGate_dm (s : State) (k : Nat) (g : Gate → Gate) : (s.modGate k g).dm = s.dm := setGate_dm ..
@[simp] theorem modGate_bootCount (s : State) (k : Nat) (g : Gate → Gate) : (s.modGate k g).bootCount = s.bootCount := setGate_bootCount ..

@[simp] theorem setEngine_pending (s : State) (e : Nat) (x : Engine) : (s.setEngine e x).pending = s.pending := by unfold State.setEngine; generalize s.engines.set _ _ _ = m; rfl
@[simp] theorem setEngine_fresh (s : State) (e : Nat) (x : Engine) : (s.setEngine e x).fresh = s.fresh := by unfold State.setEngine; generalize s.engines.set _ _ _ = m; rfl
@[simp] theorem setEngine_fuses (s : State) (e : Nat) (x : Engine) : (s.setEngine e x).fuses = s.fuses := by unfold State.setEngine; generalize s.engines.set _ _ _ = m; rfl
@[simp] theorem setEngine_regs (s : State) (e : Nat) (x : Engine) : (s.setEngine e x).regs = s.regs := by unfold State.setEngine; generalize s.engines.set _ _ _ = m; rfl
@[simp] theorem setEngine_harts (s : State) (e : Nat) (x : Engine) : (s.setEngine e x).harts = s.harts := by unfold State.setEngine; generalize s.engines.set _ _ _ = m; rfl
@[simp] theorem setEngine_cores (s : State) (e : Nat) (x : Engine) : (s.setEngine e x).cores = s.cores := by unfold State.setEngine; generalize s.engines.set _ _ _ = m; rfl
@[simp] theorem setEngine_caches (s : State) (e : Nat) (x : Engine) : (s.setEngine e x).caches = s.caches := by unfold State.setEngine; generalize s.engines.set _ _ _ = m; rfl
@[simp] theorem setEngine_dir (s : State) (e : Nat) (x : Engine) : (s.setEngine e x).dir = s.dir := by unfold State.setEngine; generalize s.engines.set _ _ _ = m; rfl
@[simp] theorem setEngine_llc (s : State) (e : Nat) (x : Engine) : (s.setEngine e x).llc = s.llc := by unfold State.setEngine; generalize s.engines.set _ _ _ = m; rfl
@[simp] theorem setEngine_slices (s : State) (e : Nat) (x : Engine) : (s.setEngine e x).slices = s.slices := by unfold State.setEngine; generalize s.engines.set _ _ _ = m; rfl
@[simp] theorem setEngine_nis (s : State) (e : Nat) (x : Engine) : (s.setEngine e x).nis = s.nis := by unfold State.setEngine; generalize s.engines.set _ _ _ = m; rfl
@[simp] theorem setEngine_outq (s : State) (e : Nat) (x : Engine) : (s.setEngine e x).outq = s.outq := by unfold State.setEngine; generalize s.engines.set _ _ _ = m; rfl
@[simp] theorem setEngine_net (s : State) (e : Nat) (x : Engine) : (s.setEngine e x).net = s.net := by unfold State.setEngine; generalize s.engines.set _ _ _ = m; rfl
@[simp] theorem setEngine_reqs (s : State) (e : Nat) (x : Engine) : (s.setEngine e x).reqs = s.reqs := by unfold State.setEngine; generalize s.engines.set _ _ _ = m; rfl
@[simp] theorem setEngine_ioWrites (s : State) (e : Nat) (x : Engine) : (s.setEngine e x).ioWrites = s.ioWrites := by unfold State.setEngine; generalize s.engines.set _ _ _ = m; rfl
@[simp] theorem setEngine_works (s : State) (e : Nat) (x : Engine) : (s.setEngine e x).works = s.works := by unfold State.setEngine; generalize s.engines.set _ _ _ = m; rfl
@[simp] theorem setEngine_cursor (s : State) (e : Nat) (x : Engine) : (s.setEngine e x).cursor = s.cursor := by unfold State.setEngine; generalize s.engines.set _ _ _ = m; rfl
@[simp] theorem setEngine_fence (s : State) (e : Nat) (x : Engine) : (s.setEngine e x).fence = s.fence := by unfold State.setEngine; generalize s.engines.set _ _ _ = m; rfl
@[simp] theorem setEngine_fenceSeq (s : State) (e : Nat) (x : Engine) : (s.setEngine e x).fenceSeq = s.fenceSeq := by unfold State.setEngine; generalize s.engines.set _ _ _ = m; rfl
@[simp] theorem setEngine_flipTime (s : State) (e : Nat) (x : Engine) : (s.setEngine e x).flipTime = s.flipTime := by unfold State.setEngine; generalize s.engines.set _ _ _ = m; rfl
@[simp] theorem setEngine_meterWids (s : State) (e : Nat) (x : Engine) : (s.setEngine e x).meterWids = s.meterWids := by unfold State.setEngine; generalize s.engines.set _ _ _ = m; rfl
@[simp] theorem setEngine_broadcasts (s : State) (e : Nat) (x : Engine) : (s.setEngine e x).broadcasts = s.broadcasts := by unfold State.setEngine; generalize s.engines.set _ _ _ = m; rfl
@[simp] theorem setEngine_flushIssuers (s : State) (e : Nat) (x : Engine) : (s.setEngine e x).flushIssuers = s.flushIssuers := by unfold State.setEngine; generalize s.engines.set _ _ _ = m; rfl
@[simp] theorem setEngine_flushWays (s : State) (e : Nat) (x : Engine) : (s.setEngine e x).flushWays = s.flushWays := by unfold State.setEngine; generalize s.engines.set _ _ _ = m; rfl
@[simp] theorem setEngine_flushDirWays (s : State) (e : Nat) (x : Engine) : (s.setEngine e x).flushDirWays = s.flushDirWays := by unfold State.setEngine; generalize s.engines.set _ _ _ = m; rfl
@[simp] theorem setEngine_mem (s : State) (e : Nat) (x : Engine) : (s.setEngine e x).mem = s.mem := by unfold State.setEngine; generalize s.engines.set _ _ _ = m; rfl
@[simp] theorem setEngine_mps (s : State) (e : Nat) (x : Engine) : (s.setEngine e x).mps = s.mps := by unfold State.setEngine; generalize s.engines.set _ _ _ = m; rfl
@[simp] theorem setEngine_deeds (s : State) (e : Nat) (x : Engine) : (s.setEngine e x).deeds = s.deeds := by unfold State.setEngine; generalize s.engines.set _ _ _ = m; rfl
@[simp] theorem setEngine_deedBad (s : State) (e : Nat) (x : Engine) : (s.setEngine e x).deedBad = s.deedBad := by unfold State.setEngine; generalize s.engines.set _ _ _ = m; rfl
@[simp] theorem setEngine_deedCaches (s : State) (e : Nat) (x : Engine) : (s.setEngine e x).deedCaches = s.deedCaches := by unfold State.setEngine; generalize s.engines.set _ _ _ = m; rfl
@[simp] theorem setEngine_deedCmds (s : State) (e : Nat) (x : Engine) : (s.setEngine e x).deedCmds = s.deedCmds := by unfold State.setEngine; generalize s.engines.set _ _ _ = m; rfl
@[simp] theorem setEngine_deedTurn (s : State) (e : Nat) (x : Engine) : (s.setEngine e x).deedTurn = s.deedTurn := by unfold State.setEngine; generalize s.engines.set _ _ _ = m; rfl
@[simp] theorem setEngine_keyGens (s : State) (e : Nat) (x : Engine) : (s.setEngine e x).keyGens = s.keyGens := by unfold State.setEngine; generalize s.engines.set _ _ _ = m; rfl
@[simp] theorem setEngine_keySerial (s : State) (e : Nat) (x : Engine) : (s.setEngine e x).keySerial = s.keySerial := by unfold State.setEngine; generalize s.engines.set _ _ _ = m; rfl
@[simp] theorem setEngine_keyCmd (s : State) (e : Nat) (x : Engine) : (s.setEngine e x).keyCmd = s.keyCmd := by unfold State.setEngine; generalize s.engines.set _ _ _ = m; rfl
@[simp] theorem setEngine_bells (s : State) (e : Nat) (x : Engine) : (s.setEngine e x).bells = s.bells := by unfold State.setEngine; generalize s.engines.set _ _ _ = m; rfl
@[simp] theorem setEngine_bellRet (s : State) (e : Nat) (x : Engine) : (s.setEngine e x).bellRet = s.bellRet := by unfold State.setEngine; generalize s.engines.set _ _ _ = m; rfl
@[simp] theorem setEngine_aplic (s : State) (e : Nat) (x : Engine) : (s.setEngine e x).aplic = s.aplic := by unfold State.setEngine; generalize s.engines.set _ _ _ = m; rfl
@[simp] theorem setEngine_aplicDom (s : State) (e : Nat) (x : Engine) : (s.setEngine e x).aplicDom = s.aplicDom := by unfold State.setEngine; generalize s.engines.set _ _ _ = m; rfl
@[simp] theorem setEngine_pins (s : State) (e : Nat) (x : Engine) : (s.setEngine e x).pins = s.pins := by unfold State.setEngine; generalize s.engines.set _ _ _ = m; rfl
@[simp] theorem setEngine_links (s : State) (e : Nat) (x : Engine) : (s.setEngine e x).links = s.links := by unfold State.setEngine; generalize s.engines.set _ _ _ = m; rfl
@[simp] theorem setEngine_gates (s : State) (e : Nat) (x : Engine) : (s.setEngine e x).gates = s.gates := by unfold State.setEngine; generalize s.engines.set _ _ _ = m; rfl
@[simp] theorem setEngine_annals (s : State) (e : Nat) (x : Engine) : (s.setEngine e x).annals = s.annals := by unfold State.setEngine; generalize s.engines.set _ _ _ = m; rfl
@[simp] theorem setEngine_engines (s : State) (e : Nat) (x : Engine) : (s.setEngine e x).engines = s.engines.set {} e x := by unfold State.setEngine; generalize s.engines.set _ _ _ = m; rfl
@[simp] theorem setEngine_hps (s : State) (e : Nat) (x : Engine) : (s.setEngine e x).hps = s.hps := by unfold State.setEngine; generalize s.engines.set _ _ _ = m; rfl
@[simp] theorem setEngine_pf (s : State) (e : Nat) (x : Engine) : (s.setEngine e x).pf = s.pf := by unfold State.setEngine; generalize s.engines.set _ _ _ = m; rfl
@[simp] theorem setEngine_vfs (s : State) (e : Nat) (x : Engine) : (s.setEngine e x).vfs = s.vfs := by unfold State.setEngine; generalize s.engines.set _ _ _ = m; rfl
@[simp] theorem setEngine_queues (s : State) (e : Nat) (x : Engine) : (s.setEngine e x).queues = s.queues := by unfold State.setEngine; generalize s.engines.set _ _ _ = m; rfl
@[simp] theorem setEngine_pw (s : State) (e : Nat) (x : Engine) : (s.setEngine e x).pw = s.pw := by unfold State.setEngine; generalize s.engines.set _ _ _ = m; rfl
@[simp] theorem setEngine_ledger (s : State) (e : Nat) (x : Engine) : (s.setEngine e x).ledger = s.ledger := by unfold State.setEngine; generalize s.engines.set _ _ _ = m; rfl
@[simp] theorem setEngine_flash (s : State) (e : Nat) (x : Engine) : (s.setEngine e x).flash = s.flash := by unfold State.setEngine; generalize s.engines.set _ _ _ = m; rfl
@[simp] theorem setEngine_kpr (s : State) (e : Nat) (x : Engine) : (s.setEngine e x).kpr = s.kpr := by unfold State.setEngine; generalize s.engines.set _ _ _ = m; rfl
@[simp] theorem setEngine_cur (s : State) (e : Nat) (x : Engine) : (s.setEngine e x).cur = s.cur := by unfold State.setEngine; generalize s.engines.set _ _ _ = m; rfl
@[simp] theorem setEngine_slips (s : State) (e : Nat) (x : Engine) : (s.setEngine e x).slips = s.slips := by unfold State.setEngine; generalize s.engines.set _ _ _ = m; rfl
@[simp] theorem setEngine_folio (s : State) (e : Nat) (x : Engine) : (s.setEngine e x).folio = s.folio := by unfold State.setEngine; generalize s.engines.set _ _ _ = m; rfl
@[simp] theorem setEngine_dm (s : State) (e : Nat) (x : Engine) : (s.setEngine e x).dm = s.dm := by unfold State.setEngine; generalize s.engines.set _ _ _ = m; rfl
@[simp] theorem setEngine_bootCount (s : State) (e : Nat) (x : Engine) : (s.setEngine e x).bootCount = s.bootCount := by unfold State.setEngine; generalize s.engines.set _ _ _ = m; rfl

@[simp] theorem setGranule_pending (s : State) (g : Nat) (x : Granule) : (s.setGranule g x).pending = s.pending := by unfold State.setGranule; generalize s.mem.set _ _ _ = m; rfl
@[simp] theorem setGranule_fresh (s : State) (g : Nat) (x : Granule) : (s.setGranule g x).fresh = s.fresh := by unfold State.setGranule; generalize s.mem.set _ _ _ = m; rfl
@[simp] theorem setGranule_fuses (s : State) (g : Nat) (x : Granule) : (s.setGranule g x).fuses = s.fuses := by unfold State.setGranule; generalize s.mem.set _ _ _ = m; rfl
@[simp] theorem setGranule_regs (s : State) (g : Nat) (x : Granule) : (s.setGranule g x).regs = s.regs := by unfold State.setGranule; generalize s.mem.set _ _ _ = m; rfl
@[simp] theorem setGranule_harts (s : State) (g : Nat) (x : Granule) : (s.setGranule g x).harts = s.harts := by unfold State.setGranule; generalize s.mem.set _ _ _ = m; rfl
@[simp] theorem setGranule_cores (s : State) (g : Nat) (x : Granule) : (s.setGranule g x).cores = s.cores := by unfold State.setGranule; generalize s.mem.set _ _ _ = m; rfl
@[simp] theorem setGranule_caches (s : State) (g : Nat) (x : Granule) : (s.setGranule g x).caches = s.caches := by unfold State.setGranule; generalize s.mem.set _ _ _ = m; rfl
@[simp] theorem setGranule_dir (s : State) (g : Nat) (x : Granule) : (s.setGranule g x).dir = s.dir := by unfold State.setGranule; generalize s.mem.set _ _ _ = m; rfl
@[simp] theorem setGranule_llc (s : State) (g : Nat) (x : Granule) : (s.setGranule g x).llc = s.llc := by unfold State.setGranule; generalize s.mem.set _ _ _ = m; rfl
@[simp] theorem setGranule_slices (s : State) (g : Nat) (x : Granule) : (s.setGranule g x).slices = s.slices := by unfold State.setGranule; generalize s.mem.set _ _ _ = m; rfl
@[simp] theorem setGranule_nis (s : State) (g : Nat) (x : Granule) : (s.setGranule g x).nis = s.nis := by unfold State.setGranule; generalize s.mem.set _ _ _ = m; rfl
@[simp] theorem setGranule_outq (s : State) (g : Nat) (x : Granule) : (s.setGranule g x).outq = s.outq := by unfold State.setGranule; generalize s.mem.set _ _ _ = m; rfl
@[simp] theorem setGranule_net (s : State) (g : Nat) (x : Granule) : (s.setGranule g x).net = s.net := by unfold State.setGranule; generalize s.mem.set _ _ _ = m; rfl
@[simp] theorem setGranule_reqs (s : State) (g : Nat) (x : Granule) : (s.setGranule g x).reqs = s.reqs := by unfold State.setGranule; generalize s.mem.set _ _ _ = m; rfl
@[simp] theorem setGranule_ioWrites (s : State) (g : Nat) (x : Granule) : (s.setGranule g x).ioWrites = s.ioWrites := by unfold State.setGranule; generalize s.mem.set _ _ _ = m; rfl
@[simp] theorem setGranule_works (s : State) (g : Nat) (x : Granule) : (s.setGranule g x).works = s.works := by unfold State.setGranule; generalize s.mem.set _ _ _ = m; rfl
@[simp] theorem setGranule_cursor (s : State) (g : Nat) (x : Granule) : (s.setGranule g x).cursor = s.cursor := by unfold State.setGranule; generalize s.mem.set _ _ _ = m; rfl
@[simp] theorem setGranule_fence (s : State) (g : Nat) (x : Granule) : (s.setGranule g x).fence = s.fence := by unfold State.setGranule; generalize s.mem.set _ _ _ = m; rfl
@[simp] theorem setGranule_fenceSeq (s : State) (g : Nat) (x : Granule) : (s.setGranule g x).fenceSeq = s.fenceSeq := by unfold State.setGranule; generalize s.mem.set _ _ _ = m; rfl
@[simp] theorem setGranule_flipTime (s : State) (g : Nat) (x : Granule) : (s.setGranule g x).flipTime = s.flipTime := by unfold State.setGranule; generalize s.mem.set _ _ _ = m; rfl
@[simp] theorem setGranule_meterWids (s : State) (g : Nat) (x : Granule) : (s.setGranule g x).meterWids = s.meterWids := by unfold State.setGranule; generalize s.mem.set _ _ _ = m; rfl
@[simp] theorem setGranule_broadcasts (s : State) (g : Nat) (x : Granule) : (s.setGranule g x).broadcasts = s.broadcasts := by unfold State.setGranule; generalize s.mem.set _ _ _ = m; rfl
@[simp] theorem setGranule_flushIssuers (s : State) (g : Nat) (x : Granule) : (s.setGranule g x).flushIssuers = s.flushIssuers := by unfold State.setGranule; generalize s.mem.set _ _ _ = m; rfl
@[simp] theorem setGranule_flushWays (s : State) (g : Nat) (x : Granule) : (s.setGranule g x).flushWays = s.flushWays := by unfold State.setGranule; generalize s.mem.set _ _ _ = m; rfl
@[simp] theorem setGranule_flushDirWays (s : State) (g : Nat) (x : Granule) : (s.setGranule g x).flushDirWays = s.flushDirWays := by unfold State.setGranule; generalize s.mem.set _ _ _ = m; rfl
@[simp] theorem setGranule_mem (s : State) (g : Nat) (x : Granule) : (s.setGranule g x).mem = s.mem.set {} g x := by unfold State.setGranule; generalize s.mem.set _ _ _ = m; rfl
@[simp] theorem setGranule_mps (s : State) (g : Nat) (x : Granule) : (s.setGranule g x).mps = s.mps := by unfold State.setGranule; generalize s.mem.set _ _ _ = m; rfl
@[simp] theorem setGranule_deeds (s : State) (g : Nat) (x : Granule) : (s.setGranule g x).deeds = s.deeds := by unfold State.setGranule; generalize s.mem.set _ _ _ = m; rfl
@[simp] theorem setGranule_deedBad (s : State) (g : Nat) (x : Granule) : (s.setGranule g x).deedBad = s.deedBad := by unfold State.setGranule; generalize s.mem.set _ _ _ = m; rfl
@[simp] theorem setGranule_deedCaches (s : State) (g : Nat) (x : Granule) : (s.setGranule g x).deedCaches = s.deedCaches := by unfold State.setGranule; generalize s.mem.set _ _ _ = m; rfl
@[simp] theorem setGranule_deedCmds (s : State) (g : Nat) (x : Granule) : (s.setGranule g x).deedCmds = s.deedCmds := by unfold State.setGranule; generalize s.mem.set _ _ _ = m; rfl
@[simp] theorem setGranule_deedTurn (s : State) (g : Nat) (x : Granule) : (s.setGranule g x).deedTurn = s.deedTurn := by unfold State.setGranule; generalize s.mem.set _ _ _ = m; rfl
@[simp] theorem setGranule_keyGens (s : State) (g : Nat) (x : Granule) : (s.setGranule g x).keyGens = s.keyGens := by unfold State.setGranule; generalize s.mem.set _ _ _ = m; rfl
@[simp] theorem setGranule_keySerial (s : State) (g : Nat) (x : Granule) : (s.setGranule g x).keySerial = s.keySerial := by unfold State.setGranule; generalize s.mem.set _ _ _ = m; rfl
@[simp] theorem setGranule_keyCmd (s : State) (g : Nat) (x : Granule) : (s.setGranule g x).keyCmd = s.keyCmd := by unfold State.setGranule; generalize s.mem.set _ _ _ = m; rfl
@[simp] theorem setGranule_bells (s : State) (g : Nat) (x : Granule) : (s.setGranule g x).bells = s.bells := by unfold State.setGranule; generalize s.mem.set _ _ _ = m; rfl
@[simp] theorem setGranule_bellRet (s : State) (g : Nat) (x : Granule) : (s.setGranule g x).bellRet = s.bellRet := by unfold State.setGranule; generalize s.mem.set _ _ _ = m; rfl
@[simp] theorem setGranule_aplic (s : State) (g : Nat) (x : Granule) : (s.setGranule g x).aplic = s.aplic := by unfold State.setGranule; generalize s.mem.set _ _ _ = m; rfl
@[simp] theorem setGranule_aplicDom (s : State) (g : Nat) (x : Granule) : (s.setGranule g x).aplicDom = s.aplicDom := by unfold State.setGranule; generalize s.mem.set _ _ _ = m; rfl
@[simp] theorem setGranule_pins (s : State) (g : Nat) (x : Granule) : (s.setGranule g x).pins = s.pins := by unfold State.setGranule; generalize s.mem.set _ _ _ = m; rfl
@[simp] theorem setGranule_links (s : State) (g : Nat) (x : Granule) : (s.setGranule g x).links = s.links := by unfold State.setGranule; generalize s.mem.set _ _ _ = m; rfl
@[simp] theorem setGranule_gates (s : State) (g : Nat) (x : Granule) : (s.setGranule g x).gates = s.gates := by unfold State.setGranule; generalize s.mem.set _ _ _ = m; rfl
@[simp] theorem setGranule_annals (s : State) (g : Nat) (x : Granule) : (s.setGranule g x).annals = s.annals := by unfold State.setGranule; generalize s.mem.set _ _ _ = m; rfl
@[simp] theorem setGranule_engines (s : State) (g : Nat) (x : Granule) : (s.setGranule g x).engines = s.engines := by unfold State.setGranule; generalize s.mem.set _ _ _ = m; rfl
@[simp] theorem setGranule_hps (s : State) (g : Nat) (x : Granule) : (s.setGranule g x).hps = s.hps := by unfold State.setGranule; generalize s.mem.set _ _ _ = m; rfl
@[simp] theorem setGranule_pf (s : State) (g : Nat) (x : Granule) : (s.setGranule g x).pf = s.pf := by unfold State.setGranule; generalize s.mem.set _ _ _ = m; rfl
@[simp] theorem setGranule_vfs (s : State) (g : Nat) (x : Granule) : (s.setGranule g x).vfs = s.vfs := by unfold State.setGranule; generalize s.mem.set _ _ _ = m; rfl
@[simp] theorem setGranule_queues (s : State) (g : Nat) (x : Granule) : (s.setGranule g x).queues = s.queues := by unfold State.setGranule; generalize s.mem.set _ _ _ = m; rfl
@[simp] theorem setGranule_pw (s : State) (g : Nat) (x : Granule) : (s.setGranule g x).pw = s.pw := by unfold State.setGranule; generalize s.mem.set _ _ _ = m; rfl
@[simp] theorem setGranule_ledger (s : State) (g : Nat) (x : Granule) : (s.setGranule g x).ledger = s.ledger := by unfold State.setGranule; generalize s.mem.set _ _ _ = m; rfl
@[simp] theorem setGranule_flash (s : State) (g : Nat) (x : Granule) : (s.setGranule g x).flash = s.flash := by unfold State.setGranule; generalize s.mem.set _ _ _ = m; rfl
@[simp] theorem setGranule_kpr (s : State) (g : Nat) (x : Granule) : (s.setGranule g x).kpr = s.kpr := by unfold State.setGranule; generalize s.mem.set _ _ _ = m; rfl
@[simp] theorem setGranule_cur (s : State) (g : Nat) (x : Granule) : (s.setGranule g x).cur = s.cur := by unfold State.setGranule; generalize s.mem.set _ _ _ = m; rfl
@[simp] theorem setGranule_slips (s : State) (g : Nat) (x : Granule) : (s.setGranule g x).slips = s.slips := by unfold State.setGranule; generalize s.mem.set _ _ _ = m; rfl
@[simp] theorem setGranule_folio (s : State) (g : Nat) (x : Granule) : (s.setGranule g x).folio = s.folio := by unfold State.setGranule; generalize s.mem.set _ _ _ = m; rfl
@[simp] theorem setGranule_dm (s : State) (g : Nat) (x : Granule) : (s.setGranule g x).dm = s.dm := by unfold State.setGranule; generalize s.mem.set _ _ _ = m; rfl
@[simp] theorem setGranule_bootCount (s : State) (g : Nat) (x : Granule) : (s.setGranule g x).bootCount = s.bootCount := by unfold State.setGranule; generalize s.mem.set _ _ _ = m; rfl

@[simp] theorem setAplic_pending (s : State) (k : Nat) (x : AplicSrc) : (s.setAplic k x).pending = s.pending := by unfold State.setAplic; generalize s.aplic.set _ _ _ = m; rfl
@[simp] theorem setAplic_fresh (s : State) (k : Nat) (x : AplicSrc) : (s.setAplic k x).fresh = s.fresh := by unfold State.setAplic; generalize s.aplic.set _ _ _ = m; rfl
@[simp] theorem setAplic_fuses (s : State) (k : Nat) (x : AplicSrc) : (s.setAplic k x).fuses = s.fuses := by unfold State.setAplic; generalize s.aplic.set _ _ _ = m; rfl
@[simp] theorem setAplic_regs (s : State) (k : Nat) (x : AplicSrc) : (s.setAplic k x).regs = s.regs := by unfold State.setAplic; generalize s.aplic.set _ _ _ = m; rfl
@[simp] theorem setAplic_harts (s : State) (k : Nat) (x : AplicSrc) : (s.setAplic k x).harts = s.harts := by unfold State.setAplic; generalize s.aplic.set _ _ _ = m; rfl
@[simp] theorem setAplic_cores (s : State) (k : Nat) (x : AplicSrc) : (s.setAplic k x).cores = s.cores := by unfold State.setAplic; generalize s.aplic.set _ _ _ = m; rfl
@[simp] theorem setAplic_caches (s : State) (k : Nat) (x : AplicSrc) : (s.setAplic k x).caches = s.caches := by unfold State.setAplic; generalize s.aplic.set _ _ _ = m; rfl
@[simp] theorem setAplic_dir (s : State) (k : Nat) (x : AplicSrc) : (s.setAplic k x).dir = s.dir := by unfold State.setAplic; generalize s.aplic.set _ _ _ = m; rfl
@[simp] theorem setAplic_llc (s : State) (k : Nat) (x : AplicSrc) : (s.setAplic k x).llc = s.llc := by unfold State.setAplic; generalize s.aplic.set _ _ _ = m; rfl
@[simp] theorem setAplic_slices (s : State) (k : Nat) (x : AplicSrc) : (s.setAplic k x).slices = s.slices := by unfold State.setAplic; generalize s.aplic.set _ _ _ = m; rfl
@[simp] theorem setAplic_nis (s : State) (k : Nat) (x : AplicSrc) : (s.setAplic k x).nis = s.nis := by unfold State.setAplic; generalize s.aplic.set _ _ _ = m; rfl
@[simp] theorem setAplic_outq (s : State) (k : Nat) (x : AplicSrc) : (s.setAplic k x).outq = s.outq := by unfold State.setAplic; generalize s.aplic.set _ _ _ = m; rfl
@[simp] theorem setAplic_net (s : State) (k : Nat) (x : AplicSrc) : (s.setAplic k x).net = s.net := by unfold State.setAplic; generalize s.aplic.set _ _ _ = m; rfl
@[simp] theorem setAplic_reqs (s : State) (k : Nat) (x : AplicSrc) : (s.setAplic k x).reqs = s.reqs := by unfold State.setAplic; generalize s.aplic.set _ _ _ = m; rfl
@[simp] theorem setAplic_ioWrites (s : State) (k : Nat) (x : AplicSrc) : (s.setAplic k x).ioWrites = s.ioWrites := by unfold State.setAplic; generalize s.aplic.set _ _ _ = m; rfl
@[simp] theorem setAplic_works (s : State) (k : Nat) (x : AplicSrc) : (s.setAplic k x).works = s.works := by unfold State.setAplic; generalize s.aplic.set _ _ _ = m; rfl
@[simp] theorem setAplic_cursor (s : State) (k : Nat) (x : AplicSrc) : (s.setAplic k x).cursor = s.cursor := by unfold State.setAplic; generalize s.aplic.set _ _ _ = m; rfl
@[simp] theorem setAplic_fence (s : State) (k : Nat) (x : AplicSrc) : (s.setAplic k x).fence = s.fence := by unfold State.setAplic; generalize s.aplic.set _ _ _ = m; rfl
@[simp] theorem setAplic_fenceSeq (s : State) (k : Nat) (x : AplicSrc) : (s.setAplic k x).fenceSeq = s.fenceSeq := by unfold State.setAplic; generalize s.aplic.set _ _ _ = m; rfl
@[simp] theorem setAplic_flipTime (s : State) (k : Nat) (x : AplicSrc) : (s.setAplic k x).flipTime = s.flipTime := by unfold State.setAplic; generalize s.aplic.set _ _ _ = m; rfl
@[simp] theorem setAplic_meterWids (s : State) (k : Nat) (x : AplicSrc) : (s.setAplic k x).meterWids = s.meterWids := by unfold State.setAplic; generalize s.aplic.set _ _ _ = m; rfl
@[simp] theorem setAplic_broadcasts (s : State) (k : Nat) (x : AplicSrc) : (s.setAplic k x).broadcasts = s.broadcasts := by unfold State.setAplic; generalize s.aplic.set _ _ _ = m; rfl
@[simp] theorem setAplic_flushIssuers (s : State) (k : Nat) (x : AplicSrc) : (s.setAplic k x).flushIssuers = s.flushIssuers := by unfold State.setAplic; generalize s.aplic.set _ _ _ = m; rfl
@[simp] theorem setAplic_flushWays (s : State) (k : Nat) (x : AplicSrc) : (s.setAplic k x).flushWays = s.flushWays := by unfold State.setAplic; generalize s.aplic.set _ _ _ = m; rfl
@[simp] theorem setAplic_flushDirWays (s : State) (k : Nat) (x : AplicSrc) : (s.setAplic k x).flushDirWays = s.flushDirWays := by unfold State.setAplic; generalize s.aplic.set _ _ _ = m; rfl
@[simp] theorem setAplic_mem (s : State) (k : Nat) (x : AplicSrc) : (s.setAplic k x).mem = s.mem := by unfold State.setAplic; generalize s.aplic.set _ _ _ = m; rfl
@[simp] theorem setAplic_mps (s : State) (k : Nat) (x : AplicSrc) : (s.setAplic k x).mps = s.mps := by unfold State.setAplic; generalize s.aplic.set _ _ _ = m; rfl
@[simp] theorem setAplic_deeds (s : State) (k : Nat) (x : AplicSrc) : (s.setAplic k x).deeds = s.deeds := by unfold State.setAplic; generalize s.aplic.set _ _ _ = m; rfl
@[simp] theorem setAplic_deedBad (s : State) (k : Nat) (x : AplicSrc) : (s.setAplic k x).deedBad = s.deedBad := by unfold State.setAplic; generalize s.aplic.set _ _ _ = m; rfl
@[simp] theorem setAplic_deedCaches (s : State) (k : Nat) (x : AplicSrc) : (s.setAplic k x).deedCaches = s.deedCaches := by unfold State.setAplic; generalize s.aplic.set _ _ _ = m; rfl
@[simp] theorem setAplic_deedCmds (s : State) (k : Nat) (x : AplicSrc) : (s.setAplic k x).deedCmds = s.deedCmds := by unfold State.setAplic; generalize s.aplic.set _ _ _ = m; rfl
@[simp] theorem setAplic_deedTurn (s : State) (k : Nat) (x : AplicSrc) : (s.setAplic k x).deedTurn = s.deedTurn := by unfold State.setAplic; generalize s.aplic.set _ _ _ = m; rfl
@[simp] theorem setAplic_keyGens (s : State) (k : Nat) (x : AplicSrc) : (s.setAplic k x).keyGens = s.keyGens := by unfold State.setAplic; generalize s.aplic.set _ _ _ = m; rfl
@[simp] theorem setAplic_keySerial (s : State) (k : Nat) (x : AplicSrc) : (s.setAplic k x).keySerial = s.keySerial := by unfold State.setAplic; generalize s.aplic.set _ _ _ = m; rfl
@[simp] theorem setAplic_keyCmd (s : State) (k : Nat) (x : AplicSrc) : (s.setAplic k x).keyCmd = s.keyCmd := by unfold State.setAplic; generalize s.aplic.set _ _ _ = m; rfl
@[simp] theorem setAplic_bells (s : State) (k : Nat) (x : AplicSrc) : (s.setAplic k x).bells = s.bells := by unfold State.setAplic; generalize s.aplic.set _ _ _ = m; rfl
@[simp] theorem setAplic_bellRet (s : State) (k : Nat) (x : AplicSrc) : (s.setAplic k x).bellRet = s.bellRet := by unfold State.setAplic; generalize s.aplic.set _ _ _ = m; rfl
@[simp] theorem setAplic_aplic (s : State) (k : Nat) (x : AplicSrc) : (s.setAplic k x).aplic = s.aplic.set {} k x := by unfold State.setAplic; generalize s.aplic.set _ _ _ = m; rfl
@[simp] theorem setAplic_aplicDom (s : State) (k : Nat) (x : AplicSrc) : (s.setAplic k x).aplicDom = s.aplicDom := by unfold State.setAplic; generalize s.aplic.set _ _ _ = m; rfl
@[simp] theorem setAplic_pins (s : State) (k : Nat) (x : AplicSrc) : (s.setAplic k x).pins = s.pins := by unfold State.setAplic; generalize s.aplic.set _ _ _ = m; rfl
@[simp] theorem setAplic_links (s : State) (k : Nat) (x : AplicSrc) : (s.setAplic k x).links = s.links := by unfold State.setAplic; generalize s.aplic.set _ _ _ = m; rfl
@[simp] theorem setAplic_gates (s : State) (k : Nat) (x : AplicSrc) : (s.setAplic k x).gates = s.gates := by unfold State.setAplic; generalize s.aplic.set _ _ _ = m; rfl
@[simp] theorem setAplic_annals (s : State) (k : Nat) (x : AplicSrc) : (s.setAplic k x).annals = s.annals := by unfold State.setAplic; generalize s.aplic.set _ _ _ = m; rfl
@[simp] theorem setAplic_engines (s : State) (k : Nat) (x : AplicSrc) : (s.setAplic k x).engines = s.engines := by unfold State.setAplic; generalize s.aplic.set _ _ _ = m; rfl
@[simp] theorem setAplic_hps (s : State) (k : Nat) (x : AplicSrc) : (s.setAplic k x).hps = s.hps := by unfold State.setAplic; generalize s.aplic.set _ _ _ = m; rfl
@[simp] theorem setAplic_pf (s : State) (k : Nat) (x : AplicSrc) : (s.setAplic k x).pf = s.pf := by unfold State.setAplic; generalize s.aplic.set _ _ _ = m; rfl
@[simp] theorem setAplic_vfs (s : State) (k : Nat) (x : AplicSrc) : (s.setAplic k x).vfs = s.vfs := by unfold State.setAplic; generalize s.aplic.set _ _ _ = m; rfl
@[simp] theorem setAplic_queues (s : State) (k : Nat) (x : AplicSrc) : (s.setAplic k x).queues = s.queues := by unfold State.setAplic; generalize s.aplic.set _ _ _ = m; rfl
@[simp] theorem setAplic_pw (s : State) (k : Nat) (x : AplicSrc) : (s.setAplic k x).pw = s.pw := by unfold State.setAplic; generalize s.aplic.set _ _ _ = m; rfl
@[simp] theorem setAplic_ledger (s : State) (k : Nat) (x : AplicSrc) : (s.setAplic k x).ledger = s.ledger := by unfold State.setAplic; generalize s.aplic.set _ _ _ = m; rfl
@[simp] theorem setAplic_flash (s : State) (k : Nat) (x : AplicSrc) : (s.setAplic k x).flash = s.flash := by unfold State.setAplic; generalize s.aplic.set _ _ _ = m; rfl
@[simp] theorem setAplic_kpr (s : State) (k : Nat) (x : AplicSrc) : (s.setAplic k x).kpr = s.kpr := by unfold State.setAplic; generalize s.aplic.set _ _ _ = m; rfl
@[simp] theorem setAplic_cur (s : State) (k : Nat) (x : AplicSrc) : (s.setAplic k x).cur = s.cur := by unfold State.setAplic; generalize s.aplic.set _ _ _ = m; rfl
@[simp] theorem setAplic_slips (s : State) (k : Nat) (x : AplicSrc) : (s.setAplic k x).slips = s.slips := by unfold State.setAplic; generalize s.aplic.set _ _ _ = m; rfl
@[simp] theorem setAplic_folio (s : State) (k : Nat) (x : AplicSrc) : (s.setAplic k x).folio = s.folio := by unfold State.setAplic; generalize s.aplic.set _ _ _ = m; rfl
@[simp] theorem setAplic_dm (s : State) (k : Nat) (x : AplicSrc) : (s.setAplic k x).dm = s.dm := by unfold State.setAplic; generalize s.aplic.set _ _ _ = m; rfl
@[simp] theorem setAplic_bootCount (s : State) (k : Nat) (x : AplicSrc) : (s.setAplic k x).bootCount = s.bootCount := by unfold State.setAplic; generalize s.aplic.set _ _ _ = m; rfl

end Sys2Proof.Laws
end

