-- ==== Sys2Proof/Laws/Regs.lean ====
section
/-! SUPPORT. The laws of registers and their fields: a field reads what was written to it, and a write leaves every other field and register alone (R7 to R9). -/
namespace Sys2Proof.Laws

open Sys2Proof.Machine

/-! ### Fields of a word -/

theorem getLsbD_putBits (w : Word) (l n v i : Nat) :
    (putBits w l n v).getLsbD i = (decide (i < 64) && if l ≤ i ∧ i < l + n then v.testBit (i - l) else w.getLsbD i) := by
  unfold putBits
  simp only [w64, BitVec.getLsbD_or, BitVec.getLsbD_and, BitVec.getLsbD_not, BitVec.getLsbD_ofNat, Nat.testBit_mul_two_pow, Nat.testBit_two_pow_sub_one,
    Nat.testBit_mod_two_pow]
  by_cases h : i < 64
  · by_cases h1 : l ≤ i
    · by_cases h2 : i < l + n
      · have : i - l < n := by omega
        simp [h, h1, h2, this]
      · have : ¬ i - l < n := by omega
        simp [h, h1, h2, this]
    · simp [h, h1]
  · simp [h]

theorem testBit_bitsOf (w : Word) (l n i : Nat) : (bitsOf w l n).testBit i = (decide (i < n) && w.getLsbD (i + l)) := by
  unfold bitsOf
  rw [Nat.testBit_mod_two_pow, Nat.testBit_div_two_pow, BitVec.testBit_toNat]

theorem bitsOf_putBits_same (w : Word) (l n v : Nat) (h : l + n ≤ 64) : bitsOf (putBits w l n v) l n = v % 2 ^ n := by
  apply Nat.eq_of_testBit_eq
  intro i
  rw [testBit_bitsOf, getLsbD_putBits, Nat.testBit_mod_two_pow]
  by_cases hi : i < n
  · have h1 : i + l < 64 := by omega
    have h2 : l ≤ i + l ∧ i + l < l + n := by omega
    simp [hi, h1, h2]
  · simp [hi]

theorem bitsOf_putBits_other (w : Word) (l n v a b : Nat) (h : l + n ≤ a ∨ a + b ≤ l) : bitsOf (putBits w l n v) a b = bitsOf w a b := by
  apply Nat.eq_of_testBit_eq
  intro i
  rw [testBit_bitsOf, getLsbD_putBits, testBit_bitsOf]
  by_cases hi : i < b
  · have h2 : ¬ (l ≤ i + a ∧ i + a < l + n) := by omega
    rw [if_neg h2]
    by_cases h3 : i + a < 64
    · simp [h3]
    · have : w.getLsbD (i + a) = false := BitVec.getLsbD_of_ge _ _ (by omega)
      simp [h3, this]
  · simp [hi]

/-! ### The register file -/

theorem ctorIdx_inj (r r' : RegName) (h : r.ctorIdx = r'.ctorIdx) : r = r' := by
  rw [← RegName.ofNat_ctorIdx r, h, RegName.ofNat_ctorIdx]

theorem key_inj (a b u v i j : Nat) (h : a * 2 ^ 21 + u % 512 * 2 ^ 12 + i % 4096 = b * 2 ^ 21 + v % 512 * 2 ^ 12 + j % 4096) :
    a = b ∧ u % 512 = v % 512 ∧ i % 4096 = j % 4096 := by
  have h1 : u % 512 < 512 := Nat.mod_lt _ (by decide)
  have h2 : v % 512 < 512 := Nat.mod_lt _ (by decide)
  have h3 : i % 4096 < 4096 := Nat.mod_lt _ (by decide)
  have h4 : j % 4096 < 4096 := Nat.mod_lt _ (by decide)
  refine ⟨?_, ?_, ?_⟩ <;> omega

/-- Two registers share a key only where they are the same register. -/
theorem regKey_inj (r r' : RegName) (u u' i i' : Nat) (h : regKey r u i = regKey r' u' i') : r = r' ∧ u % 512 = u' % 512 ∧ i % 4096 = i' % 4096 := by
  rw [regKey, regKey] at h
  have k := key_inj _ _ _ _ _ _ h
  exact ⟨ctorIdx_inj _ _ k.1, k.2⟩


@[simp] theorem regWord_setRegWord_same (s : State) (r : RegName) (u i : Nat) (v : Word) : (s.setRegWord r u i v).regWord r u i = v := by
  unfold State.regWord
  rw [setRegWord_fuses, setRegWord_regs, get_set_same]

theorem regWord_setRegWord_other (s : State) (r r' : RegName) (u u' i i' : Nat) (v : Word) (h : regKey r' u' i' ≠ regKey r u i) :
    (s.setRegWord r u i v).regWord r' u' i' = s.regWord r' u' i' := by
  unfold State.regWord
  rw [setRegWord_fuses, setRegWord_regs, get_set_other (h := h)]

/-- A register of another name keeps its word. -/
theorem regWord_setRegWord_name (s : State) (r r' : RegName) (u u' i i' : Nat) (v : Word) (h : r' ≠ r) :
    (s.setRegWord r u i v).regWord r' u' i' = s.regWord r' u' i' :=
  regWord_setRegWord_other _ _ _ _ _ _ _ _ (fun e => h (regKey_inj _ _ _ _ _ _ e).1)

/-! ### Fields -/

theorem getF_setF_same (s : State) (f : Fld) (u i v : Nat) (h : f.lsb + f.width ≤ 64) : (s.setF f u i v).getF f u i = v % 2 ^ f.width := by
  unfold State.getF State.setF
  rw [regWord_setRegWord_same]
  exact bitsOf_putBits_same _ _ _ _ h

theorem getF_setF_field (s : State) (f g : Fld) (u i v : Nat) (hr : g.reg = f.reg) (h : f.lsb + f.width ≤ g.lsb ∨ g.lsb + g.width ≤ f.lsb) :
    (s.setF f u i v).getF g u i = s.getF g u i := by
  unfold State.getF State.setF
  rw [hr, regWord_setRegWord_same]
  exact bitsOf_putBits_other _ _ _ _ _ _ h

theorem getF_setF_reg (s : State) (f g : Fld) (u i u' i' v : Nat) (h : regKey g.reg u' i' ≠ regKey f.reg u i) :
    (s.setF f u i v).getF g u' i' = s.getF g u' i' := by
  unfold State.getF State.setF
  rw [regWord_setRegWord_other _ _ _ _ _ _ _ _ h]

theorem getF_setF_name (s : State) (f g : Fld) (u i u' i' v : Nat) (h : g.reg ≠ f.reg) : (s.setF f u i v).getF g u' i' = s.getF g u' i' :=
  getF_setF_reg _ _ _ _ _ _ _ _ (fun e => h (regKey_inj _ _ _ _ _ _ e).1)

theorem isF_setF_same (s : State) (f : Fld) (u i v : Nat) (h : f.lsb + f.width ≤ 64) : (s.setF f u i v).isF f u i = (v % 2 ^ f.width == 1) := by
  unfold State.isF
  rw [getF_setF_same _ _ _ _ _ h]

end Sys2Proof.Laws
end

