-- ==== Sys2Proof/Laws/Reads.lean ====
section
/-! SUPPORT. A read after a small update of the same table: the hart, core, CSR, interface, request or APLIC source written reads what was written, every other one as before. -/
namespace Sys2Proof.Laws

open Sys2Proof.Machine

@[simp] theorem hart_setHart_same (s : State) (h : Nat) (x : Hart) : (s.setHart h x).hart h = x := by
  unfold State.hart
  rw [setHart_harts, get_set_same]

theorem hart_setHart_other (s : State) (h k : Nat) (x : Hart) (e : k ≠ h) : (s.setHart h x).hart k = s.hart k := by
  unfold State.hart
  rw [setHart_harts, get_set_other (h := e)]

@[simp] theorem hart_modHart_same (s : State) (h : Nat) (f : Hart → Hart) : (s.modHart h f).hart h = f (s.hart h) := hart_setHart_same ..

theorem hart_modHart_other (s : State) (h k : Nat) (f : Hart → Hart) (e : k ≠ h) : (s.modHart h f).hart k = s.hart k := hart_setHart_other _ _ _ _ e

@[simp] theorem core_setCore_same (s : State) (c : Nat) (x : Core) : (s.setCore c x).core c = x := by
  unfold State.core
  rw [setCore_cores, get_set_same]

theorem core_setCore_other (s : State) (c k : Nat) (x : Core) (e : k ≠ c) : (s.setCore c x).core k = s.core k := by
  unfold State.core
  rw [setCore_cores, get_set_other (h := e)]

@[simp] theorem core_modCore_same (s : State) (c : Nat) (f : Core → Core) : (s.modCore c f).core c = f (s.core c) := core_setCore_same ..

theorem core_modCore_other (s : State) (c k : Nat) (f : Core → Core) (e : k ≠ c) : (s.modCore c f).core k = s.core k := core_setCore_other _ _ _ _ e

@[simp] theorem csrWord_setCsr_same (s : State) (h n : Nat) (v : Word) : (s.setCsr h n v).csrWord h n = v := by
  unfold State.csrWord State.setCsr
  rw [hart_modHart_same, get_set_same]

theorem csrWord_setCsr_other (s : State) (h n k m : Nat) (v : Word) (e : k ≠ h ∨ m ≠ n) : (s.setCsr h n v).csrWord k m = s.csrWord k m := by
  unfold State.csrWord State.setCsr
  by_cases hk : k = h
  · subst hk
    rw [hart_modHart_same, get_set_other (h := e.resolve_left (fun f => f rfl))]
  · rw [hart_modHart_other _ _ _ _ hk]

/-- Every CSR but mip, whose timer bits follow mtime (R40), reads as it is stored. -/
theorem csr_of_ne_mip (s : State) (h n : Nat) (e : n ≠ 0x344) : s.csr h n = s.csrWord h n := by
  unfold State.csr
  rw [if_neg e]

theorem csr_setCsr_same (s : State) (h n : Nat) (v : Word) (e : n ≠ 0x344) : (s.setCsr h n v).csr h n = v := by
  rw [csr_of_ne_mip _ _ _ e, csrWord_setCsr_same]

theorem csr_setCsr_other (s : State) (h n k m : Nat) (v : Word) (e : k ≠ h ∨ m ≠ n) (em : m ≠ 0x344) : (s.setCsr h n v).csr k m = s.csr k m := by
  rw [csr_of_ne_mip _ _ _ em, csr_of_ne_mip _ _ _ em, csrWord_setCsr_other _ _ _ _ _ _ e]

@[simp] theorem ni_setNi_same (s : State) (st : Nat) (x : Ni) : (s.setNi st x).ni st = x := by
  unfold State.ni
  rw [setNi_nis, get_set_same]

theorem ni_setNi_other (s : State) (st k : Nat) (x : Ni) (e : k ≠ st) : (s.setNi st x).ni k = s.ni k := by
  unfold State.ni
  rw [setNi_nis, get_set_other (h := e)]

@[simp] theorem ni_modNi_same (s : State) (st : Nat) (f : Ni → Ni) : (s.modNi st f).ni st = f (s.ni st) := ni_setNi_same ..

@[simp] theorem req_setReq_same (s : State) (st t : Nat) (q : Option Req) : (s.setReq st t q).req st t = q := by
  unfold State.req
  rw [setReq_reqs, get_set_same]

@[simp] theorem aplicSrc_setAplic_same (s : State) (k : Nat) (x : AplicSrc) : (s.setAplic k x).aplicSrc k = x := by
  unfold State.aplicSrc
  rw [setAplic_aplic, get_set_same]

theorem aplicSrc_setAplic_other (s : State) (k j : Nat) (x : AplicSrc) (e : j ≠ k) : (s.setAplic k x).aplicSrc j = s.aplicSrc j := by
  unfold State.aplicSrc
  rw [setAplic_aplic, get_set_other (h := e)]

/-! Registers do not depend on what another small update changes. -/

@[simp] theorem regWord_setHart (s : State) (h : Nat) (x : Hart) (r : RegName) (u i : Nat) : (s.setHart h x).regWord r u i = s.regWord r u i := by
  unfold State.regWord
  rw [setHart_fuses, setHart_regs]

@[simp] theorem regWord_setCore (s : State) (c : Nat) (x : Core) (r : RegName) (u i : Nat) : (s.setCore c x).regWord r u i = s.regWord r u i := by
  unfold State.regWord
  rw [setCore_fuses, setCore_regs]

@[simp] theorem regWord_send (s : State) (p : Packet) (r : RegName) (u i : Nat) : (s.send p).regWord r u i = s.regWord r u i := by
  unfold State.regWord
  rw [send_fuses, send_regs]

@[simp] theorem getF_send (s : State) (p : Packet) (f : Fld) (u i : Nat) : (s.send p).getF f u i = s.getF f u i := by
  unfold State.getF
  rw [regWord_send]

@[simp] theorem getF_setHart (s : State) (h : Nat) (x : Hart) (f : Fld) (u i : Nat) : (s.setHart h x).getF f u i = s.getF f u i := by
  unfold State.getF
  rw [regWord_setHart]

end Sys2Proof.Laws
end

