-- ==== Sys2Proof/Laws/Served.lean ====
section
/-! SUPPORT. What a command of an I/O agent does (R107, R130), in one lemma that every such command cites; and what the arrival of a packet does (R119, R173). -/
namespace Sys2Proof.Laws
open Sys2Proof.Machine

/-- A command that is `served` is carried out: performed once every access is answered, else it asks for the next, or waits. -/
theorem served_of {c : Instr} {s v : State} {stop ep : Nat} {f : State → State} (h : exec c s = .next (v.served stop ep c f)) : Served c s v stop ep f := by
  intro r u hr hu
  have h' : exec c s = .next (if r.next.isSome then v else v.serve r f) := by
    rw [h, hr]
    unfold State.served RunOf
    cases v.works.find? (fun r => r.stop == stop && r.ep == ep && r.cmd == c) <;> rfl
  have hs : v.serve r f = (match u.cursor.block with
    | none => { u with cursor := {}, works := u.works.erase r }
    | some a => State.pumpRuns { v with works := if v.works.contains r then v.works.map (fun x => if x == r then { r with log := u.cursor.used, next := some a, tag := none } else x) else v.works ++ [{ r with log := u.cursor.used, next := some a, tag := none }] }) := by
    rw [hu]; rfl
  rw [hs] at h'
  refine ⟨?_, ?_, ?_⟩
  · rintro ⟨h1, h2⟩
    rw [h', h1, h2]; rfl
  · rintro a r1 h1 h2 rfl
    rw [h', h1, h2]; rfl
  · intro h1
    rw [h', if_pos (Option.isSome_iff_ne_none.mpr h1)]

/-- A packet that can be ejected does what its receiver does with it. -/
theorem receive_some {s u : State} {p : Packet} (f : State → State) (h : s.eject p = some u) : s.receive p f = f u := by
  unfold State.receive; rw [h]

/-- A packet that cannot be ejected now does nothing. -/
theorem receive_none {s : State} {p : Packet} (f : State → State) (h : s.eject p = none) : s.receive p f = s := by
  unfold State.receive; rw [h]

end Sys2Proof.Laws
end

