-- ==== Sys2Proof/WellFormed.lean ====
section
/-! DEFINITION. Which commands are well formed: what their operand types alone do not say. The meanings are total on every command, so nothing else rests on it. -/
namespace Sys2Proof

open Sys2Proof.Machine

/-- A width that an access can have: 1, 2, 4 or 8 bytes (R36, R76). -/
def sizeOk (n : Nat) : Bool := n == 1 || n == 2 || n == 4 || n == 8

/-- An access of a hart: its width. -/
def Machine.Access.wf (a : Access) : Bool := sizeOk a.size.val

/-- Every core at most once. -/
def coresOnce (l : List (Fin 272)) : Bool := decide l.Nodup

/-- Whether a command is well formed. -/
def Instr.wf : Instr → Bool
  | .registerWrite _ _ size _ => sizeOk size
  | .debugSystemBusAccess _ _ _ size _ => sizeOk size
  | .hartLoad _ a => a.wf
  | .hartStore _ a => a.wf
  | .amo _ _ a => a.wf
  | .lr _ a => a.wf
  | .sc _ a => a.wf
  | .domainOffRequest _ d _ => decide (d.toNat < 441)
  | .domainOnRequest _ d _ => decide (d.toNat < 441)
  | .domainTimerRequest _ d _ _ => decide (d.toNat < 441)
  | .pmbAlert status => decide (status.map (·.1)).Nodup
  | .lifeModelTick stress => coresOnce (stress.map (·.1))
  | .enterSurvey found _ => coresOnce (found.cores.map (·.core))
  | .coldReset x => coresOnce (x.cores.map (·.core))
  | .resetNFall _ x => coresOnce (x.cores.map (·.core))
  | .warmResetDelayExpiry x => coresOnce (x.cores.map (·.core))
  | _ => true

end Sys2Proof
end

