-- ==== Sys2Proof/Tests/Slice0.lean ====
section
/-! SUPPORT. Small tests: a command that each well-formedness check refuses, a state that meets the hypotheses of each statement, and worked examples of the spec. -/
namespace Sys2Proof.Tests
set_option Elab.async false

open Sys2Proof.Machine

/-! ### Commands that are not well formed -/

theorem test_wf_register_width : (Instr.registerWrite {} 0 3 0).wf = false ∧ (Instr.registerWrite {} 0 8 0).wf = true := by decide
theorem test_wf_debug_width : (Instr.debugSystemBusAccess 0 0 false 5 0).wf = false ∧ (Instr.debugSystemBusAccess 0 0 false 4 0).wf = true := by decide
/-- An access of n bytes. -/
def acc (n : Fin 9) (va : Word) (pa : BitVec 52) : Access := { id := 1, pc := 0, va := va, size := n, x0 := { pa := pa } }
theorem test_wf_load_width : (Instr.hartLoad 0 (acc 3 0 0)).wf = false ∧ (Instr.hartLoad 0 (acc 8 0 0)).wf = true := by decide
theorem test_wf_store_width : (Instr.hartStore 0 (acc 5 0 0)).wf = false := by decide
theorem test_wf_atomic_width : (Instr.amo 0 .add (acc 0 0 0)).wf = false ∧ (Instr.lr 0 (acc 7 0 0)).wf = false ∧ (Instr.sc 0 (acc 6 0 0)).wf = false := by decide
theorem test_wf_domain : (Instr.domainOffRequest {} 441 0).wf = false ∧ (Instr.domainOnRequest {} 440 0).wf = true ∧
    (Instr.domainTimerRequest {} 511 0 50).wf = false := by decide
theorem test_wf_alert_twice : (Instr.pmbAlert [(0, 1), (0, 2)]).wf = false ∧ (Instr.pmbAlert [(0, 1), (1, 2)]).wf = true := by decide

theorem test_wf_core_twice : (Instr.lifeModelTick [(0, 5), (0, 6)]).wf = false ∧ (Instr.enterSurvey {} true).wf = true ∧
    (Instr.enterSurvey { cores := List.replicate 2 { core := 3, vmin := [] } } true).wf = false ∧ (Instr.coldReset { cores := List.replicate 2 { core := 3, vmin := [] } }).wf = false ∧
    (Instr.resetNFall true { cores := List.replicate 2 { core := 3, vmin := [] } }).wf = false ∧
    (Instr.warmResetDelayExpiry { cores := List.replicate 2 { core := 3, vmin := [] } }).wf = false := by decide

/-! ### States -/

/-- The state a command leaves; the reset state where it leaves none. -/
def after : Host.Outcome State Fault Refusal → State
  | .next t => t
  | _ => State.reset

/-- Hart 0 runs on core 0, whose L1I holds the block at 0. -/
def up : State := ((State.reset.setF F.coreHartMap_state 0 0 1).setF F.pwrDomStatus_state 0 0 2).modCore 0 (fun k => { k with l1i := [0] })
theorem test_up_runs : up.runs 0 = true := by decide +kernel
/-- Hart 0 runs and the lowest 4 GiB of memory serve. -/
def upMem : State := up.setF F.mpLocalTop_top 0 0 (2 ^ 32)
/-- An access by hart 0 of 8 bytes at 4096. -/
def a8 : Access := acc 8 4096 4096
/-- Hart 0 executes an access: its block is fetched and clean (`Executes`). -/
def exe (s : State) (a : Access) (k : OpKind) : Bool :=
  s.runs 0 && (s.hart 0).room k && (s.fetch 0 a.isec.toNat a.id a.spec).1 && ((s.fetch 0 a.isec.toNat a.id a.spec).2.fetchPoison 0 a).isNone
/-- The translated access. -/
def tr (st : Bool) (a : Access) : Access := upMem.translated 0 a st
theorem test_exe_Executes (s : State) (a : Access) (k : OpKind) (h : exe s a k = true) : Executes s 0 a k (s.fetch 0 a.isec.toNat a.id a.spec).2 := by
  simp only [exe, Bool.and_eq_true, Option.isNone_iff_eq_none] at h
  exact ⟨h.1.1.1, h.1.1.2, Prod.ext h.1.2 rfl, h.2⟩
theorem test_meets_HartAccessesLaunch : exe upMem (tr false a8) .load = true ∧ exe upMem (tr true a8) .store = true ∧ region (tr true a8).x0.pa.toNat ≠ .control ∧
    exe upMem (tr true a8) (.amo .add) = true ∧ (upMem.accType (tr true a8)).near = true ∧ exe upMem (tr false a8) .lr = true ∧ exe upMem (tr true a8) .sc = true ∧
    zabha (tr true a8) = none ∧ zabha (tr false a8) = none ∧ misaligned (tr true a8) = false ∧ misaligned (tr false a8) = false ∧
    upMem.accessFault 0 (tr true a8) Exc.storeAccess = none ∧ upMem.accessFault 0 (tr false a8) Exc.loadAccess = none ∧ upMem.accType (tr true a8) ≠ .io ∧
    (upMem.accType (tr false a8)).near = true := by
  decide +kernel
/-- A segment 0xE access: type IO. Hart 0 may reach it. -/
def aIo : Access := acc 8 0xE000000001000 0xE000000001000
/-- A misaligned access, and one of 2 bytes. -/
def aOdd : Access := acc 8 4097 4097
def aHalf : Access := acc 2 4096 4096
theorem test_meets_HartAtomicExceptions : exe upMem (tr false aOdd) .lr = true ∧ zabha (tr false aOdd) = none ∧ misaligned (tr false aOdd) = true ∧
    exe upMem (tr true aOdd) .sc = true ∧ zabha (tr true aOdd) = none ∧ misaligned (tr true aOdd) = true ∧
    exe upMem (tr true aIo) (.farAmo .add) = true ∧ zabha (tr true aIo) = none ∧ misaligned (tr true aIo) = false ∧
    upMem.accessFault 0 (tr true aIo) Exc.storeAccess = none ∧ upMem.accType (tr true aIo) = .io ∧
    exe upMem (tr false aIo) .lr = true ∧ zabha (tr false aIo) = none ∧ misaligned (tr false aIo) = false ∧ upMem.accessFault 0 (tr false aIo) Exc.loadAccess = none ∧
    (upMem.accType (tr false aIo)).near = false ∧ exe upMem (tr true aHalf) .sc = true ∧ (tr true aHalf).size.val = 2 := by
  decide +kernel

/-- Hart 0 has a retired store to sector 64, which its core holds in M. -/
def stored : State := (upMem.modHart 0 (fun x => { x with sq := [{ sec := 64, off := 0, len := 8, val := 7, etype := .wb, pc := 0 }] })).setCline 0 64 { st := .m, l1d := true }
theorem test_meets_HartFences : (stored.hart 0).sq = [{ sec := 64, off := 0, len := 8, val := 7, etype := .wb, pc := 0 }] ∧
    (stored.cline (stored.physCore 0) 64).st.writable = true ∧ up.runs 0 = true ∧ up.alone 0 = true ∧ (up.hart 0).priv = .m ∧ (up.hart 0).virt = false := by decide +kernel

/-- Hart 0 in U mode with mstatus.TW set. -/
def upU : State := (up.setCsr 0 0x300 0x200000).modHart 0 (fun x => { x with priv := .u })
/-- Hart 0 with a reservation of sector 64. -/
def upResv : State := up.modHart 0 (fun x => { x with resv := some 64 })
/-- Hart 0 in a wait. -/
def waits (w : Wait) (s : State) : State := s.modHart 0 (fun x => { x with wait := w })
theorem test_meets_HartWaits : up.alone 0 = true ∧ up.wfiTrap 0 = none ∧ upU.alone 0 = true ∧ (upU.hart 0).priv ≠ .m ∧ bitsOf (upU.csr 0 0x300) 21 1 = 1 ∧
    upResv.alone 0 = true ∧ (upResv.hart 0).resv = some 64 ∧ (up.hart 0).resv = none ∧ ((waits (.wrsNto 64) upU).hart 0).wait = .wrsNto 64 ∧
    ((waits (.wrsNto 64) upU).hart 0).priv ≠ .m ∧ bitsOf ((waits (.wrsNto 64) upU).csr 0 0x300) 21 1 = 1 ∧ ((waits (.wrsSto 64) up).hart 0).wait = .wrsSto 64 := by decide +kernel

/-- Hart 0 in S mode, after a trap from S mode with interrupts on. -/
def upS : State := (up.setCsr 0 0x300 0x120).modHart 0 (fun x => { x with priv := .s })
theorem test_meets_HartCsrsAndReturns : up.alone 0 = true ∧ up.csrTrap 0 0x340 = none ∧ (up.csrEffect 0 0x340 5).isSome = true ∧ up.csrTrap 0 0x32A = none ∧
    (up.csrEffect 0 0x32A 5).isSome = true ∧ (up.hart 0).virt = false ∧ (up.hart 0).priv = .m ∧ upS.alone 0 = true ∧ (upS.hart 0).priv = .s ∧
    (upS.hart 0).virt = false ∧ bitsOf (upS.csr 0 0x300) 22 1 = 0 := by decide +kernel
/-- SRET returns to the mode in SPP with SIE from SPIE (the privileged architecture; R31). -/
theorem test_sret : bitsOf ((after (exec (.trapReturn 0 false) upS)).csr 0 0x300) 1 1 = 1 ∧ ((after (exec (.trapReturn 0 false) upS)).hart 0).priv = .s ∧
    bitsOf ((after (exec (.trapReturn 0 false) upS)).csr 0 0x300) 8 1 = 0 := by decide +kernel

/-- What `CboRuns` asks of a cache-block operation of hart 0 at 4096. -/
def cbo (k : OpKind) (lsb width : Nat) (store : Bool) : Bool :=
  let t := upMem.translate 0 4096 store a8.x0
  exe upMem a8 k && (upMem.cboTrap 0 lsb width).isNone && t.fault.isNone && (upMem.accessTrigger 0 { a8 with x0 := t, size := 1 } Exc.storeAccess).isNone &&
    upMem.addrExists (upMem.physCore 0) t.pa.toNat && upMem.effType t.pa.toNat t.ptype != .io && upMem.pmpOk 0 (upMem.dataPriv 0).1 (t.pa.toNat / 64 * 64) 64 true
/-- A prefetch's access, its translation taken up. -/
def hint (st : Bool) : Access := upMem.translated 0 { a8 with size := 1 } st
/-- The state once a hint's translation is in the TLB. -/
def hinted (s : State) (st : Bool) : State := (s.transl 0 1 false (s.translOf 0 (hint st))).2
theorem test_meets_HartCacheBlockOps : cbo (.cbo false) 6 1 false = true ∧ cbo (.cbo true) 6 1 false = true ∧ cbo (.cbo true) 4 2 true = true ∧ cbo .cboZero 7 1 true = true ∧
    upMem.hintDropped 0 (hint false) false = false ∧ ((hinted upMem false).cline 0 64).st = .i ∧ (hinted upMem false).canSend 0 64 = true ∧ (hint false).x0.pa.toNat / 64 = 64 ∧
    stored.hintDropped 0 (hint true) true = false ∧ (hinted stored true).accType (hint true) = .wb ∧ ((hinted stored true).cline 0 64).st.writable = true := by decide +kernel

/-- A doorbell from hart 0 to hart 5 of the same world, seated there. -/
def bell : BellMsg := { sender := 0, wid := 2, target := 5, targetWid := 2, payload := 9 }
/-- Hart 5 is seated in world 2, and world 2 may send to itself; hart 0 has a doorbell waiting. -/
def upBell : State := (((up.setF F.wldSeat_wid 0 5 2).setRegWord .wldBellPairs 0 2 4)).modHart 0 (fun x => { x with inbox := [{ wid := 2, hart := 5, payload := 7 }] })
/-- A send is on its way. -/
def upSent : State := up.modHart 0 (fun x => { x with infl := [{ plainInfl 1 .bellSend 0 .none 0 0 with sent := true }] })
theorem test_meets_Doorbells : up.runs 0 = true ∧ up.alone 0 = true ∧ up.bellTrap 0 0x00B5050B 0 = none ∧ upBell.bellStatus bell = 0 ∧
    up.bellStatus { bell with target := 0 } ≠ 0 ∧ ((upSent.hart 0).infl.find? (fun i => i.kind == .bellSend && i.sent && !i.complete)).isSome = true ∧
    upBell.alone 0 = true ∧ upBell.bellTrap 0 0x0000150B 1 = none ∧ (upBell.hart 0).inbox = [{ wid := 2, hart := 5, payload := 7 }] ∧ (up.hart 0).inbox = [] ∧
    up.bellTrap 0 0x0000150B 1 = none ∧ upBell.bellTrap 0 0x0000250B 2 = none := by
  decide +kernel

/-- A fence on annexes of which port 3 has yet to answer. -/
def upFence : State := up.modHart 0 (fun x => { x with fence := some { id := 1, rd := 5, waiting := 8, failed := 0, probed := true, tags := [] } })
/-- Hart 0 has one finished instruction in flight, and the timer interrupt is pending and enabled. -/
def upBusy : State := (((up.modHart 0 (fun x => { x with infl := [{ plainInfl 1 .load 0 .none 0 0 with done := true }] })).setCsr 0 0x304 0x80).setCsr 0 0x300 8).setF
  F.coreMtimecmp_compare 0 0 0
/-- The same with the instruction not finished. -/
def upLoad : State := up.modHart 0 (fun x => { x with infl := [{ plainInfl 1 .load 0 .none 0 0 with isec := 0 }] })
/-- Hart 0 waits in WFI with the timer interrupt ready. -/
def upIrq : State := waits .wfi (upBusy.modHart 0 (fun x => { x with infl := [] }))
/-- A branch to 0x80 that was predicted to go elsewhere, with its prediction on record: a return or not. -/
def branch (ret : Bool) : Branch := { id := 3, pc := 0x44, taken := true, mispredicted := true, isReturn := ret, target := 0x80, fetched := [] }
def upPred : State := up.modCore 0 (fun k => { k with preds := [{ id := 3, ghist := 5, target := some 0x90 }], ras := [0x90] })
theorem test_meets_HartPipeline : up.runs 0 = true ∧ fenceAxEnc 0x000502AB = true ∧
    (upFence.hart 0).fence = some { id := 1, rd := 5, waiting := 8, failed := 0, probed := true, tags := [] } ∧ ((8 : BitVec 6) &&& ~~~(1#6 <<< 3)) = 0 ∧
    upPred.runs 0 = true ∧ (upPred.core 0).preds.find? (fun e => e.id == 3) = some { id := 3, ghist := 5, target := some 0x90 } ∧ (0x90 : Word) ≠ (branch true).target ∧
    (((upLoad.hart 0).infl.find? (fun i => i.id == 1)).map (fun i => (i.isec, i.parts.all (fun p => p.tag.isNone && !p.missed && (upLoad.openReq 1 0 p.sec).isNone)))) = some (0, true) ∧
    upLoad.codePoison 0 0 = false ∧ (upLoad.setF F.coreSpecCtrl_fillDeferEff 0 0 1).deferOn 0 = true ∧ (upLoad.hart 0).shadowD = [] ∧
    (upLoad.hart 0).infl.any (fun i => i.id == 1 && !i.done) = true ∧ upBusy.runs 0 = true ∧
    ((upBusy.hart 0).infl.map (fun i => (i.id, i.done, i.spec, i.kind.writes))) = [(1, true, false, false)] ∧
    upIrq.runs 0 = true ∧ upIrq.irqReady 0 7 = true ∧ (upIrq.hart 0).infl = [] ∧ (upIrq.hart 0).wait ≠ .run := by decide +kernel
/-- A timer interrupt taken in M mode with mtvec 0 leaves mcause 2^63 + 7 and the pc at 0 (the privileged architecture; R31). -/
theorem test_interrupt : (after (exec (.interruptTaken 0 7 (.wait 0x44)) upIrq)).csr 0 0x342 = 0x8000000000000007 ∧
    (after (exec (.interruptTaken 0 7 (.wait 0x44)) upIrq)).csr 0 0x341 = 0x44 ∧ ((after (exec (.interruptTaken 0 7 (.wait 0x44)) upIrq)).hart 0).pc = 0 := by
  decide +kernel

/-! ### Registers, timers, pins and shelves -/

/-- The Keeper as an issuer, the Curator, and hart 0. -/
def keeper : Issuer := { stop := 79 }
def curator : Issuer := { stop := 79, wid := 1 }
/-- The address of CORE_PF_CTRL of core 0. -/
def pfAddr : BitVec 52 := BitVec.ofNat 52 (regAddr .corePfCtrl 0 0)
theorem test_meets_RegisterWrites : ctlForm pfAddr.toNat 8 = true ∧ up.ctlTarget pfAddr.toNat = .reg .corePfCtrl 0 0 ∧ up.holds = false ∧ up.reachable .core 0 = true ∧
    up.coreCtrlMay { keeper with pa := pfAddr } 0 = true ∧ ctlForm pfAddr.toNat 2 = false ∧ ctlForm 0 8 = true ∧ up.ctlTarget 0 = .none ∧
    up.coreCtrlMay { curator with pa := pfAddr } 0 = false := by decide +kernel

theorem test_meets_TimersAndFiles : up.issuerWid keeper = 0 ∧ (up.setF F.coreMtimecmp_compare 0 0 0).getF F.coreMtimecmp_compare 0 0 ≤ up.mtime ∧ up.holds = false ∧
    upIrq.timerDue 0 0 = true ∧ bitsOf (upIrq.csr 0 0x304) 7 1 = 1 ∧ (upIrq.hart 0).wait = .wfi ∧
    up.reachable .core (up.physCore 0) = true ∧ up.fileWriteOk 0 (up.issuerWid keeper) none = true := by decide +kernel

/-- Pin 3 is an input of world 2 and its source is edge sensitive; calendar alarm 0's source too. -/
def upPins : State := ((up.setF (F.wldGpioWid_wid 3) 0 0 2).setAplic 4 { cfg := 4 }).setAplic 33 { cfg := 4 }
/-- Pin 3 holds a change of its output back. -/
def upHeld : State := { up with pins := up.pins.set {} 3 { held := some true, isOut := true } }
/-- M0 with calendar alarm 1 enabled to wake. -/
def offAlarm : State := (up.setF F.pwrModeStatus_mode 0 0 0).setRegWord .pwrWakeEn 0 0 (1 <<< 34)
theorem test_meets_PinsAndSources : (upPins.pins.get {} 3).isOut = false ∧ upPins.srcWid 4 ≠ 0 ∧ (upHeld.pins.get {} 3).held = some true ∧ (upPins.aplicSrc 4).sm ≠ 0 ∧
    (upPins.aplicSrc 4).en = false ∧ upPins.mode ≠ 0 ∧ (upPins.aplicSrc 33).sm ≠ 0 ∧ (upPins.aplicSrc 33).en = false ∧ offAlarm.mode = 0 ∧
    (offAlarm.regWord .pwrWakeEn 0 0).getLsbD 34 = true ∧ up.issuerWid keeper = 0 := by decide +kernel

/-- One write is waiting for its broadcast. -/
def upCast : State := { up with broadcasts := [keeper] }
/-- A shelf flush of a directory way has an entry left: the home slice of tile 0 lists sector 64 in way 0. -/
def upFlush : State := ({ up with flushDirWays := 1, dir := up.dir.set none (dirKey 0 64) (some { sec := 64, st := .dx, busy := true, owner := 0 }) } : State).setF F.pwrModeStatus_mode 0 0 4
theorem test_meets_BroadcastWrites : up.holds = false ∧ up.reachable .core 0 = true ∧ up.coreCtrlMay keeper 0 = true ∧ up.issuerWid keeper = 0 ∧ upCast.broadcasts = [keeper] ∧
    (up.writeReg .llcShelf 0 0 0 allBytes).shelfOk = false ∧ (up.writeReg .llcShelf 0 1 0 allBytes).shelfOk = true ∧
    flushMask up (up.writeReg .llcShelf 0 1 0 allBytes) State.llcMask = 0 ∧ flushMask up (up.writeReg .llcShelf 0 1 0 allBytes) State.dirMask = 0 ∧ up.flushIssuers = [] ∧
    (up.flushRound up.shelfDirs up.shelfLines).flushDone (fun _ => true) up.shelfDirs up.shelfLines = true ∧
    (upFlush.flushRound upFlush.shelfDirs upFlush.shelfLines).flushDone (fun _ => true) upFlush.shelfDirs upFlush.shelfLines = false := by
  decide +kernel

/-- Hart 0's move to a reserve has begun: it has stopped. -/
def moving : State := (up.setF F.coreHartMap_state 0 0 2).modHart 0 (fun x => { x with stopped := true })
/-- The same with a load in flight that has not its data. -/
def movingBusy : State := moving.modHart 0 (fun x => { x with infl := [plainInfl 1 .load 0 .none 0 0] })
/-- A boot configuration for M4 with no flags. -/
def cfg0 : BootCfg := { target := 4, bootHarts := 256, flags := 0, powerLimit := 600, keeperWdt := 0, curatorWdt := 0, curatorMem := 0, flashGrant := 0, anchors := 0, window := [] }
/-- Reduced service, booted for M4, with every memory port trained and no hart released. -/
def trained : State := (List.range 12).foldl (fun s k => s.setF F.mpStatus_trainState k 0 9) { State.reset with kpr := { State.reset.kpr with cfg := some cfg0 } }
/-- The state in which the exit has powered the slices and paused the harts. -/
def paused (s : State) : State := ((List.range 136).foldl (fun (s : State) (t : Nat) => s.setDomain (272 + t) 2) s).pauseHarts
/-- Whether every hart's caches have gone out, and the state then. -/
def quiet (s : State) : Bool × State := (paused s).released.foldl (fun (a : Bool × State) (h : Nat) => let q := a.2.quiesce h; (a.1 && q.1, q.2)) (true, paused s)
/-- The same with hart 0 released and its core busy with a request. -/
def trainedBusy : State := (((trained.setF F.coreHartMap_state 0 0 1).setF F.pwrDomStatus_state 0 0 2).setReq (coreStop 0) 0 (some { pkt := {}, ep := 0, purp := .demand })).setCline 0 64 { st := .m, l1d := true }
/-- The same with a memory message of tile 0's home queued. -/
def trainedMem : State := trained.modSlice 0 (fun c => { c with txs := [{ sec := 64, pkt := {}, phase := .snoops }] })
theorem test_meets_RemapAndExit : moving.getF F.coreHartMap_state 0 0 = 2 ∧
    (List.range 256).any (fun g => g != 0 && moving.getF F.coreHartMap_state 0 g == 2) = false ∧ moving.isF F.wldSeat_lending 0 0 = false ∧
    moving.usableReserve 271 = true ∧ (moving.quiesce 0).1 = true ∧ ((moving.quiesce 0).2.bury (moving.physCore 0)).1 = true ∧
    movingBusy.getF F.coreHartMap_state 0 0 = 2 ∧ movingBusy.usableReserve 271 = true ∧ (movingBusy.quiesce 0).1 = false ∧
    State.reset.getF F.coreHartMap_state 0 0 = 0 ∧ State.reset.reducedGoal = none := by decide +kernel
theorem test_meets_exit : trained.reducedGoal = some (cfg0, 4) ∧ (quiet trained).1 = true ∧
    (quiet trained).2.unstage.slices.all (fun e => e.2.hq.isEmpty && e.2.txs.isEmpty && e.2.mem.isEmpty) = true := by decide +kernel
theorem test_meets_exit_waits : trainedBusy.reducedGoal = some (cfg0, 4) ∧ (quiet trainedBusy).1 = false ∧ trainedMem.reducedGoal = some (cfg0, 4) ∧
    (quiet trainedMem).1 = true ∧ (quiet trainedMem).2.unstage.slices.all (fun e => e.2.hq.isEmpty && e.2.txs.isEmpty && e.2.mem.isEmpty) = false := by decide +kernel

/-! ### Homes, snoops and messages -/

/-- A packet that the mesh does not hold comes from outside the model, and can be ejected at a stop that is not dead. -/
theorem test_ejects (s : State) (p : Packet) (hn : s.net = []) (hd : s.selfDead p.dstN = false) : s.eject p = some s := by
  unfold State.eject; simp [hn, hd]
/-- A packet from core 0's stop to its own home slice, with an opcode and a sector. -/
def pkt (op : BitVec 8) (sec : BitVec 46) : Packet := { opcode := op, tag := 5, wid := 2, src := 1, dst := 1, address := sec }
theorem test_up_ejects (op : BitVec 8) (sec : BitVec 46) : up.eject (pkt op sec) = some up := test_ejects up _ rfl (by decide +kernel : up.selfDead 1 = false)
/-- A home with no entry left for its class: 48 queue entries of the shared pool are taken. -/
def full : State := up.modSlice 0 (fun c => { c with hq := List.replicate 48 { pkt := {}, active := false } })
/-- A home whose roster holds a reservation for core 0's slot. -/
def reserved (r : Option (Option Nat)) : State := full.modSlice 0 (fun c => { c with roster := [{ slot := 0, cls := 0, res := r }] })
/-- Stop 1 is dead: nothing is ejected there. -/
def deadStop : State := up.setF F.rtDeadCtrl_selfDead 1 0 1
theorem test_meets_HomeRequestsQueued : up.tileOf (pkt 2 64) = 0 ∧ (pkt 2 64).spec = false ∧ ((up.slice 0).roster.find? (fun r => r.slot == rosterSlot 1 0)) = none ∧
    up.hqKind 0 (up.classOf 2) = some none ∧ deadStop.eject (pkt 2 64) = none ∧ (reserved (some none)).net = [] ∧ (reserved (some none)).selfDead 1 = false ∧
    ((reserved (some none)).slice 0).roster.find? (fun r => r.slot == rosterSlot 1 0) = some { slot := 0, cls := 0, res := some none } ∧
    full.net = [] ∧ full.selfDead 1 = false ∧ full.hqKind 0 (full.classOf 2) = none ∧ ((full.slice 0).roster.find? (fun r => r.slot == rosterSlot 1 0)) = none ∧
    ((reserved none).slice 0).roster.find? (fun r => r.slot == rosterSlot 1 0) = some { slot := 0, cls := 0, res := none } ∧
    (reserved none).hqKind 0 0 = none ∧ ({ pkt 1 64 with attr := 1 } : Packet).spec = true := by decide +kernel

/-- A home with a held speculative request, a transaction in each phase that an answer meets, and a reservation. -/
def home : State := up.modSlice 0 (fun c => { c with
  spec := [pkt 1 64], roster := [{ slot := 3, cls := 0, res := some none }],
  txs := [{ sec := 64, pkt := pkt 2 64, phase := .snoops, waits := [0], owner := some 0 }, { sec := 65, pkt := { pkt 8 65 with tag := 6 }, phase := .pull },
          { sec := 66, pkt := { pkt 1 66 with tag := 7 }, phase := .ack }] })
/-- An I/O write waits for its data. -/
def ioWaits : State := { up with ioWrites := [pkt 0x21 64] }
theorem test_meets_HomeNoticesAndAnswers : home.net = [] ∧ home.selfDead 1 = false ∧ agentId 1 0 = some 0 ∧ (home.slice 0).spec.find? (sameTag (pkt 10 64)) = some (pkt 1 64) ∧
    (((home.slice 0).roster.find? (fun x => x.slot == 3)).map (·.res)) = some (some none) ∧ (home.tx 0 64).isSome = true ∧
    agentId (pkt 0x82 64).srcN (pkt 0x82 64).respEp = some 0 ∧
    ((home.slice 0).txs.find? (fun y => y.pkt.src == (1 : BitVec 8) && y.pkt.tag == (5 : BitVec 12) && !y.waits.isEmpty)).map (·.owner) = some (some 0) ∧
    home.ioWrites.find? (fun x => x.src == 1 && x.tag == 6 && x.dst == 1) = none ∧ (home.homeWriteData { pkt 0xC8 65 with tag := 6 } 0 fullMask false 0).isSome = true ∧
    ioWaits.ioWrites.find? (fun x => x.src == 1 && x.tag == 5 && x.dst == 1) = some (pkt 0x21 64) ∧ (home.tx 0 66).map (·.phase) = some .ack ∧
    (home.tx 0 64).map (fun x => (x.phase, x.back)) = some (.snoops, false) := by decide +kernel

/-- Core 0 flushed; core 0 dead; a hold window open there for sector 64. -/
def flushed : State := up.modCore 0 (fun k => { k with flushed := true })
def deadCore : State := up.modCore 0 (fun k => { k with dead := true })
def holding : State := up.modCore 0 (fun k => { k with windows := [{ sec := 64, lr := false, held := [pkt 0x41 64] }] })
/-- A snoop of the annex at stop 2, agent 0. -/
def snoopAx : Packet := { opcode := 0x41, src := 1, dst := 2, address := 64 }
theorem test_meets_SnoopsAtCores : up.net = [] ∧ up.selfDead 1 = false ∧ agentId 1 0 = some 0 ∧ (up.core 0).flushed = false ∧ (up.core 0).dead = false ∧ up.windowOpen 0 64 = false ∧
    holding.windowOpen 0 64 = true ∧ (holding.core 0).flushed = false ∧ (holding.core 0).dead = false ∧ holding.net = [] ∧ holding.selfDead 1 = false ∧
    ((holding.core 0).windows.find? (fun w => w.sec == 64)).isSome = true ∧ (flushed.core 0).flushed = true ∧ (deadCore.core 0).flushed = false ∧ (deadCore.core 0).dead = true ∧
    flushed.net = [] ∧ flushed.selfDead 1 = false ∧ deadCore.net = [] ∧ deadCore.selfDead 1 = false ∧
    agentId snoopAx.dstN snoopAx.epN = some 272 ∧ up.selfDead 2 = false := by decide +kernel

/-- Core 0 and an I/O stop each have a request open; a retried one waits out its backoff; the data engine at stop 13 waits for an answer. -/
def asking : State := (((up.setReq 1 5 (some { pkt := pkt 1 64, ep := 0, purp := .demand })).setReq 0 5 (some { pkt := pkt 3 64, ep := 0, purp := .once })).setReq 0 6
  (some { pkt := pkt 3 64, ep := 0, purp := .once, waitBound := true, retries := 1 })).setReq 13 5 (some { pkt := pkt 3 64, ep := 0, purp := .engine })
theorem test_meets_ResponsesAtCores : asking.net = [] ∧ asking.selfDead 1 = false ∧ stopAx 1 = none ∧ stopTile 1 = some 0 ∧
    (asking.req 1 5).map (fun r => (r.ep, r.purp)) = some (0, .demand) ∧ asking.selfDead 13 = false ∧ (asking.req 13 5).map (·.purp) = some .engine ∧
    asking.selfDead 0 = false ∧ stopTile 0 = none ∧ (asking.req 0 5).map (·.purp) = some .once ∧
    (asking.req 0 6).map (fun r => (r.waitBound, r.purp, asking.holdsRetry 0 r)) = some (true, .once, true) := by decide +kernel

/-- Every memory port serves. -/
def ports : State := (List.range 12).foldl (fun s k => s.setF F.mpStatus_trainState k 0 9) upMem
/-- A MemRead of granule 32 at the port at stop 10, and one by a world that may not read. -/
def mrd (wid : BitVec 6) : Packet := { opcode := 0x10, wid := wid, src := 1, dst := 10, address := 64 }
/-- Annex port 0 is open with a home agent 0 admitted. -/
def annex : State := ((up.setF F.axgPortStatus_linkState 0 0 5).setF F.axgAgentCfg_class 0 0 2).modGate 0 (fun g => { g with admitted := 1 })
/-- A message to the annex at stop 2. -/
def toAnnex (op : BitVec 8) : Packet := { opcode := op, wid := 2, src := 1, dst := 2, address := 0x100000000000 }
/-- A home with a memory message sent. -/
def sent : State := up.modSlice 0 (fun c => { c with mem := [{ tag := 5, gran := 32, write := true, sent := true }] })
/-- Whether a port answered with data, and with what error. -/
def MemAns.isData : MemAns → Bool
  | .data .. => true
  | .err _ => false
theorem test_meets_MemoryMessages : ports.net = [] ∧ ports.selfDead 10 = false ∧ MemAns.isData (ports.portRead 0 32 2 true {}).1 = true ∧
    MemAns.isData (ports.portRead 0 32 5 true {}).1 = false ∧
    (ports.portWrite 0 32 2 false (wdataOf (mrd 2) {} {}) {}).1 = none ∧ ports.selfDead 0 = false ∧ mpOf (mrd 2) = 0 ∧ gateOf (toAnnex 0x10) = 0 ∧
    annex.net = [] ∧ annex.selfDead 2 = false ∧ annex.selfDead 0 = false ∧ (annex.gateDeed 0 0 (toAnnex 0x10) false).1 = none ∧
    (annex.gateDeed 0 0 (toAnnex 0x11) true).1 = none ∧ (((toAnnex 0x11).s0 && (toAnnex 0x11).m0) || ((toAnnex 0x11).s1 && (toAnnex 0x11).m1)) = false ∧
    sent.net = [] ∧ sent.selfDead 1 = false ∧ stopTile 1 = some 0 ∧ (sent.memTake 0 5).map (fun x => x.1.forSec) = some none := by decide +kernel
/-- A MemWrite of no sector, with its first data packet, can be ejected. -/
theorem test_meets_ejects_write : ports.eject (mrd 2) = some ports ∧ ports.eject {} = some ports ∧ ((mrd 2).s0 && (mrd 2).s1) = false :=
  ⟨test_ejects _ _ (by decide +kernel) (by decide +kernel), test_ejects _ _ (by decide +kernel) (by decide +kernel), by decide⟩
/-- An I/O access of size 2^3 at an offset, to CORE_PF_CTRL's sector. -/
def io (op : BitVec 8) (off : Nat) (size : Nat) : Packet :=
  { opcode := op, tag := 5, src := 0, dst := 1, address := BitVec.ofNat 46 (pfAddr.toNat / 64), attr := BitVec.ofNat 16 (off + size * 64) }
/-- A probe-free I/O read of core 0 is open. -/
def ioAsk : State := up.setReq 1 5 (some { pkt := pkt 0x20 64, ep := 0, purp := .io })
theorem test_meets_IoMessages : (io 0x20 0 3).ioSize ≠ 7 ∧ (io 0x20 0 3).ioOffset % 2 ^ (io 0x20 0 3).ioSize = 0 ∧ (io 0x20 0 3).ioRegion = .control ∧
    (io 0x21 4 3).ioOffset % 2 ^ (io 0x21 4 3).ioSize ≠ 0 ∧ (io 0x21 4 3).ioRegion = .control ∧ ioAsk.net = [] ∧ ioAsk.selfDead 1 = false ∧
    (ioAsk.req 1 5).map (fun r => (r.ep, r.purp)) = some (0, .io) ∧ (ioAsk.core 0).dead = false := by decide +kernel

/-! ### The mesh -/

/-- A packet at the router of stop 1, one hop from its end, stop 0: its link there is dead, and the absorber takes it. -/
def meshFlight : Flight := { pkt := { pkt 0x82 64 with src := 3, dst := 0, route := 0x85 }, at_ := 1 }
def mesh : State := ({ up with net := [meshFlight] } : State).setF F.rtDeadCtrl_dead 1 0 15
/-- Stop 1's hold queue is full, and an earlier packet of the class must be held: an epoch switch is draining. -/
def stalled : State := ((({ up with outq := [{ pkt 1 64 with dst := 9 }, pkt 1 64] } : State).setF F.niFabricStatus_drainBusy 0 0 1).setRegWord .niRouteB 1 9 7).modNi 1
  (fun n => { n with hold := List.replicate 16 {} })
/-- A packet of stop 1 to a stop, and a stop 1 without a route to stop 9. -/
def tox (d : BitVec 8) : Packet := { pkt 1 64 with dst := d }
def noRoute : State := up.setRegWord .niRouteA 1 9 0
/-- Every slot of stop 1's injection port on the control network is reserved for lane 0, which no world holds: an open packet has none. -/
def fullWheel : State := up.modNi 1 (fun n => { n with wheel := (List.range 64).foldl (fun m i => m.set 0 (320 + i) 1) n.wheel })
theorem test_meets_MeshPackets : up.stalledBehind 1 (tox 9) = false ∧ up.mode ≠ 7 ∧ up.mustHold 1 (tox 9) = false ∧ (up.routeEntry 1 (up.bank 1) 9).2 = true ∧
    (up.launchPacket 1 (tox 9)).1 = true ∧ fullWheel.stalledBehind 1 (tox 9) = false ∧ fullWheel.mustHold 1 (tox 9) = false ∧ (fullWheel.routeEntry 1 (fullWheel.bank 1) 9).2 = true ∧
    (fullWheel.launchPacket 1 (tox 9)).1 = false ∧ noRoute.stalledBehind 1 (tox 9) = false ∧ noRoute.mustHold 1 (tox 9) = false ∧
    (noRoute.routeEntry 1 (noRoute.bank 1) 9).2 = false ∧ stalled.stalledBehind 1 (pkt 1 64) = true := by decide +kernel
theorem test_meets_MeshAbsorb : mesh.net.findIdx? (fun f => samePacket f.pkt meshFlight.pkt) = some 0 ∧ mesh.net[0]? = some meshFlight ∧
    (mesh.forward meshFlight 160).1 = meshFlight ∧ mesh.absorbs 1 (some 1) meshFlight = some false ∧ mesh.absorbs 2 (some 1) meshFlight = none ∧
    deadAnswer meshFlight.pkt 1 false Origin.absorber = none ∧ ({ up with net := [meshFlight] } : State).net = [meshFlight] := by decide +kernel
theorem test_meets_MeshTables : up.reachable .stop 1 = true ∧ up.issuerWid keeper = 0 ∧ spareOk 0 0 = true ∧
    locate 1 (RegName.base .rtMeterLane) = some (.rtMeterLane, 1, 0) ∧ up.reachable (RegName.place .rtMeterLane) 1 = true := by decide +kernel

/-- A fence that waits for stop 1 alone, which has been asked and has nothing waiting. -/
def fencing (l : List Nat) : State := ({ up with fence := some { seq := 1, missing := l, switch := false } } : State).modNi 1 (fun n => { n with fenceSeq := some 1 })
/-- A switch is draining and every powered stop has flipped; a commit is pending. -/
def draining : State := up.setF F.niFabricStatus_drainBusy 0 0 1
theorem test_meets_FencesEpochsAndMeters : up.issuerWid keeper = 0 ∧ (fencing [1]).fence = some { seq := 1, missing := [1], switch := false } ∧
    ((fencing [1]).ni 1).fenceSeq = some 1 ∧ ((fencing [1]).ni 1).before = [] ∧ [1].erase 1 = ([] : List Nat) ∧ [1, 2].erase 1 ≠ [] ∧ (fencing [1, 2]).fence.isSome = true ∧
    draining.isF F.niFabricStatus_drainBusy 0 0 = true ∧ draining.poweredStops.all (fun st => draining.bank st == draining.isF F.niFabricStatus_epoch 0 0) = true ∧
    draining.net.all (fun p => p.pkt.epoch == draining.isF F.niFabricStatus_epoch 0 0) = true ∧
    (up.setF F.niFabricStatus_meterPending 0 0 1).isF F.niFabricStatus_meterPending 0 0 = true := by decide +kernel


/-! ### Annexes -/

/-- Port 0's link state and its modules in use. -/
def link (st m : Nat) : State := (up.setF F.axgPortStatus_linkState 0 0 st).setF F.axgPortStatus_modules 0 0 m
theorem test_meets_AnnexLink : (link 5 3).linkUp 0 = true ∧ linkFlitOk 0 = false ∧ (((link 5 3).modLink 0 (fun l => { l with buf := [(1, 0)] })).link 0).buf = [(1, 0)] ∧
    (((link 5 3).modLink 0 (fun l => { l with waiting := true })).link 0).waiting = true ∧
    4 ≤ (((link 5 3).modLink 0 (fun l => { l with nakRounds := 4 })).link 0).nakRounds ∧ (link 5 3).getF F.axgPortStatus_modules 0 0 = 3 ∧
    (link 5 1).linkUp 0 = true ∧ (link 5 1).getF F.axgPortStatus_modules 0 0 = 1 ∧ (link 5 2).getF F.axgPortStatus_modules 0 0 = 2 ∧ ((link 5 1).link 0).dead = 0 ∧
    ((link 5 1).link 0).recal = false ∧ (((link 5 1).modLink 0 (fun l => { l with recal := true })).link 0).recal = true := by decide +kernel

/-- Port 0's registers can be reached: its domain is on. -/
def ax : State := up.setF F.pwrDomStatus_state 0 420 2
/-- Port 0 has sent OPEN and HOLD. -/
def told : State := (ax.linkControl 0 3 0 0).linkControl 0 6 0 0
theorem test_meets_AnnexBringup : ax.reachable .ax 0 = true ∧ ax.issuerWid keeper = 0 ∧ ax.isF F.axgPortCtrl_enable 0 0 = false ∧
    (link LinkState.training 0).linkState 0 = LinkState.training ∧ (link LinkState.init 0).linkState 0 = LinkState.init ∧
    (((link LinkState.init 0).modLink 0 (fun l => { l with gotInit := true })).link 0).gotInit = true ∧ ((told.link 0).takeControl 3).isSome = true ∧
    ((told.link 0).takeControl 6).isSome = true := by decide +kernel

theorem test_meets_AnnexGrants : ax.reachable .ax 0 = true ∧ (ax.setF F.axgPortCtrl_attested 0 0 1).isF F.axgPortCtrl_attested 0 0 = true ∧
    ax.isF F.axgPortCtrl_attested 0 0 = false ∧ locate 2 (RegName.base .axgWin) = some (.axgWin, 0, 0) ∧ gateStaged .axgWin = true ∧
    (ax.setF F.axgWinCtrl_pending 0 0 1).isF F.axgWinCtrl_pending 0 0 = true := by decide +kernel

/-- An agent flush is on its way to port 0's annex, and one transaction of each kind is open at its gate. -/
def gate : State := ax.modGate 0 (fun g => { g with
  toAnnex := [{ opcode := Opc.agentFlush, endpoint := 3 }]
  txs := [{ kind := .snoop, agent := 0, pkt := {} }, { kind := .ack, agent := 0, pkt := {} }, { kind := .wdata, agent := 0, pkt := {} },
          { kind := .memRead, agent := 0, pkt := {} }, { kind := .memWrite, agent := 0, pkt := {} }, { kind := .mmio, agent := 0, pkt := {} },
          { kind := .flush, agent := 0, pkt := {} }] })
theorem test_meets_AnnexPacketsAndTimers : ((gate.gate 0).toAnnex.find? (fun p => p.opcode == Opc.agentFlush && p.epN == 3)).isSome = true ∧ stopAx 2 = some 0 ∧
    ((List.range 7).map (fun i => ((gate.gate 0).txs[i]?).map (·.kind))) =
      [some .snoop, some .ack, some .wdata, some .memRead, some .memWrite, some .mmio, some .flush] ∧
    (ax.setF F.axgPortStatus_reclaimBusy 0 0 1).isF F.axgPortStatus_reclaimBusy 0 0 = true ∧ ax.dir = [] ∧ ax.net = [] ∧ ax.selfDead 2 = false := by decide +kernel

/-! ### Memory ports, deeds, keys and debug -/

/-- Memory port 0 is reachable. -/
def mp : State := ports.setF F.pwrDomStatus_state 0 408 2
/-- Port 0 in training step 3, after a first failure or not. -/
def training (r : Bool) : State := let s := mp.setF F.mpStatus_trainState 0 0 3; { s with mps := s.mps.set {} 0 { retried := r } }
/-- Port 0 with a mirror partner, its link down, and a resynchronisation running. -/
def mirror : State := let s := mp.setF F.mpCfg_mirrorGroups 0 0 1; { s with mps := s.mps.set {} 0 { resync := true } }
theorem test_meets_MemoryPorts : (mp.setF F.mpScrubCtrl_patrolEn 0 0 1).isF F.mpScrubCtrl_patrolEn 0 0 = true ∧ mp.mpServes 0 = true ∧ (mp.decode 0 0 {}).1 ≠ .lost ∧
    mp.reachable .mp 0 = true ∧ mp.issuerWid keeper = 0 ∧ (training false).getF F.mpStatus_trainState 0 0 = 3 ∧ (addRetire 0 []).isSome = true ∧
    ((training false).mps.get {} 0).retried = false ∧ (mp.setF F.mpStatus_mirrorLinkUp 0 0 1).isF F.mpStatus_mirrorLinkUp 0 0 = true ∧
    mirror.mpMirror 0 ≠ 0 ∧ mirror.isF F.mpStatus_mirrorLinkUp 0 0 = false ∧ (mirror.mps.get {} 0).resync = true := by decide +kernel

/-! ### Commands that wait for memory -/

/-- The answer of a memory of zeros to an access. -/
def zeros : Acc → CohAns
  | .read .. | .atomic .. => .data 0 false
  | _ => .done
/-- The answers that a memory of zeros gives, in turn, to what a command asks for. -/
def feed (c : Instr) (stop ep : Nat) (f : State → State) (v : State) : Nat → List (Acc × CohAns) → List (Acc × CohAns)
  | 0, l => l
  | n + 1, l => match (f (AtWork v { stop := stop, ep := ep, cmd := c, log := l })).cursor.block with
    | none => l
    | some a => feed c stop ep f v n (l ++ [(a, zeros a)])
/-- A state with the record of a command that has had those answers. -/
def fedRun (c : Instr) (stop ep : Nat) (f : State → State) (v : State) : Run := { stop := stop, ep := ep, cmd := c, log := feed c stop ep f v 8 [] }
def fed (c : Instr) (stop ep : Nat) (f : State → State) (v : State) : State := { v with works := [fedRun c stop ep f v] }
/-- Every access of the command has been answered. -/
def done (c : Instr) (stop ep : Nat) (f : State → State) (v : State) : Bool :=
  RunOf (fed c stop ep f v) stop ep c == fedRun c stop ep f v && (f (AtWork (fed c stop ep f v) (fedRun c stop ep f v))).cursor.block.isNone
/-- The command asks for an access. -/
def asks (c : Instr) (stop ep : Nat) (f : State → State) (v : State) : Bool := (f (AtWork v (RunOf v stop ep c))).cursor.block.isSome
/-- A record that waits for an access is found and waits (the third clause of `Served`). -/
theorem test_waits : ∀ (v : State) (c : Instr) (a : Acc), RunOf { v with works := [{ stop := 1, ep := 2, cmd := c, next := some a }] } 1 2 c =
    { stop := 1, ep := 2, cmd := c, next := some a } := by intro v c a; simp [RunOf]

/-- The deed table is ready and locked; world 2 owns page 0 of memory, and its command page asks for that page. -/
def deeds : State := (((up.setF F.wldDeedTable_ready 0 0 1).setF F.wldDeedTable_lock 0 0 1).setF F.wldDeedTable_enable 0 0 1).setF F.wldDeedArg_count 0 2 1
/-- World 2 as an issuer. -/
def openWorld : Issuer := { stop := 79, wid := 2 }
/-- Its command is running: RELEASE of the page, or RECLAIM, which is refused. -/
def deedRuns (op : Nat) : State := { deeds with deedCmds := deeds.deedCmds.set none 2 (some { op := op, target := 0, slot := 0, page := 0, left := 1, done := 0 }) }
/-- Its turn. -/
def turn : Instr := .deedUnitTurn {}
def go (s : State) : State := s.deedGo none 0
theorem test_meets_DeedCommands : deeds.issuerWid openWorld = 2 ∧ (deeds.setF F.wldDeedStatus_busy 0 2 1).isF F.wldDeedStatus_busy 0 2 = true ∧
    deeds.isF F.wldDeedStatus_busy 0 2 = false ∧ deeds.isF F.wldDeedTable_ready 0 0 = true ∧ deeds.isF F.wldDeedTable_lock 0 0 = true ∧
    deeds.getF F.wldDeedArg_count 0 2 ≠ 0 ∧ (deedRuns 6).deedNow = none ∧ (deedRuns 6).deedNext.isSome = true ∧ deeds.issuerWid keeper = 0 ∧
    (deeds.setF F.pwrModeStatus_mode 0 0 4).mode = 4 ∧ deeds.mode ≠ 4 ∧ deeds.mode ≠ 5 ∧
    (deedRuns 6).works.any (fun r => r.stop == svcStop && r.ep == 2 && r.cmd != turn) = false ∧ asks turn svcStop 2 go (deedRuns 6).deedTake = true ∧
    done turn svcStop 2 go (deedRuns 7).deedTake = true := by decide +kernel

/-- Invasive debug of world 2 is enabled, hart 0 is seated there, and memory serves. -/
def dbg : State := (ports.setRegWord .wldDebugInv 0 0 4).setF F.wldSeat_wid 0 0 2
/-- Whether the bus answered a read with a value. -/
def isVal : CtlAns → Bool
  | .val _ => true
  | _ => false
/-- The debug bus reads the word at 4096 through hart 0. -/
def peek : Instr := .debugSystemBusAccess 0 4096 false 8 0
def peekF (s : State) : State := s.busAccess (dbg.seat 0) 4096 false 8 0
theorem test_meets_KeysAndDebug : ({ up with keyCmd := some (1, 9, 3) } : State).keyCmd = some (1, 9, 3) ∧ up.issuerWid keeper = 0 ∧ dbg.invasive (dbg.seat 0) = true ∧
    dbg.runs 0 = true ∧ up.invasive (up.seat 0) = false ∧ dbg.dm.busy = none ∧ up.dm.busy = none ∧ up.works = [] ∧ region 4096 = .local ∧
    (dbg.toBoundary 0).1 = true ∧ ((dbg.modHart 0 (fun x => { x with infl := [plainInfl 1 .load 0 .none 0 0] })).toBoundary 0).1 = false := by decide +kernel
theorem test_meets_bus : done peek dbgStop 0 peekF dbg = true ∧ asks peek dbgStop 0 peekF dbg = true ∧
    isVal ((AtWork (fed peek dbgStop 0 peekF dbg) (fedRun peek dbgStop 0 peekF dbg)).busRead (dbg.seat 0) 4096 8).1 = true ∧
    (fed peek dbgStop 0 peekF dbg).works.any (fun r => r.stop == dbgStop && r.cmd != peek) = false := by decide +kernel
/-- A GPIO attribution that changes no source's world meets the hypothesis of its clause. -/
theorem test_meets_gpio : ∀ i, i < 8 → up.getF (F.wldGpioWid_wid i) 0 0 = (up.writeReg .wldGpioWid 0 0 0 allBytes).getF (F.wldGpioWid_wid i) 0 0 := by decide +kernel

/-! ### Data engines -/

/-- Engine 0 is on, channel 0 enabled for world 2 with one descriptor in its ring at 64 KiB, and memory serves. -/
def chan : State := ((((ports.setF F.pwrDomStatus_state 0 428 2).setF F.deChCfg_enable 0 0 1).setF F.deChCfg_wid 0 0 2).setF F.deChTail_tail 0 0 1)
/-- The same, waiting for the answer to an access of the channel's. -/
def chanAsked : State := { chan with works := [{ stop := deStop 0, ep := 0, cmd := .descriptorFetch 0 0, next := some (.read 2 0), tag := some 3 }] }
/-- A job in channel 0: its descriptor's control word, source, destination, lengths and argument; running or not. -/
def job (ctl src dst n m arg : Nat) (ran : Bool) : Job :=
  { index := 0, words := [w64 ctl, w64 src, w64 dst, w64 (n + m * 2 ^ 32), 0, w64 arg, 0, 0], ran := if ran then some 0 else none }
/-- Channel 0 with that job. -/
def withJob (j : Job) : State := chan.modChan 0 0 (fun k => { k with jobs := [j] })
/-- Scan slot 0 is on and periodic. -/
def scanOn : State := (chan.setF F.deScanCfg_enable 0 0 1).setF F.deScanCfg_periodic 0 0 1
theorem test_meets_EngineControl : chan.reachable .de 0 = true ∧ chan.issuerWid keeper = 0 ∧
    (chan.writeReg .deChCfg 0 0 (chan.regWord .deChCfg 0 0) allBytes).chanWid 0 0 = chan.chanWid 0 0 ∧
    (chan.writeReg .deChCfg 0 0 (chan.regWord .deChCfg 0 0) allBytes).getF F.deChCfg_instance 0 0 = chan.getF F.deChCfg_instance 0 0 ∧
    (List.range 32).foldl (fun a i => a + if (chan.writeReg .deChCfg 0 0 (chan.regWord .deChCfg 0 0) allBytes).chanOn 0 i
      then (chan.writeReg .deChCfg 0 0 (chan.regWord .deChCfg 0 0) allBytes).getF F.deChCfg_minShare 0 i else 0) 0 ≤ 48 ∧
    chan.chanMay keeper 0 0 = true ∧ (chan.setRState (deRing 0 0) 3).rState (deRing 0 0) = 3 ∧ (chan.setRState (deRing 0 0) 3).chanWaits 0 0 = false ∧ chanAsked.chanWaits 0 0 = true ∧
    done (.channelResetComplete 0 0) (deStop 0) 0 (fun s => s.chanFresh 0 0) (chan.setRState (deRing 0 0) 3) = true ∧ asks (.channelResetComplete 0 0) (deStop 0) 0
      (fun s => s.chanFresh 0 0) ((chan.setRState (deRing 0 0) 3).modChan 0 0 (fun k => { k with blur := [(64, 4)] })) = true ∧ chan.isF F.deScanCfg_enable 0 0 = false ∧
    scanOn.isF F.deScanCfg_enable 0 0 = true ∧ scanOn.isF F.deScanCfg_watch 0 0 = false ∧ scanOn.isF F.deScanCfg_periodic 0 0 = true ∧ scanOn.isF F.deScanStatus_busy 0 0 = false ∧
    (scanOn.setF F.deScanStatus_busy 0 0 1).isF F.deScanStatus_busy 0 0 = true := by decide +kernel
/-- What DESCRIPTOR_FETCH does, and a memory that refuses it. -/
def fetchF (s : State) : State := s.fetchDesc 0 0
theorem test_meets_EngineFetch : chan.chanOn 0 0 = true ∧ chan.rState (deRing 0 0) ≠ 2 ∧ chan.rState (deRing 0 0) ≠ 3 ∧ chan.rHead (deRing 0 0) ≠ chan.rTail (deRing 0 0) := by decide +kernel
/-- A run with given answers, in the state that has it. -/
def logged (c : Instr) (stop ep : Nat) (l : List (Acc × CohAns)) (v : State) : State := { v with works := [{ stop := stop, ep := ep, cmd := c, log := l }] }
/-- The state at work in a run that has had its answers. -/
def working (c : Instr) (stop ep : Nat) (v : State) : State := AtWork v (RunOf v stop ep c)
/-- Memory gives zeros, or an error, for the descriptor of DESCRIPTOR_FETCH. -/
def fetch : Instr := .descriptorFetch 0 0
theorem test_meets_EngineFetchAnswers : done fetch (deStop 0) 0 fetchF chan = true ∧
    ((working fetch (deStop 0) 0 (fed fetch (deStop 0) 0 fetchF chan)).descriptor (deRing 0 0) (chan.chanWid 0 0) (chan.rHead (deRing 0 0))).1.isSome = true ∧
    (working fetch (deStop 0) 0 (logged fetch (deStop 0) 0 [(.read 2 0, .err 3 0)] chan)).cursor.block = none ∧
    ((working fetch (deStop 0) 0 (logged fetch (deStop 0) 0 [(.read 2 0, .err 3 0)] chan)).descriptor (deRing 0 0) (chan.chanWid 0 0) (chan.rHead (deRing 0 0))).1 = none ∧
    (fetchF (working fetch (deStop 0) 0 (logged fetch (deStop 0) 0 [(.read 2 0, .err 3 0)] chan))).cursor.block = none := by decide +kernel
/-- A NOP that waits, and the channel that is eligible for it. -/
def idle : State := withJob (job 0 0 0 0 0 0 false)
theorem test_meets_EngineDispatch : (List.range 32).find? (fun c => (idle.eligible 0 c .none).isSome) = some 0 ∧
    idle.eligible 0 0 .none = some (job 0 0 0 0 0 0 false) ∧ (job 0 0 0 0 0 0 false).valid = true ∧ idle.getF F.deChCfg_quota 0 0 = 0 ∧
    done (.jobDispatch 0 .none) (deStop 0) 0 (fun s => s.enginePump 0) (idle.dispatch 0 .none) = true ∧
    done (.jobDispatch 0 .none) (deStop 0) 0 (fun s => s.enginePump 0) idle = true := by decide +kernel
/-- What a job's command does to a channel that holds the job. -/
def jobF (f : State → State) (s : State) : State := (f s).chanPump 0 0
def nopJ : State := withJob (job 0 0 0 0 0 0 true)
def copyJ : State := withJob (job 1 4096 8192 64 0 0 true)
def fillJ : State := withJob (job 2 0 4096 0 8 7 true)
theorem test_meets_EngineNop : (nopJ.findJob 0 0 0 none 0).isSome = true ∧
    done (.nop 0 0 0) (deStop 0) 0 (jobF (fun s => match s.findJob 0 0 0 none 0 with | some j => s.jobEnd 0 0 j 0 0 0 | none => s)) nopJ = true := by decide +kernel
theorem test_meets_EngineCopy : (copyJ.findJob 0 0 0 none 1).isSome = true ∧ done (.copy 0 0 0) (deStop 0) 0 (jobF (fun s => s.copyJob 0 0 0)) copyJ = true ∧
    ((working (.copy 0 0 0) (deStop 0) 0 (fed (.copy 0 0 0) (deStop 0) 0 (jobF (fun s => s.copyJob 0 0 0)) copyJ)).copyRange 2 3 4096 8192 64).1 = 0 ∧
    ((working (.copy 0 0 0) (deStop 0) 0 (logged (.copy 0 0 0) (deStop 0) 0 [(.read 2 64, .err 3 0)] copyJ)).copyRange 2 3 4096 8192 64).1 ≠ 0 := by decide +kernel
theorem test_meets_EngineFill : (fillJ.findJob 0 0 0 none 2).isSome = true ∧ done (.fill 0 0 0) (deStop 0) 0 (jobF (fun s => s.fillJob 0 0 0)) fillJ = true ∧
    ((working (.fill 0 0 0) (deStop 0) 0 (fed (.fill 0 0 0) (deStop 0) 0 (jobF (fun s => s.fillJob 0 0 0)) fillJ)).jobWrite 2 4096 [7, 0, 0, 0, 0, 0, 0, 0]).1 = 0 := by
  decide +kernel
/-- COMPRESS of no data, in the raw format of R345, into a destination of 16 bytes. -/
def packJ : State := withJob (job 3 4096 8192 0 16 0 true)
theorem test_meets_EngineCompress : (packJ.findJob 0 0 0 none 3).isSome = true ∧ (compressed 0 0 0 0 false []).length ≤ 16 ∧
    done (.compress 0 0 0) (deStop 0) 0 (jobF (fun s => s.compressJob 0 0 0)) packJ = true ∧
    ((working (.compress 0 0 0) (deStop 0) 0 (fed (.compress 0 0 0) (deStop 0) 0 (jobF (fun s => s.compressJob 0 0 0)) packJ)).jobRead 2 4096 0).1 = 0 ∧
    ((working (.compress 0 0 0) (deStop 0) 0 (fed (.compress 0 0 0) (deStop 0) 0 (jobF (fun s => s.compressJob 0 0 0)) packJ)).jobWrite 2 8192
      (compressed 0 0 0 0 false [])).1 = 0 := by decide +kernel
/-- An empty blocked container (R340) at 4096, and the answer that gives it. -/
def unpackV : State := withJob (job 0x604 4096 8192 16 16 0 true)
def unpackJ : State := logged (.decompress 0 0 0) (deStop 0) 0 (feed (.decompress 0 0 0) (deStop 0) 0 (jobF (fun s => s.decompressJob 0 0 0)) unpackV 8
  [(.read 2 64, .data 0x00000001314B4C42 false)]) unpackV
/-- The same where the input is no container. -/
def badJ : State := logged (.decompress 0 0 0) (deStop 0) 0 [(.read 2 64, .data 0 false)] (withJob (job 0x604 4096 8192 16 16 0 true))
theorem test_meets_EngineDecompress : (unpackJ.findJob 0 0 0 none 4).isSome = true ∧ (badJ.findJob 0 0 0 none 4).isSome = true ∧
    ((working (.decompress 0 0 0) (deStop 0) 0 unpackJ).jobRead 2 4096 16).1 = 0 ∧
    ((working (.decompress 0 0 0) (deStop 0) 0 unpackJ).jobRead 2 4096 16).2.1 = [0x42, 0x4C, 0x4B, 0x31, 1, 0, 0, 0, 0, 0, 0, 0, 0, 0, 0, 0] ∧
    (decompressed 6 16 [0x42, 0x4C, 0x4B, 0x31, 1, 0, 0, 0, 0, 0, 0, 0, 0, 0, 0, 0]).status = 0 ∧
    (((working (.decompress 0 0 0) (deStop 0) 0 unpackJ).jobRead 2 4096 16).2.2.jobWrite 2 8192 []).1 = 0 ∧
    ((working (.decompress 0 0 0) (deStop 0) 0 badJ).jobRead 2 4096 16).1 = 0 ∧ (decompressed 6 16 (List.replicate 16 0)).status ≠ 0 ∧
    ((jobF (fun s => s.decompressJob 0 0 0)) (working (.decompress 0 0 0) (deStop 0) 0 unpackJ)).cursor.block = none := by decide +kernel
def sumJ : State := withJob (job 5 4096 0 9 0 0 true)
theorem test_meets_EngineCollate : (sumJ.findJob 0 0 0 none 5).isSome = true ∧ (job 5 4096 0 9 0 0 true).ctl 32 2 = 0 ∧
    (job 5 4096 0 9 0 0 true).ctl 28 1 = 0 ∧ (job 5 4096 0 9 0 0 true).ctl 31 1 = 0 ∧
    done (.collate 0 0 0 none) (deStop 0) 0 (jobF (fun s => s.collate 0 0 0 none)) sumJ = true ∧
    ((working (.collate 0 0 0 none) (deStop 0) 0 (fed (.collate 0 0 0 none) (deStop 0) 0 (jobF (fun s => s.collate 0 0 0 none)) sumJ)).jobRead 2 4096 9).1 = 0 := by
  decide +kernel
/-! ### Host ports -/

/-- Host port 0 is on and reachable. -/
def hp : State := ports.setF F.pwrDomStatus_state 0 426 2
/-- What enables the port: ENABLE alone. -/
def hpOn : State := hp.setF F.hpPortCfg_enable 0 0 1
/-- Its root port 0 trains, with an active link. -/
def hpUp : State := (hpOn.setF F.hpRcStatus_dlActive 0 0 1).modHp 0 (fun h => { h with training := 1 })
/-- The same in the endpoint role, with its link up. -/
def hpEp : State := (hpUp.setF F.hpPortCfg_endpoint 0 0 1).setF F.hpPortStatus_epLinkUp 0 0 1
/-- A fabric request of core 0 and a translation request of instance 1's queue 0 are outstanding. -/
def hpOut : State := ((hpUp.setF F.hpViCfg_created 0 1 1).setF F.hpViCfg_tqValid 0 1 1).modHp 0 (fun h => { h with
  outst := [{ tag := 7, kind := .fabric (pkt 0x20 64) }, { tag := 8, kind := .transl 0 0, fn := 1, addr := 0x5000 }] })
/-- Queue 0 has a job that waits for its translation: a move of no bytes to the host. -/
def hpJob : State := hpOut.setQueue 0 { hpOut.queue 0 with jobs := [{ index := 0, words := [1, 0, 0, 0], transl := true }] }
/-- A completion, and one that an earlier one, still at work, has taken. -/
def cpl (poison : Bool) : Instr := .pcieCompletion 0 7 .ok poison 0
def hpTaken : State := { hpOut with works := [{ stop := hpStop 0, ep := 0, cmd := cpl true }] }
/-- Sixteen bytes at 4096, with a tag. -/
def tlp (n : BitVec 14) : InTlp := { addr := 4096, len := 16, tag := n }
/-- An earlier write that is to be followed waits for its Comp. -/
def hpTurn : State := { hpUp with works := [{ stop := hpStop 0, ep := 0, cmd := .pcieInboundWrite 0 0 (tlp 0) 0 }] }
theorem test_meets_HostPorts : hp.reachable .hp 0 = true ∧ hp.issuerWid keeper = 0 ∧ hp.isF F.hpPortCfg_enable 0 0 = false ∧
    (hp.writeReg .hpPortCfg 0 0 0x100000 allBytes).isF F.hpPortCfg_enable 0 0 = true ∧ (hpUp.hp 0).training.getLsbD 0 = true ∧ hpUp.endpoint 0 = false ∧
    hpUp.isF F.hpRcStatus_dlActive 0 0 = true ∧ hpEp.endpoint 0 = true ∧ hpUp.rpEnabled 0 0 = true ∧ hpUp.reachable .hp 0 = true ∧
    ((hpUp.setF F.hpRcStatus_frozen 0 0 1).writeReg .hpRcCtrl 0 0 0x100 allBytes).frozenRp 0 0 = true ∧ hpOut.works = [] ∧
    ((hpOut.hp 0).outst.find? (fun o => o.tag == 7)).map (·.kind) = some (.fabric (pkt 0x20 64)) ∧ hpOut.isF F.hpRcCtrl_containCto 0 0 = false ∧ (hpUp.hp 0).outst = [] ∧
    hpOut.takenBy 0 7 (cpl false) = false ∧ hpTaken.takenBy 0 7 (cpl false) = true ∧ hpUp.inLive 0 0 = true ∧ hpEp.inLive 0 0 = true ∧
    (tlp 0).unsupported = false ∧ inMemory 4096 = true := by decide +kernel
/-- What a command does at host port 0 once its accesses are answered. -/
def atHp (c : Instr) (f : State → State) (s : State) : Bool := done c (hpStop 0) 0 f s
theorem test_meets_HostPortAnswers : atHp (cpl false) (fun s => s.completed 0 7 .ok false 0) hpOut = true ∧
    atHp (.pcieCompletionTimeout 0 7) (fun s => s.timedOut 0 7) hpOut = true ∧ hpOut.takenBy 0 7 (.pcieCompletionTimeout 0 7) = false ∧
    atHp (.pcieInboundRead 0 0 (tlp 1)) (fun s => s.inMemRead 0 (hpUp.inWid 0 0) 4096 (tlp 1)) hpUp = true ∧ hpUp.turnHeld (.pcieInboundRead 0 0 (tlp 1)) = false ∧
    atHp (.pcieInboundRead 0 0 (tlp 1)) (fun s => s.epRead (tlp 1)) hpEp = true ∧ hpEp.turnHeld (.pcieInboundRead 0 0 (tlp 1)) = false ∧
    hpTurn.turnHeld (.pcieInboundRead 0 0 (tlp 1)) = true := by decide +kernel
theorem test_meets_inbound_write :
    atHp (.pcieInboundWrite 0 0 (tlp 1) 5) (fun s => s.inMemWrite 0 (hpUp.inWid 0 0) 4096 (tlp 1) 5) hpUp = true ∧ hpUp.turnHeld (.pcieInboundWrite 0 0 (tlp 1) 5) = false ∧
    atHp (.pcieInboundWrite 0 0 (tlp 1) 5) (fun s => s.epWrite (tlp 1) 5) hpEp = true ∧ hpEp.turnHeld (.pcieInboundWrite 0 0 (tlp 1) 5) = false := by decide +kernel
/-- Whether a coherent access gave data. -/
def gaveData : CohAns → Bool
  | .data .. => true
  | _ => false
/-- A fetch-and-add by a device reaches memory, which serves. -/
def faa : Instr := .pcieInboundAtomic 0 0 (tlp 1) false true 1
def faaF (s : State) : State := (s.cohAtomic (hpUp.inWid 0 0) 64 2 0 8 1).2
theorem test_meets_inbound_atomic : atHp faa faaF hpUp = true ∧ hpUp.turnHeld faa = false ∧
    gaveData ((working faa (hpStop 0) 0 (fed faa (hpStop 0) 0 faaF hpUp)).cohAtomic (hpUp.inWid 0 0) 64 2 0 8 1).1 = true := by decide +kernel
/-- A grant or a refusal of the translation. -/
def grant (g : Bool) : Instr := .translationCompletion 8 g 0x7000 12
/-- What either does, once it is taken. -/
def granted (g : Bool) (s : State) : State :=
  let s1 := s.modHp 0 (fun h => { h with outst := h.outst.tail.tail })
  if g then s1.tqRun 0 1 0 { index := 0, words := [1, 0, 0, 0], transl := true } else s1.tqFail 0 1 0 { index := 0, words := [1, 0, 0, 0], transl := true } 0x14
/-- Queue 0 of instance 1, a bus master, has a descriptor. -/
def hpQueue : State := let s := ((hpUp.setF F.hpViCfg_created 0 1 1).setF F.hpViCfg_tqValid 0 1 1).setF F.hpTqTail_tail 0 0 1; s.setVf 1 { s.vf 1 with bme := true }
theorem test_meets_HostQueuesAndFunctions : hp.reachable .hp 0 = true ∧ hp.issuerWid keeper = 0 ∧ hpJob.queueOwner 0 = some (1, 0) ∧
    (hpJob.hp 0).outst.find? (fun o => o.tag == 8) = some { tag := 8, kind := .transl 0 0, fn := 1, addr := 0x5000 } ∧ hpJob.takenBy 0 8 (grant true) = false ∧
    hpJob.takenBy 0 8 (grant false) = false ∧ ((hpJob.queue 0).jobs.find? (fun j => j.index == 0 && j.transl)).isSome = true ∧ (hp.vf 1).inval.length < 32 ∧
    (hp.hp 0).outst = [] ∧ hp.resetting 1 = false ∧ hpEp.endpoint 0 = true ∧ hpUp.endpoint 0 = false := by decide +kernel
theorem test_meets_HostQueueAnswers : atHp (grant true) (granted true) hpJob = true ∧ atHp (grant false) (granted false) hpJob = true ∧
    atHp (.flrComplete 1) (fun s => s.flrEnd 1) hp = true ∧ atHp (.tqNop 0) (fun s => s.tqServe 0 0) hpQueue = true ∧ atHp (.toHost 0) (fun s => s.tqServe 0 1) hpQueue = true ∧
    atHp (.fromHost 0) (fun s => s.tqServe 0 2) hpQueue = true ∧ asks (.tqNop 0) (hpStop 0) 0 (fun s => s.tqServe 0 0) hpQueue = true := by decide +kernel
/-- A link that comes up holds the rate down to MAX_RATE, and a link that drops freezes its root port with cause 3 (R356, R364). -/
theorem test_link : (after (exec (.pcieLinkUp 0 0 4 6 true) (hpUp.setF F.hpPortCfg_maxRate 0 0 5))).getF F.hpRcStatus_rate 0 0 = 5 ∧
    (after (exec (.pcieLinkDown 0 0) hpUp)).isF F.hpRcStatus_frozen 0 0 = true := by decide +kernel

/-! ### Faults of the whole device, resets and rails -/

theorem test_meets_FatalErrors : up.getF F.anlStatus_fatalCause 0 0 = 0 ∧ (up.setF F.anlStatus_fatalCause 0 0 3).getF F.anlStatus_fatalCause 0 0 ≠ 0 := by decide +kernel
/-- A second fatal error leaves the first cause and counts (R493). -/
theorem test_fatal_latch : (after (exec (.fatalError 4) (after (exec (.fatalError 2) up)))).getF F.anlStatus_fatalCause 0 0 = 3 ∧
    (after (exec (.fatalError 4) (after (exec (.fatalError 2) up)))).getF F.anlStatus_fatalCount 0 0 = 2 ∧ (after (exec (.fatalError 2) up)).mode = 7 := by decide +kernel

/-- PWRGOOD is low. -/
def dark : State := { up with pw := { up.pw with pwrgood := false } }
/-- A warm reset is pending. -/
def warmSoon : State := { up with pw := { up.pw with warm := some 10 } }
/-- Boot has reached step 10. -/
def booted : State := up.setF F.kprStatus_bootStage 0 0 10
/-- The boot chain of a cold reset has written the staging range and waits at step 8; its answers have come. -/
def boots : State := { up with kpr := { up.kpr with booting := some 1 }, works := [{ stop := svcStop, ep := 0, cmd := .coldReset {} }] }
theorem test_meets_ResetsAndRails : State.reset.pw.pwrgood = true ∧ State.reset.getF F.kprStatus_bootStage 0 0 = 0 ∧ State.reset.bootResumes (.coldReset {}) = false ∧
    up.warmIgnored = false ∧ up.bootResumes (.resetNFall true {}) = false ∧ up.bootResumes (.resetNFall false {}) = false ∧ warmSoon.pw.warm = some 10 ∧
    warmSoon.bootResumes (.warmResetDelayExpiry {}) = false ∧ boots.bootResumes (.coldReset {}) = true ∧ boots.kpr.booting = some 1 ∧
    RunOf boots svcStop 0 (.coldReset {}) = { stop := svcStop, ep := 0, cmd := .coldReset {} } ∧
    (State.bootRest (AtWork boots { stop := svcStop, ep := 0, cmd := .coldReset {} }) 1).cursor.block = none ∧
    dark.pw.pwrgood = false ∧ up.mode ≠ 0 ∧ up.pw.inReset = false ∧ booted.pw.inReset = false ∧ booted.mode ≠ 0 ∧
    9 ≤ booted.getF F.kprStatus_bootStage 0 0 ∧ booted.getF F.kprStatus_bootStage 0 0 ≤ 11 := by decide +kernel

/-- The Curator runs, with both interrupts enabled and pending, its timer passed and a flash operation under way. -/
def curUp (p : Bool) : State := let s := up.setF F.curStatus_state 0 0 1; { s with cur := { s.cur with flash := some { program := p, addr := 0, size := 16 } } }
/-- A CSR of the running Curator. -/
def curCsr3 (mie mstatus : Nat) : State := ((curUp false).setCurCsr 0x304 (BitVec.ofNat 32 mie)).setCurCsr 0x300 (BitVec.ofNat 32 mstatus)
/-- Its timer has passed. -/
def curTick : State := ((curCsr3 0x80 8).setF F.curMtimecmpLo_cmp 0 0 0).setF F.curMtimecmpHi_cmp 0 0 0
/-- An external interrupt: a flash command has ended. -/
def curExt : State := let s := (curCsr3 0x880 8).setF F.curIntEn_en 0 0 4; { s with cur := { s.cur with flashDone := true } }
/-- Its pc is outside its TCM and its flash window. -/
def curLost : State := (curUp false).setCurPc 0x20000
/-- An instruction that writes x1. -/
def curAdd : CurInstr := { kind := .alu 1 5 }
def curInstr : Instr := .curatorInstruction curAdd
/-- The Keeper's watchdog has warned; it has restarted three times in 10 s. -/
def warned : State := up.setF F.kprWdt_warned 0 0 1
def warnedOft : State := { warned with kpr := { warned.kpr with restarts := [0, 0, 0] } }
theorem test_meets_CuratorAndWatchdog : up.issuerWid keeper = 0 ∧ (curUp false).curRuns = true ∧ (curUp false).isF F.curStatus_warned 0 0 = false ∧
    curTick.curCmp ≤ curTick.mtime ∧ (curTick.curCsr 0x304).getLsbD 7 = true ∧ (curTick.curCsr 0x300).getLsbD 3 = true ∧ curTick.agentWaits svcStop 1 = false ∧
    (curTick.curMip &&& curTick.curCsr 0x304).getLsbD 11 = false ∧ (curTick.curMip &&& curTick.curCsr 0x304).getLsbD 7 = true ∧ curTick.curRuns = true ∧
    (curExt.curMip &&& curExt.curCsr 0x304).getLsbD 11 = true ∧ (curExt.curCsr 0x300).getLsbD 3 = true ∧ curExt.curRuns = true ∧ curExt.agentWaits svcStop 1 = false ∧
    (curUp false).cur.waiting = false ∧ ((curUp false).curFetch 0 4).1 = true ∧ (curUp false).cur.pc = 0 ∧ curLost.cur.waiting = false ∧
    (curLost.curFetch 0x20000 4).1 = false ∧ (curUp false).cur.flash.isSome = true ∧ ((curUp true).cur.flash.map (·.program)) = some true ∧
    ((curUp false).cur.flash.map (·.program)) = some false ∧ up.mode ≠ 0 ∧ up.pw.inReset = false ∧ up.isF F.kprWdt_warned 0 0 = false ∧
    warned.isF F.kprWdt_warned 0 0 = true ∧ (recentRestarts warned.kpr.restarts warned.mtime).length < 3 ∧
    3 ≤ (recentRestarts warnedOft.kpr.restarts warnedOft.mtime).length ∧ up.issuerWid openWorld ≠ 1 := by decide +kernel
theorem test_meets_CuratorInstruction : done curInstr svcStop 1 (fun s => s.curStep curAdd) (curUp false) = true ∧
    done curInstr svcStop 1 (fun s => s.curStep curAdd) curLost = true ∧ (curUp false).works.any (fun r => r.stop == svcStop && r.ep == 1 && r.cmd != curInstr) = false := by
  decide +kernel

/-! ### Slips -/

/-- Boot has ended in Reduced service. -/
def served : State := up.setF F.kprStatus_bootStage 0 0 12
/-- A slip of the host with an opcode waits in the PF mailbox. -/
def mailed (op : Nat) : State := { served with slips := { served.slips with pf := ((({} : Mailbox).write 0 2 op).go) } }
/-- A slip from the PF mailbox is in hand. -/
def hostSlip (op : Nat) : Slip := { t := .pf, wid := 0, opcode := op, flags := 0, seq := 1 }
def holdsSlip (op : Nat) : State := { served with slips := { served.slips with inHand := some { slip := hostSlip op } } }
/-- What the row of each opcode does (R420 to R430). -/
def acts : List (Nat × (State → Slip → SlipEnv → Option Ret × State)) :=
  [(0x0000, State.opGetInfo), (0x0001, State.opGetNonce), (0x0002, State.opGetRandom), (0x0100, State.opImageStatus), (0x0101, State.opWarmReset), (0x0102, State.opFlashErase), (0x0103, State.opFlashWrite), (0x0104, State.opProvisionKey), (0x0105, State.opRevokeKey), (0x0200, State.opWorldCreate), (0x0201, State.opWorldDestroy), (0x0202, State.opSeatLend), (0x0203, State.opBellAllow), (0x0204, State.opShelfSet)] ++
  [(0x0205, State.opMeterSet), (0x0206, State.opWorldStatus), (0x0300, State.opKeyNew), (0x0301, State.opKeyDrop), (0x0302, State.opDeedReclaim), (0x0303, State.opDepoDeeds), (0x0304, State.opDeedTableSetup), (0x0400, State.opModeSet), (0x0401, State.opPowerLimit), (0x0402, State.opDomainSet), (0x0403, State.opCoreN), (0x0404, State.opPowerStatus), (0x0500, State.opLedgerRead), (0x0501, State.opLedgerStatus)] ++
  [(0x0502, State.opSurveyStart), (0x0503, State.opLedgerNotify), (0x0600, State.opAnnalsRead), (0x0601, State.opAnnalsFreeze), (0x0602, State.opAnnalsClear), (0x0603, State.opAnnalsNotify), (0x0700, State.opRouteStage), (0x0701, State.opRouteSwitch), (0x0702, State.opAnnexConfig), (0x0703, State.opAnnexUp), (0x0704, State.opAnnexAttest), (0x0705, State.opAnnexDown), (0x0706, State.opDepoMap), (0x0800, State.opMpStatus)] ++
  [(0x0801, State.opMpScrub), (0x0802, State.opMpLaneRetire), (0x0803, State.opMpMirror), (0x0900, State.opDebugGrant), (0x0901, State.opDebugDrop), (0x0A00, State.opCertRead), (0x0A01, State.opMeasure), (0x0A02, State.opQuote), (0x0A03, State.opQuoteRead), (0x0A04, State.opLogRead), (0x0B00, State.opViCreate), (0x0B01, State.opViRemove), (0x0B02, State.opViStatus)]

/-- The Keeper begins a command: nothing else of it is under way. -/
def begun (s : State) : State := { s with slips := { s.slips with since := s.mtime, restarting := false }, cursor := {} }
theorem test_begun (s : State) (c : Instr) (h : s.works = []) : s.keeperFree c = true ∧
    AtWork (s.keeperStart c) (RunOf (s.keeperStart c) svcStop 0 c) = begun s := by
  simp [State.keeperFree, State.keeperStart, RunOf, AtWork, begun, h]
/-- The Keeper is at another command. -/
theorem test_not_free (s : State) : State.keeperFree { s with works := [{ stop := svcStop, ep := 0, cmd := .quoteSigned }] } (.getInfo .pf) = false := by
  simp [State.keeperFree]
/-- A row answers the slip in hand, and nothing waits for memory. -/
def rowEnds (s : State) (x : Nat × (State → Slip → SlipEnv → Option Ret × State)) (w : Work) : Bool :=
  match x.2 (begun s) w.slip {} with
  | (some r, u) => (u.closeSlip w.slip w.restarted r).cursor.block.isNone
  | (none, _) => false
/-- A row waits for the hardware. -/
def rowWaits (s : State) (x : Nat × (State → Slip → SlipEnv → Option Ret × State)) (w : Work) : Bool :=
  (x.2 (begun s) w.slip {}).1.isNone && (x.2 (begun s) w.slip {}).2.cursor.block.isNone
/-- Every row but METER_SET and ROUTE_SWITCH answers a slip without parameters at once. -/
theorem test_meets_rows_answer : (acts.filter (fun x => x.1 != 0x0205 && x.1 != 0x0701)).all (fun x => rowEnds (holdsSlip x.1) x { slip := hostSlip x.1 }) = true := by
  decide +kernel
/-- METER_SET waits for a commit that is pending, ROUTE_SWITCH for its own switch, and each answers once that has ended. -/
def meshWork (op n : Nat) : Work := { slip := hostSlip op, phase := n }
def holdsMesh (op n : Nat) : State := let s := served.setF F.niFabricStatus_meterPending 0 0 (1 - n); { s with slips := { s.slips with inHand := some (meshWork op n) } }
theorem test_meets_rows_wait : (acts.filter (fun x => x.1 == 0x0205 || x.1 == 0x0701)).map
    (fun x => (rowWaits (holdsMesh x.1 0) x (meshWork x.1 0), rowEnds (holdsMesh x.1 1) x (meshWork x.1 1))) = [(true, true), (true, true)] := by decide +kernel
/-- A slip that waits in the mailbox is taken and begun. -/
theorem test_meets_rows_taken : acts.all (fun x =>
    let s := begun (mailed x.1)
    (s.waitingOp 65).1 == some x.1 && (s.waitingOp 65).2.slips.inHand.isNone && (s.waitingOp 65).2.keeperServes 65 && (match (s.waitingOp 65).2.takeSlip 65 with
      | (some r, u) => (u.beginSlip opRow r {}).cursor.block.isNone
      | (none, _) => false)) = true := by
  decide +kernel
/-- Another slip waits there: nothing happens. -/
theorem test_meets_rows_other : ((begun (mailed 0xFFFF)).waitingOp 65).1 = some 0xFFFF ∧ ((begun (mailed 0xFFFF)).waitingOp 65).2.cursor.block = none ∧
    acts.all (fun x => x.1 != 0xFFFF) = true := by decide +kernel
theorem test_holds_works : ∀ op, (holdsSlip op).works = [] ∧ (mailed op).works = [] := fun _ => ⟨rfl, rfl⟩
/-- World 2 rings; the I3C target has its address; an operation has started: a Survey, or the teardown of a world. -/
def i3cUp : State := { served with slips := { served.slips with i3cAddr := some 9, started := [{ id := 4, opcode := 0x0502, wid := 2 }, { id := 5, opcode := 0x0201, wid := 7 }] } }
/-- The teardown waits for a meter commit that is pending. -/
def tearing : State := i3cUp.setF F.niFabricStatus_meterPending 0 0 1
theorem test_meets_SlipTransports : served.issuerWid openWorld = 2 ∧ (curUp false).curRuns = true ∧ i3cUp.slips.i3cAddr = some 9 ∧ (holdsSlip 0).slips.inHand.isSome = true ∧
    (mailed 0).slips.inHand = none ∧ (begun (mailed 0)).nextTurn = some 65 ∧ (begun served).nextTurn = none ∧ i3cUp.kpr.faulted = false ∧
    i3cUp.slips.started.find? (fun x => x.id == 4) = some { id := 4, opcode := 0x0502, wid := 2 } ∧
    i3cUp.slips.started.find? (fun x => x.id == 5) = some { id := 5, opcode := 0x0201, wid := 7 } ∧ i3cUp.mode ≠ 6 ∧ i3cUp.pw.target ≠ some 6 ∧
    (tearing.destroyWorld 7).1 = false := by decide +kernel
theorem test_meets_teardown : (i3cUp.destroyWorld 7).1 = true := by decide +kernel
theorem test_meets_SlipTurn :
    (State.runSlip (begun (holdsSlip 0)) (opRow 0) { slip := hostSlip 0 } {}).cursor.block = none ∧
    (let u := begun (mailed 0); (State.visit { u with slips := { u.slips with turn := afterTurn 65 } } opRow 65 {}).cursor.block) = none := by decide +kernel
/-- A GET_INFO slip that the Keeper takes is answered: the mailbox is no longer BUSY, and DONE is set (R415). -/
theorem test_slip_answered : (after (exec (.keeperSlipTurn {}) (mailed 0))).slips.pf.busy = false ∧ (after (exec (.keeperSlipTurn {}) (mailed 0))).slips.pf.done = true := by
  decide +kernel

/-! ### Power, modes, the Ledger, the Annals and the monitors -/

/-- Hart 0's core is clock gated, in Origin, with no interrupt pending. -/
def gated : State := waits .wfi ((up.setF F.pwrDomStatus_state 0 0 3).setF F.pwrModeStatus_mode 0 0 4)
/-- The same with the timer interrupt pending and enabled, and a domain state. -/
def waking (d : Nat) : State := ((waits .wfi upBusy).setF F.pwrDomStatus_state 0 0 d).setF F.pwrModeStatus_mode 0 0 4
/-- The folio is on. -/
def folioOn : State := ports.setF F.pmuFolioCtrl_enable 0 0 1
/-- The folio holds core 0's domain: its group is selected. -/
def gatedFolio : State := (gated.setF F.pmuFolioCtrl_enable 0 0 1).setF F.pmuFolioCtrl_groups 0 0 (2 ^ 16 - 1)
theorem test_meets_PowerDomainsAndIdling : up.issuerWid keeper = 0 ∧ (up.setF F.pwrDomStatus_state 0 409 4).domain 409 = 4 ∧ up.domain 409 ≠ 4 ∧
    (up.setF F.pwrDomStatus_state 0 0 4).domain 0 = 4 ∧ (up.setF F.pwrDomStatus_state 0 0 4).pw.iso.any (fun e => e.1 == 0) = false ∧
    (up.setF F.pwrDomStatus_state 0 408 5).domain 408 = 5 ∧ domStop 408 = none ∧ up.domain 408 ≠ 5 ∧
    up.domain (up.physCore 0) = 2 ∧ (waits .wfi up).runs 0 = true ∧ (waits .wfi up).wakeEvent 0 = false ∧ ((waits .wfi up).hart 0).sq = [] ∧
    ((waits .wfi up).setDomain (up.physCore 0) 3).pw.offNext.contains (up.physCore 0) = false ∧
    gated.domain (gated.physCore 0) = 3 ∧ gated.isF F.pwrDomStatus_pinned 0 (gated.physCore 0) = false ∧ gated.mode ≠ 3 ∧ gated.isF F.pwrModeStatus_transition 0 0 = false ∧
    gated.wakeEvent 0 = false ∧ gated.refuserOf (gated.physCore 0) 0 (gated.seat 0) = none ∧ gatedFolio.wakeEvent 0 = false ∧
    gatedFolio.refuserOf (gatedFolio.physCore 0) 0 (gatedFolio.seat 0) = some Refuser.folioActive ∧ (waking 3).wakeEvent 0 = true ∧ (waking 3).domain 0 = 3 ∧
    (waking 4).domain ((waking 4).physCore 0) = 4 ∧ (waking 4).wakeEvent 0 = true ∧ (waking 1).domain 0 = 1 ∧ (waking 1).wakeEvent 0 = true ∧
    (waking 3).isF F.pwrDomStatus_pinned 0 0 = false ∧ ((waking 1).core 0).cut = false ∧ (waking 1).isF F.pwrModeStatus_transition 0 0 = false ∧ (waking 1).mode = 4 := by
  decide +kernel

/-- A mode sequence to a mode is under way. -/
def toMode (m t : Nat) : State := let s := (up.setF F.pwrModeStatus_mode 0 0 m).setF F.pwrModeStatus_transition 0 0 1; { s with pw := { s.pw with target := some t } }
/-- A mode with every wake source enabled, and nothing under way. -/
def inMode (m : Nat) : State := (up.setF F.pwrModeStatus_mode 0 0 m).setRegWord .pwrWakeEn 0 0 (2 ^ 50 - 1)
/-- A sample within its limits, and one too hot. -/
def sample (temp : Nat) : WatchSample := { tile := 0, temp := temp, mv := 0, ppm := 0 }
/-- Watch with a limit of 90 degrees, scans on. -/
def watching : State := ((inMode 1).setF F.pwrWatchCfg_tempMax 0 0 90).setF F.pwrWatchCfg_scanEn 0 0 1
theorem test_meets_ModeEntries : (toMode 4 0).isF F.pwrModeStatus_transition 0 0 = true ∧ (toMode 4 0).pw.target = some 0 ∧ (toMode 4 0).folio.record = none ∧
    (toMode 4 2).mode = 4 ∧ (toMode 4 2).pw.target = some 2 ∧ (toMode 4 1).pw.target = some 1 ∧ (toMode 2 1).mode = 2 ∧ (toMode 2 1).pw.target = some 1 ∧
    (toMode 2 4).pw.target = some 4 ∧ (inMode 6).mode = 6 ∧ (toMode 4 6).mode ≠ 6 ∧ (toMode 4 6).pw.target = some 6 ∧
    ((toMode 4 2).setRegWord .pwrWakeEn 0 0 1).isF F.pwrModeStatus_transition 0 0 = true ∧ (((toMode 4 2).setRegWord .pwrWakeEn 0 0 1).regWord .pwrWakeEn 0 0).getLsbD 0 = true ∧
    ((inMode 2).regWord .pwrWakeEn 0 0).getLsbD 41 = true ∧ ((inMode 2).regWord .pwrWakeEn 0 0).getLsbD 49 = true ∧
    ((inMode 2).regWord .pwrWakeEn 0 0).getLsbD 48 = true ∧ ((inMode 2).setF F.hpPortCfg_endpoint 0 0 1).endpoint 0 = true ∧
    (inMode 2).isF F.pwrModeStatus_transition 0 0 = false ∧ (inMode 2).mode = 2 ∧ (inMode 1).mode = 1 ∧ (inMode 2).holds = true ∧ (inMode 2).pw.held.length < 64 ∧
    watching.mode = 1 ∧ watching.pw.scan = none ∧ (sample 20).temp < watching.getF F.pwrWatchCfg_tempMax 0 0 ∧
    (sample 20).mv ≤ watching.getF F.pwrWatchCfg_vDevMv 0 0 ∧ (sample 20).ppm ≤ watching.getF F.pwrWatchCfg_agePpm 0 0 ∧ watching.watchCause (sample 95) ≠ 0 ∧
    watching.watchCause (sample 20) = 0 ∧ watching.isF F.pwrWatchCfg_scanEn 0 0 = true := by decide +kernel
theorem test_meets_survey_waits : ({ toMode 4 6 with folio := { record := some { seq := 1, wid := 2, pa := 0, header := [], blocks := [] } } } : State).surveyStart.1 = false := by
  decide +kernel
/-- With no hart released every slice is empty, and the Survey starts at once. -/
def restful : State := let s := (State.reset.setF F.pwrModeStatus_mode 0 0 4).setF F.pwrModeStatus_transition 0 0 1; { s with pw := { s.pw with target := some 6 } }
theorem test_meets_survey_starts : restful.mode ≠ 6 ∧ restful.isF F.pwrModeStatus_transition 0 0 = true ∧ restful.pw.target = some 6 ∧ restful.surveyStart.1 = true := by decide +kernel
theorem test_meets_held_queue_full : ∃ s : State, s.holds = true ∧ 64 ≤ s.pw.held.length :=
  ⟨{ inMode 2 with pw := { (inMode 2).pw with held := List.replicate 64 (.file 2 0 0 0) } }, by decide +kernel⟩

/-- Tile 0 is throttled; core 0 is cut as well, with every point valid, and a directory lists it or nothing does. -/
def hot (cut : Bool) : State := ((up.setThrottled 0 [0]).modCore 0 (fun k => { k with cut := cut }))
def cutListed : State := let s := ((hot true).modCore 0 (fun k => { k with dead := true })).setPoint 0 0 true
  { s with dir := s.dir.set none (dirKey 0 64) (some { sec := 64, st := .dx, busy := true, owner := 0 }) }
theorem test_meets_ThermalLimits : up.getF F.pwrLimitCtrl_limitW 0 0 < 1023 ∧ up.pw.throttled.contains 0 = false ∧ (hot false).pw.throttled.contains (0 / 2) = true ∧
    ((hot false).core 0).cut = false ∧ (hot false).domain 0 ≠ 0 ∧ ((hot true).core 0).cut = true ∧ 6 ≤ ((hot true).setPoint 0 0 true).usableCeil 0 ∧
    (((hot true).setPoint 0 0 true).bury 0).1 = true ∧ (cutListed.core 0).cut = true ∧ 6 ≤ cutListed.usableCeil 0 ∧ (cutListed.bury 0).1 = false := by decide +kernel
/-- A throttled tile stays so at 96 degrees, and is released at 95 (R457). -/
theorem test_throttle_release : (after (exec (.throttleRelease 0 96) (hot false))).pw.throttled = [0] ∧ (after (exec (.throttleRelease 0 95) (hot false))).pw.throttled = [] := by
  decide +kernel

/-- Tile 0's registers can be reached. -/
def tileUp : State := up.setF F.pwrDomStatus_state 0 272 2
/-- The guard has lowered core 0; a retirement and a check wait; a record is held; checks roll. -/
def worn : State := ({ up with pw := { up.pw with droopN := up.pw.droopN.set 31 0 9 }, ledger := { up.ledger with waiting := [0], retry := [0], held := [{ seq := 0, time := 0, kind := 1 }] } } : State).setF
  F.mlgCtrl_rollEn 0 0 1
/-- Debug holds hart 0. -/
def heldHart : State := (up.modHart 0 (fun x => { x with debug := true })).setF F.mlgCtrl_rollEn 0 0 1
theorem test_meets_LedgerAndSurveys : (up.setF F.mlgCtrl_floorPs 0 0 10).droops 0 9 = true ∧ (up.setF F.mlgCtrl_floorPs 0 0 10).droops 0 10 = false ∧
    ((worn.setF F.mlgCtrl_floorPs 0 0 10).droops 0 9 = true) ∧ worn.pw.droopN.get 31 0 < 31 ∧
    worn.pw.droopN.get 31 0 ≠ 31 ∧ worn.isF F.mlgCtrl_rollEn 0 0 = true ∧ worn.checkDeferred 0 = false ∧ worn.coreHalted 0 = false ∧
    worn.ledger.retry.contains 0 = true ∧ worn.ledger.waiting.contains 0 = true ∧ heldHart.checkDeferred 0 = false ∧ heldHart.coreHalted 0 = true ∧
    heldHart.ledger.retry.contains 0 = false ∧ heldHart.isF F.mlgCtrl_rollEn 0 0 = true ∧ up.hartOf 0 = some 0 ∧ up.runs 0 = true ∧ ((up.stopHart 0).hart 0).stopped = true ∧
    ((up.stopHart 0).hart 0).infl = [] ∧ ((upLoad.stopHart 0).hart 0).stopped = false ∧ up.ageParts.ledger.seconds + 1 < 3600 ∧
    3600 ≤ (State.ageParts { up with ledger := { up.ledger with seconds := 3599 } }).ledger.seconds + 1 ∧
    tileUp.reachable .tile 0 = true ∧ tileUp.issuerWid keeper = 0 ∧
    Nat.land (tileUp.getF F.mlgWayRetire_ways 0 0) (1 % 4096) = tileUp.getF F.mlgWayRetire_ways 0 0 ∧ 1 % 4096 ≠ tileUp.getF F.mlgWayRetire_ways 0 0 ∧
    ((List.range 12).filter (fun i => 1 % 4096 / 2 ^ i % 2 == 1)).length ≤ 2 ∧ 2 < ((List.range 12).filter (fun i => 7 % 4096 / 2 ^ i % 2 == 1)).length ∧
    worn.ledger.held ≠ [] ∧ (inMode 6).mode = 6 ∧ up.isF F.mlgStatus_surveyDue 0 0 = false ∧ (up.setF F.mlgStatus_surveyDue 0 0 1).isF F.mlgStatus_surveyDue 0 0 = true := by
  decide +kernel

/-- Core 0 holds sector 64 in a state. -/
def holdsLine (st : CState) : State := up.setCline 0 64 { st := st, l1d := true }
/-- Tile 0's LLC holds the granule 32 in way 0, clean or dirty. -/
def cached (d : Bool) : State := ({ up with llc := up.llc.set none (llcKey 0 32) (some { gran := 32, v0 := true, k0 := d }) } : State).setF F.pwrModeStatus_mode 0 0 4
/-- A freeze has ended and its hold queue is empty. -/
def thawing : State := { up with annals := { up.annals with thaw := true } }
theorem test_meets_ArrayErrorsAndAnnals : ((holdsLine .s).cline 0 64).st = .s ∧ ((holdsLine .e).cline 0 64).st = .e ∧ ((holdsLine .m).cline 0 64).st = .m ∧
    ((holdsLine .o).cline 0 64).st = .o ∧ (((cached false).llcFind 0 (64 / 2)).map (fun x => (x.2.1, x.2.2.valid 0))) = some (0, true) ∧
    (((cached true).llcFind 0 (64 / 2)).map (fun x => (x.2.2.valid 0, x.2.2.dirty 0 || x.2.2.pinned))) = some (true, true) ∧
    evInfo 0x041 = some (5, some (16, 100)) ∧ (up.setF F.anlRate_burst 0 0x041 0).bucketOpen 0x041 5 true = false ∧ evInfo 1 = some (6, none) ∧ up.bucketOpen 1 6 false = true ∧
    (up.setF F.anlStatus_archiveOk 0 0 0).isF F.anlStatus_archiveOk 0 0 = false ∧ thawing.annals.thaw = true ∧ thawing.annals.freezers = [] ∧ thawing.annals.held = [] := by
  decide +kernel

/-- A record of no block is complete but for its header; the command that writes it has had the answers so far. -/
def rec0 (f : Bool) : FolioRec := { seq := 3, wid := 2, pa := 65536, header := [3, 0, 0, 64], blocks := [], opened := true, failed := f }
def recOpen (f : Bool) : State := { folioOn with folio := { folioOn.folio with record := some (rec0 f) } }
def recRun : State := fed (.folioEdge false) svcStop 3 State.folioClose (recOpen false)
theorem test_meets_PerformanceMonitors : tileUp.reachable (PmuBlock.slice 0).at.1 (PmuBlock.slice 0).at.2 = true ∧ up.issuerWid openWorld = 2 ∧
    folioOn.isF F.pmuFolioCtrl_enable 0 0 = true ∧ up.isF F.pmuFolioCtrl_enable 0 0 = false ∧ folioOn.works = [] ∧ folioOn.folio.record = none ∧ (recOpen false).folio.record ≠ none ∧
    (recOpen false).works = [] ∧ recRun.works.any (fun r => r.cmd == .folioEdge false && r.next.isNone) = true ∧ recRun.folio.record = some (rec0 false) ∧ (rec0 false).opened = true ∧
    done (.folioEdge false) svcStop 3 State.folioClose (recOpen false) = true := by decide +kernel
/-- The header's write is answered, or refused. -/
theorem test_meets_folio_header :
    ((AtWork recRun (fedRun (.folioEdge false) svcStop 3 State.folioClose (recOpen false))).folioPut 2 65536 64 (rec0 false).header).folio.record.map (·.failed) = some false ∧
    (State.folioPut { recOpen false with cursor := { left := (feed (.folioEdge false) svcStop 3 State.folioClose (recOpen false) 1 []).map (fun x => (x.1, .err 3 0)) } }
      2 65536 64 (rec0 false).header).folio.record.map (·.failed) = some true := by decide +kernel

/-! ### The statements of rules across commands -/

theorem test_meets_WidClassRegister : ∃ s : State, s.shelved = true := ⟨up.setF F.pwrModeStatus_mode 0 0 4, by decide +kernel⟩
theorem test_meets_StepRunsFront : ({ up with pending := [.vaonLoss, .fenceI 0] } : State).pending = [.vaonLoss, .fenceI 0] ∧ up.pending = [] := by decide +kernel

theorem test_meets_FieldWrites : F.llcWidClass_class 0 ∈ RegName.fields .llcWidClass ∧ (F.llcWidClass_class 0).ty = .rw ∧ (F.llcWidClass_class 0).legal.ok 3 = true ∧
    F.pwrDomStatus_state ∈ RegName.fields .pwrDomStatus ∧ F.pwrDomStatus_state.ty = .ro ∧ F.axgPortCtrl_enable ∈ RegName.fields .axgPortCtrl ∧
    F.niPfCtrl_maxDist.ty = .rw ∧ F.niPfCtrl_maxDist.legal.ok 0 = false := by decide +kernel
/-- Fields of the other types, and a locked register. -/
theorem test_meets_FieldWrites_types : F.mlgCoreStatus_droop ∈ RegName.fields .mlgCoreStatus ∧ F.mlgCoreStatus_droop.ty = .w1c ∧ F.niFabricCtrl_fence ∈ RegName.fields .niFabricCtrl ∧
    F.niFabricCtrl_fence.ty = .wo ∧ F.wldDeedTable_lock ∈ RegName.fields .wldDeedTable ∧ F.wldDeedTable_lock.ty = .lock ∧ F.mlgWayRetire_ways.ty = .rws ∧
    F.wldDeedTable_enable.ty = .rwl ∧ up.locked .wldDeedTable 0 = false ∧ deeds.locked .wldDeedTable 0 = true := by decide +kernel

/-- Tile 0's directory lists a sector 64 as an entry says. -/
def listing (e : DirEnt) : State := { up with dir := up.dir.set none (dirKey 0 64) (some e) }
theorem test_meets_EvictCleanAtHome : agentId (pkt 0x05 64).srcN (pkt 0x05 64).epN = some 0 ∧ up.tileOf (pkt 0x05 64) = 0 ∧ up.net = [] ∧ up.selfDead 1 = false ∧
    up.dirFind 0 64 = none ∧ (listing { sec := 64, st := .dx, busy := false, owner := 0 }).dirFind 0 64 = some (dirKey 0 64, { sec := 64, st := .dx, busy := false, owner := 0 }) ∧
    ((listing { sec := 64, st := .dx, busy := false, owner := 7 }).listed { sec := 64, st := .dx, busy := false, owner := 7 } 0) = false ∧
    ((listing { sec := 64, st := .dox, busy := false, owner := 0, ptrs := [3] }).dirFind 0 64).map (fun x => (x.2.st, x.2.owner, x.2.ptrs)) = some (.dox, 0, [3]) ∧
    ((listing { sec := 64, st := .ds, busy := false, ptrs := [0, 3] }).dirFind 0 64).map (fun x => x.2.ptrs) = some [0, 3] := by decide +kernel
/-- The last holder frees the entry; with a transaction open the entry stays, empty (R137, R128). -/
theorem test_evict_clean : (after (exec (.evictClean (pkt 0x05 64)) (listing { sec := 64, st := .dx, busy := false, owner := 0 }))).dirFind 0 64 = none ∧
    ((after (exec (.evictClean (pkt 0x05 64)) (listing { sec := 64, st := .ds, busy := true, ptrs := [0] }))).dirFind 0 64).map (fun x => x.2.ptrs) = some [] := by decide +kernel

theorem test_meets_DeclareChecks : ((link LinkState.init 0).modLink 0 (fun l => { l with gotInit := true })).linkState 0 = LinkState.init ∧
    (((link LinkState.init 0).modLink 0 (fun l => { l with gotInit := true })).link 0).gotInit = true ∧ (link LinkState.open_ 0).linkState 0 = LinkState.open_ ∧
    (link LinkState.open_ 0).isF F.axgQstatus_portQuarantined 0 0 = false := by decide +kernel

/-- A misaligned access of 8 bytes at 4 in PCIe space, translated. -/
def aSkew (st : Bool) : Access := tr st (acc 8 0xE000000001004 0xE000000001004)
/-- The state in which its instruction has been fetched. -/
def skewed (st : Bool) : State := (upMem.fetch 0 (aSkew st).isec.toNat (aSkew st).id (aSkew st).spec).2
theorem test_meets_MisalignedIo : exe upMem (aSkew false) .load = true ∧ exe upMem (aSkew true) .store = true ∧ region (aSkew true).x0.pa.toNat ≠ .control ∧
    [false, true].all (fun st => misaligned (aSkew st) && ((skewed st).accessTrigger 0 (aSkew st) (if st then Exc.storeAccess else Exc.loadAccess)).isNone &&
      (accessParts (aSkew st)).all (fun p => p.2.1.fault.isNone && !p.2.1.poisonWalk && (skewed st).addrExists ((skewed st).physCore 0) p.2.1.pa.toNat) &&
      (accessParts (aSkew st)).any (fun p => (skewed st).partType p.2.1 == .io)) = true := by decide +kernel

/-- ANNALS_NOTIFY at severity 3 with COUNT n, of which k have been seen. -/
def notifying (n k : Nat) : State := { up with annals := { up.annals with notifySev := 3, notifyCount := n, notifySeen := k } }
theorem test_meets_AnnalsNotifyCounts : (notifying 0 0).annals.notifyCount = 0 ∧ 2 < (notifying 1 0).annals.notifySev ∧
    (notifying 2 0).annals.notifySev ≤ 3 ∧ (notifying 2 0).annals.notifySeen + 1 < (notifying 2 0).annals.notifyCount ∧
    (notifying 2 1).annals.notifyCount ≤ (notifying 2 1).annals.notifySeen + 1 ∧ (notifying 2 1).annals.notifyCount ≠ 0 := by decide +kernel
theorem test_meets_ParityMismatch : mesh.net.any (fun f => f.pkt == meshFlight.pkt) = true ∧ up.getF F.anlStatus_fatalCause 0 0 = 0 := by decide +kernel

/-- Hart 0 is in U mode, and M mode delegates exception 8. -/
def upDeleg : State := upU.setCsr 0 0x302 0x100
theorem test_meets_TrapEntry : (up.hart 0).priv = .m ∧ bitsOf (upU.csr 0 0x302) 8 1 = 0 ∧ (upDeleg.hart 0).priv ≠ .m ∧ (upDeleg.hart 0).virt = false ∧
    bitsOf (upDeleg.csr 0 0x302) 8 1 = 1 := by decide +kernel
theorem test_meets_HartRelease : State.reset.isF F.mlgCoreStatus_retired (State.reset.physCore 0) 0 = false := by decide +kernel
theorem test_meets_KeeperRefusals : up.issuerWid openWorld ≠ 0 ∧ ax.reachable .ax 0 = true ∧ ax.issuerWid openWorld ≠ 0 ∧ mp.reachable .mp 0 = true ∧ hp.reachable .hp 0 = true ∧
    chan.reachable .de 0 = true ∧ tileUp.reachable .tile 0 = true ∧ up.reachable .stop 1 = true ∧ openWorld.hart = none ∧ ({ stop := 1, hart := some 0 } : Issuer).hart = some 0 := by
  decide +kernel
theorem test_meets_QueueKept : (match exec (.fenceI 0) up with | .next _ => true | _ => false) = true := by decide +kernel
theorem test_meets_FusesOnlyGrow : (match step up with | .next _ => true | _ => false) = true := by decide +kernel
/-- An array in which owner 0's pair 0 is revoked and its pair 1 lives. -/
theorem test_meets_FuseArraySound : Fuses.Sound { valid := [0, 1], revoked := [0] } := by
  intro i h
  have hi : i = 0 := by simpa using h
  subst hi
  exact ⟨1, by decide, by decide⟩

/-! ### Worked examples of the spec -/

/-- SVC is stop 79; the register at offset 0x100 of its window (R7). -/
theorem test_svc_address : controlBase + 79 * 0x400000 + 0x100 = 0xFF00013C00100 ∧ svcStop = 79 := by decide
/-- The tile at (4, 9) is stop 94, tile index 80 (R15). -/
theorem test_tile_map : stopTile 94 = some 80 ∧ tileStop 80 = 94 ∧ stopX 94 = 4 ∧ stopY 94 = 9 := by decide +kernel
/-- PA 0x12380 is on MP5 at port-local granule 48, and back (R24). -/
theorem test_interleave : interleave (0x12380 / 128) = (5, 48) ∧ deinterleave 5 48 = 583 ∧ interleave 12000009 = (0, 1000000) := by decide +kernel
/-- PA 0x5B8D8480: bank 13, row 1220, column 0; marginalia in bank 5, row 1224, column 0, slot 0 (R263). -/
theorem test_memory_place : mpPlace 1000000 = { bank := 13, row := 1220, col := 0, mbank := 5, mrow := 1224, mcol := 0, mslot := 0 } := by decide +kernel
/-- The homes of PA 0x12380 and PA 0x3_0000_0000_4000 (R109). -/
theorem test_homes : homeSlice 583 = 39 ∧ tileStop 39 = 47 ∧ llcSet 583 = 583 ∧ dirSet (583 * 2) = 583 ∧ homeSlice (0x3000000004000 / 128) = 32 ∧ tileStop 32 = 40 ∧
    llcSet (0x3000000004000 / 128) = 128 ∧ dirSet (0x3000000004000 / 64) = 128 := by decide +kernel
/-- PA 0x123480 in the staging range: slice 69, set 582, way 0 (R103). -/
theorem test_staging : stagingPlace (0x123480 / 128) = (69, 582, 0) ∧ tileStop 69 = 82 := by decide +kernel
/-- The routes from stop 94 to stop 47: east 3 and south 5, and the one about the dead link; its LAST leg is needed (R166 to R168). -/
theorem test_routes : routeOk 94 47 0x970C = true ∧ routeOk 94 47 0x930C07 = true ∧ routeOk 94 47 0x170C = false ∧ meshLatency 2 8 1 = 12 ∧ meshLatency 3 8 1 = 13 := by
  decide +kernel
/-- The homed core's interrupt files (R46). -/
theorem test_interrupt_files : controlBase + 94 * 0x400000 = 0xFF00017800000 ∧ up.ctlTarget 0xFF00017A80000 = .file 160 0 0 ∧ up.ctlTarget 0xFF00017A93000 = .file 160 4 0 := by
  decide +kernel
/-- LOCAL_TOP with 1024 mirrored row groups of 6553 (R277). -/
theorem test_local_top : 12 * 4096 * (6553 - 1024) * 128 = 0x819600000 ∧ mpGroups 0 true = some 6553 := by decide
/-- CRC-32C of "123456789": STATE and VALUE (R343). -/
theorem test_crc32c : crcRun (crcSet 0) (crcSet 0).init [0x31, 0x32, 0x33, 0x34, 0x35, 0x36, 0x37, 0x38, 0x39] = 0x1CF96D7C ∧
    crc32c [0x31, 0x32, 0x33, 0x34, 0x35, 0x36, 0x37, 0x38, 0x39] = 0xE3069283 := by decide +kernel
/-- A register's field in a word. -/
def fieldIn (f : Fld) (w : Word) : Nat := bitsOf w f.lsb f.width
/-- Annex window 3 of its example (R242), and the deed table's region of its example (R310). -/
theorem test_register_words : fieldIn F.axgWin_base 0x0000001000000007 = 0x100000 ∧ fieldIn F.axgWin_write 0x0000001000000007 = 1 ∧
    fieldIn F.axgWin_cache 0x0000001000000007 = 0 ∧ fieldIn F.axgWinLim_agents 0x0000001FFFFF0010 = 2 ^ 4 ∧ fieldIn F.axgWinLim_limit 0x0000001FFFFF0010 = 0x1FFFFF ∧
    fieldIn F.wldRegion_kind 0x0000000990000003 = 1 ∧ fieldIn F.wldRegion_wid 0x0000000990000003 = 0 ∧ fieldIn F.wldRegion_base 0x0000000990000003 = 0x99000 ∧
    fieldIn F.wldDeedTable_base 0x0000000990000001 = 0x99000 := by decide
/-- A register is found at its address (R242). -/
theorem test_window_registers : (RegName.place .axgWin) = .ax ∧ up.ctlTarget (regAddr .axgWin 2 3) = .reg .axgWin 2 3 := by decide +kernel

end Sys2Proof.Tests
end

section
/-! SUPPORT. A software write of a register, field by field (R9, R10, R12): the fields of a register share no bit, so each holds afterwards what its own type makes of the write. -/
namespace Sys2Proof.Proofs

open Sys2Proof.Machine Sys2Proof.Laws

/-! ### The layout of a register -/

/-- Two fields without a common bit. -/
abbrev Apart (f g : Fld) : Prop := f.lsb + f.width ≤ g.lsb ∨ g.lsb + g.width ≤ f.lsb

/-- The fields of a register are its own, lie within its 64 bits and share none of them. -/
abbrev LaidOut (r : RegName) : Prop := (∀ f ∈ r.fields, f.reg = r ∧ f.lsb + f.width ≤ 64) ∧ r.fields.Pairwise Apart

/-- Register by register, from the map's own lists. -/
theorem fields_laidOut (r : RegName) : LaidOut r := by
  cases r <;> decide +kernel

theorem reg_of_mem_fields {r : RegName} {f : Fld} (hf : f ∈ r.fields) : f.reg = r := ((fields_laidOut r).1 f hf).1

theorem fits_of_mem_fields {r : RegName} {f : Fld} (hf : f ∈ r.fields) : f.lsb + f.width ≤ 64 := ((fields_laidOut r).1 f hf).2

theorem fields_pairwise_apart (r : RegName) : r.fields.Pairwise Apart := (fields_laidOut r).2

/-! ### Several fields of a word -/

/-- A word with the fields of a list replaced, each by its value. -/
def putFields (fs : List Fld) (val : Fld → Nat) (w : Word) : Word :=
  fs.foldl (fun w f => putBits w f.lsb f.width (val f)) w

/-- Replacing other fields leaves a field alone. -/
theorem bitsOf_putFields_apart (fs : List Fld) (val : Fld → Nat) (f : Fld) (h : ∀ g ∈ fs, Apart g f) (w : Word) :
    bitsOf (putFields fs val w) f.lsb f.width = bitsOf w f.lsb f.width := by
  induction fs generalizing w with
  | nil => rfl
  | cons g gs ih =>
    obtain ⟨hg, hgs⟩ := List.forall_mem_cons.mp h
    exact (ih hgs _).trans (bitsOf_putBits_other _ _ _ _ _ _ hg)

/-- Each replaced field holds its own value, cut to its width. -/
theorem bitsOf_putFields_mem (fs : List Fld) (val : Fld → Nat) (f : Fld) (hf : f ∈ fs) (hfit : f.lsb + f.width ≤ 64) (h : fs.Pairwise Apart) (w : Word) :
    bitsOf (putFields fs val w) f.lsb f.width = val f % 2 ^ f.width := by
  induction fs generalizing w with
  | nil => cases hf
  | cons g gs ih =>
    obtain ⟨hg, hgs⟩ := List.pairwise_cons.mp h
    cases hf with
    | head => exact (bitsOf_putFields_apart gs val f (fun k hk => (hg k hk).symm) _).trans (bitsOf_putBits_same _ _ _ _ hfit)
    | tail _ hmem => exact ih hmem hgs _

/-! ### What a write leaves in the register's word and in its fields -/

/-- A write leaves every register of another key alone. -/
theorem regWord_writeReg_other (s : State) (r r' : RegName) (u i u' i' : Nat) (data en : Word) (h : regKey r' u' i' ≠ regKey r u i) :
    (s.writeReg r u i data en).regWord r' u' i' = s.regWord r' u' i' :=
  regWord_setRegWord_other _ _ _ _ _ _ _ _ h

/-- A field holds after a write what its type makes of its own bits of the write (R9, R10, R12). -/
theorem getF_writeReg {r : RegName} {f : Fld} (hf : f ∈ r.fields) (s : State) (u i : Nat) (data en : Word) :
    (s.writeReg r u i data en).getF f u i =
      fieldWrite f (s.locked r u) (s.getF f u i) (bitsOf data f.lsb f.width) (bitsOf en f.lsb f.width) % 2 ^ f.width := by
  have hword : (s.writeReg r u i data en).regWord r u i = putFields r.fields (fun g =>
      fieldWrite g (s.locked r u) (bitsOf (s.regWord r u i) g.lsb g.width) (bitsOf data g.lsb g.width) (bitsOf en g.lsb g.width)) (s.regWord r u i) :=
    regWord_setRegWord_same _ _ _ _ _
  unfold State.getF
  rw [reg_of_mem_fields hf, hword, bitsOf_putFields_mem _ _ f hf (fits_of_mem_fields hf) (fields_pairwise_apart r)]

/-- Software reads 0 from a write-only field (R9). -/
theorem bitsOf_readReg_wo {r : RegName} {f : Fld} (hf : f ∈ r.fields) (hty : f.ty = .wo) (s : State) (u i : Nat) :
    bitsOf (s.readReg r u i) f.lsb f.width = 0 := by
  have hread : s.readReg r u i = putFields (r.fields.filter (fun g => g.ty = .wo)) (fun _ => 0) (s.regWord r u i) := by
    simp only [State.readReg, putFields, List.foldl_filter, decide_eq_true_eq]
  have hmem : f ∈ r.fields.filter (fun g => g.ty = .wo) := by simp [hf, hty]
  rw [hread, bitsOf_putFields_mem _ _ f hmem (fits_of_mem_fields hf) ((fields_pairwise_apart r).filter _), Nat.zero_mod]

/-! ### A write that carries every byte -/

theorem bitsOf_mod (w : Word) (l n : Nat) : bitsOf w l n % 2 ^ n = bitsOf w l n := Nat.mod_mod _ _

/-- Every bit of a field is carried. -/
theorem testBit_bitsOf_allBytes (l n b : Nat) (h : l + n ≤ 64) : (bitsOf allBytes l n).testBit b = decide (b < n) := by
  have hones : allBytes = BitVec.allOnes 64 := rfl
  rw [testBit_bitsOf, hones, BitVec.getLsbD_allOnes]
  by_cases hb : b < n
  · simp [hb, show b + l < 64 by omega]
  · simp [hb]

@[simp] theorem testBit_xorNat (a b k : Nat) : (xorNat a b).testBit k = (a.testBit k ^^ b.testBit k) := Nat.testBit_xor a b k

/-- A field of old bits takes a write that carries all of its bits: the new bits stand. -/
theorem merge_allBytes (old new : Word) (l n : Nat) (h : l + n ≤ 64) :
    xorNat (bitsOf old l n) (xorNat (bitsOf old l n) (bitsOf new l n) &&& bitsOf allBytes l n) = bitsOf new l n := by
  apply Nat.eq_of_testBit_eq
  intro b
  rw [testBit_xorNat, Nat.testBit_and, testBit_xorNat, testBit_bitsOf_allBytes l n b h]
  by_cases hb : b < n
  · simp [hb]
  · simp [testBit_bitsOf, hb]

/-- A field of type RW or RWS, or an RWL field that is not locked, takes a legal encoding and keeps its value under a reserved one (R9, R12). -/
theorem getF_writeReg_plain {r : RegName} {f : Fld} (hf : f ∈ r.fields) (s : State) (u i : Nat) (v : Word)
    (hty : f.ty = .rw ∨ f.ty = .rws ∨ (f.ty = .rwl ∧ s.locked r u = false)) :
    (s.writeReg r u i v allBytes).getF f u i =
      if f.legal.ok (bitsOf v f.lsb f.width) then bitsOf v f.lsb f.width else s.getF f u i := by
  have hmerge := merge_allBytes (s.regWord f.reg u i) v f.lsb f.width (fits_of_mem_fields hf)
  have hval : fieldWrite f (s.locked r u) (s.getF f u i) (bitsOf v f.lsb f.width) (bitsOf allBytes f.lsb f.width) =
      if f.legal.ok (bitsOf v f.lsb f.width) then bitsOf v f.lsb f.width else s.getF f u i := by
    obtain hty | hty | ⟨hty, hlock⟩ := hty
    · simp [fieldWrite, State.getF, hty, hmerge]
    · simp [fieldWrite, State.getF, hty, hmerge]
    · simp [fieldWrite, State.getF, hty, hlock, hmerge]
  rw [getF_writeReg hf, hval]
  split
  · exact bitsOf_mod _ _ _
  · exact bitsOf_mod _ _ _

/-- A read-only field and a locked RWL field ignore the write (R9, R10). -/
theorem getF_writeReg_kept {r : RegName} {f : Fld} (hf : f ∈ r.fields) (s : State) (u i : Nat) (data en : Word)
    (hty : f.ty = .ro ∨ (f.ty = .rwl ∧ s.locked r u = true)) : (s.writeReg r u i data en).getF f u i = s.getF f u i := by
  have hval (new m : Nat) : fieldWrite f (s.locked r u) (s.getF f u i) new m = s.getF f u i := by
    obtain hty | ⟨hty, hlock⟩ := hty
    · simp [fieldWrite, hty]
    · simp [fieldWrite, hty, hlock]
  rw [getF_writeReg hf, hval]
  exact bitsOf_mod _ _ _

/-- A 1 written to a W1C field clears the bit, and a 0 keeps it (R9). -/
theorem testBit_getF_writeReg_w1c {r : RegName} {f : Fld} (hf : f ∈ r.fields) (s : State) (u i : Nat) (v : Word) (hty : f.ty = .w1c) (b : Nat) :
    ((s.writeReg r u i v allBytes).getF f u i).testBit b = ((s.getF f u i).testBit b && !(bitsOf v f.lsb f.width).testBit b) := by
  have hval (old new en : Nat) : fieldWrite f (s.locked r u) old new en = xorNat old (old &&& (new &&& en)) := by
    simp [fieldWrite, hty]
  rw [getF_writeReg hf, hval, Nat.testBit_mod_two_pow, testBit_xorNat, Nat.testBit_and, Nat.testBit_and,
    testBit_bitsOf_allBytes _ _ _ (fits_of_mem_fields hf)]
  by_cases hb : b < f.width
  · cases (s.getF f u i).testBit b <;> simp [hb]
  · simp [State.getF, testBit_bitsOf, hb]

/-- A 1 written to a W1S field or a LOCK bit sets the bit, and a 0 keeps it (R9, R10). -/
theorem testBit_getF_writeReg_w1s {r : RegName} {f : Fld} (hf : f ∈ r.fields) (s : State) (u i : Nat) (v : Word) (hty : f.ty = .w1s ∨ f.ty = .lock) (b : Nat) :
    ((s.writeReg r u i v allBytes).getF f u i).testBit b = ((s.getF f u i).testBit b || (bitsOf v f.lsb f.width).testBit b) := by
  have hval (old new en : Nat) : fieldWrite f (s.locked r u) old new en = old ||| (new &&& en) := by
    obtain hty | hty := hty
    · simp [fieldWrite, hty]
    · simp [fieldWrite, hty]
  rw [getF_writeReg hf, hval, Nat.testBit_mod_two_pow, Nat.testBit_or, Nat.testBit_and, testBit_bitsOf_allBytes _ _ _ (fits_of_mem_fields hf)]
  by_cases hb : b < f.width
  · simp [hb]
  · simp [State.getF, testBit_bitsOf, hb]

/-- Settles O49: field by field, each type's law above; another register has another key. -/
theorem fieldWrites : Obligations.FieldWrites := by
  intro s r u i v f hf
  refine ⟨fun hty => ⟨fun hok => ?legal, fun hbad => ?reserved⟩, getF_writeReg_kept hf s u i v allBytes, testBit_getF_writeReg_w1c hf s u i v,
    testBit_getF_writeReg_w1s hf s u i v, fun hty => bitsOf_readReg_wo hf hty _ u i, fun r' u' i' => regWord_writeReg_other s r r' u i u' i' v allBytes⟩
  case legal => rw [getF_writeReg_plain hf s u i v hty, if_pos hok]
  case reserved => rw [getF_writeReg_plain hf s u i v hty, hbad, if_neg Bool.false_ne_true]

end Sys2Proof.Proofs
end

section
/-! SUPPORT. REGISTER_WRITE (R7 to R12): the form and the target of an access are checked first, then the block's power and the world's right to the register. -/
namespace Sys2Proof.Proofs

open Sys2Proof.Machine

/-- REGISTER_WRITE is a write of control space. -/
theorem exec_registerWrite (w : Issuer) (pa : BitVec 52) (size : Nat) (data : Word) (s : State) :
    exec (.registerWrite w pa size data) s = s.ctlWrite w pa.toNat size data := rfl

/-! ### Who may write -/

theorem guarded_of_may (s : State) (w : Issuer) (st : Nat) (f : State → State) : s.guarded w st true f = .next ((f s).accept w st) := rfl

theorem guarded_of_not_may (s : State) (w : Issuer) (st : Nat) (f : State → State) : s.guarded w st false f = .next (s.refuse w st true Err.permission) := rfl

theorem guardedAt_of_reachable {s : State} {p : Place} {u : Nat} (hr : s.reachable p u = true) (w : Issuer) (may : Bool) (f : State → State) :
    s.guardedAt w p u may f = s.guarded w (p.stopOf u) may f := if_pos hr

/-! ### Where a write of control space leads -/

/-- A wrong width or alignment is refused first (R8). -/
theorem ctlWrite_of_bad_form {pa : BitVec 52} {size : Nat} (hform : ctlForm pa.toNat size = false) (s : State) (w : Issuer) (data : Word) :
    s.ctlWrite w pa.toNat size data =
      .next (s.refuse { w with pa := pa } (if pa.toNat < controlBase then 0 else (pa.toNat - controlBase) / 0x400000 % 256) true Err.format) := by
  simp only [State.ctlWrite, hform, Bool.not_false, if_true, BitVec.ofNat_toNat, BitVec.setWidth_eq]

/-- An address that leads to no register is refused (R8). -/
theorem ctlWrite_of_no_target {s : State} {pa : BitVec 52} {size : Nat} (hform : ctlForm pa.toNat size = true) (htarget : s.ctlTarget pa.toNat = .none)
    (w : Issuer) (data : Word) :
    s.ctlWrite w pa.toNat size data =
      .next (s.refuse { w with pa := pa } (if pa.toNat < controlBase then 0 else (pa.toNat - controlBase) / 0x400000 % 256) true Err.address) := by
  simp only [State.ctlWrite, hform, htarget, Bool.not_true, Bool.false_eq_true, if_false, BitVec.ofNat_toNat, BitVec.setWidth_eq]

/-- Outside M1 and M2, a 64-bit write that leads to a register is that register's own (R450). -/
theorem ctlWrite_of_reg {s : State} {pa : BitVec 52} {r : RegName} {u i : Nat} (hform : ctlForm pa.toNat 8 = true) (htarget : s.ctlTarget pa.toNat = .reg r u i)
    (hholds : s.holds = false) (w : Issuer) (data : Word) :
    s.ctlWrite w pa.toNat 8 data = s.regWrite { w with pa := pa } r u i data allBytes := by
  simp only [State.ctlWrite, hform, htarget, hholds, Bool.not_true, Bool.false_eq_true, false_and, if_false, if_true, BitVec.ofNat_toNat, BitVec.setWidth_eq]

/-- CORE_PF_CTRL is written field by field by the worlds of R94. -/
theorem regWrite_corePfCtrl (s : State) (w : Issuer) (u i : Nat) (data en : Word) :
    s.regWrite w .corePfCtrl u i data en =
      s.guardedAt w .core u (s.coreCtrlMay w u) (fun s' => s'.writeReg .corePfCtrl u i (s.fill .corePfCtrl u i data en) allBytes) := rfl

/-- A 64-bit write of CORE_PF_CTRL comes down to the right of its world, where the core can be reached. -/
theorem exec_registerWrite_corePfCtrl {s : State} {pa : BitVec 52} {u i : Nat} (hform : ctlForm pa.toNat 8 = true)
    (htarget : s.ctlTarget pa.toNat = .reg .corePfCtrl u i) (hholds : s.holds = false) (hreach : s.reachable .core u = true) (w : Issuer) (data : Word) :
    exec (.registerWrite w pa 8 data) s = s.guarded { w with pa := pa } (Place.core.stopOf u) (s.coreCtrlMay { w with pa := pa } u)
      (fun s' => s'.writeReg .corePfCtrl u i (s.fill .corePfCtrl u i data allBytes) allBytes) := by
  rw [exec_registerWrite, ctlWrite_of_reg hform htarget hholds, regWrite_corePfCtrl, guardedAt_of_reachable hreach]

/-- Settles O9: the write reaches the register's guard, or is refused at the check that it fails. -/
theorem registerWrites : Obligations.RegisterWrites := by
  refine ⟨?performed, ?format, ?address, ?permission⟩
  case performed =>
    intro w pa data s u i hform htarget hholds hreach hmay
    rw [exec_registerWrite_corePfCtrl hform htarget hholds hreach, hmay, guarded_of_may]
  case format =>
    intro w pa size data s hform
    rw [exec_registerWrite, ctlWrite_of_bad_form hform]
  case address =>
    intro w pa size data s hform htarget
    rw [exec_registerWrite, ctlWrite_of_no_target hform htarget]
  case permission =>
    intro w pa data s u i hform htarget hholds hreach hmay
    rw [exec_registerWrite_corePfCtrl hform htarget hholds hreach, hmay, guarded_of_not_may]

end Sys2Proof.Proofs
end

section
/-! SUPPORT. The state at reset (R9, R40, R98, R314): a register holds its own reset word, and what follows from it for harts, classes and key slots. -/
namespace Sys2Proof.Proofs

open Sys2Proof.Machine Sys2Proof.Laws

/-- The key of a register names it: it reads the register's own reset word. -/
theorem keyReset_regKey (fz : Fuses) (r : RegName) (u i : Nat) : keyReset fz (regKey r u i) = resetWord fz r (u % 512) (i % 4096) := by
  have hname : regKey r u i / 2 ^ 21 = r.ctorIdx := by unfold regKey; omega
  have hunit : regKey r u i / 2 ^ 12 % 512 = u % 512 := by unfold regKey; omega
  have hentry : regKey r u i % 4096 = i % 4096 := by unfold regKey; omega
  rw [keyReset, hname, hunit, hentry, RegName.ofNat_ctorIdx]

/-- An empty table reads as its default. -/
theorem get_empty {V : Type} (d : V) (k : Nat) : Map.get [] d k = d := rfl

/-- Every register holds its reset word at reset (R9). -/
theorem regWord_reset (r : RegName) (u i : Nat) : State.reset.regWord r u i = resetWord {} r (u % 512) (i % 4096) := by
  have hregs : State.reset.regs = [] := rfl
  have hfuses : State.reset.fuses = {} := rfl
  rw [State.regWord, hregs, hfuses, get_empty, keyReset_regKey]

theorem getF_reset (f : Fld) (u i : Nat) : State.reset.getF f u i = bitsOf (resetWord {} f.reg (u % 512) (i % 4096)) f.lsb f.width := by
  rw [State.getF, regWord_reset]

theorem bitsOf_zero (l n : Nat) : bitsOf 0 l n = 0 := by simp [bitsOf]

/-- A register whose reset word is 0 has every field 0. -/
theorem getF_reset_eq_zero {f : Fld} {u i : Nat} (h : resetWord {} f.reg (u % 512) (i % 4096) = 0) : State.reset.getF f u i = 0 := by
  rw [getF_reset, h, bitsOf_zero]

/-- No hart is in the state that runs (R39, R42). -/
theorem hart_state_reset (h : Nat) (hh : h < 256) : State.reset.getF F.coreHartMap_state 0 h ≠ 1 := by
  revert h
  decide +kernel

theorem runs_reset (h : Nat) (hh : h < 256) : State.reset.runs h = false := by
  simp [State.runs, hart_state_reset h hh]

theorem mtime_reset : State.reset.mtime = 0 := getF_reset_eq_zero rfl

/-- Every world is in class 0, whether or not shelves have effect (R98, R104). -/
theorem classOf_reset (wid : Nat) : State.reset.classOf wid = 0 := by
  unfold State.classOf
  split
  · exact getF_reset_eq_zero rfl
  · rfl

/-- Slots 0 to 2 belong to worlds 0 to 2 and are live (R314). -/
theorem keySlot_reset (k : Nat) (hk : k < 3) : State.reset.getF F.wldKeySlot_owner 0 k = k ∧ State.reset.isF F.wldKeySlot_valid 0 k = true := by
  revert k
  decide +kernel

/-- No pair of the fuse array is revoked (R390). -/
theorem fuses_sound_reset : State.reset.fuses.Sound := by
  intro i hi
  cases hi

/-- Settles O47: what is no register is empty by definition, and each register is read from its reset word. -/
theorem resetState : Obligations.ResetState :=
  ⟨rfl, rfl, rfl, rfl, reset_memory_wf, rfl, runs_reset, mtime_reset, fun wid _ => classOf_reset wid, by decide +kernel, by decide +kernel,
    keySlot_reset, by decide +kernel, fuses_sound_reset⟩

end Sys2Proof.Proofs
end

section
/-! SUPPORT. A fatal event (R21, R457, R492, R493): the first cause stays latched; whatever the cause, the count advances, the record is written and Quarantine follows. -/
namespace Sys2Proof.Proofs

open Sys2Proof.Machine

/-- FATAL_ERROR is the fatal event whose cause is its place in the table of R492, counted from 1. -/
theorem exec_fatalError (cause : Fin 7) (s : State) : exec (.fatalError cause) s = .next (s.fatal (cause.val + 1)) := rfl

/-- The first fatal event latches its cause. -/
theorem fatal_of_no_cause {s : State} (h : s.getF F.anlStatus_fatalCause 0 0 = 0) (cause : Nat) :
    s.fatal cause =
      (((s.setF F.anlStatus_fatalCause 0 0 cause).incSat F.anlStatus_fatalCount 0 0).writeRec Ev.fatal 7 srcSvc (w64 cause) (w64 s.mtime) true).enterQuarantine := by
  rw [State.fatal, if_pos h]

/-- A later one leaves the latched cause. -/
theorem fatal_of_cause {s : State} (h : s.getF F.anlStatus_fatalCause 0 0 ≠ 0) (cause : Nat) :
    s.fatal cause = ((s.incSat F.anlStatus_fatalCount 0 0).writeRec Ev.fatal 7 srcSvc (w64 cause) (w64 s.mtime) true).enterQuarantine := by
  rw [State.fatal, if_neg h]

/-- THERMTRIP at 115 °C or more is a fatal event with THERMTRIP_N asserted (R457, R537). -/
theorem exec_thermtrip_of_hot {temp : Nat} (h : 115 ≤ temp) (s : State) :
    exec (.thermtrip temp) s = .next (State.fatal { s with pw := { s.pw with thermtrip := true } } Fatal.thermtrip) := if_neg (Nat.not_lt.mpr h)

/-- Below 115 °C the command has no event to report (log entry 1). -/
theorem exec_thermtrip_of_cool {temp : Nat} (h : temp < 115) (s : State) : exec (.thermtrip temp) s = .next s := if_pos h

/-- Settles O32: each command is a fatal event, and a fatal event latches its cause where none is latched. -/
theorem fatalErrors : Obligations.FatalErrors := by
  refine ⟨?first, ?later, ?pll, ?hot, ?cool⟩
  case first =>
    intro cause s h
    rw [exec_fatalError, fatal_of_no_cause h]
  case later =>
    intro cause s h
    rw [exec_fatalError, fatal_of_cause h]
  case pll => exact fun s => rfl
  case hot => exact fun temp s h => exec_thermtrip_of_hot h s
  case cool => exact fun temp s h => exec_thermtrip_of_cool h s

end Sys2Proof.Proofs
end

section
/-! SUPPORT. The protocol of a slip command (R408, R410, R417), once for every row: what the Keeper finds waiting at the transport decides whether the row goes on, the next slip
is taken and begun, or nothing happens. A slip command is its row, served by the Keeper. -/
namespace Sys2Proof.Proofs

open Sys2Proof.Machine Sys2Proof.Laws

/-! ### When the Keeper carries a command out -/

/-- Beginning a command changes no slip in hand. -/
@[simp] theorem keeperStart_inHand (s : State) (c : Instr) : (s.keeperStart c).slips.inHand = s.slips.inHand := by
  unfold State.keeperStart
  split
  · rfl
  · rfl

@[simp] theorem atWork_inHand (s : State) (r : Run) : (AtWork s r).slips.inHand = s.slips.inHand := rfl

/-- The Keeper serves a command when no other one of its is under way (R417). -/
theorem keeper_of_free {s : State} {c : Instr} (h : s.keeperFree c = true) (f : State → State) :
    s.keeper c f = (s.keeperStart c).served svcStop 0 c f := if_pos h

/-- While another command of the Keeper's is under way, nothing happens (R417). -/
theorem keeper_of_not_free {s : State} {c : Instr} (h : s.keeperFree c = false) (f : State → State) : s.keeper c f = s :=
  if_neg (by rw [h]; exact Bool.false_ne_true)

/-- A command of the Keeper's ends with what it has made of the state, once nothing that it needs is unanswered. -/
theorem exec_of_keeper_answered {c : Instr} {s v : State} {r : Run} {f : State → State} (hexec : exec c s = .next (s.keeper c f))
    (hfree : s.keeperFree c = true) (hv : v = s.keeperStart c) (hr : r = RunOf v svcStop 0 c) (hall : AllAnswered r (f (AtWork v r))) :
    exec c s = .next (EndWork (f (AtWork v r)) r) := by
  have hserved : Served c s v svcStop 0 f := served_of (by rw [hexec, keeper_of_free hfree, hv])
  obtain ⟨hend, -, -⟩ := hserved r _ hr rfl
  exact hend hall

/-! ### What waits at a transport -/

/-- What waits at the transport of the slip in hand is that slip. -/
theorem waitingOp_of_inHand {s : State} {w : Work} {t : Nat} (hw : s.slips.inHand = some w) (ht : w.slip.t.num = t) :
    s.waitingOp t = (some w.slip.opcode, s) := by
  simp only [State.waitingOp, hw, ht, if_true]

/-- The slip that waits is the command's own: the Keeper visits its transport. -/
theorem serveAs_of_waiting {s u : State} {t : Transport} {op : Nat} (h : s.waitingOp t.num = (some op, u)) (e : SlipEnv) :
    s.serveAs op t e = u.visit opRow t.num e := by
  simp only [State.serveAs, h, if_true]

/-- Another slip waits, or none: nothing is done. -/
theorem serveAs_of_other {s u : State} {t : Transport} {op : Nat} {o : Option Nat} (h : s.waitingOp t.num = (o, u)) (ho : o ≠ some op) (e : SlipEnv) :
    s.serveAs op t e = u := by
  simp only [State.serveAs, h, if_neg ho]

/-! ### What a visit does -/

/-- The slip in hand goes on with its row. -/
theorem visit_of_inHand {s : State} {w : Work} (hw : s.slips.inHand = some w) (rows : Nat → Option OpRow) (t : Nat) (e : SlipEnv) :
    s.visit rows t e = s.runSlip (rows w.slip.opcode) w e := by
  simp only [State.visit, hw]

/-- With nothing in hand, the transport's next slip is taken and begun. -/
theorem visit_of_taken {s u : State} {t : Nat} {x : RawSlip} (hnone : s.slips.inHand = none) (hserves : s.keeperServes t = true)
    (htake : s.takeSlip t = (some x, u)) (rows : Nat → Option OpRow) (e : SlipEnv) : s.visit rows t e = u.beginSlip rows x e := by
  simp only [State.visit, hnone, hserves, htake, Bool.not_true, Bool.false_eq_true, if_false]

/-- A row that answers closes its slip. -/
theorem runSlip_of_answer {s u : State} {row : OpRow} {w : Work} {e : SlipEnv} {ret : Ret} (h : row.act s w.slip e = (some ret, u)) :
    s.runSlip (some row) w e = u.closeSlip w.slip w.restarted ret := by
  simp only [State.runSlip, h]

/-- A row that does not answer leaves the Keeper waiting for the hardware. -/
theorem runSlip_of_wait {s u : State} {row : OpRow} {w : Work} {e : SlipEnv} (h : row.act s w.slip e = (none, u)) :
    s.runSlip (some row) w e = u := by
  simp only [State.runSlip, h]

/-- A slip in hand from the transport, of the command's opcode, goes on with the row of that opcode. -/
theorem serveAs_of_inHand {s : State} {t : Transport} {op : Nat} {w : Work} {row : OpRow} (hrow : opRow op = some row) (hw : s.slips.inHand = some w)
    (ht : w.slip.t.num = t.num) (hop : w.slip.opcode = op) (e : SlipEnv) : s.serveAs op t e = s.runSlip (some row) w e := by
  subst hop
  rw [serveAs_of_waiting (waitingOp_of_inHand hw ht), visit_of_inHand hw, hrow]

/-! ### The protocol -/

/-- A command that the Keeper serves as the slip of an opcode follows the protocol of slips, with the row of that opcode. -/
theorem slipServed_of_row {c : Instr} {op : Nat} {row : OpRow} {t : Transport} {e : SlipEnv} (hrow : opRow op = some row)
    (hexec : ∀ s, exec c s = .next (s.keeper c (fun s => s.serveAs op t e))) : SlipServed c op row.act t e := by
  refine ⟨fun s v r hfree hv hr => ?free, fun s hbusy => by rw [hexec, keeper_of_not_free hbusy]⟩
  have hends {u : State} (hu : (AtWork v r).serveAs op t e = u) (hall : AllAnswered r u) : exec c s = .next (EndWork u r) := by
    subst hu
    exact exec_of_keeper_answered (hexec s) hfree hv hr hall
  have hhand : (AtWork v r).slips.inHand = s.slips.inHand := by rw [atWork_inHand, hv, keeperStart_inHand]
  refine ⟨?answers, ?waits, ?takes, ?other⟩
  case answers =>
    intro u w ret hw ht hop hact hall
    exact hends ((serveAs_of_inHand hrow (hhand.trans hw) ht hop e).trans (runSlip_of_answer hact)) hall
  case waits =>
    intro u w hw ht hop hact hall
    exact hends ((serveAs_of_inHand hrow (hhand.trans hw) ht hop e).trans (runSlip_of_wait hact)) hall
  case takes =>
    intro u u2 x _ hwaiting hnone hserves htake hall
    exact hends ((serveAs_of_waiting hwaiting e).trans (visit_of_taken hnone hserves htake opRow e)) hall
  case other =>
    intro u o hwaiting ho hall
    exact hends (serveAs_of_other hwaiting ho e) hall

end Sys2Proof.Proofs
end

section
/-! SUPPORT. The slips of the mesh, the annexes and memory (R26, R400, R427, R428): each command is served with the row of its opcode. -/
namespace Sys2Proof.Proofs

open Sys2Proof.Machine

/-- Settles O37: each command names its own row, and every row follows the protocol of slips. -/
theorem fabricSlips : Obligations.FabricSlips := fun _ _ =>
  ⟨slipServed_of_row (row := rowRouteStage) rfl fun _ => rfl,
    slipServed_of_row (row := rowRouteSwitch) rfl fun _ => rfl,
    slipServed_of_row (row := rowAnnexConfig) rfl fun _ => rfl,
    slipServed_of_row (row := rowAnnexUp) rfl fun _ => rfl,
    slipServed_of_row (row := rowAnnexAttest) rfl fun _ => rfl,
    slipServed_of_row (row := rowAnnexDown) rfl fun _ => rfl,
    slipServed_of_row (row := rowDepoMap) rfl fun _ => rfl,
    slipServed_of_row (row := rowMpStatus) rfl fun _ => rfl,
    slipServed_of_row (row := rowMpScrub) rfl fun _ => rfl,
    slipServed_of_row (row := rowMpLaneRetire) rfl fun _ => rfl,
    slipServed_of_row (row := rowMpMirror) rfl fun _ => rfl⟩

end Sys2Proof.Proofs
end

section
/-! SUPPORT. Accesses of a hart (R36 to R38, R60, R75): an access whose instruction has been fetched is put in flight with the exception that its own checks find, else with the one
that the checks of every access find. -/
namespace Sys2Proof.Proofs

open Sys2Proof.Machine

/-! ### Launching an access -/

/-- An access that executes is put in flight: its instruction's own exception comes before those of the access. -/
theorem execAccess_of_executes {s u : State} {h : Nat} {a : Access} {k : OpKind} (hx : Executes s h a k u) (store value : Bool) (f : Option Pend) :
    s.execAccess h a k store value f = u.enter h a (u.newInfl h k a value (f.or (u.accessFault h a (accCode store)))) := by
  obtain ⟨hruns, hroom, hfetch, hpoison⟩ := hx
  simp only [State.execAccess, hruns, hroom, hfetch, hpoison, Option.none_or, Bool.not_true, Bool.or_self, Bool.false_eq_true, if_false]
  cases f <;> rfl

/-- HART_LOAD of an access that executes. -/
theorem exec_hartLoad_of_executes {s u : State} {h : BitVec 8} {a0 a : Access} (ha : a = s.translated h.toNat a0 false) (hx : Executes s h.toNat a .load u) :
    exec (.hartLoad h a0) s = .next (u.enter h.toNat a (u.newInfl h.toNat .load a false (u.accessFault h.toNat a Exc.loadAccess))) := by
  subst ha
  exact congrArg Host.Outcome.next (execAccess_of_executes hx false false none)

/-- HART_STORE of an access that executes: a store to control space keeps its place. -/
theorem exec_hartStore_of_executes {s u : State} {h : BitVec 8} {a0 a : Access} {k : OpKind} (ha : a = s.translated h.toNat a0 true)
    (hk : k = if region a.x0.pa.toNat = .control then .ioStore else .store) (hx : Executes s h.toNat a k u) :
    exec (.hartStore h a0) s = .next (u.enter h.toNat a (u.newInfl h.toNat k a true (u.accessFault h.toNat a Exc.storeAccess))) := by
  subst ha hk
  exact congrArg Host.Outcome.next (execAccess_of_executes hx true true none)

/-! ### LR, SC and AMO -/

/-- An aligned LR, SC or AMO without an exception of the access, whose target has the right type, has no exception of its own (R38). -/
theorem atomicFault_eq_none {s : State} {h : Nat} {a : Access} {acc : Nat} {okType : EType → Bool} (halign : misaligned a = false)
    (hfault : s.accessFault h a acc = none) (htype : okType (s.accType a) = true) (mis : Nat) : s.atomicFault h a mis acc okType = none := by
  simp only [State.atomicFault, halign, hfault, htype, Bool.false_eq_true, if_false, if_true]

/-- An access without an exception of its own is put in flight with the exception of the common checks. -/
theorem execAccess_of_no_own_fault {s u : State} {h : Nat} {a : Access} {k : OpKind} (hx : Executes s h a k u) (hsize : zabha a = none) {own : Option Pend}
    (hown : own = none) (store : Bool) :
    s.execAccess h a k store false ((zabha a).or own) = u.enter h a (u.newInfl h k a false (u.accessFault h a (accCode store))) := by
  rw [execAccess_of_executes hx, hsize, hown]
  rfl

/-- Settles O1: each access is put in flight with the exception of the common checks, since it has none of its own. -/
theorem hartAccessesLaunch : Obligations.HartAccessesLaunch := by
  refine ⟨?load, ?store, ?amo, ?lr, ?sc⟩
  case load => exact fun h a0 a s u ha hx => exec_hartLoad_of_executes ha hx
  case store => exact fun h a0 a s u k ha hk hx => exec_hartStore_of_executes ha hk hx
  case amo =>
    intro h op a0 a s u k ha hk hx hsize halign hfault htype
    subst ha hk
    have hown := atomicFault_eq_none (okType := fun t => t != .io) halign hfault (bne_iff_ne.mpr htype) Exc.storeMisaligned
    exact congrArg Host.Outcome.next (execAccess_of_no_own_fault hx hsize hown true)
  case lr =>
    intro h a0 a s u ha hx hsize halign hfault htype
    subst ha
    exact congrArg Host.Outcome.next (execAccess_of_no_own_fault hx hsize (atomicFault_eq_none halign hfault htype Exc.loadMisaligned) false)
  case sc =>
    intro h a0 a s u ha hx hsize halign hfault htype
    subst ha
    exact congrArg Host.Outcome.next (execAccess_of_no_own_fault hx hsize (atomicFault_eq_none halign hfault htype Exc.storeMisaligned) true)

/-! ### A misaligned access to IO -/

/-- Where a part translates and its address exists, its only exception is the access fault, at the part's address (R75). -/
theorem partFault_eq_none_or_access {u : State} {h : Nat} {a : Access} {x : Xlate} (hfault : x.fault = none) (hwalk : x.poisonWalk = false)
    (acc : Nat) (va : Word) (len : Nat) :
    u.partFault h a acc va x len = none ∨ u.partFault h a acc va x len = some { cause := acc, tval := va, tinst := a.tinst } := by
  simp only [State.partFault, hfault, hwalk, Bool.false_eq_true, if_false]
  split
  · exact .inr rfl
  · split
    · exact .inr rfl
    · exact .inl rfl

/-- A part of a misaligned access that goes to IO has an exception (R37, R75). -/
theorem partFault_io_ne_none {u : State} {h : Nat} {a : Access} {x : Xlate} (hmis : misaligned a = true) (hio : u.partType x = .io)
    (acc : Nat) (va : Word) (len : Nat) : u.partFault h a acc va x len ≠ none := by
  have hodd : a.va.toNat % max 1 a.size.val ≠ 0 := of_decide_eq_true hmis
  unfold State.partFault
  split
  · exact Option.some_ne_none _
  · split
    · exact Option.some_ne_none _
    · split
      · exact Option.some_ne_none _
      · rw [if_pos ⟨hio, hodd⟩]
        exact Option.some_ne_none _

/-- A misaligned access of which a part goes to IO takes the access fault, of the first part that has one (R37, R75). -/
theorem accessFault_of_misaligned_io {u : State} {h : Nat} {a : Access} {acc : Nat} (hmis : misaligned a = true) (htrig : u.accessTrigger h a acc = none)
    (hparts : ∀ p ∈ accessParts a, p.2.1.fault = none ∧ p.2.1.poisonWalk = false) (hio : ∃ p ∈ accessParts a, u.partType p.2.1 = .io) :
    ∃ tv, u.accessFault h a acc = some { cause := acc, tval := tv, tinst := a.tinst } := by
  obtain ⟨q, hq, hqio⟩ := hio
  obtain ⟨f, hf⟩ : ∃ f, (accessParts a).findSome? (fun p => u.partFault h a acc p.1 p.2.1 p.2.2.2) = some f := by
    rw [← Option.isSome_iff_exists, List.findSome?_isSome_iff]
    exact ⟨q, hq, Option.isSome_iff_ne_none.mpr (partFault_io_ne_none hmis hqio _ _ _)⟩
  obtain ⟨p, hp, hpf⟩ := List.exists_of_findSome?_eq_some hf
  obtain ⟨hfault, hwalk⟩ := hparts p hp
  have hfp : f = { cause := acc, tval := p.1, tinst := a.tinst } := by
    obtain hnone | hsome := partFault_eq_none_or_access (u := u) (h := h) (a := a) hfault hwalk acc p.1 p.2.2.2
    · rw [hnone] at hpf
      cases hpf
    · rw [hsome] at hpf
      exact (Option.some.inj hpf).symm
  exact ⟨p.1, by simp only [State.accessFault, htrig, hf, hfp]⟩

/-- Settles O52: the part that goes to IO has an exception, and no part has another than the access fault. -/
theorem misalignedIo : Obligations.MisalignedIo := by
  intro h a0 a s u st k acc ha hk hacc hx hmis htrig hparts hio
  obtain ⟨tv, htv⟩ := accessFault_of_misaligned_io hmis htrig (fun p hp => ⟨(hparts p hp).1, (hparts p hp).2.1⟩) hio
  refine ⟨tv, ?_⟩
  subst hacc
  cases st with
  | false =>
    subst hk
    exact (exec_hartLoad_of_executes ha hx).trans (by rw [← htv]; rfl)
  | true => exact (exec_hartStore_of_executes ha hk hx).trans (by rw [← htv]; rfl)

end Sys2Proof.Proofs
end

section
/-! SUPPORT. What an operation on one hart leaves (R39): every other hart, every register and every byte of memory. And what a CSR reads while the hart's CSRs stand. -/
namespace Sys2Proof.Proofs

open Sys2Proof.Machine Sys2Proof.Laws

/-! ### The frame of one hart -/

/-- Beside one hart, the harts, the registers and memory are as before. -/
structure OnlyHart (h : Nat) (s t : State) : Prop where
  harts : ∀ n, n ≠ h → t.hart n = s.hart n
  regs : t.regs = s.regs
  mem : t.mem = s.mem

namespace OnlyHart

theorem refl (h : Nat) (s : State) : OnlyHart h s s := ⟨fun _ _ => rfl, rfl, rfl⟩

theorem trans {h : Nat} {s t u : State} (st : OnlyHart h s t) (tu : OnlyHart h t u) : OnlyHart h s u :=
  ⟨fun n hn => (tu.harts n hn).trans (st.harts n hn), tu.regs.trans st.regs, tu.mem.trans st.mem⟩

theorem modHart {h : Nat} {s t : State} (st : OnlyHart h s t) (f : Hart → Hart) : OnlyHart h s (t.modHart h f) :=
  st.trans ⟨fun n hn => hart_modHart_other t h n f hn, modHart_regs .., modHart_mem ..⟩

theorem setCsr {h : Nat} {s t : State} (st : OnlyHart h s t) (n : Nat) (v : Word) : OnlyHart h s (t.setCsr h n v) := st.modHart _

theorem ite {h : Nat} {s t u : State} (c : Prop) [Decidable c] (st : OnlyHart h s t) (su : OnlyHart h s u) : OnlyHart h s (if c then t else u) := by
  split
  · exact st
  · exact su

end OnlyHart

/-! ### Commands that give a hart -/

/-- A command that changes one hart by a function gives that hart, and leaves the others, the registers and memory. -/
theorem gives_modHart {c : Instr} {s : State} {h : Nat} {f : Hart → Hart} (hexec : exec c s = .next (s.modHart h f)) :
    Gives c s (fun t => t.hart h = f (s.hart h) ∧ (∀ n, n ≠ h → t.hart n = s.hart n) ∧ t.regs = s.regs ∧ t.mem = s.mem) := by
  obtain ⟨hharts, hregs, hmem⟩ := (OnlyHart.refl h s).modHart f
  exact ⟨_, hexec, hart_modHart_same .., hharts, hregs, hmem⟩

/-- What a command gives, it gives in weaker words. -/
theorem Gives.imp {c : Instr} {s : State} {P Q : State → Prop} (hP : Gives c s P) (hPQ : ∀ t, P t → Q t) : Gives c s Q := by
  obtain ⟨t, hexec, ht⟩ := hP
  exact ⟨t, hexec, hPQ t ht⟩

/-! ### Flushing the predictors changes cores alone -/

/-- What the predictors' flush leaves, whether or not PRED_FLUSH_EFF asks for it (R61). -/
theorem predFlush_frame (s : State) (h : Nat) : (s.predFlush h).harts = s.harts ∧ (s.predFlush h).regs = s.regs ∧ (s.predFlush h).mem = s.mem := by
  simp only [State.predFlush]
  split
  · exact ⟨modCore_harts .., modCore_regs .., modCore_mem ..⟩
  · exact ⟨rfl, rfl, rfl⟩

@[simp] theorem hart_predFlush (s : State) (h n : Nat) : (s.predFlush h).hart n = s.hart n := by
  unfold State.hart
  rw [(predFlush_frame s h).1]

theorem OnlyHart.predFlush {h : Nat} {s t : State} (st : OnlyHart h s t) : OnlyHart h s (t.predFlush h) :=
  st.trans ⟨fun n _ => hart_predFlush t h n, (predFlush_frame t h).2.1, (predFlush_frame t h).2.2⟩

/-! ### CSRs -/

/-- A CSR but mip depends on its hart's CSRs alone. -/
theorem csr_congr {s t : State} {h : Nat} (hcsr : (t.hart h).csr = (s.hart h).csr) {n : Nat} (hn : n ≠ 0x344) : t.csr h n = s.csr h n := by
  rw [csr_of_ne_mip _ _ _ hn, csr_of_ne_mip _ _ _ hn, State.csrWord, State.csrWord, hcsr]

/-- The last write of a CSR but mip is read back. -/
theorem csr_setCsr (s : State) (h n k : Nat) (v : Word) (hk : k ≠ 0x344) : (s.setCsr h n v).csr h k = if k = n then v else s.csr h k := by
  split
  case isTrue heq => rw [heq, csr_setCsr_same _ _ _ _ (heq ▸ hk)]
  case isFalse hne => exact csr_setCsr_other _ _ _ _ _ _ (.inr hne) hk

end Sys2Proof.Proofs
end

section
/-! SUPPORT. The taking of a trap (R31, R34, R64; the privileged architecture, log entry 21): the CSRs that it writes, the hart that it leaves, and its frame. -/
namespace Sys2Proof.Proofs

open Sys2Proof.Machine Sys2Proof.Laws

/-! ### How every trap ends -/

/-- Once the CSRs, the mode and the pc are written, what the hart has in flight is gone, and the predictors are flushed where the mode or V changes (R64). -/
def endTrap (s : State) (h : Nat) (changes : Bool) : State := if changes then (s.modHart h Hart.squashAll).predFlush h else s.modHart h Hart.squashAll

theorem hart_endTrap (s : State) (h : Nat) (changes : Bool) : (endTrap s h changes).hart h = (s.hart h).squashAll := by
  cases changes <;> simp [endTrap]

theorem OnlyHart.endTrap {h : Nat} {s t : State} (st : OnlyHart h s t) (changes : Bool) : OnlyHart h s (endTrap t h changes) := by
  cases changes with
  | false => exact st.modHart _
  | true => exact (st.modHart _).predFlush

theorem csr_endTrap (s : State) (h : Nat) (changes : Bool) {n : Nat} (hn : n ≠ 0x344) : (endTrap s h changes).csr h n = s.csr h n :=
  csr_congr (by rw [hart_endTrap]; rfl) hn

/-! ### The two kinds of trap -/

/-- A hart at the vector of a trap, in the mode that takes it. -/
def trapMode (p : Priv) (pc : Word) (x : Hart) : Hart := { x with priv := p, virt := false, pc := pc }

theorem csr_modHart_trapMode (s : State) (h : Nat) (p : Priv) (pc : Word) {n : Nat} (hn : n ≠ 0x344) : (s.modHart h (trapMode p pc)).csr h n = s.csr h n :=
  csr_congr (by rw [hart_modHart_same]; rfl) hn

/-- mstatus on a trap to M mode from a hart's mode: MPIE, MIE, MPP, MPV and GVA. -/
def statusToM (st : Word) (x : Hart) (gva : Nat) : Word :=
  putBits (putBits (putBits (putBits (putBits st 7 1 (bitsOf st 3 1)) 3 1 0) 11 2 x.priv.code) 39 1 x.virt.toNat) 38 1 gva

/-- mstatus on a trap to HS mode: SPIE, SIE and SPP. -/
def statusToS (st : Word) (x : Hart) : Word :=
  putBits (putBits (putBits st 5 1 (bitsOf st 1 1)) 1 1 0) 8 1 (if x.priv.code = 0 then 0 else 1)

/-- A trap that is not delegated, or is taken in M mode, goes to M mode. -/
theorem takeTrap_toM {s : State} {h cause : Nat} {irq : Bool}
    (hm : (s.hart h).priv = .m ∨ bitsOf (s.csr h (if irq then 0x303 else 0x302)) cause 1 = 0) (tval epc : Word) :
    ∃ gva changes, s.takeTrap h cause irq tval epc =
      endTrap (((((((s.setCsr h 0x341 epc).setCsr h 0x342 (w64 (cause + (if irq then 2 ^ 63 else 0)))).setCsr h 0x343 tval).setCsr h 0x34B 0).setCsr h 0x34A 0).setCsr h 0x300
        (statusToM (s.csr h 0x300) (s.hart h) gva)).modHart h (trapMode .m (trapVector (s.csr h 0x305) cause irq))) h changes := by
  have hdeleg : ((s.hart h).priv != .m && bitsOf (s.csr h (if irq then 0x303 else 0x302)) cause 1 == 1) = false := by
    obtain hpriv | hbit := hm
    · rw [hpriv]; rfl
    · rw [hbit, Bool.and_eq_false_iff]; exact .inr rfl
  refine ⟨((s.hart h).virt && !irq && tvalIsAddress cause).toNat, (s.hart h).priv != .m || (s.hart h).virt, ?_⟩
  simp only [State.takeTrap, hdeleg, Bool.false_and, Bool.false_eq_true, if_false]
  rfl

/-- A delegated trap of a hart outside M mode and without virtualisation goes to HS mode. -/
theorem takeTrap_toS {s : State} {h cause : Nat} {irq : Bool} (hm : (s.hart h).priv ≠ .m) (hv : (s.hart h).virt = false)
    (hbit : bitsOf (s.csr h (if irq then 0x303 else 0x302)) cause 1 = 1) (tval epc : Word) :
    ∃ hs changes, s.takeTrap h cause irq tval epc =
      endTrap ((((((((s.setCsr h 0x141 epc).setCsr h 0x142 (w64 (cause + (if irq then 2 ^ 63 else 0)))).setCsr h 0x143 tval).setCsr h 0x643 0).setCsr h 0x64A 0).setCsr h 0x300
        (statusToS (s.csr h 0x300) (s.hart h))).setCsr h 0x600 hs).modHart h (trapMode .s (trapVector (s.csr h 0x105) cause irq))) h changes := by
  have hdeleg : ((s.hart h).priv != .m && bitsOf (s.csr h (if irq then 0x303 else 0x302)) cause 1 == 1) = true := by
    rw [hbit, Bool.and_eq_true]; exact ⟨bne_iff_ne.mpr hm, rfl⟩
  refine ⟨putBits (putBits (s.csr h 0x600) 7 1 (s.hart h).virt.toNat) 6 1 ((s.hart h).virt && !irq && tvalIsAddress cause).toNat,
    (s.hart h).priv != .s || (s.hart h).virt, ?_⟩
  simp only [State.takeTrap, hdeleg, hv, Bool.and_false, Bool.false_and, Bool.false_eq_true, if_false, if_true]
  rfl

/-- Whichever mode it goes to, VS mode included, a trap writes its hart alone and then ends. -/
theorem takeTrap_ends (s : State) (h cause : Nat) (irq : Bool) (tval epc : Word) :
    ∃ u changes, OnlyHart h s u ∧ s.takeTrap h cause irq tval epc = endTrap u h changes := by
  have hs := OnlyHart.refl h s
  refine ⟨_, _, .ite _ ?toVS (.ite _ ?toS ?toM), rfl⟩
  case toVS => exact ((((hs.setCsr _ _).setCsr _ _).setCsr _ _).setCsr _ _).modHart _
  case toS => exact (((((((hs.setCsr _ _).setCsr _ _).setCsr _ _).setCsr _ _).setCsr _ _).setCsr _ _).setCsr _ _).modHart _
  case toM => exact ((((((hs.setCsr _ _).setCsr _ _).setCsr _ _).setCsr _ _).setCsr _ _).setCsr _ _).modHart _

/-! ### What a trap leaves in the CSRs -/

theorem priv_code_lt (p : Priv) : p.code < 2 ^ 2 := by cases p <;> decide

/-- mstatus keeps the interrupt enable, the mode and V that the trap was taken from, with interrupts off. -/
theorem bitsOf_statusToM (st : Word) (x : Hart) (gva : Nat) :
    bitsOf (statusToM st x gva) 7 1 = bitsOf st 3 1 ∧ bitsOf (statusToM st x gva) 3 1 = 0 ∧ bitsOf (statusToM st x gva) 11 2 = x.priv.code ∧
      bitsOf (statusToM st x gva) 39 1 = x.virt.toNat := by
  refine ⟨?_, ?_, ?_, ?_⟩
  all_goals simp (disch := omega) only [statusToM, bitsOf_putBits_same, bitsOf_putBits_other, Nat.zero_mod, bitsOf_mod]
  · exact Nat.mod_eq_of_lt (priv_code_lt x.priv)
  · exact Nat.mod_eq_of_lt (Bool.toNat_lt x.virt)

/-- sstatus keeps the interrupt enable and whether the trap was taken from U mode, with interrupts off. -/
theorem bitsOf_statusToS (st : Word) (x : Hart) :
    bitsOf (statusToS st x) 5 1 = bitsOf st 1 1 ∧ bitsOf (statusToS st x) 1 1 = 0 ∧ bitsOf (statusToS st x) 8 1 = if x.priv.code = 0 then 0 else 1 := by
  refine ⟨?_, ?_, ?_⟩
  all_goals simp (disch := omega) only [statusToS, bitsOf_putBits_same, bitsOf_putBits_other, Nat.zero_mod, bitsOf_mod]
  split <;> rfl

/-- Settles O55: a trap ends with its hart alone changed; to M mode and to HS mode, each CSR that its entry wrote is read back. -/
theorem trapEntry : Obligations.TrapEntry := by
  intro s h cause irq tval epc
  obtain ⟨u, changes, hu, hends⟩ := takeTrap_ends s h cause irq tval epc
  obtain ⟨hharts, hregs, hmem⟩ := hu.endTrap changes
  refine ⟨?frame, ?regs, ?mem, ?infl, ?wait, ?toM, ?toS⟩
  case frame => exact fun n hn => hends ▸ hharts n hn
  case regs => exact hends ▸ hregs
  case mem => exact hends ▸ hmem
  case infl => rw [hends, hart_endTrap]; rfl
  case wait => rw [hends, hart_endTrap]; rfl
  case toM =>
    intro hm
    obtain ⟨gva, b, htrap⟩ := takeTrap_toM hm tval epc
    refine ⟨_, rfl, ?_⟩
    simp (disch := decide) [htrap, csr_endTrap, csr_modHart_trapMode, csr_setCsr, hart_endTrap, Hart.squashAll, trapMode, bitsOf_statusToM]
  case toS =>
    intro hm hv hbit
    obtain ⟨hs, b, htrap⟩ := takeTrap_toS hm hv hbit tval epc
    refine ⟨_, rfl, ?_⟩
    simp (disch := decide) [htrap, csr_endTrap, csr_modHart_trapMode, csr_setCsr, hart_endTrap, Hart.squashAll, trapMode, bitsOf_statusToS]

end Sys2Proof.Proofs
end

section
/-! SUPPORT. The waits of a hart (R34): WFI and WRS as the oldest instruction, their ends, and the traps of mstatus.TW. -/
namespace Sys2Proof.Proofs

open Sys2Proof.Machine Sys2Proof.Laws

/-! ### Beginning to wait -/

/-- WFI where it may wait. -/
theorem exec_wfi_of_no_trap {s : State} {h : BitVec 8} (halone : s.alone h.toNat = true) (htrap : s.wfiTrap h.toNat = none) :
    exec (.wfi h) s = .next (s.modHart h.toNat (fun x => { x with wait := .wfi })) := by
  show execWfi h s = _
  simp only [execWfi, halone, htrap, Bool.not_true, Bool.false_eq_true, if_false]

/-- WFI where TW forbids it. -/
theorem exec_wfi_of_trap {s : State} {h : BitVec 8} {v : Bool} (halone : s.alone h.toNat = true) (htrap : s.wfiTrap h.toNat = some v) :
    exec (.wfi h) s = .next (s.illegal h.toNat v encWfi) := by
  show execWfi h s = _
  simp only [execWfi, halone, htrap, Bool.not_true, Bool.false_eq_true, if_false]

/-- An illegal instruction that is not a virtual one. -/
theorem illegal_not_virtual (s : State) (h enc : Nat) : s.illegal h false enc = s.except h { cause := Exc.illegal, tval := w64 enc } (s.hart h).pc := rfl

theorem w64_encWfi : w64 encWfi = 0x10500073 := by decide

theorem w64_encWrsNto : w64 encWrsNto = 0x00D00073 := by decide

/-- TW makes a wait below M mode an illegal instruction. -/
theorem waitTrap_of_tw {s : State} {h : Nat} (hpriv : (s.hart h).priv ≠ .m) (htw : bitsOf (s.csr h 0x300) 21 1 = 1) : s.waitTrap h = some false := by
  simp only [State.waitTrap, hpriv, htw, if_false, if_true]

theorem wfiTrap_of_waitTrap {s : State} {h : Nat} {v : Bool} (hwait : s.waitTrap h = some v) : s.wfiTrap h = some v := by
  simp only [State.wfiTrap, hwait]

/-- WRS.NTO with a reservation. -/
theorem exec_wrsNto_of_resv {s : State} {h : BitVec 8} {sec : Nat} (halone : s.alone h.toNat = true) (hresv : (s.hart h.toNat).resv = some sec) :
    exec (.wrsNto h) s = .next (s.modHart h.toNat (fun x => { x with wait := .wrsNto sec })) := by
  show execWrsNto h s = _
  simp only [execWrsNto, halone, hresv, Bool.not_true, Bool.false_eq_true, if_false]

/-- WRS.NTO without a reservation completes at once. -/
theorem exec_wrsNto_of_no_resv {s : State} {h : BitVec 8} (halone : s.alone h.toNat = true) (hresv : (s.hart h.toNat).resv = none) :
    exec (.wrsNto h) s = .next s := by
  show execWrsNto h s = _
  simp only [execWrsNto, halone, hresv, Bool.not_true, Bool.false_eq_true, if_false]

/-- WRS.STO with a reservation. -/
theorem exec_wrsSto_of_resv {s : State} {h : BitVec 8} {sec : Nat} (halone : s.alone h.toNat = true) (hresv : (s.hart h.toNat).resv = some sec) :
    exec (.wrsSto h) s = .next (s.modHart h.toNat (fun x => { x with wait := .wrsSto sec })) := by
  show execWrsSto h s = _
  simp only [execWrsSto, halone, hresv, Bool.not_true, Bool.false_eq_true, if_false]

/-! ### The ends of the waits -/

/-- A WRS.NTO that may not wait on traps. -/
theorem exec_wrsNtoTimeout_of_trap {s : State} {h : BitVec 8} {sec : Nat} {v : Bool} (hwait : (s.hart h.toNat).wait = .wrsNto sec)
    (htrap : s.waitTrap h.toNat = some v) : exec (.wrsNtoTimeout h) s = .next (s.illegal h.toNat v encWrsNto) := by
  show execWrsNtoTimeout h s = _
  simp only [execWrsNtoTimeout, hwait, htrap]

/-- The short wait of WRS.STO is over. -/
theorem exec_wrsStoExpiry_of_wait {s : State} {h : BitVec 8} {sec : Nat} (hwait : (s.hart h.toNat).wait = .wrsSto sec) :
    exec (.wrsStoExpiry h) s = .next (s.modHart h.toNat (fun x => { x with wait := .run })) := by
  show execWrsStoExpiry h s = _
  simp only [execWrsStoExpiry, hwait]

/-- Settles O4: each wait is a change of its hart's own field, or the illegal instruction that TW makes of it. -/
theorem hartWaits : Obligations.HartWaits := by
  refine ⟨?wfi, ?wfiTrap, ?wrsNto, ?wrsNtoFree, ?wrsNtoTimeout, ?wrsSto, ?wrsStoExpiry⟩
  case wfi => exact fun h s halone htrap => gives_modHart (exec_wfi_of_no_trap halone htrap)
  case wfiTrap =>
    intro h s halone hpriv htw
    rw [exec_wfi_of_trap halone (wfiTrap_of_waitTrap (waitTrap_of_tw hpriv htw)), illegal_not_virtual, w64_encWfi]
  case wrsNto =>
    intro h s sec halone hresv
    exact Gives.imp (gives_modHart (exec_wrsNto_of_resv halone hresv)) (fun t ⟨hhart, hother, hregs, _⟩ => ⟨hhart, hother, hregs⟩)
  case wrsNtoFree => exact fun h s halone hresv => exec_wrsNto_of_no_resv halone hresv
  case wrsNtoTimeout =>
    intro h s sec hwait hpriv htw
    rw [exec_wrsNtoTimeout_of_trap hwait (waitTrap_of_tw hpriv htw), illegal_not_virtual, w64_encWrsNto]
  case wrsSto =>
    intro h s sec halone hresv
    exact Gives.imp (gives_modHart (exec_wrsSto_of_resv halone hresv)) (fun t ⟨hhart, hother, hregs, _⟩ => ⟨hhart, hother, hregs⟩)
  case wrsStoExpiry =>
    intro h s sec hwait
    exact Gives.imp (gives_modHart (exec_wrsStoExpiry_of_wait hwait)) (fun t ⟨hhart, hother, hregs, _⟩ => ⟨hhart, hother, hregs⟩)

end Sys2Proof.Proofs
end

section
/-! SUPPORT. Doorbells (R50 to R52): the interrupt that an arrival raises touches no inbox; a send waits for its status; RECV and PEEK write rd. -/
namespace Sys2Proof.Proofs

open Sys2Proof.Machine Sys2Proof.Laws

/-! ### An interrupt file's write -/

/-- A write of an interrupt file is a change of its hart's files. -/
theorem setIrq_onlyHart (s : State) (h file id : Nat) : OnlyHart h s (s.setIrq h file id) := by
  unfold State.setIrq
  exact .ite _ (.refl h s) ((OnlyHart.refl h s).modHart _)

@[simp] theorem inbox_setIrq (s : State) (h file id n : Nat) : ((s.setIrq h file id).hart n).inbox = (s.hart n).inbox := by
  by_cases hn : n = h
  · subst hn
    unfold State.setIrq
    split
    · rfl
    · rw [hart_modHart_same]
  · rw [(setIrq_onlyHart s h file id).harts n hn]

@[simp] theorem bellRet_setIrq (s : State) (h file id : Nat) : (s.setIrq h file id).bellRet = s.bellRet := by
  unfold State.setIrq
  split
  · rfl
  · exact modHart_bellRet ..

/-! ### Integer registers -/

/-- A register other than x0 holds what is written to it. -/
theorem xreg_setX_same (x : Hart) {r : Nat} (hr : r % 32 ≠ 0) (v : Word) : (x.setX r v).xreg r = v := by
  simp [Hart.xreg, Hart.setX, hr]

/-- Another register keeps its value. -/
theorem xreg_setX_other (x : Hart) {r k : Nat} (hk : k % 32 ≠ r % 32) (v : Word) : (x.setX r v).xreg k = x.xreg k := by
  unfold Hart.setX
  split
  · rfl
  · simp only [Hart.xreg, get_set_other (h := hk)]

@[simp] theorem inbox_setX (x : Hart) (r : Nat) (v : Word) : (x.setX r v).inbox = x.inbox := by
  unfold Hart.setX
  split <;> rfl

theorem xreg_zero (x : Hart) : x.xreg 0 = 0 := rfl

/-- The register of a destination field: x0, or one that can be written. -/
theorem toNat_mod_of_ne_zero {rd : BitVec 5} (hrd : rd ≠ 0) : rd.toNat % 32 ≠ 0 := by bv_omega

theorem toNat_mod (rd : BitVec 5) : rd.toNat % 32 = rd.toNat := Nat.mod_eq_of_lt rd.isLt

/-! ### The commands -/

/-- PX_BELL_SEND without a trap. -/
theorem exec_pxBellSend_of_no_trap {s : State} {h : BitVec 8} {enc : BitVec 32} (hruns : s.runs h.toNat = true) (htrap : s.bellTrap h.toNat enc 0 = none)
    (id : Nat) (rd : BitVec 5) (rs1 rs2 : Word) :
    exec (.pxBellSend h id rd rs1 rs2 enc) s =
      .next ((s.launch h.toNat (plainInfl id .bellSend (s.hart h.toNat).pc (.x rd.toNat) rs1 rs2)).hartPump h.toNat) := by
  show execPxBellSend h id rd rs1 rs2 enc s = _
  simp only [execPxBellSend, hruns, htrap, Bool.not_true, Bool.false_eq_true, if_false]

/-- What RECV returns: the payload of the head of an inbox, 0 from an empty one (R52). -/
def headPayload : List Doorbell → Word
  | [] => 0
  | d :: _ => d.payload

/-- A hart that has received its head doorbell into rd. -/
def received (rd : Nat) (x : Hart) : Hart := { x.setX rd (headPayload x.inbox) with inbox := x.inbox.drop 1 }

/-- PX_BELL_RECV without a trap. -/
theorem exec_pxBellRecv_of_no_trap {s : State} {h : BitVec 8} {enc : BitVec 32} (halone : s.alone h.toNat = true) (htrap : s.bellTrap h.toNat enc 1 = none)
    (rd : BitVec 5) : exec (.pxBellRecv h rd enc) s = .next (s.modHart h.toNat (received rd.toNat)) := by
  show execPxBellRecv h rd enc s = _
  simp only [execPxBellRecv, halone, htrap, Bool.not_true, Bool.false_eq_true, if_false, State.modHart, received]
  cases (s.hart h.toNat).inbox <;> rfl

/-- PX_BELL_PEEK without a trap: rd takes the head's descriptor. -/
theorem exec_pxBellPeek_of_no_trap {s : State} {h : BitVec 8} {enc : BitVec 32} (halone : s.alone h.toNat = true) (htrap : s.bellTrap h.toNat enc 2 = none)
    (rd : BitVec 5) :
    exec (.pxBellPeek h rd enc) s = .next (s.modHart h.toNat (fun x => x.setX rd.toNat (bellHead x.inbox))) := by
  show execPxBellPeek h rd enc s = _
  simp only [execPxBellPeek, halone, htrap, Bool.not_true, Bool.false_eq_true, if_false]

/-- PX_BELL_SEND_STATUS completes the send that waits for it. -/
theorem exec_pxBellSendStatus_of_waiting {s : State} {h : BitVec 8} {i : Infl}
    (hi : (s.hart h.toNat).infl.find? (fun i => i.kind == .bellSend && i.sent && !i.complete) = some i) (st : BitVec 3) :
    exec (.pxBellSendStatus h st) s = .next ((State.finish { s with bellRet := s.bellRet.erase (h.toNat, st.toNat) } h.toNat i.id st.toNat).hartPump h.toNat) := by
  have hhart : State.hart { s with bellRet := s.bellRet.erase (h.toNat, st.toNat) } h.toNat = s.hart h.toNat := rfl
  show execPxBellSendStatus h st s = _
  simp only [execPxBellSendStatus, hhart, hi]

/-! ### Arrival -/

/-- What a doorbell's arrival answers, whether or not it is queued: it leaves the mesh, and its status returns to the sender (R51). -/
def bellAnswered (s : State) (b : BellMsg) : State := { s with bells := s.bells.erase b, bellRet := s.bellRet ++ [(b.sender, s.bellStatus b)] }

theorem bellAnswered_onlyHart (s : State) (b : BellMsg) (h : Nat) : OnlyHart h s (bellAnswered s b) := ⟨fun _ _ => rfl, rfl, rfl⟩

/-- A hart with a doorbell queued. -/
def queued (b : BellMsg) (x : Hart) : Hart := { x with inbox := x.inbox ++ [{ wid := b.wid, hart := b.sender, payload := b.payload }] }

/-- A doorbell with status 0 is queued, and raises the interrupt that pxbellcfg names (R53). -/
theorem exec_doorbellArrival_of_zero {s : State} {b : BellMsg} (hst : s.bellStatus b = 0) :
    exec (.doorbellArrival b) s = .next (((bellAnswered s b).modHart (b.target % 256) (queued b)).setIrq (b.target % 256)
      (bitsOf (s.csr (b.target % 256) 0x7C0) 2 1) (bitsOf (s.csr (b.target % 256) 0x7C0) 8 8)) := by
  show execDoorbellArrival b s = _
  rw [execDoorbellArrival, if_pos hst]
  rfl

/-- A doorbell with another status is not. -/
theorem exec_doorbellArrival_of_ne_zero {s : State} {b : BellMsg} (hst : s.bellStatus b ≠ 0) : exec (.doorbellArrival b) s = .next (bellAnswered s b) := by
  show execDoorbellArrival b s = _
  rw [execDoorbellArrival, if_neg hst]
  rfl

/-- Settles O7: an arrival by its status; RECV and PEEK as a write of rd in one hart, beside its inbox. -/
theorem doorbells : Obligations.Doorbells := by
  refine ⟨?send, ?arrival, ?refused, ?status, ?recv, ?recvEmpty, ?peek⟩
  case send => exact fun h id rd rs1 rs2 enc s hruns htrap => exec_pxBellSend_of_no_trap hruns htrap id rd rs1 rs2
  case arrival =>
    intro b s hst
    obtain ⟨hharts, hregs, -⟩ := ((bellAnswered_onlyHart s b _).modHart (queued b)).trans (setIrq_onlyHart _ _ _ _)
    refine ⟨_, exec_doorbellArrival_of_zero hst, ?_, ?_, hharts, hregs⟩
    · rw [inbox_setIrq, hart_modHart_same]
      rfl
    · rw [bellRet_setIrq, modHart_bellRet, bellAnswered, hst]
  case refused => exact fun b s hst => ⟨_, exec_doorbellArrival_of_ne_zero hst, rfl, rfl, rfl⟩
  case status => exact fun h st s i hi => exec_pxBellSendStatus_of_waiting hi st
  case recv =>
    intro h rd enc s d l halone htrap hinbox
    refine Gives.imp (gives_modHart (exec_pxBellRecv_of_no_trap halone htrap rd)) (fun t ⟨hhart, hother, hregs, _⟩ => ?_)
    rw [hhart, received, hinbox]
    refine ⟨fun hrd => xreg_setX_same _ (toNat_mod_of_ne_zero hrd) _, rfl, fun r hr => ?_, hother, hregs⟩
    exact xreg_setX_other _ (by rwa [toNat_mod]) _
  case recvEmpty =>
    intro h rd enc s halone htrap hinbox
    refine Gives.imp (gives_modHart (exec_pxBellRecv_of_no_trap halone htrap rd)) (fun t ⟨hhart, _⟩ => ?_)
    rw [hhart, received, hinbox]
    refine ⟨?_, rfl⟩
    by_cases hrd : rd = 0
    · subst hrd
      exact xreg_zero _
    · exact xreg_setX_same _ (toNat_mod_of_ne_zero hrd) _
  case peek =>
    intro h rd enc s halone htrap
    refine Gives.imp (gives_modHart (exec_pxBellPeek_of_no_trap halone htrap rd)) (fun t ⟨hhart, hother, hregs, _⟩ => ?_)
    rw [hhart]
    refine ⟨fun hrd => xreg_setX_same _ (toNat_mod_of_ne_zero hrd) _, inbox_setX .., fun r hr => ?_, hother, hregs⟩
    exact xreg_setX_other _ (by rwa [toNat_mod]) _

end Sys2Proof.Proofs
end

section
/-! SUPPORT. The pipeline of a hart (R56 to R58, R60, R63, R65 to R69, R77): fences on annexes, branches, bound and squashed instructions, retirement and interrupts. -/
namespace Sys2Proof.Proofs

open Sys2Proof.Machine Sys2Proof.Laws

/-! ### Fences on annexes -/

/-- PX_FENCE_AX with a legal encoding. -/
theorem exec_pxFenceAx_of_legal {s : State} {h : BitVec 8} {enc : BitVec 32} (hruns : s.runs h.toNat = true) (henc : fenceAxEnc enc = true) (id : Nat) (rs1 : Word) :
    exec (.pxFenceAx h id enc rs1) s = .next ((s.launch h.toNat (plainInfl id .fenceAx (s.hart h.toNat).pc (.x (encRd enc)) rs1 0)).hartPump h.toNat) := by
  show execPxFenceAx h id enc rs1 s = _
  simp only [execPxFenceAx, hruns, henc, Bool.not_true, Bool.false_eq_true, if_false]

/-- The last answer of a fence completes it with the failures that it has met and those noted before it (R58). -/
theorem probeAnswer_of_last {s : State} {h k : Nat} {f : AxFence} (hf : (s.hart h).fence = some f) (hprobed : f.probed = true)
    (hlast : f.waiting &&& ~~~(1#6 <<< k) = 0) (bad : Bool) :
    s.probeAnswer h k bad = ((s.modHart h (fun x => { x with fence := none, axErr := 0 })).finish h f.id
      ((if bad then f.failed ||| (1#6 <<< k) else f.failed) ||| (s.hart h).axErr).toNat).hartPump h := by
  simp only [State.probeAnswer, hf, hprobed, Bool.not_true, Bool.false_eq_true, if_false]
  exact if_pos hlast

/-! ### Branches -/

/-- Whether a branch is a return whose predicted target was wrong (R65). -/
def returnMissed (b : Branch) (target : Option Word) : Bool := b.isReturn && target.any (· != b.target)

/-- A core on the right path again after a mispredicted branch: the records of the branch and of what is younger are gone, the global history is the one at the branch with
its outcome, and a return whose predicted target was wrong empties the return stack (R63, R65). -/
def redirected (b : Branch) (e : PredRec) (k : Core) : Core :=
  { k with preds := k.preds.filter (fun e => decide (e.id < b.id)), ras := if returnMissed b e.target then [] else k.ras, ghist := w64 (e.ghist.toNat * 2 + b.taken.toNat) }

/-- A mispredicted branch redirects its core and squashes what is younger. -/
theorem exec_branchResolve_of_mispredicted {s : State} {h : BitVec 8} {b : Branch} {k : Core} {e : PredRec} (hruns : s.runs h.toNat = true)
    (hmis : b.mispredicted = true) (hk : k = b.fetched.foldl Core.fetchBranch (s.core (s.physCore h.toNat)))
    (he : k.preds.find? (fun e => e.id == b.id) = some e) :
    exec (.branchResolve h b) s =
      .next (((s.setCore (s.physCore h.toNat) (redirected b e k)).squash h.toNat (fun i => decide (b.id < i.id))).hartPump h.toNat) := by
  subst hk
  show execBranchResolve h b s = _
  simp only [execBranchResolve, hruns, hmis, he, Option.bind_some, Bool.not_true, Bool.false_eq_true, if_false, if_true, redirected, returnMissed]
  cases e.target <;> rfl

/-- A branch resolved as it was predicted leaves the core that fetch has left, without the branch's record. -/
theorem exec_branchResolve_of_predicted {s : State} {h : BitVec 8} {b : Branch} (hruns : s.runs h.toNat = true) (hmis : b.mispredicted = false)
    (hret : b.isReturn = false) {k : Core} (hk : k = b.fetched.foldl Core.fetchBranch (s.core (s.physCore h.toNat))) :
    exec (.branchResolve h b) s = .next (s.setCore (s.physCore h.toNat) { k with preds := k.preds.filter (fun e => e.id != b.id) }) := by
  subst hk
  show execBranchResolve h b s = _
  simp only [execBranchResolve, hruns, hmis, hret, Bool.false_and, Bool.not_true, Bool.false_eq_true, if_false]

/-- A predicted call that is not a return pushes its return address, and the global history takes the prediction (R63, R65). -/
theorem fetchBranch_call {p : Pred} (hcall : p.isCall = true) (k : Core) :
    (k.fetchBranch p).ras = (p.link :: k.ras).take 32 ∧ (k.fetchBranch p).ghist = w64 (k.ghist.toNat * 2 + p.taken.toNat) := by
  simp only [Core.fetchBranch, hcall, if_true, and_self]

/-! ### Bound and squashed instructions -/

/-- A block that the L1I holds is not filled again. -/
theorem l1iFill_of_contains {s : State} {c sec : Nat} (hc : (s.core c).l1i.contains sec = true) : s.l1iFill c sec = s := if_pos hc

/-- A fold whose step leaves the state as it is at every element. -/
theorem foldl_eq_self {α β : Type} {f : β → α → β} {b : β} {l : List α} (hf : ∀ a ∈ l, f b a = b) : l.foldl f b = b := by
  induction l with
  | nil => rfl
  | cons a l ih => rw [List.foldl_cons, hf a List.mem_cons_self, ih fun a ha => hf a (List.mem_cons_of_mem _ ha)]

/-- An instruction whose parts wait for nothing is bound, and its block comes into the L1I where nothing else keeps it (R67, R69). -/
theorem exec_instructionBound_of_quiet {s s1 : State} {h : BitVec 8} {id : Nat} {i : Infl} (hi : (s.hart h.toNat).infl.find? (fun i => i.id == id) = some i)
    (hparts : ∀ p ∈ i.parts, p.tag = none ∧ p.missed = false ∧ s.openReq (coreStop (s.physCore h.toNat)) (s.physCore h.toNat % 2) p.sec = none)
    (hs1 : s1 = s.modInfl h.toNat id (fun i => { i with spec := false, parts := i.parts.map (fun p => { p with missed := false }) }))
    (hsec : i.isec ≠ 2 ^ 46) (hpoison : s1.codePoison h.toNat i.isec = false) (hdefer : s1.deferOn (s.physCore h.toNat) = true)
    (hshadow : (s1.hart h.toNat).shadowD.any (fun e => e.code && e.sec == i.isec) = false) :
    exec (.instructionBound h id) s = .next ((s1.l1iFill (s.physCore h.toNat) i.isec).hartPump h.toNat) := by
  have hreq (sec : Nat) : s1.openReq (coreStop (s.physCore h.toNat)) (s.physCore h.toNat % 2) sec =
      s.openReq (coreStop (s.physCore h.toNat)) (s.physCore h.toNat % 2) sec := by
    subst hs1
    unfold State.openReq State.modInfl
    rw [modHart_reqs]
  have htags : i.parts.filterMap (·.tag) = [] := List.filterMap_eq_nil_iff.mpr fun p hp => (hparts p hp).1
  have hsec' : (i.isec == 2 ^ 46) = false := beq_eq_false_iff_ne.mpr hsec
  show execInstructionBound h id s = _
  have hfold (f : State → Part → State) (hf : ∀ p ∈ i.parts, f s1 p = s1) : i.parts.foldl f s1 = s1 := foldl_eq_self hf
  simp only [execInstructionBound, hi, htags, List.foldl_nil]
  rw [← hs1, hfold _ ?spec, hfold _ ?demand]
  case spec => exact fun p hp => by simp only [(hparts p hp).2.1, Bool.and_false, Bool.false_eq_true, if_false]
  case demand => exact fun p hp => by simp only [hreq, (hparts p hp).2.2]
  simp only [hsec', hpoison, hdefer, hshadow, Bool.not_true, Bool.or_false]
  split
  case isTrue hc => rw [l1iFill_of_contains hc]
  case isFalse => rfl

/-- INSTRUCTION_SQUASH without wrong-path events. -/
theorem exec_instructionSquash_of_inflight {s : State} {h : BitVec 8} {id : Nat} (hany : (s.hart h.toNat).infl.any (fun i => i.id == id && !i.done) = true) :
    exec (.instructionSquash h id []) s = .next ((s.squash h.toNat (fun i => i.id == id && !i.done)).hartPump h.toNat) := if_pos hany

/-! ### Retirement -/

/-- What follows the departure of an instruction without a branch and without events: the counts, and a stop that waits for the boundary (R62, R321, R512). -/
def retired (s : State) (h c : Nat) : State := ((((s.specBoundary c).countCsr h 0xB02 1).icountRetire h).stepHalt h).hartPump h

/-- An instruction that was not followed in flight retires. -/
theorem exec_instructionRetire_of_alone {s : State} {h : BitVec 8} {r : Retire} (hruns : s.runs h.toNat = true) (hid : r.id = none) (hbranch : r.branch = none)
    (hevents : r.events = []) :
    exec (.instructionRetire h r) s =
      .next (retired (s.modHart h.toNat (fun x => { x with pc := r.next, wait := .run })) h.toNat (s.physCore h.toNat)) := by
  show execInstructionRetire h r s = _
  simp only [execInstructionRetire, hruns, hid, hbranch, hevents, List.foldl_nil, Option.isSome_none, Bool.not_true, Bool.or_false, Bool.false_eq_true, if_false]
  rfl

/-- An instruction that does not write memory modifies no code (R71). -/
theorem selfModify_of_no_write {i : Infl} (hi : i.kind.writes = false) (s : State) (h : Nat) : s.selfModify h i = s := by
  simp only [State.selfModify, hi, Bool.not_false, if_true]

/-- The oldest instruction in flight, which is done, bound and writes nothing, retires. -/
theorem exec_instructionRetire_of_oldest {s : State} {h : BitVec 8} {r : Retire} {i : Infl} {l : List Infl} (hruns : s.runs h.toNat = true)
    (hinfl : (s.hart h.toNat).infl = i :: l) (hid : r.id = some i.id) (hdone : i.done = true) (hspec : i.spec = false) (hwrites : i.kind.writes = false)
    (hbranch : r.branch = none) (hevents : r.events = []) :
    exec (.instructionRetire h r) s =
      .next (retired (s.modHart h.toNat (fun x => { x with pc := r.next, wait := .run, infl := x.infl.drop 1 })) h.toNat (s.physCore h.toNat)) := by
  show execInstructionRetire h r s = _
  simp only [execInstructionRetire, hruns, hinfl, hid, hdone, hspec, hbranch, hevents, selfModify_of_no_write hwrites, List.foldl_nil, Option.isSome_some, beq_self_eq_true,
    Bool.not_true, Bool.not_false, Bool.and_true, Bool.or_false, Bool.false_eq_true, if_false, if_true]
  rfl

/-! ### Interrupts -/

/-- An interrupt at a wait with nothing in flight traps to the instruction after it (R77). -/
theorem exec_interruptTaken_of_wait {s : State} {h : BitVec 8} {cause : BitVec 6} (hruns : s.runs h.toNat = true) (hready : s.irqReady h.toNat cause.toNat = true)
    (hinfl : (s.hart h.toNat).infl = []) (hwait : (s.hart h.toNat).wait ≠ .run) (next : Word) :
    exec (.interruptTaken h cause (.wait next)) s = .next (s.takeIrq h.toNat cause.toNat next) := by
  have hgo : ¬(!s.runs h.toNat || !s.irqReady h.toNat cause.toNat) = true := by
    rw [hruns, hready]
    exact Bool.false_ne_true
  refine (if_neg hgo).trans ?_
  rw [hinfl]
  exact if_neg hwait

/-- Settles O8: command by command, the case that the hypotheses leave. -/
theorem hartPipeline : Obligations.HartPipeline := by
  refine ⟨?fenceAx, ?fenceAxComplete, ?mispredicted, ?missedReturn, ?call, ?bound, ?squash, ?retireAlone, ?retireOldest, ?interrupt⟩
  case fenceAx => exact fun h id enc rs1 s hruns henc => exec_pxFenceAx_of_legal hruns henc id rs1
  case fenceAxComplete => exact fun h p bad s f hf hprobed hlast => congrArg Host.Outcome.next (probeAnswer_of_last hf hprobed hlast bad)
  case mispredicted =>
    intro h b s k k' e hruns hmis hret hk he hk'
    have hcore : redirected b e k = k' := by rw [hk', redirected, returnMissed, hret]; rfl
    rw [exec_branchResolve_of_mispredicted hruns hmis hk he, hcore]
  case missedReturn =>
    intro h b s k k' e w hruns hmis hret hk he htarget hw hk'
    have hmissed : returnMissed b e.target = true := by rw [returnMissed, hret, htarget]; exact bne_iff_ne.mpr hw
    have hcore : redirected b e k = k' := by rw [hk', redirected, if_pos hmissed]
    rw [exec_branchResolve_of_mispredicted hruns hmis hk he, hcore]
  case call =>
    intro h b p s hruns hmis hret hfetched hcall
    obtain ⟨hras, hghist⟩ := fetchBranch_call hcall (s.core (s.physCore h.toNat))
    refine ⟨_, exec_branchResolve_of_predicted hruns hmis hret rfl, ?_, ?_, setCore_harts .., setCore_regs ..⟩
    · rw [core_setCore_same, hfetched]
      exact hras
    · rw [core_setCore_same, hfetched]
      exact hghist
  case bound => exact fun h id s s1 i hi hparts hs1 hsec hpoison hdefer hshadow => exec_instructionBound_of_quiet hi hparts hs1 hsec hpoison hdefer hshadow
  case squash => exact fun h id s hany => exec_instructionSquash_of_inflight hany
  case retireAlone => exact fun h r s hruns hid hbranch hevents => exec_instructionRetire_of_alone hruns hid hbranch hevents
  case retireOldest =>
    exact fun h r s i l hruns hinfl hid hdone hspec hwrites hbranch hevents =>
      exec_instructionRetire_of_oldest hruns hinfl hid hdone hspec hwrites hbranch hevents
  case interrupt => exact fun h cause next s hruns hready hinfl hwait => exec_interruptTaken_of_wait hruns hready hinfl hwait next

end Sys2Proof.Proofs
end

section
/-! SUPPORT. Timers and interrupt files (R40, R41, R47): a guarded write of a timer register, the comparison that mip shows, and the end of a WFI. -/
namespace Sys2Proof.Proofs

open Sys2Proof.Machine Sys2Proof.Laws

/-! ### What an answer to an issuer leaves -/

/-- A performed write is answered by a packet at most. -/
theorem accept_frame (s : State) (w : Issuer) (st : Nat) :
    (∀ r u i, (s.accept w st).regWord r u i = s.regWord r u i) ∧ (s.accept w st).harts = s.harts ∧ (s.accept w st).mem = s.mem := by
  unfold State.accept
  split
  · exact ⟨fun _ _ _ => rfl, rfl, rfl⟩
  · exact ⟨fun r u i => regWord_send s _ r u i, send_harts .., send_mem ..⟩

/-- A register written for an issuer holds the value; every other register, the harts and memory are as before. -/
theorem gives_setRegWord_accept {c : Instr} {s : State} {r : RegName} {i : Nat} {v : Word} {w : Issuer} {st : Nat}
    (hexec : exec c s = .next ((s.setRegWord r 0 i v).accept w st)) :
    Gives c s (fun t => t.regWord r 0 i = v ∧ (∀ r' u' i', r' ≠ r → t.regWord r' u' i' = s.regWord r' u' i') ∧ t.harts = s.harts ∧ t.mem = s.mem) := by
  obtain ⟨hregs, hharts, hmem⟩ := accept_frame (s.setRegWord r 0 i v) w st
  exact ⟨_, hexec, (hregs r 0 i).trans (regWord_setRegWord_same ..),
    fun r' u' i' hr => (hregs r' u' i').trans (regWord_setRegWord_name _ _ _ _ _ _ _ _ hr), hharts.trans (setRegWord_harts ..), hmem.trans (setRegWord_mem ..)⟩

/-! ### Timer registers -/

/-- WID 0 may write mtime (R41). -/
theorem exec_coreMtimeWrite_of_may {s : State} {w : Issuer} (hwid : s.issuerWid w = 0) (v : Word) :
    exec (.coreMtimeWrite w v) s = .next ((s.setRegWord .coreMtime 0 0 v).accept w svcStop) := by
  show s.keeperOnly w svcStop (fun s => s.setRegWord .coreMtime 0 0 v) = _
  rw [State.keeperOnly, hwid]
  exact guarded_of_may s w svcStop _

/-- WID 0 and the world of a hart's seat may write its compare value (R41). -/
theorem exec_coreMtimecmpWrite_of_may {s : State} {w : Issuer} {h : BitVec 8} (hwid : s.issuerWid w = 0 ∨ s.issuerWid w = s.seat h.toNat) (v : Word) :
    exec (.coreMtimecmpWrite w h v) s = .next ((s.setRegWord .coreMtimecmp 0 h.toNat v).accept w svcStop) := by
  have hmay : (s.issuerWid w == 0 || s.issuerWid w == s.seat h.toNat) = true := by simpa using hwid
  show execCoreMtimecmpWrite w h v s = _
  simp only [execCoreMtimecmpWrite, hmay, guarded_of_may]

/-! ### The comparison -/

/-- MTIP is 1 while mtime has reached the compare value, whatever STIP shows (R40). -/
theorem mtip_of_due {s : State} {h : Nat} (hdue : s.getF F.coreMtimecmp_compare 0 h ≤ s.mtime) : bitsOf (s.csr h 0x344) 7 1 = 1 := by
  have hmtip (w : Word) : bitsOf (putBits w 7 1 1) 7 1 = 1 := bitsOf_putBits_same w 7 1 1 (by decide)
  simp only [State.csr, hdue, decide_true, Bool.toNat_true, if_true]
  split
  · exact (bitsOf_putBits_other _ 5 1 _ 7 1 (.inl (by decide))).trans (hmtip _)
  · exact hmtip _

/-- A match of a timer that is due and enabled ends a WFI. -/
theorem exec_mtimeCompareMatch_of_due {s : State} {h : BitVec 8} {l : Fin 3} (hdue : s.timerDue h.toNat l.val = true)
    (hen : bitsOf (s.csr h.toNat 0x304) (if l.val = 0 then 7 else if l.val = 1 then 5 else 6) 1 = 1) (hwait : (s.hart h.toNat).wait = .wfi) :
    exec (.mtimeCompareMatch h l) s = .next (s.modHart h.toNat (fun x => { x with wait := .run })) :=
  congrArg Host.Outcome.next (if_pos ⟨hdue, hen, hwait⟩)

/-- At most, a match ends its hart's wait. -/
theorem exec_mtimeCompareMatch_cases (s : State) (h : BitVec 8) (l : Fin 3) :
    exec (.mtimeCompareMatch h l) s = .next s ∨ exec (.mtimeCompareMatch h l) s = .next (s.modHart h.toNat (fun x => { x with wait := .run })) := by
  by_cases hgo : s.timerDue h.toNat l.val ∧ bitsOf (s.csr h.toNat 0x304) (if l.val = 0 then 7 else if l.val = 1 then 5 else 6) 1 = 1 ∧ (s.hart h.toNat).wait = .wfi
  · exact .inr (congrArg Host.Outcome.next (if_pos hgo))
  · exact .inl (congrArg Host.Outcome.next (if_neg hgo))

/-! ### Interrupt files -/

/-- A write of an interrupt file that its world may make sets the identity (R47). -/
theorem exec_imsicSeteipnumWrite_of_may {s : State} {w : Issuer} {h : BitVec 8} {file : Fin 8} {m : Bool} {on : Option (BitVec 6)} (hholds : s.holds = false)
    (hreach : s.reachable .core (s.physCore h.toNat) = true) (hmay : s.fileWriteOk h.toNat (s.issuerWid w) (on.map (·.toNat)) = true) (id : BitVec 8) :
    exec (.imsicSeteipnumWrite w h file m id on) s =
      .next ((s.setIrq h.toNat (if m then 0 else 1 + file.val) id.toNat).accept w (Place.core.stopOf (s.physCore h.toNat))) := by
  show execImsicSeteipnumWrite w h file m id on s = _
  simp only [execImsicSeteipnumWrite, hholds, hmay, guardedAt_of_reachable hreach, guarded_of_may, Bool.false_eq_true, if_false]

/-- Settles O10: the timer registers by their guards; a match leaves all that mip depends on, and wakes its hart where it is enabled. -/
theorem timersAndFiles : Obligations.TimersAndFiles := by
  refine ⟨?mtime, ?mtimecmp, ?pending, ?wakes, ?file⟩
  case mtime => exact fun w v s hwid => gives_setRegWord_accept (exec_coreMtimeWrite_of_may hwid v)
  case mtimecmp => exact fun w h v s hwid => gives_setRegWord_accept (exec_coreMtimecmpWrite_of_may hwid v)
  case pending =>
    intro h s hdue
    obtain hexec | hexec := exec_mtimeCompareMatch_cases s h 0
    · exact ⟨s, hexec, mtip_of_due hdue, fun _ _ => rfl, rfl⟩
    · obtain ⟨hharts, hregs, -⟩ := (OnlyHart.refl h.toNat s).modHart (fun x => { x with wait := .run })
      refine ⟨_, hexec, mtip_of_due ?_, hharts, hregs⟩
      rwa [State.mtime, State.modHart, getF_setHart, getF_setHart]
  case wakes =>
    intro h l s hdue hen hwait
    exact Gives.imp (gives_modHart (exec_mtimeCompareMatch_of_due hdue hen hwait)) (fun t ⟨hhart, hother, hregs, _⟩ => ⟨hhart, hother, hregs⟩)
  case file => exact fun w h file m id on s hholds hreach hmay => exec_imsicSeteipnumWrite_of_may hholds hreach hmay id

end Sys2Proof.Proofs
end

section
/-! SUPPORT. Pins, the APLIC's sources and the calendar (R48, R402, R454, R497): what becomes of one pin or one source, beside all the others. -/
namespace Sys2Proof.Proofs

open Sys2Proof.Machine Sys2Proof.Laws

/-! ### A source that becomes pending -/

/-- A source in a mode is pending once it is raised. -/
theorem aplicSrc_raiseSrc_same {s : State} {i : Nat} (hsm : (s.aplicSrc i).sm ≠ 0) : (s.raiseSrc i).aplicSrc i = { s.aplicSrc i with pend := true } := by
  rw [State.raiseSrc, if_neg hsm, aplicSrc_setAplic_same]

/-- Raising a source leaves every other source, the registers and the harts. -/
theorem raiseSrc_frame (s : State) (i : Nat) :
    (∀ n, n ≠ i → (s.raiseSrc i).aplicSrc n = s.aplicSrc n) ∧ (s.raiseSrc i).regs = s.regs ∧ (s.raiseSrc i).harts = s.harts := by
  unfold State.raiseSrc
  split
  · exact ⟨fun _ _ => rfl, rfl, rfl⟩
  · exact ⟨fun n hn => aplicSrc_setAplic_other _ _ _ _ hn, setAplic_regs .., setAplic_harts ..⟩

/-- A source that is not enabled sends no MSI when it is raised. -/
theorem raised_not_sent {s : State} {i : Nat} (hsm : (s.aplicSrc i).sm ≠ 0) (hen : (s.aplicSrc i).en = false) (on : Bool) :
    (((s.raiseSrc i).aplicSrc i).en && on) = false := by
  rw [aplicSrc_raiseSrc_same hsm]
  exact (congrArg (· && on) hen).trans (Bool.false_and on)

/-- APLIC_SOURCE_EVENT of a source that is not enabled: pending, and nothing more. -/
theorem exec_aplicSourceEvent_of_disabled {s : State} {src : Fin 64} (hpos : src.val ≠ 0) (hlt : src.val < 42) (hsm : (s.aplicSrc src.val).sm ≠ 0)
    (hwid : src.val ≤ 32 → s.srcWid src.val ≠ 0) (hen : (s.aplicSrc src.val).en = false) :
    exec (.aplicSourceEvent src) s = .next (s.raiseSrc src.val) := by
  have hgo : ¬(src.val = 0 ∨ 42 ≤ src.val ∨ (s.aplicSrc src.val).sm = 0 ∨ (src.val ≤ 32 ∧ s.srcWid src.val = 0)) := by
    rintro (h | h | h | ⟨hle, h⟩)
    · exact hpos h
    · exact absurd hlt (Nat.not_lt.mpr h)
    · exact hsm h
    · exact hwid hle h
  show execAplicSourceEvent src s = _
  simp only [execAplicSourceEvent, if_neg hgo, raised_not_sent hsm hen, Bool.false_eq_true, if_false]

/-! ### Pins -/

/-- A change of an input pin that belongs to a world drives the pin's source (R48). -/
theorem exec_gpioInputChange_of_input {s : State} {pin : Fin 32} (hin : (s.pins.get {} pin.val).isOut = false) (hwid : s.srcWid (pin.val + 1) ≠ 0) (level : Bool) :
    exec (.gpioInputChange pin level) s =
      .next (State.setAplic { s with pins := s.pins.set {} pin.val { s.pins.get {} pin.val with level := level } } (pin.val + 1)
        ((s.aplicSrc (pin.val + 1)).input (s.pins.get {} pin.val).level level)) := by
  have hgo : ¬((s.pins.get {} pin.val).isOut = true ∨ s.srcWid (pin.val + 1) = 0) := by
    rintro (h | h)
    · rw [hin] at h
      cases h
    · exact hwid h
  exact if_neg hgo

/-- A pin whose held change is applied, 1 µs after its last one (R402). -/
def heldApplied (p : Pin) (v : Bool) : Pin := { p with out := v, held := none, recent := p.out != v }

/-- A held change of an output is applied. -/
theorem exec_gpioHeldChange_of_held {s : State} {pin : Fin 32} {v : Bool} (hheld : (s.pins.get {} pin.val).held = some v) :
    exec (.gpioHeldChange pin) s = .next { s with pins := s.pins.set {} pin.val (heldApplied (s.pins.get {} pin.val) v) } := by
  show execGpioHeldChange pin s = _
  simp only [execGpioHeldChange, hheld]
  rfl

/-! ### The calendar -/

/-- Outside M0, an alarm whose source is not enabled leaves it pending. -/
theorem raiseSrc_of_calendarAlarm {s : State} {a : Fin 4} (hmode : s.mode ≠ 0) (hsm : (s.aplicSrc (33 + a.val)).sm ≠ 0)
    (hen : (s.aplicSrc (33 + a.val)).en = false) : exec (.calendarAlarm a) s = .next (s.raiseSrc (33 + a.val)) := by
  show execCalendarAlarm a s = _
  simp only [execCalendarAlarm, Src.calendar, if_neg hmode, if_neg hsm, raised_not_sent hsm hen, Bool.false_eq_true, if_false]

/-- In M0, an alarm whose wake bit is set asserts ALERT_N (R454; log entry 100). -/
theorem alert_of_calendarAlarm {s : State} {a : Fin 4} (hmode : s.mode = 0) (hwake : (s.regWord .pwrWakeEn 0 0).getLsbD (33 + a.val) = true) :
    exec (.calendarAlarm a) s = .next { s with pw := { s.pw with alarm := true } } := by
  show execCalendarAlarm a s = _
  simp only [execCalendarAlarm, Src.calendar, hmode, hwake, if_true]

/-- WID 0 and WID 2 may set the calendar (R497). -/
theorem exec_calendarSet_of_may {s : State} {w : Issuer} (hwid : s.issuerWid w = 0 ∨ s.issuerWid w = 2) (v : Word) :
    exec (.calendarSet w v) s = .next (((((State.setF { s with annals := { s.annals with calendar := v.toNat } } F.anlStatus_timeUnset 0 0 0).setRegWord .anlCalendar 0 0 v).record
      Ev.calendarSet { srcSvc with wid := s.issuerWid w } (w64 s.annals.calendar) v).accept w svcStop)) := by
  have hmay : (s.issuerWid w == 0 || s.issuerWid w == 2) = true := by simpa using hwid
  show execCalendarSet w v s = _
  simp only [execCalendarSet, hmay, guarded_of_may]

/-- Settles O11: each command as a change of one pin, one source, the wake signal or the calendar. -/
theorem pinsAndSources : Obligations.PinsAndSources := by
  refine ⟨?input, ?held, ?source, ?alarm, ?wake, ?set⟩
  case input =>
    intro pin level s hin hwid
    refine ⟨_, exec_gpioInputChange_of_input hin hwid level, ?_, aplicSrc_setAplic_same .., fun n hn => aplicSrc_setAplic_other _ _ _ _ hn, setAplic_regs ..,
      setAplic_harts ..⟩
    rw [setAplic_pins, get_set_same]
  case held =>
    intro pin s v hheld
    have hpin : (s.pins.set {} pin.val (heldApplied (s.pins.get {} pin.val) v)).get {} pin.val = heldApplied (s.pins.get {} pin.val) v := get_set_same ..
    exact ⟨_, exec_gpioHeldChange_of_held hheld, congrArg Pin.out hpin, congrArg Pin.held hpin, rfl⟩
  case source =>
    intro src s hpos hlt hsm hwid hen
    refine ⟨_, exec_aplicSourceEvent_of_disabled hpos hlt hsm hwid hen, ?_, raiseSrc_frame s src.val⟩
    rw [aplicSrc_raiseSrc_same hsm]
  case alarm =>
    intro a s hmode hsm hen
    obtain ⟨-, hregs, -⟩ := raiseSrc_frame s (33 + a.val)
    refine ⟨_, raiseSrc_of_calendarAlarm hmode hsm hen, ?_, hregs⟩
    rw [aplicSrc_raiseSrc_same hsm]
  case wake => exact fun a s hmode hwake => ⟨_, alert_of_calendarAlarm hmode hwake, rfl, rfl, rfl⟩
  case set => exact fun w v s hwid => exec_calendarSet_of_may hwid v

end Sys2Proof.Proofs
end

section
/-! SUPPORT. The move of a hart and the exit from Reduced service (R44, R104): a sequence whose command is given again until nothing that it waits for is left (log entries 54 and
148). -/
namespace Sys2Proof.Proofs

open Sys2Proof.Machine

/-! ### The move of a hart -/

/-- A hart that is held is not moved (log entry 1). -/
theorem remap_of_held {s : State} {h : Nat} (hst : s.getF F.coreHartMap_state 0 h = 0) (new : Nat) : s.remap h new = s := by
  simp only [State.remap, hst, true_or, if_true]

/-- A move that has begun and that nothing forbids goes on with the quiesce of its core, and then with what directories list for a dead core. -/
theorem remap_of_moving {s : State} {h new : Nat} (hst : s.getF F.coreHartMap_state 0 h = 2)
    (hother : (List.range 256).any (fun g => g != h && s.getF F.coreHartMap_state 0 g == 2) = false) (hlend : s.isF F.wldSeat_lending 0 h = false)
    (hnew : s.usableReserve new = true) {r b : Bool × State} (hr : s.quiesce h = r) (hb : (if r.1 then r.2.bury (s.physCore h) else r) = b) :
    s.remap h new = if b.1 then b.2.moveHart h new else b.2 := by
  subst hr hb
  have hgo : ¬(s.getF F.coreHartMap_state 0 h = 0 ∨ (List.range 256).any (fun g => g != h && s.getF F.coreHartMap_state 0 g == 2) = true ∨
      s.isF F.wldSeat_lending 0 h = true ∨ ¬s.usableReserve new = true) := by
    simp only [hst, hother, hlend, hnew]
    decide
  have hbegun : s.getF F.coreHartMap_state 0 h ≠ 1 := by rw [hst]; decide
  refine (if_neg hgo).trans ((if_neg fun hc => hbegun hc.1).trans ?_)
  simp only [if_neg hbegun]

/-! ### The exit from Reduced service -/

/-- The state in which the exit brings its harts to rest: every slice powered and the harts paused (R104). -/
def exitPaused (s : State) : State := ((List.range 136).foldl (fun (s : State) (t : Nat) => s.setDomain (272 + t) 2) s).pauseHarts

/-- Bring every released hart to rest; the boolean says that nothing is left. -/
def quiesceAll (s : State) : Bool × State :=
  s.released.foldl (fun (a : Bool × State) (h : Nat) => let q := a.2.quiesce h; (a.1 && q.1, q.2)) (true, s)

/-- Whether no slice has anything under way. -/
def slicesIdle (s : State) : Bool := s.slices.all (fun e => e.2.hq.isEmpty && e.2.txs.isEmpty && e.2.mem.isEmpty)

/-- Without a mode to leave for, nothing happens (log entry 1). -/
theorem exec_reducedServiceExit_of_no_goal {s : State} (hgoal : s.reducedGoal = none) : exec .reducedServiceExit s = .next s := by
  show execReducedServiceExit s = _
  simp only [execReducedServiceExit, hgoal]

/-- The exit step by step: the caches, then the staging shelf, then the switch (R104). -/
theorem exec_reducedServiceExit_of_goal {s u : State} {cfg : BootCfg} {m : Nat} {b : Bool} (hgoal : s.reducedGoal = some (cfg, m))
    (hquiesce : quiesceAll (exitPaused s) = (b, u)) :
    exec .reducedServiceExit s =
      .next (if b then (if slicesIdle u.unstage then u.unstage.leaveReduced cfg m else u.unstage) else u) := by
  show execReducedServiceExit s = _
  simp only [quiesceAll, exitPaused] at hquiesce
  simp only [execReducedServiceExit, hgoal, hquiesce, slicesIdle]
  cases b with
  | false => rfl
  | true => exact (apply_ite Host.Outcome.next _ _ _).symm

/-- Settles O13: a move that has begun and an exit that may be made, at each point that their sequences can stand at. -/
theorem remapAndExit : Obligations.RemapAndExit := by
  refine ⟨?move, ?held, ?noGoal, ?exit⟩
  case move =>
    intro h c s u hst hother hlend hnew
    refine ⟨fun hq => ?_, fun v hq hbury => ?_⟩
    · exact congrArg Host.Outcome.next (remap_of_moving hst hother hlend hnew hq rfl)
    · exact congrArg Host.Outcome.next (remap_of_moving hst hother hlend hnew hq hbury)
  case held => exact fun h c s hst => congrArg Host.Outcome.next (remap_of_held hst c.val)
  case noGoal => exact fun s hgoal => exec_reducedServiceExit_of_no_goal hgoal
  case exit =>
    intro s s1 u cfg m b hgoal hs1 hquiesce
    subst hs1
    have hexec := exec_reducedServiceExit_of_goal hgoal hquiesce
    refine ⟨fun hb => ?_, fun hb hidle => ?_, fun hb hidle => ?_⟩
    · rw [hexec, hb]; rfl
    · rw [hexec, hb, if_pos rfl, slicesIdle, hidle]; rfl
    · rw [hexec, hb, if_pos rfl, slicesIdle, hidle]; rfl

end Sys2Proof.Proofs
end

section
/-! SUPPORT. The release of a hart (R39, R394): a fresh hart is put in its place, and what follows writes the registers of its core's domain alone. -/
namespace Sys2Proof.Proofs

open Sys2Proof.Machine Sys2Proof.Laws

/-- A hart as it is released: in machine mode at an address, with a0 and a1. -/
def freshHart (h : Nat) (entry a1 : Word) : Hart := (({ ({} : Hart) with pc := entry } : Hart).setX 10 (w64 h)).setX 11 a1

/-- The integer registers of a hart as it is released. -/
theorem xreg_freshHart (h : Nat) (entry a1 : Word) : (freshHart h entry a1).xreg 10 = w64 h ∧ (freshHart h entry a1).xreg 11 = a1 ∧
    ∀ r, r % 32 ≠ 10 → r % 32 ≠ 11 → (freshHart h entry a1).xreg r = 0 := by
  refine ⟨?a0, xreg_setX_same _ (by decide) _, fun r h10 h11 => ?other⟩
  case a0 => exact (xreg_setX_other _ (by decide) _).trans (xreg_setX_same _ (by decide) _)
  case other =>
    have hzero : Hart.xreg { ({} : Hart) with pc := entry } r = 0 := ite_self _
    exact (xreg_setX_other _ h11 _).trans ((xreg_setX_other _ h10 _).trans hzero)

/-- Bringing a core's domain up to date writes registers of the power domains alone. -/
theorem syncCore_frame (s : State) (c : Nat) :
    (s.syncCore c).harts = s.harts ∧ ∀ f u i, f.reg ≠ .pwrDomStatus → (s.syncCore c).getF f u i = s.getF f u i := by
  refine ⟨(setF_harts ..).trans (setF_harts ..), fun f u i hf => ?_⟩
  exact (getF_setF_name _ F.pwrDomStatus_owner f _ _ _ _ _ hf).trans (getF_setF_name _ F.pwrDomStatus_nEff f _ _ _ _ _ hf)

@[simp] theorem getF_modCore (s : State) (c : Nat) (k : Core → Core) (f : Fld) (u i : Nat) : (s.modCore c k).getF f u i = s.getF f u i := by
  unfold State.getF State.modCore
  rw [regWord_setCore]

/-- A hart whose core is in service is put in its place; its core's domain is powered, and the core starts afresh. -/
theorem releaseHart_eq {s : State} {h : Nat} (hin : s.isF F.mlgCoreStatus_retired (s.physCore h) 0 = false) (entry a1 : Word) :
    ∃ k, s.releaseHart h entry a1 =
      ((((s.setHart h (freshHart h entry a1)).setF F.coreHartMap_state 0 h 1).setDomain (s.physCore h) 2).modCore (s.physCore h) k).syncCore (s.physCore h) :=
  ⟨_, if_neg (by rw [hin]; exact Bool.false_ne_true)⟩

/-- Among the harts, a release changes its own alone. -/
theorem harts_releaseHart {s : State} {h : Nat} (hin : s.isF F.mlgCoreStatus_retired (s.physCore h) 0 = false) (entry a1 : Word) (n : Nat) :
    (s.releaseHart h entry a1).hart n = (s.setHart h (freshHart h entry a1)).hart n := by
  obtain ⟨k, heq⟩ := releaseHart_eq hin entry a1
  unfold State.hart
  rw [heq, (syncCore_frame _ _).1, modCore_harts, State.setDomain, setF_harts, setF_harts]

/-- A released hart is in the state that runs. -/
theorem state_releaseHart {s : State} {h : Nat} (hin : s.isF F.mlgCoreStatus_retired (s.physCore h) 0 = false) (entry a1 : Word) :
    (s.releaseHart h entry a1).getF F.coreHartMap_state 0 h = 1 := by
  obtain ⟨k, heq⟩ := releaseHart_eq hin entry a1
  rw [heq, (syncCore_frame _ _).2 _ _ _ (by decide), getF_modCore, State.setDomain, getF_setF_name _ _ _ _ _ _ _ _ (by decide), getF_setF_same _ _ _ _ _ (by decide)]
  rfl

/-! ### The table of R39 -/

/-- The CSRs that hold something other than 0 at release. -/
def csrsNotZero : List Nat := [0xF11, 0xF12, 0xF13, 0xF14, 0x301, 0x300, 0x600, 0xC21, 0xC22, 0x14D, 0x24D]

/-- Every other CSR holds 0 at release. -/
theorem csrReset_eq_zero {n : Nat} (hn : n ∉ csrsNotZero) (h : Nat) : csrReset h n = 0 := by
  unfold csrReset
  split
  case h_12 => rfl
  all_goals exact absurd (by decide) hn

/-- Settles O56: the hart released is the fresh one; what it reads as comes from an empty table of CSRs and of registers. -/
theorem hartRelease : Obligations.HartRelease := by
  refine ⟨?release, fun h => ⟨rfl, rfl, rfl, rfl⟩, fun h n hn => csrReset_eq_zero ?zero h⟩
  case zero =>
    revert n
    decide
  case release =>
    intro s h entry a1 hin
    have hhart : (s.releaseHart h entry a1).hart h = freshHart h entry a1 := (harts_releaseHart hin entry a1 h).trans (hart_setHart_same ..)
    have hword (n : Nat) : (s.releaseHart h entry a1).csrWord h n = csrReset h n := by rw [State.csrWord, hhart]; rfl
    obtain ⟨ha0, ha1, hzero⟩ := xreg_freshHart h entry a1
    refine ⟨_, rfl, ?_⟩
    rw [hhart]
    exact ⟨rfl, rfl, rfl, ha0, ha1, hzero, fun n hn => (csr_of_ne_mip _ _ _ hn).trans (hword n), hword 0x344, rfl, rfl, rfl, rfl, state_releaseHart hin entry a1,
      fun n hn => (harts_releaseHart hin entry a1 n).trans (hart_setHart_other _ _ _ _ hn)⟩

end Sys2Proof.Proofs
end

section
/-! SUPPORT. Store commit and the fences of a hart (R60, R68, R73, R134): a squash cancels requests and changes its own hart alone. -/
namespace Sys2Proof.Proofs

open Sys2Proof.Machine Sys2Proof.Laws

/-! ### What a squash leaves -/

/-- Harts, cores, registers and memory are the same: at most requests and messages differ. -/
structure SameBeyondRequests (s t : State) : Prop where
  harts : t.harts = s.harts
  cores : t.cores = s.cores
  regs : t.regs = s.regs
  mem : t.mem = s.mem

namespace SameBeyondRequests

theorem refl (s : State) : SameBeyondRequests s s := ⟨rfl, rfl, rfl, rfl⟩

theorem setReq {s t : State} (st : SameBeyondRequests s t) (stop tag : Nat) (q : Option Req) : SameBeyondRequests s (t.setReq stop tag q) :=
  ⟨(setReq_harts ..).trans st.harts, (setReq_cores ..).trans st.cores, (setReq_regs ..).trans st.regs, (setReq_mem ..).trans st.mem⟩

theorem send {s t : State} (st : SameBeyondRequests s t) (p : Packet) : SameBeyondRequests s (t.send p) :=
  ⟨(send_harts ..).trans st.harts, (send_cores ..).trans st.cores, (send_regs ..).trans st.regs, (send_mem ..).trans st.mem⟩

/-- What changes a hart after it changes that hart alone. -/
theorem onlyHart_modHart {s t : State} (st : SameBeyondRequests s t) (h : Nat) (f : Hart → Hart) : OnlyHart h s (t.modHart h f) := by
  have hhart (n : Nat) : t.hart n = s.hart n := by rw [State.hart, State.hart, st.harts]
  exact OnlyHart.modHart ⟨fun n _ => hhart n, st.regs, st.mem⟩ f

end SameBeyondRequests

/-- A squash cancels speculative requests, and then drops from its hart what the predicate picks (R67, R122). -/
theorem squash_eq_modHart (s : State) (h : Nat) (pick : Infl → Bool) : ∃ u f, SameBeyondRequests s u ∧ s.squash h pick = u.modHart h f := by
  unfold State.squash
  refine ⟨_, _, ?same, rfl⟩
  case same =>
    refine List.foldlRecOn _ _ (.refl s) fun t ht tag _ => ?_
    split
    case h_1 r _ =>
      split
      case isTrue => exact (ht.setReq ..).send _
      case isFalse => exact ht
    case h_2 => exact ht

/-- A squash leaves every core, and beside its hart every hart, register and byte of memory. -/
theorem squash_frame (s : State) (h : Nat) (pick : Infl → Bool) : OnlyHart h s (s.squash h pick) ∧ ∀ c, (s.squash h pick).core c = s.core c := by
  obtain ⟨u, f, hu, heq⟩ := squash_eq_modHart s h pick
  rw [heq]
  exact ⟨hu.onlyHart_modHart h f, fun c => by rw [State.core, State.core, modHart_cores, hu.cores]⟩

theorem OnlyHart.modCore {h : Nat} {s t : State} (st : OnlyHart h s t) (c : Nat) (f : Core → Core) : OnlyHart h s (t.modCore c f) :=
  st.trans ⟨fun n _ => by rw [State.hart, State.hart, modCore_harts], modCore_regs .., modCore_mem ..⟩

theorem core_modHart (s : State) (h c : Nat) (f : Hart → Hart) : (s.modHart h f).core c = s.core c := by rw [State.core, State.core, modHart_cores]

/-! ### The commands -/

/-- The oldest retired store, to a line of the L1D that may be written, is written and leaves the store queue (R60, R124). -/
theorem exec_storeCommitL1d_of_writable {s : State} {h : BitVec 8} {e : StoreEnt} {l : List StoreEnt} (hsq : (s.hart h.toNat).sq = e :: l)
    (htype : e.etype = .wb ∨ e.etype = .wa) (htag : e.tag = none) (hline : (s.cline (s.physCore h.toNat) e.sec).st.writable = true) :
    exec (.storeCommitL1d h) s =
      .next (((s.writeLine (s.physCore h.toNat) e.sec e.data e.mask).storeGone h.toNat e.sec).hartPump h.toNat) := by
  have hnear : (e.etype == .wb || e.etype == .wa) = true := by simpa using htype
  show execStoreCommitL1d h s = _
  simp only [execStoreCommitL1d, hsq, hnear, htag, hline, Option.isNone_none, Bool.and_self, if_true]

/-- FENCE of a hart that runs is put in flight (R134). -/
theorem exec_fence_of_runs {s : State} {h : BitVec 8} (hruns : s.runs h.toNat = true) (id : Nat) :
    exec (.fence h id) s = .next ((s.launch h.toNat (plainInfl id .fence (s.hart h.toNat).pc .none 0 0)).hartPump h.toNat) := if_pos hruns

/-- A core whose L1I is empty. -/
def withoutL1i (k : Core) : Core := { k with l1i := [] }

/-- A hart whose shadow buffer holds no fetched block. -/
def withoutFetchedBlocks (x : Hart) : Hart := { x with shadowD := x.shadowD.filter (fun e => !e.code) }

/-- FENCE.I as the oldest instruction (R73). -/
theorem exec_fenceI_of_alone {s : State} {h : BitVec 8} (halone : s.alone h.toNat = true) :
    exec (.fenceI h) s =
      .next (((s.squash h.toNat (fun _ => true)).modCore (s.physCore h.toNat) withoutL1i).modHart h.toNat withoutFetchedBlocks) := if_pos halone

theorem code_of_mem_withoutFetchedBlocks {x : Hart} {e : ShadowData} (he : e ∈ (withoutFetchedBlocks x).shadowD) : e.code = false := by
  have hcode : (!e.code) = true := (List.mem_filter.mp he).2
  simpa using hcode

/-- A hart without any translation. -/
def withoutTranslations (x : Hart) : Hart := { x with tlb := [], shadowT := [] }

/-- SFENCE.VMA in M mode as the oldest instruction (R68). -/
theorem exec_sfenceVma_of_alone {s : State} {h : BitVec 8} (halone : s.alone h.toNat = true) (hpriv : (s.hart h.toNat).priv = .m)
    (hvirt : (s.hart h.toNat).virt = false) (hyp : Bool) (enc : BitVec 32) :
    exec (.sfenceVma h hyp enc) s = .next (s.modHart h.toNat withoutTranslations) := by
  exact (if_neg (by simp [halone])).trans ((if_neg (by simp [hvirt])).trans (if_neg (by simp [hpriv])))

/-- Settles O3: the store and the fences by what each is for the oldest instruction; FENCE.I by the frame of a squash. -/
theorem hartFences : Obligations.HartFences := by
  refine ⟨?commit, ?fence, ?fenceI, ?sfence⟩
  case commit => exact fun h s e l hsq htype htag hline => exec_storeCommitL1d_of_writable hsq htype htag hline
  case fence => exact fun h id s hruns => exec_fence_of_runs hruns id
  case fenceI =>
    intro h s halone
    obtain ⟨hsquash, hcores⟩ := squash_frame s h.toNat (fun _ => true)
    obtain ⟨hharts, hregs, hmem⟩ := (hsquash.modCore (s.physCore h.toNat) withoutL1i).modHart withoutFetchedBlocks
    refine ⟨_, exec_fenceI_of_alone halone, ?l1i, ?shadow, fun c hc => ?core, hharts, hregs, hmem⟩
    case l1i => rw [core_modHart, core_modCore_same]; rfl
    case shadow => rw [hart_modHart_same]; exact fun e he => code_of_mem_withoutFetchedBlocks he
    case core => rw [core_modHart, core_modCore_other _ _ _ _ hc, hcores]
  case sfence => exact fun h hyp enc s halone hpriv hvirt => gives_modHart (exec_sfenceVma_of_alone halone hpriv hvirt hyp enc)

end Sys2Proof.Proofs
end

section
/-! SUPPORT. CSR writes and trap returns (R31, R64, R512; the privileged architecture, log entry 21): the effect of a write that nothing traps, and the status that MRET and SRET
restore. -/
namespace Sys2Proof.Proofs

open Sys2Proof.Machine Sys2Proof.Laws

/-! ### CSR writes -/

/-- A permitted CSR write outside virtualisation has the register's effect, and the hart goes on. -/
theorem csrWrite_of_permitted {s s1 : State} {h n : Nat} {v : Word} (halone : s.alone h = true) (htrap : s.csrTrap h n = none)
    (hvirt : (s.hart h).virt = false) (heffect : s.csrEffect h n v = some s1) (enc : Nat) : s.csrWrite h n v enc = s1.hartPump h := by
  simp only [State.csrWrite, halone, htrap, hvirt, heffect, Bool.not_true, Bool.false_eq_true, if_false]

/-! ### The end of a return -/

/-- A return ends by the flush of the predictors where the mode or V changes (R64). -/
def endReturn (s : State) (h : Nat) (changes : Bool) : State := if changes then s.predFlush h else s

theorem hart_endReturn (s : State) (h : Nat) (changes : Bool) (n : Nat) : (endReturn s h changes).hart n = s.hart n := by
  cases changes <;> simp [endReturn]

theorem OnlyHart.endReturn {h : Nat} {s t : State} (st : OnlyHart h s t) (changes : Bool) : OnlyHart h s (endReturn t h changes) := by
  cases changes with
  | false => exact st
  | true => exact st.predFlush

/-- A hart that a return has sent back. -/
def returned (p : Priv) (v : Bool) (pc : Word) (x : Hart) : Hart := { x with priv := p, virt := v, pc := pc, wait := .run }

/-- What a return gives, once its CSRs are written: the pc and the mode, the CSRs as written, and the frame of its hart. -/
theorem gives_endReturn {c : Instr} {s u : State} {h : Nat} {p : Priv} {v changes : Bool} {pc : Word} (hu : OnlyHart h s u)
    (hexec : exec c s = .next (endReturn (u.modHart h (returned p v pc)) h changes)) :
    Gives c s (fun t => (t.hart h).pc = pc ∧ (t.hart h).priv = p ∧ (∀ n, n ≠ 0x344 → t.csr h n = u.csr h n) ∧
      (∀ n, n ≠ h → t.hart n = s.hart n) ∧ t.regs = s.regs ∧ t.mem = s.mem) := by
  have hhart : (endReturn (u.modHart h (returned p v pc)) h changes).hart h = returned p v pc (u.hart h) := by
    rw [hart_endReturn, hart_modHart_same]
  obtain ⟨hharts, hregs, hmem⟩ := (hu.modHart (returned p v pc)).endReturn changes
  refine ⟨_, hexec, ?pc, ?priv, fun n hn => csr_congr ?csr hn, hharts, hregs, hmem⟩
  all_goals rw [hhart]; rfl

/-! ### MRET and SRET -/

/-- mstatus after MRET but for MPRV: MIE from MPIE, MPIE 1, MPP U and MPV 0. -/
def statusBack (st : Word) : Word := putBits (putBits (putBits (putBits st 3 1 (bitsOf st 7 1)) 7 1 1) 11 2 0) 39 1 0

/-- mstatus after MRET: MPRV is cleared on a return below M mode. -/
def statusAfterMret (st : Word) : Word := if Priv.ofCode (bitsOf st 11 2) = .m then statusBack st else putBits (statusBack st) 17 1 0

/-- mstatus after SRET outside virtualisation: SIE from SPIE, SPIE 1, SPP U; MPRV is cleared. -/
def statusAfterSret (st : Word) : Word := putBits (putBits (putBits (putBits st 1 1 (bitsOf st 5 1)) 5 1 1) 8 1 0) 17 1 0

/-- A field below the one replaced is kept. -/
theorem bitsOf_putBits_below {w : Word} {l n v a b : Nat} (h : a + b ≤ l) : bitsOf (putBits w l n v) a b = bitsOf w a b :=
  bitsOf_putBits_other w l n v a b (.inr h)

/-- A field replaced by another field of its width reads as that one. -/
theorem bitsOf_putBits_bitsOf {w v : Word} {l n a : Nat} (h : l + n ≤ 64) : bitsOf (putBits w l n (bitsOf v a n)) l n = bitsOf v a n :=
  (bitsOf_putBits_same w l n _ h).trans (bitsOf_mod v a n)

theorem bitsOf_putBits_one {w : Word} {l : Nat} (h : l + 1 ≤ 64) : bitsOf (putBits w l 1 1) l 1 = 1 :=
  (bitsOf_putBits_same w l 1 1 h).trans (Nat.mod_eq_of_lt (by decide))

theorem bitsOf_putBits_zero {w : Word} {l n : Nat} (h : l + n ≤ 64) : bitsOf (putBits w l n 0) l n = 0 :=
  (bitsOf_putBits_same w l n 0 h).trans (Nat.zero_mod _)

/-- What lies below MPRV is the same after every MRET. -/
theorem bitsOf_statusAfterMret_below (st : Word) {a b : Nat} (h : a + b ≤ 17) : bitsOf (statusAfterMret st) a b = bitsOf (statusBack st) a b := by
  unfold statusAfterMret
  split
  case isTrue => rfl
  case isFalse => exact bitsOf_putBits_below h

/-- MRET gives MIE what MPIE held, and leaves MPIE 1 and MPP U. -/
theorem bitsOf_statusAfterMret (st : Word) :
    bitsOf (statusAfterMret st) 3 1 = bitsOf st 7 1 ∧ bitsOf (statusAfterMret st) 7 1 = 1 ∧ bitsOf (statusAfterMret st) 11 2 = 0 := by
  rw [bitsOf_statusAfterMret_below st (by decide), bitsOf_statusAfterMret_below st (by decide), bitsOf_statusAfterMret_below st (by decide), statusBack]
  refine ⟨?mie, ?mpie, ?mpp⟩
  case mie => rw [bitsOf_putBits_below (by decide), bitsOf_putBits_below (by decide), bitsOf_putBits_below (by decide), bitsOf_putBits_bitsOf (by decide)]
  case mpie => rw [bitsOf_putBits_below (by decide), bitsOf_putBits_below (by decide), bitsOf_putBits_one (by decide)]
  case mpp => rw [bitsOf_putBits_below (by decide), bitsOf_putBits_zero (by decide)]

/-- SRET gives SIE what SPIE held, and leaves SPIE 1 and SPP U. -/
theorem bitsOf_statusAfterSret (st : Word) :
    bitsOf (statusAfterSret st) 1 1 = bitsOf st 5 1 ∧ bitsOf (statusAfterSret st) 5 1 = 1 ∧ bitsOf (statusAfterSret st) 8 1 = 0 := by
  rw [statusAfterSret]
  refine ⟨?sie, ?spie, ?spp⟩
  case sie => rw [bitsOf_putBits_below (by decide), bitsOf_putBits_below (by decide), bitsOf_putBits_below (by decide), bitsOf_putBits_bitsOf (by decide)]
  case spie => rw [bitsOf_putBits_below (by decide), bitsOf_putBits_below (by decide), bitsOf_putBits_one (by decide)]
  case spp => rw [bitsOf_putBits_below (by decide), bitsOf_putBits_zero (by decide)]

/-- MRET in M mode, as the oldest instruction. -/
theorem exec_mret_of_alone {s : State} {h : BitVec 8} (halone : s.alone h.toNat = true) (hpriv : (s.hart h.toNat).priv = .m) :
    ∃ v changes, exec (.trapReturn h true) s =
      .next (endReturn ((s.setCsr h.toNat 0x300 (statusAfterMret (s.csr h.toNat 0x300))).modHart h.toNat
        (returned (Priv.ofCode (bitsOf (s.csr h.toNat 0x300) 11 2)) v (s.csr h.toNat 0x341))) h.toNat changes) := by
  exact ⟨_, _, (if_neg (by simp [halone])).trans ((if_pos rfl).trans ((if_neg (by simp [hpriv])).trans (apply_ite Host.Outcome.next _ _ _).symm))⟩

/-- SRET in S mode outside virtualisation, as the oldest instruction, where TSR does not forbid it. -/
theorem exec_sret_of_alone {s : State} {h : BitVec 8} (halone : s.alone h.toNat = true) (hpriv : (s.hart h.toNat).priv = .s)
    (hvirt : (s.hart h.toNat).virt = false) (htsr : bitsOf (s.csr h.toNat 0x300) 22 1 = 0) :
    ∃ hs v changes, exec (.trapReturn h false) s =
      .next (endReturn (((s.setCsr h.toNat 0x300 (statusAfterSret (s.csr h.toNat 0x300))).setCsr h.toNat 0x600 hs).modHart h.toNat
        (returned (Priv.ofCode (bitsOf (s.csr h.toNat 0x300) 8 1)) v (s.csr h.toNat 0x141))) h.toNat changes) := by
  exact ⟨_, _, _, (if_neg (by simp [halone])).trans ((if_neg Bool.false_ne_true).trans ((if_neg (by simp [hvirt])).trans
    ((if_neg (by simp [hpriv, htsr])).trans ((if_neg (by simp [hvirt])).trans (apply_ite Host.Outcome.next _ _ _).symm))))⟩

/-- Settles O5: a write by the effect of its CSR; a return by the status that it leaves, in the frame of its hart. -/
theorem hartCsrsAndReturns : Obligations.HartCsrsAndReturns := by
  refine ⟨?write, ?event, ?mret, ?sret⟩
  case write =>
    exact fun h n v enc s s1 halone htrap hvirt heffect => congrArg Host.Outcome.next (csrWrite_of_permitted halone htrap hvirt heffect enc.toNat)
  case event =>
    exact fun h k v enc s s1 halone htrap hvirt heffect => congrArg Host.Outcome.next (csrWrite_of_permitted halone htrap hvirt heffect enc.toNat)
  case mret =>
    intro h s halone hpriv
    obtain ⟨v, changes, hexec⟩ := exec_mret_of_alone halone hpriv
    refine Gives.imp (gives_endReturn ((OnlyHart.refl _ s).setCsr _ _) hexec) fun t ⟨hpc, hmode, hcsr, hframe⟩ => ?_
    obtain ⟨hie, hpie, hpp⟩ := bitsOf_statusAfterMret (s.csr h.toNat 0x300)
    have hstatus : t.csr h.toNat 0x300 = statusAfterMret (s.csr h.toNat 0x300) :=
      (hcsr 0x300 (by decide)).trans (csr_setCsr_same _ _ _ _ (by decide))
    rw [hstatus]
    exact ⟨hpc, hmode, hie, hpie, hpp, hframe⟩
  case sret =>
    intro h s halone hpriv hvirt htsr
    obtain ⟨hs, v, changes, hexec⟩ := exec_sret_of_alone halone hpriv hvirt htsr
    refine Gives.imp (gives_endReturn (((OnlyHart.refl _ s).setCsr _ _).setCsr _ _) hexec) fun t ⟨hpc, hmode, hcsr, hframe⟩ => ?_
    obtain ⟨hie, hpie, hpp⟩ := bitsOf_statusAfterSret (s.csr h.toNat 0x300)
    have hstatus : t.csr h.toNat 0x300 = statusAfterSret (s.csr h.toNat 0x300) :=
      (hcsr 0x300 (by decide)).trans ((csr_setCsr_other _ _ _ _ _ _ (.inr (by decide)) (by decide)).trans (csr_setCsr_same _ _ _ _ (by decide)))
    rw [hstatus]
    exact ⟨hpc, hmode, hie, hpie, hpp, hframe⟩

end Sys2Proof.Proofs
end

section
/-! SUPPORT. Broadcast registers and shelves (R62, R89, R100, R101): what a broadcast write performs and whom it stalls, and the rounds of a shelf flush (log entries 104 and 148). -/
namespace Sys2Proof.Proofs

open Sys2Proof.Machine Sys2Proof.Laws

/-! ### Broadcast writes -/

/-- CORE_SPEC_CTRL of a core that can be reached, by a world that may write it (R62). -/
theorem exec_coreSpecCtrlWrite_of_may {s : State} {w : Issuer} {c : Fin 272} (hholds : s.holds = false) (hreach : s.reachable .core c.val = true)
    (hmay : s.coreCtrlMay w c.val = true) (v : Word) :
    exec (.coreSpecCtrlWrite w c v) s = .next ((s.specWrite c.val v).accept w (Place.core.stopOf c.val)) := by
  show execCoreSpecCtrlWrite w c v s = _
  simp only [execCoreSpecCtrlWrite, hholds, hmay, guardedAt_of_reachable hreach, guarded_of_may, Bool.false_eq_true, if_false]

/-- A stall changes its issuer's hart alone. -/
theorem stall_frame (s : State) (w : Issuer) (on : Bool) :
    (s.stall w on).regs = s.regs ∧ (s.stall w on).broadcasts = s.broadcasts ∧ (s.stall w on).flushIssuers = s.flushIssuers ∧ (s.stall w on).mem = s.mem := by
  unfold State.stall
  split
  · exact ⟨modHart_regs .., modHart_broadcasts .., modHart_flushIssuers .., modHart_mem ..⟩
  · exact ⟨rfl, rfl, rfl, rfl⟩

/-- A software write changes its register alone. -/
theorem writeReg_frame (s : State) (r : RegName) (u i : Nat) (data en : Word) :
    (s.writeReg r u i data en).broadcasts = s.broadcasts ∧ (s.writeReg r u i data en).flushIssuers = s.flushIssuers ∧ (s.writeReg r u i data en).mem = s.mem :=
  ⟨setRegWord_broadcasts .., setRegWord_flushIssuers .., setRegWord_mem ..⟩

/-- A register write that its copies have yet to acknowledge: its issuer is stalled, last among those that wait (R89). -/
def broadcastWrite (s : State) (w : Issuer) (r : RegName) (i : Nat) (v : Word) : State :=
  { (s.writeReg r 0 i v allBytes).stall w true with broadcasts := s.broadcasts ++ [w] }

theorem broadcastWrite_frame (s : State) (w : Issuer) (r : RegName) (i : Nat) (v : Word) :
    (broadcastWrite s w r i v).regs = (s.writeReg r 0 i v allBytes).regs ∧ (broadcastWrite s w r i v).flushIssuers = s.flushIssuers ∧
      (broadcastWrite s w r i v).mem = s.mem := by
  obtain ⟨-, hissuers, hmem⟩ := writeReg_frame s r 0 i v allBytes
  obtain ⟨hsregs, -, hsissuers, hsmem⟩ := stall_frame (s.writeReg r 0 i v allBytes) w true
  exact ⟨hsregs, hsissuers.trans hissuers, hsmem.trans hmem⟩

/-- CORE_MEMATTR and CORE_MEMATTR_LIM of WID 0 (R88, R89). -/
theorem exec_coreMemattrWrite_of_may {s : State} {w : Issuer} (hwid : s.issuerWid w = 0) (n : Fin 16) (lim : Bool) (v : Word) :
    exec (.coreMemattrWrite w n lim v) s = .next (broadcastWrite s w (if lim then .coreMemattrLim else .coreMemattr) n.val v) := by
  have hqueue : ((s.writeReg (if lim then .coreMemattrLim else .coreMemattr) 0 n.val v allBytes).stall w true).broadcasts = s.broadcasts :=
    (stall_frame ..).2.1.trans (writeReg_frame ..).1
  refine (if_pos hwid).trans ?_
  rw [hqueue]
  rfl

/-- The acknowledgements of the one write that waits. -/
theorem exec_broadcastComplete_of_one {s : State} {w : Issuer} (hone : s.broadcasts = [w]) :
    exec .broadcastComplete s = .next ((State.stall { s with broadcasts := [] } w false).accept w svcStop) := by
  show execBroadcastComplete s = _
  simp only [execBroadcastComplete, hone, List.foldl_cons, List.foldl_nil]

/-! ### Shelf writes -/

/-- A write of a shelf, of the classes or of the seals is a shelf write. -/
theorem exec_eq_shelfWrite {w : Issuer} {v : Word} {r : RegName} {i : Nat} {c : Instr}
    (hc : (∃ k : Fin 16, r = .llcShelf ∧ i = k.val ∧ c = .llcShelfWrite w k v) ∨ (∃ k : Fin 4, r = .llcWidClass ∧ i = k.val ∧ c = .llcWidClassWrite w k v) ∨
      (r = .llcShelfCtrl ∧ i = 0 ∧ c = .llcShelfCtrlWrite w v)) (s : State) : exec c s = s.shelfWrite w r i v := by
  obtain ⟨k, rfl, rfl, rfl⟩ | ⟨k, rfl, rfl, rfl⟩ | ⟨rfl, rfl, rfl⟩ := hc
  · rfl
  · rfl
  · rfl

/-- A shelf write that breaks a rule changes nothing but REJECT (R100). -/
theorem shelfWrite_of_broken_rule {s : State} {w : Issuer} {r : RegName} {i : Nat} {v : Word} (hwid : s.issuerWid w = 0)
    (hrule : (s.writeReg r 0 i v allBytes).shelfOk = false) :
    s.shelfWrite w r i v = .next ((s.setF F.llcShelfCtrl_reject 0 0 1).accept w svcStop) := by
  simp only [State.shelfWrite, hwid, hrule, ne_eq, not_true_eq_false, Bool.not_false, if_false, if_true]

/-- A shelf write that flushes no way is a broadcast (R89, R101). -/
theorem shelfWrite_of_no_flush {s : State} {w : Issuer} {r : RegName} {i : Nat} {v : Word} (hwid : s.issuerWid w = 0)
    (hrule : (s.writeReg r 0 i v allBytes).shelfOk = true) (hllc : flushMask s (s.writeReg r 0 i v allBytes) State.llcMask = 0)
    (hdir : flushMask s (s.writeReg r 0 i v allBytes) State.dirMask = 0) : s.shelfWrite w r i v = .next (broadcastWrite s w r i v) := by
  obtain ⟨hqueue, -, -⟩ := writeReg_frame s r 0 i v allBytes
  simp only [State.shelfWrite, hwid, hrule, hllc, hdir, hqueue, ne_eq, not_true_eq_false, Bool.not_true, Bool.false_eq_true, and_self, if_false, if_true]
  rfl

/-! ### The flush of a shelf -/

/-- No way is flushed, and no issuer waits for a flush. -/
def withoutFlush (s : State) : State := { s with flushWays := 0, flushDirWays := 0, flushIssuers := [] }

theorem isF_withoutFlush (s : State) (f : Fld) (u i : Nat) : (withoutFlush s).isF f u i = s.isF f u i := rfl

/-- The flush is over: FLUSHING is clear as well. -/
def flushEnded (s : State) : State := withoutFlush (s.setF F.llcShelfCtrl_flushing 0 0 0)

theorem flushing_flushEnded (s : State) : (flushEnded s).isF F.llcShelfCtrl_flushing 0 0 = false :=
  (isF_withoutFlush ..).trans (isF_setF_same s F.llcShelfCtrl_flushing 0 0 0 (by decide))

/-- The round after which nothing that the flush covers is left ends it, where no issuer waits (R101). -/
theorem exec_shelfFlushComplete_of_done {s : State} (hdone : (s.flushRound s.shelfDirs s.shelfLines).flushDone (fun _ => true) s.shelfDirs s.shelfLines = true)
    (hissuers : s.flushIssuers = []) : exec .shelfFlushComplete s = .next (flushEnded (s.flushRound s.shelfDirs s.shelfLines)) := by
  refine (if_pos hdone).trans ?_
  rw [hissuers]
  rfl

/-- Until then the flush goes on by the same command (log entries 104 and 148). -/
theorem exec_shelfFlushComplete_of_not_done {s : State}
    (hdone : (s.flushRound s.shelfDirs s.shelfLines).flushDone (fun _ => true) s.shelfDirs s.shelfLines = false) :
    exec .shelfFlushComplete s = .next (s.flushRound s.shelfDirs s.shelfLines) := if_neg (by rw [hdone]; exact Bool.false_ne_true)

/-- Settles O12: each write by its guard and its rule, the flush by whether its round leaves anything. -/
theorem broadcastWrites : Obligations.BroadcastWrites := by
  refine ⟨?spec, ?memattr, ?complete, ?shelf, ?flush⟩
  case spec => exact fun w c v s hholds hreach hmay => exec_coreSpecCtrlWrite_of_may hholds hreach hmay v
  case memattr =>
    intro w n lim v s hwid
    obtain ⟨hregs, -, hmem⟩ := broadcastWrite_frame s w (if lim then .coreMemattrLim else .coreMemattr) n.val v
    exact ⟨_, exec_coreMemattrWrite_of_may hwid n lim v, hregs, rfl, hmem⟩
  case complete => exact fun w s hone => exec_broadcastComplete_of_one hone
  case shelf =>
    intro w v s r i c hwid hc
    rw [Gives, exec_eq_shelfWrite hc s]
    refine ⟨fun hrule => shelfWrite_of_broken_rule hwid hrule, fun hrule hllc hdir => ?_⟩
    obtain ⟨hregs, hissuers, -⟩ := broadcastWrite_frame s w r i v
    exact ⟨_, shelfWrite_of_no_flush hwid hrule hllc hdir, hregs, rfl, hissuers⟩
  case flush =>
    intro s s1 hs1
    subst hs1
    exact ⟨fun hdone hissuers => ⟨_, exec_shelfFlushComplete_of_done hdone hissuers, rfl, rfl, rfl, flushing_flushEnded _⟩,
      fun hdone => exec_shelfFlushComplete_of_not_done hdone⟩

end Sys2Proof.Proofs
end

section
/-! SUPPORT. Cache-block operations and Zicbop hints (R96, R105, R129): an operation that nothing stops is put in flight without an exception, and a hint that nothing drops brings
its translation to the TLB before it asks for its block. -/
namespace Sys2Proof.Proofs

open Sys2Proof.Machine

/-! ### Cache-block operations -/

/-- Rewriting a fault code to the store's own leaves a translation without a fault as it is (R105). -/
theorem xlate_mapFault_of_none {t : Xlate} (hfault : t.fault = none) (f : Nat → Nat) : { t with fault := t.fault.map f } = t := by
  cases t
  cases hfault
  rfl

/-- A cache-block operation that nothing stops is put in flight on the block of its address, without an exception. -/
theorem cboExec_of_runs {s u : State} {h : BitVec 8} {a : Access} {k : OpKind} {lsb width : Nat} {store : Bool} {t : Xlate}
    (hruns : CboRuns s h.toNat a k lsb width store u t) :
    s.cboExec h a k lsb width store = u.enter h.toNat { a with x0 := t, size := 1 } (cboInfl u a t k) := by
  obtain ⟨⟨hrun, hroom, hfetch, hpoison⟩, henabled, ht, hfault, htrigger, hexists, htype, hpmp⟩ := hruns
  have hxlate := xlate_mapFault_of_none hfault
  have hpoison' : u.fetchPoison h.toNat { a with x0 := t, size := 1 } = none := hpoison
  have htype' : (u.accType { a with x0 := t, size := 1 } == .io) = false := beq_eq_false_iff_ne.mpr htype
  simp only [State.cboExec, hrun, hroom, hfetch, ← ht, hxlate, Bool.not_true, Bool.or_self, Bool.false_eq_true, if_false]
  simp only [hpoison', henabled, htrigger, hfault, hexists, htype', hpmp, Option.none_or, Bool.not_true, Bool.or_self, Bool.true_or, Bool.false_eq_true, if_false]
  rfl

/-! ### Hints -/

/-- A hint that is not dropped asks for its block with its translation in the TLB (R96). -/
theorem hint_of_not_dropped {s s1 : State} {h : Nat} {a0 a : Access} {store : Bool} (ha : a = s.translated h { a0 with size := 1 } store)
    (hdropped : s.hintDropped h a store = false) (hs1 : s1 = (s.transl h a.id false (s.translOf h a)).2) (ask : State → Nat → Nat → EType → State) :
    s.hint h a0 store ask = ask s1 (s1.physCore h) (a.x0.pa.toNat / 64) (s1.accType a) := by
  subst ha hs1
  exact if_neg (ne_true_of_eq_false hdropped)

/-- PREFETCH_R of a sector that the core does not hold allocates its line and asks for it. -/
theorem exec_prefetchR_of_invalid {s s1 : State} {h : BitVec 8} {a0 a : Access} (ha : a = s.translated h.toNat { a0 with size := 1 } false)
    (hdropped : s.hintDropped h.toNat a false = false) (hs1 : s1 = (s.transl h.toNat a.id false (s.translOf h.toNat a)).2)
    (hinvalid : (s1.cline (s1.physCore h.toNat) (a.x0.pa.toNat / 64)).st = .i) (hsend : s1.canSend (s1.physCore h.toNat) (a.x0.pa.toNat / 64) = true) :
    exec (.prefetchR h a0) s = .next ((s1.setCline (s1.physCore h.toNat) (a.x0.pa.toNat / 64) { st := .isD }).coreSend (s1.physCore h.toNat) (a.x0.pa.toNat / 64)
      Opc.readShared (reqAttr false (s1.accType a == .wt) false 0 false (s1.accType a).code false) { pkt := {}, ep := 0, purp := .own }).2 := by
  refine congrArg Host.Outcome.next ((hint_of_not_dropped ha hdropped hs1 _).trans ?_)
  have hunread : ¬(CState.i.readable = true) := by decide
  simp only [hinvalid, if_neg hunread, hsend, bne_self_eq_false, Bool.not_true, Bool.or_self, Bool.false_eq_true, if_false]

/-- PREFETCH_W of a WB sector that the core may write makes its line M. -/
theorem exec_prefetchW_of_writable {s s1 : State} {h : BitVec 8} {a0 a : Access} (ha : a = s.translated h.toNat { a0 with size := 1 } true)
    (hdropped : s.hintDropped h.toNat a true = false) (hs1 : s1 = (s.transl h.toNat a.id false (s.translOf h.toNat a)).2) (htype : s1.accType a = .wb)
    (hwritable : (s1.cline (s1.physCore h.toNat) (a.x0.pa.toNat / 64)).st.writable = true) :
    exec (.prefetchW h a0) s = .next ((s1.setCline (s1.physCore h.toNat) (a.x0.pa.toNat / 64)
      { s1.cline (s1.physCore h.toNat) (a.x0.pa.toNat / 64) with st := .m }).l1dFill (s1.physCore h.toNat) (a.x0.pa.toNat / 64)) :=
  congrArg Host.Outcome.next ((hint_of_not_dropped ha hdropped hs1 _).trans ((if_neg (not_not_intro htype)).trans (if_pos hwritable)))

/-- Settles O6: the operations by one lemma, each with its enable field, and the hints by what the core holds of their sector. -/
theorem hartCacheBlockOps : Obligations.HartCacheBlockOps := by
  refine ⟨fun h a s u t => ⟨?clean, ?flush, ?inval, ?zero⟩, ?prefetchR, ?prefetchW, ?prefetchI⟩
  case clean | flush | inval | zero => exact fun hruns => congrArg Host.Outcome.next (cboExec_of_runs hruns)
  case prefetchR =>
    intro h a0 a s s1 sec ha hdropped hs1 hsec hinvalid hsend
    subst hsec
    exact exec_prefetchR_of_invalid ha hdropped hs1 hinvalid hsend
  case prefetchW =>
    intro h a0 a s s1 sec ha hdropped hs1 hsec htype hwritable
    subst hsec
    exact exec_prefetchW_of_writable ha hdropped hs1 htype hwritable
  case prefetchI => exact fun h a0 a s s1 ha hdropped hs1 => congrArg Host.Outcome.next (hint_of_not_dropped ha hdropped hs1 _)

end Sys2Proof.Proofs
end

section
/-! SUPPORT. LLC_WID_CLASS_k (R98): its place in the service complex's window, and the class of a world as its field reads. -/
namespace Sys2Proof.Proofs

open Sys2Proof.Machine

/-- Entry k of LLC_WID_CLASS stands at its own offset of the service complex's window, and no other register does. -/
theorem locate_llcWidClass (k : Nat) (hk : k < 4) : locate svcStop (0x304080 + 8 * k) = some (.llcWidClass, 0, k) := by
  revert k
  decide +kernel

/-- While shelves have effect, the class of WID 16k + i is field i of LLC_WID_CLASS_k. -/
theorem classOf_of_shelved {s : State} (hshelved : s.shelved = true) (k : Nat) {i : Nat} (hi : i < 16) :
    s.classOf (16 * k + i) = s.getF (F.llcWidClass_class i) 0 k := by
  have hfield : (16 * k + i) % 16 = i := by omega
  have hentry : (16 * k + i) / 16 = k := by omega
  rw [State.classOf, if_pos hshelved, hfield, hentry]

/-- At reset class 0 owns every way of the LLC and of the directory (R98). -/
theorem shelf_zero_reset : State.reset.getF F.llcShelf_llcWays 0 0 = 2 ^ 12 - 1 ∧ State.reset.getF F.llcShelf_dirWays 0 0 = 2 ^ 16 - 1 :=
  ⟨(getF_reset F.llcShelf_llcWays 0 0).trans (by decide), (getF_reset F.llcShelf_dirWays 0 0).trans (by decide)⟩

/-- Settles O48: the place is found by the search of the register map, the class by splitting a WID into its register and its field. -/
theorem widClassRegister : Obligations.WidClassRegister := by
  refine ⟨locate_llcWidClass, ?fields, ?layout, ?inForce, fun wid _ => classOf_reset wid, shelf_zero_reset⟩
  case fields => rfl
  case layout => exact fun i _ => ⟨rfl, rfl, rfl, rfl⟩
  case inForce => exact fun s k i hshelved _ hi => classOf_of_shelved hshelved k hi

end Sys2Proof.Proofs
end

section
/-! SUPPORT. What counters, the recorder of the Annals and the mesh leave (R173, R495, R512, R515): a packet's arrival counts flits and takes the packet out of the mesh, and every part of
the state beside counters, records, interfaces and the mesh stands. -/
namespace Sys2Proof.Proofs

open Sys2Proof.Machine Sys2Proof.Laws

/-! ### A part of the state that stands -/

/-- A part of the state that no counter, record, interrupt source or interface, and no packet in the mesh, belongs to. -/
structure Standing {α : Type} (part : State → α) : Prop where
  setF : ∀ (s : State) (f : Fld) (u i v : Nat), part (s.setF f u i v) = part s
  setAplic : ∀ (s : State) (k : Nat) (x : AplicSrc), part (s.setAplic k x) = part s
  setAnnals : ∀ (s : State) (a : Annals), part { s with annals := a } = part s
  modNi : ∀ (s : State) (st : Nat) (g : Ni → Ni), part (s.modNi st g) = part s
  setNet : ∀ (s : State) (l : List Flight), part { s with net := l } = part s

theorem standing_harts : Standing State.harts := ⟨setF_harts, setAplic_harts, fun _ _ => rfl, modNi_harts, fun _ _ => rfl⟩
theorem standing_cores : Standing State.cores := ⟨setF_cores, setAplic_cores, fun _ _ => rfl, modNi_cores, fun _ _ => rfl⟩
theorem standing_caches : Standing State.caches := ⟨setF_caches, setAplic_caches, fun _ _ => rfl, modNi_caches, fun _ _ => rfl⟩
theorem standing_dir : Standing State.dir := ⟨setF_dir, setAplic_dir, fun _ _ => rfl, modNi_dir, fun _ _ => rfl⟩
theorem standing_llc : Standing State.llc := ⟨setF_llc, setAplic_llc, fun _ _ => rfl, modNi_llc, fun _ _ => rfl⟩
theorem standing_slices : Standing State.slices := ⟨setF_slices, setAplic_slices, fun _ _ => rfl, modNi_slices, fun _ _ => rfl⟩
theorem standing_outq : Standing State.outq := ⟨setF_outq, setAplic_outq, fun _ _ => rfl, modNi_outq, fun _ _ => rfl⟩
theorem standing_mem : Standing State.mem := ⟨setF_mem, setAplic_mem, fun _ _ => rfl, modNi_mem, fun _ _ => rfl⟩

namespace Standing

variable {α : Type} {part : State → α} (st : Standing part)
include st

/-! ### Counters and records -/

theorem incSat (s : State) (f : Fld) (u i : Nat) : part (s.incSat f u i) = part s := by
  unfold State.incSat
  split
  · rfl
  · exact st.setF ..

theorem pmuAdd (s : State) (p : Place) (u i n : Nat) : part (s.pmuAdd p u i n) = part s := by
  simp only [State.pmuAdd, apply_ite part, st.setF, ite_self]

/-- An event at an uncore block advances counters (R515). -/
theorem pmu (s : State) (p : Place) (u ev n : Nat) (x : PmuCtx) : part (s.pmu p u ev n x) = part s := by
  unfold State.pmu
  split
  · rfl
  · refine List.foldlRecOn (motive := fun t => part t = part s) _ _ rfl fun t ht i _ => ?_
    rw [apply_ite part, st.pmuAdd, ite_self, ht]

theorem annSync (s : State) : part s.annSync = part s := by simp only [State.annSync, st.setF]

theorem annDrop (s : State) : part s.annDrop = part s := (st.incSat ..).trans (st.setAnnals ..)

theorem raiseSrc (s : State) (i : Nat) : part (s.raiseSrc i) = part s := by
  simp only [State.raiseSrc, apply_ite part, st.setAplic, ite_self]

theorem annNotify (s : State) (sev : Nat) : part (s.annNotify sev) = part s := by
  simp only [State.annNotify, apply_ite part, st.raiseSrc, st.setAnnals, ite_self]

theorem writeRec (s : State) (code sev : Nat) (src : Source) (d0 d1 : Word) (force : Bool) : part (s.writeRec code sev src d0 d1 force) = part s := by
  unfold State.writeRec
  dsimp only
  split
  · exact (st.annSync _).trans (st.annDrop s)
  · rw [st.annSync, st.annNotify, st.setF, st.setAnnals]

/-- The record of an event, whether its rate limit lets it pass or not (R498). -/
theorem record (s : State) (code : Nat) (src : Source) (d0 d1 : Word) : part (s.record code src d0 d1) = part s := by
  unfold State.record
  split
  · rfl
  · simp only [apply_ite part, st.writeRec, st.incSat, st.setAnnals, ite_self]

/-! ### The mesh -/

theorem leavePort (s : State) (stop port : Nat) (p : Packet) : part (s.leavePort stop port p) = part s := st.pmu ..

theorem reach (s : State) (f : Flight) (port : Nat) : part (s.reach f port).2 = part s := by
  unfold State.reach
  dsimp only
  split
  · exact (st.pmu ..).trans (st.modNi ..)
  · rfl

theorem hopOnce {s : State} {f : Flight} {r : Flight × State} (h : s.hopOnce f = some r) : part r.2 = part s := by
  unfold State.hopOnce at h
  split at h
  case h_1 => cases h
  case h_2 =>
    split at h
    case isTrue => cases h
    case isFalse =>
      obtain ⟨stop, -, rfl⟩ := Option.map_eq_some_iff.mp h
      exact (st.reach ..).trans (st.leavePort ..)

theorem forward (s : State) (f : Flight) (n : Nat) : part (s.forward f n).2 = part s := by
  induction n generalizing s f with
  | zero => rfl
  | succ n ih =>
    unfold State.forward
    split
    · rfl
    · next r h => exact (ih r.2 r.1).trans (st.hopOnce h)

/-- The arrival of a packet (R119, R173). -/
theorem eject {s u : State} {p : Packet} (h : s.eject p = some u) : part u = part s := by
  unfold State.eject at h
  split at h
  case isTrue => cases h
  case isFalse =>
    split at h
    case h_1 => cases h; rfl
    case h_2 i _ =>
      split at h
      case isTrue => cases h
      case isFalse =>
        obtain ⟨f, -, hf⟩ := Option.bind_eq_some_iff.mp h
        obtain ⟨-, hu⟩ := Option.ite_none_right_eq_some.mp hf
        cases hu
        rw [st.setNet, apply_ite part, st.leavePort, st.forward, ite_self]

end Standing

/-! ### Events of a hart -/

section
variable {α : Type} {part : State → α} (hcsr : ∀ (s : State) (h n : Nat) (v : Word), part (s.setCsr h n v) = part s)
include hcsr

theorem countHpm_keeps (s : State) (h k n : Nat) : part (s.countHpm h k n) = part s := by
  simp only [State.countHpm, State.setCsrBits, apply_ite part, hcsr, ite_self]

/-- An event of a hart advances counters of its CSRs (R512): what no CSR belongs to stands. -/
theorem hartEvent_keeps (s : State) (h ev : Nat) : part (s.hartEvent h ev) = part s := by
  refine List.foldlRecOn (motive := fun t => part t = part s) _ _ rfl fun t ht j _ => ?_
  rw [apply_ite part, countHpm_keeps hcsr, ite_self, ht]

end

end Sys2Proof.Proofs
end

section
/-! SUPPORT. Requests at a home (R119, R122, R126, R128, R155 to R157): what entry a request finds decides whether it is queued or retried; a speculative one is answered, held or turned
away beside the home queue. -/
namespace Sys2Proof.Proofs

open Sys2Proof.Machine Sys2Proof.Laws

/-! ### A home slice -/

@[simp] theorem slice_setSlice_same (s : State) (t : Nat) (x : Slice) : (s.setSlice t x).slice t = x := by
  unfold State.slice
  rw [setSlice_slices, get_set_same]

@[simp] theorem slice_modSlice_same (s : State) (t : Nat) (f : Slice → Slice) : (s.modSlice t f).slice t = f (s.slice t) := slice_setSlice_same ..

/-- A home slice depends on the slices alone. -/
theorem slice_congr {s u : State} (h : u.slices = s.slices) (t : Nat) : u.slice t = s.slice t := by rw [State.slice, State.slice, h]

/-! ### What entry a request finds -/

/-- The roster's listing of the slot that a request is of (R155). -/
def listing (s : State) (t : Nat) (p : Packet) : Option RosterEnt := (s.slice t).roster.find? (fun r => r.slot == rosterSlot p.srcN p.epN)

/-- The kind of home-queue entry that a request finds: the one that its slot holds in reserve, else one that its class has left (R102, R157). -/
def entryFor (s : State) (t : Nat) (p : Packet) : Option (Option Nat) := ((listing s t p).bind (·.res)).or (s.hqKind t (s.classOf p.widN))

theorem entryFor_of_unlisted {s : State} {t : Nat} {p : Packet} (hl : listing s t p = none) : entryFor s t p = s.hqKind t (s.classOf p.widN) := by
  simp only [entryFor, hl, Option.bind_none, Option.none_or]

theorem entryFor_of_listed {s : State} {t : Nat} {p : Packet} {r : RosterEnt} (hl : listing s t p = some r) :
    entryFor s t p = r.res.or (s.hqKind t (s.classOf p.widN)) := by
  simp only [entryFor, hl, Option.bind_some]

/-- A slot that holds no entry in reserve finds what its class has left. -/
theorem entryFor_of_no_reserve {s : State} {t : Nat} {p : Packet} (h : ∀ r, listing s t p = some r → r.res = none) :
    entryFor s t p = s.hqKind t (s.classOf p.widN) := by
  have hnone : (listing s t p).bind (·.res) = none := Option.bind_eq_none_iff.mpr h
  rw [entryFor, hnone, Option.none_or]

/-- A request queued at a home: it leaves the roster, its entry stands last, and what can start is started. -/
def queuedAt (s : State) (t : Nat) (p : Packet) (k : Option Nat) : State :=
  (s.modSlice t (fun x => { x with hq := x.hq ++ [{ pkt := p, active := false, resClass := k }], roster := x.roster.filter (fun r => r.slot != rosterSlot p.srcN p.epN) })).hqScan t 49

/-- A home whose roster lists the slot of a request, at its tail where it was not listed. -/
def withListing (s : State) (t : Nat) (p : Packet) : State :=
  if (listing s t p).isSome then s
  else s.modSlice t (fun x => { x with roster := x.roster ++ [{ slot := rosterSlot p.srcN p.epN, cls := s.classOf p.widN }] })

/-- A request answered with Retry: its slot is listed, and the home counts the Retry. -/
def retriedAt (s : State) (t : Nat) (p : Packet) : State :=
  ((withListing s t p).pmu .tile t 0x106 1 { wid := some p.widN, agent := some p.srcN }).send (answer p (tileStop t) Opc.retry 0)

/-- The entry that a request finds decides between the two. -/
theorem homeRequest_eq (s : State) (t : Nat) (p : Packet) :
    s.homeRequest t p = match entryFor s t p with
      | some k => queuedAt s t p k
      | none => retriedAt s t p := by
  cases hl : listing s t p with
  | none =>
    rw [entryFor_of_unlisted hl]
    simp only [listing] at hl
    simp only [State.homeRequest, hl]
    cases s.hqKind t (s.classOf p.widN) with
    | none => simp only [retriedAt, withListing, listing, hl]
    | some k => rfl
  | some r =>
    rw [entryFor_of_listed hl]
    simp only [listing] at hl
    simp only [State.homeRequest, hl]
    cases r.res with
    | some k => rfl
    | none =>
      cases s.hqKind t (s.classOf p.widN) with
      | none => simp only [retriedAt, withListing, listing, hl, Option.none_or]
      | some k => rfl

theorem homeRequest_of_entry {s : State} {t : Nat} {p : Packet} {k : Option Nat} (h : entryFor s t p = some k) : s.homeRequest t p = queuedAt s t p k := by
  rw [homeRequest_eq, h]

theorem homeRequest_of_no_entry {s : State} {t : Nat} {p : Packet} (h : entryFor s t p = none) : s.homeRequest t p = retriedAt s t p := by
  rw [homeRequest_eq, h]

/-! ### What a Retry leaves -/

/-- Listing a slot changes the roster alone. -/
theorem withListing_frame (s : State) (t : Nat) (p : Packet) :
    ((withListing s t p).slice t).hq = (s.slice t).hq ∧ (withListing s t p).outq = s.outq ∧ (withListing s t p).mem = s.mem ∧
      (withListing s t p).harts = s.harts := by
  unfold withListing
  split
  · exact ⟨rfl, rfl, rfl, rfl⟩
  · exact ⟨by rw [slice_modSlice_same], modSlice_outq .., modSlice_mem .., modSlice_harts ..⟩

/-- Listing a slot puts it at the roster's tail, unless it is there. -/
theorem roster_withListing (s : State) (t : Nat) (p : Packet) :
    ((withListing s t p).slice t).roster = if (listing s t p).isSome then (s.slice t).roster
      else (s.slice t).roster ++ [{ slot := rosterSlot p.srcN p.epN, cls := s.classOf p.widN }] := by
  unfold withListing
  split
  · rfl
  · rw [slice_modSlice_same]

theorem slice_retriedAt (s : State) (t : Nat) (p : Packet) : (retriedAt s t p).slice t = (withListing s t p).slice t :=
  slice_congr ((send_slices ..).trans (standing_slices.pmu ..)) t

/-- A Retry is the one packet that a turned-away request makes the home send; memory and the harts stand. -/
theorem retriedAt_frame (s : State) (t : Nat) (p : Packet) :
    (retriedAt s t p).outq = s.outq ++ [answer p (tileStop t) Opc.retry 0] ∧ (retriedAt s t p).mem = s.mem ∧ (retriedAt s t p).harts = s.harts := by
  obtain ⟨-, houtq, hmem, hharts⟩ := withListing_frame s t p
  refine ⟨?_, ?_, ?_⟩
  · rw [retriedAt, send_outq, standing_outq.pmu, houtq]
  · rw [retriedAt, send_mem, standing_mem.pmu, hmem]
  · rw [retriedAt, send_harts, standing_harts.pmu, hharts]

/-! ### Speculative requests -/

theorem slices_deedNote (s : State) (key page : Nat) : (s.deedNote key page).slices = s.slices := by
  unfold State.deedNote
  dsimp only
  split
  · rfl
  · split <;> exact standing_slices.pmu ..

theorem slices_llcCount (s : State) (t : Nat) (p : Packet) : (s.llcCount t p).slices = s.slices :=
  (standing_slices.pmu ..).trans (standing_slices.pmu ..)

/-- A speculative ReadShared that the LLC does not serve: held while the home holds fewer than 32, else turned away (R122). -/
def heldOrRetried (s : State) (t : Nat) (p : Packet) : State :=
  if (s.slice t).spec.length < 32 then
    (s.modSlice t (fun c => { c with spec := c.spec ++ [p] })).pmu .tile t 0x10A 1 { wid := some p.widN, agent := some p.srcN }
  else (s.pmu .tile t 0x106 1 { wid := some p.widN, agent := some p.srcN }).send (answer p (tileStop t) Opc.retry 0)

theorem hq_heldOrRetried (s : State) (t : Nat) (p : Packet) : ((heldOrRetried s t p).slice t).hq = (s.slice t).hq := by
  unfold heldOrRetried
  split
  · rw [slice_congr (standing_slices.pmu ..), slice_modSlice_same]
  · rw [slice_congr ((send_slices ..).trans (standing_slices.pmu ..))]

/-- Whether a speculative ReadShared is refused, served, held or turned away, it does not enter the home queue (R122). -/
theorem hq_specRead (s : State) (p : Packet) : ((s.specRead p).slice (s.tileOf p)).hq = (s.slice (s.tileOf p)).hq := by
  have hsent {v : State} (hv : v.slices = s.slices) (t : Nat) (q : Packet) : ((v.send q).slice t).hq = (s.slice t).hq :=
    congrArg Slice.hq (slice_congr ((send_slices ..).trans hv) t)
  have hheld {v : State} (hv : v.slices = s.slices) (t : Nat) (q : Packet) : ((heldOrRetried v t q).slice t).hq = (s.slice t).hq :=
    (hq_heldOrRetried v t q).trans (congrArg Slice.hq (slice_congr hv t))
  have hcounted (t key page : Nat) (q : Packet) : ((s.deedNote key page).llcCount t q).slices = s.slices := (slices_llcCount ..).trans (slices_deedNote ..)
  unfold State.specRead
  dsimp only
  split
  case isTrue => exact hsent rfl _ _
  case isFalse =>
    split
    case isTrue => exact hsent rfl _ _
    case isFalse =>
      split
      case isTrue => exact hsent ((standing_slices.record ..).trans (slices_deedNote ..)) _ _
      case isFalse =>
        split
        case h_1 =>
          exact iteInduction (motive := fun w : State => (w.slice (s.tileOf p)).hq = _) (fun _ => hsent (hcounted ..) _ _) (fun _ => hheld (hcounted ..) _ _)
        case h_2 => exact hheld (hcounted ..) _ _

/-! ### The commands -/

/-- The commands by which a request that is not a speculative ReadShared arrives at its home, with their opcodes. -/
def IsHomeRequest (p : Packet) (op : BitVec 8) (c : Instr) : Prop :=
  (p.spec = false ∧ op = Opc.readShared ∧ c = .readShared p) ∨ (op = Opc.readUnique ∧ c = .readUnique p) ∨ (op = Opc.readOnce ∧ c = .readOnce p) ∨
    (op = Opc.cleanUnique ∧ c = .cleanUnique p) ∨ (op = Opc.writeInvFull ∧ c = .writeInvalidateFull p) ∨ (op = Opc.writePartial ∧ c = .writePartial p) ∨
    (op = Opc.writeBackDirty ∧ c = .writeBackDirty p) ∨ (op = Opc.writeBackOwned ∧ c = .writeBackOwned p)

theorem exec_readShared_of_not_spec {p : Packet} (hspec : p.spec = false) (s : State) : exec (.readShared p) s = .next (s.homeArrive Opc.readShared p) := by
  refine if_neg ?_
  rw [hspec]
  exact Bool.false_ne_true

theorem exec_readShared_of_spec {p : Packet} (hspec : p.spec = true) (s : State) : exec (.readShared p) s = .next (s.receive p (fun s => s.specRead p)) :=
  if_pos hspec

/-- Each of them is an arrival with its opcode. -/
theorem exec_of_isHomeRequest {p : Packet} {op : BitVec 8} {c : Instr} (hc : IsHomeRequest p op c) (s : State) : exec c s = .next (s.homeArrive op p) := by
  rcases hc with ⟨hspec, rfl, rfl⟩ | ⟨rfl, rfl⟩ | ⟨rfl, rfl⟩ | ⟨rfl, rfl⟩ | ⟨rfl, rfl⟩ | ⟨rfl, rfl⟩ | ⟨rfl, rfl⟩ | ⟨rfl, rfl⟩
  case inl => exact exec_readShared_of_not_spec hspec s
  all_goals rfl

/-- Each of them has its opcode. -/
theorem exists_isHomeRequest {p : Packet} {c : Instr} (hspec : p.spec = false ∨ c ≠ .readShared p)
    (hc : c = .readShared p ∨ c = .readUnique p ∨ c = .readOnce p ∨ c = .cleanUnique p ∨ c = .writeInvalidateFull p ∨ c = .writePartial p ∨
      c = .writeBackDirty p ∨ c = .writeBackOwned p) : ∃ op, IsHomeRequest p op c := by
  rcases hc with hc | hc
  · exact ⟨_, .inl ⟨hspec.resolve_right (not_not_intro hc), rfl, hc⟩⟩
  · simp only [IsHomeRequest, exists_or, exists_eq_left]
    exact .inr hc

/-- An arrival that can be ejected is a request of its home's, with the command's opcode. -/
theorem homeArrive_of_eject {s u : State} {p : Packet} (h : s.eject p = some u) (op : BitVec 8) :
    s.homeArrive op p = u.homeRequest (u.tileOf p) { p with opcode := op } := receive_some _ h

theorem homeArrive_of_not_eject {s : State} {p : Packet} (h : s.eject p = none) (op : BitVec 8) : s.homeArrive op p = s := receive_none _ h

/-- Settles O14: the entry that a request finds decides between the queue and Retry; what a Retry leaves is its frame. -/
theorem homeRequestsQueued : Obligations.HomeRequestsQueued := by
  refine ⟨fun p s u n op c k hc => ⟨?waits, ?queued⟩, ?retried, ?speculative⟩
  case waits =>
    intro hnot
    rw [exec_of_isHomeRequest hc, homeArrive_of_not_eject hnot]
  case queued =>
    intro heject hn hfound
    subst hn
    have hentry : entryFor u (u.tileOf p) { p with opcode := op } = some k := by
      rcases hfound with ⟨hl, hleft⟩ | ⟨r, hl, hres⟩
      · exact (entryFor_of_unlisted hl).trans hleft
      · refine (entryFor_of_listed hl).trans ?_
        rcases hres with hres | ⟨hres, hleft⟩
        · rw [hres, Option.some_or]
        · rw [hres, Option.none_or]
          exact hleft
    rw [exec_of_isHomeRequest hc, homeArrive_of_eject heject, homeRequest_of_entry hentry]
    rfl
  case retried =>
    intro p s u n c heject hn hspec hc hres hleft
    subst hn
    obtain ⟨op, hop⟩ := exists_isHomeRequest hspec hc
    have hentry : entryFor u (u.tileOf p) { p with opcode := op } = none := (entryFor_of_no_reserve hres).trans hleft
    obtain ⟨houtq, hmem, hharts⟩ := retriedAt_frame u (u.tileOf p) { p with opcode := op }
    have hexec : exec c s = .next (retriedAt u (u.tileOf p) { p with opcode := op }) := by
      rw [exec_of_isHomeRequest hop, homeArrive_of_eject heject, homeRequest_of_no_entry hentry]
    have hslice := slice_retriedAt u (u.tileOf p) { p with opcode := op }
    exact ⟨_, hexec, (congrArg Slice.hq hslice).trans (withListing_frame ..).1, (congrArg Slice.roster hslice).trans (roster_withListing ..), ⟨op, houtq⟩,
      hmem.trans (standing_mem.eject heject), hharts.trans (standing_harts.eject heject)⟩
  case speculative =>
    intro p s u hspec heject
    refine ⟨_, exec_readShared_of_spec hspec s, ?_⟩
    rw [receive_some _ heject]
    exact ⟨rfl, hq_specRead u p⟩

end Sys2Proof.Proofs
end

section
/-! SUPPORT. Notices and answers at a home (R119, R122, R127, R137, R157, R215): what each arrival does with what the home holds for it. -/
namespace Sys2Proof.Proofs

open Sys2Proof.Machine Sys2Proof.Laws

/-- A command that is a packet's arrival does what its receiver does, once the packet is ejected. -/
theorem exec_of_receive {c : Instr} {s u : State} {p : Packet} {f : State → State} (heject : s.eject p = some u) (hexec : exec c s = .next (s.receive p f)) :
    exec c s = .next (f u) := by
  rw [hexec, receive_some f heject]

/-! ### Notices -/

/-- EvictClean drops the listing of the agent that sent it (R137). -/
theorem exec_evictClean_of_agent {p : Packet} {s u : State} {a : Nat} (heject : s.eject p = some u) (ha : agentId p.srcN p.epN = some a) :
    exec (.evictClean p) s = .next (u.dropListing (u.tileOf p) p.sec a) := by
  rw [exec_of_receive heject rfl, ha]

/-- A held speculative request that is released arrives as an ordinary one (R122). -/
theorem exec_specRelease_of_held {p q : Packet} {s u : State} (heject : s.eject p = some u) (hq : (u.slice (u.tileOf p)).spec.find? (sameTag p) = some q) :
    exec (.specRelease p) s = .next ((u.modSlice (u.tileOf p) (fun c => { c with spec := c.spec.erase q })).homeRequest (u.tileOf p)
      { q with attr := q.attr &&& 0xFFFE }) := by
  rw [exec_of_receive heject rfl]
  simp only [hq]

/-- A home without the speculative requests that a packet names. -/
def withoutSpec (s : State) (t : Nat) (p : Packet) : State := s.modSlice t (fun c => { c with spec := c.spec.filter (fun q => !sameTag p q) })

theorem sameTag_of_mem_withoutSpec {s : State} {t : Nat} {p q : Packet} (hq : q ∈ ((withoutSpec s t p).slice t).spec) : sameTag p q = false := by
  rw [withoutSpec, slice_modSlice_same] at hq
  simpa using (List.mem_filter.mp hq).2

/-- SpecCancel drops what it names, and is answered with Comp whether or not the home held it (R122). -/
theorem exec_specCancel_of_eject {p : Packet} {s u : State} (heject : s.eject p = some u) :
    exec (.specCancel p) s = .next ((withoutSpec u (u.tileOf p) p).send (answer p (tileStop (u.tileOf p)) Opc.comp 0)) := by
  rw [exec_of_receive heject rfl]
  rfl

/-- The reservation of a slot passes to the next slot that may use it, and the slot goes to the tail (R157). -/
theorem exec_reserveLimitExpiry_of_reserved {tile : Fin 136} {slot : Fin 512} {s : State} {r : RosterEnt} {kind : Option Nat}
    (hr : (s.slice tile.val).roster.find? (fun x => x.slot == slot.val) = some r) (hres : r.res = some kind) :
    exec (.reserveLimitExpiry tile slot) s = .next (s.setSlice tile.val { s.slice tile.val with
      roster := reserveFor ((s.slice tile.val).roster.filter (fun q => q.slot != slot.val)) kind ++ [{ r with res := none }] }) := by
  show execReserveLimitExpiry tile slot s = _
  simp only [execReserveLimitExpiry, hr, hres]

/-! ### Answers -/

/-- A snoop's answer without data joins the transaction of its sector, for the agent that sent it (R127, R200). -/
theorem exec_snpResp_of_tx {p : Packet} {s u : State} {x : Tx} {a : Nat} (heject : s.eject p = some u) (hx : u.tx (u.tileOf p) p.sec = some x)
    (ha : agentId p.srcN p.respEp = some a) : exec (.snpResp p) s = .next (u.snoopAnswer (u.tileOf p) x a p.snpState p.snpFwd p.snpDead none) := by
  rw [exec_of_receive heject rfl]
  simp only [hx, ha]

/-- An answer with data joins the transaction that it is matched to, for the owner, which alone returns data (R127, R200). -/
theorem exec_snpRespData_of_owner {p : Packet} {s u : State} {x : Tx} {a : Nat} (heject : s.eject p = some u)
    (hx : (u.slice (u.tileOf p)).txs.find? (fun y => y.pkt.src == p.endpoint && y.pkt.tag == p.tag && !y.waits.isEmpty) = some x) (ha : x.owner = some a) :
    exec (.snpRespData p) s = .next (u.snoopAnswer (u.tileOf p) x a (p.opcode.toNat % 4) (p.opcode.toNat / 4 % 2 == 1) false (some (p.payload, p.poison))) := by
  rw [exec_of_receive heject rfl]
  simp only [hx, ha]

/-- The I/O write that pulled the data of a packet. -/
def ioPull (s : State) (p : Packet) : Option Packet := s.ioWrites.find? (fun x => x.src == p.src && x.tag == p.tag && x.dst == p.dst)

/-- Pulled data is taken by the I/O write that waits for it. -/
theorem writeDataArrive_of_ioPull {s : State} {p x : Packet} (hx : ioPull s p = some x) (d : Sector) (m : BitVec 64) (po : Bool) (aop : Nat) :
    s.writeDataArrive p d m po aop = s.ioWriteData x d po := by
  unfold ioPull at hx
  simp only [State.writeDataArrive, hx]

/-- Else by the transaction that pulled it. -/
theorem writeDataArrive_of_home {s t : State} {p : Packet} {d : Sector} {m : BitVec 64} {po : Bool} {aop : Nat} (hio : ioPull s p = none)
    (ht : s.homeWriteData p d m po aop = some t) : s.writeDataArrive p d m po aop = t := by
  unfold ioPull at hio
  simp only [State.writeDataArrive, hio, ht]

theorem exec_writeData_of_eject {p : Packet} {s u : State} (heject : s.eject p = some u) :
    exec (.writeData p) s = .next (u.writeDataArrive p p.payload fullMask p.poison 0) := by
  rw [exec_of_receive heject rfl]

theorem exec_writeDataMasked_of_eject {p : Packet} {s u : State} (heject : s.eject p = some u) :
    exec (.writeDataMasked p) s = .next (u.writeDataArrive p p.payload2 p.mask p.poison2 p.aop) := by
  rw [exec_of_receive heject rfl]

/-- The acknowledgement that a transaction waits for closes it (R119). -/
theorem exec_compAck_of_ack {p : Packet} {s u : State} {x : Tx} (heject : s.eject p = some u) (hx : u.tx (u.tileOf p) p.sec = some x) (hphase : x.phase = .ack) :
    exec (.compAck p) s = .next (u.txClose (u.tileOf p) x) := by
  rw [exec_of_receive heject rfl]
  simp only [hx, hphase, beq_self_eq_true, if_true]

/-- One that overtakes the last snoop answer is remembered (R136). -/
theorem exec_compAck_of_snoops {p : Packet} {s u : State} {x : Tx} (heject : s.eject p = some u) (hx : u.tx (u.tileOf p) p.sec = some x) (hphase : x.phase = .snoops)
    (hback : x.back = false) : exec (.compAck p) s = .next (u.setTx (u.tileOf p) { x with acked := true }) := by
  have hnot : (TxPhase.snoops == TxPhase.ack) = false := by decide
  rw [exec_of_receive heject rfl]
  simp only [hx, hphase, hnot, hback, beq_self_eq_true, Bool.not_false, Bool.and_self, Bool.false_eq_true, if_false, if_true]

/-- Settles O15: notice by notice and answer by answer, what the home holds for it decides. -/
theorem homeNoticesAndAnswers : Obligations.HomeNoticesAndAnswers := by
  refine ⟨?evictClean, ?specRelease, ?specCancel, ?reserveLimit, ?snpResp, ?snpRespData, ?homeData, ?ioData, ?compAck⟩
  case evictClean => exact fun p s u a heject ha => exec_evictClean_of_agent heject ha
  case specRelease => exact fun p q s u heject hq => exec_specRelease_of_held heject hq
  case specCancel =>
    intro p s u heject
    refine ⟨_, exec_specCancel_of_eject heject, fun q hq => ?_, ?_, ?_, ?_, ?_⟩
    · rw [slice_congr (send_slices ..)] at hq
      exact sameTag_of_mem_withoutSpec hq
    · rw [send_outq, withoutSpec, modSlice_outq]
    · rw [send_mem, withoutSpec, modSlice_mem, standing_mem.eject heject]
    · rw [send_regs, withoutSpec, modSlice_regs]
    · rw [send_harts, withoutSpec, modSlice_harts, standing_harts.eject heject]
  case reserveLimit =>
    intro tile slot s r kind hr hres
    exact ⟨_, exec_reserveLimitExpiry_of_reserved hr hres, by rw [slice_setSlice_same], setSlice_mem .., setSlice_regs .., setSlice_harts ..⟩
  case snpResp => exact fun p s u x a heject hx ha => exec_snpResp_of_tx heject hx ha
  case snpRespData => exact fun p s u x a heject hx ha => exec_snpRespData_of_owner heject hx ha
  case homeData =>
    intro p s u heject hio
    refine ⟨fun t ht => ?_, fun t ht => ?_⟩
    · rw [exec_writeData_of_eject heject, writeDataArrive_of_home hio ht]
    · rw [exec_writeDataMasked_of_eject heject, writeDataArrive_of_home hio ht]
  case ioData =>
    intro p x s u heject hx
    rw [exec_writeData_of_eject heject, writeDataArrive_of_ioPull hx]
  case compAck =>
    intro p s u x heject hx
    exact ⟨fun hphase => exec_compAck_of_ack heject hx hphase, fun hphase hback => exec_compAck_of_snoops heject hx hphase hback⟩

end Sys2Proof.Proofs
end

section
/-! SUPPORT. Snoops and hold windows at cores (R125, R148, R150, R152): what a snoop meets at its agent decides; a held snoop changes the windows of its core alone, beside the counters of
its hart. -/
namespace Sys2Proof.Proofs

open Sys2Proof.Machine Sys2Proof.Laws

/-! ### What a snoop meets -/

section
variable {s : State} {p : Packet} {a : Nat} (ha : agentId p.dstN p.epN = some a) (k : Snoop)
include ha

/-- A flushed core answers that it holds nothing (R148). -/
theorem snooped_of_flushed (hcore : a < 272) (hflushed : (s.core a).flushed = true) : s.snooped k p = s.send (snpEmpty p false) := by
  simp only [State.snooped, ha, hcore, hflushed, if_true]

/-- A dead holder answers that its data is lost (R150). -/
theorem snooped_of_dead (hcore : a < 272) (hflushed : (s.core a).flushed = false) (hdead : (s.core a).dead = true) :
    s.snooped k p = s.send (snpEmpty p true) := by
  simp only [State.snooped, ha, hcore, hflushed, hdead, Bool.false_eq_true, if_true, if_false]

/-- A live core without an open window performs the snoop (R125). -/
theorem snooped_of_no_window (hcore : a < 272) (hflushed : (s.core a).flushed = false) (hdead : (s.core a).dead = false)
    (hwindow : s.windowOpen a p.sec = false) : s.snooped k p = (s.coreSnoop a k p).corePump a := by
  simp only [State.snooped, ha, hcore, hflushed, hdead, hwindow, Bool.false_eq_true, if_true, if_false]

/-- A snoop of an annex agent goes to its gate (R235). -/
theorem snooped_of_annex (hannex : 272 ≤ a) : s.snooped k p = s.gateSnoop ((a - 272) / 16) p := by
  simp only [State.snooped, ha, Nat.not_lt.mpr hannex, if_false]

end

/-! ### A held snoop -/

/-- The windows of a core with a snoop held, last, in the windows of its sector (R152). -/
def holdSnoop (p : Packet) (c : Core) : Core :=
  { c with windows := c.windows.map (fun w => if w.sec = p.sec then { w with held := w.held ++ [p] } else w) }

/-- A snoop held at a core: the core's hart, where it has one, counts it (R512). -/
def heldSnoop (s : State) (a : Nat) (p : Packet) : State :=
  match (s.modCore a (holdSnoop p)).hartOf a with
  | some h => (s.modCore a (holdSnoop p)).hartEvent h 0x23
  | none => s.modCore a (holdSnoop p)

/-- Inside an open hold window the snoop is held (R152). -/
theorem snooped_of_window {s : State} {p : Packet} {a : Nat} (ha : agentId p.dstN p.epN = some a) (k : Snoop) (hcore : a < 272)
    (hflushed : (s.core a).flushed = false) (hdead : (s.core a).dead = false) (hwindow : s.windowOpen a p.sec = true) : s.snooped k p = heldSnoop s a p := by
  simp only [State.snooped, ha, hcore, hflushed, hdead, hwindow, Bool.false_eq_true, if_true, if_false]
  rfl

/-- What no CSR belongs to is as the window's core leaves it. -/
theorem heldSnoop_keeps {α : Type} {part : State → α} (hcsr : ∀ (s : State) (h n : Nat) (v : Word), part (s.setCsr h n v) = part s) (s : State) (a : Nat)
    (p : Packet) : part (heldSnoop s a p) = part (s.modCore a (holdSnoop p)) := by
  unfold heldSnoop
  split
  · exact hartEvent_keeps hcsr ..
  · rfl

/-- A core depends on the cores alone. -/
theorem core_congr {s u : State} (h : u.cores = s.cores) (c : Nat) : u.core c = s.core c := by rw [State.core, State.core, h]

theorem core_heldSnoop (s : State) (a n : Nat) (p : Packet) : (heldSnoop s a p).core n = (s.modCore a (holdSnoop p)).core n :=
  core_congr (heldSnoop_keeps setCsr_cores s a p) n

/-! ### The commands -/

/-- The commands by which a snoop arrives, with their kinds and opcodes. -/
def IsSnoop (p : Packet) (c : Instr) (k : Snoop) (op : BitVec 8) : Prop :=
  (c = .snpShared p ∧ k = .shared ∧ op = Opc.snpShared) ∨ (c = .snpUnique p ∧ k = .unique ∧ op = Opc.snpUnique) ∨
    (c = .snpUniqueToHome p ∧ k = .toHome ∧ op = Opc.snpUniqueHome) ∨ (c = .snpInvalidate p ∧ k = .inv ∧ op = Opc.snpInvalidate) ∨
    (c = .snpClean p ∧ k = .clean ∧ op = Opc.snpClean)

/-- Each of them reaches its agent with its kind and opcode, once it is ejected. -/
theorem exec_of_isSnoop {p : Packet} {c : Instr} {k : Snoop} {op : BitVec 8} {s u : State} (hc : IsSnoop p c k op) (heject : s.eject p = some u) :
    exec c s = .next (u.snooped k { p with opcode := op }) := by
  rcases hc with ⟨rfl, rfl, rfl⟩ | ⟨rfl, rfl, rfl⟩ | ⟨rfl, rfl, rfl⟩ | ⟨rfl, rfl, rfl⟩ | ⟨rfl, rfl, rfl⟩
  all_goals rw [exec_of_receive heject rfl]

/-- A held snoop: its window holds it, last; no other core, no line and no directory changes, and nothing is sent (R152). -/
theorem gives_heldSnoop {c : Instr} {s u : State} {p q : Packet} {a : Nat} (heject : s.eject q = some u) (hexec : exec c s = .next (heldSnoop u a p)) :
    Gives c s (fun t => t.core a = holdSnoop p (u.core a) ∧ (∀ n, n ≠ a → t.core n = s.core n) ∧ t.caches = s.caches ∧ t.outq = s.outq ∧ t.dir = s.dir ∧
      t.llc = s.llc ∧ t.mem = s.mem) := by
  refine ⟨_, hexec, ?_, fun n hn => ?_, ?_, ?_, ?_, ?_, ?_⟩
  · rw [core_heldSnoop, core_modCore_same]
  · rw [core_heldSnoop, core_modCore_other _ _ _ _ hn, core_congr (standing_cores.eject heject)]
  · rw [heldSnoop_keeps setCsr_caches, modCore_caches, standing_caches.eject heject]
  · rw [heldSnoop_keeps setCsr_outq, modCore_outq, standing_outq.eject heject]
  · rw [heldSnoop_keeps setCsr_dir, modCore_dir, standing_dir.eject heject]
  · rw [heldSnoop_keeps setCsr_llc, modCore_llc, standing_llc.eject heject]
  · rw [heldSnoop_keeps setCsr_mem, modCore_mem, standing_mem.eject heject]

/-! ### The close of a window -/

theorem exec_holdWindowClose (core : Fin 272) (sec : BitVec 46) (s : State) :
    exec (.holdWindowClose core sec) s = .next ((s.closeWindow core.val sec.toNat).corePump core.val) := rfl

/-- A core with the window of a sector removed, once the snoops that the window held are answered in their order. -/
def windowClosed (s : State) (c sec : Nat) (w : HoldWin) : State :=
  w.held.foldl (fun s p => match snoopKind p.opcode with
    | some k => s.coreSnoop c k p
    | none => s) (s.modCore c (fun k => { k with windows := k.windows.filter (fun v => v.sec != sec) }))

/-- The close of an open window (R152). -/
theorem closeWindow_of_open {s : State} {c sec : Nat} {w : HoldWin} (hw : (s.core c).windows.find? (fun w => w.sec == sec) = some w) :
    s.closeWindow c sec = windowClosed s c sec w := by
  simp only [State.closeWindow, hw]
  rfl

/-- Where no window is open there is nothing to close (log entry 1). -/
theorem closeWindow_of_not_open {s : State} {c sec : Nat} (h : s.windowOpen c sec = false) : s.closeWindow c sec = s := by
  have hnone : (s.core c).windows.find? (fun w => w.sec == sec) = none := by
    simpa [State.windowOpen] using h
  simp only [State.closeWindow, hnone]

/-- Settles O16: a snoop by what it meets at its agent; the close of a window by whether it is open. -/
theorem snoopsAtCores : Obligations.SnoopsAtCores := by
  refine ⟨fun p s u a c k op heject ha hc => ?snoop, ?close, ?noWindow⟩
  case snoop =>
    have hexec := exec_of_isSnoop hc heject
    have ha : agentId (Packet.dstN { p with opcode := op }) (Packet.epN { p with opcode := op }) = some a := ha
    refine ⟨fun hcore hflushed hdead hwindow => ?_, fun hcore hflushed hdead hwindow => ?_, fun hcore hflushed => ?_, fun hcore hflushed hdead => ?_, fun hannex => ?_⟩
    · exact hexec.trans (congrArg Host.Outcome.next (snooped_of_no_window ha k hcore hflushed hdead hwindow))
    · rw [snooped_of_window ha k hcore hflushed hdead hwindow] at hexec
      exact Gives.imp (gives_heldSnoop heject hexec) fun t ⟨hcoreA, hrest⟩ => ⟨congrArg Core.windows hcoreA, hrest⟩
    · exact hexec.trans (congrArg Host.Outcome.next (snooped_of_flushed ha k hcore hflushed))
    · exact hexec.trans (congrArg Host.Outcome.next (snooped_of_dead ha k hcore hflushed hdead))
    · exact hexec.trans (congrArg Host.Outcome.next (snooped_of_annex ha k hannex))
  case close =>
    intro core sec s w hw
    rw [exec_holdWindowClose, closeWindow_of_open hw]
    rfl
  case noWindow =>
    intro core sec s h
    rw [exec_holdWindowClose, closeWindow_of_not_open h]

end Sys2Proof.Proofs
end

section
/-! SUPPORT. Responses at requesters (R117, R121, R124, R156, R198, R214): the open request with a response's tag takes it, or lets the command of an I/O agent go on (log entry 26); a
retried request waits in its own entry (log entry 11). -/
namespace Sys2Proof.Proofs

open Sys2Proof.Machine Sys2Proof.Laws

/-! ### Responses to a core's request -/

section
variable {s u : State} {p : Packet} {r : Req} {t : Nat} (heject : s.eject p = some u) (hr : u.req p.dstN p.tagN = some r)
include heject hr

section
variable (hax : stopAx p.dstN = none) (ht : stopTile p.dstN = some t) (hep : r.ep < 2) (hpurp : r.purp ≠ .engine)
include hax ht hep

/-- Forwarded data (R116, R124). -/
theorem exec_dataFwd_of_core : exec (.dataFwd p) s = .next (u.coreData (2 * t + r.ep) r p.dataGrant true p.payload p.poison) := by
  rw [exec_of_receive heject rfl]
  simp only [hr, hax, ht, hep, if_true]

include hpurp

/-- Data of the home (R124). -/
theorem exec_compData_of_core : exec (.compData p) s = .next (u.coreData (2 * t + r.ep) r p.dataGrant false p.payload p.poison) := by
  rw [exec_of_receive heject rfl]
  simp only [hr, hax, ht, hep, hpurp, if_true, if_false]

/-- A completion without data (R117). -/
theorem exec_comp_of_core : exec (.comp p) s = .next (u.coreComp (2 * t + r.ep) r (p.attr.toNat % 4)) := by
  rw [exec_of_receive heject rfl]
  simp only [hr, hax, ht, hep, hpurp, if_true, if_false]

/-- The pull of a write's data (R121). -/
theorem exec_dataPull_of_core : exec (.dataPull p) s = .next (u.corePull (2 * t + r.ep) r) := by
  rw [exec_of_receive heject rfl]
  simp only [hr, hax, ht, hep, hpurp, if_true, if_false]

/-- An error: a prefetch of a core is no prefetch of a home or a gate (R214). -/
theorem exec_errResp_of_core : exec (.errResp p) s = .next (u.coreError (2 * t + r.ep) r p.errCode p.errOrigin) := by
  have hcore : ¬(r.purp = .prefetch ∧ ((some t).isNone = true ∨ 2 ≤ r.ep)) := by
    rintro ⟨-, hnone | hgate⟩
    · cases hnone
    · exact Nat.not_lt.mpr hgate hep
  rw [exec_of_receive heject rfl]
  simp only [hr, hax, ht, hep, hpurp, hcore, if_true, if_false]

end

/-! ### Responses to an I/O agent's access -/

section
variable (hpurp : r.purp = .engine)
include hpurp

theorem exec_compData_of_agent : exec (.compData p) s = .next (u.agentAnswer p.dstN p.tagN (.data p.payload p.poison)) := by
  rw [exec_of_receive heject rfl]
  simp only [hr, hpurp, if_true]

theorem exec_comp_of_agent : exec (.comp p) s = .next (u.agentAnswer p.dstN p.tagN .done) := by
  rw [exec_of_receive heject rfl]
  simp only [hr, hpurp, if_true]

theorem exec_errResp_of_agent : exec (.errResp p) s = .next (u.agentAnswer p.dstN p.tagN (.err p.errCode p.errOrigin)) := by
  rw [exec_of_receive heject rfl]
  simp only [hr, hpurp, if_true]

end

/-! ### Retry -/

/-- Retry at a request that is not a gate's. -/
theorem exec_retry_of_not_annex (hannex : r.purp ≠ .annex) : exec (.retry p) s = .next (u.retried p.dstN r) := by
  rw [exec_of_receive heject rfl]
  simp only [hr, hannex, if_false]

end

/-- A request that waits out its backoff after one more Retry (R156). -/
def awaitingBackoff (s : State) (st : Nat) (r : Req) : Req :=
  { r with retries := r.retries + 1, retryNo := if r.retries = 0 then s.nextRetry st else r.retryNo, waitBound := true }

/-- At a stop that has no tile no request is a core's, and so none is speculative: only one that is being cancelled does not go again (R122, R156). -/
theorem retried_of_no_tile {st : Nat} {r : Req} (ht : stopTile st = none) (hcancel : r.purp ≠ .cancel) (s : State) :
    s.retried st r = s.setReq st r.pkt.tagN (some (awaitingBackoff s st r)) := by
  simp only [State.retried, ht, hcancel, Option.isSome_none, Bool.false_and, Bool.false_eq_true, if_false]
  rfl

/-- The backoff of the request that its slot holds for its home is over: the same packet goes again (R156). -/
theorem exec_retryBackoffExpiry_of_held {stop : Fin 160} {tag : BitVec 12} {s : State} {r : Req} (hr : s.req stop.val tag.toNat = some r)
    (hwait : r.waitBound = true) (hannex : r.purp ≠ .annex) (hheld : s.holdsRetry stop.val r = true) :
    exec (.retryBackoffExpiry stop tag) s = .next ((s.setReq stop.val tag.toNat (some { r with waitBound := false })).send r.pkt) := by
  have hgo : (r.waitBound && r.purp != .annex && s.holdsRetry stop.val r) = true := by
    rw [hwait, hheld, bne_iff_ne.mpr hannex]
    rfl
  show execRetryBackoffExpiry stop tag s = _
  simp only [execRetryBackoffExpiry, hr]
  exact if_pos hgo

/-- Settles O17: response by response, the request with its tag and whose it is decide; Retry and the end of a backoff by the request that is sent again. -/
theorem responsesAtCores : Obligations.ResponsesAtCores := by
  refine ⟨?core, ?agent, ?retry, ?backoff⟩
  case core =>
    intro p s u t r heject hax ht hr hep hpurp
    exact ⟨exec_compData_of_core heject hr hax ht hep hpurp, exec_dataFwd_of_core heject hr hax ht hep, exec_comp_of_core heject hr hax ht hep hpurp,
      exec_dataPull_of_core heject hr hax ht hep hpurp, exec_errResp_of_core heject hr hax ht hep hpurp⟩
  case agent =>
    intro p s u r heject hr hpurp
    exact ⟨exec_compData_of_agent heject hr hpurp, exec_comp_of_agent heject hr hpurp, exec_errResp_of_agent heject hr hpurp⟩
  case retry =>
    intro p s u r heject ht hr hannex hcancel
    exact (exec_retry_of_not_annex heject hr hannex).trans (congrArg Host.Outcome.next (retried_of_no_tile ht hcancel u))
  case backoff => exact fun stop tag s r hr hwait hannex hheld => exec_retryBackoffExpiry_of_held hr hwait hannex hheld

end Sys2Proof.Proofs
end

section
/-! SUPPORT. EvictClean at a home (R111 to R113, R128, R137): the directory entry of the packet's sector loses the agent that sent it, and is freed where it then holds nobody and no
transaction is open; every other entry and every other part of the state stand. -/
namespace Sys2Proof.Proofs

open Sys2Proof.Machine Sys2Proof.Laws

theorem standing_reqs : Standing State.reqs := ⟨setF_reqs, setAplic_reqs, fun _ _ => rfl, modNi_reqs, fun _ _ => rfl⟩

/-! ### An entry that loses an agent -/

/-- An entry without an agent that it lists: without its owner, who is the one holder in DX, else without a sharer (R128). -/
def withoutAgent (e : DirEnt) (a : Nat) : DirEnt :=
  if e.st != .ds && e.owner == a then (if e.st == .dx then { e.dropOwner with ptrs := [] } else e.dropOwner) else e.dropS a

/-- What the directory keeps of an entry: nothing of one that holds nobody and has no transaction open (R137). -/
def keptEntry (e : DirEnt) : Option DirEnt := if e.empty && !e.busy then none else some e

section
variable {e : DirEnt} {a : Nat}

theorem withoutAgent_of_dx (hst : e.st = .dx) (howner : e.owner = a) : withoutAgent e a = { e with st := .ds, owner := 0, ptrs := [] } := by
  rw [withoutAgent, hst, howner, beq_self_eq_true]
  rfl

theorem withoutAgent_of_dox (hds : e.st ≠ .ds) (hdx : e.st ≠ .dx) (howner : e.owner = a) : withoutAgent e a = { e with st := .ds, owner := 0 } := by
  rw [withoutAgent, bne_iff_ne.mpr hds, howner, beq_self_eq_true, beq_eq_false_iff_ne.mpr hdx]
  rfl

/-- An agent that is not the owner leaves as a sharer. -/
theorem withoutAgent_of_sharer (hsharer : e.st = .ds ∨ e.owner ≠ a) (hfmt : e.fmt = false) : withoutAgent e a = { e with ptrs := e.ptrs.erase a } := by
  have hnotOwner : ¬(e.st != .ds && e.owner == a) = true := by
    rw [Bool.and_eq_true, bne_iff_ne, beq_iff_eq]
    exact fun ⟨hds, howner⟩ => hsharer.elim hds fun hne => hne howner
  rw [withoutAgent, if_neg hnotOwner, DirEnt.dropS, hfmt]
  rfl

/-- An entry in DS is kept while it names a sharer or is BUSY. -/
theorem keptEntry_of_ds (hst : e.st = .ds) : keptEntry e = if e.anyS || e.busy then some e else none := by
  rw [keptEntry, DirEnt.empty, hst]
  cases e.anyS <;> cases e.busy <;> rfl

/-- An entry with an owner is kept. -/
theorem keptEntry_of_owned (hst : e.st ≠ .ds) : keptEntry e = some e := by
  rw [keptEntry, DirEnt.empty, beq_eq_false_iff_ne.mpr hst]
  rfl

/-- In DS with pointers, while one of them is left. -/
theorem keptEntry_of_pointers (hst : e.st = .ds) (hfmt : e.fmt = false) : keptEntry e = if e.ptrs = [] ∧ e.busy = false then none else some e := by
  rw [keptEntry_of_ds hst, DirEnt.anyS, hfmt]
  cases e.ptrs <;> cases e.busy <;> rfl

/-! ### Who is listed -/

variable (s : State)

theorem listed_of_owner (hst : e.st ≠ .ds) (howner : e.owner = a) : s.listed e a = true := by
  rw [State.listed, bne_iff_ne.mpr hst, howner, beq_self_eq_true]
  rfl

theorem listed_of_pointer (hfmt : e.fmt = false) (ha : a ∈ e.ptrs) : s.listed e a = true := by
  rw [State.listed, hfmt, if_neg Bool.false_ne_true, List.contains_iff_mem.mpr ha, Bool.or_true]

end

/-! ### The directory without a listing -/

section
variable {s : State} {t sec a : Nat}

theorem dropListing_of_absent (hfind : s.dirFind t sec = none) : s.dropListing t sec a = s := by
  simp only [State.dropListing, hfind]

variable {k : Nat} {e : DirEnt} (hfind : s.dirFind t sec = some (k, e))
include hfind

theorem dropListing_of_not_listed (hlisted : s.listed e a = false) : s.dropListing t sec a = s := by
  simp only [State.dropListing, hfind, hlisted, Bool.not_false, if_true]

theorem dropListing_of_listed (hlisted : s.listed e a = true) : s.dropListing t sec a = s.setDir k (keptEntry (withoutAgent e a)) := by
  simp only [State.dropListing, hfind, hlisted, Bool.not_true, Bool.false_eq_true, if_false]
  exact (apply_ite (s.setDir k) _ _ _).symm

/-- The entry that listed the agent, after it has left. -/
theorem dir_dropListing_of_listed (hlisted : s.listed e a = true) : (s.dropListing t sec a).dir.get none k = keptEntry (withoutAgent e a) := by
  rw [dropListing_of_listed hfind hlisted]
  exact get_set_same ..

/-- No entry but the sector's own changes. -/
theorem dir_dropListing_other {j : Nat} (hj : j ≠ k) : (s.dropListing t sec a).dir.get none j = s.dir.get none j := by
  cases hlisted : s.listed e a with
  | false => rw [dropListing_of_not_listed hfind hlisted]
  | true =>
    rw [dropListing_of_listed hfind hlisted]
    exact get_set_other _ _ _ _ _ _ hj

end

/-- The end of a listing changes the directory alone. -/
theorem dropListing_changes_dir (s : State) (t sec a : Nat) : ∃ d, s.dropListing t sec a = { s with dir := d } := by
  cases hfind : s.dirFind t sec with
  | none => exact ⟨s.dir, dropListing_of_absent hfind⟩
  | some found =>
    cases hlisted : s.listed found.2 a with
    | false => exact ⟨s.dir, dropListing_of_not_listed hfind hlisted⟩
    | true => exact ⟨_, dropListing_of_listed hfind hlisted⟩

theorem dropListing_frame (s : State) (t sec a : Nat) :
    (s.dropListing t sec a).outq = s.outq ∧ (s.dropListing t sec a).reqs = s.reqs ∧ (s.dropListing t sec a).slices = s.slices ∧
      (s.dropListing t sec a).regs = s.regs ∧ (s.dropListing t sec a).mem = s.mem ∧ (s.dropListing t sec a).llc = s.llc := by
  obtain ⟨d, hd⟩ := dropListing_changes_dir s t sec a
  rw [hd]
  exact ⟨rfl, rfl, rfl, rfl, rfl, rfl⟩

/-- Settles O50: the agent is listed as the owner or by a pointer, and what the directory keeps of its entry follows from the entry's state. -/
theorem evictCleanAtHome : Obligations.EvictCleanAtHome := by
  intro p s u n a heject hn ha
  subst hn
  obtain ⟨houtq, hreqs, hslices, hregs, hmem, hllc⟩ := dropListing_frame u (u.tileOf p) p.sec a
  refine ⟨_, exec_evictClean_of_agent heject ha, houtq.trans (standing_outq.eject heject), hreqs.trans (standing_reqs.eject heject),
    hslices.trans (standing_slices.eject heject), hregs, hmem.trans (standing_mem.eject heject), hllc.trans (standing_llc.eject heject), dropListing_of_absent,
    fun k e hfind => ⟨fun j hj => ?other, dropListing_of_not_listed hfind, fun hst howner hfmt => ?dx, fun hds hdx howner => ?dox, fun hds howner hfmt hptr => ?owned,
      fun hds hfmt hptr => ?ds⟩⟩
  case other => rw [dir_dropListing_other hfind hj, standing_dir.eject heject]
  case dx =>
    have hds : e.st ≠ .ds := by rw [hst]; decide
    rw [dir_dropListing_of_listed hfind (listed_of_owner u hds howner), withoutAgent_of_dx hst howner]
    refine (keptEntry_of_pointers (e := { e with st := .ds, owner := 0, ptrs := [] }) rfl hfmt).trans ?_
    cases e.busy <;> rfl
  case dox =>
    rw [dir_dropListing_of_listed hfind (listed_of_owner u hds howner), withoutAgent_of_dox hds hdx howner]
    exact keptEntry_of_ds rfl
  case owned =>
    rw [dir_dropListing_of_listed hfind (listed_of_pointer u hfmt hptr), withoutAgent_of_sharer (.inr howner) hfmt]
    exact keptEntry_of_owned hds
  case ds =>
    rw [dir_dropListing_of_listed hfind (listed_of_pointer u hfmt hptr), withoutAgent_of_sharer (.inl hds) hfmt]
    exact keptEntry_of_pointers hds hfmt

end Sys2Proof.Proofs
end

section
/-! SUPPORT. Memory and I/O messages (R139, R208 to R210, R248, R268): what a memory port's array, a gate's deed check, a home's table or the form of an I/O access answers decides. -/
namespace Sys2Proof.Proofs

open Sys2Proof.Machine Sys2Proof.Laws

/-! ### A memory port -/

/-- A MemWrite that arrives with its data does what its receiver does with them (R209, R210). -/
theorem receiveWrite_of_ejects {s u : State} {p q0 q1 : Packet} (heject : EjectsWrite s p q0 q1 u) (f : State → State) : s.receiveWrite p q0 q1 f = f u := by
  obtain ⟨u0, u1, hp, hq0, hq1⟩ := heject
  rw [State.receiveWrite, receive_some _ hp]
  split at hq1
  case isTrue hboth => rw [if_pos hboth, receive_some _ hq0, receive_some _ hq1]
  case isFalse hone =>
    cases hq1
    rw [if_neg hone, receive_some _ hq0]

section
variable {s u s1 : State} {p : Packet} {re : ReadErr}

/-- The port reads the granule (R268). -/
theorem exec_memRead_of_data {d0 d1 : Sector} {p0 p1 : Bool} (heject : s.eject p = some u)
    (hread : u.portRead (mpOf p) p.gran p.widN true re = (.data d0 d1 p0 p1, s1)) :
    exec (.memRead p re) s = .next (s1.send { memAnswer p Opc.memData 0 with address := 0, payload := d0, poison := p0, payload2 := d1, poison2 := p1 }) := by
  rw [exec_of_receive heject rfl]
  simp only [State.memReadAt, hread]

/-- The port cannot answer with data. -/
theorem exec_memRead_of_err {e : Nat} (heject : s.eject p = some u) (hread : u.portRead (mpOf p) p.gran p.widN true re = (.err e, s1)) :
    exec (.memRead p re) s = .next (s1.send (memAnswer p Opc.errResp (errAttr e Origin.memPort))) := by
  rw [exec_of_receive heject rfl]
  simp only [State.memReadAt, hread]

/-- The port performs the write (R268). -/
theorem exec_memWrite_of_performed {q0 q1 : Packet} (heject : EjectsWrite s p q0 q1 u)
    (hwrite : u.portWrite (mpOf p) p.gran p.widN p.victim (wdataOf p q0 q1) re = (none, s1)) :
    exec (.memWrite p q0 q1 re) s = .next (s1.send (memAnswer p Opc.memAck 0)) := by
  refine congrArg Host.Outcome.next ((receiveWrite_of_ejects heject _).trans ?_)
  simp only [State.memWriteAt, hwrite]

end

/-! ### A gate -/

section
variable {s u s1 : State} {p : Packet}

/-- A permitted read goes on to the annex (R248). -/
theorem exec_gateMemRead_of_permitted (heject : s.eject p = some u) (hdeed : u.gateDeed (gateOf p) p.epN p false = (none, s1)) :
    exec (.gateMemRead p) s = .next ((s1.deliver (gateOf p) p).openGate (gateOf p) { kind := .memRead, agent := p.epN, pkt := p }) := by
  rw [exec_of_receive heject rfl]
  simp only [hdeed]

/-- A permitted write of whole sectors is answered, and goes on to the annex (R210, R248). -/
theorem exec_gateMemWrite_of_permitted {q0 q1 : Packet} (heject : EjectsWrite s p q0 q1 u) (hdeed : u.gateDeed (gateOf p) p.epN p true = (none, s1))
    (hwhole : ((p.s0 && p.m0) || (p.s1 && p.m1)) = false) :
    exec (.gateMemWrite p q0 q1) s =
      .next ((s1.send { answer p (axStop (gateOf p)) Opc.comp 0 with endpoint := 2 }).gateForward (gateOf p) p.epN (gateData p q0 q1)) := by
  refine congrArg Host.Outcome.next ((receiveWrite_of_ejects heject _).trans ?_)
  simp only [hdeed, hwhole, Bool.false_eq_true, if_false]

end

/-! ### A home -/

/-- The acknowledgement of a write that no transaction waits for returns its credit (R139). -/
theorem exec_memAck_of_unawaited {s u s2 : State} {p : Packet} {t : Nat} {m : MemMsg} (heject : s.eject p = some u) (ht : stopTile p.dstN = some t)
    (htake : u.memTake t p.tagN = some (m, s2)) (hsec : m.forSec = none) : exec (.memAck p) s = .next ((s2.memPump t).hqScan t 49) := by
  rw [exec_of_receive heject rfl]
  simp only [ht, htake, hsec]

/-! ### I/O accesses -/

/-- An I/O access of a reserved size or off its size's boundary (R208). -/
def IllFormed (p : Packet) : Prop := p.ioSize = 7 ∨ p.ioOffset % 2 ^ p.ioSize ≠ 0

theorem not_illFormed {p : Packet} (hsize : p.ioSize ≠ 7) (halign : p.ioOffset % 2 ^ p.ioSize = 0) : ¬IllFormed p :=
  fun h => h.elim hsize fun hoff => hoff halign

/-- A state in which the data of an I/O write has been pulled (R208). -/
def dataPulled (s : State) (p : Packet) : State := { s.send (answer p p.dstN Opc.dataPull 0) with ioWrites := s.ioWrites ++ [p] }

theorem dataPulled_frame (s : State) (p : Packet) :
    (dataPulled s p).ioWrites = s.ioWrites ++ [p] ∧ (dataPulled s p).outq = s.outq ++ [answer p p.dstN Opc.dataPull 0] ∧ (dataPulled s p).regs = s.regs ∧
      (dataPulled s p).mem = s.mem := ⟨rfl, rfl, rfl, rfl⟩

section
variable {s : State} {p : Packet} (hregion : p.ioRegion = .control)
include hregion

/-- A control-space read of legal form is answered by its register. -/
theorem ioRead_of_wellFormed (hform : ¬IllFormed p) : s.ioRead p = s.regRead p := by
  refine (if_neg hform).trans ?_
  rw [hregion]

/-- A control-space write of legal form has its data pulled. -/
theorem ioWrite_of_wellFormed (hform : ¬IllFormed p) : s.ioWrite p = dataPulled s p := by
  refine (if_neg hform).trans ?_
  rw [hregion]
  rfl

theorem ioRead_of_illFormed (hform : IllFormed p) : s.ioRead p = s.send (errAnswer p p.dstN Err.format Origin.register) := by
  refine (if_pos hform).trans ?_
  rw [if_pos hregion]

theorem ioWrite_of_illFormed (hform : IllFormed p) : s.ioWrite p = s.send (errAnswer p p.dstN Err.format Origin.register) := by
  refine (if_pos hform).trans ?_
  rw [if_pos hregion]

end

/-- Sound data reach the parts that wait for them at a live core, where no fence probe waits (R208, R217). -/
theorem exec_ioData_of_parts {s u : State} {p : Packet} {t : Nat} {r : Req} (heject : s.eject p = some u) (ht : stopTile p.dstN = some t)
    (hr : u.req p.dstN p.tagN = some r) (hpoison : p.poison = false) (hprobe : r.purp ≠ .probe) (hdead : (u.core (2 * t + r.ep)).dead = false) :
    exec (.ioData p) s = .next (((u.setReq p.dstN p.tagN none).onCore (2 * t + r.ep) (fun s h => s.takeParts h p.tagN p.payload false)).corePump (2 * t + r.ep)) := by
  rw [exec_of_receive heject rfl]
  simp only [ht, hr, hdead, hprobe, hpoison, Bool.false_eq_true, if_false]

/-- Settles O18: each message by what it meets at its target. -/
theorem memoryAndIoMessages : Obligations.MemoryAndIoMessages := by
  refine ⟨?read, ?readErr, ?write, ?gateRead, ?gateWrite, ?memData, ?memAck, ?ioRead, ?ioWrite, ?illFormed, ?ioData⟩
  case read => exact fun p re s u s1 d0 d1 p0 p1 heject hread => exec_memRead_of_data heject hread
  case readErr => exact fun p re s u s1 e heject hread => exec_memRead_of_err heject hread
  case write => exact fun p q0 q1 re s u s1 heject hwrite => exec_memWrite_of_performed heject hwrite
  case gateRead => exact fun p s u s1 heject hdeed => exec_gateMemRead_of_permitted heject hdeed
  case gateWrite => exact fun p q0 q1 s u s1 heject hdeed hwhole => exec_gateMemWrite_of_permitted heject hdeed hwhole
  case memData => exact fun p s u heject => exec_of_receive (f := fun s => s.homeMemData p) heject rfl
  case memAck => exact fun p s u s2 t m heject ht htake hsec => exec_memAck_of_unawaited heject ht htake hsec
  case ioRead =>
    intro p s u heject hsize halign hregion
    rw [exec_of_receive heject rfl, ioRead_of_wellFormed hregion (not_illFormed hsize halign)]
  case ioWrite =>
    intro p s u heject hsize halign hregion
    obtain ⟨hwrites, houtq, hregs, hmem⟩ := dataPulled_frame u p
    refine ⟨dataPulled u p, ?_, hwrites, houtq, hregs, hmem.trans (standing_mem.eject heject)⟩
    rw [exec_of_receive heject rfl, ioWrite_of_wellFormed hregion (not_illFormed hsize halign)]
  case illFormed =>
    intro p s u heject hform hregion
    refine ⟨?_, ?_⟩
    · rw [exec_of_receive heject rfl, ioRead_of_illFormed hregion hform]
    · rw [exec_of_receive heject rfl, ioWrite_of_illFormed hregion hform]
  case ioData => exact fun p s u t r heject ht hr hpoison hprobe hdead => exec_ioData_of_parts heject ht hr hpoison hprobe hdead

end Sys2Proof.Proofs
end

section
/-! SUPPORT. Annex packets, management and the gate timers (R151, R206, R212, R238, R249, R251, R541): what leaves a gate's queues, which transaction an expired timer names (log entry
35), and the registers of an interval's end. -/
namespace Sys2Proof.Proofs

open Sys2Proof.Machine Sys2Proof.Laws

/-! ### Packets at a gate -/

@[simp] theorem gate_modGate_same (s : State) (k : Nat) (f : Gate → Gate) : (s.modGate k f).gate k = f (s.gate k) := by
  rw [State.gate, modGate_gates, get_set_same]

/-- The annex takes the AgentFlush that waits for its agent (R151). -/
theorem exec_agentFlush_of_waiting {port : Fin 6} {j : Fin 16} {s : State} {p : Packet}
    (hp : (s.gate port.val).toAnnex.find? (fun p => p.opcode == Opc.agentFlush && p.epN == j.val) = some p) :
    exec (.agentFlush port j) s =
      .next (s.modGate port.val (fun g => { g with toAnnex := g.toAnnex.erase p, flushing := g.flushing ||| (1#16 <<< j.val) })) := by
  show execAgentFlush port j s = _
  simp only [execAgentFlush, hp]

/-- A notice is recorded with its port, its agent and its event (R206, R212; log entries 33 and 34). -/
theorem exec_mgtNotify_of_port {p : Packet} {s u : State} {k : Nat} (heject : s.eject p = some u) (hk : stopAx p.srcN = some k) :
    exec (.mgtNotify p) s = .next (u.record Ev.annexNotify (srcAx k 255) (w64 (k + p.tagN * 2 ^ 8 + p.attr.toNat * 2 ^ 16)) (w64 p.address.toNat)) := by
  rw [exec_of_receive heject rfl, hk, Option.getD_some]

/-- The answer to a management request is taken and counted (R206). -/
theorem exec_mgtErr_of_port {p : Packet} {s u : State} {k : Nat} (heject : s.eject p = some u) (hk : stopAx p.dstN = some k) :
    exec (.mgtErr p) s = .next (u.modGate k (fun g => { g with discarded := g.discarded + 1 })) := by
  rw [exec_of_receive heject rfl]
  simp only [hk]

/-! ### The end of a strike interval -/

/-- A field set to 0 in each of the units below a bound. -/
def clearedBelow (s : State) (f : Fld) (n : Nat) : State := (List.range n).foldl (fun s k => s.setF f k 0 0) s

theorem clearedBelow_succ (s : State) (f : Fld) (n : Nat) : clearedBelow s f (n + 1) = (clearedBelow s f n).setF f n 0 0 := by
  rw [clearedBelow, List.range_succ, List.foldl_append]
  rfl

theorem exec_strikeIntervalReset (s : State) : exec .strikeIntervalReset s = .next (clearedBelow s F.axgQstatus_strikes 6) := rfl

/-- Units below 512 have registers of their own. -/
theorem regKey_ne_of_unit_ne {r : RegName} {u v i : Nat} (hu : u < 512) (hv : v < 512) (h : u ≠ v) : regKey r u i ≠ regKey r v i := by
  intro hkey
  obtain ⟨-, hunit, -⟩ := regKey_inj _ _ _ _ _ _ hkey
  rw [Nat.mod_eq_of_lt hu, Nat.mod_eq_of_lt hv] at hunit
  exact h hunit

/-- The field reads 0 in each of the units. -/
theorem getF_clearedBelow {f : Fld} (hf : f.lsb + f.width ≤ 64) (s : State) {n : Nat} (hn : n ≤ 512) {k : Nat} (hk : k < n) :
    (clearedBelow s f n).getF f k 0 = 0 := by
  induction n with
  | zero => exact absurd hk (Nat.not_lt_zero k)
  | succ n ih =>
    rw [clearedBelow_succ]
    by_cases hkn : k = n
    · rw [hkn, getF_setF_same _ _ _ _ _ hf, Nat.zero_mod]
    · rw [getF_setF_reg _ _ _ _ _ _ _ _ (regKey_ne_of_unit_ne (by omega) (by omega) hkn)]
      exact ih (by omega) (by omega)

/-- The registers of other names, memory and the harts stand. -/
theorem clearedBelow_frame (s : State) (f : Fld) (n : Nat) :
    (∀ r u i, r ≠ f.reg → (clearedBelow s f n).regWord r u i = s.regWord r u i) ∧ (clearedBelow s f n).mem = s.mem ∧ (clearedBelow s f n).harts = s.harts := by
  induction n with
  | zero => exact ⟨fun _ _ _ _ => rfl, rfl, rfl⟩
  | succ n ih =>
    obtain ⟨hregs, hmem, hharts⟩ := ih
    rw [clearedBelow_succ]
    exact ⟨fun r u i hr => (regWord_setRegWord_name _ _ _ _ _ _ _ _ hr).trans (hregs r u i hr), (setF_mem ..).trans hmem, (setF_harts ..).trans hharts⟩

/-! ### Timers -/

section
variable {port : Fin 6} {i : Nat} {s : State} {x : GateTx} (hx : (s.gate port.val).txs[i]? = some x)
include hx

/-- A transaction of a kind that a timer guards expires, and is counted (R238). -/
theorem expiring_of_mem {kinds : List GateKind} (hkind : x.kind ∈ kinds) :
    s.expiring port.val i kinds = some (x, s.pmu .ax port.val 0x407 1 {}) := by
  simp only [State.expiring, hx, List.contains_iff_mem.mpr hkind, if_true]

theorem exec_snoopToExpiry_of_snoop (hkind : x.kind = .snoop) :
    exec (.snoopToExpiry port i) s = .next ((((s.pmu .ax port.val 0x407 1 {}).gateFor port.val x).closeGate port.val x true).quarantine port.val 1 x.agent) := by
  show execSnoopToExpiry port i s = _
  rw [execSnoopToExpiry, expiring_of_mem hx (List.mem_singleton.mpr hkind)]

theorem exec_ackToExpiry_of_ack (hkind : x.kind = .ack ∨ x.kind = .wdata) :
    exec (.ackToExpiry port i) s = .next ((((s.pmu .ax port.val 0x407 1 {}).gateFor port.val x).closeGate port.val x true).quarantine port.val 2 x.agent) := by
  show execAckToExpiry port i s = _
  rw [execAckToExpiry, expiring_of_mem hx (by rwa [List.mem_cons, List.mem_singleton])]

/-- A lost response is an error; the loss of a MemWrite quarantines its agent, that of a MemRead is a strike (R238, R252). -/
theorem exec_respToExpiry_of_mem (hkind : x.kind = .memRead ∨ x.kind = .memWrite) :
    exec (.respToExpiry port i) s =
      .next (if x.kind = .memWrite then (((s.pmu .ax port.val 0x407 1 {}).closeGate port.val x true).gateError port.val x Err.timeout).quarantineAgent port.val x.agent
        else (((s.pmu .ax port.val 0x407 1 {}).closeGate port.val x true).gateError port.val x Err.timeout).strike port.val x.agent 0) := by
  show execRespToExpiry port i s = _
  rw [execRespToExpiry, expiring_of_mem hx (by rwa [List.mem_cons, List.mem_singleton])]

theorem exec_mmioToExpiry_of_mmio (hkind : x.kind = .mmio) :
    exec (.mmioToExpiry port i) s =
      .next ((((s.pmu .ax port.val 0x407 1 {}).closeGate port.val x true).gateError port.val x Err.timeout).strike port.val x.agent 0) := by
  show execMmioToExpiry port i s = _
  rw [execMmioToExpiry, expiring_of_mem hx (List.mem_singleton.mpr hkind)]

theorem exec_flushTimeout_of_flush (hkind : x.kind = .flush) :
    exec (.flushTimeout port i) s = .next (((s.pmu .ax port.val 0x407 1 {}).closeGate port.val x true).quarantine port.val 5 x.agent) := by
  show execFlushTimeout port i s = _
  rw [execFlushTimeout, expiring_of_mem hx (List.mem_singleton.mpr hkind)]

end

/-! ### Reclaiming -/

/-- A scan that finds the directory without entries is over (R251). -/
theorem exec_reclaimComplete_of_no_entry {port : Fin 6} {s : State} (hbusy : s.isF F.axgPortStatus_reclaimBusy port.val 0 = true) (hdir : s.dir = []) :
    exec (.reclaimComplete port) s =
      .next ((s.setF F.axgPortStatus_reclaimBusy port.val 0 0).setF F.axgPortStatus_reclaimed port.val 0 1) := by
  show execReclaimComplete port s = _
  simp only [execReclaimComplete, hbusy, hdir, List.foldl_nil, List.any_nil, Bool.not_true, Bool.false_eq_true, if_false]

/-- Settles O24: packets by the queue that they leave, timers by the kind of the transaction that expires, the interval's end port by port. -/
theorem annexPacketsAndTimers : Obligations.AnnexPacketsAndTimers := by
  refine ⟨?arrival, ?probe, ?flush, ?flushDone, ?notify, ?err, ?interval, ?timers, ?reclaim⟩
  case arrival => exact fun port framed p s => rfl
  case probe => exact fun p s u heject => exec_of_receive (f := fun s => s.fenceProbe (gateOf p) p) heject rfl
  case flush =>
    intro port j s p hp
    exact ⟨_, exec_agentFlush_of_waiting hp, gate_modGate_same .., modGate_regs .., modGate_outq .., modGate_mem ..⟩
  case flushDone => exact fun port j s => rfl
  case notify => exact fun p s u k heject hk => exec_mgtNotify_of_port heject hk
  case err =>
    intro p s u k heject hk
    exact ⟨_, exec_mgtErr_of_port heject hk, gate_modGate_same .., modGate_regs .., (modGate_outq ..).trans (standing_outq.eject heject)⟩
  case interval =>
    intro s
    obtain ⟨hregs, hmem, hharts⟩ := clearedBelow_frame s F.axgQstatus_strikes 6
    exact ⟨_, exec_strikeIntervalReset s, fun k hk => getF_clearedBelow (by decide) s (by decide) hk, hregs, hmem, hharts⟩
  case timers =>
    intro port i s x hx
    refine ⟨exec_snoopToExpiry_of_snoop hx, exec_ackToExpiry_of_ack hx, fun hkind => ?read, fun hkind => ?write, exec_mmioToExpiry_of_mmio hx,
      exec_flushTimeout_of_flush hx⟩
    case read =>
      have hread : x.kind ≠ .memWrite := by rw [hkind]; decide
      rw [exec_respToExpiry_of_mem hx (.inl hkind), if_neg hread]
    case write => rw [exec_respToExpiry_of_mem hx (.inr hkind), if_pos hkind]
  case reclaim => exact fun port s hbusy hdir => exec_reclaimComplete_of_no_entry hbusy hdir

end Sys2Proof.Proofs
end

section
/-! SUPPORT. What an error's record leaves (R484, R489, R495): the Annals' recorder and a RAS bank write registers, the Annals, an interrupt source and the Keeper's list of records to
re-arm, and nothing else. -/
namespace Sys2Proof.Proofs

open Sys2Proof.Machine Sys2Proof.Laws

/-- The state without what the recorder of the Annals and the RAS banks write. -/
def unrecorded (s : State) : State := { s with regs := [], aplic := [], annals := {}, kpr := {} }

theorem unrecorded_net (s : State) : (unrecorded s).net = s.net := rfl

theorem unrecorded_mem (s : State) : (unrecorded s).mem = s.mem := rfl

/-! ### Registers, sources and the recorder's stores -/

theorem unrecorded_setRegs (s : State) (m : Map Word) : unrecorded { s with regs := m } = unrecorded s := rfl

theorem unrecorded_setRegWord (s : State) (r : RegName) (u i : Nat) (v : Word) : unrecorded (s.setRegWord r u i v) = unrecorded s :=
  unrecorded_setRegs s _

theorem unrecorded_setF (s : State) (f : Fld) (u i v : Nat) : unrecorded (s.setF f u i v) = unrecorded s := unrecorded_setRegWord ..

theorem unrecorded_setAplic (s : State) (k : Nat) (x : AplicSrc) : unrecorded (s.setAplic k x) = unrecorded s := by
  unfold State.setAplic
  generalize s.aplic.set _ _ _ = m
  rfl

theorem unrecorded_setAnnals (s : State) (a : Annals) : unrecorded { s with annals := a } = unrecorded s := rfl

theorem unrecorded_incSat (s : State) (f : Fld) (u i : Nat) : unrecorded (s.incSat f u i) = unrecorded s := by
  rw [State.incSat, apply_ite unrecorded, unrecorded_setF, ite_self]

theorem unrecorded_raiseSrc (s : State) (i : Nat) : unrecorded (s.raiseSrc i) = unrecorded s := by
  simp only [State.raiseSrc, apply_ite unrecorded, unrecorded_setAplic, ite_self]

/-! ### The Annals -/

theorem unrecorded_annSync (s : State) : unrecorded s.annSync = unrecorded s := by simp only [State.annSync, unrecorded_setF]

theorem unrecorded_annDrop (s : State) : unrecorded s.annDrop = unrecorded s :=
  (unrecorded_incSat ..).trans (unrecorded_setAnnals ..)

theorem unrecorded_annNotify (s : State) (sev : Nat) : unrecorded (s.annNotify sev) = unrecorded s := by
  simp only [State.annNotify, apply_ite unrecorded, unrecorded_raiseSrc, unrecorded_setAnnals, ite_self]

theorem unrecorded_writeRec (s : State) (code sev : Nat) (src : Source) (d0 d1 : Word) (force : Bool) :
    unrecorded (s.writeRec code sev src d0 d1 force) = unrecorded s := by
  unfold State.writeRec
  dsimp only
  split
  · exact (unrecorded_annSync _).trans (unrecorded_annDrop s)
  · rw [unrecorded_annSync, unrecorded_annNotify, unrecorded_setF, unrecorded_setAnnals]

theorem unrecorded_record (s : State) (code : Nat) (src : Source) (d0 d1 : Word) : unrecorded (s.record code src d0 d1) = unrecorded s := by
  unfold State.record
  split
  · rfl
  · simp only [apply_ite unrecorded, unrecorded_writeRec, unrecorded_incSat, unrecorded_setAnnals, ite_self]

/-! ### The banks -/

theorem unrecorded_rasSignal (s : State) (v : Nat) : unrecorded (s.rasSignal v) = unrecorded s := by
  simp only [State.rasSignal, apply_ite unrecorded, unrecorded_raiseSrc, ite_self]

theorem unrecorded_rasWrite (s : State) (p : Place) (u i seqLo : Nat) (e : ErrInfo) : unrecorded (s.rasWrite p u i seqLo e) = unrecorded s := by
  have hrearm (t : State) (l : List (RegName × Nat × Nat)) : unrecorded { t with kpr := { t.kpr with rearm := l } } = unrecorded t := rfl
  unfold State.rasWrite
  dsimp only
  split <;> simp only [apply_ite unrecorded, unrecorded_rasSignal, unrecorded_setF, hrearm, unrecorded_setRegWord, ite_self]

theorem unrecorded_rasError (s : State) (p : Place) (u seqLo : Nat) (e : ErrInfo) : unrecorded (s.rasError p u seqLo e) = unrecorded s := by
  unfold State.rasError
  split
  · exact unrecorded_rasWrite ..
  · rw [apply_ite unrecorded, unrecorded_setF, ite_self]

/-- An error recorded in the Annals and in its bank leaves what neither writes. -/
theorem unrecorded_errorEvent (s : State) (p : Place) (u : Nat) (e : ErrInfo) (src : Source) (d0 d1 : Word) :
    unrecorded (s.errorEvent p u e src d0 d1) = unrecorded s :=
  (unrecorded_rasError ..).trans (unrecorded_record ..)

theorem errorEvent_net (s : State) (p : Place) (u : Nat) (e : ErrInfo) (src : Source) (d0 d1 : Word) : (s.errorEvent p u e src d0 d1).net = s.net := by
  rw [← unrecorded_net, unrecorded_errorEvent, unrecorded_net]

theorem errorEvent_mem (s : State) (p : Place) (u : Nat) (e : ErrInfo) (src : Source) (d0 d1 : Word) : (s.errorEvent p u e src d0 d1).mem = s.mem := by
  rw [← unrecorded_mem, unrecorded_errorEvent, unrecorded_mem]

end Sys2Proof.Proofs
end

section
/-! SUPPORT. A parity mismatch of a link (R191, R192): in a payload group a packet of the mesh is poisoned, in a header group the error is fatal. -/
namespace Sys2Proof.Proofs

open Sys2Proof.Machine Sys2Proof.Laws

/-- A packet poisoned in the first or the second sector that it carries (R216). -/
def poisoned (p : Packet) (second : Bool) : Packet := if second then { p with poison2 := true } else { p with poison := true }

/-- The packets of the mesh, one of them poisoned wherever it is. -/
def poisonedNet (l : List Flight) (p : Packet) (second : Bool) : List Flight := l.map (fun f => if f.pkt == p then { f with pkt := poisoned p second } else f)

theorem poisonedNet_singleton (f : Flight) (second : Bool) : poisonedNet [f] f.pkt second = [{ f with pkt := poisoned f.pkt second }] := by
  rw [poisonedNet, List.map_singleton, beq_self_eq_true, if_pos rfl]

theorem exec_linkParityError_of_header (stop : Fin 160) (p : Packet) (second : Bool) (s : State) :
    exec (.linkParityError stop p true second) s =
      .next ((s.rasError .stop stop.val s.annals.nextSeq { sev := .uec, code := Ev.fatal, unit := 3 }).fatal Fatal.meshHeader) := rfl

/-- The error of a payload group is recorded in the Annals, with cause 4 and the address of the sector, and in the stop's bank (R191, R484, R496). -/
theorem exec_linkParityError_of_payload {s : State} {p : Packet} (hnet : s.net.any (fun f => f.pkt == p) = true) (stop : Fin 160) (second : Bool) :
    exec (.linkParityError stop p false second) s =
      .next (({ s with net := poisonedNet s.net p second } : State).errorEvent .stop stop.val
        { sev := .ued, code := Ev.sectorPoisoned, addr := some ((p.sec + second.toNat) * 64) } (srcStop stop.val 3 p.widN)
        (w64 ((p.sec + second.toNat) * 64)) 4) := by
  show execLinkParityError stop p false second s = _
  rw [execLinkParityError, if_neg Bool.false_ne_true, if_pos hnet]
  rfl

/-- A damaged data flit's packet stays in the mesh, poisoned, and memory stands. -/
theorem gives_linkParityError_of_alone {s : State} {f : Flight} (hnet : s.net = [f]) (stop : Fin 160) (second : Bool) :
    Gives (.linkParityError stop f.pkt false second) s (fun t => t.net = [{ f with pkt := poisoned f.pkt second }] ∧ t.mem = s.mem) := by
  have hany : s.net.any (fun g => g.pkt == f.pkt) = true := by
    rw [hnet, List.any_cons, beq_self_eq_true, Bool.true_or]
  refine ⟨_, exec_linkParityError_of_payload hany stop second, ?_, errorEvent_mem ..⟩
  rw [errorEvent_net]
  show poisonedNet s.net f.pkt second = _
  rw [hnet, poisonedNet_singleton]

/-! ### The record of the fatal error -/

theorem incSat_annals (s : State) (f : Fld) (u i : Nat) : (s.incSat f u i).annals = s.annals := by
  rw [State.incSat, apply_ite State.annals, setF_annals, ite_self]

theorem getF_incSat_field (s : State) {f g : Fld} (u i : Nat) (hr : g.reg = f.reg) (h : f.lsb + f.width ≤ g.lsb ∨ g.lsb + g.width ≤ f.lsb) :
    (s.incSat f u i).getF g u i = s.getF g u i := by
  unfold State.incSat
  split
  · rfl
  · exact getF_setF_field s f g u i _ hr h

/-- The state that a fatal error's record is written in: the first cause latched and the error counted (R492). -/
def fatalLatched (s : State) (cause : Nat) : State :=
  (if s.getF F.anlStatus_fatalCause 0 0 = 0 then s.setF F.anlStatus_fatalCause 0 0 cause else s).incSat F.anlStatus_fatalCount 0 0

theorem fatal_eq (s : State) (cause : Nat) :
    s.fatal cause = ((fatalLatched s cause).writeRec Ev.fatal 7 srcSvc (w64 cause) (w64 s.mtime) true).enterQuarantine := rfl

theorem annals_fatalLatched (s : State) (cause : Nat) : (fatalLatched s cause).annals = s.annals := by
  rw [fatalLatched, incSat_annals, apply_ite State.annals, setF_annals, ite_self]

theorem fatalCause_fatalLatched (s : State) {cause : Nat} (hcause : cause < 2 ^ 8) :
    (fatalLatched s cause).getF F.anlStatus_fatalCause 0 0 =
      if s.getF F.anlStatus_fatalCause 0 0 = 0 then cause else s.getF F.anlStatus_fatalCause 0 0 := by
  have hlatch : (s.setF F.anlStatus_fatalCause 0 0 cause).getF F.anlStatus_fatalCause 0 0 = cause :=
    (getF_setF_same s F.anlStatus_fatalCause 0 0 cause (by decide)).trans (Nat.mod_eq_of_lt hcause)
  rw [fatalLatched, getF_incSat_field (f := F.anlStatus_fatalCount) (g := F.anlStatus_fatalCause) _ _ _ rfl (.inr (by decide))]
  split
  · exact hlatch
  · rfl

/-- Settles O54: the group decides between poison and a fatal error, and the fatal error's record is that of the state with its cause latched. -/
theorem parityMismatch : Obligations.ParityMismatch := by
  refine ⟨?payload, ?header, ?recorded⟩
  case payload =>
    rintro stop p second s _ hnet rfl
    exact exec_linkParityError_of_payload hnet stop second
  case header =>
    rintro stop p second s _ rfl
    exact exec_linkParityError_of_header stop p second s
  case recorded => exact fun s => ⟨fatalLatched s Fatal.meshHeader, annals_fatalLatched .., fatalCause_fatalLatched s (by decide), fatal_eq ..⟩

end Sys2Proof.Proofs
end

section
/-! SUPPORT. What counting an event at an uncore block leaves (R510, R515): its counters' registers alone change. -/
namespace Sys2Proof.Proofs

open Sys2Proof.Machine Sys2Proof.Laws

/-- A part of the state that no counter of a block is in; the interfaces and the mesh can be such a part. -/
structure KeptByCounting {α : Type} (p : Place) (part : State → α) : Prop where
  count : ∀ (s : State) (u i v : Nat), part (s.setF (F.pmuCnt_count p) u i v) = part s
  overflow : ∀ (s : State) (u i v : Nat), part (s.setF (F.pmuCtl_ovf p) u i v) = part s

theorem keptByCounting_of_setF {α : Type} {part : State → α} (h : ∀ (s : State) (f : Fld) (u i v : Nat), part (s.setF f u i v) = part s) (p : Place) :
    KeptByCounting p part := ⟨fun s => h s _, fun s => h s _⟩

theorem keptByCounting_regWord {p : Place} {r : RegName} (hcnt : r ≠ pmuCntAt p) (hctl : r ≠ pmuCtlAt p) (u i : Nat) :
    KeptByCounting p (fun s => s.regWord r u i) :=
  ⟨fun _ _ _ _ => regWord_setRegWord_name _ _ _ _ _ _ _ _ hcnt, fun _ _ _ _ => regWord_setRegWord_name _ _ _ _ _ _ _ _ hctl⟩

namespace KeptByCounting

variable {α : Type} {part : State → α} {p : Place} (kept : KeptByCounting p part)
include kept

theorem pmuAdd (s : State) (u i n : Nat) : part (s.pmuAdd p u i n) = part s := by
  simp only [State.pmuAdd, apply_ite part, kept.count, kept.overflow, ite_self]

theorem pmu (s : State) (u ev n : Nat) (x : PmuCtx) : part (s.pmu p u ev n x) = part s := by
  unfold State.pmu
  split
  · rfl
  · refine List.foldlRecOn (motive := fun t => part t = part s) _ _ rfl fun t ht i _ => ?_
    rw [apply_ite part, kept.pmuAdd, ite_self, ht]

end KeptByCounting

theorem pmu_nis (s : State) (p : Place) (u ev n : Nat) (x : PmuCtx) : (s.pmu p u ev n x).nis = s.nis := (keptByCounting_of_setF setF_nis p).pmu s u ev n x

theorem pmu_net (s : State) (p : Place) (u ev n : Nat) (x : PmuCtx) : (s.pmu p u ev n x).net = s.net := (keptByCounting_of_setF setF_net p).pmu s u ev n x

theorem ni_congr {s u : State} (h : u.nis = s.nis) (st : Nat) : u.ni st = s.ni st := by rw [State.ni, State.ni, h]

end Sys2Proof.Proofs
end

section
/-! SUPPORT. Packets and tables of the mesh (R169 to R173, R178, R181, R183, R184, R192): injection by what its stop makes of the packet, absorption by what its router makes of it, and
the tables by who may write them. -/
namespace Sys2Proof.Proofs

open Sys2Proof.Machine Sys2Proof.Laws

/-! ### Injection -/

/-- A packet leaves its source's queue, and the list of those that the interface has before a fence (R175). -/
def leftQueue (s : State) (p : Packet) : State :=
  State.modNi { s with outq := s.outq.erase p } p.srcN (fun n => { n with before := n.before.erase p })

/-- A packet behind another of its stream waits (R173). -/
theorem exec_packetInject_of_stalled {p : Packet} {s : State} (hstall : s.stalledBehind p.srcN p = true) : exec (.packetInject p) s = .next s := by
  show execPacketInject p s = _
  rw [execPacketInject, hstall, Bool.true_or, if_pos rfl]

section
variable {p : Packet} {s u : State} (hstall : s.stalledBehind p.srcN p = false) (hmode : s.mode ≠ 7)
include hstall hmode

/-- Outside Quarantine, where nothing before it stalls, a packet leaves its queue if its interface can inject it. -/
theorem exec_packetInject_of_unstalled :
    exec (.packetInject p) s = .next (if (s.injectAt p.srcN p).1 then leftQueue (s.injectAt p.srcN p).2 p else s) := by
  show execPacketInject p s = _
  rw [execPacketInject, hstall, Bool.false_or, beq_false_of_ne hmode, Bool.false_and, if_neg Bool.false_ne_true]
  exact (apply_ite Host.Outcome.next ..).symm

theorem exec_packetInject_of_injected (hinject : s.injectAt p.srcN p = (true, u)) : exec (.packetInject p) s = .next (leftQueue u p) := by
  rw [exec_packetInject_of_unstalled hstall hmode, hinject, if_pos rfl]

/-- A packet that its interface cannot inject stays queued, and the command changes nothing (log entry 1): the places of router buffers are no state of their own (log entry 112). -/
theorem exec_packetInject_of_not_injected (hinject : s.injectAt p.srcN p = (false, u)) : exec (.packetInject p) s = .next s := by
  rw [exec_packetInject_of_unstalled hstall hmode, hinject, if_neg Bool.false_ne_true]

end

theorem injectAt_of_route {s : State} {st : Nat} {p : Packet} (hhold : s.mustHold st p = false) (hroute : (s.routeEntry st (s.bank st) p.dstN).2 = true) :
    s.injectAt st p = s.launchPacket st p := by
  rw [State.injectAt, hhold, if_neg Bool.false_ne_true, hroute, Bool.not_true, if_neg Bool.false_ne_true]

theorem injectAt_of_no_route {s : State} {st : Nat} {p : Packet} (hhold : s.mustHold st p = false) (hroute : (s.routeEntry st (s.bank st) p.dstN).2 = false) :
    s.injectAt st p = (true, s.missRoute st p) := by
  rw [State.injectAt, hhold, if_neg Bool.false_ne_true, hroute, Bool.not_false, if_pos rfl]

/-! ### Absorption -/

/-- A packet of the mesh taken by an absorber, which counts it (R181); `x` is what the counters of the stop filter by. -/
def absorbedAt (s : State) (st i : Nat) (x : PmuCtx) : State :=
  (State.modNi { s with net := s.net.eraseIdx i } st (fun n => { n with absorbed := n.absorbed + 1 })).pmu .stop st 0x207 1 x

theorem absorbedAt_frame (s : State) (st i : Nat) (x : PmuCtx) :
    ((absorbedAt s st i x).ni st).absorbed = (s.ni st).absorbed + 1 ∧ (absorbedAt s st i x).net = s.net.eraseIdx i ∧ (absorbedAt s st i x).mem = s.mem ∧
      (absorbedAt s st i x).harts = s.harts ∧ (absorbedAt s st i x).outq = s.outq := by
  refine ⟨?count, (pmu_net ..).trans (modNi_net ..), (standing_mem.pmu ..).trans (modNi_mem ..), (standing_harts.pmu ..).trans (modNi_harts ..),
    (standing_outq.pmu ..).trans (modNi_outq ..)⟩
  case count =>
    rw [absorbedAt, ni_congr (pmu_nis ..), ni_modNi_same]
    rfl

section
variable {p : Packet} {s u : State} {i : Nat} {f f' : Flight} (hi : s.net.findIdx? (fun f => samePacket f.pkt p) = some i) (hf : s.net[i]? = some f)
  (hforward : s.forward f 160 = (f', u)) {stop : Fin 160} {port : Option (Fin 4)}
include hi hf hforward

/-- Where nothing absorbs the packet it goes its way, and the command changes nothing (log entry 1). -/
theorem exec_packetAbsorb_of_not_absorbed (habsorb : s.absorbs stop.val port f' = none) : exec (.packetAbsorb stop port p) s = .next s := by
  show execPacketAbsorb stop port p s = _
  simp only [execPacketAbsorb, hi, Option.bind_some, hf, hforward, habsorb]

/-- A packet that asks for no answer in place of its target's is gone. -/
theorem exec_packetAbsorb_of_unanswered {fl : Bool} (habsorb : s.absorbs stop.val port f' = some fl) (hanswer : deadAnswer p stop.val fl Origin.absorber = none) :
    ∃ x, exec (.packetAbsorb stop port p) s = .next (absorbedAt u stop.val i x) := by
  show ∃ x, execPacketAbsorb stop port p s = .next (absorbedAt u stop.val i x)
  simp only [execPacketAbsorb, hi, Option.bind_some, hf, hforward, habsorb, hanswer]
  exact ⟨_, rfl⟩

end

/-! ### Tables -/

theorem keeperAt_of_may {s : State} {w : Issuer} {p : Place} {u : Nat} (hreach : s.reachable p u = true) (hwid : s.issuerWid w = 0) (f : State → State) :
    s.keeperAt w p u f = .next ((f s).accept w (p.stopOf u)) := by
  rw [State.keeperAt, hwid, guardedAt_of_reachable hreach]
  rfl

theorem keeperOnly_of_may {s : State} {w : Issuer} (hwid : s.issuerWid w = 0) (st : Nat) (f : State → State) :
    s.keeperOnly w st f = .next ((f s).accept w st) := by
  rw [State.keeperOnly, hwid]
  rfl

/-- A write of a staging copy, at the address of one of its registers (R184). -/
theorem exec_meterStagingWrite_of_may {s : State} {w : Issuer} {pa : BitVec 52} {r : RegName} {u i : Nat} (hpa : controlBase ≤ pa.toNat)
    (hloc : locate ((pa.toNat - controlBase) / 0x400000 % 256) ((pa.toNat - controlBase) % 0x400000) = some (r, u, i))
    (hstaging : r = .rtMeterLane ∨ r = .rtMeterWheel ∨ r = .niMeterWids) (hreach : s.reachable r.place u = true) (hwid : s.issuerWid w = 0) (v : Word) :
    exec (.meterStagingWrite w pa v) s = .next ((if s.isF F.niFabricStatus_meterPending 0 0 then s.setF F.niFabricStatus_ctrlReject 0 0 1
      else s.writeReg r u i v allBytes).accept w (r.place.stopOf u)) := by
  show execMeterStagingWrite w pa v s = _
  rw [execMeterStagingWrite, if_neg (Nat.not_lt.mpr hpa), hloc]
  dsimp only
  rw [if_pos hstaging, keeperAt_of_may hreach hwid]

/-- Settles O19: a packet by what its interface and its absorber make of it, a parity error by the group, and each table by its guard. -/
theorem meshPacketsAndTables : Obligations.MeshPacketsAndTables := by
  refine ⟨?inject, fun p s hstall => exec_packetInject_of_stalled hstall, ?absorb, fun stop p second s => exec_linkParityError_of_header stop p second s,
    fun stop f s hnet => gives_linkParityError_of_alone hnet stop false, ?route, ?spare, ?staging, ?eject⟩
  case inject =>
    intro p s u hstall hmode hhold
    refine ⟨fun hroute hlaunch => ?launched, fun hroute hlaunch => ?noSlot, fun hroute hu => ?missed⟩
    case launched => exact exec_packetInject_of_injected hstall hmode ((injectAt_of_route hhold hroute).trans hlaunch)
    case noSlot => exact exec_packetInject_of_not_injected hstall hmode ((injectAt_of_route hhold hroute).trans hlaunch)
    case missed =>
      rw [hu]
      exact exec_packetInject_of_injected hstall hmode (injectAt_of_no_route hhold hroute)
  case absorb =>
    intro stop port p s u i f f' hi hf hforward
    refine ⟨exec_packetAbsorb_of_not_absorbed hi hf hforward, fun fl habsorb hanswer => ?_⟩
    obtain ⟨x, hexec⟩ := exec_packetAbsorb_of_unanswered hi hf hforward habsorb hanswer
    exact ⟨_, hexec, absorbedAt_frame u stop.val i x⟩
  case route => exact fun w stop bank d v s hreach hwid => keeperAt_of_may hreach hwid _
  case spare => exact fun w stop np v s hreach hwid => keeperAt_of_may hreach hwid _
  case staging => exact fun w pa v s r u i hpa hloc hstaging hreach hwid => exec_meterStagingWrite_of_may hpa hloc hstaging hreach hwid v
  case eject =>
    intro s u p heject
    exact ⟨standing_mem.eject heject, standing_harts.eject heject, standing_cores.eject heject, standing_caches.eject heject, standing_dir.eject heject,
      standing_llc.eject heject, standing_slices.eject heject, standing_outq.eject heject, standing_reqs.eject heject⟩

end Sys2Proof.Proofs
end

section
/-! SUPPORT. A meter commit (R184, R190): stop by stop the staged lanes and slots become active, and only counters, interfaces and the packets of the mesh change. -/
namespace Sys2Proof.Proofs

open Sys2Proof.Machine Sys2Proof.Laws

/-! ### Staging copies -/

/-- What a stop's staging copies hold. -/
def SameStaging (s u : State) : Prop :=
  ∀ st i, u.regWord .rtMeterLane st i = s.regWord .rtMeterLane st i ∧ u.regWord .rtMeterWheel st i = s.regWord .rtMeterWheel st i

theorem stagedLanes_congr {s u : State} (h : SameStaging s u) (st : Nat) : u.stagedLanes st = s.stagedLanes st := by
  simp only [State.stagedLanes, (h st _).1]

theorem stagedWheel_congr {s u : State} (h : SameStaging s u) (st : Nat) : u.stagedWheel st = s.stagedWheel st := by
  simp only [State.stagedWheel, (h st _).2]

/-! ### One stop -/

/-- A part of the state that a commit leaves at every stop: no counter, no interface and no packet of the mesh is in it. -/
structure KeptByMetering {α : Type} (part : State → α) : Prop where
  counting : KeptByCounting .stop part
  setNi : ∀ (s : State) (st : Nat) (n : Ni), part (s.setNi st n) = part s
  setNet : ∀ (s : State) (l : List Flight), part { s with net := l } = part s

theorem Standing.keptByMetering {α : Type} {part : State → α} (standing : Standing part) : KeptByMetering part :=
  ⟨keptByCounting_of_setF standing.setF _, fun s st n => standing.modNi s st (fun _ => n), standing.setNet⟩

theorem keptByMetering_regWord {r : RegName} (hcnt : r ≠ .pmuCntStop) (hctl : r ≠ .pmuCtlStop) (u i : Nat) : KeptByMetering (fun s => s.regWord r u i) :=
  ⟨keptByCounting_regWord hcnt hctl u i, fun s st n => by simp only [State.regWord, setNi_fuses, setNi_regs], fun _ _ => rfl⟩

/-- Counting a list of events of a stop leaves what counting one leaves. -/
theorem KeptByCounting.foldl_pmu {α β : Type} {part : State → α} {p : Place} (kept : KeptByCounting p part) (l : List β) (u ev : Nat) (n : β → Nat)
    (x : β → PmuCtx) (s : State) : part (l.foldl (fun s e => s.pmu p u ev (n e) (x e)) s) = part s :=
  List.foldlRecOn (motive := fun t => part t = part s) l _ rfl fun t ht e _ => (kept.pmu t u ev (n e) (x e)).trans ht

/-- What a commit makes of one stop: its interface with the staged lanes and slots, orphans of its own, packets of the mesh on the open VC, and the orphans counted. -/
theorem meterStop_eq (s : State) (st : Nat) : ∃ (n : Ni) (net : List Flight) (lost : List (Packet × Nat)), n.lanes = s.stagedLanes st ∧ n.wheel = s.stagedWheel st ∧
    s.meterStop st = lost.foldl (fun s e => s.pmu .stop st 0x205 e.1.flits { wid := some e.1.widN, port := some e.2 }) { s.setNi st n with net := net } := by
  unfold State.meterStop
  generalize s.stagedLanes st = lanes
  generalize s.stagedWheel st = wheel
  refine ⟨_, _, _, ?_, ?_, rfl⟩
  · rfl
  · rfl

theorem KeptByMetering.meterStop {α : Type} {part : State → α} (kept : KeptByMetering part) (s : State) (st : Nat) : part (s.meterStop st) = part s := by
  obtain ⟨n, net, lost, -, -, heq⟩ := meterStop_eq s st
  rw [heq, kept.counting.foldl_pmu, kept.setNet, kept.setNi]

theorem ni_meterStop (s : State) (st : Nat) : ∃ n : Ni, n.lanes = s.stagedLanes st ∧ n.wheel = s.stagedWheel st ∧ ∀ k, (s.meterStop st).ni k = (s.setNi st n).ni k := by
  obtain ⟨n, net, lost, hlanes, hwheel, heq⟩ := meterStop_eq s st
  refine ⟨n, hlanes, hwheel, fun k => ni_congr ?_ k⟩
  rw [heq, (keptByCounting_of_setF setF_nis _).foldl_pmu]

/-! ### The stops below a number -/

/-- The state after the stops below a number have taken their staging copies. -/
def meteredBelow (s : State) (n : Nat) : State := (List.range n).foldl State.meterStop s

theorem meteredBelow_succ (s : State) (n : Nat) : meteredBelow s (n + 1) = (meteredBelow s n).meterStop n := by
  rw [meteredBelow, List.range_succ, List.foldl_append]
  rfl

theorem KeptByMetering.meteredBelow {α : Type} {part : State → α} (kept : KeptByMetering part) (s : State) (n : Nat) : part (meteredBelow s n) = part s :=
  List.foldlRecOn (motive := fun t => part t = part s) _ _ rfl fun t ht st _ => (kept.meterStop t st).trans ht

theorem sameStaging_meteredBelow (s : State) (n : Nat) : SameStaging s (meteredBelow s n) := fun st i =>
  ⟨(keptByMetering_regWord (by decide) (by decide) st i).meteredBelow s n, (keptByMetering_regWord (by decide) (by decide) st i).meteredBelow s n⟩

/-- Each of the stops has the lanes and slots that were staged when the commit began. -/
theorem ni_meteredBelow (s : State) {n st : Nat} (hst : st < n) :
    ((meteredBelow s n).ni st).lanes = s.stagedLanes st ∧ ((meteredBelow s n).ni st).wheel = s.stagedWheel st := by
  induction n with
  | zero => exact absurd hst (Nat.not_lt_zero st)
  | succ n ih =>
    obtain ⟨x, hlanes, hwheel, hni⟩ := ni_meterStop (meteredBelow s n) n
    have hstaged := sameStaging_meteredBelow s n
    rw [meteredBelow_succ, hni]
    by_cases hn : st = n
    · rw [hn, ni_setNi_same, hlanes, hwheel, stagedLanes_congr hstaged, stagedWheel_congr hstaged]
      exact ⟨rfl, rfl⟩
    · rw [ni_setNi_other _ _ _ _ hn]
      exact ih (by omega)

/-! ### All stops -/

/-- The state after a commit at the stops below a number: the device has 160 (R184). -/
def metered (s : State) (n : Nat) : State :=
  ({ meteredBelow s n with meterWids := (meteredBelow s n).regWord .niMeterWids 0 0 } : State).setF F.niFabricStatus_meterPending 0 0 0

theorem exec_meterCommit_of_pending {s : State} (hpending : s.isF F.niFabricStatus_meterPending 0 0 = true) : exec .meterCommit s = .next (metered s 160) :=
  if_pos hpending

theorem exec_meterCommitRequest_of_may {s : State} {w : Issuer} (hwid : s.issuerWid w = 0) :
    exec (.meterCommitRequest w) s = .next (s.meterCommitWrite.accept w svcStop) := keeperOnly_of_may hwid svcStop State.meterCommitWrite

theorem metered_not_pending (s : State) (n : Nat) : (metered s n).isF F.niFabricStatus_meterPending 0 0 = false :=
  isF_setF_same _ F.niFabricStatus_meterPending 0 0 0 (by decide)

theorem metered_meterWids (s : State) (n : Nat) : (metered s n).meterWids = s.regWord .niMeterWids 0 0 :=
  (setF_meterWids ..).trans ((keptByMetering_regWord (by decide) (by decide) 0 0).meteredBelow s n)

theorem ni_metered (s : State) {n st : Nat} (hst : st < n) :
    ((metered s n).ni st).lanes = s.stagedLanes st ∧ ((metered s n).ni st).wheel = s.stagedWheel st := by
  rw [metered, ni_congr (setF_nis ..)]
  exact ni_meteredBelow s hst

theorem metered_frame (s : State) (n : Nat) : (metered s n).mem = s.mem ∧ (metered s n).harts = s.harts ∧ (metered s n).outq = s.outq :=
  ⟨(setF_mem ..).trans (standing_mem.keptByMetering.meteredBelow s n), (setF_harts ..).trans (standing_harts.keptByMetering.meteredBelow s n),
    (setF_outq ..).trans (standing_outq.keptByMetering.meteredBelow s n)⟩

end Sys2Proof.Proofs
end

section
/-! SUPPORT. Fences and epoch switches (R175, R177, R179): a fence by which stops it still waits for, a switch by whether its drain is under way. -/
namespace Sys2Proof.Proofs

open Sys2Proof.Machine Sys2Proof.Laws

/-! ### The global fence -/

theorem exec_globalFence_of_may {s : State} {w : Issuer} (hwid : s.issuerWid w = 0) :
    exec (.globalFence w) s = .next ((s.fenceWrite false).accept w svcStop) := keeperOnly_of_may hwid svcStop (fun s => s.fenceWrite false)

theorem exec_epochSwitch_of_may {s : State} {w : Issuer} (hwid : s.issuerWid w = 0) :
    exec (.epochSwitch w) s = .next ((s.fenceWrite true).accept w svcStop) := keeperOnly_of_may hwid svcStop (fun s => s.fenceWrite true)

/-- An interface takes note of a fence's request and of what it has queued before it (R175). -/
def fenceAsked (s : State) (st : Nat) (f : Fence) : State :=
  s.modNi st (fun n => { n with fenceSeq := some f.seq, before := s.outq.filter (fun p => p.srcN == st) })

/-- A fence with the answer of a stop, whose interface has the request no longer. -/
def fenceAnswered (s : State) (st : Nat) (f : Fence) : State :=
  State.modNi { s with fence := some { f with missing := f.missing.erase st } } st (fun n => { n with fenceSeq := none })

theorem fenceAnswered_frame (s : State) (st : Nat) (f : Fence) :
    (fenceAnswered s st f).fence = some { f with missing := f.missing.erase st } ∧ ((fenceAnswered s st f).ni st).fenceSeq = none ∧
      (fenceAnswered s st f).regs = s.regs := by
  refine ⟨modNi_fence .., ?_, modNi_regs ..⟩
  rw [fenceAnswered, ni_modNi_same]

section
variable {stop : Fin 160} {s : State} {f : Fence} (hfence : s.fence = some f)
include hfence

theorem exec_fenceTimeout_of_fence :
    exec .fenceTimeout s = .next ((((s.setF F.niFabricStatus_fenceErr 0 0 1).setF F.niFabricStatus_fenceLateStop 0 0 (f.missing.headD 0)).record Ev.fenceLate srcSvc
      (w64 (f.missing.headD 0)) 0).fenceDone f) := by
  show execFenceTimeout s = _
  rw [execFenceTimeout, hfence]

variable (hmissing : f.missing.contains stop.val = true)
include hmissing

theorem exec_fenceReq_of_missing : exec (.fenceReq stop) s = .next (fenceAsked s stop.val f) := by
  show execFenceReq stop s = _
  rw [execFenceReq, hfence]
  exact if_pos hmissing

variable (hseq : (s.ni stop.val).fenceSeq = some f.seq) (hbefore : (s.ni stop.val).before = [])
include hseq hbefore

/-- The interface has the request and has injected what it held before it: its answer is counted, and the last one ends the fence (R175). -/
theorem exec_fenceAck_of_ready : exec (.fenceAck stop) s =
    .next (if (f.missing.erase stop.val).isEmpty then (fenceAnswered s stop.val f).fenceDone { f with missing := f.missing.erase stop.val }
      else fenceAnswered s stop.val f) := by
  have hready : (f.missing.contains stop.val && (s.ni stop.val).fenceSeq == some f.seq && (s.ni stop.val).before.isEmpty) = true := by
    rw [hmissing, hseq, hbefore, beq_self_eq_true]
    rfl
  show execFenceAck stop s = _
  rw [execFenceAck, hfence]
  exact if_pos hready

theorem exec_fenceAck_of_more (hmore : f.missing.erase stop.val ≠ []) : exec (.fenceAck stop) s = .next (fenceAnswered s stop.val f) := by
  rw [exec_fenceAck_of_ready hfence hmissing hseq hbefore, if_neg (mt List.isEmpty_iff.mp hmore)]

theorem exec_fenceAck_of_last (hlast : f.missing.erase stop.val = []) : exec (.fenceAck stop) s =
    .next ((State.modNi { s with fence := some { f with missing := [] } } stop.val (fun n => { n with fenceSeq := none })).fenceDone { f with missing := [] }) := by
  rw [exec_fenceAck_of_ready hfence hmissing hseq hbefore, fenceAnswered, hlast]
  rfl

end

/-! ### Epochs -/

section
variable {s : State} (hdrain : s.isF F.niFabricStatus_drainBusy 0 0 = true)
include hdrain

/-- A flip changes the interface's bank to the epoch's, and no register of another name (R177). -/
theorem gives_flip_of_draining (stop : Fin 160) :
    Gives (.flip stop) s (fun t => t.getF F.niRouteStatus_active stop.val 0 = s.getF F.niFabricStatus_epoch 0 0 % 2 ∧
      (∀ r u i, r ≠ .niRouteStatus → t.regWord r u i = s.regWord r u i) ∧ t.outq = s.outq) := by
  refine ⟨s.setF F.niRouteStatus_active stop.val 0 (s.getF F.niFabricStatus_epoch 0 0), if_pos hdrain, ?active, fun r u i hr => ?others, setF_outq ..⟩
  case active => exact getF_setF_same s F.niRouteStatus_active stop.val 0 _ (by decide)
  case others => exact regWord_setRegWord_name _ _ _ _ _ _ _ _ hr

theorem exec_epochDrainComplete_of_drained (hflipped : s.poweredStops.all (fun st => s.bank st == s.isF F.niFabricStatus_epoch 0 0) = true)
    (hnet : s.net.all (fun f => f.pkt.epoch == s.isF F.niFabricStatus_epoch 0 0) = true) :
    exec .epochDrainComplete s = .next ((s.setF F.niFabricStatus_drainBusy 0 0 0).record Ev.epochSwitch srcSvc (w64 (s.isF F.niFabricStatus_epoch 0 0).toNat)
      (w64 ((s.mtime - s.flipTime) * 10))).releaseHolds := by
  show execEpochDrainComplete s = _
  rw [execEpochDrainComplete, hdrain, hflipped, hnet]
  rfl

end

/-- Settles O20: the Keeper's writes by their guard, a fence by the stops that it waits for, a switch by its drain, and a commit stop by stop. -/
theorem fencesEpochsAndMeters : Obligations.FencesEpochsAndMeters := by
  refine ⟨fun w s hwid => ⟨exec_globalFence_of_may hwid, exec_epochSwitch_of_may hwid⟩, ?asked, ?answered, fun s f hfence => exec_fenceTimeout_of_fence hfence,
    fun stop s hdrain => gives_flip_of_draining hdrain stop, fun s hdrain hflipped hnet => exec_epochDrainComplete_of_drained hdrain hflipped hnet,
    fun w s hwid => exec_meterCommitRequest_of_may hwid, ?commit⟩
  case asked =>
    intro stop s f hfence hmissing
    exact ⟨_, exec_fenceReq_of_missing hfence hmissing, ni_modNi_same .., fun n hn => ni_setNi_other _ _ _ _ hn, modNi_regs .., modNi_outq ..⟩
  case answered =>
    intro stop s f hfence hmissing hseq hbefore
    exact ⟨fun hmore => ⟨_, exec_fenceAck_of_more hfence hmissing hseq hbefore hmore, fenceAnswered_frame s stop.val f⟩,
      exec_fenceAck_of_last hfence hmissing hseq hbefore⟩
  case commit =>
    intro s hpending
    exact ⟨_, exec_meterCommit_of_pending hpending, metered_not_pending .., metered_meterWids .., fun st hst => ni_metered s hst, metered_frame ..⟩

end Sys2Proof.Proofs
end

section
/-! SUPPORT. Which registers a record writes (R489, R495 to R500, R506): the recorder of the Annals writes its own three, an error's record those of its bank too; every other register
stands. -/
namespace Sys2Proof.Proofs

open Sys2Proof.Machine Sys2Proof.Laws

/-- The registers that the recorder of the Annals writes. -/
def recorderRegs : List RegName := [.anlStatus, .anlNextSeq, .anlRate]

/-- The registers of a block's RAS bank that an error's record is written to. -/
def bankRegs (p : Place) : List RegName := [rasValidAt p, rasStatusAt p, rasAddrAt p, rasInfoAt p, rasSupplAt p, rasTimeAt p]

theorem regWord_congr {s t : State} (hfuses : t.fuses = s.fuses) (hregs : t.regs = s.regs) (r : RegName) (u i : Nat) : t.regWord r u i = s.regWord r u i := by
  rw [State.regWord, State.regWord, hfuses, hregs]

theorem getF_congr {s t : State} {f : Fld} {u i : Nat} (h : t.regWord f.reg u i = s.regWord f.reg u i) : t.getF f u i = s.getF f u i := by
  rw [State.getF, State.getF, h]

/-- A register of another name than the field's keeps its word. -/
theorem regWord_setF_name {r : RegName} {f : Fld} (hr : r ≠ f.reg) (s : State) (u i u' i' v : Nat) : (s.setF f u i v).regWord r u' i' = s.regWord r u' i' :=
  regWord_setRegWord_name _ _ _ _ _ _ _ _ hr

theorem regWord_incSat_name {r : RegName} {f : Fld} (hr : r ≠ f.reg) (s : State) (u i u' i' : Nat) : (s.incSat f u i).regWord r u' i' = s.regWord r u' i' := by
  unfold State.incSat
  split
  · rfl
  · exact regWord_setF_name hr ..

theorem regWord_raiseSrc (s : State) (k : Nat) (r : RegName) (u i : Nat) : (s.raiseSrc k).regWord r u i = s.regWord r u i := by
  unfold State.raiseSrc
  split
  · rfl
  · exact regWord_congr (setAplic_fuses ..) (setAplic_regs ..) r u i

theorem regWord_annNotify (s : State) (sev : Nat) (r : RegName) (u i : Nat) : (s.annNotify sev).regWord r u i = s.regWord r u i := by
  unfold State.annNotify
  dsimp only
  split
  · rfl
  · split
    · rfl
    · exact regWord_raiseSrc ..

/-! ### The recorder of the Annals -/

theorem not_mem_recorderRegs {r : RegName} : r ∉ recorderRegs ↔ r ≠ .anlStatus ∧ r ≠ .anlNextSeq ∧ r ≠ .anlRate := by
  simp only [recorderRegs, List.mem_cons, List.not_mem_nil, or_false, not_or]

section
variable {r : RegName} (hr : r ∉ recorderRegs) (s : State) (u i : Nat)
include hr

theorem regWord_annSync : s.annSync.regWord r u i = s.regWord r u i := by
  obtain ⟨hstatus, hnext, -⟩ := not_mem_recorderRegs.mp hr
  unfold State.annSync
  dsimp only
  rw [regWord_setF_name hnext, regWord_setF_name hstatus, regWord_setF_name hstatus, regWord_setF_name hstatus, regWord_setF_name hstatus]

theorem regWord_annDrop : s.annDrop.regWord r u i = s.regWord r u i := by
  obtain ⟨hstatus, -, -⟩ := not_mem_recorderRegs.mp hr
  exact regWord_incSat_name (f := F.anlStatus_dropped) hstatus ..

theorem regWord_writeRec (code sev : Nat) (src : Source) (d0 d1 : Word) (force : Bool) : (s.writeRec code sev src d0 d1 force).regWord r u i = s.regWord r u i := by
  obtain ⟨-, -, hrate⟩ := not_mem_recorderRegs.mp hr
  unfold State.writeRec
  dsimp only
  split
  · exact (regWord_annSync hr ..).trans (regWord_annDrop hr ..)
  · rw [regWord_annSync hr, regWord_annNotify, regWord_setF_name hrate]
    exact regWord_congr rfl rfl r u i

/-- The record of an event, whether its rate limit lets it pass or not (R498). -/
theorem regWord_record (code : Nat) (src : Source) (d0 d1 : Word) : (s.record code src d0 d1).regWord r u i = s.regWord r u i := by
  obtain ⟨-, -, hrate⟩ := not_mem_recorderRegs.mp hr
  unfold State.record
  split
  · rfl
  · dsimp only
    split
    · rw [regWord_writeRec hr]
      split <;> rfl
    · exact regWord_incSat_name (f := F.anlRate_suppressed) hrate ..

end

/-! ### The RAS banks -/

theorem regWord_rasSignal (s : State) (v : Nat) (r : RegName) (u i : Nat) : (s.rasSignal v).regWord r u i = s.regWord r u i := by
  unfold State.rasSignal
  split
  · exact regWord_raiseSrc ..
  · split
    · exact regWord_raiseSrc ..
    · rfl

section
variable {r : RegName} {p : Place} (hr : r ∉ bankRegs p) (s : State) (u i : Nat)
include hr

theorem regWord_rasWrite (k n seqLo : Nat) (e : ErrInfo) : (s.rasWrite p k n seqLo e).regWord r u i = s.regWord r u i := by
  simp only [bankRegs, List.mem_cons, List.not_mem_nil, or_false, not_or] at hr
  obtain ⟨hvalid, hstatus, haddr, hinfo, hsuppl, htime⟩ := hr
  have hvalidF : r ≠ (F.rasValid_valid p).reg := hvalid
  have hrearm (t : State) (l : List (RegName × Nat × Nat)) : ({ t with kpr := { t.kpr with rearm := l } } : State).regWord r u i = t.regWord r u i := rfl
  unfold State.rasWrite
  dsimp only
  split <;> simp only [apply_ite (fun t : State => t.regWord r u i), regWord_rasSignal, regWord_setF_name hvalidF, hrearm, regWord_setRegWord_name (h := hstatus),
    regWord_setRegWord_name (h := haddr), regWord_setRegWord_name (h := hinfo), regWord_setRegWord_name (h := hsuppl), regWord_setRegWord_name (h := htime), ite_self]

theorem regWord_rasError (k seqLo : Nat) (e : ErrInfo) : (s.rasError p k seqLo e).regWord r u i = s.regWord r u i := by
  have hstatus : r ≠ (F.rasStatus_mo p).reg := fun h => hr (h ▸ .tail _ (.head _))
  unfold State.rasError
  split
  · exact regWord_rasWrite hr ..
  · split
    · exact regWord_setF_name hstatus ..
    · rfl

/-- An error recorded in the Annals and in its bank (R484). -/
theorem regWord_errorEvent (hrec : r ∉ recorderRegs) (k : Nat) (e : ErrInfo) (src : Source) (d0 d1 : Word) :
    (s.errorEvent p k e src d0 d1).regWord r u i = s.regWord r u i :=
  (regWord_rasError hr ..).trans (regWord_record hrec ..)

end

end Sys2Proof.Proofs
end

section
/-! SUPPORT. The quarantine of an annex (R214, R250, R541): the answers that the gate gives in the annex's place write neither the port's status and quarantine registers nor what the
port has recorded of the annex, so these follow from the quarantine's own writes. -/
namespace Sys2Proof.Proofs

open Sys2Proof.Machine Sys2Proof.Laws

/-! ### Links and gates hold no register -/

@[simp] theorem link_modLink_same (s : State) (k : Nat) (f : Link → Link) : (s.modLink k f).link k = f (s.link k) := by
  rw [State.link, modLink_links, get_set_same]

@[simp] theorem regWord_modLink (s : State) (k : Nat) (f : Link → Link) (r : RegName) (u i : Nat) : (s.modLink k f).regWord r u i = s.regWord r u i :=
  regWord_congr (modLink_fuses ..) (modLink_regs ..) r u i

@[simp] theorem regWord_modGate (s : State) (k : Nat) (f : Gate → Gate) (r : RegName) (u i : Nat) : (s.modGate k f).regWord r u i = s.regWord r u i :=
  regWord_congr (modGate_fuses ..) (modGate_regs ..) r u i

@[simp] theorem regWord_linkControl (s : State) (k type seq fields : Nat) (r : RegName) (u i : Nat) :
    (s.linkControl k type seq fields).regWord r u i = s.regWord r u i := regWord_modLink ..

/-! ### The state of a link -/

theorem linkState_congr {s t : State} {k : Nat} (h : t.regWord .axgPortStatus k 0 = s.regWord .axgPortStatus k 0) : t.linkState k = s.linkState k := getF_congr h

theorem linkState_setF_same {v : Nat} (hv : v < 16) (s : State) (k : Nat) : (s.setF F.axgPortStatus_linkState k 0 v).linkState k = v :=
  (getF_setF_same s F.axgPortStatus_linkState k 0 v (by decide)).trans (Nat.mod_eq_of_lt hv)

/-- LINK_STATE is the lowest field of the port's status (R256). -/
theorem linkState_setF_field {f : Fld} (hreg : f.reg = .axgPortStatus) (hlsb : 4 ≤ f.lsb) (s : State) (k v : Nat) : (s.setF f k 0 v).linkState k = s.linkState k :=
  getF_setF_field _ _ _ _ _ _ hreg.symm (.inr hlsb)

/-! ### Answers in the annex's place -/

/-- A transaction closed and the fence probes answered that wait for nothing more (R541). -/
theorem regWord_closeGate (s : State) (k : Nat) (x : GateTx) (failed : Bool) (r : RegName) (u i : Nat) : (s.closeGate k x failed).regWord r u i = s.regWord r u i := by
  unfold State.closeGate State.probesDone
  dsimp only
  refine List.foldlRecOn (motive := fun t : State => t.regWord r u i = s.regWord r u i) _ _ ?_ fun t ht q _ => ?_
  · rw [regWord_modGate, regWord_modGate]
  · rw [regWord_send, ht]

/-- The registers that an answer for the annex can write: those of a record of a lost write, and the count of the requests open under old windows (R214, R244). -/
def answerRegs : List RegName := .axgWinCtrl :: (recorderRegs ++ bankRegs .ax)

theorem not_mem_answerRegs {r : RegName} : r ∉ answerRegs ↔ r ≠ .axgWinCtrl ∧ r ∉ recorderRegs ∧ r ∉ bankRegs .ax := by
  simp only [answerRegs, List.mem_cons, List.mem_append, not_or]

section
variable {r : RegName} (hr : r ∉ answerRegs) (s : State) (k u i : Nat)
include hr

theorem regWord_freeAnnexTag (tag : Nat) : (s.freeAnnexTag k tag).regWord r u i = s.regWord r u i := by
  obtain ⟨hwin, -, -⟩ := not_mem_answerRegs.mp hr
  have hfreed : (s.setReq (axStop k) tag none).regWord r u i = s.regWord r u i := regWord_congr (setReq_fuses ..) (setReq_regs ..) r u i
  unfold State.freeAnnexTag
  split
  · dsimp only
    split
    · exact (regWord_setF_name (f := F.axgWinCtrl_oldOpen) hwin ..).trans hfreed
    · exact hfreed
  · rfl

theorem regWord_gateError (x : GateTx) (code : Nat) : (s.gateError k x code).regWord r u i = s.regWord r u i := by
  obtain ⟨-, hrec, hbank⟩ := not_mem_answerRegs.mp hr
  unfold State.gateError
  split
  · exact regWord_errorEvent hbank s u i hrec ..
  · exact regWord_send ..

/-- One open transaction answered for the annex, by its kind (R250). -/
theorem regWord_gateFor (x : GateTx) : (s.gateFor k x).regWord r u i = s.regWord r u i := by
  unfold State.gateFor
  cases x.kind with
  | snoop => exact regWord_send ..
  | ack => exact (regWord_freeAnnexTag hr ..).trans (regWord_send ..)
  | wdata =>
    dsimp only
    split
    · exact (regWord_freeAnnexTag hr ..).trans (regWord_send ..)
    · exact regWord_send ..
  | memRead | memWrite | mmio | pull => exact regWord_gateError hr ..
  | flush => rfl

end

/-- Transactions answered for the annex and closed, one after another. -/
def answeredFor (s : State) (k : Nat) (l : List GateTx) : State := l.foldl (fun s x => (s.gateFor k x).closeGate k x true) s

theorem regWord_answeredFor {r : RegName} (hr : r ∉ answerRegs) (s : State) (k : Nat) (l : List GateTx) (u i : Nat) :
    (answeredFor s k l).regWord r u i = s.regWord r u i :=
  List.foldlRecOn (motive := fun t => t.regWord r u i = s.regWord r u i) l _ rfl fun t ht x _ =>
    (regWord_closeGate ..).trans ((regWord_gateFor hr t k u i x).trans ht)

/-! ### The quarantine -/

/-- A port whose quarantine begins: its cause where no agent's stands, the state that it is in, and HOLD for the annex (R250). -/
def quarantineMarked (s : State) (k cause agent : Nat) : State :=
  ((((if s.getF F.axgQstatus_agentQuarantined k 0 = 0 then (s.setF F.axgQstatus_cause k 0 cause).setF F.axgQstatus_causeAgent k 0 agent else s).setF
    F.axgQstatus_portQuarantined k 0 1).setF F.axgPortStatus_linkState k 0 LinkState.quarantined).linkControl k 6 0 cause).modLink k (fun l => { l with txq := [] })

/-- A port in quarantine with everything open answered: its lines are being reclaimed, and it is attested no longer (R250, R251). -/
def quarantineBegun (s : State) (k cause agent : Nat) : State :=
  ((answeredFor (quarantineMarked s k cause agent) k ((quarantineMarked s k cause agent).gate k).txs).setF F.axgPortStatus_reclaimBusy k 0 1).setF
    F.axgPortCtrl_attested k 0 0

section
variable {s : State} {k : Nat}

theorem quarantine_of_not_quarantined (hq : s.quarantined k = false) (cause agent : Nat) :
    s.quarantine k cause agent = (quarantineBegun s k cause agent).record Ev.annexQuarantine (srcAx k 255) (w64 k)
      ((quarantineBegun s k cause agent).regWord .axgQstatus k 0) := by
  rw [State.quarantine, hq]
  rfl

theorem quarantine_of_quarantined (hq : s.quarantined k = true) (cause agent : Nat) : s.quarantine k cause agent = s := if_pos hq

/-- A quarantine writes no register but those of its answers and its record, and three of the port's. -/
theorem regWord_quarantine {r : RegName} (hr : r ∉ answerRegs) (hstatus : r ≠ .axgPortStatus) (hqstatus : r ≠ .axgQstatus) (hctrl : r ≠ .axgPortCtrl)
    (cause agent u i : Nat) : (s.quarantine k cause agent).regWord r u i = s.regWord r u i := by
  obtain ⟨-, hrec, -⟩ := not_mem_answerRegs.mp hr
  cases hq : s.quarantined k with
  | true => rw [quarantine_of_quarantined hq]
  | false =>
    rw [quarantine_of_not_quarantined hq, regWord_record hrec, quarantineBegun, regWord_setF_name hctrl, regWord_setF_name hstatus, regWord_answeredFor hr,
      quarantineMarked, regWord_modLink, regWord_linkControl, regWord_setF_name hstatus, regWord_setF_name hqstatus]
    split
    · rw [regWord_setF_name hqstatus, regWord_setF_name hqstatus]
    · rfl

/-- The port is in quarantine, whatever is open at its gate. -/
theorem linkState_quarantine (hq : s.quarantined k = false) (cause agent : Nat) : (s.quarantine k cause agent).linkState k = LinkState.quarantined := by
  rw [quarantine_of_not_quarantined hq, linkState_congr (regWord_record (by decide) ..), quarantineBegun, linkState_congr (regWord_setF_name (by decide) ..),
    linkState_setF_field rfl (by decide), linkState_congr (regWord_answeredFor (by decide) ..), quarantineMarked, linkState_congr (regWord_modLink ..),
    linkState_congr (regWord_linkControl ..), linkState_setF_same (by decide)]

theorem isF_quarantine (hq : s.quarantined k = false) (cause agent : Nat) : (s.quarantine k cause agent).isF F.axgQstatus_portQuarantined k 0 = true := by
  rw [quarantine_of_not_quarantined hq, State.isF, getF_congr (regWord_record (by decide) ..), quarantineBegun, getF_setF_name (h := by decide),
    getF_setF_name (h := by decide), getF_congr (regWord_answeredFor (by decide) ..), quarantineMarked, getF_congr (regWord_modLink ..),
    getF_congr (regWord_linkControl ..), getF_setF_name (h := by decide), getF_setF_same (h := by decide)]
  rfl

end

end Sys2Proof.Proofs
end

section
/-! SUPPORT. DECLARE (R233, R234, R236, R257): what arrived is recorded first, and neither the breach of a DECLARE after OPEN nor a failed bring-up writes over it. -/
namespace Sys2Proof.Proofs

open Sys2Proof.Machine Sys2Proof.Laws

/-! ### A failed bring-up -/

/-- A bring-up that fails writes no register but the port's status and those of its record (R234). -/
theorem regWord_bringupFailed {r : RegName} (hrec : r ∉ recorderRegs) (hstatus : r ≠ .axgPortStatus) (s : State) (k : Nat) (d : Bool) (u i : Nat) :
    (s.bringupFailed k d).regWord r u i = s.regWord r u i := by
  rw [State.bringupFailed, State.recordBringup, regWord_record hrec]
  cases d with
  | true => exact (regWord_setF_name (f := F.axgPortStatus_declareFail) hstatus ..).trans (regWord_setF_name (f := F.axgPortStatus_linkState) hstatus ..)
  | false => exact regWord_setF_name (f := F.axgPortStatus_linkState) hstatus ..

theorem linkState_recordBringup (s : State) (k : Nat) : (s.recordBringup k).linkState k = s.linkState k := linkState_congr (regWord_record (by decide) ..)

theorem linkState_bringupFailed (s : State) (k : Nat) (d : Bool) : (s.bringupFailed k d).linkState k = LinkState.failed := by
  rw [State.bringupFailed, linkState_recordBringup]
  cases d with
  | true => exact (linkState_setF_field rfl (by decide) ..).trans (linkState_setF_same (by decide) ..)
  | false => exact linkState_setF_same (by decide) ..

/-! ### DECLARE -/

/-- A port with what a DECLARE said of the annex (R257). -/
def declared (s : State) (k classes id : Nat) : State := (s.setRegWord .axgDeclared k 0 (w64 classes)).setRegWord .axgAnnexId k 0 (w64 (id % 2 ^ 40))

theorem declared_records (s : State) (k classes id : Nat) :
    (declared s k classes id).regWord .axgDeclared k 0 = w64 classes ∧ (declared s k classes id).regWord .axgAnnexId k 0 = w64 (id % 2 ^ 40) :=
  ⟨(regWord_setRegWord_name (h := by decide) ..).trans (regWord_setRegWord_same ..), regWord_setRegWord_same ..⟩

theorem regWord_declared_other {r : RegName} (hdecl : r ≠ .axgDeclared) (hid : r ≠ .axgAnnexId) (s : State) (k classes id u i : Nat) :
    (declared s k classes id).regWord r u i = s.regWord r u i :=
  (regWord_setRegWord_name (h := hid) ..).trans (regWord_setRegWord_name (h := hdecl) ..)

/-- Whether every class code of a DECLARE is its agent's configured class (R236). -/
def ClassesMatch (s : State) (k classes : Nat) : Prop := ∀ j, j < 16 → classes / 16 ^ j % 16 = s.getF F.axgAgentCfg_class k j

theorem all_classes_iff (s : State) (k classes : Nat) :
    (List.range 16).all (fun j => classes / 16 ^ j % 16 == s.agentClass k j) = true ↔ ClassesMatch s k classes := by
  simp only [List.all_eq_true, List.mem_range, beq_iff_eq, State.agentClass, ClassesMatch]

section
variable {s : State} {k : Nat}

theorem annexDeclare_of_open (hopen : s.linkState k = LinkState.open_) (classes id : Nat) : s.annexDeclare k classes id = (declared s k classes id).quarantine k 8 0 :=
  if_pos hopen

theorem annexDeclare_of_untimely (hopen : s.linkState k ≠ LinkState.open_) (hinit : ¬(s.linkState k = LinkState.init ∧ (s.link k).gotInit = true)) (classes id : Nat) :
    s.annexDeclare k classes id = declared s k classes id := (if_neg hopen).trans (if_neg hinit)

/-- A port that has exchanged INIT checks the classes: it is ready, or the bring-up has failed (R233, R234). -/
theorem annexDeclare_of_init (hinit : s.linkState k = LinkState.init) (hgot : (s.link k).gotInit = true) (classes id : Nat) [Decidable (ClassesMatch s k classes)] :
    s.annexDeclare k classes id =
      if ClassesMatch s k classes then
        ((declared s k classes id).setF F.axgPortStatus_linkState k 0 LinkState.declare_).setF F.axgPortStatus_linkState k 0 LinkState.ready
      else ((declared s k classes id).setF F.axgPortStatus_linkState k 0 LinkState.declare_).bringupFailed k true := by
  have hopen : s.linkState k ≠ LinkState.open_ := by rw [hinit]; decide
  rw [State.annexDeclare, if_neg hopen, if_pos ⟨hinit, hgot⟩]
  exact ite_congr (propext (all_classes_iff s k classes)) (fun _ => rfl) (fun _ => rfl)

end

/-- Whatever comes of a DECLARE, what it wrote of the annex stands. -/
theorem regWord_annexDeclare {r : RegName} (hr : r ∉ answerRegs) (hstatus : r ≠ .axgPortStatus) (hqstatus : r ≠ .axgQstatus) (hctrl : r ≠ .axgPortCtrl)
    (s : State) (k classes id u i : Nat) : (s.annexDeclare k classes id).regWord r u i = (declared s k classes id).regWord r u i := by
  classical
  obtain ⟨-, hrec, -⟩ := not_mem_answerRegs.mp hr
  have hset (t : State) (v : Nat) : (t.setF F.axgPortStatus_linkState k 0 v).regWord r u i = t.regWord r u i := regWord_setF_name hstatus ..
  by_cases hopen : s.linkState k = LinkState.open_
  · rw [annexDeclare_of_open hopen, regWord_quarantine hr hstatus hqstatus hctrl]
  · by_cases hinit : s.linkState k = LinkState.init ∧ (s.link k).gotInit = true
    · obtain ⟨hstate, hgot⟩ := hinit
      rw [annexDeclare_of_init hstate hgot]
      split
      · rw [hset, hset]
      · rw [regWord_bringupFailed hrec hstatus, hset]
    · rw [annexDeclare_of_untimely hopen hinit]

theorem linkState_annexDeclare_of_init {s : State} {k : Nat} (hinit : s.linkState k = LinkState.init) (hgot : (s.link k).gotInit = true) (classes id : Nat) :
    (s.annexDeclare k classes id).linkState k = LinkState.ready ↔ ClassesMatch s k classes := by
  classical
  rw [annexDeclare_of_init hinit hgot]
  split
  case isTrue hmatch => exact iff_of_true (linkState_setF_same (by decide) ..) hmatch
  case isFalse hmatch =>
    rw [linkState_bringupFailed]
    exact iff_of_false (by decide) hmatch

theorem quarantined_declared (s : State) (k classes id : Nat) : (declared s k classes id).quarantined k = s.isF F.axgQstatus_portQuarantined k 0 := by
  rw [State.quarantined, State.isF, State.isF, getF_congr (regWord_declared_other (by decide) (by decide) ..)]

/-- Settles O51: the registers that DECLARE records are none that its outcome writes; the outcome follows from the state of the link. -/
theorem declareChecks : Obligations.DeclareChecks := by
  intro port classes vendor device rev s
  have hid : (vendor.toNat + device.toNat * 2 ^ 16 + rev.toNat * 2 ^ 32) % 2 ^ 40 = vendor.toNat + device.toNat * 2 ^ 16 + rev.toNat * 2 ^ 32 :=
    Nat.mod_eq_of_lt (by have := vendor.isLt; have := device.isLt; have := rev.isLt; omega)
  obtain ⟨hclasses, hannex⟩ := declared_records s port.val classes.toNat (vendor.toNat + device.toNat * 2 ^ 16 + rev.toNat * 2 ^ 32)
  refine ⟨_, rfl, ?classes, ?annexId, fun hinit hgot => linkState_annexDeclare_of_init hinit hgot .., ?breach⟩
  case classes =>
    rw [regWord_annexDeclare (by decide) (by decide) (by decide) (by decide), hclasses, w64, BitVec.ofNat_toNat, BitVec.setWidth_eq]
  case annexId => rw [regWord_annexDeclare (by decide) (by decide) (by decide) (by decide), hannex, hid]
  case breach =>
    intro hopen hq
    rw [annexDeclare_of_open hopen]
    have hnot := (quarantined_declared s port.val classes.toNat (vendor.toNat + device.toNat * 2 ^ 16 + rev.toNat * 2 ^ 32)).trans hq
    exact ⟨linkState_quarantine hnot 8 0, isF_quarantine hnot 8 0⟩

end Sys2Proof.Proofs
end

section
/-! SUPPORT. The gate's registers (R241, R244 to R246, R253, R255): writes that the Keeper alone may make, and the edge at which the staged windows become active. -/
namespace Sys2Proof.Proofs

open Sys2Proof.Machine Sys2Proof.Laws

/-! ### What the Keeper writes -/

/-- A grant value waits for ATTESTED where it names a carrel (R241). -/
theorem exec_axgGrantWrite_of_may {w : Issuer} {port : Fin 6} {s : State} (hreach : s.reachable .ax port.val = true) (hwid : s.issuerWid w = 0) (j : Fin 16) (v : Word) :
    exec (.axgGrantWrite w port j v) s =
      .next ((if !s.isF F.axgPortCtrl_attested port.val 0 && decide (8 ≤ v.toNat) then s.axReject port.val
        else s.writeReg .axgGrant port.val j.val v allBytes).accept w (Place.ax.stopOf port.val)) := keeperAt_of_may hreach hwid _

/-- A write of a staging copy, at the address of one of its registers (R242, R246). -/
theorem exec_axgWindowStagingWrite_of_may {w : Issuer} {pa : BitVec 52} {s : State} {r : RegName} {k i : Nat} (hpa : controlBase ≤ pa.toNat)
    (hloc : locate ((pa.toNat - controlBase) / 0x400000 % 256) ((pa.toNat - controlBase) % 0x400000) = some (r, k, i)) (hstaged : gateStaged r = true)
    (hreach : s.reachable .ax k = true) (hwid : s.issuerWid w = 0) (v : Word) :
    exec (.axgWindowStagingWrite w pa v) s = .next ((s.stageWindow r k i v allBytes).accept w (Place.ax.stopOf k)) := by
  show execAxgWindowStagingWrite w pa v s = _
  rw [execAxgWindowStagingWrite, if_neg (Nat.not_lt.mpr hpa), hloc]
  exact (if_pos hstaged).trans (keeperAt_of_may hreach hwid _)

/-! ### The commit edge -/

/-- The active copies of the windows below a number: of each, the word of its base at an even place and that of its limit after it (R242, R247). -/
def windowCopy (s : State) (k : Nat) (a b : RegName) (n : Nat) : Map Word :=
  (List.range n).foldl (fun (m : Map Word) i => (m.set 0 (2 * i) (s.regWord a k i)).set 0 (2 * i + 1) (s.regWord b k i)) []

theorem windowCopy_succ (s : State) (k : Nat) (a b : RegName) (n : Nat) :
    windowCopy s k a b (n + 1) = ((windowCopy s k a b n).set 0 (2 * n) (s.regWord a k n)).set 0 (2 * n + 1) (s.regWord b k n) := by
  rw [windowCopy, List.range_succ, List.foldl_append]
  rfl

/-- Each of the windows is copied as it is staged. -/
theorem get_windowCopy (s : State) (k : Nat) (a b : RegName) {n i : Nat} (hi : i < n) :
    (windowCopy s k a b n).get 0 (2 * i) = s.regWord a k i ∧ (windowCopy s k a b n).get 0 (2 * i + 1) = s.regWord b k i := by
  induction n with
  | zero => exact absurd hi (Nat.not_lt_zero i)
  | succ n ih =>
    rw [windowCopy_succ]
    by_cases hn : i = n
    · rw [hn, get_set_other (h := by omega), get_set_same, get_set_same]
      exact ⟨rfl, rfl⟩
    · rw [get_set_other (h := by omega), get_set_other (h := by omega), get_set_other (h := by omega), get_set_other (h := by omega)]
      exact ih (by omega)

/-- A gate with every staged window active (R244). -/
def windowsActive (s : State) (k : Nat) : State :=
  s.modGate k (fun g => { g with win := windowCopy s k .axgWin .axgWinLim 32, mmio := windowCopy s k .axgMmio .axgMmioLim 8 })

/-- Whether an entry of the table of requests is one that the annex of a port has opened. -/
def openedByAnnex (k : Nat) (e : Nat × Option Req) : Bool :=
  e.1 / 4096 == axStop k && (match e.2 with
    | some r => r.purp == .annex
    | none => false)

/-- The requests that an annex has open, marked as admitted under the windows that are replaced (R245). -/
def requestsOld (s : State) (k : Nat) : State :=
  { s with reqs := s.reqs.map (fun e => if openedByAnnex k e then (e.1, e.2.map (fun r => { r with old := true })) else e) }

/-- A port whose commit is done, with a number of old requests open (R245). -/
def commitDone (s : State) (k old : Nat) : State :=
  ((s.setF F.axgWinCtrl_pending k 0 0).incF F.axgWinCtrl_commitSeq k 0).setF F.axgWinCtrl_oldOpen k 0 old

/-- The commit edge counts as old what the annex has open (R244, R245). -/
theorem exec_windowCommitEdge_of_pending {port : Fin 6} {s : State} (hpending : s.isF F.axgWinCtrl_pending port.val 0 = true) :
    exec (.windowCommitEdge port) s = .next (commitDone (requestsOld (windowsActive s port.val) port.val) port.val
      ((requestsOld (windowsActive s port.val) port.val).reqs.filter (openedByAnnex port.val)).length) := by
  show execWindowCommitEdge port s = _
  rw [execWindowCommitEdge, hpending]
  rfl

theorem commitDone_not_pending (s : State) (k old : Nat) : (commitDone s k old).isF F.axgWinCtrl_pending k 0 = false := by
  rw [commitDone, State.incF, State.isF, getF_setF_field (f := F.axgWinCtrl_oldOpen) (g := F.axgWinCtrl_pending) (hr := rfl) (h := .inr (by decide)),
    getF_setF_field (f := F.axgWinCtrl_commitSeq) (g := F.axgWinCtrl_pending) (hr := rfl) (h := .inr (by decide)), getF_setF_same (h := by decide)]
  rfl

theorem commitDone_frame (s : State) (k old : Nat) :
    (commitDone s k old).mem = s.mem ∧ (commitDone s k old).harts = s.harts ∧ (commitDone s k old).gates = s.gates := by
  simp only [commitDone, State.incF, setF_mem, setF_harts, setF_gates, and_self]

theorem windowsActive_frame (s : State) (k : Nat) : (windowsActive s k).mem = s.mem ∧ (windowsActive s k).harts = s.harts := ⟨modGate_mem .., modGate_harts ..⟩

theorem gate_windowsActive (s : State) (k : Nat) : ((windowsActive s k).gate k).win = windowCopy s k .axgWin .axgWinLim 32 := by
  rw [windowsActive, gate_modGate_same]

/-- Settles O23: the Keeper's writes by the gate's guard, a grant by what its value names, and the edge window by window. -/
theorem annexGrants : Obligations.AnnexGrants := by
  refine ⟨?writes, fun w pa v s r k i hpa hloc hstaged hreach hwid => exec_axgWindowStagingWrite_of_may hpa hloc hstaged hreach hwid v, ?edge⟩
  case writes =>
    intro w port s hreach hwid
    refine ⟨fun v => keeperAt_of_may hreach hwid _, fun j v hmay => ?granted, fun j v hattested hcarrel => ?rejected, keeperAt_of_may hreach hwid _,
      keeperAt_of_may hreach hwid _, keeperAt_of_may hreach hwid _⟩
    case granted =>
      have hgrant : ¬(!s.isF F.axgPortCtrl_attested port.val 0 && decide (8 ≤ v.toNat)) = true := by
        rcases hmay with hattested | hopen
        · simp [hattested]
        · simp [hopen]
      rw [exec_axgGrantWrite_of_may hreach hwid, if_neg hgrant]
    case rejected => rw [exec_axgGrantWrite_of_may hreach hwid, hattested, decide_eq_true hcarrel, Bool.not_false, Bool.and_self, if_pos rfl]
  case edge =>
    intro port s hpending
    obtain ⟨hmem, hharts, hgates⟩ := commitDone_frame (requestsOld (windowsActive s port.val) port.val) port.val
      ((requestsOld (windowsActive s port.val) port.val).reqs.filter (openedByAnnex port.val)).length
    obtain ⟨hmem0, hharts0⟩ := windowsActive_frame s port.val
    refine ⟨_, exec_windowCommitEdge_of_pending hpending, commitDone_not_pending .., hmem.trans hmem0, hharts.trans hharts0, fun i hi => ?windows⟩
    case windows =>
      rw [State.gate, hgates]
      show ((windowsActive s port.val).gate port.val).win.get 0 (2 * i) = _ ∧ ((windowsActive s port.val).gate port.val).win.get 0 (2 * i + 1) = _
      rw [gate_windowsActive]
      exact get_windowCopy s port.val .axgWin .axgWinLim hi

end Sys2Proof.Proofs
end

section
/-! SUPPORT. The link layer of an annex (R228 to R231): what a flit or a timer finds at its link decides, and the width resumes by the modules in use. -/
namespace Sys2Proof.Proofs

open Sys2Proof.Machine Sys2Proof.Laws

section
variable {port : Fin 6} {s : State}

/-! ### Flits and timers -/

/-- A flit that fails a check is counted and recorded, and asked for again where that has not been done (R230). -/
theorem exec_linkFlitReceive_of_bad {f : BitVec 640} (hup : s.linkUp port.val = true) (hbad : linkFlitOk f.toNat = false) {u : State}
    (hu : u = (s.incSat F.axgLinkCount_crcErrors port.val 0).errorEvent .ax port.val { sev := .ce, code := Ev.annexLink } (srcAx port.val 255) (w64 port.val)
      ((s.incSat F.axgLinkCount_crcErrors port.val 0).regWord .axgLinkCount port.val 0)) :
    exec (.linkFlitReceive port f) s = .next (if (u.link port.val).waiting then u else u.sendNak port.val) := by
  show execLinkFlitReceive port f s = _
  rw [execLinkFlitReceive, hup, hbad, hu]
  rfl

theorem exec_replayTimeout_of_kept {n : Nat} {f : BitVec 640} {l : List (Nat × BitVec 640)} (hbuf : (s.link port.val).buf = (n, f) :: l) :
    exec (.replayTimeout port) s = .next (s.linkNak port.val n) := by
  show execReplayTimeout port s = _
  rw [execReplayTimeout, hbuf]

theorem exec_nakResendTimeout_of_waiting (hup : s.linkUp port.val = true) (hwait : (s.link port.val).waiting = true) :
    exec (.nakResendTimeout port) s = .next (s.sendNak port.val) := by
  show execNakResendTimeout port s = _
  rw [execNakResendTimeout, hup, hwait]
  rfl

theorem exec_ackIdleInsert_of_up (hup : s.linkUp port.val = true) :
    exec (.ackIdleInsert port) s = .next (s.modLink port.val (fun l => { l with out := l.out ++ [l.controlFlit none] })) := if_pos hup

/-! ### The width of a link -/

/-- Four rounds of NAK narrow a link of two modules to module 0 (R231). -/
theorem exec_linkNarrow_of_full_width (hup : s.linkUp port.val = true) (hrounds : 4 ≤ (s.link port.val).nakRounds)
    (hfull : s.getF F.axgPortStatus_modules port.val 0 = 3) :
    exec (.linkNarrow port) s = .next (((s.modLink port.val (fun l => { l with nakRounds := 0, replayAt := [] })).incSat F.axgLinkCount_narrows port.val 0).resumeWidth
      port.val 1) := by
  show execLinkNarrow port s = _
  simp only [execLinkNarrow, decide_eq_true hrounds, hup, hfull, Bool.true_or, Bool.not_true, Bool.or_self, Bool.false_eq_true, if_false]

/-- A link at full width, its other module trained on a number of redundant lanes, with the eye margins found from a key on (R220, R231, R256, R460). -/
def widened (s : State) (k key : Nat) (f : Fld) (n : Nat) (eyes : List Nat) : State :=
  (((s.incSat F.axgLinkCount_retrains k 0).noteEyes key (eyes.take 64)).setF f k 0 n).resumeWidth k 3

/-- A link whose module 0 has returned in a recalibration, and which module 1 leaves (R231). -/
def recalTurned (s : State) (k : Nat) : State := ((s.modLink k (fun l => { l with recal := false })).incSat F.axgLinkCount_narrows k 0).resumeWidth k 1

/-- The other module of a link of one returns; in a recalibration module 1 leaves then (R231). -/
theorem exec_linkWiden_of_trained (hup : s.linkUp port.val = true)
    (hone : s.getF F.axgPortStatus_modules port.val 0 = 1 ∨ s.getF F.axgPortStatus_modules port.val 0 = 2) (hdead : (s.link port.val).dead = 0) (n : Fin 5)
    (eyes : List Nat) {u : State}
    (hu : u = widened s port.val (128 * port.val + (if s.getF F.axgPortStatus_modules port.val 0 = 1 then 64 else 0))
      (if s.getF F.axgPortStatus_modules port.val 0 = 1 then F.axgPortStatus_repairedM1 else F.axgPortStatus_repairedM0) n.val eyes) :
    exec (.linkWiden port ⟨some n, eyes⟩) s = .next (if (s.link port.val).recal then recalTurned u port.val else u) := by
  have hserves : (!s.linkUp port.val || (s.getF F.axgPortStatus_modules port.val 0 != 1 && s.getF F.axgPortStatus_modules port.val 0 != 2) ||
      (s.link port.val).dead != 0) = false := by
    rcases hone with hm | hm <;> rw [hup, hm, hdead] <;> rfl
  show execLinkWiden port ⟨some n, eyes⟩ s = _
  rw [execLinkWiden, hserves, hu]
  exact (apply_ite Host.Outcome.next _ _ _).symm

end

/-- Settles O21: flits and timers by what they find at the link, and its width by the modules in use. -/
theorem annexLink : Obligations.AnnexLink := by
  refine ⟨fun port f s hup hbad => ⟨_, rfl, exec_linkFlitReceive_of_bad hup hbad rfl⟩, fun port seq s => ⟨rfl, rfl⟩,
    fun port s n f l hbuf => exec_replayTimeout_of_kept hbuf, fun port s hup hwait => exec_nakResendTimeout_of_waiting hup hwait, ?idle,
    fun port s hup hrounds hfull => exec_linkNarrow_of_full_width hup hrounds hfull, ?widen⟩
  case idle => exact fun port s hup => ⟨_, exec_ackIdleInsert_of_up hup, link_modLink_same .., modLink_regs .., modLink_outq ..⟩
  case widen =>
    intro port s hup hone hdead
    refine ⟨_, _, rfl, rfl, fun n eyes u hu => ?_⟩
    rw [exec_linkWiden_of_trained hup hone hdead n eyes hu]
    exact ⟨fun hrecal => by rw [hrecal, if_neg Bool.false_ne_true], fun hrecal => by rw [hrecal, if_pos rfl]; rfl⟩

end Sys2Proof.Proofs
end

section
/-! SUPPORT. Bring-up of an annex port (R226, R231, R233, R234, R236): what the Keeper asks for, what the training found, and what the annex takes of the gate's OPEN and HOLD. -/
namespace Sys2Proof.Proofs

open Sys2Proof.Machine Sys2Proof.Laws

/-! ### Training -/

/-- A port whose training is over: the modules in use and the redundant lanes of each (R220, R256). -/
def trainedStatus (s : State) (k m a b : Nat) : State :=
  (((s.setF F.axgPortStatus_linkState k 0 LinkState.init).setF F.axgPortStatus_modules k 0 m).setF F.axgPortStatus_repairedM0 k 0 a).setF
    F.axgPortStatus_repairedM1 k 0 b

/-- What one word of the port's status says after training, field by field. -/
theorem trainedStatus_fields (s : State) (k : Nat) {m a b : Nat} (hm : m < 4) (ha : a < 16) (hb : b < 16) :
    (trainedStatus s k m a b).linkState k = LinkState.init ∧ (trainedStatus s k m a b).getF F.axgPortStatus_modules k 0 = m ∧
      (trainedStatus s k m a b).getF F.axgPortStatus_repairedM0 k 0 = a ∧ (trainedStatus s k m a b).getF F.axgPortStatus_repairedM1 k 0 = b := by
  refine ⟨?state, ?modules, ?lanes0, ?lanes1⟩
  case state =>
    rw [trainedStatus, linkState_setF_field rfl (by decide), linkState_setF_field rfl (by decide), linkState_setF_field rfl (by decide),
      linkState_setF_same (by decide)]
  case modules =>
    rw [trainedStatus, getF_setF_field _ F.axgPortStatus_repairedM1 F.axgPortStatus_modules _ _ _ rfl (.inr (by decide)),
      getF_setF_field _ F.axgPortStatus_repairedM0 F.axgPortStatus_modules _ _ _ rfl (.inr (by decide)), getF_setF_same (h := by decide)]
    exact Nat.mod_eq_of_lt hm
  case lanes0 =>
    rw [trainedStatus, getF_setF_field _ F.axgPortStatus_repairedM1 F.axgPortStatus_repairedM0 _ _ _ rfl (.inr (by decide)), getF_setF_same (h := by decide)]
    exact Nat.mod_eq_of_lt ha
  case lanes1 =>
    rw [trainedStatus, getF_setF_same (h := by decide)]
    exact Nat.mod_eq_of_lt hb

theorem trainedStatus_frame (s : State) (k m a b : Nat) : (trainedStatus s k m a b).mem = s.mem ∧ (trainedStatus s k m a b).harts = s.harts := by
  simp only [trainedStatus, setF_mem, setF_harts, and_self]

/-- A trained link: its modules at work or out of service, and the eye margins of both handed over (R233). -/
def trainedLink (s : State) (k : Nat) (m : BitVec 2) (e f : List Nat) : State :=
  ((s.modLink k (fun l => { l with
      dead := ~~~m
      phy0 := if m.getLsbD 0 then .active else .trainerror
      phy1 := if m.getLsbD 1 then .active else .trainerror })).noteEyes (128 * k) (e.take 64)).noteEyes (128 * k + 64) (f.take 64)

/-- INIT of the gate, after the record of a module that did not train (R233, R234). -/
def initSent (s : State) (k : Nat) (m : BitVec 2) : State := (if m = 3#2 then s else s.recordBringup k).linkControl k 1 0 gateInit

theorem regWord_noteEyes (s : State) (key : Nat) (l : List Nat) (r : RegName) (u i : Nat) : (s.noteEyes key l).regWord r u i = s.regWord r u i := rfl

theorem noteEyes_frame (s : State) (key : Nat) (l : List Nat) : (s.noteEyes key l).mem = s.mem ∧ (s.noteEyes key l).harts = s.harts := ⟨rfl, rfl⟩

theorem regWord_trainedLink (s : State) (k : Nat) (m : BitVec 2) (e f : List Nat) (r : RegName) (u i : Nat) : (trainedLink s k m e f).regWord r u i = s.regWord r u i := by
  rw [trainedLink, regWord_noteEyes, regWord_noteEyes, regWord_modLink]

theorem trainedLink_frame (s : State) (k : Nat) (m : BitVec 2) (e f : List Nat) : (trainedLink s k m e f).mem = s.mem ∧ (trainedLink s k m e f).harts = s.harts := by
  simp only [trainedLink, noteEyes_frame, modLink_mem, modLink_harts, and_self]

theorem regWord_initSent {r : RegName} (hr : r ∉ recorderRegs) (s : State) (k : Nat) (m : BitVec 2) (u i : Nat) : (initSent s k m).regWord r u i = s.regWord r u i := by
  rw [initSent, regWord_linkControl]
  split
  · rfl
  · exact regWord_record hr ..

theorem initSent_frame (s : State) (k : Nat) (m : BitVec 2) : (initSent s k m).mem = s.mem ∧ (initSent s k m).harts = s.harts := by
  rw [initSent, State.linkControl, modLink_mem, modLink_harts]
  split
  · exact ⟨rfl, rfl⟩
  · exact ⟨standing_mem.record .., standing_harts.record ..⟩

section
variable {port : Fin 6} {s : State}

/-- Training that found a module to work leaves the port in INIT (R233). -/
theorem exec_ucieTrainingComplete_of_trained {m : BitVec 2} (htraining : s.linkState port.val = LinkState.training) (hm : m ≠ 0) (a b : Fin 5) (e f : List Nat) :
    exec (.ucieTrainingComplete port m ⟨some a, e⟩ ⟨some b, f⟩) s =
      .next (initSent (trainedLink (trainedStatus s port.val m.toNat a.val b.val) port.val m e f) port.val m) := by
  show execUcieTrainingComplete port m ⟨some a, e⟩ ⟨some b, f⟩ s = _
  rw [execUcieTrainingComplete]
  exact (if_neg (not_not_intro htraining)).trans (if_neg hm)

theorem gives_ucieTrainingComplete_of_trained {m : BitVec 2} (htraining : s.linkState port.val = LinkState.training) (hm : m ≠ 0) (a b : Fin 5) (e f : List Nat) :
    Gives (.ucieTrainingComplete port m ⟨some a, e⟩ ⟨some b, f⟩) s (fun t => t.linkState port.val = LinkState.init ∧
      t.getF F.axgPortStatus_modules port.val 0 = m.toNat ∧ t.getF F.axgPortStatus_repairedM0 port.val 0 = a.val ∧
      t.getF F.axgPortStatus_repairedM1 port.val 0 = b.val ∧ t.mem = s.mem ∧ t.harts = s.harts) := by
  obtain ⟨hstate, hmodules, hlanes0, hlanes1⟩ := trainedStatus_fields s port.val m.isLt (Nat.lt_trans a.isLt (by decide)) (Nat.lt_trans b.isLt (by decide))
  obtain ⟨hmem0, hharts0⟩ := trainedStatus_frame s port.val m.toNat a.val b.val
  generalize htrained : trainedStatus s port.val m.toNat a.val b.val = u at *
  obtain ⟨hmem1, hharts1⟩ := trainedLink_frame u port.val m e f
  obtain ⟨hmem2, hharts2⟩ := initSent_frame (trainedLink u port.val m e f) port.val m
  have hstatus : (initSent (trainedLink u port.val m e f) port.val m).regWord .axgPortStatus port.val 0 = u.regWord .axgPortStatus port.val 0 :=
    (regWord_initSent (by decide) ..).trans (regWord_trainedLink ..)
  refine ⟨_, exec_ucieTrainingComplete_of_trained htraining hm a b e f, ?_⟩
  rw [htrained]
  exact ⟨(linkState_congr hstatus).trans hstate, (getF_congr (f := F.axgPortStatus_modules) hstatus).trans hmodules,
    (getF_congr (f := F.axgPortStatus_repairedM0) hstatus).trans hlanes0, (getF_congr (f := F.axgPortStatus_repairedM1) hstatus).trans hlanes1,
    hmem2.trans (hmem1.trans hmem0), hharts2.trans (hharts1.trans hharts0)⟩

/-! ### Time limits -/

theorem exec_bringupAttemptTimeout_of_pending (hstate : s.linkState port.val = LinkState.training ∨ s.linkState port.val = LinkState.init) :
    exec (.bringupAttemptTimeout port) s = .next (s.attemptFailed port.val) := if_pos hstate

theorem exec_declareTimeout_of_pending (hinit : s.linkState port.val = LinkState.init) (hgot : (s.link port.val).gotInit = true) :
    exec (.declareTimeout port) s = .next (s.bringupFailed port.val true) := if_pos ⟨hinit, hgot⟩

/-! ### What the annex takes -/

theorem exec_openMsg_of_sent {f : BitVec 640} {l : Link} (hsent : (s.link port.val).takeControl 3 = some (f, l)) :
    exec (.openMsg port) s = .next (s.setLink port.val { l with told := BitVec.ofNat 16 (flitBits f.toNat 16 16) }) := by
  show execOpen port s = _
  rw [execOpen, hsent]

theorem exec_hold_of_sent {f : BitVec 640} {l : Link} (hsent : (s.link port.val).takeControl 6 = some (f, l)) :
    exec (.hold port) s = .next (s.setLink port.val { l with heldCause := some (flitBits f.toNat 16 8) }) := by
  show execHold port s = _
  rw [execHold, hsent]

/-! ### What the Keeper asks for -/

/-- A port that is not enabled is enabled and begins its bring-up (R233, R255). -/
theorem exec_portBringup_of_may {w : Issuer} (hreach : s.reachable .ax port.val = true) (hwid : s.issuerWid w = 0)
    (henable : s.isF F.axgPortCtrl_enable port.val 0 = false) :
    exec (.portBringup w port) s = .next (((s.setF F.axgPortCtrl_enable port.val 0 1).startBringup port.val).accept w (Place.ax.stopOf port.val)) := by
  show execPortBringup w port s = _
  rw [execPortBringup, keeperAt_of_may hreach hwid, henable, if_neg Bool.false_ne_true]

end

/-- Settles O22: the Keeper's writes by the gate's guard, training by what it found, and the messages and time limits by the state that they meet. -/
theorem annexBringup : Obligations.AnnexBringup :=
  ⟨fun _ _ _ hreach hwid => ⟨exec_portBringup_of_may hreach hwid, keeperAt_of_may hreach hwid _, keeperAt_of_may hreach hwid _⟩,
    fun _ _ a b e f _ htraining hm => gives_ucieTrainingComplete_of_trained htraining hm a b e f,
    fun _ _ hstate => exec_bringupAttemptTimeout_of_pending hstate,
    fun _ _ _ _ _ _ _ _ => rfl,
    fun _ _ _ _ _ _ => rfl,
    fun _ _ hinit hgot => exec_declareTimeout_of_pending hinit hgot,
    fun _ _ _ _ hsent => exec_openMsg_of_sent hsent,
    fun _ _ _ _ hsent => exec_hold_of_sent hsent⟩

end Sys2Proof.Proofs
end

section
/-! SUPPORT. The memory ports (R272, R279 to R283, R285, R287): the patrol scrub's walk, training and its repetition, refresh, and the link of a mirrored pair. -/
namespace Sys2Proof.Proofs

open Sys2Proof.Machine Sys2Proof.Laws

/-! ### What a record leaves of a port -/

theorem standing_mps : Standing State.mps := ⟨setF_mps, setAplic_mps, fun _ _ => rfl, modNi_mps, fun _ _ => rfl⟩

/-- A field of a register that is not the recorder's reads the same after the record of an event (R495). -/
theorem isF_record {f : Fld} (hf : f.reg ∉ recorderRegs) (s : State) (code : Nat) (src : Source) (d0 d1 : Word) (u i : Nat) :
    (s.record code src d0 d1).isF f u i = s.isF f u i := congrArg (· == 1) (getF_congr (regWord_record hf ..))

/-! ### The ports' own part of the state -/

/-- A state with other memory ports. -/
def withPorts (s : State) (m : Map Mp) : State := { s with mps := m }

@[simp] theorem withPorts_mps (s : State) (m : Map Mp) : (withPorts s m).mps = m := rfl
@[simp] theorem withPorts_regs (s : State) (m : Map Mp) : (withPorts s m).regs = s.regs := rfl
@[simp] theorem withPorts_mem (s : State) (m : Map Mp) : (withPorts s m).mem = s.mem := rfl
@[simp] theorem withPorts_harts (s : State) (m : Map Mp) : (withPorts s m).harts = s.harts := rfl
@[simp] theorem withPorts_annals (s : State) (m : Map Mp) : (withPorts s m).annals = s.annals := rfl
@[simp] theorem getF_withPorts (s : State) (m : Map Mp) (f : Fld) (u i : Nat) : (withPorts s m).getF f u i = s.getF f u i := rfl
@[simp] theorem isF_withPorts (s : State) (m : Map Mp) (f : Fld) (u i : Nat) : (withPorts s m).isF f u i = s.isF f u i := rfl

section
variable {mp : Fin 12} {s : State}

/-! ### The patrol scrub -/

/-- The walk of a port's scrub on to its next granule, or through its end to the first, a pass counted (R272). -/
def scrubMoved (s u : State) (k : Nat) : State :=
  if s.getF F.mpScrubStatus_position k 0 + 1 < s.mpGranules k then u.setF F.mpScrubStatus_position k 0 (s.getF F.mpScrubStatus_position k 0 + 1)
  else (u.setF F.mpScrubStatus_position k 0 0).incSat F.mpScrubStatus_passes k 0

/-- A granule that is not lost is read and counted, and left as it is (R272, R273). -/
theorem exec_patrolScrubRead_of_not_lost {re : ReadErr} (henable : s.isF F.mpScrubCtrl_patrolEn mp.val 0 = true) (hserves : s.mpServes mp.val = true)
    (hkept : (s.decode mp.val (s.getF F.mpScrubStatus_position mp.val 0) re).1 ≠ .lost) :
    exec (.patrolScrubRead mp re) s = .next (scrubMoved s ((s.pmu .mp mp.val 0x309 1 {}).countDecode mp.val
      (deinterleave mp.val (s.getF F.mpScrubStatus_position mp.val 0)) (s.getF F.mpScrubStatus_position mp.val 0) re 0) mp.val) := by
  show execPatrolScrubRead mp re s = _
  unfold execPatrolScrubRead
  dsimp only
  rw [henable, hserves]
  cases hdec : (s.decode mp.val (s.getF F.mpScrubStatus_position mp.val 0) re).1 with
  | clean => exact (apply_ite Host.Outcome.next _ _ _).symm
  | corrected => exact (apply_ite Host.Outcome.next _ _ _).symm
  | lost => exact absurd hdec hkept

/-! ### Training -/

section
variable (hbegun : s.getF F.mpStatus_trainState mp.val 0 ≠ 0) (hpending : s.getF F.mpStatus_trainState mp.val 0 < 9)
include hbegun hpending

/-- Training that succeeds serves the port, with the lanes that it retires and the eyes that it measured (R280, R281). -/
theorem exec_mpTrainingDone_of_success {pins : List (BitVec 6)} {w : Word} (hretire : addRetire (s.regWord .mpLaneRetire mp.val 0) (pins.map (·.toNat)) = some w)
    (eyes heights : List Nat) :
    exec (.mpTrainingDone mp 0 ⟨pins, eyes, heights⟩) s =
      .next ((((if w = s.regWord .mpLaneRetire mp.val 0 then s else s.ledgerChange 3 mp.val (s.regWord .mpLaneRetire mp.val 0) w 0 0 0).noteEyes
        (1024 + 64 * mp.val) (eyes.take 64)).noteEyes (2048 + 64 * mp.val) (heights.take 64)).trained mp.val w) := by
  show execMpTrainingDone mp 0 ⟨pins, eyes, heights⟩ s = _
  rw [execMpTrainingDone, if_neg (by omega)]
  dsimp only
  rw [hretire]
  rfl

/-- A port whose training begins again at step 1 after its first failure (R280). -/
def trainingAgain (s : State) (k step : Nat) : State :=
  withPorts ((s.setF F.mpStatus_failStep k 0 step).setF F.mpStatus_trainState k 0 1)
    (s.mps.set {} k { s.mps.get {} k with retried := true, started := s.mtime })

theorem exec_mpTrainingDone_of_first_failure {step : Fin 9} (hfail : step ≠ 0) (hfirst : (s.mps.get {} mp.val).retried = false) (pins : PinTest) :
    exec (.mpTrainingDone mp step pins) s = .next (trainingAgain s mp.val step.val) := by
  have hstep : step.val ≠ 0 := Fin.val_ne_zero_iff.mpr hfail
  show execMpTrainingDone mp step pins s = _
  rw [execMpTrainingDone, if_neg (by omega)]
  dsimp only
  rw [if_pos hstep, hfirst]
  rfl

end

/-- What is read of a port whose training begins again, and what stands (R280). -/
theorem trainingAgain_reads {step : Nat} (hstep : step < 16) (s : State) (k : Nat) :
    (trainingAgain s k step).getF F.mpStatus_failStep k 0 = step ∧ ((trainingAgain s k step).mps.get {} k).retried = true ∧
      (trainingAgain s k step).mem = s.mem ∧ (trainingAgain s k step).harts = s.harts := by
  rw [trainingAgain, getF_withPorts, withPorts_mps, withPorts_mem, withPorts_harts, get_set_same]
  refine ⟨?_, rfl, by rw [setF_mem, setF_mem], by rw [setF_harts, setF_harts]⟩
  rw [getF_setF_field _ F.mpStatus_trainState F.mpStatus_failStep _ _ _ rfl (.inl (by decide)), getF_setF_same (h := by decide)]
  exact Nat.mod_eq_of_lt hstep

/-! ### Refresh -/

/-- A port that has refreshed one more bank (R282). -/
def refreshed (s : State) (k bank : Nat) : State :=
  withPorts s (s.mps.set {} k { s.mps.get {} k with refreshes := (s.mps.get {} k).refreshes + 1, lastBank := bank })

theorem exec_refreshDue_of_serving (hserves : s.mpServes mp.val = true) (bank : Fin 16) :
    exec (.refreshDue mp bank) s = .next (refreshed s mp.val bank.val) := if_pos hserves

theorem refreshed_reads (s : State) (k bank : Nat) :
    ((refreshed s k bank).mps.get {} k).refreshes = (s.mps.get {} k).refreshes + 1 ∧ ((refreshed s k bank).mps.get {} k).lastBank = bank ∧
      (refreshed s k bank).regs = s.regs ∧ (refreshed s k bank).mem = s.mem ∧ (refreshed s k bank).harts = s.harts := by
  rw [refreshed, withPorts_mps, get_set_same]
  exact ⟨rfl, rfl, withPorts_regs .., withPorts_mem .., withPorts_harts ..⟩

/-- A port whose refresh follows a temperature (R282). -/
def temperatureTaken (s : State) (k temp : Nat) : State :=
  withPorts s (s.mps.set {} k { s.mps.get {} k with refreshMs := if temp ≤ 85 then 32 else 16, hot := decide (95 < temp) })

/-- A poll takes the temperature, and records the first that is above 95 degrees (R282). -/
theorem exec_mpTemperaturePoll (mp : Fin 12) (temp : Nat) (s : State) : exec (.mpTemperaturePoll mp temp) s =
    .next (if 95 < temp ∧ (s.mps.get {} mp.val).hot = false then (temperatureTaken s mp.val temp).record Ev.mpEvent (srcMp mp.val 0) (w64 mp.val) 3
      else temperatureTaken s mp.val temp) := (apply_ite Host.Outcome.next _ _ _).symm

theorem gives_mpTemperaturePoll (mp : Fin 12) (temp : Nat) (s : State) :
    Gives (.mpTemperaturePoll mp temp) s (fun t => (t.mps.get {} mp.val).refreshMs = (if temp ≤ 85 then 32 else 16) ∧
      (t.mps.get {} mp.val).hot = decide (95 < temp) ∧ t.mem = s.mem ∧ (temp ≤ 95 → t.regs = s.regs ∧ t.annals = s.annals)) := by
  have hport : (temperatureTaken s mp.val temp).mps.get {} mp.val =
      { s.mps.get {} mp.val with refreshMs := if temp ≤ 85 then 32 else 16, hot := decide (95 < temp) } := get_set_same ..
  refine ⟨_, exec_mpTemperaturePoll mp temp s, ?_⟩
  split
  case isTrue hhot =>
    rw [standing_mps.record, standing_mem.record, hport]
    exact ⟨rfl, rfl, withPorts_mem .., fun hcool => absurd hhot.1 (Nat.not_lt.mpr hcool)⟩
  case isFalse =>
    rw [hport]
    exact ⟨rfl, rfl, withPorts_mem .., fun _ => ⟨withPorts_regs .., withPorts_annals ..⟩⟩

/-! ### The link of a mirrored pair -/

/-- A port with its mirror link up (1) or down (0) and no copy to its partner under way (R279). -/
def mirrorLinked (s : State) (k up : Nat) : State :=
  withPorts (s.setF F.mpStatus_mirrorLinkUp k 0 up) (s.mps.set {} k { s.mps.get {} k with resync := false })

/-- What is read of a port once the change of its link has been recorded, and what stands (R279). -/
theorem mirrorLinked_recorded_reads (s : State) (k up code : Nat) (src : Source) (d0 d1 : Word) :
    ((mirrorLinked s k up).record code src d0 d1).isF F.mpStatus_mirrorLinkUp k 0 = (up % 2 == 1) ∧
      (((mirrorLinked s k up).record code src d0 d1).mps.get {} k).resync = false ∧ ((mirrorLinked s k up).record code src d0 d1).mem = s.mem := by
  rw [isF_record (by decide), standing_mps.record, standing_mem.record, mirrorLinked, isF_withPorts, withPorts_mps, withPorts_mem, get_set_same, setF_mem]
  exact ⟨isF_setF_same (h := by decide) .., rfl, rfl⟩

theorem exec_mirrorLinkDown_of_up (hup : s.isF F.mpStatus_mirrorLinkUp mp.val 0 = true) :
    exec (.mirrorLinkDown mp) s = .next ((mirrorLinked s mp.val 0).record Ev.mpEvent (srcMp mp.val 0) (w64 mp.val) 1) := if_pos hup

theorem exec_mirrorResyncDone_of_resync (hresync : (s.mps.get {} mp.val).resync = true) :
    exec (.mirrorResyncDone mp) s = .next ((mirrorLinked s mp.val 1).record Ev.mpEvent (srcMp mp.val 0) (w64 mp.val) 2) := if_pos hresync

/-- A port that copies its mirrored range to its partner (R279). -/
def resyncing (s : State) (k : Nat) : State := withPorts s (s.mps.set {} k { s.mps.get {} k with resync := true })

theorem exec_mirrorLinkReturn_of_down (hmirror : s.mpMirror mp.val ≠ 0) (hdown : s.isF F.mpStatus_mirrorLinkUp mp.val 0 = false) :
    exec (.mirrorLinkReturn mp) s = .next (resyncing s mp.val) := if_neg (not_or.mpr ⟨hmirror, Bool.eq_false_iff.mp hdown⟩)

theorem resyncing_reads (s : State) (k : Nat) :
    ((resyncing s k).mps.get {} k).resync = true ∧ (resyncing s k).regs = s.regs ∧ (resyncing s k).mem = s.mem := by
  rw [resyncing, withPorts_mps, get_set_same]
  exact ⟨rfl, withPorts_regs .., withPorts_mem ..⟩

end

/-- Settles O25: the scrub by what it decodes, the Keeper's writes by the port's guard, training by its outcome, and the rest by the part of the port's state that each changes. -/
theorem memoryPorts : Obligations.MemoryPorts :=
  ⟨fun _ _ _ henable hserves hkept => exec_patrolScrubRead_of_not_lost henable hserves hkept,
    fun _ _ _ _ hreach hwid => ⟨keeperAt_of_may hreach hwid _, keeperAt_of_may hreach hwid _⟩,
    fun _ _ eyes heights _ _ hbegun hpending hretire => exec_mpTrainingDone_of_success hbegun hpending hretire eyes heights,
    fun mp step pins s hbegun hpending hfail hfirst =>
      ⟨_, exec_mpTrainingDone_of_first_failure hbegun hpending hfail hfirst pins, trainingAgain_reads (Nat.lt_trans step.isLt (by decide)) s mp.val⟩,
    fun mp bank s hserves => ⟨_, exec_refreshDue_of_serving hserves bank, refreshed_reads s mp.val bank.val⟩,
    fun mp temp s => gives_mpTemperaturePoll mp temp s,
    fun _ _ => ⟨rfl, rfl⟩,
    fun mp s hup => ⟨_, exec_mirrorLinkDown_of_up hup, mirrorLinked_recorded_reads s mp.val 0 ..⟩,
    fun mp s hmirror hdown => ⟨_, exec_mirrorLinkReturn_of_down hmirror hdown, resyncing_reads s mp.val⟩,
    fun mp s hresync => ⟨_, exec_mirrorResyncDone_of_resync hresync, mirrorLinked_recorded_reads s mp.val 1 ..⟩⟩

end Sys2Proof.Proofs
end

section
/-! SUPPORT. Writes that only WID 0 may make (R8, R26, R292): another world's write is refused at the guard whatever the command would do, and what a refusal leaves for a hart and for another
agent. -/
namespace Sys2Proof.Proofs

open Sys2Proof.Machine Sys2Proof.Laws

/-! ### The guard of WID 0 -/

theorem keeperOnly_of_not_may {s : State} {w : Issuer} (hwid : s.issuerWid w ≠ 0) (st : Nat) (f : State → State) :
    s.keeperOnly w st f = .next (s.refuse w st true Err.permission) := by
  rw [State.keeperOnly, beq_false_of_ne hwid]
  exact guarded_of_not_may s w st f

theorem keeperAt_of_not_may {s : State} {w : Issuer} {p : Place} {u : Nat} (hwid : s.issuerWid w ≠ 0) (hreach : s.reachable p u = true) (f : State → State) :
    s.keeperAt w p u f = .next (s.refuse w (p.stopOf u) true Err.permission) := by
  rw [State.keeperAt, guardedAt_of_reachable hreach]
  exact keeperOnly_of_not_may hwid (p.stopOf u) f

/-! ### What a refusal leaves -/

/-- A hart whose write is refused takes a store access fault, after the record of the refusal (log entries 12 and 13). -/
theorem refuse_of_hart {w : Issuer} {h : BitVec 8} (hhart : w.hart = some h) (s : State) (st : Nat) :
    s.refuse w st true Err.permission = (s.refusedReg st (s.issuerWid w) w.pa.toNat).trap h.toNat Exc.storeAccess false w.va
      ((s.refusedReg st (s.issuerWid w) w.pa.toNat).hart h.toNat).pc := by
  simp only [State.refuse, hhart, if_true]

/-- Another agent whose write is refused is sent ErrResp of the register block, after the record of the refusal. -/
theorem refuse_of_agent {w : Issuer} (hhart : w.hart = none) (s : State) (st : Nat) :
    s.refuse w st true Err.permission =
      (s.refusedReg st (s.issuerWid w) w.pa.toNat).send (issuerPacket w st Opc.errResp (errAttr Err.permission Origin.register)) := by
  simp only [State.refuse, hhart, if_true]

/-- The record of a refusal is one of the Annals alone. -/
theorem Standing.refusedReg {α : Type} {part : State → α} (standing : Standing part) (s : State) (st wid pa : Nat) : part (s.refusedReg st wid pa) = part s :=
  standing.record ..

/-- Settles O57: each command stands behind the guard of WID 0, which refuses it before its effect; and a refusal by who issued the write. -/
theorem keeperRefusals : Obligations.KeeperRefusals := by
  refine ⟨?service, ?block, fun w s st h hhart => refuse_of_hart hhart s st, ?agent⟩
  case service =>
    intro w s v d tm rw slot owner k c hwid hc
    simp only [List.mem_cons, List.not_mem_nil, or_false] at hc
    rcases hc with rfl | rfl | rfl | rfl | rfl | rfl | rfl | rfl | rfl | rfl | rfl | rfl | rfl | rfl | rfl
    all_goals dsimp only [exec, execDomainOffRequest, execDomainOnRequest, execDomainTimerRequest, State.domWrite]
    all_goals exact keeperOnly_of_not_may hwid svcStop _
  case block =>
    intro w s pl u c hwid hreach hc
    simp only [List.mem_cons, List.not_mem_nil, or_false] at hc
    rcases hc with ⟨p, v, b, j, rfl, rfl, rfl | rfl | rfl | rfl | rfl | rfl | rfl | rfl⟩ | ⟨m, v, rfl, rfl, rfl | rfl⟩ | ⟨st, b, d, np, v, rfl, rfl, rfl | rfl⟩ |
      ⟨hp, rp, v, rfl, rfl, rfl | rfl | rfl⟩ | ⟨de, ch, v, rfl, rfl, rfl⟩ | ⟨t, v, rfl, rfl, rfl⟩
    all_goals exact keeperAt_of_not_may hwid hreach _
  case agent =>
    intro w s st hhart
    refine ⟨_, rfl, ?_⟩
    rw [refuse_of_agent hhart, send_mem, send_harts, send_outq, standing_mem.refusedReg, standing_harts.refusedReg, standing_outq.refusedReg]
    exact ⟨rfl, rfl, rfl⟩

end Sys2Proof.Proofs
end

section
/-! SUPPORT. The deed unit (R305, R306, R311): a world's write of its own command page, by what the page and the table hold; the unit's turn; and the Keeper's write of the table's enable. -/
namespace Sys2Proof.Proofs

open Sys2Proof.Machine Sys2Proof.Laws

/-! ### A write of a command page -/

/-- What the deed unit asks of a command before any page (R305): one of the seven operations, and a target that the operation allows for page `x`. -/
structure DeedAdmitted (x op target : Nat) : Prop where
  known : 1 ≤ op ∧ op ≤ 7
  assign : op = 1 → target ≠ 0
  share : op = 2 ∨ op = 3 → target ≠ x
  donate : op = 5 → 3 ≤ target

/-- Page `x` runs a command, with the arguments that its registers hold. -/
def deedRunning (s : State) (x op target slot : Nat) : State :=
  let c : DeedCmd := { op := op, target := target, slot := slot, page := s.getF F.wldDeedArg_page 0 x, left := s.getF F.wldDeedArg_count 0 x, done := 0 }
  (State.setF { s with deedCmds := s.deedCmds.set none x (some c) } F.wldDeedStatus_busy 0 x 1).setF F.wldDeedStatus_donePages 0 x 0

theorem deedStart_of_busy {s : State} {x : Nat} (hbusy : s.isF F.wldDeedStatus_busy 0 x = true) (op target slot : Nat) :
    s.deedStart x op target slot = s.setF F.wldDeedStatus_result 0 x Deed.refusedBusy := if_pos hbusy

theorem deedStart_of_idle {s : State} {x op target : Nat} (hop : DeedAdmitted x op target) (hbusy : s.isF F.wldDeedStatus_busy 0 x = false)
    (hready : s.isF F.wldDeedTable_ready 0 0 = true) (hlock : s.isF F.wldDeedTable_lock 0 0 = true) (hcount : s.getF F.wldDeedArg_count 0 x ≠ 0) (slot : Nat) :
    s.deedStart x op target slot = deedRunning s x op target slot := by
  obtain ⟨⟨hop1, hop7⟩, hassign, hshare, hdonate⟩ := hop
  have hknown : ¬(op = 0 ∨ 7 < op) := by omega
  unfold State.deedStart
  simp only [hbusy, hready, hlock, hcount, hknown, Bool.not_true, Bool.or_self, Bool.false_eq_true, if_false]
  refine if_neg ?_
  split
  case h_1 => simpa using hassign rfl
  case h_2 => simpa using hshare (.inl rfl)
  case h_3 => simpa using hshare (.inr rfl)
  case h_4 => simpa using hdonate rfl
  case h_5 => exact Bool.false_ne_true

/-- The two ends of a write that a world makes of its own page: refused as busy, or set going. -/
theorem deedCommand_of_own {w : Issuer} {x op target : Nat} {s : State} (hwid : s.issuerWid w = x) (hop : DeedAdmitted x op target) (slot : Nat) :
    (s.isF F.wldDeedStatus_busy 0 x = true →
      s.deedCommand w x op target slot = .next ((s.setF F.wldDeedStatus_result 0 x Deed.refusedBusy).accept w svcStop)) ∧
    (s.isF F.wldDeedStatus_busy 0 x = false → s.isF F.wldDeedTable_ready 0 0 = true → s.isF F.wldDeedTable_lock 0 0 = true →
      s.getF F.wldDeedArg_count 0 x ≠ 0 → s.deedCommand w x op target slot = .next ((deedRunning s x op target slot).accept w svcStop)) := by
  have hcommand : s.deedCommand w x op target slot = .next ((s.deedStart x op target slot).accept w svcStop) := by
    rw [State.deedCommand, hwid, beq_self_eq_true, guarded_of_may]
  exact ⟨fun hbusy => by rw [hcommand, deedStart_of_busy hbusy],
    fun hbusy hready hlock hcount => by rw [hcommand, deedStart_of_idle hop hbusy hready hlock hcount]⟩

/-! ### The unit's turn -/

theorem exec_deedUnitTurn_of_free {s : State} {e : Option (BitVec 5)} {lost : BitVec 32}
    (hfree : s.works.any (fun r => r.stop == svcStop && r.ep == 2 && r.cmd != .deedUnitTurn ⟨e, lost⟩) = false) :
    exec (.deedUnitTurn ⟨e, lost⟩) s = .next (s.deedTake.served svcStop 2 (.deedUnitTurn ⟨e, lost⟩) (fun s => s.deedGo (e.map (fun e => e.toNat)) lost)) :=
  if_neg (Bool.eq_false_iff.mp hfree)

theorem deedEnd_deedTurn (s : State) (x result done : Nat) : (s.deedEnd x result done).deedTurn = s.deedTurn := by
  simp only [State.deedEnd, setF_deedTurn]

/-- The unit goes on behind the page that it takes, whether the page is refused or its first deed is written (R305). -/
theorem deedTake_deedTurn {s : State} {x : Nat} {c : DeedCmd} (hnow : s.deedNow = none) (hnext : s.deedNext = some (x, c)) :
    s.deedTake.deedTurn = (x + 1) % 64 := by
  unfold State.deedTake
  rw [hnow, hnext]
  dsimp only
  split
  · rw [deedEnd_deedTurn]
  · rfl

/-! ### The table -/

theorem exec_deedTableEnable_of_may {s : State} {w : Issuer} (hwid : s.issuerWid w = 0) (v : Word) :
    exec (.deedTableEnable w v) s = .next ((s.writeReg .wldDeedTable 0 0
      (if s.mode = 4 ∨ s.mode = 5 then v else putBits v 0 1 (s.getF F.wldDeedTable_enable 0 0)) allBytes).accept w svcStop) := by
  show execDeedTableEnable w v s = _
  exact keeperOnly_of_may hwid svcStop _

/-- Settles O26: each command by what its own page holds, the turn by the protocol of an agent's command, and the table's enable by the mode. -/
theorem deedCommands : Obligations.DeedCommands := by
  refine ⟨?commands, fun e lost s hfree => served_of (exec_deedUnitTurn_of_free hfree), fun s x c hnow hnext => deedTake_deedTurn hnow hnext, ?enable, fun _ => rfl⟩
  case commands =>
    intro w page target slot s c op tg sl hwid hc
    rcases hc with ⟨rfl, rfl, rfl, htarget, rfl⟩ | ⟨rfl, rfl, rfl, htarget, rfl⟩ | ⟨rfl, rfl, rfl, htarget, rfl⟩ | ⟨rfl, rfl, rfl, rfl⟩ |
      ⟨rfl, rfl, rfl, htarget, rfl⟩ | ⟨rfl, rfl, rfl, rfl⟩ | ⟨rfl, rfl, rfl, rfl⟩
    all_goals exact deedCommand_of_own hwid ⟨by omega, by omega, by omega, by omega⟩ _
  case enable =>
    intro w v s hwid
    rw [exec_deedTableEnable_of_may hwid]
    exact ⟨fun hmode => by rw [if_pos hmode], fun h4 h5 => by rw [if_neg (not_or.mpr ⟨h4, h5⟩)]⟩

end Sys2Proof.Proofs
end

section
/-! SUPPORT. Keys and debug (R315, R317, R320, R321, R401): the Keeper's key command and its end, the permissions that it writes, halt and resume requests, and the debug module's accesses of
the system bus (log entries 26, 37 and 38). -/
namespace Sys2Proof.Proofs

open Sys2Proof.Machine Sys2Proof.Laws

/-! ### Keys and permissions -/

section

variable {s : State} {w : Issuer} (hwid : s.issuerWid w = 0)
include hwid

theorem exec_generate_of_may (slot : BitVec 8) (owner : BitVec 6) :
    exec (.generate w slot owner) s = .next ((s.keyCommand 1 slot.toNat owner.toNat).accept w svcStop) := by
  show execGenerate w slot owner s = _
  exact keeperOnly_of_may hwid svcStop _

theorem exec_destroy_of_may (slot : BitVec 8) : exec (.destroy w slot) s = .next ((s.keyCommand 2 slot.toNat 0).accept w svcStop) := by
  show execDestroy w slot s = _
  exact keeperOnly_of_may hwid svcStop _

theorem exec_wldDebugNoninvWrite_of_may (v : Word) :
    exec (.wldDebugNoninvWrite w v) s = .next (((s.debugHit v).writeReg .wldDebugNoninv 0 0 (s.consented v) allBytes).accept w svcStop) := by
  show execWldDebugNoninvWrite w v s = _
  exact keeperOnly_of_may hwid svcStop _

/-- A world that loses its permission has its halted harts resumed (R321). -/
theorem exec_wldDebugInvWrite_of_may (v : Word) :
    exec (.wldDebugInvWrite w v) s = .next (((List.range 256).foldl (fun s h => if (s.hart h).debug && !s.invasive (s.seat h) then s.resumeHart h else s)
      ((s.debugHit v).writeReg .wldDebugInv 0 0 (s.consented v) allBytes)).accept w svcStop) := by
  show execWldDebugInvWrite w v s = _
  exact keeperOnly_of_may hwid svcStop _

/-- Where no source changes its world, no pin returns to input (R317). -/
theorem exec_wldGpioWidWrite_of_same {k : Fin 4} {v : Word}
    (hsame : ∀ i, i < 8 → s.getF (F.wldGpioWid_wid i) 0 k.val = (s.writeReg .wldGpioWid 0 k.val v allBytes).getF (F.wldGpioWid_wid i) 0 k.val) :
    exec (.wldGpioWidWrite w k v) s = .next ((s.writeReg .wldGpioWid 0 k.val v allBytes).accept w svcStop) := by
  show execWldGpioWidWrite w k v s = _
  rw [execWldGpioWidWrite, keeperOnly_of_may hwid]
  refine congrArg (fun t : State => Host.Outcome.next (t.accept w svcStop)) ?_
  exact List.foldlRecOn (motive := fun t => t = s.writeReg .wldGpioWid 0 k.val v allBytes) _ _ rfl
    fun t ht i hi => (if_pos (hsame i (List.mem_range.mp hi))).trans ht

end

theorem exec_keyCommandComplete_of_running {s : State} {op slot owner : Nat} (hcmd : s.keyCmd = some (op, slot, owner)) :
    exec .keyCommandComplete s = .next (State.record (if op = 1 then ((State.setF { s with keyCmd := none } F.wldKeyCmd_busy 0 0 0).generateKey slot owner)
      else ((State.setF { s with keyCmd := none } F.wldKeyCmd_busy 0 0 0).destroyKey slot)) Ev.keyCommand srcSvc (w64 slot) (w64 op)) := by
  show execKeyCommandComplete s = _
  simp only [execKeyCommandComplete, hcmd]

/-! ### Halt and resume requests -/

section

variable {s : State} {h : BitVec 8}

theorem exec_debugHaltRequest_of_not_invasive (hinv : s.invasive (s.seat h.toNat) = false) : exec (.debugHaltRequest h) s = .next s := by
  show execDebugHaltRequest h s = _
  simp only [execDebugHaltRequest, hinv, Bool.not_false, if_true]

theorem exec_debugHaltRequest_of_running (hinv : s.invasive (s.seat h.toNat) = true) (hruns : s.runs h.toNat = true) :
    exec (.debugHaltRequest h) s = .next (s.haltSoon h.toNat) := by
  show execDebugHaltRequest h s = _
  simp only [execDebugHaltRequest, hinv, hruns, Bool.not_true, Bool.false_eq_true, if_false, if_true]

theorem exec_debugResumeRequest_of_invasive (hinv : s.invasive (s.seat h.toNat) = true) :
    exec (.debugResumeRequest h) s = .next (s.resumeHart h.toNat) := if_pos hinv

end

/-- A hart that stands at an instruction boundary halts there (R321). -/
theorem haltSoon_of_boundary {s u : State} {h : Nat} (hboundary : s.toBoundary h = (true, u)) : s.haltSoon h = u.haltHart h 3 (u.hart h).pc := by
  simp only [State.haltSoon, hboundary, if_true]

/-- A hart short of its boundary keeps the request. -/
theorem haltSoon_of_no_boundary {s u : State} {h : Nat} (hboundary : s.toBoundary h = (false, u)) :
    s.haltSoon h = u.modHart h (fun x => { x with haltReq := true }) := by
  simp only [State.haltSoon, hboundary, Bool.false_eq_true, if_false]

/-! ### The system bus -/

theorem invasive_atWork (s : State) (r : Run) (wid : Nat) : (AtWork s r).invasive wid = s.invasive wid := rfl

/-- A command that has not begun waits for no answer. -/
theorem runOf_next_of_no_works {s : State} (hworks : s.works = []) (stop ep : Nat) (c : Instr) : (RunOf s stop ep c).next = none := by
  rw [RunOf, hworks]
  rfl

/-- What a command is served with matters only in the state in which it is at work. -/
theorem served_congr {s : State} {f g : State → State} (hfg : ∀ r, f (AtWork s r) = g (AtWork s r)) (stop ep : Nat) (c : Instr) :
    s.served stop ep c f = s.served stop ep c g := by
  have hserve (r : Run) : s.serve r f = s.serve r g := by
    have hr := hfg r
    unfold AtWork at hr
    unfold State.serve
    rw [hr]
  unfold State.served
  split
  · rw [hserve]
  · exact hserve _

/-- A world that is closed to invasive debug is refused. -/
theorem busAccess_of_not_invasive {s : State} {wid : Nat} (hinv : s.invasive wid = false) (a : Nat) (write : Bool) (size v : Nat) :
    s.busAccess wid a write size v = { s with dm := { s.dm with err := Err.permission } } := by
  simp only [State.busAccess, hinv, Bool.not_false, if_true]

/-- A read of an aligned word of local memory gives the debug module what memory answers. -/
theorem busAccess_of_local_read {s t : State} {wid a d : Nat} (hinv : s.invasive wid = true) (halign : a % 8 = 0) (hregion : region a = .local)
    (hread : s.busRead wid a 8 = (.val d, t)) (v : Nat) :
    s.busAccess wid a false 8 v = { t with dm := { t.dm with data := w64 d, err := 0 } } := by
  have hform : ¬(((8 : Nat) ≠ 1 ∧ (8 : Nat) ≠ 2 ∧ (8 : Nat) ≠ 4 ∧ (8 : Nat) ≠ 8) ∨ a % 8 ≠ 0) := by omega
  simp only [State.busAccess, hinv, hform, hregion, hread, Bool.not_true, Bool.false_eq_true, if_false]

/-- An access that finds the bus free is carried out with the world of the hart's seat. -/
theorem debugSystemBusAccess_served {h : BitVec 8} {pa : BitVec 52} {write : Bool} {size : Nat} {v : Word} {s : State} (hidle : s.dm.busy = none)
    (hfree : s.works.any (fun r => r.stop == dbgStop && r.cmd != .debugSystemBusAccess h pa write size v) = false) :
    Served (.debugSystemBusAccess h pa write size v) s s dbgStop 0 (fun u => u.busAccess (s.seat h.toNat) pa.toNat write size v.toNat) := by
  refine served_of ?_
  rw [served_congr (g := fun u => u.busAccess (u.seat h.toNat) pa.toNat write size v.toNat) fun _ => rfl]
  show execDebugSystemBusAccess h pa write size v s = _
  simp only [execDebugSystemBusAccess, hidle, hfree, Option.isSome_none, Bool.or_self, Bool.false_eq_true, if_false]

theorem exec_debugSystemBusAccess_of_local_read {h : BitVec 8} {pa : BitVec 52} {v : Word} {s t : State} {r : Run} {d : Nat} (hidle : s.dm.busy = none)
    (hfree : s.works.any (fun r => r.stop == dbgStop && r.cmd != .debugSystemBusAccess h pa false 8 v) = false)
    (hinv : s.invasive (s.seat h.toNat) = true) (halign : pa.toNat % 8 = 0) (hregion : region pa.toNat = .local)
    (hr : r = RunOf s dbgStop 0 (.debugSystemBusAccess h pa false 8 v)) (hread : (AtWork s r).busRead (s.seat h.toNat) pa.toNat 8 = (.val d, t))
    (hanswered : AllAnswered r t) :
    exec (.debugSystemBusAccess h pa false 8 v) s = .next (EndWork { t with dm := { t.dm with data := w64 d, err := 0 } } r) := by
  have hu := busAccess_of_local_read ((invasive_atWork s r _).trans hinv) halign hregion hread v.toNat
  obtain ⟨hdone, -, -⟩ := debugSystemBusAccess_served hidle hfree r _ hr hu.symm
  obtain ⟨hnext, hblock⟩ := hanswered
  exact hdone ⟨hnext, hblock⟩

/-- The debug module's part of the state, which alone a refused access changes. -/
theorem gives_debugSystemBusAccess_of_not_invasive {h : BitVec 8} {pa : BitVec 52} {write : Bool} {size : Nat} {v : Word} {s : State} (hidle : s.dm.busy = none)
    (hworks : s.works = []) (hinv : s.invasive (s.seat h.toNat) = false) :
    Gives (.debugSystemBusAccess h pa write size v) s (fun t => t.dm.err = Err.permission ∧ t.mem = s.mem ∧ t.regs = s.regs ∧ t.outq = s.outq) := by
  have hfree : s.works.any (fun r => r.stop == dbgStop && r.cmd != .debugSystemBusAccess h pa write size v) = false := by rw [hworks]; rfl
  have hu := busAccess_of_not_invasive ((invasive_atWork s (RunOf s dbgStop 0 (.debugSystemBusAccess h pa write size v)) _).trans hinv) pa.toNat write size v.toNat
  obtain ⟨hdone, -, -⟩ := debugSystemBusAccess_served hidle hfree _ _ rfl hu.symm
  exact ⟨_, hdone ⟨runOf_next_of_no_works hworks .., rfl⟩, rfl, rfl, rfl, rfl⟩

/-- Settles O27: what the Keeper alone writes by its guard, requests by the permission of the hart's world, and the bus by the protocol of an agent's command. -/
theorem keysAndDebug : Obligations.KeysAndDebug := by
  refine ⟨?keys, fun _ _ _ _ hcmd => exec_keyCommandComplete_of_running hcmd, ?permissions, ?halt,
    fun _ _ hinv => exec_debugHaltRequest_of_not_invasive hinv, fun _ _ hinv => exec_debugResumeRequest_of_invasive hinv, ?read,
    fun _ _ _ _ _ _ hidle hfree => debugSystemBusAccess_served hidle hfree,
    fun _ _ _ _ _ _ hidle hworks hinv => gives_debugSystemBusAccess_of_not_invasive hidle hworks hinv⟩
  case keys => exact fun w slot owner s hwid => ⟨exec_generate_of_may hwid slot owner, exec_destroy_of_may hwid slot⟩
  case permissions =>
    exact fun w v s hwid => ⟨exec_wldDebugNoninvWrite_of_may hwid v, ⟨_, rfl, exec_wldDebugInvWrite_of_may hwid v⟩,
      fun k hsame => exec_wldGpioWidWrite_of_same hwid hsame⟩
  case halt =>
    intro h s hinv hruns u
    rw [exec_debugHaltRequest_of_running hinv hruns]
    exact ⟨fun hboundary => by rw [haltSoon_of_boundary hboundary], fun hboundary => by rw [haltSoon_of_no_boundary hboundary]⟩
  case read =>
    intro h pa v s t r d hidle hfree hinv halign hregion hr hread hanswered
    exact exec_debugSystemBusAccess_of_local_read hidle hfree hinv halign hregion hr hread hanswered

end Sys2Proof.Proofs
end

section
/-! SUPPORT. What any command does to the fuse array and to the queue (R390, R542, log entry 4): every command but the slips of fuses and the end of boot leaves both, those only set
fuses, and a step is the front command or a tick. -/
namespace Sys2Proof.Proofs

open Sys2Proof.Machine Sys2Proof.Laws

/-- Every command keeps the queue and only sets fuses: what each does, by the operation that gives it its meaning. -/
theorem exec_grows (c : Instr) (s : State) : OGrows s (exec c s) :=
  match c with
  | .registerWrite _ _ _ _ => .of_base (base_execRegisterWrite ..)
  | .rootPllLoss => .of_base (base_execRootPllLoss ..)
  | .hartLoad _ _ => .of_base (base_execHartLoad ..)
  | .hartStore _ _ => .of_base (base_execHartStore ..)
  | .storeCommitL1d _ => .of_base (base_execStoreCommitL1d ..)
  | .amo _ _ _ => .of_base (base_execAmo ..)
  | .lr _ _ => .of_base (base_execLr ..)
  | .sc _ _ => .of_base (base_execSc ..)
  | .fence _ _ => .of_base (base_execFence ..)
  | .fenceI _ => .of_base (base_execFenceI ..)
  | .sfenceVma _ _ _ => .of_base (base_execSfenceVma ..)
  | .csrWrite _ _ _ _ => .of_base (base_execCsrWrite ..)
  | .trapReturn _ _ => .of_base (base_execTrapReturn ..)
  | .wfi _ => .of_base (base_execWfi ..)
  | .wrsNto _ => .of_base (base_execWrsNto ..)
  | .wrsNtoTimeout _ => .of_base (base_execWrsNtoTimeout ..)
  | .wrsSto _ => .of_base (base_execWrsSto ..)
  | .wrsStoExpiry _ => .of_base (base_execWrsStoExpiry ..)
  | .cboClean _ _ => .of_base (base_execCboClean ..)
  | .cboFlush _ _ => .of_base (base_execCboFlush ..)
  | .cboInval _ _ => .of_base (base_execCboInval ..)
  | .cboZero _ _ => .of_base (base_execCboZero ..)
  | .prefetchR _ _ => .of_base (base_execPrefetchR ..)
  | .prefetchW _ _ => .of_base (base_execPrefetchW ..)
  | .prefetchI _ _ => .of_base (base_execPrefetchI ..)
  | .pxBellSend _ _ _ _ _ _ => .of_base (base_execPxBellSend ..)
  | .doorbellArrival _ => .of_base (base_execDoorbellArrival ..)
  | .pxBellSendStatus _ _ => .of_base (base_execPxBellSendStatus ..)
  | .pxBellRecv _ _ _ => .of_base (base_execPxBellRecv ..)
  | .pxBellPeek _ _ _ => .of_base (base_execPxBellPeek ..)
  | .pxFenceAx _ _ _ _ => .of_base (base_execPxFenceAx ..)
  | .pxFenceAxComplete _ _ _ => .of_base (base_execPxFenceAxComplete ..)
  | .branchResolve _ _ => .of_base (base_execBranchResolve ..)
  | .instructionBound _ _ => .of_base (base_execInstructionBound ..)
  | .instructionSquash _ _ _ => .of_base (base_execInstructionSquash ..)
  | .instructionRetire _ _ => .of_base (base_execInstructionRetire ..)
  | .interruptTaken _ _ _ => .of_base (base_execInterruptTaken ..)
  | .coreMtimeWrite _ _ => .of_base (base_execCoreMtimeWrite ..)
  | .coreMtimecmpWrite _ _ _ => .of_base (base_execCoreMtimecmpWrite ..)
  | .mtimeCompareMatch _ _ => .of_base (base_execMtimeCompareMatch ..)
  | .imsicSeteipnumWrite _ _ _ _ _ _ => .of_base (base_execImsicSeteipnumWrite ..)
  | .hartRemap _ _ => .of_base (base_execHartRemap ..)
  | .gpioInputChange _ _ => .of_base (base_execGpioInputChange ..)
  | .aplicSourceEvent _ => .of_base (base_execAplicSourceEvent ..)
  | .coreSpecCtrlWrite _ _ _ => .of_base (base_execCoreSpecCtrlWrite ..)
  | .coreMemattrWrite _ _ _ _ => .of_base (base_execCoreMemattrWrite ..)
  | .broadcastComplete => .of_base (base_execBroadcastComplete ..)
  | .llcShelfWrite _ _ _ => .of_base (base_execLlcShelfWrite ..)
  | .llcWidClassWrite _ _ _ => .of_base (base_execLlcWidClassWrite ..)
  | .llcShelfCtrlWrite _ _ => .of_base (base_execLlcShelfCtrlWrite ..)
  | .shelfFlushComplete => .of_base (base_execShelfFlushComplete ..)
  | .reducedServiceExit => execReducedServiceExit_grows _
  | .readShared _ => .of_base (base_execReadShared ..)
  | .readUnique _ => .of_base (base_execReadUnique ..)
  | .readOnce _ => .of_base (base_execReadOnce ..)
  | .cleanUnique _ => .of_base (base_execCleanUnique ..)
  | .writeInvalidateFull _ => .of_base (base_execWriteInvalidateFull ..)
  | .writePartial _ => .of_base (base_execWritePartial ..)
  | .evictClean _ => .of_base (base_execEvictClean ..)
  | .writeBackDirty _ => .of_base (base_execWriteBackDirty ..)
  | .writeBackOwned _ => .of_base (base_execWriteBackOwned ..)
  | .specRelease _ => .of_base (base_execSpecRelease ..)
  | .specCancel _ => .of_base (base_execSpecCancel ..)
  | .snpShared _ => .of_base (base_execSnpShared ..)
  | .snpUnique _ => .of_base (base_execSnpUnique ..)
  | .snpUniqueToHome _ => .of_base (base_execSnpUniqueToHome ..)
  | .snpInvalidate _ => .of_base (base_execSnpInvalidate ..)
  | .snpClean _ => .of_base (base_execSnpClean ..)
  | .holdWindowClose _ _ => .of_base (base_execHoldWindowClose ..)
  | .snpResp _ => .of_base (base_execSnpResp ..)
  | .snpRespData _ => .of_base (base_execSnpRespData ..)
  | .compData _ => execCompData_grows _ _
  | .dataFwd _ => .of_base (base_execDataFwd ..)
  | .comp _ => execComp_grows _ _
  | .dataPull _ => .of_base (base_execDataPull ..)
  | .writeData _ => .of_base (base_execWriteData ..)
  | .writeDataMasked _ => .of_base (base_execWriteDataMasked ..)
  | .compAck _ => .of_base (base_execCompAck ..)
  | .retry _ => .of_base (base_execRetry ..)
  | .retryBackoffExpiry _ _ => .of_base (base_execRetryBackoffExpiry ..)
  | .reserveLimitExpiry _ _ => .of_base (base_execReserveLimitExpiry ..)
  | .errResp _ => execErrResp_grows _ _
  | .memRead _ _ => .of_base (base_execMemRead ..)
  | .memWrite _ _ _ _ => .of_base (base_execMemWrite ..)
  | .gateMemWrite _ _ _ => .of_base (base_execGateMemWrite ..)
  | .gateMemRead _ => .of_base (base_execGateMemRead ..)
  | .memData _ => .of_base (base_execMemData ..)
  | .memAck _ => .of_base (base_execMemAck ..)
  | .ioRead _ => .of_base (base_execIoRead ..)
  | .ioWrite _ => .of_base (base_execIoWrite ..)
  | .ioData _ => .of_base (base_execIoData ..)
  | .packetInject _ => .of_base (base_execPacketInject ..)
  | .packetAbsorb _ _ _ => .of_base (base_execPacketAbsorb ..)
  | .linkParityError _ _ _ _ => .of_base (base_execLinkParityError ..)
  | .niRouteWrite _ _ _ _ _ => .of_base (base_execNiRouteWrite ..)
  | .globalFence _ => .of_base (base_execGlobalFence ..)
  | .fenceReq _ => .of_base (base_execFenceReq ..)
  | .fenceAck _ => .of_base (base_execFenceAck ..)
  | .fenceTimeout => .of_base (base_execFenceTimeout ..)
  | .epochSwitch _ => .of_base (base_execEpochSwitch ..)
  | .flip _ => .of_base (base_execFlip ..)
  | .epochDrainComplete => .of_base (base_execEpochDrainComplete ..)
  | .meterStagingWrite _ _ _ => .of_base (base_execMeterStagingWrite ..)
  | .meterCommitRequest _ => .of_base (base_execMeterCommitRequest ..)
  | .meterCommit => .of_base (base_execMeterCommit ..)
  | .rtSpareWrite _ _ _ _ => .of_base (base_execRtSpareWrite ..)
  | .linkFlitReceive _ _ => .of_base (base_execLinkFlitReceive ..)
  | .nak _ _ => .of_base (base_execNak ..)
  | .replay _ _ => .of_base (base_execReplay ..)
  | .replayTimeout _ => .of_base (base_execReplayTimeout ..)
  | .nakResendTimeout _ => .of_base (base_execNakResendTimeout ..)
  | .ackIdleInsert _ => .of_base (base_execAckIdleInsert ..)
  | .linkNarrow _ => .of_base (base_execLinkNarrow ..)
  | .linkWiden _ _ => .of_base (base_execLinkWiden ..)
  | .moduleRecal _ _ => .of_base (base_execModuleRecal ..)
  | .portBringup _ _ => .of_base (base_execPortBringup ..)
  | .ucieTrainingComplete _ _ _ _ => .of_base (base_execUcieTrainingComplete ..)
  | .bringupAttemptTimeout _ => .of_base (base_execBringupAttemptTimeout ..)
  | .initMsg _ _ _ _ _ _ _ => .of_base (base_execInit ..)
  | .declareMsg _ _ _ _ _ => .of_base (base_execDeclare ..)
  | .declareTimeout _ => .of_base (base_execDeclareTimeout ..)
  | .axgOpenWrite _ _ => .of_base (base_execAxgOpenWrite ..)
  | .openMsg _ => .of_base (base_execOpen ..)
  | .hold _ => .of_base (base_execHold ..)
  | .axgAttestedWrite _ _ _ => .of_base (base_execAxgAttestedWrite ..)
  | .axgGrantWrite _ _ _ _ => .of_base (base_execAxgGrantWrite ..)
  | .axgWindowStagingWrite _ _ _ => .of_base (base_execAxgWindowStagingWrite ..)
  | .windowCommit _ _ => .of_base (base_execWindowCommit ..)
  | .windowCommitEdge _ => .of_base (base_execWindowCommitEdge ..)
  | .annexPacketArrival _ _ _ => .of_base (base_execAnnexPacketArrival ..)
  | .strikeIntervalReset => .of_base (base_execStrikeIntervalReset ..)
  | .snoopToExpiry _ _ => .of_base (base_execSnoopToExpiry ..)
  | .ackToExpiry _ _ => .of_base (base_execAckToExpiry ..)
  | .respToExpiry _ _ => .of_base (base_execRespToExpiry ..)
  | .mmioToExpiry _ _ => .of_base (base_execMmioToExpiry ..)
  | .flushTimeout _ _ => .of_base (base_execFlushTimeout ..)
  | .portQuarantineWrite _ _ => .of_base (base_execPortQuarantineWrite ..)
  | .reclaimComplete _ => .of_base (base_execReclaimComplete ..)
  | .portDisable _ _ => .of_base (base_execPortDisable ..)
  | .axgFenceProbe _ => .of_base (base_execAxgFenceProbe ..)
  | .agentFlush _ _ => .of_base (base_execAgentFlush ..)
  | .agentFlushDone _ _ => .of_base (base_execAgentFlushDone ..)
  | .mgtNotify _ => .of_base (base_execMgtNotify ..)
  | .mgtErr _ => .of_base (base_execMgtErr ..)
  | .patrolScrubRead _ _ => .of_base (base_execPatrolScrubRead ..)
  | .mpLaneRetireWrite _ _ _ => .of_base (base_execMpLaneRetireWrite ..)
  | .mpTrainStart _ _ => .of_base (base_execMpTrainStart ..)
  | .mpTrainingDone _ _ _ => .of_base (base_execMpTrainingDone ..)
  | .refreshDue _ _ => .of_base (base_execRefreshDue ..)
  | .mpTemperaturePoll _ _ => .of_base (base_execMpTemperaturePoll ..)
  | .selfRefreshEnter _ => .of_base (base_execSelfRefreshEnter ..)
  | .selfRefreshExit _ => .of_base (base_execSelfRefreshExit ..)
  | .mirrorLinkDown _ => .of_base (base_execMirrorLinkDown ..)
  | .mirrorLinkReturn _ => .of_base (base_execMirrorLinkReturn ..)
  | .mirrorResyncDone _ => .of_base (base_execMirrorResyncDone ..)
  | .assign _ _ _ _ => .of_base (base_execAssign ..)
  | .shareRo _ _ _ => .of_base (base_execShareRo ..)
  | .shareRw _ _ _ => .of_base (base_execShareRw ..)
  | .unshare _ _ => .of_base (base_execUnshare ..)
  | .donate _ _ _ _ => .of_base (base_execDonate ..)
  | .release _ _ => .of_base (base_execRelease ..)
  | .reclaim _ _ => .of_base (base_execReclaim ..)
  | .deedUnitTurn _ => .of_base (base_execDeedUnitTurn ..)
  | .deedTableEnable _ _ => .of_base (base_execDeedTableEnable ..)
  | .deedTableReady => .of_base (base_execDeedTableReady ..)
  | .generate _ _ _ => .of_base (base_execGenerate ..)
  | .destroy _ _ => .of_base (base_execDestroy ..)
  | .keyCommandComplete => .of_base (base_execKeyCommandComplete ..)
  | .wldGpioWidWrite _ _ _ => .of_base (base_execWldGpioWidWrite ..)
  | .wldDebugInvWrite _ _ => .of_base (base_execWldDebugInvWrite ..)
  | .wldDebugNoninvWrite _ _ => .of_base (base_execWldDebugNoninvWrite ..)
  | .debugHaltRequest _ => .of_base (base_execDebugHaltRequest ..)
  | .debugSystemBusAccess _ _ _ _ _ => .of_base (base_execDebugSystemBusAccess ..)
  | .deChCfgWrite _ _ _ _ => .of_base (base_execDeChCfgWrite ..)
  | .deChTailWrite _ _ _ _ => .of_base (base_execDeChTailWrite ..)
  | .deChCplHeadWrite _ _ _ _ => .of_base (base_execDeChCplHeadWrite ..)
  | .deChRingWrite _ _ _ _ _ => .of_base (base_execDeChRingWrite ..)
  | .channelReset _ _ _ => .of_base (base_execChannelReset ..)
  | .channelResetComplete _ _ => .of_base (base_execChannelResetComplete ..)
  | .descriptorFetch _ _ => .of_base (base_execDescriptorFetch ..)
  | .jobDispatch _ _ => .of_base (base_execJobDispatch ..)
  | .nop _ _ _ => .of_base (base_execNop ..)
  | .copy _ _ _ => .of_base (base_execCopy ..)
  | .fill _ _ _ => .of_base (base_execFill ..)
  | .compress _ _ _ => .of_base (base_execCompress ..)
  | .decompress _ _ _ => .of_base (base_execDecompress ..)
  | .collate _ _ _ _ => .of_base (base_execCollate ..)
  | .deWindowReset => .of_base (base_execDeWindowReset ..)
  | .deScanCfgWrite _ _ _ _ _ => .of_base (base_execDeScanCfgWrite ..)
  | .scanRunStart _ _ => .of_base (base_execScanRunStart ..)
  | .hpPortEnable _ _ _ => .of_base (base_execHpPortEnable ..)
  | .pcieLinkUp _ _ _ _ _ => .of_base (base_execPcieLinkUp ..)
  | .pcieLinkDown _ _ => .of_base (base_execPcieLinkDown ..)
  | .pcieErrorReceived _ _ _ => .of_base (base_execPcieErrorReceived ..)
  | .pciePllLoss _ => .of_base (base_execPciePllLoss ..)
  | .freeze _ _ _ _ => .of_base (base_execFreeze ..)
  | .releaseFreeze _ _ _ _ => .of_base (base_execReleaseFreeze ..)
  | .pcieCompletion _ _ _ _ _ => .of_base (base_execPcieCompletion ..)
  | .pcieCompletionTimeout _ _ => .of_base (base_execPcieCompletionTimeout ..)
  | .pcieInboundRead _ _ _ => .of_base (base_execPcieInboundRead ..)
  | .pcieInboundWrite _ _ _ _ => .of_base (base_execPcieInboundWrite ..)
  | .pcieInboundAtomic _ _ _ _ _ _ => .of_base (base_execPcieInboundAtomic ..)
  | .hpViAperWrite _ _ _ => .of_base (base_execHpViAperWrite ..)
  | .hpTqTailWrite _ _ _ => .of_base (base_execHpTqTailWrite ..)
  | .tqNop _ => .of_base (base_execTqNop ..)
  | .toHost _ => .of_base (base_execToHost ..)
  | .fromHost _ => .of_base (base_execFromHost ..)
  | .translationCompletion _ _ _ _ => .of_base (base_execTranslationCompletion ..)
  | .invalidationRequest _ _ _ _ => .of_base (base_execInvalidationRequest ..)
  | .busMasterEnableClear _ => .of_base (base_execBusMasterEnableClear ..)
  | .busMasterEnableSet _ => .of_base (base_execBusMasterEnableSet ..)
  | .initiateFlr _ => .of_base (base_execInitiateFlr ..)
  | .flrComplete _ => .of_base (base_execFlrComplete ..)
  | .vfEnableClear => .of_base (base_execVfEnableClear ..)
  | .perstAssert => .of_base (base_execPerstAssert ..)
  | .coldReset _ => .of_base (base_execColdReset ..)
  | .resetNFall _ _ => .of_base (base_execResetNFall ..)
  | .vaonApplied _ => .of_base (base_execVaonApplied ..)
  | .lossOfRails => .of_base (base_execLossOfRails ..)
  | .railOutOfTolerance _ => .of_base (base_execRailOutOfTolerance ..)
  | .pmbAlert _ => .of_base (base_execPmbAlert ..)
  | .calendarAlarm _ => .of_base (base_execCalendarAlarm ..)
  | .curatorRunWrite _ _ => .of_base (base_execCuratorRunWrite ..)
  | .curWdtKick _ => .of_base (base_execCurWdtKick ..)
  | .keeperWdtKick _ _ => .of_base (base_execKeeperWdtKick ..)
  | .keeperWatchdogExpiry => .of_base (base_execKeeperWatchdogExpiry ..)
  | .curatorWatchdogExpiry => .of_base (base_execCuratorWatchdogExpiry ..)
  | .flashProgram _ => .of_base (base_execFlashProgram ..)
  | .flashEraseSector => .of_base (base_execFlashEraseSector ..)
  | .flashEraseBlock => .of_base (base_execFlashEraseBlock ..)
  | .flashCommandDone _ => .of_base (base_execFlashCommandDone ..)
  | .curatorTimerMatch => .of_base (base_execCuratorTimerMatch ..)
  | .curatorInterrupt => .of_base (base_execCuratorInterrupt ..)
  | .debugConsentWrite _ _ => .of_base (base_execDebugConsentWrite ..)
  | .slipBell _ _ _ => .of_base (base_execSlipBell ..)
  | .curatorSlipGo => .of_base (base_execCuratorSlipGo ..)
  | .pfSlipGo => .of_base (base_execPfSlipGo ..)
  | .i3cPrivateWrite _ => .of_base (base_execI3cPrivateWrite ..)
  | .i3cDynamicAddress _ => .of_base (base_execI3cDynamicAddress ..)
  | .keeperSlipTurn _ => execKeeperSlipTurn_grows _ _
  | .startedOperationDone _ => .of_base (base_execStartedOperationDone ..)
  | .nonceExpiry _ => .of_base (base_execNonceExpiry ..)
  | .getInfo _ => slip_grows _ _ _ _ _
  | .getNonce _ => slip_grows _ _ _ _ _
  | .getRandom _ => slip_grows _ _ _ _ _
  | .imageStatus _ => slip_grows _ _ _ _ _
  | .warmReset _ => slip_grows _ _ _ _ _
  | .flashErase _ _ => slip_grows _ _ _ _ _
  | .flashWrite _ _ => slip_grows _ _ _ _ _
  | .provisionKey _ _ => slip_grows _ _ _ _ _
  | .revokeKey _ _ => slip_grows _ _ _ _ _
  | .worldCreate _ => slip_grows _ _ _ _ _
  | .worldDestroy _ => slip_grows _ _ _ _ _
  | .seatLend _ => slip_grows _ _ _ _ _
  | .bellAllow _ => slip_grows _ _ _ _ _
  | .shelfSet _ => slip_grows _ _ _ _ _
  | .meterSet _ => slip_grows _ _ _ _ _
  | .worldStatus _ => slip_grows _ _ _ _ _
  | .keyNew _ => slip_grows _ _ _ _ _
  | .keyDrop _ => slip_grows _ _ _ _ _
  | .deedReclaim _ => slip_grows _ _ _ _ _
  | .depoDeeds _ => slip_grows _ _ _ _ _
  | .deedTableSetup _ => slip_grows _ _ _ _ _
  | .modeSet _ => slip_grows _ _ _ _ _
  | .powerLimit _ => slip_grows _ _ _ _ _
  | .domainSet _ => slip_grows _ _ _ _ _
  | .coreN _ => slip_grows _ _ _ _ _
  | .powerStatus _ => slip_grows _ _ _ _ _
  | .ledgerRead _ => slip_grows _ _ _ _ _
  | .ledgerStatus _ => slip_grows _ _ _ _ _
  | .surveyStart _ => slip_grows _ _ _ _ _
  | .ledgerNotify _ => slip_grows _ _ _ _ _
  | .annalsRead _ => slip_grows _ _ _ _ _
  | .annalsFreeze _ => slip_grows _ _ _ _ _
  | .annalsFreezeTimeout _ => .of_base (base_execAnnalsFreezeTimeout ..)
  | .annalsClear _ => slip_grows _ _ _ _ _
  | .annalsNotify _ => slip_grows _ _ _ _ _
  | .routeStage _ => slip_grows _ _ _ _ _
  | .routeSwitch _ => slip_grows _ _ _ _ _
  | .annexConfig _ => slip_grows _ _ _ _ _
  | .annexUp _ => slip_grows _ _ _ _ _
  | .annexAttest _ _ => slip_grows _ _ _ _ _
  | .annexDown _ => slip_grows _ _ _ _ _
  | .depoMap _ => slip_grows _ _ _ _ _
  | .mpStatus _ => slip_grows _ _ _ _ _
  | .mpScrub _ => slip_grows _ _ _ _ _
  | .mpLaneRetire _ => slip_grows _ _ _ _ _
  | .mpMirror _ => slip_grows _ _ _ _ _
  | .debugGrant _ => slip_grows _ _ _ _ _
  | .debugDrop _ => slip_grows _ _ _ _ _
  | .certRead _ => slip_grows _ _ _ _ _
  | .measure _ => slip_grows _ _ _ _ _
  | .quote _ => slip_grows _ _ _ _ _
  | .quoteSigned => .of_base (base_execQuoteSigned ..)
  | .quoteExpiry _ => .of_base (base_execQuoteExpiry ..)
  | .quoteRead _ => slip_grows _ _ _ _ _
  | .logRead _ => slip_grows _ _ _ _ _
  | .viCreate _ => slip_grows _ _ _ _ _
  | .viRemove _ => slip_grows _ _ _ _ _
  | .viStatus _ => slip_grows _ _ _ _ _
  | .aliasKeysReady => .of_base (base_execAliasKeysReady ..)
  | .domainOffRequest _ _ _ => .of_base (base_execDomainOffRequest ..)
  | .domainOnRequest _ _ _ => .of_base (base_execDomainOnRequest ..)
  | .domainTimerRequest _ _ _ _ => .of_base (base_execDomainTimerRequest ..)
  | .domainDrainComplete _ => .of_base (base_execDomainDrainComplete ..)
  | .drainTimeout _ => .of_base (base_execDrainTimeout ..)
  | .domainWakeComplete _ => .of_base (base_execDomainWakeComplete ..)
  | .coreClockGate _ => .of_base (base_execCoreClockGate ..)
  | .coreIdleTimerExpiry _ => .of_base (base_execCoreIdleTimerExpiry ..)
  | .coreWake _ => .of_base (base_execCoreWake ..)
  | .enterOff _ => .of_base (base_execEnterOff ..)
  | .enterConservation => .of_base (base_execEnterConservation ..)
  | .enterWatch => .of_base (base_execEnterWatch ..)
  | .leaveToOrigin => .of_base (base_execLeaveToOrigin ..)
  | .enterSurvey _ _ => .of_base (base_execEnterSurvey ..)
  | .wakeSource _ => .of_base (base_execWakeSource ..)
  | .heldWriteQueue _ _ => .of_base (base_execHeldWriteQueue ..)
  | .watchPeriodWake _ _ _ => .of_base (base_execWatchPeriodWake ..)
  | .fatalError _ => .of_base (base_execFatalError ..)
  | .limiterEstimate _ => .of_base (base_execLimiterEstimate ..)
  | .thermalThrottle _ _ => .of_base (base_execThermalThrottle ..)
  | .throttleRelease _ _ => .of_base (base_execThrottleRelease ..)
  | .thermalCut _ _ => .of_base (base_execThermalCut ..)
  | .thermalCutRecover _ _ => .of_base (base_execThermalCutRecover ..)
  | .thermtrip _ => .of_base (base_execThermtrip ..)
  | .droopGuard _ _ => .of_base (base_execDroopGuard ..)
  | .droopStep _ _ => .of_base (base_execDroopStep ..)
  | .droopReplan _ _ _ => .of_base (base_execDroopReplan ..)
  | .rollingCheck _ _ => .of_base (base_execRollingCheck ..)
  | .rollingCheckRetry _ _ => .of_base (base_execRollingCheckRetry ..)
  | .retirementRetry _ => .of_base (base_execRetirementRetry ..)
  | .surveyDeadline => .of_base (base_execSurveyDeadline ..)
  | .surveyDueNotice => .of_base (base_execSurveyDueNotice ..)
  | .surveyOverdue => .of_base (base_execSurveyOverdue ..)
  | .lifeModelTick _ => .of_base (base_execLifeModelTick ..)
  | .mlgWayRetireWrite _ _ _ => .of_base (base_execMlgWayRetireWrite ..)
  | .ledgerCommitRetry _ => .of_base (base_execLedgerCommitRetry ..)
  | .arrayErrorDetected _ => .of_base (base_execArrayErrorDetected ..)
  | .annalsEvent _ _ _ _ => .of_base (base_execAnnalsEvent ..)
  | .rateBucketRefill _ => .of_base (base_execRateBucketRefill ..)
  | .annalsCommit _ => .of_base (base_execAnnalsCommit ..)
  | .annalsCommitRetry _ => .of_base (base_execAnnalsCommitRetry ..)
  | .annalsThaw => .of_base (base_execAnnalsThaw ..)
  | .calendarSet _ _ => .of_base (base_execCalendarSet ..)
  | .mhpmeventWrite _ _ _ _ => .of_base (base_execMhpmeventWrite ..)
  | .pmuBlockClear _ _ _ => .of_base (base_execPmuBlockClear ..)
  | .folioCtrlWrite _ _ => .of_base (base_execFolioCtrlWrite ..)
  | .folioEdge _ => .of_base (base_execFolioEdge ..)
  | .curatorInstruction _ => .of_base (base_execCuratorInstruction ..)
  | .debugResumeRequest _ => .of_base (base_execDebugResumeRequest ..)
  | .pfFlr => .of_base (base_execPfFlr ..)
  | .warmResetDelayExpiry _ => .of_base (base_execWarmResetDelayExpiry ..)
  | .perstRelease => .of_base (base_execPerstRelease ..)
  | .pwrgoodRise => .of_base (base_execPwrgoodRise ..)
  | .vaonLoss => .of_base (base_execVaonLoss ..)
  | .gpioHeldChange _ => .of_base (base_execGpioHeldChange ..)

/-- A step on a waiting command is that command, with the queue's rest in the queue. -/
theorem step_of_front {s : State} {c : Instr} {rest : List Instr} (hqueue : s.pending = c :: rest) : step s = exec c { s with pending := rest } := by
  rw [step, hqueue]

/-- A step on an empty queue is a microsecond (log entry 4). -/
theorem step_of_empty {s : State} (hqueue : s.pending = []) : step s = .next s.tick := by
  rw [step, hqueue]

/-- Settles O46: a step reads the queue first. -/
theorem stepRunsFront : Obligations.StepRunsFront := ⟨fun _ _ _ hqueue => step_of_front hqueue, fun _ hqueue => step_of_empty hqueue⟩

/-- Settles O58: what every command keeps beside the fuses. -/
theorem queueKept : Obligations.QueueKept := by
  intro c s t hexec
  obtain ⟨-, hqueue⟩ := exec_grows c s t hexec
  exact hqueue

/-- Settles O59: a tick leaves the fuse array, and the front command only sets fuses. -/
theorem fusesOnlyGrow : Obligations.FusesOnlyGrow := by
  intro s t hstep
  cases hqueue : s.pending with
  | nil =>
    obtain rfl : s.tick = t := by simpa [step_of_empty hqueue] using hstep
    obtain ⟨hfuses, -⟩ := grows_of_base (base_State_tick s)
    exact hfuses
  | cons c rest =>
    rw [step_of_front hqueue] at hstep
    obtain ⟨hfuses, -⟩ := exec_grows c { s with pending := rest } t hstep
    exact hfuses

/-- Settles O60: the fuse array only grows, and growth keeps an owner's live pair. -/
theorem fuseArraySound : Obligations.FuseArraySound := fun s t hsound hstep => FuseStep.sound (fusesOnlyGrow s t hstep) hsound

end Sys2Proof.Proofs
end

section
/-! SUPPORT. The slips of service, images, worlds and deeds (R420 to R423), of power, the Ledger and the Annals (R424 to R426, R468, R503 to R505), and of debug, attestation and
instances (R367, R375, R397, R398, R429, R430): each command is served with the row of its opcode (log entries 26, 69 and 148). -/
namespace Sys2Proof.Proofs

open Sys2Proof.Machine

/-- Settles O35: each command names its own row, and every row follows the protocol of slips. -/
theorem serviceAndWorldSlips : Obligations.ServiceAndWorldSlips :=
  ⟨fun _ _ => ⟨slipServed_of_row (row := rowGetInfo) rfl fun _ => rfl,
      slipServed_of_row (row := rowGetNonce) rfl fun _ => rfl,
      slipServed_of_row (row := rowGetRandom) rfl fun _ => rfl,
      slipServed_of_row (row := rowImageStatus) rfl fun _ => rfl,
      slipServed_of_row (row := rowWarmReset) rfl fun _ => rfl,
      slipServed_of_row (row := rowFlashErase) rfl fun _ => rfl,
      slipServed_of_row (row := rowFlashWrite) rfl fun _ => rfl,
      slipServed_of_row (row := rowProvisionKey) rfl fun _ => rfl,
      slipServed_of_row (row := rowRevokeKey) rfl fun _ => rfl⟩,
    fun _ => ⟨slipServed_of_row (row := rowWorldCreate) rfl fun _ => rfl,
      slipServed_of_row (row := rowWorldDestroy) rfl fun _ => rfl,
      slipServed_of_row (row := rowSeatLend) rfl fun _ => rfl,
      slipServed_of_row (row := rowBellAllow) rfl fun _ => rfl,
      slipServed_of_row (row := rowShelfSet) rfl fun _ => rfl,
      slipServed_of_row (row := rowMeterSet) rfl fun _ => rfl,
      slipServed_of_row (row := rowWorldStatus) rfl fun _ => rfl,
      slipServed_of_row (row := rowKeyNew) rfl fun _ => rfl,
      slipServed_of_row (row := rowKeyDrop) rfl fun _ => rfl,
      slipServed_of_row (row := rowDeedReclaim) rfl fun _ => rfl,
      slipServed_of_row (row := rowDepoDeeds) rfl fun _ => rfl,
      slipServed_of_row (row := rowDeedTableSetup) rfl fun _ => rfl⟩⟩

/-- Settles O36: as the slips before, with the rows of power, the Ledger and the Annals. -/
theorem powerSlips : Obligations.PowerSlips := fun _ =>
  ⟨slipServed_of_row (row := rowModeSet) rfl fun _ => rfl,
    slipServed_of_row (row := rowPowerLimit) rfl fun _ => rfl,
    slipServed_of_row (row := rowDomainSet) rfl fun _ => rfl,
    slipServed_of_row (row := rowCoreN) rfl fun _ => rfl,
    slipServed_of_row (row := rowPowerStatus) rfl fun _ => rfl,
    slipServed_of_row (row := rowLedgerRead) rfl fun _ => rfl,
    slipServed_of_row (row := rowLedgerStatus) rfl fun _ => rfl,
    slipServed_of_row (row := rowSurveyStart) rfl fun _ => rfl,
    slipServed_of_row (row := rowLedgerNotify) rfl fun _ => rfl,
    slipServed_of_row (row := rowAnnalsRead) rfl fun _ => rfl,
    slipServed_of_row (row := rowAnnalsFreeze) rfl fun _ => rfl,
    slipServed_of_row (row := rowAnnalsClear) rfl fun _ => rfl,
    slipServed_of_row (row := rowAnnalsNotify) rfl fun _ => rfl⟩

/-- Settles O38: as the slips before, with the rows of debug, attestation and instances. -/
theorem attestSlips : Obligations.AttestSlips := fun _ =>
  ⟨slipServed_of_row (row := rowDebugGrant) rfl fun _ => rfl,
    slipServed_of_row (row := rowDebugDrop) rfl fun _ => rfl,
    slipServed_of_row (row := rowCertRead) rfl fun _ => rfl,
    slipServed_of_row (row := rowMeasure) rfl fun _ => rfl,
    slipServed_of_row (row := rowQuote) rfl fun _ => rfl,
    slipServed_of_row (row := rowQuoteRead) rfl fun _ => rfl,
    slipServed_of_row (row := rowLogRead) rfl fun _ => rfl,
    slipServed_of_row (row := rowViCreate) rfl fun _ => rfl,
    slipServed_of_row (row := rowViRemove) rfl fun _ => rfl,
    slipServed_of_row (row := rowViStatus) rfl fun _ => rfl⟩

end Sys2Proof.Proofs
end

section
/-! SUPPORT. ANNALS_NOTIFY (R505): what a record makes of the count, by where the count stands, and that every record written is counted. -/
namespace Sys2Proof.Proofs

open Sys2Proof.Machine Sys2Proof.Laws

section
variable {s : State} {sev : Nat}

theorem annNotify_of_not_counted (h : s.annals.notifyCount = 0 ∨ sev < s.annals.notifySev) : s.annNotify sev = s := if_pos h

theorem annNotify_of_below_count (hsev : s.annals.notifySev ≤ sev) (hseen : s.annals.notifySeen + 1 < s.annals.notifyCount) :
    s.annNotify sev = { s with annals := { s.annals with notifySeen := s.annals.notifySeen + 1 } } := by
  have hcounted : ¬(s.annals.notifyCount = 0 ∨ sev < s.annals.notifySev) := by omega
  rw [State.annNotify, if_neg hcounted, if_pos hseen]

theorem annNotify_of_count_reached (hcount : s.annals.notifyCount ≠ 0) (hsev : s.annals.notifySev ≤ sev)
    (hseen : s.annals.notifyCount ≤ s.annals.notifySeen + 1) :
    s.annNotify sev = State.raiseSrc { s with annals := { s.annals with notifySeen := 0 } } 39 := by
  have hcounted : ¬(s.annals.notifyCount = 0 ∨ sev < s.annals.notifySev) := by omega
  rw [State.annNotify, if_neg hcounted, if_neg (Nat.not_lt.mpr hseen)]
  rfl

end

/-- A record takes the next sequence number and is counted for ANNALS_NOTIFY, unless it finds no room and is dropped (R495, R500, R505). -/
theorem writeRec_counted_or_dropped (s : State) (code sev : Nat) (src : Source) (d0 d1 : Word) (force : Bool) :
    (∃ u : State, u.annals.notifySev = s.annals.notifySev ∧ u.annals.notifyCount = s.annals.notifyCount ∧ u.annals.notifySeen = s.annals.notifySeen ∧
      u.annals.nextSeq = s.annals.nextSeq + 1 ∧ s.writeRec code sev src d0 d1 force = (u.annNotify sev).annSync) ∨
    s.writeRec code sev src d0 d1 force = s.annDrop.annSync := by
  unfold State.writeRec
  dsimp only
  split
  case h_1 => exact .inr rfl
  case h_2 l _ =>
    refine .inl ⟨_, ?_, ?_, ?_, ?_, rfl⟩
    all_goals
      rw [setF_annals]
      split
      · rfl
      · rfl

/-- Settles O53: a record by where the count stands; a new ANNALS_NOTIFY writes all three of its values. -/
theorem annalsNotifyCounts : Obligations.AnnalsNotifyCounts :=
  ⟨fun _ _ h => annNotify_of_not_counted h, fun _ _ hsev hseen => annNotify_of_below_count hsev hseen,
    fun _ _ hcount hsev hseen => annNotify_of_count_reached hcount hsev hseen, writeRec_counted_or_dropped, fun _ _ _ => rfl⟩

end Sys2Proof.Proofs
end

section
/-! SUPPORT. Performance monitors (R515, R518 to R521): who controls a block's counters and the folio, and what an edge or an answer finds of the record in progress (log entries 26 and
102). -/
namespace Sys2Proof.Proofs

open Sys2Proof.Machine Sys2Proof.Laws

/-! ### Control -/

section
variable {s : State} {w : Issuer} (hwid : s.issuerWid w = 0 ∨ s.issuerWid w = 2)
include hwid

theorem exec_pmuBlockClear_of_may {b : PmuBlock} (hreach : s.reachable b.at.1 b.at.2 = true) (v : Word) :
    exec (.pmuBlockClear w b v) s = .next ((s.pmuBlockWrite b.at.1 b.at.2 v).accept w (b.at.1.stopOf b.at.2)) := by
  have hmay : (s.issuerWid w == 0 || s.issuerWid w == 2) = true := by simpa using hwid
  show execPmuBlockClear w b v s = _
  simp only [execPmuBlockClear, hmay, guardedAt_of_reachable hreach, guarded_of_may]

theorem exec_folioCtrlWrite_of_may (v : Word) :
    exec (.folioCtrlWrite w v) s = .next ((s.folioWrite .pmuFolioCtrl (s.issuerWid w) v allBytes).accept w svcStop) := by
  have hmay : (s.issuerWid w == 0 || s.issuerWid w == 2) = true := by simpa using hwid
  show execFolioCtrlWrite w v s = _
  simp only [execFolioCtrlWrite, hmay, guarded_of_may]

end

/-! ### An edge -/

/-- The record that an edge begins (R519, R520). -/
def edgeRecord (s : State) (g k pa : Nat) : FolioRec :=
  { seq := k, wid := s.getF F.pmuFolioCtrl_owner 0 0, pa := pa, blocks := (s.folioLatch g).folioBlocks g pa,
    header := [w64 (k % 2 ^ 32), w64 s.mtime, w64 (g + s.folio.skipped % 2 ^ 32 * 2 ^ 16), w64 (recordSize g)] }

/-- A record of which an answer has come is carried on. -/
theorem exec_folioEdge_of_answered {s : State} (hworks : s.works.any (fun r => r.cmd == .folioEdge false && r.next.isNone) = true) (late : Bool) :
    exec (.folioEdge late) s = .next s.folioGo := if_pos hworks

section
variable {s : State} (hworks : s.works.any (fun r => r.cmd == .folioEdge false && r.next.isNone) = false)
include hworks

theorem exec_folioEdge_of_off (hoff : s.isF F.pmuFolioCtrl_enable 0 0 = false) (late : Bool) : exec (.folioEdge late) s = .next s := by
  show execFolioEdge late s = _
  simp only [execFolioEdge, hworks, hoff, Bool.false_eq_true, if_false, Bool.not_false, if_true]

/-- An edge that is late, or finds the record before it incomplete, is counted. -/
theorem exec_folioEdge_of_skipped {late : Bool} (hon : s.isF F.pmuFolioCtrl_enable 0 0 = true) (hskip : late = true ∨ s.folio.record ≠ none) :
    exec (.folioEdge late) s = .next (State.incSat { s with folio := { s.folio with skipped := s.folio.skipped + 1 } } F.pmuFolioStatus_skipped 0 0) := by
  have hskipped : (late || s.folio.record.isSome) = true := by simpa [Option.isSome_iff_ne_none] using hskip
  show execFolioEdge late s = _
  simp only [execFolioEdge, hworks, hon, hskipped, Bool.false_eq_true, if_false, Bool.not_true, if_true]

/-- An edge in time latches the counters and begins its record. -/
theorem exec_folioEdge_of_begun {g k pa : Nat} (hon : s.isF F.pmuFolioCtrl_enable 0 0 = true) (hnone : s.folio.record = none)
    (hg : g = s.getF F.pmuFolioCtrl_groups 0 0) (hk : k = s.getF F.pmuFolioStatus_seq 0 0 + 1)
    (hpa : pa = s.getF F.pmuFolioBuf_base 0 0 * 4096 + (k - 1) % s.getF F.pmuFolioRing_entries 0 0 * recordSize g) :
    exec (.folioEdge false) s =
      .next (State.folioGo { s.folioLatch g with folio := { (s.folioLatch g).folio with record := some (edgeRecord s g k pa), skipped := 0 } }) := by
  subst hpa hk hg
  show execFolioEdge false s = _
  simp only [execFolioEdge, hworks, hon, hnone, Bool.false_eq_true, if_false, Bool.not_true, Option.isSome_none, Bool.or_self]
  rfl

end

/-! ### The header -/

/-- With the blocks written, the header is what is left of the record (R521). -/
theorem folioGo_of_blocks_written {s : State} {r : FolioRec} (hrecord : s.folio.record = some r) (hopened : r.opened = true) (hblocks : r.blocks = []) :
    s.folioGo = s.served svcStop 3 (.folioEdge false) State.folioClose := by
  simp only [State.folioGo, hrecord, hopened, hblocks, List.map_nil, List.eraseDups_nil, List.foldl_nil, List.isEmpty_nil, Bool.and_self, if_true]

section
variable {s u : State} {r x : FolioRec} (hrecord : s.folio.record = some r) (hsound : r.failed = false) (hu : u = s.folioPut r.wid r.pa 64 r.header)
  (hx : u.folio.record = some x)
include hrecord hsound hu hx

/-- The answer to the header sets SEQ. -/
theorem folioClose_of_written (hgood : x.failed = false) :
    s.folioClose = State.setF { u with folio := { u.folio with record := none } } F.pmuFolioStatus_seq 0 0 r.seq := by
  simp only [State.folioClose, hrecord, hsound, ← hu, hx, hgood, Bool.false_eq_true, if_false]

/-- A header that is answered with an error ends its record without a number. -/
theorem folioClose_of_failed (hbad : x.failed = true) : s.folioClose = { u with folio := { u.folio with record := none } } := by
  simp only [State.folioClose, hrecord, hsound, ← hu, hx, hbad, Bool.false_eq_true, if_false, if_true]

end

/-- Settles O45: control by the issuer's world, an edge by what it finds, and the header by what its answer was. -/
theorem performanceMonitors : Obligations.PerformanceMonitors := by
  refine ⟨fun _ _ v _ hreach hwid => exec_pmuBlockClear_of_may hwid hreach v, fun _ v _ hwid => exec_folioCtrlWrite_of_may hwid v,
    fun _ _ hworks hon hskip => exec_folioEdge_of_skipped hworks hon hskip, fun late _ hworks hoff => exec_folioEdge_of_off hworks hoff late, ?begun,
    fun late _ hworks => exec_folioEdge_of_answered hworks late, ?header, ?close⟩
  case begun =>
    intro s u g k pa r hworks hon hnone hg hk hpa hu hr
    subst hu hr
    exact exec_folioEdge_of_begun hworks hon hnone hg hk hpa
  case header =>
    intro s r hworks hrecord hopened hblocks
    exact served_of (by rw [exec_folioEdge_of_answered hworks, folioGo_of_blocks_written hrecord hopened hblocks])
  case close =>
    exact fun s u r x hrecord hsound hu hx => ⟨folioClose_of_written hrecord hsound hu hx, folioClose_of_failed hrecord hsound hu hx⟩

end Sys2Proof.Proofs
end

section
/-! SUPPORT. The limiter and the thermal limits (R456, R457): what an estimate or a temperature decides. A reading short of its limit has nothing to do (log entry 1); a recovery waits for the
directories (log entry 129). -/
namespace Sys2Proof.Proofs

open Sys2Proof.Machine

/-- Whether the limiter holds anything below what it would be without it (R456). -/
def limiting (s : State) : Bool := decide (s.pw.memCap < 10) || s.liveCores.any (fun e => decide (s.pw.limN.get 31 e.1 < s.freeN e.1))

/-- An estimate over the limit lowers. -/
theorem exec_limiterEstimate_of_over {watts : BitVec 10} {s u : State} (hover : s.getF F.pwrLimitCtrl_limitW 0 0 < watts.toNat)
    (hu : u = State.limiterLower { s.setF F.pwrLimitStatus_powerW 0 0 watts.toNat with pw := { s.pw with calmUs := 0 } }) :
    exec (.limiterEstimate watts) s = .next (u.setF F.pwrLimitStatus_limiting 0 0 (limiting u).toNat) := by
  show execLimiterEstimate watts s = _
  rw [execLimiterEstimate, if_pos hover, hu]
  rfl

section
variable {tile : Fin 136} {temp : Nat} {s : State}

theorem exec_thermalThrottle_of_hot (htemp : 100 ≤ temp) (hfree : s.pw.throttled.contains tile.val = false) :
    exec (.thermalThrottle tile temp) s = .next ((((s.setThrottled tile.val (s.pw.throttled ++ [tile.val])).incSat F.pwrLimitStatus_throttleEvents 0 0).raiseSrc
      Src.thermal).record Ev.throttle (srcSlice tile.val 255) (w64 tile.val) (w64 temp)) := by
  have hgo : ¬(temp < 100 ∨ s.pw.throttled.contains tile.val = true) := by simp only [hfree, Bool.false_eq_true, or_false]; omega
  exact if_neg hgo

theorem exec_thermalThrottle_of_cool (htemp : temp < 100) : exec (.thermalThrottle tile temp) s = .next s := if_pos (.inl htemp)

theorem exec_throttleRelease_of_cool (htemp : temp ≤ 95) :
    exec (.throttleRelease tile temp) s = .next (s.setThrottled tile.val (s.pw.throttled.filter (· != tile.val))) := if_neg (Nat.not_lt.mpr htemp)

end

section
variable {core : Fin 272} {temp : Nat} {s : State}

theorem exec_thermalCut_of_hot (htemp : 110 ≤ temp) (hthrottled : s.pw.throttled.contains (core.val / 2) = true) (hcut : (s.core core.val).cut = false)
    (hon : s.domain core.val ≠ 0) : exec (.thermalCut core temp) s =
      .next ((s.cutCore core.val).record Ev.thermalCut (s.srcCore core.val) (w64 ((s.hartOf core.val).getD 0)) (w64 temp)) := by
  have hgo : ¬(temp < 110 ∨ ¬s.pw.throttled.contains (core.val / 2) = true ∨ (s.core core.val).cut = true ∨ s.domain core.val = 0) := by
    simp only [hthrottled, hcut, hon, Bool.false_eq_true, not_true, or_false]; omega
  exact if_neg hgo

/-- A recovery goes as far as the directories have resolved what the core lost. -/
theorem exec_thermalCutRecover_of_cool (htemp : temp ≤ 95) (hcut : (s.core core.val).cut = true) (hceil : 6 ≤ s.usableCeil core.val) {b : Bool} {u : State}
    (hbury : s.bury core.val = (b, u)) : exec (.thermalCutRecover core temp) s =
      .next (if b then (((u.setCore core.val {}).setDomain core.val 2).specEff core.val).syncCore core.val else u) := by
  have hgo : ¬(95 < temp ∨ ¬(s.core core.val).cut = true ∨ s.usableCeil core.val < 6) := by simp only [hcut, not_true, false_or]; omega
  show execThermalCutRecover core temp s = _
  simp only [execThermalCutRecover, if_neg hgo, hbury]

end

/-- Settles O42: each command on either side of its limit. -/
theorem thermalLimits : Obligations.ThermalLimits := by
  refine ⟨fun _ _ hover => ⟨_, rfl, exec_limiterEstimate_of_over hover rfl⟩, fun _ _ _ htemp hfree => exec_thermalThrottle_of_hot htemp hfree,
    fun _ _ _ htemp => exec_thermalThrottle_of_cool htemp, fun _ _ _ htemp => exec_throttleRelease_of_cool htemp,
    fun _ _ _ htemp hthrottled hcut hon => exec_thermalCut_of_hot htemp hthrottled hcut hon, ?recover⟩
  intro core temp s htemp hcut hceil
  exact ⟨fun u hbury => exec_thermalCutRecover_of_cool htemp hcut hceil hbury, fun u hbury => exec_thermalCutRecover_of_cool htemp hcut hceil hbury⟩

end Sys2Proof.Proofs
end

section
/-! SUPPORT. Power domains and idle cores (R434, R437, R438, R441 to R443): a request by its form, a drain or a wake by the state of its domain, an idle core by what would wake it. A
command that finds its domain in another state changes nothing (log entry 1); a core is clock gated with an empty store queue (log entry 127). -/
namespace Sys2Proof.Proofs

open Sys2Proof.Machine

/-! ### Requests of the Keeper -/

section
variable {w : Issuer} {d : BitVec 9} {s : State} (hwid : s.issuerWid w = 0)
include hwid

theorem domWrite_of_may (r : DomReq) :
    s.domWrite w d r = .next ((if 440 < d.toNat ∨ (r.action = 2 ∧ (r.timerUs < 50 ∨ 100000 < r.timerUs)) then s else s.domRequest d.toNat r).accept w svcStop) :=
  keeperOnly_of_may hwid svcStop _

/-- A request of a domain that exists, with a time in range where it sets one, is taken. -/
theorem domWrite_of_legal (hd : d.toNat ≤ 440) {r : DomReq} (hr : r.action = 2 → 50 ≤ r.timerUs ∧ r.timerUs ≤ 100000) :
    s.domWrite w d r = .next ((s.domRequest d.toNat r).accept w svcStop) := by
  have hlegal : ¬(440 < d.toNat ∨ (r.action = 2 ∧ (r.timerUs < 50 ∨ 100000 < r.timerUs))) := by
    rintro (hbig | ⟨haction, htime⟩)
    · omega
    · have := hr haction
      omega
  rw [domWrite_of_may hwid, if_neg hlegal]

/-- A reserved time changes nothing (R12). -/
theorem domWrite_of_bad_time {r : DomReq} (haction : r.action = 2) (htime : r.timerUs < 50 ∨ 100000 < r.timerUs) :
    s.domWrite w d r = .next (s.accept w svcStop) := by
  rw [domWrite_of_may hwid, if_pos (.inr ⟨haction, htime⟩)]

end

/-! ### Drains and wakes -/

section
variable {d : Fin 441} {s : State}

theorem exec_domainDrainComplete_of_not_draining (hstate : s.domain d.val ≠ 4) : exec (.domainDrainComplete d) s = .next s := by
  show Host.Outcome.next (s.drainDone d.val) = _
  rw [State.drainDone, if_pos (.inl hstate)]

theorem exec_drainTimeout_of_draining (hstate : s.domain d.val = 4) (hkind : d.val < 272 ∨ (426 ≤ d.val ∧ d.val ≤ 430))
    (hiso : s.pw.iso.any (fun e => e.1 == d.val) = false) :
    exec (.drainTimeout d) s = .next (s.abortDrain d.val (s.domOwner d.val) Refuser.inFlight) :=
  if_pos ⟨hstate, hkind, by simp only [hiso, Bool.false_eq_true, not_false_eq_true]⟩

/-- A domain that is no core and has no stop of its own to revive is ON. -/
theorem exec_domainWakeComplete_of_waking (hstate : s.domain d.val = 5) (hcore : 272 ≤ d.val) (hhp0 : d.val ≠ 426) (hhp1 : d.val ≠ 427)
    (hstop : domStop d.val = none) :
    exec (.domainWakeComplete d) s = .next (((s.setF F.pwrDomStatus_lastRefuser 0 d.val 0).setDomain d.val 2).domSettled d.val) := by
  have hno_core : ¬d.val < 272 := Nat.not_lt.mpr hcore
  have hno_hp : ¬(d.val = 426 ∨ d.val = 427) := not_or_intro hhp0 hhp1
  show Host.Outcome.next (s.wakeDone d.val) = _
  rw [State.wakeDone, if_neg (not_not_intro hstate), if_neg hno_core]
  simp only [hstop, if_neg hno_hp]

theorem exec_domainWakeComplete_of_not_waking (hstate : s.domain d.val ≠ 5) : exec (.domainWakeComplete d) s = .next s :=
  congrArg Host.Outcome.next (if_pos hstate)

end

/-! ### Idle cores -/

section
variable {h : BitVec 8} {s : State}

theorem exec_coreClockGate_of_idle (hon : s.domain (s.physCore h.toNat) = 2) (hruns : s.runs h.toNat = true) (hwake : s.wakeEvent h.toNat = false)
    (hsq : (s.hart h.toNat).sq = []) (hoff : (s.setDomain (s.physCore h.toNat) 3).pw.offNext.contains (s.physCore h.toNat) = false) :
    exec (.coreClockGate h) s = .next (s.setDomain (s.physCore h.toNat) 3) := by
  show execCoreClockGate h s = _
  simp only [execCoreClockGate, hon, hruns, hwake, hsq, hoff, List.isEmpty_nil, ne_eq, not_true, Bool.false_eq_true, or_self, if_false]

section
variable (hgated : s.domain (s.physCore h.toNat) = 3) (hpin : s.isF F.pwrDomStatus_pinned 0 (s.physCore h.toNat) = false) (hmode : s.mode ≠ 3)
  (htrans : s.isF F.pwrModeStatus_transition 0 0 = false)
include hgated hpin hmode htrans

/-- An idle timer that may act: a wake in the same cycle wins, then the first refuser, then the drain starts (R442). -/
theorem exec_coreIdleTimerExpiry_of_gated : exec (.coreIdleTimerExpiry h) s =
    if s.wakeEvent h.toNat then .next ((s.setDomain (s.physCore h.toNat) 2).powerRefuse (s.physCore h.toNat) (s.seat h.toNat) Refuser.wakePending true)
    else match s.refuserOf (s.physCore h.toNat) 0 (s.seat h.toNat) with
      | some code => .next (s.powerRefuse (s.physCore h.toNat) (s.seat h.toNat) code false)
      | none => .next (s.startDrain (s.physCore h.toNat)) := by
  show execCoreIdleTimerExpiry h s = _
  simp only [execCoreIdleTimerExpiry, hgated, hpin, hmode, htrans, ne_eq, not_true, Bool.false_eq_true, or_self, if_false] <;> rfl

theorem exec_coreIdleTimerExpiry_of_wake (hwake : s.wakeEvent h.toNat = true) : exec (.coreIdleTimerExpiry h) s =
    .next ((s.setDomain (s.physCore h.toNat) 2).powerRefuse (s.physCore h.toNat) (s.seat h.toNat) Refuser.wakePending true) := by
  rw [exec_coreIdleTimerExpiry_of_gated hgated hpin hmode htrans, if_pos hwake]

theorem exec_coreIdleTimerExpiry_of_refuser {code : Nat} (hwake : s.wakeEvent h.toNat = false)
    (href : s.refuserOf (s.physCore h.toNat) 0 (s.seat h.toNat) = some code) :
    exec (.coreIdleTimerExpiry h) s = .next (s.powerRefuse (s.physCore h.toNat) (s.seat h.toNat) code false) := by
  rw [exec_coreIdleTimerExpiry_of_gated hgated hpin hmode htrans, if_neg (Bool.eq_false_iff.mp hwake), href]

theorem exec_coreIdleTimerExpiry_of_free (hwake : s.wakeEvent h.toNat = false) (href : s.refuserOf (s.physCore h.toNat) 0 (s.seat h.toNat) = none) :
    exec (.coreIdleTimerExpiry h) s = .next (s.startDrain (s.physCore h.toNat)) := by
  rw [exec_coreIdleTimerExpiry_of_gated hgated hpin hmode htrans, if_neg (Bool.eq_false_iff.mp hwake), href]

end

/-- A pending wake acts by the state of the core's domain (R443). -/
theorem exec_coreWake_of_wake (hwake : s.wakeEvent h.toNat = true) (hcut : (s.core (s.physCore h.toNat)).cut = false)
    (htrans : s.isF F.pwrModeStatus_transition 0 0 = false) (hmode : s.mode = 3 ∨ s.mode = 4 ∨ s.mode = 5) : exec (.coreWake h) s =
      match s.domain (s.physCore h.toNat) with
      | 3 => .next ((s.setDomain (s.physCore h.toNat) 2).syncCore (s.physCore h.toNat))
      | 4 => .next (s.abortDrain (s.physCore h.toNat) (s.seat h.toNat) Refuser.wakePending)
      | 1 => .next (s.startWake (s.physCore h.toNat))
      | _ => .next s := by
  have hmay : (s.mode == 3 || s.mode == 4 || s.mode == 5) = true := by simpa [or_assoc] using hmode
  show execCoreWake h s = _
  simp only [execCoreWake, hwake, hcut, htrans, hmay, Bool.not_true, Bool.or_self, Bool.false_eq_true, if_false] <;> rfl

end

/-- Settles O40: requests by their form, drains and wakes by the state of the domain, idle cores by what wakes or refuses. -/
theorem powerDomainsAndIdling : Obligations.PowerDomainsAndIdling := by
  refine ⟨?requests, fun _ _ => rfl, fun _ _ hstate => exec_domainDrainComplete_of_not_draining hstate,
    fun _ _ hstate hkind hiso => exec_drainTimeout_of_draining hstate hkind hiso,
    fun _ _ hstate hcore hhp0 hhp1 hstop => exec_domainWakeComplete_of_waking hstate hcore hhp0 hhp1 hstop,
    fun _ _ hstate => exec_domainWakeComplete_of_not_waking hstate,
    fun _ _ hon hruns hwake hsq hoff => exec_coreClockGate_of_idle hon hruns hwake hsq hoff, ?idle, ?wake⟩
  case requests =>
    intro w d wid s hwid hd
    exact ⟨domWrite_of_legal hwid hd (nofun), domWrite_of_legal hwid hd (nofun), fun us hlow hhigh => domWrite_of_legal hwid hd fun _ => ⟨hlow, hhigh⟩,
      fun us htime => domWrite_of_bad_time hwid rfl htime⟩
  case idle =>
    intro h s hgated hpin hmode htrans
    exact ⟨exec_coreIdleTimerExpiry_of_free hgated hpin hmode htrans, exec_coreIdleTimerExpiry_of_wake hgated hpin hmode htrans,
      fun code => exec_coreIdleTimerExpiry_of_refuser hgated hpin hmode htrans⟩
  case wake =>
    intro h s hwake hcut htrans hmode
    rw [exec_coreWake_of_wake hwake hcut htrans hmode]
    exact ⟨fun hdom => by simp only [hdom], fun hdom => by simp only [hdom], fun hdom => by simp only [hdom]⟩

end Sys2Proof.Proofs
end

section
/-! SUPPORT. Errors in arrays and the recorder (R426, R484, R498, R501, R502): an error by what the array holds, an event by its bucket, and the end of a freeze. -/
namespace Sys2Proof.Proofs

open Sys2Proof.Machine Sys2Proof.Laws

/-! ### Errors of a core's caches -/

section
variable {c : Fin 272} {sec : BitVec 46} {l2 : Bool} {s : State}

theorem exec_arrayErrorDetected_of_clean (hclean : (s.cline c.val sec.toNat).st = .s ∨ (s.cline c.val sec.toNat).st = .e) :
    exec (.arrayErrorDetected (.core c sec l2 true)) s =
      .next (((s.closeWindow c.val sec.toNat).evictLine c.val sec.toNat false).coreCorrected c.val sec.toNat (if l2 then 3 else 2)) := by
  show execArrayErrorDetected (.core c sec l2 true) s = _
  obtain hst | hst := hclean
  · simp only [execArrayErrorDetected, hst, Bool.not_true, Bool.false_eq_true, if_false]
  · simp only [execArrayErrorDetected, hst, Bool.not_true, Bool.false_eq_true, if_false]

theorem exec_arrayErrorDetected_of_dirty (hdirty : (s.cline c.val sec.toNat).st = .m ∨ (s.cline c.val sec.toNat).st = .o) :
    exec (.arrayErrorDetected (.core c sec l2 true)) s = .next ((s.setCline c.val sec.toNat { s.cline c.val sec.toNat with poison := true }).errorEvent .core c.val
      { sev := .ued, code := Ev.sectorPoisoned, addr := some (sec.toNat * 64) } (s.srcCore c.val) (w64 (sec.toNat * 64)) 1) := by
  show execArrayErrorDetected (.core c sec l2 true) s = _
  obtain hst | hst := hdirty
  · simp only [execArrayErrorDetected, hst, Bool.not_true, Bool.false_eq_true, if_false]
  · simp only [execArrayErrorDetected, hst, Bool.not_true, Bool.false_eq_true, if_false]

end

/-! ### Errors of a slice and of the deed table -/

section
variable {t : Fin 136} {sec : BitVec 46} {s : State} {k way : Nat} {l : LlcLine} (hfind : s.llcFind t.val (sec.toNat / 2) = some (k, way, l))
  (hvalid : l.valid (sec.toNat % 2) = true)
include hfind hvalid

theorem exec_arrayErrorDetected_of_llc_corrected : exec (.arrayErrorDetected (.llc t sec false)) s =
    .next ((s.errorEvent .tile t.val { sev := .ce, code := Ev.llcCorrected, addr := some (sec.toNat * 64) }
      (srcSlice t.val 255) (w64 (sec.toNat * 64)) (w64 way)).countErr (t.val * 16 + way)) := by
  show execArrayErrorDetected (.llc t sec false) s = _
  simp only [execArrayErrorDetected, hfind, hvalid, Bool.not_true, Bool.not_false, Bool.false_eq_true, if_false, if_true]

theorem exec_arrayErrorDetected_of_llc_held (hheld : (l.dirty (sec.toNat % 2) || l.pinned) = true) : exec (.arrayErrorDetected (.llc t sec true)) s =
    .next ((s.setLlc k (some (l.put (sec.toNat % 2) true (l.dirty (sec.toNat % 2)) (l.data (sec.toNat % 2)) true))).errorEvent
      .tile t.val { sev := .ued, code := Ev.sectorPoisoned, addr := some (sec.toNat * 64) } (srcSlice t.val 255) (w64 (sec.toNat * 64)) 2) := by
  show execArrayErrorDetected (.llc t sec true) s = _
  simp only [execArrayErrorDetected, hfind, hvalid, hheld, Bool.not_true, Bool.false_eq_true, if_false, if_true]

end

theorem unrecorded_deedBad (s : State) : (unrecorded s).deedBad = s.deedBad := rfl

theorem errorEvent_deedBad (s : State) (p : Place) (u : Nat) (e : ErrInfo) (src : Source) (d0 d1 : Word) : (s.errorEvent p u e src d0 d1).deedBad = s.deedBad := by
  rw [← unrecorded_deedBad, unrecorded_errorEvent, unrecorded_deedBad]

/-- The pages of a lost granule of the deed table are known as bad (log entry 30). -/
theorem gives_arrayErrorDetected_of_deeds (g : BitVec 36) (s : State) :
    Gives (.arrayErrorDetected (.deeds g)) s (fun t => ∀ i, i < 16 → t.deedBad.contains (16 * g.toNat + i) = true) := by
  refine ⟨_, rfl, fun i hi => ?_⟩
  rw [errorEvent_deedBad, List.contains_iff_mem]
  exact List.mem_append_right _ (List.mem_map_of_mem (List.mem_range.mpr hi))

/-! ### The recorder -/

section
variable {code : Fin 1024} {s : State} {sev : Nat} {lim : Option (Nat × Nat)} (hinfo : evInfo code.val = some (sev, lim)) (src : Source) (d0 d1 : Word)
include hinfo

/-- An event whose bucket is empty is counted as suppressed (R498). -/
theorem exec_annalsEvent_of_closed (hopen : s.bucketOpen code.val sev lim.isSome = false) :
    exec (.annalsEvent code src d0 d1) s = .next (s.incSat F.anlRate_suppressed 0 code.val) := by
  show Host.Outcome.next (s.record code.val src d0 d1) = _
  simp only [State.record, hinfo, hopen, Bool.false_eq_true, if_false]

/-- An event without a rate limit is recorded. -/
theorem exec_annalsEvent_of_open (hopen : s.bucketOpen code.val sev lim.isSome = true) (hlim : lim = none) :
    exec (.annalsEvent code src d0 d1) s = .next (s.writeRec code.val sev src d0 d1 false) := by
  have hfree : lim.isSome = false := by rw [hlim, Option.isSome_none]
  rw [hfree] at hopen
  show Host.Outcome.next (s.record code.val src d0 d1) = _
  simp only [State.record, hinfo, hfree, hopen, Bool.false_eq_true, if_false, Bool.false_and, if_true]

end

theorem gives_rateBucketRefill (code : Fin 1024) (s : State) :
    Gives (.rateBucketRefill code) s (fun t => t.annals.spent.get 0 code.val = s.annals.spent.get 0 code.val - 1 ∧ t.regs = s.regs ∧ t.mem = s.mem ∧
      t.annals.staging = s.annals.staging) :=
  ⟨_, rfl, get_set_same .., rfl, rfl, rfl⟩

theorem exec_annalsCommitRetry_of_failed {s : State} (hbad : s.isF F.anlStatus_archiveOk 0 0 = false) (works : Bool) :
    exec (.annalsCommitRetry works) s = .next (s.annCommit works) :=
  congrArg Host.Outcome.next (if_neg (Bool.eq_false_iff.mp hbad))

theorem exec_annalsThaw_of_empty {s : State} (hthaw : s.annals.thaw = true) (hfree : s.annals.freezers = []) (hheld : s.annals.held = []) :
    exec .annalsThaw s =
      .next (State.record (State.annSync { s with annals := { s.annals with thaw := false, held := [], heldTotal := 0, droppedFrozen := 0 } })
        Ev.annalsThaw srcSvc (w64 s.annals.heldTotal) (w64 s.annals.droppedFrozen)) := by
  show execAnnalsThaw s = _
  simp only [execAnnalsThaw, hthaw, hfree, hheld, Bool.not_true, List.isEmpty_nil, Bool.or_self, Bool.false_eq_true, if_false, List.foldl_nil]

/-- Settles O44: an error by what its array holds, an event by its bucket, and the rest by what the recorder keeps. -/
theorem arrayErrorsAndAnnals : Obligations.ArrayErrorsAndAnnals := by
  refine ⟨fun _ _ _ => rfl, fun _ _ _ _ => rfl, fun _ _ _ _ hclean => exec_arrayErrorDetected_of_clean hclean,
    fun _ _ _ _ hdirty => exec_arrayErrorDetected_of_dirty hdirty, fun _ _ _ _ _ _ hfind hvalid => exec_arrayErrorDetected_of_llc_corrected hfind hvalid,
    fun _ _ _ _ _ _ hfind hvalid hheld => exec_arrayErrorDetected_of_llc_held hfind hvalid hheld, gives_arrayErrorDetected_of_deeds, fun _ _ => ⟨rfl, rfl⟩,
    fun _ src d0 d1 _ _ _ hinfo => ⟨exec_annalsEvent_of_closed hinfo src d0 d1, exec_annalsEvent_of_open hinfo src d0 d1⟩, gives_rateBucketRefill,
    fun works _ => ⟨rfl, fun hbad => exec_annalsCommitRetry_of_failed hbad works⟩, fun _ hthaw hfree hheld => exec_annalsThaw_of_empty hthaw hfree hheld,
    fun _ _ => rfl⟩

end Sys2Proof.Proofs
end

section
/-! SUPPORT. Upkeep of the Margin Ledger and Surveys (R464, R466 to R469, R474, R475, R478, R482): what a slack, a check, a second, a write of ways or a Survey's timer decides. A command that
finds nothing to do changes nothing (log entry 1); a check stops its hart by the same command given again (log entries 54 and 148). -/
namespace Sys2Proof.Proofs

open Sys2Proof.Machine

/-! ### The droop guard -/

section
variable {core : Fin 272} {slack : Nat} {s : State}

theorem exec_droopGuard_of_droop {u : State} (hdroop : s.droops core.val slack = true) (hu : u = (s.droopLower core.val).setF F.mlgCoreStatus_droop core.val 0 1) :
    exec (.droopGuard core slack) s = .next (u.ledgerChange 0x0D core.val (w64 (s.nEff core.val)) (w64 (u.nEff core.val)) slack (u.eqHours core.val)
      (2 * (s.fixedCore core.val).toNat)) := by
  subst hu
  show execDroopGuard core slack s = _
  simp only [execDroopGuard, hdroop, Bool.not_true, Bool.false_eq_true, if_false]

theorem exec_droopGuard_of_no_droop (hdroop : s.droops core.val slack = false) : exec (.droopGuard core slack) s = .next s := by
  show execDroopGuard core slack s = _
  simp only [execDroopGuard, hdroop, Bool.not_false, if_true]

theorem exec_droopStep_of_guarded (hdroop : s.droops core.val slack = true) (hguard : s.pw.droopN.get 31 core.val < 31) :
    exec (.droopStep core slack) s = .next (s.droopLower core.val) :=
  congrArg Host.Outcome.next (if_pos (by simp only [hdroop, hguard, decide_true, Bool.and_self]))

theorem exec_droopStep_of_no_droop (hdroop : s.droops core.val slack = false) : exec (.droopStep core slack) s = .next s :=
  congrArg Host.Outcome.next (if_neg (by simp only [hdroop, Bool.false_and, Bool.false_eq_true, not_false_eq_true]))

/-- A re-plan ends the guard, and retires a core that has lost its point 9 (R464, R470). -/
theorem exec_droopReplan_of_guarded {point : Fin 13} {u : State} (hguard : s.pw.droopN.get 31 core.val ≠ 31)
    (hu : u = State.syncCore { s.replan core.val point.val slack with pw := { (s.replan core.val point.val slack).pw with
      droopN := (s.replan core.val point.val slack).pw.droopN.set 31 core.val 31 } } core.val) :
    exec (.droopReplan core point slack) s = .next (if u.pointOk core.val 9 then u else u.retire core.val) := by
  subst hu
  exact if_neg hguard

end

/-! ### Checks and retirements -/

section
variable {core : Fin 272} {s : State} (m : Sweep)

section
variable (hroll : s.isF F.mlgCtrl_rollEn 0 0 = true) (hdeferred : s.checkDeferred core.val = false)
include hroll hdeferred

theorem exec_rollingCheck_of_free (hhalted : s.coreHalted core.val = false) : exec (.rollingCheck core m) s = .next (s.checkCore core.val m) := by
  show execRollingCheck core m s = _
  simp only [execRollingCheck, hroll, hdeferred, hhalted, Bool.not_true, Bool.or_self, Bool.false_eq_true, if_false]

theorem exec_rollingCheckRetry_of_free (hhalted : s.coreHalted core.val = false) (hretry : s.ledger.retry.contains core.val = true) :
    exec (.rollingCheckRetry core m) s = .next (s.checkCore core.val m) :=
  if_pos (by simp only [hroll, hdeferred, hhalted, hretry, Bool.not_false, Bool.and_self])

/-- A check that debug holds up is noted once (R482). -/
theorem exec_rollingCheck_of_halted (hhalted : s.coreHalted core.val = true) (hretry : s.ledger.retry.contains core.val = false) :
    exec (.rollingCheck core m) s = .next { s with ledger := { s.ledger with retry := s.ledger.retry ++ [core.val] } } := by
  show execRollingCheck core m s = _
  simp only [execRollingCheck, hroll, hdeferred, hhalted, hretry, Bool.not_true, Bool.or_self, Bool.false_eq_true, if_false, if_true]

end

section
variable {c h : Nat} {u : State} (hhart : s.hartOf c = some h) (hstoppable : s.runs h = true ∨ (s.hart h).stopped = true) (hu : u = s.stopHart h)
include hhart hstoppable hu

/-- The check of a core with a hart: at the hart's boundary with its loads complete, and else one step towards it (R466). -/
theorem checkCore_of_hart : s.checkCore c m =
    if ((u.hart h).stopped && (u.hart h).infl.isEmpty) = true then (u.modHart h (fun x => { x with stopped := false })).check c m else u := by
  have hstop : (!s.runs h && !(s.hart h).stopped) = false := by
    obtain hruns | hstopped := hstoppable
    · rw [hruns, Bool.not_true, Bool.false_and]
    · rw [hstopped, Bool.not_true, Bool.and_false]
  subst hu
  simp only [State.checkCore, hhart, hstop, Bool.false_eq_true, if_false]

theorem checkCore_of_stopped (hstopped : (u.hart h).stopped = true) (hinfl : (u.hart h).infl = []) :
    s.checkCore c m = (u.modHart h (fun x => { x with stopped := false })).check c m := by
  rw [checkCore_of_hart m hhart hstoppable hu, if_pos (by simp only [hstopped, hinfl, List.isEmpty_nil, Bool.and_self])]

theorem checkCore_of_not_stopped (hbusy : (u.hart h).stopped = false ∨ (u.hart h).infl ≠ []) : s.checkCore c m = u := by
  have hwait : ¬((u.hart h).stopped && (u.hart h).infl.isEmpty) = true := by
    rw [Bool.and_eq_true, List.isEmpty_iff]
    rintro ⟨hstopped, hinfl⟩
    obtain hrunning | hloads := hbusy
    · rw [hrunning] at hstopped
      cases hstopped
    · exact hloads hinfl
  rw [checkCore_of_hart m hhart hstoppable hu, if_neg hwait]

end

theorem exec_retirementRetry_of_waiting (hwaiting : s.ledger.waiting.contains core.val = true) :
    exec (.retirementRetry core) s = .next (s.retire core.val) := congrArg Host.Outcome.next (if_pos hwaiting)

end

/-! ### Life, ways and commits -/

section
variable {s u : State} (hu : u = s.ageParts)
include hu

theorem exec_lifeModelTick_within_hour (hsec : u.ledger.seconds + 1 < 3600) :
    exec (.lifeModelTick []) s = .next { u with ledger := { u.ledger with seconds := u.ledger.seconds + 1 } } := by
  subst hu
  exact if_pos hsec

/-- A whole hour is counted (R475). -/
theorem exec_lifeModelTick_at_hour (hsec : 3600 ≤ u.ledger.seconds + 1) :
    exec (.lifeModelTick []) s = .next (State.incSat { u with ledger := { u.ledger with seconds := 0 } } F.mlgStatus_serviceHours 0 0) := by
  subst hu
  exact if_neg (Nat.not_lt.mpr hsec)

end

section
variable {w : Issuer} {tile : Fin 136} {v : Word} {s : State} (hreach : s.reachable .tile tile.val = true) (hwid : s.issuerWid w = 0)
include hreach hwid

theorem exec_mlgWayRetireWrite_of_legal
    (hkept : Nat.land (s.getF F.mlgWayRetire_ways tile.val 0) (v.toNat % 4096) = s.getF F.mlgWayRetire_ways tile.val 0)
    (htwo : ((List.range 12).filter (fun i => v.toNat % 4096 / 2 ^ i % 2 == 1)).length ≤ 2) (hnew : v.toNat % 4096 ≠ s.getF F.mlgWayRetire_ways tile.val 0) :
    exec (.mlgWayRetireWrite w tile v) s = .next ((s.retireWays tile.val (v.toNat % 4096)).accept w (Place.tile.stopOf tile.val)) := by
  have hlegal : ¬(Nat.land (s.getF F.mlgWayRetire_ways tile.val 0) (v.toNat % 4096) ≠ s.getF F.mlgWayRetire_ways tile.val 0 ∨ 2 < wayCount (v.toNat % 4096) ∨
      v.toNat % 4096 = s.getF F.mlgWayRetire_ways tile.val 0) := by
    rintro (h | h | h)
    · exact h hkept
    · exact absurd htwo (Nat.not_le.mpr h)
    · exact hnew h
  show execMlgWayRetireWrite w tile v s = _
  rw [execMlgWayRetireWrite, keeperAt_of_may hreach hwid]
  exact congrArg (fun t : State => Host.Outcome.next (t.accept w (Place.tile.stopOf tile.val))) (if_neg hlegal)

/-- A write that gives a way back, retires a third, or names what is retired already changes nothing (R12, R474). -/
theorem exec_mlgWayRetireWrite_of_reserved
    (hreserved : Nat.land (s.getF F.mlgWayRetire_ways tile.val 0) (v.toNat % 4096) ≠ s.getF F.mlgWayRetire_ways tile.val 0 ∨
      2 < ((List.range 12).filter (fun i => v.toNat % 4096 / 2 ^ i % 2 == 1)).length ∨ v.toNat % 4096 = s.getF F.mlgWayRetire_ways tile.val 0) :
    exec (.mlgWayRetireWrite w tile v) s = .next (s.accept w (Place.tile.stopOf tile.val)) := by
  show execMlgWayRetireWrite w tile v s = _
  rw [execMlgWayRetireWrite, keeperAt_of_may hreach hwid]
  exact congrArg (fun t : State => Host.Outcome.next (t.accept w (Place.tile.stopOf tile.val))) (if_pos hreserved)

end

theorem exec_ledgerCommitRetry_of_held {s : State} (hheld : s.ledger.held ≠ []) : exec (.ledgerCommitRetry true) s = .next s.ledgerCommit :=
  congrArg Host.Outcome.next (if_pos (by rwa [Bool.true_and, Bool.not_eq_true', List.isEmpty_eq_false_iff]))

/-! ### Surveys -/

theorem exec_surveyDeadline_of_survey {s : State} (hmode : s.mode = 6) : exec .surveyDeadline s = .next (s.surveyEnd true) :=
  congrArg Host.Outcome.next (if_pos hmode)

theorem exec_surveyDueNotice_of_new {s : State} (hdue : s.isF F.mlgStatus_surveyDue 0 0 = false) :
    exec .surveyDueNotice s = .next ((s.setF F.mlgStatus_surveyDue 0 0 1).ledgerChange 0x0A 0 0 0 0 0 0) := if_neg (Bool.eq_false_iff.mp hdue)

theorem exec_surveyDueNotice_of_known {s : State} (hdue : s.isF F.mlgStatus_surveyDue 0 0 = true) : exec .surveyDueNotice s = .next s := if_pos hdue

/-- Settles O43: each command by what it finds; a way's retirement and an overdue Survey are their own definitions. -/
theorem ledgerAndSurveys : Obligations.LedgerAndSurveys := by
  refine ⟨fun _ _ _ _ hdroop hu => exec_droopGuard_of_droop hdroop hu, fun _ _ _ hdroop hguard => exec_droopStep_of_guarded hdroop hguard,
    fun _ _ _ hdroop => ⟨exec_droopGuard_of_no_droop hdroop, exec_droopStep_of_no_droop hdroop⟩,
    fun _ _ _ _ _ hguard hu => exec_droopReplan_of_guarded hguard hu, ?check,
    fun _ m _ hroll hdeferred hhalted hretry => exec_rollingCheck_of_halted m hroll hdeferred hhalted hretry, ?core,
    fun _ _ hwaiting => exec_retirementRetry_of_waiting hwaiting, fun _ _ hu => ⟨exec_lifeModelTick_within_hour hu, exec_lifeModelTick_at_hour hu⟩,
    fun _ _ _ _ hreach hwid hkept htwo hnew => exec_mlgWayRetireWrite_of_legal hreach hwid hkept htwo hnew,
    fun _ _ _ _ hreach hwid hreserved => exec_mlgWayRetireWrite_of_reserved hreach hwid hreserved, fun _ _ _ => rfl,
    fun _ hheld => exec_ledgerCommitRetry_of_held hheld, fun _ hmode => exec_surveyDeadline_of_survey hmode,
    fun _ hdue => exec_surveyDueNotice_of_new hdue, fun _ hdue => exec_surveyDueNotice_of_known hdue, fun _ => rfl⟩
  case check =>
    exact fun core m s hroll hdeferred hhalted =>
      ⟨exec_rollingCheck_of_free m hroll hdeferred hhalted, exec_rollingCheckRetry_of_free m hroll hdeferred hhalted⟩
  case core =>
    exact fun core m s u h hhart hstoppable hu => ⟨checkCore_of_stopped m hhart hstoppable hu, checkCore_of_not_stopped m hhart hstoppable hu⟩

end Sys2Proof.Proofs
end

section
/-! SUPPORT. Modes (R448 to R452, R454, R459, R469): an entry by the mode that was asked for, a wake by its enable and by the mode that it meets, a held write by the room in the queue, and a
wake of Watch by what it samples. What is not at rest yet is gone on with by the same command (log entries 54, 147 and 148). -/
namespace Sys2Proof.Proofs

open Sys2Proof.Machine Sys2Proof.Laws

/-! ### Entering and leaving -/

/-- What Off commits, zeroises and turns dark before its sequence ends (R454). -/
def offPrepared (works : Bool) (s : State) : State :=
  let u := (s.stopFolios.pauseHarts.setMode 0).annCommit works
  (if works then u.ledgerCommit else u).zeroise.dark

/-- The state with another record of power and modes. -/
def withPower (s : State) (p : Power) : State := { s with pw := p }

@[simp] theorem withPower_pw (s : State) (p : Power) : (withPower s p).pw = p := rfl
@[simp] theorem isF_withPower (s : State) (p : Power) (f : Fld) (u i : Nat) : (withPower s p).isF f u i = s.isF f u i := rfl

/-- The end of the sequence, with every hart forgotten and ALERT_N asserted (R454). -/
def offEntered (u : State) : State :=
  withPower (u.setF F.pwrModeStatus_transition 0 0 0) { (u.setF F.pwrModeStatus_transition 0 0 0).pw with target := none, stopped := [], alert := true }

theorem offEntered_reads (u : State) : (offEntered u).pw.target = none ∧ (offEntered u).pw.stopped = [] ∧ (offEntered u).pw.alert = true ∧
    (offEntered u).isF F.pwrModeStatus_transition 0 0 = false := by
  refine ⟨rfl, rfl, rfl, ?_⟩
  rw [offEntered, isF_withPower]
  exact isF_setF_same u F.pwrModeStatus_transition 0 0 0 (by decide)

theorem exec_enterOff_of_asked {works : Bool} {s : State} (htrans : s.isF F.pwrModeStatus_transition 0 0 = true) (htarget : s.pw.target = some 0)
    (hrecord : s.folio.record = none) : exec (.enterOff works) s = .next (offEntered (offPrepared works s)) :=
  if_pos ⟨htrans, htarget, by rw [hrecord, Option.isNone_none]⟩

theorem fuses_of_base {s t : State} (h : base t = base s) : t.fuses = s.fuses := congrArg Prod.fst h

/-- The fuse array is as before, as over any command that R390 does not name. -/
theorem gives_enterOff {works : Bool} {s : State} (htrans : s.isF F.pwrModeStatus_transition 0 0 = true) (htarget : s.pw.target = some 0)
    (hrecord : s.folio.record = none) :
    Gives (.enterOff works) s (fun t => t.pw.target = none ∧ t.pw.stopped = [] ∧ t.pw.alert = true ∧ t.isF F.pwrModeStatus_transition 0 0 = false ∧
      t.fuses = s.fuses) := by
  have hexec := exec_enterOff_of_asked (works := works) htrans htarget hrecord
  have hbase : base (offEntered (offPrepared works s)) = base s := by
    rw [← obase_next (base s), ← hexec]
    exact base_execEnterOff works s
  obtain ⟨htgt, hstopped, halert, hdone⟩ := offEntered_reads (offPrepared works s)
  exact ⟨_, hexec, htgt, hstopped, halert, hdone, fuses_of_base hbase⟩

section
variable {s : State} (htrans : s.isF F.pwrModeStatus_transition 0 0 = true) (hmode : s.mode = 4 ∨ s.mode = 5)
include htrans hmode

theorem enterConservation_may : (!s.isF F.pwrModeStatus_transition 0 0 || !(s.mode == 4 || s.mode == 5)) = false := by
  have hfrom : (s.mode == 4 || s.mode == 5) = true := by simpa only [Bool.or_eq_true, beq_iff_eq] using hmode
  rw [htrans, hfrom]
  rfl

theorem exec_enterConservation_of_asked (htarget : s.pw.target = some 2) :
    exec .enterConservation s = .next (if s.conserve.domain 408 = 1 then s.conserve.sequenceDone 2 else s.conserve) := by
  show execEnterConservation s = _
  simp only [execEnterConservation, enterConservation_may htrans hmode, htarget, Bool.false_eq_true, if_false]

/-- On the way to Watch, Conservation does not end the sequence (R448). -/
theorem exec_enterConservation_of_watch (htarget : s.pw.target = some 1) :
    exec .enterConservation s = .next (if s.conserve.domain 408 = 1 then s.conserve.setMode 2 else s.conserve) := by
  show execEnterConservation s = _
  simp only [execEnterConservation, enterConservation_may htrans hmode, htarget, Bool.false_eq_true, if_false]

end

theorem exec_enterWatch_of_asked {s : State} (hmode : s.mode = 2) (htrans : s.isF F.pwrModeStatus_transition 0 0 = true) (htarget : s.pw.target = some 1) :
    exec .enterWatch s = .next (((((List.range 8).map (· + 420) ++ [430]).foldl (fun (s : State) (d : Nat) => s.takeOff d) s).takeDomains
      ((List.range 10).map (· + 431)) 1).sequenceDone 1) := if_pos ⟨hmode, htrans, htarget⟩

theorem exec_leaveToOrigin_of_asked {s : State} (hmode : s.mode = 2) (htarget : s.pw.target = some 4 ∨ s.pw.target = some 5) :
    exec .leaveToOrigin s = .next s.leave := if_pos ⟨hmode, htarget⟩

/-! ### Surveys -/

/-- The Ledger's findings of a Survey with more of them (R469). -/
def withFindings (s : State) (f : List SurveyCore) (p : List SurveyPart) : State :=
  { s with ledger := { s.ledger with found := s.ledger.found ++ f, foundParts := s.ledger.foundParts ++ p } }

section
variable {s : State} (f : List SurveyCore) (p : List SurveyPart) (last : Bool)

theorem exec_enterSurvey_of_survey (hmode : s.mode = 6) :
    exec (.enterSurvey ⟨f, p⟩ last) s = .next (if last then (withFindings s f p).surveyEnd false else withFindings s f p) := if_pos hmode

theorem exec_enterSurvey_of_survey_last (hmode : s.mode = 6) : exec (.enterSurvey ⟨f, p⟩ true) s = .next ((withFindings s f p).surveyEnd false) := by
  rw [exec_enterSurvey_of_survey f p true hmode, if_pos rfl]

section
variable (hmode : s.mode ≠ 6) (htrans : s.isF F.pwrModeStatus_transition 0 0 = true) (htarget : s.pw.target = some 6)
include hmode htrans htarget

theorem exec_enterSurvey_of_asked {b : Bool} {u : State} (hstart : s.surveyStart = (b, u)) : exec (.enterSurvey ⟨f, p⟩ last) s =
    .next (if b then (if last then (withFindings (u.setMode 6) f p).surveyEnd false else withFindings (u.setMode 6) f p) else u) := by
  show execEnterSurvey ⟨f, p⟩ last s = _
  simp only [execEnterSurvey, if_neg hmode, if_pos (And.intro htrans htarget), hstart]
  rfl

end

end

/-! ### Wake sources -/

section
variable {b : Fin 50} {s : State} (hlisted : b.val ≤ 41 ∨ b.val = 49 ∨ (b.val = 48 ∧ s.endpoint 0 = true ∧ s.mode = 2))
  (hen : (s.regWord .pwrWakeEn 0 0).getLsbD b.val = true)
include hlisted hen

/-- An enabled source of the list may wake. -/
theorem wakeSource_may : (!(decide (b.val ≤ 41) || (b.val == 48 && s.endpoint 0 && s.mode != 1) || b.val == 49) || !(s.regWord .pwrWakeEn 0 0).getLsbD b.val) = false := by
  rw [hen, Bool.not_true, Bool.or_false]
  obtain hlow | hlast | ⟨hep, hrole, hmode⟩ := hlisted
  · simp [hlow]
  · simp [hlast]
  · simp [hep, hrole, hmode]

/-- A wake during the entry to Conservation or Watch abandons it (R459). -/
theorem exec_wakeSource_of_entry (htrans : s.isF F.pwrModeStatus_transition 0 0 = true) (htarget : s.pw.target = some 1 ∨ s.pw.target = some 2) :
    exec (.wakeSource b) s = .next (s.abortEntry.setF F.pwrModeStatus_lastWake 0 0 b.val) := by
  show execWakeSource b s = _
  simp only [execWakeSource, wakeSource_may hlisted hen, htrans, Bool.false_eq_true, if_false, if_true, if_pos htarget.symm]

section
variable (htrans : s.isF F.pwrModeStatus_transition 0 0 = false)
include htrans

theorem exec_wakeSource_of_conservation (hmode : s.mode = 2) : exec (.wakeSource b) s = .next (s.leave.setF F.pwrModeStatus_lastWake 0 0 b.val) := by
  have hwatch : ¬s.mode = 1 := by omega
  show execWakeSource b s = _
  simp only [execWakeSource, wakeSource_may hlisted hen, htrans, Bool.false_eq_true, if_false, if_pos (Or.inr hmode : s.mode = 1 ∨ s.mode = 2), if_neg hwatch]

theorem exec_wakeSource_of_watch (hmode : s.mode = 1) :
    exec (.wakeSource b) s = .next ((s.setF F.pwrWatchStatus_lastCause 0 0 16).leave.setF F.pwrModeStatus_lastWake 0 0 b.val) := by
  show execWakeSource b s = _
  simp only [execWakeSource, wakeSource_may hlisted hen, htrans, Bool.false_eq_true, if_false, if_pos (Or.inl hmode : s.mode = 1 ∨ s.mode = 2), if_pos hmode]

end

end

/-! ### Held writes -/

section
variable {w : Issuer} {s : State} (hholds : s.holds = true)
include hholds

theorem exec_heldWriteQueue_file (n h f i : Nat) : exec (.heldWriteQueue w (.file n h f i)) s = .next (s.holdWrite w (.file (s.issuerWid w) h f i)) := by
  show execHeldWriteQueue w (.file n h f i) s = _
  simp only [execHeldWriteQueue, hholds, Bool.not_true, Bool.false_eq_true, if_false]

theorem exec_heldWriteQueue_reg (n pa : Nat) (v en : Word) : exec (.heldWriteQueue w (.reg n pa v en)) s = .next (s.holdWrite w (.reg (s.issuerWid w) pa v en)) := by
  show execHeldWriteQueue w (.reg n pa v en) s = _
  simp only [execHeldWriteQueue, hholds, Bool.not_true, Bool.false_eq_true, if_false]

end

theorem holdWrite_of_room {s : State} (hroom : s.pw.held.length < 64) (w : Issuer) (x : HeldWrite) :
    s.holdWrite w x = State.accept { s with pw := { s.pw with held := s.pw.held ++ [x] } } w svcStop := if_pos hroom

/-- With the queue full the issuer stalls (R450). -/
theorem holdWrite_of_full {s : State} (hfull : 64 ≤ s.pw.held.length) (w : Issuer) (x : HeldWrite) : s.holdWrite w x = s := if_neg (Nat.not_lt.mpr hfull)

/-! ### Wakes of Watch -/

section
variable {x : WatchSample} {s : State} (hmode : s.mode = 1)
include hmode

theorem exec_watchPeriodWake_of_late (due : List (Fin 2 × Fin 16)) :
    exec (.watchPeriodWake x true due) s = .next (s.incSat F.pwrWatchStatus_skipped 0 0) := by
  show execWatchPeriodWake x true due s = _
  simp only [execWatchPeriodWake, hmode, ne_eq, not_true, if_false, if_true]

section
variable (hscan : s.pw.scan = none)
include hscan

/-- A wake in time that no scan is left from: due scans with memory awake where the sample departs from nothing, and else the end of the wake (R452). -/
theorem exec_watchPeriodWake_of_idle (due : List (Fin 2 × Fin 16)) : exec (.watchPeriodWake x false due) s =
    .next (if (s.isF F.pwrWatchCfg_scanEn 0 0 && s.watchCause x == 0 && !due.isEmpty) = true
      then (s.watchWake.watchPower due).watchScans x (.watchPeriodWake x false due) (due.length + 1) else s.watchWake.watchEnd x (s.watchCause x)) := by
  show execWatchPeriodWake x false due s = _
  simp only [execWatchPeriodWake, hmode, hscan, ne_eq, not_true, Bool.false_eq_true, if_false, Option.isSome_none]
  exact (apply_ite Host.Outcome.next _ _ _).symm

theorem exec_watchPeriodWake_of_cause (hcause : s.watchCause x ≠ 0) (due : List (Fin 2 × Fin 16)) :
    exec (.watchPeriodWake x false due) s = .next (s.watchWake.watchEnd x (s.watchCause x)) := by
  rw [exec_watchPeriodWake_of_idle hmode hscan, if_neg (by simp [hcause])]

theorem exec_watchPeriodWake_of_due (hcause : s.watchCause x = 0) (hen : s.isF F.pwrWatchCfg_scanEn 0 0 = true) {due : List (Fin 2 × Fin 16)} (hdue : due ≠ []) :
    exec (.watchPeriodWake x false due) s = .next ((s.watchWake.watchPower due).watchScans x (.watchPeriodWake x false due) (due.length + 1)) := by
  rw [exec_watchPeriodWake_of_idle hmode hscan, if_pos (by simp [hcause, hen, hdue])]

/-- A wake that finds nothing goes back to sleep. -/
theorem exec_watchPeriodWake_of_nothing (hcause : s.watchCause x = 0) : exec (.watchPeriodWake x false []) s = .next s.watchWake := by
  rw [exec_watchPeriodWake_of_idle hmode hscan, if_neg (by simp), hcause]
  rfl

end

end

/-- A sample within its bounds has no cause (R451). -/
theorem watchCause_of_within {x : WatchSample} {s : State} (htemp : x.temp < s.getF F.pwrWatchCfg_tempMax 0 0) (hmv : x.mv ≤ s.getF F.pwrWatchCfg_vDevMv 0 0)
    (hppm : x.ppm ≤ s.getF F.pwrWatchCfg_agePpm 0 0) : s.watchCause x = 0 := by
  simp [State.watchCause, Nat.not_le.mpr htemp, Nat.not_lt.mpr hmv, Nat.not_lt.mpr hppm]

/-- Settles O41: entries by the mode asked for, wakes by the mode that they meet, held writes by the queue's room, and Watch by its sample. -/
theorem modeEntries : Obligations.ModeEntries := by
  refine ⟨fun _ _ htrans htarget hrecord => gives_enterOff htrans htarget hrecord, fun _ htrans hmode htarget => exec_enterConservation_of_asked htrans hmode htarget,
    fun _ htrans hmode htarget => exec_enterConservation_of_watch htrans hmode htarget, fun _ hmode htrans htarget => exec_enterWatch_of_asked hmode htrans htarget,
    fun _ hmode htarget => exec_leaveToOrigin_of_asked hmode htarget,
    fun f p _ hmode => ⟨exec_enterSurvey_of_survey f p false hmode, exec_enterSurvey_of_survey_last f p hmode⟩,
    fun f p last _ _ hmode htrans htarget hstart => exec_enterSurvey_of_asked f p last hmode htrans htarget hstart, ?begun,
    fun _ _ htrans htarget hlow hen => exec_wakeSource_of_entry (.inl hlow) hen htrans htarget,
    fun _ _ hlisted hen htrans => ⟨exec_wakeSource_of_conservation hlisted hen htrans, exec_wakeSource_of_watch hlisted hen htrans⟩, ?held, ?watch⟩
  case begun =>
    intro f p s u v hmode htrans htarget hstart hv
    subst hv
    exact exec_enterSurvey_of_asked f p false hmode htrans htarget hstart
  case held =>
    intro w n h f i s hholds
    refine ⟨fun hroom => ?_, fun pa v en hroom => ?_, fun hfull => ?_⟩
    · rw [exec_heldWriteQueue_file hholds, holdWrite_of_room hroom]
    · rw [exec_heldWriteQueue_reg hholds, holdWrite_of_room hroom]
    · rw [exec_heldWriteQueue_file hholds, holdWrite_of_full hfull]
  case watch =>
    intro x s hmode
    exact ⟨fun due => exec_watchPeriodWake_of_late hmode due,
      fun hscan htemp hmv hppm => exec_watchPeriodWake_of_nothing hmode hscan (watchCause_of_within htemp hmv hppm),
      fun due hscan hcause => exec_watchPeriodWake_of_cause hmode hscan hcause due,
      fun due hscan hcause hen hdue => exec_watchPeriodWake_of_due hmode hscan hcause hen hdue⟩

end Sys2Proof.Proofs
end

section
/-! SUPPORT. The transports of slips and the Keeper's turn (R398, R413 to R417, R419, R429): how each transport hands its slip over, and whether the Keeper's turn finds a slip in hand, a
transport with one, or none (log entries 26 and 148). -/
namespace Sys2Proof.Proofs

open Sys2Proof.Machine Sys2Proof.Laws

/-! ### Handing over -/

/-- A world writes its own bell (R413). -/
theorem exec_slipBell_of_own {w : Issuer} {x : BitVec 6} {s : State} (hx : 2 ≤ x.toNat) (hwid : s.issuerWid w = x.toNat) (v : Word) :
    exec (.slipBell w x v) s = .next ((s.bellWrite x.toNat v allBytes).accept w svcStop) := by
  have hmay : (decide (2 ≤ x.toNat) && s.issuerWid w == x.toNat) = true := by simp [hx, hwid]
  show execSlipBell w x v s = _
  rw [execSlipBell, hmay, guarded_of_may]

theorem exec_curatorSlipGo_of_runs {s : State} (hruns : s.curRuns = true) : exec .curatorSlipGo s = .next s.curGo := congrArg Host.Outcome.next (if_pos hruns)

/-- An I3C write of at least two bytes: the offset, then data into the window (R416). -/
theorem exec_i3cPrivateWrite_of_addressed {s : State} {n : BitVec 7} (haddr : s.slips.i3cAddr = some n) (a b : BitVec 8) (l : List (BitVec 8)) :
    exec (.i3cPrivateWrite (a :: b :: l)) s = .next { s with slips := { s.slips with
      i3c := s.slips.i3c.write (ofBytes [a.toNat, b.toNat]) l.length (ofBytes (l.map (·.toNat)))
      i3cOff := ofBytes [a.toNat, b.toNat] } } := by
  have htaken : ¬(s.slips.i3cAddr.isNone = true ∨ (a :: b :: l).length < 2) := by
    simp only [haddr, Option.isNone_some, Bool.false_eq_true, false_or, List.length_cons]
    omega
  have hlen : ((a :: b :: l).map (·.toNat)).length - 2 = l.length := by simp only [List.map_cons, List.length_cons, List.length_map]; omega
  show execI3cPrivateWrite (a :: b :: l) s = _
  rw [execI3cPrivateWrite, if_neg htaken]
  dsimp only
  rw [hlen]
  rfl

/-! ### The Keeper's turn -/

/-- The Keeper's turn (R417). -/
def slipTurn (e : SlipEnv) (s : State) : State :=
  match s.slips.inHand with
  | some w => s.visit opRow w.slip.t.num e
  | none => match s.nextTurn with
    | none => s
    | some t => State.visit { s with slips := { s.slips with turn := afterTurn t } } opRow t e

theorem exec_keeperSlipTurn (e : SlipEnv) (s : State) : exec (.keeperSlipTurn e) s = .next (s.keeper (.keeperSlipTurn e) (slipTurn e)) := rfl

theorem slipTurn_of_inHand {s : State} {w : Work} (hw : s.slips.inHand = some w) (e : SlipEnv) : slipTurn e s = s.runSlip (opRow w.slip.opcode) w e := by
  simp only [slipTurn, hw, visit_of_inHand hw]

section
variable {s : State} (hnone : s.slips.inHand = none)
include hnone

theorem slipTurn_of_next {t : Nat} (hturn : s.nextTurn = some t) (e : SlipEnv) :
    slipTurn e s = State.visit { s with slips := { s.slips with turn := afterTurn t } } opRow t e := by
  simp only [slipTurn, hnone, hturn]

theorem slipTurn_of_nothing (hturn : s.nextTurn = none) (e : SlipEnv) : slipTurn e s = s := by
  simp only [slipTurn, hnone, hturn]

end

section
variable {e : SlipEnv} {s v u : State} {r : Run} (hfree : s.keeperFree (.keeperSlipTurn e) = true) (hv : v = s.keeperStart (.keeperSlipTurn e))
  (hr : r = RunOf v svcStop 0 (.keeperSlipTurn e)) (hu : u = AtWork v r)
include hfree hv hr hu

/-- The turn ends with what it has made of the state. -/
theorem ends_keeperSlipTurn {t : State} (ht : slipTurn e u = t) : Ends (.keeperSlipTurn e) s r t := by
  subst hu ht
  exact exec_of_keeper_answered (exec_keeperSlipTurn e s) hfree hv hr

end

/-- Beginning the turn changes no slip in hand. -/
theorem inHand_keeperSlipTurn {e : SlipEnv} {s v u : State} {r : Run} (hv : v = s.keeperStart (.keeperSlipTurn e)) (hu : u = AtWork v r) :
    u.slips.inHand = s.slips.inHand := by rw [hu, atWork_inHand, hv, keeperStart_inHand]

/-! ### Operations that were started -/

/-- The operation with a number is over. -/
def withoutStarted (s : State) (id : Nat) : State := { s with slips := { s.slips with started := s.slips.started.filter (fun y => y.id != id) } }

section
variable {id : BitVec 8} {s : State} {x : Started} (hfault : s.kpr.faulted = false) (hx : s.slips.started.find? (fun x => x.id == id.toNat) = some x)
include hfault hx

/-- A Survey that was started is over with its mode (R419, R469). -/
theorem exec_startedOperationDone_of_survey (hop : x.opcode ≠ 0x0201) (hmode : s.mode ≠ 6) (htarget : s.pw.target ≠ some 6) :
    exec (.startedOperationDone id) s = .next (withoutStarted s id.toNat) := by
  have hover : ¬(s.mode = 6 ∨ s.pw.target = some 6) := not_or_intro hmode htarget
  show Host.Outcome.next (s.startedDone id.toNat) = _
  simp only [State.startedDone, hfault, hx, hop, hover, Bool.false_eq_true, if_false]
  rfl

section
variable (hop : x.opcode = 0x0201) {u : State}
include hop

/-- A teardown is over once nothing binds its world (R422). -/
theorem exec_startedOperationDone_of_destroyed (hdone : s.destroyWorld x.wid = (true, u)) : exec (.startedOperationDone id) s =
    .next { u with slips := { u.slips with
      started := u.slips.started.filter (fun y => y.id != id.toNat)
      destroying := u.slips.destroying.filter (· != x.wid) } } := by
  show Host.Outcome.next (s.startedDone id.toNat) = _
  simp only [State.startedDone, hfault, hx, hop, hdone, Bool.false_eq_true, if_false, if_true]

/-- A teardown that something still binds goes on. -/
theorem exec_startedOperationDone_of_bound (hdone : s.destroyWorld x.wid = (false, u)) : exec (.startedOperationDone id) s = .next u := by
  show Host.Outcome.next (s.startedDone id.toNat) = _
  simp only [State.startedDone, hfault, hx, hop, hdone, Bool.false_eq_true, if_false, if_true]

end

end

/-- Settles O39: each transport's own hand-over, the Keeper's turn by what it finds, and a started operation by whether it is over. -/
theorem slipTransports : Obligations.SlipTransports := by
  refine ⟨fun _ _ v _ hx hwid => exec_slipBell_of_own hx hwid v, fun _ hruns => exec_curatorSlipGo_of_runs hruns, fun _ => rfl,
    fun a b l _ _ haddr => exec_i3cPrivateWrite_of_addressed haddr a b l, fun _ _ => rfl, ?turn, fun e s hbusy => ?busy, ?started, fun _ _ => rfl, fun _ => rfl,
    fun _ _ => rfl⟩
  case turn =>
    intro e s v u r hfree hv hr hu
    have hhand := inHand_keeperSlipTurn hv hu
    exact ⟨fun w hw => ends_keeperSlipTurn hfree hv hr hu (slipTurn_of_inHand (hhand.trans hw) e),
      fun t hnone hturn => ends_keeperSlipTurn hfree hv hr hu (slipTurn_of_next (hhand.trans hnone) hturn e),
      fun hnone hturn => ends_keeperSlipTurn hfree hv hr hu (slipTurn_of_nothing (hhand.trans hnone) hturn e)⟩
  case busy => rw [exec_keeperSlipTurn, keeper_of_not_free hbusy]
  case started =>
    intro id s x hfault hx
    exact ⟨exec_startedOperationDone_of_survey hfault hx, fun _ hop hdone => exec_startedOperationDone_of_destroyed hfault hx hop hdone,
      fun _ hop hdone => exec_startedOperationDone_of_bound hfault hx hop hdone⟩

end Sys2Proof.Proofs
end

section
/-! SUPPORT. The Curator and the watchdogs (R379, R381, R384 to R386, R403, R405): what a running Curator does, what ends its flash commands, and what an expiry of a watchdog finds. A command of
the Curator is an agent's command (log entry 26); a Keeper restart clears ATTEST_READY (log entry 68). -/
namespace Sys2Proof.Proofs

open Sys2Proof.Machine Sys2Proof.Laws

/-- A served command ends with what its meaning makes of the state. -/
theorem ends_of_served {c : Instr} {s v u : State} {stop ep : Nat} {f : State → State} {r : Run} (hserved : Served c s v stop ep f) (hr : r = RunOf v stop ep c)
    (hu : f (AtWork v r) = u) : Ends c s r u := by
  obtain ⟨hend, -, -⟩ := hserved r u hr hu.symm
  exact hend

/-! ### Writes of the Keeper -/

section
variable {w : Issuer} {s : State} (hwid : s.issuerWid w = 0)
include hwid

theorem exec_curatorRunWrite_of_may (v : Word) : exec (.curatorRunWrite w v) s = .next ((s.curCtrlWrite v allBytes).accept w svcStop) := by
  show execCuratorRunWrite w v s = _
  exact keeperOnly_of_may hwid svcStop _

theorem exec_keeperWdtKick_of_may (v : Word) : exec (.keeperWdtKick w v) s = .next ((s.kprWdtWrite v allBytes).accept w svcStop) := by
  show execKeeperWdtKick w v s = _
  exact keeperOnly_of_may hwid svcStop _

end

/-! ### A running Curator -/

section
variable {s : State} (hruns : s.curRuns = true)
include hruns

theorem exec_curWdtKick_of_runs (key : BitVec 32) : exec (.curWdtKick key) s = .next (s.curKick key.toNat) := congrArg Host.Outcome.next (if_pos hruns)

theorem exec_flashProgram_of_runs (src : BitVec 9) : exec (.flashProgram src) s = .next (s.flashCmd 1 src.toNat) := congrArg Host.Outcome.next (if_pos hruns)

theorem exec_flashEraseSector_of_runs : exec .flashEraseSector s = .next (s.flashCmd 2 0) := congrArg Host.Outcome.next (if_pos hruns)

theorem exec_flashEraseBlock_of_runs : exec .flashEraseBlock s = .next (s.flashCmd 3 0) := congrArg Host.Outcome.next (if_pos hruns)

/-- An enabled timer that has come ends a wait (R385). -/
theorem exec_curatorTimerMatch_of_due (hdue : s.curCmp ≤ s.mtime) (hen : (s.curCsr 0x304).getLsbD 7 = true) :
    exec .curatorTimerMatch s = .next { s with cur := { s.cur with waiting := false } } :=
  congrArg Host.Outcome.next (if_pos (by simp only [hruns, hdue, hen, decide_true, Bool.and_self]))

section
variable (hfree : s.agentWaits svcStop 1 = false) (hie : (s.curCsr 0x300).getLsbD 3 = true)
include hfree hie

/-- At a boundary with interrupts on, the external interrupt comes before the timer's (R384). -/
theorem exec_curatorInterrupt_of_external (hext : (s.curMip &&& s.curCsr 0x304).getLsbD 11 = true) :
    exec .curatorInterrupt s = .next (s.curTrap 11 true 0 s.cur.pc) := by
  show execCuratorInterrupt s = _
  simp only [execCuratorInterrupt, hruns, hfree, hie, hext, Bool.not_true, Bool.or_self, Bool.false_eq_true, if_false, if_true]

theorem exec_curatorInterrupt_of_timer (hext : (s.curMip &&& s.curCsr 0x304).getLsbD 11 = false) (htimer : (s.curMip &&& s.curCsr 0x304).getLsbD 7 = true) :
    exec .curatorInterrupt s = .next (s.curTrap 7 true 0 s.cur.pc) := by
  show execCuratorInterrupt s = _
  simp only [execCuratorInterrupt, hruns, hfree, hie, hext, htimer, Bool.not_true, Bool.or_self, Bool.false_eq_true, if_false, if_true]

end

/-- A first expiry of its watchdog warns (R403). -/
theorem exec_curatorWatchdogExpiry_of_first (hwarned : s.isF F.curStatus_warned 0 0 = false) : exec .curatorWatchdogExpiry s =
    .next ((s.setF F.curStatus_warned 0 0 1).record Ev.watchdog { stop := svcStop, unit := 6, wid := 1 } 1 0) := by
  show execCuratorWatchdogExpiry s = _
  simp only [execCuratorWatchdogExpiry, hruns, hwarned, Bool.not_true, Bool.not_false, Bool.false_eq_true, if_false, if_true]

end

/-! ### Instructions -/

section
variable {x : CurInstr} {s : State} (hfree : s.works.any (fun r => r.stop == svcStop && r.ep == 1 && r.cmd != .curatorInstruction x) = false)
include hfree

theorem curatorInstruction_served : Served (.curatorInstruction x) s s svcStop 1 (fun s => s.curStep x) := by
  refine served_of ?_
  show execCuratorInstruction x s = _
  simp only [execCuratorInstruction, hfree, Bool.false_eq_true, if_false]

end

/-- The bytes of an instruction. -/
def instrBytes (x : CurInstr) : Nat := if x.short then 2 else 4

/-- The Curator with its wait over. -/
def curAwake (s : State) : State := { s with cur := { s.cur with waiting := false } }

section
variable {x : CurInstr} {v t : State} (hruns : v.curRuns = true) (hawake : v.cur.waiting = false ∨ v.curMip &&& v.curCsr 0x304 ≠ 0)
include hruns hawake

/-- A Curator that runs and does not wait steps. -/
theorem curStep_awake : (v.curRuns && (!v.cur.waiting || (v.curMip &&& v.curCsr 0x304) != 0)) = true := by
  obtain hgoes | hpending := hawake
  · rw [hruns, hgoes, Bool.not_false, Bool.true_or, Bool.and_self]
  · rw [hruns, bne_iff_ne.mpr hpending, Bool.or_true, Bool.and_self]

/-- An instruction that is fetched executes. -/
theorem curStep_of_fetched (hfetch : (curAwake v).curFetch v.cur.pc.toNat (instrBytes x) = (true, t)) :
    v.curStep x = t.curExec v.cur.pc (v.cur.pc + BitVec.ofNat 32 (instrBytes x)) x.kind := by
  unfold curAwake instrBytes at hfetch
  simp only [State.curStep, curStep_awake hruns hawake, hfetch, Bool.not_true, Bool.false_eq_true, if_false, if_true]
  rfl

/-- An instruction that cannot be fetched faults (R379, R382). -/
theorem curStep_of_not_fetched (hfetch : (curAwake v).curFetch v.cur.pc.toNat (instrBytes x) = (false, t)) :
    v.curStep x = t.curTrap 1 false v.cur.pc v.cur.pc := by
  unfold curAwake instrBytes at hfetch
  simp only [State.curStep, curStep_awake hruns hawake, hfetch, Bool.not_true, Bool.false_eq_true, if_false]

end

/-! ### The flash -/

/-- What a flash command that works does to the flash (R381). -/
def flashDone (s : State) (f : FlashOp) : State :=
  (if f.program then s.flashProgram f.addr (f.data.map (·.toNat)) else s.flashErase f.addr f.size).dropLines f.addr f.size

theorem exec_flashCommandDone_of_works {s : State} {f : FlashOp} (hf : s.cur.flash = some f) : exec (.flashCommandDone true) s =
    .next ((State.setF { flashDone s f with cur := { (flashDone s f).cur with flash := none, flashDone := true } } F.curFlashStatus_busy 0 0 0).flashResult 0) := by
  show execFlashCommandDone true s = _
  simp only [execFlashCommandDone, hf, Bool.not_true, Bool.false_eq_true, if_false, if_true]
  rfl

/-! ### The Keeper's watchdog -/

/-- A second expiry: the restart is counted and recorded, and attestation is not ready (log entry 68). -/
def keeperExpired (s : State) : State :=
  State.record (((State.setF { s with kpr := { s.kpr with restarts := recentRestarts s.kpr.restarts s.mtime } } F.kprWdt_warned 0 0 0).incSat
    F.kprStatus_restarts 0 0).setF F.kprStatus_attestReady 0 0 0) Ev.watchdog srcKeeper 0 1

/-- The slip in hand will be answered RESTARTED (R406, R417). -/
def slipRestarted (s : State) : State :=
  { s with slips := { s.slips with inHand := s.slips.inHand.map (fun w => { w with restarted := true }), restarting := true } }

section
variable {s : State} (hmode : s.mode ≠ 0) (hreset : s.pw.inReset = false)
include hmode hreset

theorem exec_keeperWatchdogExpiry_of_first (hwarned : s.isF F.kprWdt_warned 0 0 = false) :
    exec .keeperWatchdogExpiry s = .next ((s.setF F.kprWdt_warned 0 0 1).record Ev.watchdog srcKeeper 0 0) := by
  show execKeeperWatchdogExpiry s = _
  simp only [execKeeperWatchdogExpiry, hmode, hreset, hwarned, Bool.false_eq_true, or_self, if_false, Bool.not_false, if_true]

/-- A second expiry restarts the Keeper, and the third restart in 10 s is fatal. -/
theorem exec_keeperWatchdogExpiry_of_second (hwarned : s.isF F.kprWdt_warned 0 0 = true) : exec .keeperWatchdogExpiry s =
    .next (if 3 ≤ (recentRestarts s.kpr.restarts s.mtime).length then (slipRestarted (keeperExpired s)).fatal Fatal.keeperRestarts
      else (slipRestarted (keeperExpired s)).keeperRestart) := by
  show execKeeperWatchdogExpiry s = _
  simp only [execKeeperWatchdogExpiry, hmode, hreset, hwarned, Bool.false_eq_true, or_self, if_false, Bool.not_true]
  rfl

end

/-- A world but WID 1 writes its own consent (R405). -/
theorem exec_debugConsentWrite_of_may {w : Issuer} {s : State} (hwid : s.issuerWid w ≠ 1) (v : Word) :
    exec (.debugConsentWrite w v) s = .next ((s.consentWrite (s.issuerWid w) v allBytes).accept w svcStop) := by
  show execDebugConsentWrite w v s = _
  rw [execDebugConsentWrite, bne_iff_ne.mpr hwid, guarded_of_may]

/-- Settles O34: a running Curator's commands, its instruction as an agent's command, the flash by the command that ends, and the watchdogs by what has expired before. -/
theorem curatorAndWatchdog : Obligations.CuratorAndWatchdog := by
  refine ⟨fun _ v _ hwid => exec_curatorRunWrite_of_may hwid v, ?runs, fun _ _ hfree => curatorInstruction_served hfree, ?instruction, ?erase, ?program,
    fun _ v _ hwid => exec_keeperWdtKick_of_may hwid v, fun _ hmode hreset hwarned => exec_keeperWatchdogExpiry_of_first hmode hreset hwarned, ?restart, ?fatal,
    fun _ v _ hwid => exec_debugConsentWrite_of_may hwid v⟩
  case runs =>
    exact fun s hruns => ⟨exec_curWdtKick_of_runs hruns, exec_flashProgram_of_runs hruns, exec_flashEraseSector_of_runs hruns, exec_flashEraseBlock_of_runs hruns,
      exec_curatorTimerMatch_of_due hruns, exec_curatorInterrupt_of_external hruns, exec_curatorInterrupt_of_timer hruns,
      exec_curatorWatchdogExpiry_of_first hruns⟩
  case instruction =>
    intro x s v s1 r hfree hr hv hruns hawake
    subst hv
    exact ⟨fun hfetch => ends_of_served (curatorInstruction_served hfree) hr (curStep_of_fetched hruns hawake hfetch),
      fun hfetch => ends_of_served (curatorInstruction_served hfree) hr (curStep_of_not_fetched hruns hawake hfetch)⟩
  case erase =>
    intro s f hf herase
    rw [exec_flashCommandDone_of_works hf, flashDone, herase, if_neg Bool.false_ne_true]
  case program =>
    intro s f hf hprogram
    rw [exec_flashCommandDone_of_works hf, flashDone, hprogram, if_pos rfl]
  case restart =>
    intro s s2 hmode hreset hwarned hfew hs2
    rw [exec_keeperWatchdogExpiry_of_second hmode hreset hwarned, if_neg (Nat.not_le.mpr hfew), hs2]
    rfl
  case fatal =>
    intro s s2 hmode hreset hwarned hmany hs2
    rw [exec_keeperWatchdogExpiry_of_second hmode hreset hwarned, if_pos hmany, hs2]
    rfl

end Sys2Proof.Proofs
end

section
/-! SUPPORT. Resets and rails (R392, R396, R493, R533 to R537, R540): what a reset finds, what the always-on island keeps, and what a lost rail leaves. A short pulse's note is log entry 62, when
RESET_N is ignored and what PWRGOOD releases are log entries 97 and 99; step 8 of the boot chain is a command of an agent (log entries 26 and 148). -/
namespace Sys2Proof.Proofs

open Sys2Proof.Machine Sys2Proof.Laws

/-! ### Resets -/

theorem exec_coldReset_of_off {x : BootEnv} {s : State} (hresumes : s.bootResumes (.coldReset x) = false) (hgood : s.pw.pwrgood = true)
    (hoff : s.mode = 0 ∨ s.pw.inReset = true ∨ s.getF F.kprStatus_bootStage 0 0 = 0) :
    exec (.coldReset x) s = .next ((State.coldReset s x).bootOn (.coldReset x)) := by
  show execColdReset x s = _
  rw [execColdReset, hresumes, if_neg Bool.false_ne_true, if_pos ⟨hgood, hoff⟩]

section
variable {x : BootEnv} {s : State} (hignored : s.warmIgnored = false)
include hignored

theorem exec_resetNFall_of_long (hresumes : s.bootResumes (.resetNFall true x) = false) :
    exec (.resetNFall true x) s = .next ((State.warmReset s x).bootOn (.resetNFall true x)) := by
  show execResetNFall true x s = _
  simp only [execResetNFall, hresumes, hignored, Bool.false_eq_true, if_false, if_true]

/-- A short pulse is noted and resets nothing (log entry 62). -/
theorem exec_resetNFall_of_short (hresumes : s.bootResumes (.resetNFall false x) = false) :
    exec (.resetNFall false x) s = .next { s with pw := { s.pw with notes := s.pw.notes ++ [(3, 0)] } } := by
  show execResetNFall false x s = _
  simp only [execResetNFall, hresumes, hignored, Bool.false_eq_true, if_false]

end

theorem exec_warmResetDelayExpiry_of_asked {x : BootEnv} {s : State} {y : Nat} (hwarm : s.pw.warm = some y) (hresumes : s.bootResumes (.warmResetDelayExpiry x) = false) :
    exec (.warmResetDelayExpiry x) s = .next ((State.warmReset s x).bootOn (.warmResetDelayExpiry x)) := by
  show execWarmResetDelayExpiry x s = _
  simp only [execWarmResetDelayExpiry, hresumes, hwarm, Option.isSome_some, Bool.false_eq_true, if_false, if_true]

/-- A command of the boot chain goes on with it where it waits for answers. -/
theorem exec_of_boot_resumes {x : BootEnv} {c : Instr} {s : State} (hc : c = .coldReset x ∨ c = .resetNFall true x ∨ c = .warmResetDelayExpiry x)
    (hresumes : s.bootResumes c = true) : exec c s = .next (s.bootOn c) := by
  obtain rfl | rfl | rfl := hc
  · exact if_pos hresumes
  · exact if_pos hresumes
  · exact if_pos hresumes

theorem bootRest_served {x : BootEnv} {c : Instr} {s : State} {m : Nat} (hc : c = .coldReset x ∨ c = .resetNFall true x ∨ c = .warmResetDelayExpiry x)
    (hresumes : s.bootResumes c = true) (hbooting : s.kpr.booting = some m) : Served c s s svcStop 0 (fun s => s.bootRest m) := by
  refine served_of ?_
  rw [exec_of_boot_resumes hc hresumes, State.bootOn, hbooting]

/-! ### What the recorder and the calendar leave of ANL_STATUS -/

theorem getF_setRegWord_name {r : RegName} {f : Fld} (hr : f.reg ≠ r) (s : State) (u i u' i' : Nat) (v : Word) : (s.setRegWord r u i v).getF f u' i' = s.getF f u' i' :=
  getF_congr (regWord_setRegWord_name _ _ _ _ _ _ _ _ hr)

/-- The recorder writes no field of ANL_STATUS above HELD. -/
theorem getF_annSync_above {f : Fld} (hr : f.reg = .anlStatus) (habove : 30 ≤ f.lsb) (s : State) : s.annSync.getF f 0 0 = s.getF f 0 0 := by
  have hnext : f.reg ≠ F.anlNextSeq_seq.reg := by
    rw [hr]
    decide
  have husedEnd : F.anlStatus_used.lsb + F.anlStatus_used.width ≤ f.lsb := Nat.le_trans (by decide) habove
  have huncommittedEnd : F.anlStatus_uncommitted.lsb + F.anlStatus_uncommitted.width ≤ f.lsb := Nat.le_trans (by decide) habove
  have hheldEnd : F.anlStatus_held.lsb + F.anlStatus_held.width ≤ f.lsb := Nat.le_trans (by decide) habove
  have hfrozenEnd : F.anlStatus_frozen.lsb + F.anlStatus_frozen.width ≤ f.lsb := Nat.le_trans (by decide) habove
  unfold State.annSync
  rw [getF_setF_name _ _ _ _ _ _ _ _ hnext, getF_setF_field _ _ _ _ _ _ hr (.inl hfrozenEnd), getF_setF_field _ _ _ _ _ _ hr (.inl hheldEnd),
    getF_setF_field _ _ _ _ _ _ hr (.inl huncommittedEnd), getF_setF_field _ _ _ _ _ _ hr (.inl husedEnd)]

theorem isF_annSync_timeUnset (s : State) : s.annSync.isF F.anlStatus_timeUnset 0 0 = s.isF F.anlStatus_timeUnset 0 0 :=
  congrArg (· == 1) (getF_annSync_above rfl (by decide) s)

/-! ### The always-on rail -/

/-- The calendar starts at 0, unset (R497). -/
def calendarCleared (s : State) : State := ((s.setF F.anlStatus_timeUnset 0 0 1).setRegWord .anlCalendar 0 0 0).annSync

section
variable (s : State)

theorem calendarCleared_pw : (calendarCleared s).pw = s.pw := by simp only [calendarCleared, State.annSync, setF_pw, setRegWord_pw]
theorem calendarCleared_bootCount : (calendarCleared s).bootCount = s.bootCount := by simp only [calendarCleared, State.annSync, setF_bootCount, setRegWord_bootCount]
theorem calendarCleared_annals : (calendarCleared s).annals = s.annals := by simp only [calendarCleared, State.annSync, setF_annals, setRegWord_annals]
theorem calendarCleared_mem : (calendarCleared s).mem = s.mem := by simp only [calendarCleared, State.annSync, setF_mem, setRegWord_mem]

theorem calendarCleared_timeUnset : (calendarCleared s).isF F.anlStatus_timeUnset 0 0 = true := by
  rw [calendarCleared, isF_annSync_timeUnset]
  refine (congrArg (· == 1) (getF_setRegWord_name (by decide) ..)).trans ?_
  exact isF_setF_same s F.anlStatus_timeUnset 0 0 1 (by decide)

theorem calendarCleared_calendar : (calendarCleared s).regWord .anlCalendar 0 0 = 0 := by
  rw [calendarCleared, regWord_annSync (by decide), regWord_setRegWord_same]

/-- The fields of ANL_STATUS above TIME_UNSET stand. -/
theorem getF_calendarCleared_above {f : Fld} (hr : f.reg = .anlStatus) (habove : 31 ≤ f.lsb) : (calendarCleared s).getF f 0 0 = s.getF f 0 0 := by
  have hcalendar : f.reg ≠ .anlCalendar := by
    rw [hr]
    decide
  rw [calendarCleared, getF_annSync_above hr (by omega), getF_setRegWord_name hcalendar, getF_setF_field _ F.anlStatus_timeUnset f _ _ _ hr (.inl habove)]

end

/-- The island as its rail's first rise finds it: the archive alone, and nothing noted. -/
def islandEmptied (s : State) : State := { s with annals := { archive := s.annals.archive }, bootCount := 0, pw := { s.pw with vaon := true, notes := [] } }

/-- The device with its always-on rail lost: what the island held is gone (R493, R497). -/
def islandLost (s : State) (testMode : Bool) : State :=
  { s with annals := { archive := s.annals.archive }, bootCount := 0, slips := {}, kpr := {}, ledger := { s.ledger with held := [] },
           pw := { vaon := false, pwrgood := false, resetN := false, testMode := testMode } }

/-- FATAL_CAUSE and the count of fatal errors are lost with the island (R493). -/
def fatalForgotten (s : State) : State := (s.setF F.anlStatus_fatalCause 0 0 0).setF F.anlStatus_fatalCount 0 0 0

theorem fatalForgotten_fatalCause (s : State) : (fatalForgotten s).getF F.anlStatus_fatalCause 0 0 = 0 := by
  rw [fatalForgotten, getF_setF_field _ F.anlStatus_fatalCount F.anlStatus_fatalCause _ _ _ rfl (.inr (by decide)), getF_setF_same _ _ _ _ _ (by decide), Nat.zero_mod]

theorem fatalForgotten_fatalCount (s : State) : (fatalForgotten s).getF F.anlStatus_fatalCount 0 0 = 0 := by
  rw [fatalForgotten, getF_setF_same _ _ _ _ _ (by decide), Nat.zero_mod]

theorem fatalForgotten_pw (s : State) : (fatalForgotten s).pw = s.pw := by simp only [fatalForgotten, setF_pw]
theorem fatalForgotten_bootCount (s : State) : (fatalForgotten s).bootCount = s.bootCount := by simp only [fatalForgotten, setF_bootCount]

theorem exec_vaonApplied_first (s : State) : exec (.vaonApplied true) s = .next (calendarCleared (islandEmptied s)) := by
  show execVaonApplied true s = _
  rw [execVaonApplied, if_pos rfl]
  rfl

theorem exec_vaonLoss (s : State) : exec .vaonLoss s = .next (calendarCleared (fatalForgotten (islandLost (s.railsLost 6) s.pw.testMode))) := rfl

theorem exec_lossOfRails (s : State) : exec .lossOfRails s = .next (withPower (s.railsLost 0) { (s.railsLost 0).pw with pwrgood := false }) := rfl

/-- What a rail does leaves the fuses (R390). -/
theorem fuses_of_exec {c : Instr} {s t : State} (hexec : exec c s = .next t) (hbase : obase (base s) (exec c s) = base s) : t.fuses = s.fuses := by
  refine fuses_of_base ?_
  rw [← obase_next (base s) t, ← hexec, hbase]

/-! ### The keys of attestation -/

/-- ALIAS_KEYS_READY makes attestation ready in a booted device (R396). -/
theorem exec_aliasKeysReady_of_booted {s : State} (hreset : s.pw.inReset = false) (hmode : s.mode ≠ 0) (hfrom : 9 ≤ s.getF F.kprStatus_bootStage 0 0)
    (hto : s.getF F.kprStatus_bootStage 0 0 ≤ 11) : exec .aliasKeysReady s = .next (s.setF F.kprStatus_attestReady 0 0 1) := by
  refine congrArg Host.Outcome.next (if_neg ?_)
  simp only [hreset, hmode, Bool.false_eq_true, false_or]
  omega

/-- Settles O33: what a reset does by what it finds, the boot chain as a command that memory answers, the always-on island by its fields, and the rails by PWRGOOD. -/
theorem resetsAndRails : Obligations.ResetsAndRails := by
  refine ⟨fun _ _ hresumes hgood hoff => exec_coldReset_of_off hresumes hgood hoff, ?pulse, fun _ _ _ hwarm hresumes => exec_warmResetDelayExpiry_of_asked hwarm hresumes,
    fun _ _ _ _ hc hresumes hbooting => bootRest_served hc hresumes hbooting, ?applied, ?lost, ?rails, fun _ _ hgood => congrArg Host.Outcome.next (if_pos hgood), ?rise,
    ?alert, ?keys⟩
  case pulse => exact fun _ _ hignored => ⟨exec_resetNFall_of_long hignored, exec_resetNFall_of_short hignored⟩
  case applied =>
    intro s
    refine ⟨_, exec_vaonApplied_first s, ?_, ?_, ?_, calendarCleared_timeUnset _, calendarCleared_calendar _, ?_, fuses_of_exec (exec_vaonApplied_first s) (base_execVaonApplied true s)⟩
    · rw [calendarCleared_pw, islandEmptied]
    · rw [calendarCleared_bootCount, islandEmptied]
    · rw [calendarCleared_annals, islandEmptied]
    · rw [calendarCleared_mem, islandEmptied]
  case lost =>
    intro s
    refine ⟨_, exec_vaonLoss s, ?_, ?_, ?_, calendarCleared_timeUnset _, ?_, ?_, fuses_of_exec (exec_vaonLoss s) (base_execVaonLoss s)⟩
    · rw [calendarCleared_pw, fatalForgotten_pw, islandLost]
    · rw [calendarCleared_pw, fatalForgotten_pw, islandLost]
    · rw [calendarCleared_bootCount, fatalForgotten_bootCount, islandLost]
    · rw [getF_calendarCleared_above _ rfl (by decide), fatalForgotten_fatalCause]
    · rw [getF_calendarCleared_above _ rfl (by decide), fatalForgotten_fatalCount]
  case rails => exact fun s => ⟨_, exec_lossOfRails s, congrArg Power.pwrgood (withPower_pw ..), fuses_of_exec (exec_lossOfRails s) (base_execLossOfRails s)⟩
  case rise =>
    intro s hgood
    exact if_neg (hgood ▸ Bool.false_ne_true)
  case alert =>
    intro st s hmode hreset
    show execPmbAlert st s = _
    simp only [execPmbAlert, hmode, hreset, Bool.false_eq_true, or_self, if_false]
  case keys =>
    intro s hreset hmode hfrom hto
    exact ⟨_, exec_aliasKeysReady_of_booted hreset hmode hfrom hto, isF_setF_same s _ 0 0 1 (by decide), fun _ _ _ hr => regWord_setF_name hr .., setF_mem ..⟩

end Sys2Proof.Proofs
end

section
/-! SUPPORT. Registers, scans and windows of the data engines (R326, R328, R329, R346, R347, R350): who writes a channel's registers, what ends its reset, and what a start time of a scan finds.
The end of a reset is a command that memory answers (log entry 26), and one that waits changes nothing (log entry 1). -/
namespace Sys2Proof.Proofs

open Sys2Proof.Machine Sys2Proof.Laws

/-! ### Writes of a channel's page -/

/-- A write that its issuer may make of a block that answers is made and answered. -/
theorem guardedAt_of_may {s : State} {p : Place} {u : Nat} {w : Issuer} {may : Bool} (hreach : s.reachable p u = true) (hmay : may = true) (f : State → State) :
    s.guardedAt w p u may f = .next ((f s).accept w (p.stopOf u)) := by
  rw [guardedAt_of_reachable hreach, hmay, guarded_of_may]

/-- The shares that an engine's enabled channels are guaranteed (R326). -/
def shareSum (s : State) (e : Nat) : Nat := (List.range 32).foldl (fun a i => a + if s.chanOn e i then s.getF F.deChCfg_minShare e i else 0) 0

/-- A configuration that moves no channel and guarantees at most 48 is taken; a channel that it disables stops. -/
theorem exec_deChCfgWrite_of_may {w : Issuer} {de : Fin 2} {ch : Fin 32} {v : Word} {s s1 : State} (hreach : s.reachable .de de.val = true) (hwid : s.issuerWid w = 0)
    (hs1 : s1 = s.writeReg .deChCfg de.val ch.val v allBytes) (hworld : s1.chanWid de.val ch.val = s.chanWid de.val ch.val)
    (hinstance : s1.getF F.deChCfg_instance de.val ch.val = s.getF F.deChCfg_instance de.val ch.val) (hshare : shareSum s1 de.val ≤ 48) :
    exec (.deChCfgWrite w de ch v) s = .next ((if s.chanOn de.val ch.val && !s1.chanOn de.val ch.val then s1.chanStop de.val ch.val
      else s1.chanSync de.val ch.val).accept w (Place.de.stopOf de.val)) := by
  subst hs1
  have hfits : ¬ 48 < shareSum (s.writeReg .deChCfg de.val ch.val v allBytes) de.val := Nat.not_lt.mpr hshare
  unfold shareSum at hfits
  show execDeChCfgWrite w de ch v s = _
  rw [execDeChCfgWrite, keeperAt_of_may hreach hwid]
  simp only [hworld, hinstance, hfits, bne_self_eq_false, Bool.or_self, Bool.false_and, decide_false, Bool.false_eq_true, if_false]

section
variable {w : Issuer} {de : Fin 2} {ch : Fin 32} {s : State} (hreach : s.reachable .de de.val = true) (hmay : s.chanMay w de.val ch.val = true)
include hreach hmay

theorem exec_deChTailWrite_of_may (v : Word) :
    exec (.deChTailWrite w de ch v) s = .next (((s.tailWrite (deRing de.val ch.val) v).chanSync de.val ch.val).accept w (Place.de.stopOf de.val)) := by
  show execDeChTailWrite w de ch v s = _
  rw [execDeChTailWrite, guardedAt_of_may hreach hmay]

theorem exec_deChCplHeadWrite_of_may (v : Word) :
    exec (.deChCplHeadWrite w de ch v) s = .next ((s.cplHeadWrite (deRing de.val ch.val) v).accept w (Place.de.stopOf de.val)) := by
  show execDeChCplHeadWrite w de ch v s = _
  rw [execDeChCplHeadWrite, guardedAt_of_may hreach hmay]

theorem exec_deChRingWrite_of_may (v : Word) (cpl : Bool) :
    exec (.deChRingWrite w de ch cpl v) s = .next ((s.ringWrite (deRing de.val ch.val) cpl v).accept w (Place.de.stopOf de.val)) := by
  show execDeChRingWrite w de ch cpl v s = _
  rw [execDeChRingWrite, guardedAt_of_may hreach hmay]

theorem exec_channelReset_of_may : exec (.channelReset w de ch) s = .next ((s.chanReset de.val ch.val).accept w (Place.de.stopOf de.val)) := by
  show execChannelReset w de ch s = _
  rw [execChannelReset, guardedAt_of_may hreach hmay]

end

/-! ### The end of a reset -/

theorem channelResetComplete_served {de : Fin 2} {ch : Fin 32} {s : State} (hreset : s.rState (deRing de.val ch.val) = 3) (hwaits : s.chanWaits de.val ch.val = false) :
    Served (.channelResetComplete de ch) s s (deStop de.val) 0 (fun s => s.chanFresh de.val ch.val) := by
  refine served_of ?_
  show execChannelResetComplete de ch s = _
  simp only [execChannelResetComplete, hreset, hwaits, ne_eq, not_true_eq_false, Bool.false_eq_true, or_self, if_false]

theorem exec_channelResetComplete_of_waits {de : Fin 2} {ch : Fin 32} {s : State} (hwaits : s.chanWaits de.val ch.val = true) :
    exec (.channelResetComplete de ch) s = .next s := if_pos (.inr hwaits)

/-! ### Scans -/

/-- The Keeper writes a register of a slot that is off, other than its CFG: nothing begins (R346). -/
theorem exec_deScanCfgWrite_of_off {w : Issuer} {de : Fin 2} {slot : Fin 16} {r : Fin 5} {s : State} (hreach : s.reachable .de de.val = true) (hwid : s.issuerWid w = 0)
    (hr : r.val ≠ 0) (hoff : s.isF F.deScanCfg_enable de.val slot.val = false) (v : Word) :
    exec (.deScanCfgWrite w de slot r v) s = .next ((s.writeReg (scanReg r) de.val slot.val v allBytes).accept w (Place.de.stopOf de.val)) := by
  have hkeeper : (s.issuerWid w == 0) = true := beq_iff_eq.mpr hwid
  show execDeScanCfgWrite w de slot r v s = _
  rw [execDeScanCfgWrite, guardedAt_of_may hreach (by rw [hkeeper, Bool.true_or])]
  simp only [hr, hoff, false_and, if_false, Bool.false_eq_true]

section
variable {de : Fin 2} {slot : Fin 16} {s : State} (hen : s.isF F.deScanCfg_enable de.val slot.val = true) (hwatch : s.isF F.deScanCfg_watch de.val slot.val = false)
  (hperiodic : s.isF F.deScanCfg_periodic de.val slot.val = true)
include hen hwatch hperiodic

theorem exec_scanRunStart_of_idle (hidle : s.isF F.deScanStatus_busy de.val slot.val = false) :
    exec (.scanRunStart de slot) s = .next (s.scanBegin de.val slot.val) := by
  show execScanRunStart de slot s = _
  simp only [execScanRunStart, hen, hwatch, hperiodic, hidle, Bool.not_true, Bool.or_self, Bool.false_eq_true, if_false]

/-- A start time that finds the scan running counts an overrun. -/
theorem exec_scanRunStart_of_busy (hbusy : s.isF F.deScanStatus_busy de.val slot.val = true) :
    exec (.scanRunStart de slot) s = .next (s.incSat F.deScanStatus_overruns de.val slot.val) := by
  show execScanRunStart de slot s = _
  simp only [execScanRunStart, hen, hwatch, hperiodic, hbusy, Bool.not_true, Bool.or_self, Bool.false_eq_true, if_false, if_true]

end

/-! ### The fair-share window -/

/-- A new window at an engine: nothing of it is spent (R348, R350). -/
def windowOpened (s : State) (e : Nat) : State :=
  s.setEngine e { s.engine e with
    window := s.mtime
    chans := (s.engine e).chans.foldl (fun (m : Map Chan) (k : Nat × Chan) => m.set {} k.1 { k.2 with used := 0, spent := [0, 0, 0] }) [] }

section
variable (s : State) (e : Nat)

theorem windowOpened_regs : (windowOpened s e).regs = s.regs := setEngine_regs ..
theorem windowOpened_mem : (windowOpened s e).mem = s.mem := setEngine_mem ..
theorem windowOpened_harts : (windowOpened s e).harts = s.harts := setEngine_harts ..
theorem windowOpened_mtime : (windowOpened s e).mtime = s.mtime := getF_congr (regWord_congr (setEngine_fuses ..) (setEngine_regs ..) ..)

theorem windowOpened_window_same : ((windowOpened s e).engine e).window = s.mtime := by
  rw [windowOpened, State.engine, setEngine_engines, get_set_same]

theorem windowOpened_engine_other {i : Nat} (hi : i ≠ e) : (windowOpened s e).engine i = s.engine i := by
  rw [windowOpened, State.engine, setEngine_engines, get_set_other _ _ _ _ _ _ hi, State.engine]

end

theorem exec_deWindowReset (s : State) : exec .deWindowReset s = .next (windowOpened (windowOpened s 0) 1) := rfl

theorem windowOpened_both (s : State) {e : Nat} (he : e < 2) : ((windowOpened (windowOpened s 0) 1).engine e).window = s.mtime := by
  obtain rfl | rfl : e = 0 ∨ e = 1 := by omega
  · rw [windowOpened_engine_other _ _ (by decide), windowOpened_window_same]
  · rw [windowOpened_window_same, windowOpened_mtime]

/-- Settles O28: a channel's writes by who makes them, its reset by what it waits for, a scan by whether it runs, and the window engine by engine. -/
theorem engineControl : Obligations.EngineControl := by
  refine ⟨fun _ _ _ _ _ _ hreach hwid hs1 hworld hinstance hshare => exec_deChCfgWrite_of_may hreach hwid hs1 hworld hinstance hshare, ?page,
    fun _ _ _ hreset hwaits => channelResetComplete_served hreset hwaits, fun _ _ _ hwaits => exec_channelResetComplete_of_waits hwaits,
    fun _ _ _ _ v _ hreach hwid hr hoff => exec_deScanCfgWrite_of_off hreach hwid hr hoff v, ?scan, ?window⟩
  case page =>
    exact fun _ _ _ v _ hreach hmay => ⟨exec_deChTailWrite_of_may hreach hmay v, exec_deChCplHeadWrite_of_may hreach hmay v, exec_deChRingWrite_of_may hreach hmay v,
      exec_channelReset_of_may hreach hmay⟩
  case scan =>
    exact fun _ _ _ hen hwatch hperiodic => ⟨exec_scanRunStart_of_idle hen hwatch hperiodic, exec_scanRunStart_of_busy hen hwatch hperiodic⟩
  case window =>
    exact fun s => ⟨_, exec_deWindowReset s, fun _ he => windowOpened_both s he, (windowOpened_regs ..).trans (windowOpened_regs ..),
      (windowOpened_mem ..).trans (windowOpened_mem ..), (windowOpened_harts ..).trans (windowOpened_harts ..)⟩

end Sys2Proof.Proofs
end

section
/-! SUPPORT. The jobs of the data engines (R328, R332, R338, R341, R343, R348): what a fetch, a dispatch and each operation make of the state once memory has answered. Each is a command of an
agent that goes on with its answers (log entries 26 and 149). -/
namespace Sys2Proof.Proofs

open Sys2Proof.Machine Sys2Proof.Laws

/-! ### Fetching -/

theorem descriptorFetch_served (de : Fin 2) (ch : Fin 32) (s : State) :
    Served (.descriptorFetch de ch) s s (deStop de.val) 0 (fun s => s.fetchDesc de.val ch.val) := served_of rfl

/-- A job as its descriptor is fetched at an index. -/
def fetchedJob (s : State) (index : Nat) (ws : List Word) : Job := { index := index, words := ws, fetched := s.mtime }

/-- A fetched job with the unit that it goes to (R332, R333). -/
def routed (j : Job) : Job := { j with unit := if j.valid then opUnit j.op else .none }

theorem routed_fields (j : Job) : (routed j).index = j.index ∧ (routed j).words = j.words ∧ (routed j).fetched = j.fetched := ⟨rfl, rfl, rfl⟩

section
variable {v t : State} {e c : Nat} (hon : v.chanOn e c = true) (herr : v.rState (deRing e c) ≠ 2) (hreset : v.rState (deRing e c) ≠ 3)
  (hmore : v.rHead (deRing e c) ≠ v.rTail (deRing e c))
include hon herr hreset hmore

/-- A ring that is on, sound and not empty is fetched from. -/
theorem not_fetchHeld : (!v.chanOn e c || v.rState (deRing e c) == 2 || v.rState (deRing e c) == 3 || v.rHead (deRing e c) == v.rTail (deRing e c)) = false := by
  rw [hon, beq_eq_false_iff_ne.mpr herr, beq_eq_false_iff_ne.mpr hreset, beq_eq_false_iff_ne.mpr hmore]
  rfl

/-- A descriptor that is read is queued, and the head advances (R328). -/
theorem fetchDesc_of_read {ws : List Word} (hread : v.descriptor (deRing e c) (v.chanWid e c) (v.rHead (deRing e c)) = (some ws, t)) : v.fetchDesc e c =
    ((t.modChan e c (fun k => { k with jobs := k.jobs ++ [routed (fetchedJob v (v.rHead (deRing e c)) ws)] })).setRHead (deRing e c) (v.rHead (deRing e c) + 1)).chanSync e c := by
  simp only [State.fetchDesc, not_fetchHeld hon herr hreset hmore, hread, Bool.false_eq_true, if_false]
  rfl

/-- A descriptor that cannot be read errors the ring (R328). -/
theorem fetchDesc_of_unread (hread : v.descriptor (deRing e c) (v.chanWid e c) (v.rHead (deRing e c)) = (none, t)) :
    v.fetchDesc e c = (t.setF F.deChStatus_fetchErr e c 1).setRState (deRing e c) 2 := by
  simp only [State.fetchDesc, not_fetchHeld hon herr hreset hmore, hread, Bool.false_eq_true, if_false]

end

/-! ### Dispatch -/

theorem jobDispatch_served (de : Fin 2) (t : UnitType) (s : State) :
    Served (.jobDispatch de t) s (s.dispatch de.val t) (deStop de.val) 0 (fun s => s.enginePump de.val) := served_of rfl

/-- A job that runs from now, its cost against its channel's quota (R348, R350). -/
def jobStarted (s : State) (e c : Nat) (j : Job) : State :=
  (s.modJob e c j (fun _ => { j with ran := some s.mtime })).modChan e c (fun k => { k with used := k.used + j.cost })

theorem jobStarted_works (s : State) (e c : Nat) (j : Job) : (jobStarted s e c j).works = s.works := by
  simp only [jobStarted, State.modJob, State.modChan, State.setChan, setEngine_works]

/-- A job that needs no unit runs at once, from the first channel where one is eligible. -/
theorem dispatch_none {s : State} {e c : Nat} {j : Job} (hfirst : (List.range 32).find? (fun c => (s.eligible e c .none).isSome) = some c)
    (helig : s.eligible e c .none = some j) (hvalid : j.valid = true) (hquota : s.getF F.deChCfg_quota e c = 0) : s.dispatch e .none = jobStarted s e c j := by
  simp only [State.dispatch, hfirst, helig, hvalid, hquota, ne_eq, not_true_eq_false, false_and, if_false, if_true, Option.map_some, or_true, Bool.not_true, Bool.false_eq_true]
  rw [foldl_eq_self (fun _ _ => rfl), jobStarted]

/-! ### The end of a job -/

/-- What an operation does to an engine, and the completion records of its channel with it. -/
def jobMeaning (de : Fin 2) (ch : Fin 32) (f : State → State) (s : State) : State := (f s).chanPump de.val ch.val

/-- A job's command ends with what its operation makes of the state, and with the completion records of the channel. -/
theorem ends_of_job {cmd : Instr} {s t u : State} {r : Run} {de : Fin 2} {ch : Fin 32} {f : State → State}
    (hserved : Served cmd s s (deStop de.val) 0 (jobMeaning de ch f)) (hr : r = RunOf s (deStop de.val) 0 cmd) (ht : f (AtWork s r) = t) (hu : u = t.chanPump de.val ch.val) :
    Ends cmd s r u := by
  refine ends_of_served hserved hr ?_
  rw [jobMeaning, ht, hu]

section
variable (de : Fin 2) (ch : Fin 32) (index : BitVec 16) (s : State)

/-- What NOP does: the job of its index ends. -/
def nopJob (e c index : Nat) (s : State) : State :=
  match s.findJob e c index none 0 with
  | some j => s.jobEnd e c j 0 0 0
  | none => s

theorem nop_served : Served (.nop de ch index) s s (deStop de.val) 0 (jobMeaning de ch (nopJob de.val ch.val index.toNat)) := served_of rfl
theorem copy_served : Served (.copy de ch index) s s (deStop de.val) 0 (jobMeaning de ch (fun s => s.copyJob de.val ch.val index.toNat)) := served_of rfl
theorem fill_served : Served (.fill de ch index) s s (deStop de.val) 0 (jobMeaning de ch (fun s => s.fillJob de.val ch.val index.toNat)) := served_of rfl
theorem compress_served : Served (.compress de ch index) s s (deStop de.val) 0 (jobMeaning de ch (fun s => s.compressJob de.val ch.val index.toNat)) := served_of rfl
theorem decompress_served : Served (.decompress de ch index) s s (deStop de.val) 0 (jobMeaning de ch (fun s => s.decompressJob de.val ch.val index.toNat)) := served_of rfl
theorem collate_served : Served (.collate de ch index none) s s (deStop de.val) 0 (jobMeaning de ch (fun s => s.collate de.val ch.val index.toNat none)) := served_of rfl

end

section
variable {v t : State} {e c index : Nat} {j : Job}

theorem nopJob_of_found (hj : v.findJob e c index none 0 = some j) : nopJob e c index v = v.jobEnd e c j 0 0 0 := by rw [nopJob, hj]

section
variable {code : Nat} {po : Bool} (hj : v.findJob e c index none 1 = some j)
  (hcopy : v.copyRange (v.chanWid e c) (j.srcLen / 64 + 2) j.src j.dst j.srcLen = (code, po, t))
include hj hcopy

theorem copyJob_of_copied (hcode : code = 0) : v.copyJob e c index = t.jobEnd e c j (if po then 0x0A else 0) (j.srcLen + j.srcLen * 2 ^ 32) 0 := by
  simp only [State.copyJob, hj, hcopy, hcode, ne_eq, not_true_eq_false, if_false]

/-- A COPY whose access fails leaves its destination unspecified (R337). -/
theorem copyJob_of_failed (hcode : code ≠ 0) :
    v.copyJob e c index = (t.unspecify (v.chanWid e c) (j.srcLen / 64 + 2) j.dst j.srcLen).jobFail e c j code := by
  simp only [State.copyJob, hj, hcopy, hcode, ne_eq, not_false_eq_true, if_true]

end

theorem fillJob_of_written (hj : v.findJob e c index none 2 = some j)
    (hwrite : v.jobWrite (v.chanWid e c) j.dst ((List.range j.dstLimit).map (fun i => (j.word 5).toNat / 256 ^ (i % 8) % 256)) = (0, t)) :
    v.fillJob e c index = t.jobEnd e c j 0 j.dstLimit 0 := by
  simp only [State.fillJob, hj, hwrite, ne_eq, not_true_eq_false, if_false]

/-- A COMPRESS whose result fits in its destination is written and completes. -/
theorem compressJob_of_fits {u : State} {src out : List Nat} (hj : v.findJob e c index none 3 = some j) (hdst : j.dstLimit ≠ 0)
    (hread : v.jobRead (v.chanWid e c) j.src j.srcLen = (0, src, t)) (hfits : out.length ≤ j.dstLimit)
    (hout : out = compressed (j.ctl 8 4) (j.ctl 12 4) (j.ctl 16 3) (j.ctl 20 2) (j.ctl 19 1 == 1) src) (hwrite : t.jobWrite (v.chanWid e c) j.dst out = (0, u)) :
    v.compressJob e c index = u.jobEnd e c j 0 (out.length + j.srcLen * 2 ^ 32) (crc32c src) := by
  simp only [State.compressJob, hj, hdst, hread, ← hout, Nat.not_lt.mpr hfits, hwrite, ne_eq, not_true_eq_false, if_false]

section
variable {u : State} {src : List Nat} {d : Decoded} (hj : v.findJob e c index none 4 = some j) (hsrc : j.srcLen ≠ 0)
  (hread : v.jobRead (v.chanWid e c) j.src j.srcLen = (0, src, t)) (hd : d = decompressed (j.ctl 8 4) j.dstLimit src)
  (hwrite : t.jobWrite (v.chanWid e c) j.dst (d.out.take j.dstLimit) = (0, u))
include hj hsrc hread hd hwrite

theorem decompressJob_of_decoded (hstatus : d.status = 0) :
    v.decompressJob e c index = u.jobEnd e c j 0 (d.out.length + d.used * 2 ^ 32) (crc32c d.out) := by
  simp only [State.decompressJob, hj, hsrc, hread, ← hd, hwrite, hstatus, ne_eq, not_true_eq_false, false_and, if_false]

theorem decompressJob_of_broken (hstatus : d.status ≠ 0) : v.decompressJob e c index = u.compactFail e c j d.status := by
  simp only [State.decompressJob, hj, hsrc, hread, ← hd, hwrite, hstatus, ne_eq, not_true_eq_false, not_false_eq_true, false_and, if_false, if_true]

end

/-- A COLLATE that compares nothing, chains nothing and checks no alive counter completes with its check's value (R343). -/
theorem collate_of_plain {src : List Nat} (hj : v.findJob e c index none 5 = some j) (hmode : j.ctl 32 2 = 0) (hcompare : j.ctl 28 1 = 0) (hchain : j.ctl 31 1 = 0)
    (hread : v.jobRead (v.chanWid e c) j.src j.srcLen = (0, src, t)) : v.collate e c index none =
    t.jobEnd e c j 0 (crcRun j.crcSet (j.crcSet.init % 2 ^ j.crcSet.width) src) (crcValue j.crcSet (crcRun j.crcSet (j.crcSet.init % 2 ^ j.crcSet.width) src)) := by
  simp only [State.collate, hj, hmode, hcompare, hchain, hread, Nat.zero_ne_one, ne_eq, not_true_eq_false, false_and, and_false, if_false, Bool.not_true, Bool.false_eq_true]

end

/-- Settles O29: a fetch by what the ring and memory hold, a dispatch by the first eligible job, and each operation by what its accesses are answered. -/
theorem engineJobs : Obligations.EngineJobs := by
  refine ⟨?fetched, ?unread, jobDispatch_served, ?dispatched, ?nop, ?copy, ?fill, ?compress, ?decompress, ?collate⟩
  case fetched =>
    intro de ch s s1 r ws hr hon herr hreset hmore hread
    obtain ⟨hindex, hwords, htime⟩ := routed_fields (fetchedJob s (s.rHead (deRing de.val ch.val)) ws)
    exact ⟨_, hindex, hwords, htime, ends_of_served (descriptorFetch_served de ch s) hr (fetchDesc_of_read (v := AtWork s r) hon herr hreset hmore hread)⟩
  case unread =>
    intro de ch s s1 r hr hon herr hreset hmore hread
    exact ends_of_served (descriptorFetch_served de ch s) hr (fetchDesc_of_unread (v := AtWork s r) hon herr hreset hmore hread)
  case dispatched =>
    intro de c s j hfirst helig hvalid hquota
    have hdispatch := dispatch_none hfirst helig hvalid hquota
    have hserved := jobDispatch_served de .none s
    rw [hdispatch] at hserved
    refine ends_of_served hserved ?_ rfl
    rw [RunOf, RunOf, jobStarted_works]
  case nop =>
    intro de ch index s v r j hr hv hj
    subst hv
    exact ends_of_job (nop_served de ch index s) hr (nopJob_of_found hj) rfl
  case copy =>
    intro de ch index s s1 r j code po hr hj hcopy
    exact ⟨fun hcode => ends_of_job (copy_served de ch index s) hr (copyJob_of_copied (v := AtWork s r) hj hcopy hcode) rfl,
      fun hcode => ends_of_job (copy_served de ch index s) hr (copyJob_of_failed (v := AtWork s r) hj hcopy hcode) rfl⟩
  case fill =>
    intro de ch index s s1 r j hr hj hwrite
    exact ends_of_job (fill_served de ch index s) hr (fillJob_of_written (v := AtWork s r) hj hwrite) rfl
  case compress =>
    intro de ch index s s1 s2 r j src out hr hj hdst hread hfits hout hwrite
    exact ends_of_job (compress_served de ch index s) hr (compressJob_of_fits (v := AtWork s r) hj hdst hread hfits hout hwrite) rfl
  case decompress =>
    intro de ch index s s1 s2 r j src d hr hj hsrc hread hd hwrite
    exact ⟨fun hstatus => ends_of_job (decompress_served de ch index s) hr (decompressJob_of_decoded (v := AtWork s r) hj hsrc hread hd hwrite hstatus) rfl,
      fun hstatus => ends_of_job (decompress_served de ch index s) hr (decompressJob_of_broken (v := AtWork s r) hj hsrc hread hd hwrite hstatus) rfl⟩
  case collate =>
    intro de ch index s s1 r j src hr hj hmode hcompare hchain hread
    exact ends_of_job (collate_served de ch index s) hr (collate_of_plain (v := AtWork s r) hj hmode hcompare hchain hread) rfl

end Sys2Proof.Proofs
end

section
/-! SUPPORT. The host ports (R353, R356, R357, R360 to R362, R364, R365): what a link's events do, what answers a request that is outstanding, and what an inbound access of a live root port does. A
completion, a timeout and an inbound access are commands of an agent that memory answers (log entry 26); the order of a freeze is log entry 50. -/
namespace Sys2Proof.Proofs

open Sys2Proof.Machine Sys2Proof.Laws

/-! ### Ports and links -/

section
variable (s : State) (k : Nat) (g : Hp → Hp)

theorem modHp_regs : (s.modHp k g).regs = s.regs := rfl
theorem modHp_mem : (s.modHp k g).mem = s.mem := rfl
theorem modHp_harts : (s.modHp k g).harts = s.harts := rfl
theorem modHp_works : (s.modHp k g).works = s.works := rfl
theorem modHp_cursor : (s.modHp k g).cursor = s.cursor := rfl

end

/-- HP0 is enabled where it was not: it trains (R356). -/
theorem exec_hpPortEnable_of_enabled {w : Issuer} {v : Word} {s s1 : State} (hreach : s.reachable .hp 0 = true) (hwid : s.issuerWid w = 0)
    (hwas : s.isF F.hpPortCfg_enable 0 0 = false) (hs1 : s1 = s.writeReg .hpPortCfg 0 0 v allBytes) (hnow : s1.isF F.hpPortCfg_enable 0 0 = true) :
    exec (.hpPortEnable w 0 v) s = .next ((s1.hpTrain 0).accept w (Place.hp.stopOf 0)) := by
  subst hs1
  have hport : ((0 : Fin 2) : Nat) = 0 := rfl
  show execHpPortEnable w 0 v s = _
  rw [execHpPortEnable, hport, keeperAt_of_may hreach hwid]
  simp only [hwas, hnow, Nat.zero_ne_one, Bool.not_false, Bool.and_self, if_false, if_true]

/-- What a root port's link takes with DL_Active (R365). -/
def linkTaken (s : State) (k j width rate : Nat) (flit : Bool) : State :=
  (((s.setF F.hpRcStatus_dlActive k j 1).setF F.hpRcStatus_width k j width).setF F.hpRcStatus_rate k j rate).setF F.hpRcStatus_flit k j flit.toNat

section
variable (s : State) (k j width rate : Nat) (flit : Bool)

theorem linkTaken_dlActive : (linkTaken s k j width rate flit).isF F.hpRcStatus_dlActive k j = true := by
  have hkept : (linkTaken s k j width rate flit).getF F.hpRcStatus_dlActive k j = (s.setF F.hpRcStatus_dlActive k j 1).getF F.hpRcStatus_dlActive k j := by
    rw [linkTaken, getF_setF_field _ F.hpRcStatus_flit F.hpRcStatus_dlActive _ _ _ rfl (.inr (by decide)),
      getF_setF_field _ F.hpRcStatus_rate F.hpRcStatus_dlActive _ _ _ rfl (.inr (by decide)), getF_setF_field _ F.hpRcStatus_width F.hpRcStatus_dlActive _ _ _ rfl (.inr (by decide))]
  exact (congrArg (· == 1) hkept).trans (isF_setF_same s F.hpRcStatus_dlActive k j 1 (by decide))

theorem linkTaken_width : (linkTaken s k j width rate flit).getF F.hpRcStatus_width k j = width % 8 := by
  rw [linkTaken, getF_setF_field _ F.hpRcStatus_flit F.hpRcStatus_width _ _ _ rfl (.inr (by decide)),
    getF_setF_field _ F.hpRcStatus_rate F.hpRcStatus_width _ _ _ rfl (.inr (by decide))]
  exact getF_setF_same _ F.hpRcStatus_width k j width (by decide)

theorem linkTaken_rate : (linkTaken s k j width rate flit).getF F.hpRcStatus_rate k j = rate % 16 := by
  rw [linkTaken, getF_setF_field _ F.hpRcStatus_flit F.hpRcStatus_rate _ _ _ rfl (.inr (by decide))]
  exact getF_setF_same _ F.hpRcStatus_rate k j rate (by decide)

theorem linkTaken_flit : (linkTaken s k j width rate flit).isF F.hpRcStatus_flit k j = flit := by
  refine (isF_setF_same _ F.hpRcStatus_flit k j flit.toNat (by decide)).trans ?_
  cases flit
  · rfl
  · rfl

theorem linkTaken_mem : (linkTaken s k j width rate flit).mem = s.mem := by simp only [linkTaken, setF_mem]
theorem linkTaken_harts : (linkTaken s k j width rate flit).harts = s.harts := by simp only [linkTaken, setF_harts]

end

/-- A training link of a root port reaches DL_Active. -/
theorem exec_pcieLinkUp_of_training {hp : Fin 2} {rp : Fin 4} {s : State} (htraining : (s.hp hp.val).training.getLsbD rp.val = true) (hroot : s.endpoint hp.val = false)
    (width : Fin 5) (rate : Fin 7) (flit : Bool) : exec (.pcieLinkUp hp rp width rate flit) s =
    .next (linkTaken (s.modHp hp.val (fun h => { h with training := h.training &&& ~~~(1#4 <<< rp.val) })) hp.val rp.val width.val
      (min rate.val (s.getF F.hpPortCfg_maxRate hp.val 0)) flit) := by
  show execPcieLinkUp hp rp width rate flit s = _
  simp only [execPcieLinkUp, htraining, hroot, Bool.not_true, Bool.false_eq_true, if_false]
  rfl

section
variable {hp : Fin 2} {rp : Fin 4} {s : State}

section
variable (hroot : s.endpoint hp.val = false)
include hroot

theorem exec_pcieLinkDown_of_root (hactive : s.isF F.hpRcStatus_dlActive hp.val rp.val = true) : exec (.pcieLinkDown hp rp) s = .next (s.freezeRp hp.val rp.val 3) := by
  show execPcieLinkDown hp rp s = _
  simp only [execPcieLinkDown, hroot, hactive, Bool.false_eq_true, if_false, if_true]

theorem exec_pcieErrorReceived_fatal_of_root : exec (.pcieErrorReceived hp rp .fatal) s = .next (s.freezeRp hp.val rp.val 1) := by
  show execPcieErrorReceived hp rp .fatal s = _
  simp only [execPcieErrorReceived, hroot, Bool.false_eq_true, if_false]

theorem exec_pciePllLoss_of_root :
    exec (.pciePllLoss hp) s = .next ((List.range 4).foldl (fun s j => s.freezeRp hp.val j 7) (s.setF F.hpPortStatus_pllLocked hp.val 0 0)) := by
  show execPciePllLoss hp s = _
  simp only [execPciePllLoss, hroot, Bool.false_eq_true, if_false]

end

section
variable (hend : s.endpoint hp.val = true)
include hend

theorem exec_pcieLinkDown_of_endpoint : exec (.pcieLinkDown hp rp) s = .next s.epDown := if_pos hend

theorem exec_pciePllLoss_of_endpoint : exec (.pciePllLoss hp) s = .next (s.setF F.hpPortStatus_pllLocked hp.val 0 0).epDown := if_pos hend

end

/-! ### Freezing -/

section
variable {w : Issuer} {v : Word} (hreach : s.reachable .hp hp.val = true) (hwid : s.issuerWid w = 0) (hen : s.rpEnabled hp.val rp.val = true)
include hreach hwid hen

theorem exec_freeze_of_asked (hfreeze : v.getLsbD 9 = true) : exec (.freeze w hp rp v) s =
    .next (((s.writeReg .hpRcCtrl hp.val rp.val v allBytes).freezeRp hp.val rp.val 6).accept w (Place.hp.stopOf hp.val)) := by
  show execFreeze w hp rp v s = _
  rw [execFreeze, keeperAt_of_may hreach hwid]
  simp only [hen, hfreeze, Bool.not_true, Bool.false_eq_true, if_false, if_true]

/-- A frozen root port is released, its counts clear and its link trains (R364). -/
theorem exec_releaseFreeze_of_frozen (hrelease : v.getLsbD 8 = true) (hfreeze : v.getLsbD 9 = false)
    (hfrozen : (s.writeReg .hpRcCtrl hp.val rp.val v allBytes).frozenRp hp.val rp.val = true) : exec (.releaseFreeze w hp rp v) s =
    .next ((((((s.writeReg .hpRcCtrl hp.val rp.val v allBytes).setF F.hpRcStatus_frozen hp.val rp.val 0).setF F.hpRcStatus_discardedWrites hp.val rp.val 0).setF
      F.hpRcStatus_allOnesReads hp.val rp.val 0).modHp hp.val (fun h => { h with training := h.training ||| (1#4 <<< rp.val) })).accept w (Place.hp.stopOf hp.val)) := by
  show execReleaseFreeze w hp rp v s = _
  rw [execReleaseFreeze, keeperAt_of_may hreach hwid]
  simp only [hen, hrelease, hfreeze, hfrozen, Bool.not_true, Bool.or_self, Bool.false_eq_true, if_false]

end

end

/-! ### Requests that are outstanding -/

section
variable {hp : Fin 2} {tag : BitVec 14} {st : CplStatus} {po : Bool} {d : BitVec 4096} {s : State}

theorem pcieCompletion_served (htaken : s.takenBy hp.val tag.toNat (.pcieCompletion hp tag st po d) = false) :
    Served (.pcieCompletion hp tag st po d) s s (hpStop hp.val) 0 (fun s => s.completed hp.val tag.toNat st po d) := by
  refine served_of ?_
  show execPcieCompletion hp tag st po d s = _
  simp only [execPcieCompletion, htaken, Bool.false_eq_true, if_false]

theorem pcieCompletionTimeout_served (htaken : s.takenBy hp.val tag.toNat (.pcieCompletionTimeout hp tag) = false) :
    Served (.pcieCompletionTimeout hp tag) s s (hpStop hp.val) 0 (fun s => s.timedOut hp.val tag.toNat) := by
  refine served_of ?_
  show execPcieCompletionTimeout hp tag s = _
  simp only [execPcieCompletionTimeout, htaken, Bool.false_eq_true, if_false]

/-- A request that another command has taken is accounted for by it alone: the completion is unexpected. -/
theorem exec_pcieCompletion_of_taken (htaken : s.takenBy hp.val tag.toNat (.pcieCompletion hp tag st po d) = true) :
    exec (.pcieCompletion hp tag st po d) s = .next (s.incSat F.hpPortStatus_unexpCpl hp.val 0) := if_pos htaken

end

/-- Where nothing is under way, nothing has taken a request. -/
theorem takenBy_of_no_works {s : State} (hworks : s.works = []) (k tag : Nat) (c : Instr) : s.takenBy k tag c = false := by
  rw [State.takenBy, hworks, List.any_nil]

/-- The state with no agent's command under way. -/
def idleAgents (s : State) : State := { s with cursor := {}, works := [] }

/-- What ends with no command under way leaves none. -/
theorem endWork_of_no_works {u : State} (hworks : u.works = []) (r : Run) : EndWork u r = idleAgents u := by
  rw [EndWork, hworks, List.erase_nil, idleAgents]

/-- A request answered by one packet at its port, its command's record gone. -/
theorem idleAgents_replied (s : State) (r : Run) (k : Nat) (g : Hp → Hp) (q : Packet) :
    idleAgents (((AtWork s r).modHp k g).send q) = idleAgents ((s.modHp k g).send q) := rfl

/-- The outcome of a PCIe completion goes to the requester in one packet (R357). -/
theorem exists_hpReply_packet (k : Nat) (p : Packet) (st : CplStatus) (po : Bool) (d : Nat) : ∃ q, ∀ s : State, s.hpReply k p st po d = s.send q := by
  cases st with
  | ok =>
    by_cases hread : (p.opcode == Opc.ioRead) = true
    · exact ⟨_, fun s => if_pos hread⟩
    · exact ⟨_, fun s => if_neg hread⟩
  | ur =>
    by_cases hcfg : (decide ((p.sec * 64 + p.ioOffset) % 2 ^ 47 < 2 ^ 28) && p.opcode == Opc.ioRead) = true
    · exact ⟨_, fun s => if_pos hcfg⟩
    · exact ⟨_, fun s => if_neg hcfg⟩
  | ca => exact ⟨_, fun s => rfl⟩

section
variable {hp : Fin 2} {tag : BitVec 14} {s : State} {o : OutReq} {p : Packet} (hworks : s.works = [])
include hworks

/-- A command that answers with one packet leaves no agent at work, and its port without the request. -/
theorem exec_of_replied {c : Instr} {f : State → State} {g : Hp → Hp} {q : Packet} (hserved : Served c s s (hpStop hp.val) 0 f)
    (hf : ∀ r, f (AtWork s r) = ((AtWork s r).modHp hp.val g).send q) : exec c s = .next (idleAgents ((s.modHp hp.val g).send q)) := by
  obtain ⟨hend, -, -⟩ := hserved _ _ rfl (hf _).symm
  have hgone : (((AtWork s (RunOf s (hpStop hp.val) 0 c)).modHp hp.val g).send q).works = [] := by rw [send_works, modHp_works, ← hworks, AtWork]
  rw [hend ⟨runOf_next_of_no_works hworks .., by rw [send_cursor, modHp_cursor, AtWork]⟩, endWork_of_no_works hgone, idleAgents_replied]

section
variable (hfind : (s.hp hp.val).outst.find? (fun o => o.tag == tag.toNat) = some o) (hkind : o.kind = .fabric p)
include hfind hkind

/-- A completion answers the fabric request that it belongs to. -/
theorem exec_pcieCompletion_of_fabric (st : CplStatus) (d : BitVec 4096) : exec (.pcieCompletion hp tag st false d) s =
    .next (idleAgents ((s.modHp hp.val (fun h => { h with outst := h.outst.erase o })).hpReply hp.val p st false d.toNat)) := by
  obtain ⟨q, hq⟩ := exists_hpReply_packet hp.val p st false d.toNat
  rw [hq]
  refine exec_of_replied hworks (pcieCompletion_served (takenBy_of_no_works hworks ..)) fun r => ?_
  have hfindAt : ((AtWork s r).hp hp.val).outst.find? (fun o => o.tag == tag.toNat) = some o := hfind
  simp only [State.completed, hfindAt, hkind, Bool.false_and, Bool.false_eq_true, if_false]
  rw [hq]

/-- A request that times out is answered with TIMEOUT where CONTAIN_CTO does not freeze its port. -/
theorem exec_pcieCompletionTimeout_of_fabric (hcontain : s.isF F.hpRcCtrl_containCto hp.val o.rp = false) : exec (.pcieCompletionTimeout hp tag) s =
    .next (idleAgents ((s.modHp hp.val (fun h => { h with outst := h.outst.erase o })).hpErr hp.val p Err.timeout)) := by
  refine exec_of_replied hworks (pcieCompletionTimeout_served (takenBy_of_no_works hworks ..)) fun r => ?_
  have hfindAt : ((AtWork s r).hp hp.val).outst.find? (fun o => o.tag == tag.toNat) = some o := hfind
  have hcontainAt : (AtWork s r).isF F.hpRcCtrl_containCto hp.val o.rp = false := hcontain
  simp only [State.timedOut, hfindAt, hkind, hcontainAt, Bool.false_and, Bool.false_eq_true, if_false]
  rfl

end

end

theorem atWork_incSat (s : State) (r : Run) (f : Fld) (u i : Nat) : (AtWork s r).incSat f u i = AtWork (s.incSat f u i) r :=
  (apply_ite (fun t => AtWork t r) (s.getF f u i = 2 ^ f.width - 1) s (s.setF f u i (s.getF f u i + 1))).symm

/-- With nothing outstanding a completion is unexpected, and counted. -/
theorem exec_pcieCompletion_of_none {hp : Fin 2} {s : State} (hworks : s.works = []) (hnone : (s.hp hp.val).outst = []) (tag : BitVec 14) (st : CplStatus) (po : Bool)
    (d : BitVec 4096) : ∃ r, exec (.pcieCompletion hp tag st po d) s = .next (EndWork (AtWork (s.incSat F.hpPortStatus_unexpCpl hp.val 0) r) r) := by
  have hf (r : Run) : (AtWork s r).completed hp.val tag.toNat st po d = AtWork (s.incSat F.hpPortStatus_unexpCpl hp.val 0) r := by
    have hnoneAt : ((AtWork s r).hp hp.val).outst = [] := hnone
    simp only [State.completed, hnoneAt, List.find?_nil, atWork_incSat]
  obtain ⟨hend, -, -⟩ := pcieCompletion_served (takenBy_of_no_works hworks ..) _ _ rfl (hf _).symm
  exact ⟨_, hend ⟨runOf_next_of_no_works hworks .., rfl⟩⟩

theorem endWork_atWork_parts (u : State) (r : Run) : (EndWork (AtWork u r) r).regs = u.regs ∧ (EndWork (AtWork u r) r).outq = u.outq ∧
    (EndWork (AtWork u r) r).mem = u.mem ∧ (EndWork (AtWork u r) r).harts = u.harts := ⟨rfl, rfl, rfl, rfl⟩

/-! ### Inbound accesses -/

/-- What an inbound command does at its turn (R361). -/
def atTurn (c : Instr) (f : State → State) (s : State) : State := if s.turnHeld c then (s.coh .turn).2 else f s

theorem atTurn_of_free {c : Instr} {s : State} (hfree : s.turnHeld c = false) (f : State → State) : atTurn c f s = f s := by
  rw [atTurn, hfree, if_neg Bool.false_ne_true]

/-- An inbound command whose turn has come ends with what its access does. -/
theorem ends_of_inbound {c : Instr} {s u : State} {k : Nat} {r : Run} {f : State → State} (hserved : Served c s s (hpStop k) 0 (atTurn c f))
    (hr : r = RunOf s (hpStop k) 0 c) (hfree : s.turnHeld c = false) (hu : f (AtWork s r) = u) : Ends c s r u :=
  ends_of_served hserved hr ((atTurn_of_free (s := AtWork s r) hfree f).trans hu)

section
variable (hp : Fin 2) (rp : Fin 4) (x : InTlp) (s : State)

theorem pcieInboundRead_served : Served (.pcieInboundRead hp rp x) s s (hpStop hp.val) 0 (atTurn (.pcieInboundRead hp rp x) (fun s => s.inRead hp.val rp.val x)) := served_of rfl

theorem pcieInboundWrite_served (d : BitVec 4096) :
    Served (.pcieInboundWrite hp rp x d) s s (hpStop hp.val) 0 (atTurn (.pcieInboundWrite hp rp x d) (fun s => s.inWrite hp.val rp.val x d)) := served_of rfl

theorem pcieInboundAtomic_served (swap size8 : Bool) (w : Word) : Served (.pcieInboundAtomic hp rp x swap size8 w) s s (hpStop hp.val) 0
    (atTurn (.pcieInboundAtomic hp rp x swap size8 w) (fun s => s.inAtomic hp.val rp.val x swap size8 w)) := served_of rfl

end

section
variable {v : State} {k j : Nat} {x : InTlp} (hlive : v.inLive k j = true) (hsup : x.unsupported = false)
include hlive hsup

theorem inRead_of_endpoint (hend : v.endpoint k = true) : v.inRead k j x = v.epRead x := by
  simp only [State.inRead, hlive, hsup, hend, Bool.not_true, Bool.false_eq_true, if_false, if_true]

theorem inWrite_of_endpoint (d : BitVec 4096) (hend : v.endpoint k = true) : v.inWrite k j x d = v.epWrite x (d.toNat % 2 ^ (8 * x.len.toNat)) := by
  simp only [State.inWrite, hlive, hsup, hend, Bool.not_true, Bool.false_and, Bool.false_eq_true, if_false, if_true]

section
variable (hroot : v.endpoint k = false) (hmem : inMemory x.addr.toNat = true)
include hroot hmem

theorem inRead_of_memory : v.inRead k j x = v.inMemRead k (v.inWid k x.rid.toNat) x.addr.toNat x := by
  simp only [State.inRead, hlive, hsup, hroot, hmem, Bool.not_true, Bool.false_eq_true, if_false, if_true]

theorem inWrite_of_memory (d : BitVec 4096) :
    v.inWrite k j x d = v.inMemWrite k (v.inWid k x.rid.toNat) x.addr.toNat x (d.toNat % 2 ^ (8 * x.len.toNat)) := by
  simp only [State.inWrite, hlive, hsup, hroot, hmem, Bool.not_true, Bool.false_and, Bool.false_eq_true, if_false, if_true]

/-- An aligned atomic of 8 bytes is completed with what it found (R131, R354). -/
theorem inAtomic_of_answered {t : State} {swap : Bool} {w : Word} {d : Sector} {po : Bool} (halign : x.addr.toNat % 8 = 0)
    (hatomic : v.cohAtomic (v.inWid k x.rid.toNat) (x.addr.toNat / 64) (if swap then 1 else 2) (x.addr.toNat % 64) 8 (w.toNat % 2 ^ 64) = (.data d po, t)) :
    v.inAtomic k j x swap true w = t.tlp k (inCpl x x.addr.toNat 8 (sectorBytes d (x.addr.toNat % 64) 8) .ok po) := by
  have hword : w.toNat % 2 ^ (8 * 8) = w.toNat % 2 ^ 64 := rfl
  simp only [State.inAtomic, hlive, hsup, hroot, hmem, halign, hword, hatomic, Bool.not_true, bne_self_eq_false, Bool.or_self, Bool.false_eq_true, if_false, if_true]

end

end

/-- Settles O30: links by their role and state, a request by the packet that answers it, and an inbound access by its turn and its port's role. -/
theorem hostPorts : Obligations.HostPorts := by
  refine ⟨fun _ _ _ _ hreach hwid hwas hs1 hnow => exec_hpPortEnable_of_enabled hreach hwid hwas hs1 hnow, ?linkUp, ?root,
    fun _ _ _ hend => ⟨exec_pcieLinkDown_of_endpoint hend, exec_pciePllLoss_of_endpoint hend⟩, ?freeze, ?answered,
    fun _ _ _ _ _ _ htaken => pcieCompletion_served htaken, fun _ _ _ htaken => pcieCompletionTimeout_served htaken,
    fun _ _ _ _ _ _ htaken => exec_pcieCompletion_of_taken htaken, ?unexpected, ?inbound, ?atomic⟩
  case linkUp =>
    intro hp rp width rate flit s htraining hroot
    refine ⟨_, exec_pcieLinkUp_of_training htraining hroot width rate flit, linkTaken_dlActive .., (linkTaken_width ..).trans (Nat.mod_eq_of_lt (by omega)),
      (linkTaken_rate ..).trans (Nat.mod_eq_of_lt (by omega)), linkTaken_flit .., ?_, ?_⟩
    · rw [linkTaken_mem, modHp_mem]
    · rw [linkTaken_harts, modHp_harts]
  case root =>
    exact fun _ _ _ hroot => ⟨exec_pcieLinkDown_of_root hroot, exec_pcieErrorReceived_fatal_of_root hroot, exec_pciePllLoss_of_root hroot⟩
  case freeze =>
    intro w hp rp v s s1 hreach hwid hen hs1
    subst hs1
    exact ⟨exec_freeze_of_asked hreach hwid hen, exec_releaseFreeze_of_frozen hreach hwid hen⟩
  case answered =>
    intro hp tag st d s o p hworks hfind hkind
    refine ⟨?_, ?_⟩
    · intro u hu
      exact ⟨_, exec_pcieCompletion_of_fabric hworks hfind hkind st d, hu ▸ rfl⟩
    · intro hcontain u hu
      exact ⟨_, exec_pcieCompletionTimeout_of_fabric hworks hfind hkind hcontain, hu ▸ rfl⟩
  case unexpected =>
    intro hp tag st po d s hworks hnone
    obtain ⟨r, hexec⟩ := exec_pcieCompletion_of_none hworks hnone tag st po d
    obtain ⟨hregs, houtq, hmem, hharts⟩ := endWork_atWork_parts (s.incSat F.hpPortStatus_unexpCpl hp.val 0) r
    exact ⟨_, hexec, hregs, houtq.trans (standing_outq.incSat ..), hmem.trans (standing_mem.incSat ..), hharts.trans (standing_harts.incSat ..)⟩
  case inbound =>
    intro hp rp x d s v r hlive hsup
    refine ⟨?_, ?_⟩
    · intro hr hv hfree
      subst hv
      exact ⟨fun hend => ends_of_inbound (pcieInboundRead_served hp rp x s) hr hfree (inRead_of_endpoint (v := AtWork s r) hlive hsup hend),
        fun hroot hmem => ends_of_inbound (pcieInboundRead_served hp rp x s) hr hfree (inRead_of_memory (v := AtWork s r) hlive hsup hroot hmem)⟩
    · intro hr hv hfree
      subst hv
      exact ⟨fun hend => ends_of_inbound (pcieInboundWrite_served hp rp x s d) hr hfree (inWrite_of_endpoint (v := AtWork s r) hlive hsup d hend),
        fun hroot hmem => ends_of_inbound (pcieInboundWrite_served hp rp x s d) hr hfree (inWrite_of_memory (v := AtWork s r) hlive hsup hroot hmem d)⟩
  case atomic =>
    intro hp rp x swap w s s1 r d po hr hfree hlive hroot hsup hmem halign hatomic
    exact ends_of_inbound (pcieInboundAtomic_served hp rp x s swap true w) hr hfree (inAtomic_of_answered (v := AtWork s r) hlive hsup hroot hmem halign hatomic)

end Sys2Proof.Proofs
end

section
/-! SUPPORT. The host's queues and functions (R368 to R370, R373 to R375, R415, R540): who writes what a virtual function shows, what a translation and an invalidation do to the cache, and what the host's
Bus Master Enable, resets and PERST leave. A queue's row, a translation and the end of an FLR are commands of an agent that memory answers (log entry 26); the PF's reset is log entry 51. -/
namespace Sys2Proof.Proofs

open Sys2Proof.Machine Sys2Proof.Laws

/-! ### Writes of HP0's registers -/

/-- The Keeper or the virtual function's world writes its aperture, or is shown that it does not fit (R368). -/
theorem exec_hpViAperWrite_of_may {w : Issuer} {i : Fin 62} {s : State} (hreach : s.reachable .hp 0 = true) (hinst : 1 ≤ i.val)
    (hmay : s.issuerWid w = 0 ∨ (s.created i.val = true ∧ s.issuerWid w = s.getF F.hpViCfg_wid 0 i.val)) (v : Word) : exec (.hpViAperWrite w i v) s =
    .next ((if bitsOf v 16 36 * 65536 % 2 ^ (24 + s.getF F.hpEpCfg_vfBar2Log 0 0) ≠ 0 ∨
        rangeOk (bitsOf v 16 36 * 65536) (2 ^ (24 + s.getF F.hpEpCfg_vfBar2Log 0 0)) = false
      then s.setF F.hpPortStatus_reject 0 0 1 else s.writeReg .hpViAper 0 i.val v allBytes).accept w (Place.hp.stopOf 0)) := by
  have hallowed : (decide (1 ≤ i.val) && (s.issuerWid w == 0 || (s.created i.val && s.issuerWid w == s.getF F.hpViCfg_wid 0 i.val))) = true := by
    simpa only [hinst, decide_true, Bool.true_and, Bool.or_eq_true, Bool.and_eq_true, beq_iff_eq] using hmay
  show execHpViAperWrite w i v s = _
  rw [execHpViAperWrite, guardedAt_of_may hreach hallowed]

theorem exec_hpTqTailWrite_of_keeper {w : Issuer} {s : State} (hreach : s.reachable .hp 0 = true) (hwid : s.issuerWid w = 0) (q : Fin 64) (v : Word) :
    exec (.hpTqTailWrite w q v) s = .next (((s.tailWrite (tqRing q.val) v).ringSync (tqRing q.val) true).accept w (Place.hp.stopOf 0)) := by
  show execHpTqTailWrite w q v s = _
  rw [execHpTqTailWrite]
  exact guardedAt_of_may hreach (by rw [beq_iff_eq.mpr hwid, Bool.true_or]) _

/-! ### Translations -/

theorem translationCompletion_served {tag : BitVec 14} {granted : Bool} {pa : Word} {log : Fin 64} {s : State}
    (htaken : s.takenBy 0 tag.toNat (.translationCompletion tag granted pa log) = false) :
    Served (.translationCompletion tag granted pa log) s s (hpStop 0) 0 (fun s => s.translationIn tag.toNat granted pa log.val) := by
  refine served_of ?_
  show execTranslationCompletion tag granted pa log s = _
  simp only [execTranslationCompletion, htaken, Bool.false_eq_true, if_false]

section
variable {v t : State} {tag log q index i slot : Nat} {pa : Word} {o : OutReq} {j : Job} (hfind : (v.hp 0).outst.find? (fun o => o.tag == tag) = some o)
  (hkind : o.kind = .transl q index) (hkept : o.discard = false) (ht : t = v.modHp 0 (fun h => { h with outst := h.outst.erase o }))
  (howner : t.queueOwner q = some (i, slot)) (hjob : (t.queue q).jobs.find? (fun j => j.index == index && j.transl) = some j)
include hfind hkind hkept ht howner hjob

/-- A granted translation enters the cache, and its job runs (R373). -/
theorem translationIn_of_granted : v.translationIn tag true pa log = (t.modHp 0 (fun h => { h with
    atc := (if h.atc.length < 512 then h.atc else h.atc.drop 1) ++ [{ fn := i, va := o.addr, pa := pa.toNat, log := max 12 log }] })).tqRun q i slot j := by
  subst ht
  simp only [State.translationIn, hfind, hkind, hkept, howner, hjob, Bool.not_true, Bool.false_eq_true, if_false]

theorem translationIn_of_denied : v.translationIn tag false pa log = t.tqFail q i slot j 0x14 := by
  subst ht
  simp only [State.translationIn, hfind, hkind, hkept, howner, hjob, Bool.not_false, Bool.false_eq_true, if_false, if_true]

end

/-- With no read outstanding an invalidation empties what it names and waits for nothing (R373). -/
theorem exec_invalidationRequest_of_idle {i : Fin 62} {s : State} (hroom : (s.vf i.val).inval.length < 32) (hnone : (s.hp 0).outst = []) (addr : Word) (log : Fin 65)
    (itag : BitVec 5) : exec (.invalidationRequest i addr log itag) s = .next (((s.modHp 0 (fun h => { h with
      atc := h.atc.filter (fun e => !(e.fn == i.val && (e.va / 2 ^ max e.log log.val == addr.toNat / 2 ^ max e.log log.val))) })).setVf i.val
      { s.vf i.val with inval := (s.vf i.val).inval ++ [(itag.toNat, [])] }).invalPump i.val) := by
  show execInvalidationRequest i addr log itag s = _
  simp only [execInvalidationRequest, Nat.not_le.mpr hroom, hnone, List.filterMap_nil, if_false]

/-! ### Bus Master Enable -/

section
variable (s : State)

theorem vf_setVf_same (i : Nat) (x : Vf) : (s.setVf i x).vf i = x := get_set_same ..

theorem hp_modHp_same (k : Nat) (g : Hp → Hp) : (s.modHp k g).hp k = g (s.hp k) := get_set_same ..

end

/-- What a function has outstanding is discarded when it comes (R374). -/
def discarded (i : Nat) (o : OutReq) : OutReq :=
  match o.kind with
  | .fabric _ => o
  | _ => if o.fn = i then { o with discard := true } else o

/-- A virtual function that has lost Bus Master Enable. -/
def busMasterLost (s : State) (i : Nat) : State :=
  (s.setVf i { s.vf i with bme := false }).modHp 0 (fun h => { h with outst := h.outst.map (discarded i) })

section
variable (s : State) (i : Nat)

theorem busMasterLost_bme : ((busMasterLost s i).vf i).bme = false := congrArg Vf.bme (vf_setVf_same ..)

theorem busMasterLost_outst : ((busMasterLost s i).hp 0).outst = (s.hp 0).outst.map (discarded i) := by
  rw [busMasterLost, hp_modHp_same]
  rfl

end

theorem exec_busMasterEnableClear_of_vf {i : Fin 62} (hi : i.val ≠ 0) (s : State) : exec (.busMasterEnableClear i) s = .next (busMasterLost s i.val) :=
  if_neg hi

theorem exec_busMasterEnableSet_of_vf {i : Fin 62} {s : State} (hi : i.val ≠ 0) (hreset : s.resetting i.val = false) :
    exec (.busMasterEnableSet i) s = .next ((s.setVf i.val { s.vf i.val with bme := true }).vfPump i.val) := by
  show execBusMasterEnableSet i s = _
  simp only [execBusMasterEnableSet, hi, hreset, Bool.false_eq_true, if_false]

theorem exec_busMasterEnableClear_of_pf (s : State) : exec (.busMasterEnableClear 0) s = .next { s with pf := { s.pf with bme := false } } := rfl

theorem exec_busMasterEnableSet_of_pf (s : State) : exec (.busMasterEnableSet 0) s = .next (State.pfPump { s with pf := { s.pf with bme := true } }) := rfl

/-! ### PERST -/

theorem exec_perstAssert_of_root {s : State} (hroot : s.endpoint 0 = false) : exec .perstAssert s = .next (s.modHp 0 (fun h => { h with perst := true })) :=
  if_neg (hroot ▸ Bool.false_ne_true)

/-- Settles O31: writes by who makes them, queue rows and translations as commands that memory answers, and the host's events by the function or role that they meet. -/
theorem hostQueuesAndFunctions : Obligations.HostQueuesAndFunctions := by
  refine ⟨fun _ _ v _ hreach hinst hmay => exec_hpViAperWrite_of_may hreach hinst hmay v, fun _ q v _ hreach hwid => exec_hpTqTailWrite_of_keeper hreach hwid q v,
    fun _ _ => ⟨served_of rfl, served_of rfl, served_of rfl⟩, ?translation, fun _ addr log itag _ hroom hnone => exec_invalidationRequest_of_idle hroom hnone addr log itag,
    fun s => ⟨_, exec_busMasterEnableClear_of_pf s, rfl, rfl, rfl⟩, ?cleared, fun _ _ hi hreset => exec_busMasterEnableSet_of_vf hi hreset, exec_busMasterEnableSet_of_pf,
    fun _ _ => ⟨rfl, served_of rfl⟩, fun _ => rfl, fun _ hend => if_pos hend, ?perst, fun _ => rfl, ?release⟩
  case translation =>
    intro tag granted pa log s s1 r o q index i slot j hr htaken hfind hkind hkept hs1 howner hjob
    refine ⟨?_, ?_⟩
    · rintro rfl
      exact ends_of_served (translationCompletion_served htaken) hr (translationIn_of_granted (v := AtWork s r) hfind hkind hkept hs1 howner hjob)
    · rintro rfl
      exact ends_of_served (translationCompletion_served htaken) hr (translationIn_of_denied (v := AtWork s r) hfind hkind hkept hs1 howner hjob)
  case cleared => exact fun i s hi => ⟨_, exec_busMasterEnableClear_of_vf hi s, busMasterLost_bme .., rfl, rfl, busMasterLost_outst ..⟩
  case perst => exact fun s hroot => ⟨_, exec_perstAssert_of_root hroot, congrArg Hp.perst (hp_modHp_same ..), rfl, rfl⟩
  case release => exact fun s => ⟨fun hend => if_pos hend, fun hroot => if_neg (hroot ▸ Bool.false_ne_true)⟩

end Sys2Proof.Proofs
end
